-- ==== Sys2Proof/Word.lean ====
section
/-!
DEFINITION. Word.lean: the widths of the DG3's words, bytes and lines, and the sparse tables its state is kept in.
Bit 0 is the least significant bit (R2); a multi-byte field has bits [7:0] in its lowest-addressed byte (R3).
-/

namespace Sys2Proof

/-- A register word (R40). -/
abbrev Word := BitVec 32

/-- A byte. -/
abbrev Byte := BitVec 8

/-- A 64-bit value: a tally, a counter, a shift time. -/
abbrev Dword := BitVec 64

/-- A 128-bit block as AES and GHASH take it: bits [127:120] are byte 0 (R3). -/
abbrev Block := BitVec 128

/-- A 64-byte line, byte 0 in bits [7:0] (R3). -/
abbrev Line := BitVec 512

/-- A line's side-band, 96 bits in full mode, the low 64 used in narrow mode (R113). -/
abbrev Side := BitVec 96

/-- A sparse table: keys strictly rising, an absent key standing for the table's default. -/
abbrev Tab (α : Type) := List (Nat × α)

/-- The entry of key `k`, if listed. -/
def Tab.find {α : Type} : Tab α → Nat → Option α
  | [], _ => none
  | (j, a) :: t, k => if j = k then some a else if k < j then none else Tab.find t k

/-- The entry of key `k`, or `d` when it is not listed. -/
def Tab.getD {α : Type} (t : Tab α) (k : Nat) (d : α) : α := (t.find k).getD d

/-- The table with key `k` holding `v`. -/
def Tab.put {α : Type} : Tab α → Nat → α → Tab α
  | [], k, v => [(k, v)]
  | (j, a) :: t, k, v =>
    if j = k then (k, v) :: t else if k < j then (k, v) :: (j, a) :: t else (j, a) :: Tab.put t k v

/-- The table without key `k`. -/
def Tab.erase {α : Type} : Tab α → Nat → Tab α
  | [], _ => []
  | (j, a) :: t, k => if j = k then t else (j, a) :: Tab.erase t k

/-- The table with the entry of `k` rewritten, an absent one standing at `d`. -/
def Tab.modD {α : Type} (t : Tab α) (k : Nat) (d : α) (f : α → α) : Tab α := t.put k (f (t.getD k d))

/-- The table with the entry of `k` rewritten when it is listed. -/
def Tab.mod {α : Type} (t : Tab α) (k : Nat) (f : α → α) : Tab α :=
  match t.find k with
  | some a => t.put k (f a)
  | none => t

/-- The listed values. -/
def Tab.vals {α : Type} (t : Tab α) : List α := t.map Prod.snd

/-- Keys strictly rising: the canonical form. -/
def Tab.wf {α : Type} (t : Tab α) : Bool :=
  match t with
  | [] => true
  | [_] => true
  | (j, _) :: (k, b) :: r => decide (j < k) && Tab.wf ((k, b) :: r)

end Sys2Proof
end

