-- ==== Sys2Proof/Syntax.lean ====
section
/-!
DEFINITION. Syntax.lean: the commands of the DG3, one constructor of `Instr` for each row of spec/opcode_table.json, with
the operands that the row's event carries from outside the block. What a row's event takes from inside the block (a frame
accepted earlier, a request in flight, an argument register) is in State and is named here only by unit or tag.
-/

namespace Sys2Proof

/-- The apertures of Table 3.9. -/
inductive Aperture where
  | operator
  | part (p : Nat)
  | vf (p v : Nat)
  | lamp
  | debug
  deriving DecidableEq, Repr

/-- What a register access carries beside its address (R40, R41): its size in bytes and its byte enables. -/
structure Access where
  ap   : Aperture
  off  : Nat
  size : Nat
  be   : BitVec 4
  deriving DecidableEq, Repr

/-- A line and its side-band as the hub returns them (R113). -/
structure HubLine where
  data : Line
  side : Side
  deriving DecidableEq, Repr

/-- What the (72,64) decoder of an Inner Store word, a face-cache word or a program word reports (R147). -/
inductive Ecc where
  | clean
  | corrected
  | uncorr
  deriving DecidableEq, Repr

/-- What a sampled lane check yields when the spare and the lane disagree or agree (R132): the three outputs compared. -/
structure Sample where
  lane  : Block
  spare : Block
  third : Block
  deriving DecidableEq, Repr

/-- The shim's HELLO (Table 7.7). -/
structure ShimHello where
  maker    : BitVec 16
  part     : BitVec 16
  rev      : BitVec 16
  version  : Nat
  credits  : Nat
  bytes    : List Byte
  deriving DecidableEq, Repr

/-- The shim's RESPONSE (Table 7.7) with what the public-key engine finds of it. -/
structure ShimResponse where
  unitId      : Dword
  measurement : BitVec 384
  svn         : BitVec 16
  nonceEcho   : BitVec 256
  endorser    : BitVec 384
  chainOk     : Bool
  sigsOk      : Bool
  ssKem       : List Byte
  ssEcdh      : List Byte
  bytes       : List Byte
  deriving DecidableEq, Repr

/-- What the entropy, fuse and self-test hardware and the hub report at the release of dg_por_n (R419, R421). -/
structure StartInputs where
  fuseOk      : Bool
  unitId      : Dword
  identity    : BitVec 256
  bist        : List Nat
  failedQuads : List Nat
  katOk       : Bool
  entropyOk   : Bool
  strap       : BitVec 2
  scrapped    : Bool
  nor         : Option (List Byte)
  sigOk       : Bool
  deriving DecidableEq, Repr

/-- What the self-tests and the NOR report at a warm start (R422, R423). -/
structure WarmInputs where
  failedQuads : List Nat
  katOk       : Bool
  entropyOk   : Bool
  leaseCopy   : Ecc
  nor         : Option (List Byte)
  sigOk       : Bool
  step11Ok    : Bool
  deriving DecidableEq, Repr

/-- What the public-key engine finds of a formation message's two signatures and its key agreement (R215, R219). -/
structure PkVerdict where
  sigsOk : Bool
  ssKem  : List Byte
  ssEcdh : List Byte
  deriving DecidableEq, Repr

/-- A TLP at the host port (R346): its function, its stream when it came under one, and where it points. -/
structure Tlp where
  fn        : Nat
  vf        : Nat
  stream    : Option Nat
  ideOk     : Bool
  posted    : Bool
  toPart    : Nat
  tag       : Nat
  deriving DecidableEq, Repr

/-- A BAR2 access (R344). -/
structure Bar2 where
  part   : Nat
  vf     : Nat
  stream : Option Nat
  write  : Bool
  xlate  : Option (BitVec 52)
  bytes  : List Byte
  mask   : Dword
  tag    : Nat
  deriving DecidableEq, Repr

/-- A migration blob as the host holds it: bytes 0 to 4,431 (Table 13.6), with what the public-key engine finds of it. -/
structure MigBlob where
  sigsOk    : Bool
  ssKem     : List Byte
  ssEcdh    : List Byte
  head      : List Byte
  deriving DecidableEq, Repr

/-- A life-cycle transition request as the host holds it (Table 14.11), and for each signer whether both of its signatures verify. -/
structure Transition where
  bytes  : List Byte
  sigsOk : List Bool
  deriving DecidableEq, Repr

/-- A front-end wait as the hub presents it (R356). -/
structure FrontWait where
  queue : Nat
  part  : Nat
  ctx   : BitVec 16
  fn    : Nat
  node  : Nat
  tally : Nat
  th    : Dword
  deriving DecidableEq, Repr

/-- An SPDM 1.3 request on a DOE instance (R348). -/
inductive SpdmReq where
  | getVersion
  | getCapabilities
  | negotiateAlgorithms
  | getDigests
  | getCertificate (slot : Nat)
  | challenge (nonce : BitVec 256)
  | getMeasurements (index : Nat) (nonce : BitVec 256)
  | keyExchange (ok : Bool)
  | finish (session : Nat) (ok : Bool)
  | heartbeat (session : Nat)
  | keyUpdate (session : Nat)
  | endSession (session : Nat)
  | other (code : Nat)
  deriving DecidableEq, Repr

/-- Which function an FLR resets (Table 13.5). -/
inductive FlrFn where
  | pf0
  | pf (p : Nat)
  | vf (p v : Nat)
  deriving DecidableEq, Repr

/-- The egress points of Table 5.4. -/
inductive EgressPoint where
  | host
  | port (p : Nat)
  | sealPoint (seam : Nat)
  deriving DecidableEq, Repr

/-- Who issues an operation (R225, R234): one site, one mover channel, one face or one Winder task; or a block engine acting
for a host function or a front-end queue. -/
inductive Engine where
  | site (t : Nat)
  | mover (c : Nat)
  | face (f : Nat)
  | task (t : Nat)
  | bar2 (p : Nat)
  | front (q : Nat)
  | block
  deriving DecidableEq, Repr

/-- The units an engine step can reset (Table 16.5). -/
inductive UnitRef where
  | shaft (s : Nat)
  | face (f : Nat)
  | channel (c : Nat)
  | task (t : Nat)
  deriving DecidableEq, Repr

/-- The queue heads that can wait (R292). -/
inductive WaitHead where
  | channel (c : Nat)
  | task (t : Nat)
  | front (q : Nat)
  deriving DecidableEq, Repr

/-- The units of the public-key engine (R389). -/
inductive PkUnit where
  | kem
  | dsa
  | ecdsa
  | ecdh
  deriving DecidableEq, Repr

/-- The commands of the block: the rows of spec/opcode_table.json, in the table's order. -/
inductive Instr where
  -- registers, mailbox, aliased-bit window, update timing (03)
  | registerWrite (a : Access) (v : Word)
  | rcRead (ap : Aperture) (off : Nat)
  | dwFirstWrite (ap : Aperture) (off : Nat) (v : Word)
  | dwComplementWrite (ap : Aperture) (off : Nat) (v : Word)
  | dwWindowExpire (ap : Aperture)
  | mbxSelRead (ap : Aperture) (cls : BitVec 7) (idx : BitVec 24)
  | mbxSelWrite (ap : Aperture) (cls : BitVec 7) (idx : BitVec 24)
  | mbxCaptureDone (ap : Aperture) (ecc : Ecc)
  | mbxDataWrite (ap : Aperture) (k : Nat) (v : Word)
  | aliasWrite (ap : Aperture) (off : Nat) (v : Word)
  | updStrobeGo (ap : Aperture)
  | strobeOutPulseEnd
  | strobeInEdge
  -- seams (04)
  | seamCreate (ap : Aperture) (n : Nat)
  | seamFillDone (n : Nat)
  | seamSeal (ap : Aperture) (n : Nat)
  | sealPoint (n : Nat)
  | seamUnseal (ap : Aperture) (n : Nat)
  | seamRekey (ap : Aperture) (n : Nat)
  | seamRetire (ap : Aperture) (n : Nat)
  | seamDead (n : Nat)
  | seamFree (ap : Aperture) (n : Nat)
  | seamUnfreeze (ap : Aperture) (n : Nat)
  | driftStart (s : Nat)
  | sweepPage (s : Nat) (lines : List HubLine) (ecc : Ecc)
  | periodicDriftDue (n : Nat)
  | rekeyOverrun (n : Nat)
  | budgetWindowClose (n : Nat)
  | writeTokenArrive (n : Nat)
  -- the shaft path (05)
  | shaftRead (s : Nat)
  | counterFetchDone (s : Nat) (blk : Nat) (ecc : Ecc)
  | padReady (s : Nat) (tag : Nat)
  | hubReadReturn (s : Nat) (tag : Nat) (l : HubLine)
  | correctionVerdict (s : Nat)
  | egressRelease (p : Nat) (pt : EgressPoint)
  | shaftWrite (s : Nat)
  | refreshDone (s : Nat) (lines : List HubLine)
  | partialOldLineReturn (s : Nat) (tag : Nat) (l : HubLine)
  | hubWriteAck (s : Nat) (line : Nat)
  | laneSample (c : Nat) (r : Sample)
  -- the Inner Store (06)
  | innerPageAccess (q : Nat) (key : Nat) (ecc : Ecc)
  | scrubWordRead (q : Nat) (word : Nat) (ecc : Ecc)
  | scrubPassEnd (q : Nat)
  | shareZeroDone (s : Nat)
  -- chiplet links (07)
  | siteLinkUp (t : Nat) (cfgOk : Bool)
  | siteLinkDown (t : Nat)
  | frameReceive (t : Nat) (frame : List Byte)
  | reqFrame (t : Nat)
  | dataFrame (t : Nat)
  | siteSlotIssue (t : Nat) (tag : Nat)
  | ctrlHello (t : Nat) (h : ShimHello)
  | ctrlResponse (t : Nat) (r : ShimResponse)
  | ctrlKeyConfirm (t : Nat)
  | ctrlCredit (t : Nat)
  | ctrlReplay (t : Nat)
  | ctrlReplayLost (t : Nat)
  | ctrlReplayFailed (t : Nat)
  | ctrlResync (t : Nat)
  | ctrlRekey (t : Nat)
  | ctrlFlushDone (t : Nat)
  | bringupTimeout (t : Nat)
  | resyncTimeout (t : Nat)
  | tsRestart (ap : Aperture) (t : Nat)
  | tsRekey (ap : Aperture) (t : Nat)
  -- the fabric (08)
  | fabricPortUp (p : Nat)
  | fabricPortDown (p : Nat)
  | codewordReceive (p : Nat) (hdr : BitVec 20) (units : List Block) (bad : Bool)
  | packetTransit (p : Nat)
  | packetDeliver (p : Nat)
  | packetVerdict (p : Nat)
  | helloTimer (p : Nat)
  | helloReceive (p : Nat)
  | announceTimer
  | announceReceive (p : Nat)
  | announceSilent (p : Nat)
  | disputeReceive (p : Nat)
  | routeFailReceive (p : Nat)
  | routeOkReceive (p : Nat)
  | timeSyncTimer
  | timeSyncReceive (p : Nat)
  | slotBoundary (unit : Nat)
  | formStartTimer
  | formStartReceive (p : Nat) (v : PkVerdict)
  | evidenceReceive (p : Nat) (v : PkVerdict)
  | keysReceive (p : Nat) (v : PkVerdict)
  | confirmReceive (p : Nat)
  | formWindowEnd
  | formedReceive (p : Nat) (v : PkVerdict)
  | rejectReceive (p : Nat) (v : PkVerdict)
  | joinedReceive (p : Nat)
  | candidateTimeout
  | joinTimeout
  | joinRetry
  | leaveDomain
  | generationSwitch
  | flowKeyExpire (part : Nat)
  | requestTimeout (tag : Nat)
  | yfRevive (ap : Aperture) (node : Nat)
  -- operations across the fabric (09)
  | homeRequest (q : Nat) (src part tag : Nat)
  | entryFreed (q : Nat) (entry : Nat)
  | ticketLapse (q : Nat) (part no : Nat)
  | lockWaitTimeout (q : Nat) (entry : Nat)
  | answerReceive (tag : Nat)
  | nackReceive (tag : Nat)
  | nackRetry (tag : Nat)
  | fenceComplete (e : Engine) (ctx : BitVec 16)
  | cartEnd (t : Nat) (ctx : BitVec 16)
  | cartEndTimeout (t : Nat) (ctx : BitVec 16)
  | cartPrepare (q : Nat) (src part tag : Nat)
  | cartSolo (q : Nat) (src part tag : Nat)
  | soloTimeout (q : Nat) (issuer cart : Nat)
  | cartVote (tag : Nat)
  | cartSoloVote (tag : Nat)
  | cartDecide (q : Nat) (src part tag : Nat)
  | cartDecided (tag : Nat)
  | cartDecidedWaitExpire (cart : Nat)
  | cartCommit (q : Nat) (src part tag : Nat)
  | cartAbort (q : Nat) (src part tag : Nat)
  | cartDone (tag : Nat)
  | cartQuery (q : Nat) (src part tag : Nat)
  | cartAnswer (tag : Nat)
  | cartMemberTimeout (q : Nat) (issuer cart : Nat)
  | cartQueryRepeat (q : Nat) (issuer cart : Nat)
  | cartLeadTimeout (q : Nat) (issuer cart : Nat)
  | cartAbortEntryExpire (q : Nat) (issuer cart : Nat)
  -- faces (10)
  | faceArm (ap : Aperture) (target : Nat) (tally : BitVec 16)
  | faceDisarm (ap : Aperture) (target : Nat)
  | faceClear (ap : Aperture) (target : Nat)
  | faceClearDone (target : Nat)
  | contributionApply (target : Nat) (ecc : Ecc)
  | contributionHoldTimeout (target : Nat)
  | faceCacheFill (f : Nat) (line : Nat) (ecc : Ecc)
  | gatherComplete (task : Nat)
  -- tallies and the Winder (11)
  | tallySignal (q : Nat) (src part tag : Nat) (ecc : Ecc)
  | tallyWait (q : Nat) (src part tag : Nat) (ecc : Ecc)
  | signalRelease (tag : Nat)
  | waitDoneReceive (tag : Nat)
  | tallyAckReceive (tag : Nat)
  | waitRepeat (tag : Nat)
  | talSignalAdd (ap : Aperture) (n : Nat)
  | talSignalMax (ap : Aperture) (n : Nat)
  | talPair (ap : Aperture) (n : Nat)
  | talUnpair (ap : Aperture) (n : Nat)
  | talQuery (ap : Aperture) (n : Nat)
  | wndLoad (ap : Aperture) (t : Nat) (prog : Option (List Block))
  | wndStart (ap : Aperture) (t : Nat)
  | wndResume (ap : Aperture) (t : Nat)
  | wndStop (ap : Aperture) (t : Nat)
  | wndUnload (ap : Aperture) (t : Nat)
  | winderStepIssue (t : Nat) (ecc : Ecc)
  | indOperandReturn (t : Nat)
  -- the mover (12)
  | movBind (ap : Aperture) (c : Nat)
  | movStart (ap : Aperture) (c : Nat)
  | movAbort (ap : Aperture) (c : Nat)
  | movDestroy (ap : Aperture) (c : Nat)
  | movRef (ap : Aperture)
  | movUnref (ap : Aperture)
  | movDoorbell (ap : Aperture) (c : Nat) (tail : BitVec 12)
  | descriptorFetched (c : Nat) (words : List Dword)
  | descriptorActive (c : Nat)
  | translationAnswer (c : Nat) (dst : Bool) (page : Option (BitVec 52))
  | paramBlockReturn (c : Nat)
  | hostReadCompletion (c : Nat) (lines : List Line) (ideOk : Bool)
  | descriptorFinish (c : Nat)
  | recordUndeliverable (c : Nat)
  | destroyComplete (c : Nat)
  -- the host side (13)
  | hostTlpReceive (x : Tlp)
  | bar2Access (x : Bar2)
  | ideKmQuery (fn session stream : Nat)
  | ideKmKeyProg (fn session stream kset sub dir : Nat) (key : BitVec 256)
  | ideKmKSetGo (fn session stream kset sub dir : Nat)
  | ideKmKSetStop (fn session stream kset sub dir : Nat)
  | spdmMessage (fn : Nat) (r : SpdmReq)
  | getTdispVersion (p session : Nat)
  | getTdispCapabilities (p session : Nat)
  | lockInterfaceRequest (p session : Nat)
  | getDeviceInterfaceReport (p session : Nat)
  | getDeviceInterfaceState (p session : Nat)
  | startInterfaceRequest (p session : Nat)
  | stopInterfaceRequest (p session : Nat)
  | configWriteLocked (p : Nat)
  | ctxOpen (ap : Aperture) (fn : Nat)
  | ctxRetire (ap : Aperture) (tag : BitVec 16)
  | ctxRetireComplete (p : Nat) (idx : Nat)
  | ctxLossLoRead (ap : Aperture)
  | frontEndWait (w : FrontWait)
  | frontEndWithdraw (q : Nat)
  | pfD3hot (fn : Nat)
  | pfD0 (fn : Nat)
  | pfD3cold (p : Nat)
  | flr (fn : FlrFn)
  | flrDone (fn : FlrFn)
  | surpriseLinkDown
  | hostLinkUp
  | hstRemove (ap : Aperture) (p : Nat)
  | removeComplete (p : Nat)
  | hstDirtyEnable (ap : Aperture)
  | hstDirtyDisable (ap : Aperture)
  | hstMigOffer (ap : Aperture) (hostOk : Bool)
  | hstMigAccept (ap : Aperture) (offer : Option MigBlob)
  | hstMigFinish (ap : Aperture) (accept : Option MigBlob)
  | migOfferExpire (p : Nat)
  -- keys, the Lamp and life-cycle (14)
  | vltOrigin (ap : Aperture) (slot : Nat) (hostOk : Bool)
  | vltRetire (ap : Aperture) (slot : Nat)
  | vltZeroise (ap : Aperture) (slot : Nat)
  | slotDead (slot : Nat)
  | slotEmpty (slot : Nat)
  | drbgGenerate (bits : Nat)
  | drbgReseed
  | entropyHealthFail
  | checkJobSubmit (prio : Nat) (perms : Nat)
  | checkPermutation (agree : Bool)
  | pkeRequest (u : PkUnit) (prio : Nat)
  | pkeComplete (u : PkUnit)
  | signWindowEnd (ok : Bool) (verifyFail : Bool)
  | stateEncodingError
  | tamperEvent
  | lampSramUncorr (retained : Bool)
  | lcsTransition (ap : Aperture) (req : Option Transition)
  | transitionProgrammed
  | lcsScrap (ap : Aperture)
  -- resets and starts (15, 18)
  | porAssert
  | porRelease (x : StartInputs)
  | memTrained
  | hubTrainingTimeout
  | step13Timeout
  | lseReload (ap : Aperture) (nor : Option (List Byte)) (sigOk : Bool) (signer : BitVec 384)
  | lseMove (ap : Aperture)
  | shiftOrderDue (k : Nat)
  | chipResetAssert
  | rstReadyAssert
  | chipResetRelease (x : WarmInputs)
  | qpwrOkRise (q : Nat)
  | qpwrOkFall (q : Nat)
  | clockMonitorFault (long : Bool)
  -- faults, hangs and recovery (16)
  | waitCanaryExpire (h : WaitHead)
  | busyCanaryExpire (u : UnitRef)
  | replayCanaryExpire (u : UnitRef)
  | engineStepDone (u : UnitRef)
  | engineStepOverrun (u : UnitRef)
  | partitionStepDone (p : Nat)
  | partitionStepOverrun (p : Nat)
  | chipStepOverrun
  | lampWatchdogExpire
  | fltKick (ap : Aperture)
  | fltEngine (ap : Aperture) (u : UnitRef)
  | fltPartition (ap : Aperture) (p : Nat)
  | fltChip (ap : Aperture)
  | fltTray (ap : Aperture)
  -- observation (17)
  | obsFreeze (ap : Aperture)
  | obsFreezeAt (ap : Aperture) (bcast : Bool)
  | obsRelease (ap : Aperture)
  | obsPeek (ap : Aperture)
  | peekReturn (ap : Aperture) (l : HubLine)
  | peekTimeout (ap : Aperture)
  | freezePacketReceive (p : Nat)
  | freezeTimeReached
  | snapshotDrained
  -- completions and restored conditions (the table's last rows)
  | seamCreateDone (n : Nat)
  | movAbortDrained (c : Nat)
  | dirtyEnableDone (p : Nat)
  | entropyStartupPass
  | rotateFlowPrepare (k : Nat)
  | clockRestored
  | registerRead (a : Access)
  | vfPowerState (p v d : Nat)
  | d0FromD3cold (p : Nat)
  deriving DecidableEq, Repr

end Sys2Proof
end

