-- ==== Sys2Proof/Decode.lean ====
section
/-!
DEFINITION. Decode.lean: the commands that words spell. The table of this block gives its rows no bits (every row's field list is
empty): a command is an event at a port, not a word, and no word spells one.
-/

namespace Sys2Proof

/-- The command that the low `nbits` bits of `w` spell: none (DESIGN CHOICE, log 6). -/
def decodeTableWord (_nbits _w : Nat) : Option Instr := none

end Sys2Proof
end

