-- ==== Sys2Proof/Config.lean ====
section
/-!
DEFINITION. Config.lean: the free values of the model, each a constant without a body. The spec leaves every one of them open:
random bits, the content of a buffer that nothing has written, a victim the spec does not name. No statement rests on a value.
-/

namespace Sys2Proof

/-- The n-th output of the DRBG (R384): nothing is known of it (DESIGN CHOICE, log 7). -/
opaque Config.drbg : Nat → BitVec 512

/-- The Svettitas root hash in the boot ROM (Table 14.12): a constant of the implementation that the spec does not state (DESIGN CHOICE, log 9). -/
opaque Config.rootHash : BitVec 384

/-- The unit root secret and the returned secret, programmed at manufacture (Table 14.1): nothing is known of them (DESIGN CHOICE, log 7). -/
opaque Config.urs : BitVec 256
opaque Config.lrs : BitVec 256

/-- The digest of the Lamp boot ROM (Table 13.2), a constant of the implementation (DESIGN CHOICE, log 9). -/
opaque Config.romDigest : BitVec 384

/-- The digest of the Lamp firmware of the Lease with a configuration digest (R392, Table 13.2; DESIGN CHOICE, log 9). -/
opaque Config.fwDigest : BitVec 256 → BitVec 384

/-- A bit the spec leaves open (DESIGN CHOICE, log 9). -/
opaque Config.freeBit : Nat → Bool

/-- A byte the spec leaves open, such as a byte of an assembly buffer that is not initialised (R260, DESIGN CHOICE, log 9). -/
opaque Config.freeByte : Nat → Nat → Byte

/-- A choice among several candidates that the spec does not make, as which counter block a full cache gives up (DESIGN CHOICE, log 9). -/
opaque Config.freeNat : Nat → Nat

end Sys2Proof
end

