-- ==== Sys2Proof/Machine/Crypto.lean ====
section
/-!
DEFINITION. Machine/Crypto.lean: the named standards the spec's constructions rest on (AES-256, GHASH, KMAC256; R3, R110, R111,
R177), and the Reed-Solomon code of R114. The spec names the NIST standards and does not repeat them: PRESUMED, log 62.
-/

namespace Sys2Proof.Machine

/-! ### Bytes (R3) -/

/-- The `n` low bytes of a number, least significant first. -/
def leBytes : Nat → Nat → List Byte
  | 0, _ => []
  | n + 1, x => BitVec.ofNat 8 x :: leBytes n (x / 256)

/-- The number whose bytes, least significant first, are given. -/
def ofLe : List Byte → Nat
  | [] => 0
  | b :: t => b.toNat + 256 * ofLe t

/-- A 128-bit block as AES and GHASH take it: most significant byte first (R3). -/
def blockBytes (b : Block) : List Byte := (leBytes 16 b.toNat).reverse

/-- The block whose bytes, most significant first, are given. -/
def bytesBlock (l : List Byte) : Block := BitVec.ofNat 128 (ofLe (l.take 16).reverse <<< (8 * (16 - l.length)))

/-- A line's bytes, byte 0 first. -/
def lineBytes (l : Line) : List Byte := leBytes 64 l.toNat

/-- The line of 64 bytes. -/
def bytesLine (l : List Byte) : Line := BitVec.ofNat 512 (ofLe l)

/-- ASCII bytes of a string, without a terminator (R177). -/
def ascii (s : String) : List Byte := s.toList.map fun c => BitVec.ofNat 8 c.toNat

/-- Byte-wise exclusive or; the shorter list ends it. -/
def xorBytes (a b : List Byte) : List Byte := List.zipWith (· ^^^ ·) a b

/-! ### GF(2^8) -/

/-- Multiplication by x modulo the polynomial whose low byte is `p`. -/
def xtime (p a : Byte) : Byte := if a.msb then (a <<< 1) ^^^ p else a <<< 1

/-- Product in GF(2^8), by the bits of the second factor. -/
def gfMulAux (p : Byte) : Nat → Byte → Byte → Byte
  | 0, _, _ => 0
  | n + 1, a, b => (if b.getLsbD 0 then a else 0) ^^^ gfMulAux p n (xtime p a) (b >>> 1)

/-- Product in GF(2^8) modulo the polynomial whose low byte is `p`. -/
def gfMul (p a b : Byte) : Byte := gfMulAux p 8 a b

/-- Power in GF(2^8). -/
def gfPow (p a : Byte) : Nat → Byte
  | 0 => 1
  | n + 1 => gfMul p a (gfPow p a n)

/-! ### AES-256 (FIPS 197) -/

/-- SubBytes on one byte: the inverse, as the 254th power, and the affine map. -/
def sbox (a : Byte) : Byte :=
  let a2 := gfMul 0x1B a a
  let a4 := gfMul 0x1B a2 a2
  let a8 := gfMul 0x1B a4 a4
  let a16 := gfMul 0x1B a8 a8
  let a32 := gfMul 0x1B a16 a16
  let a64 := gfMul 0x1B a32 a32
  let a128 := gfMul 0x1B a64 a64
  let i := gfMul 0x1B (gfMul 0x1B (gfMul 0x1B a2 a4) (gfMul 0x1B a8 a16)) (gfMul 0x1B (gfMul 0x1B a32 a64) a128)
  i ^^^ i.rotateLeft 1 ^^^ i.rotateLeft 2 ^^^ i.rotateLeft 3 ^^^ i.rotateLeft 4 ^^^ 0x63

/-- The next eight words of the key schedule (bytes), from the eight before. -/
def keyNext (rcon : Byte) (w : List (List Byte)) : List (List Byte) :=
  let last := w.getD 7 []
  let t0 := ((last.drop 1 ++ last.take 1).map sbox)
  let t0 := match t0 with
    | b :: r => (b ^^^ rcon) :: r
    | [] => []
  let w0 := xorBytes (w.getD 0 []) t0
  let w1 := xorBytes (w.getD 1 []) w0
  let w2 := xorBytes (w.getD 2 []) w1
  let w3 := xorBytes (w.getD 3 []) w2
  let w4 := xorBytes (w.getD 4 []) (w3.map sbox)
  let w5 := xorBytes (w.getD 5 []) w4
  let w6 := xorBytes (w.getD 6 []) w5
  let w7 := xorBytes (w.getD 7 []) w6
  [w0, w1, w2, w3, w4, w5, w6, w7]

/-- `n` further groups of eight words. -/
def keyGroups : Nat → Byte → List (List Byte) → List (List Byte)
  | 0, _, w => w
  | n + 1, rcon, w => w ++ keyGroups n (xtime 0x1B rcon) (keyNext rcon w)

/-- A list cut into pieces of `k`. -/
def chunks {α : Type} (k : Nat) : Nat → List α → List (List α)
  | 0, _ => []
  | n + 1, l => l.take k :: chunks k n (l.drop k)

/-- The fifteen round keys. -/
def roundKeys (key : List Byte) : List (List Byte) :=
  (chunks 4 15 (keyGroups 7 1 (chunks 4 8 key))).map List.flatten

/-- ShiftRows on a state of sixteen bytes in column order. -/
def shiftRows (s : List Byte) : List Byte :=
  (List.range 16).map fun i => s.getD ((i + 4 * (i % 4)) % 16) 0

/-- MixColumns on one column. -/
def mixColumn (c : List Byte) : List Byte :=
  (List.range 4).map fun i =>
    let g (j : Nat) : Byte := c.getD ((i + j) % 4) 0
    xtime 0x1B (g 0) ^^^ (xtime 0x1B (g 1) ^^^ g 1) ^^^ g 2 ^^^ g 3

/-- The rounds after the first key addition; the last one mixes no columns. -/
def aesRounds : List (List Byte) → List Byte → List Byte
  | [], s => s
  | [k], s => xorBytes (shiftRows (s.map sbox)) k
  | k :: ks, s => aesRounds ks (xorBytes (((chunks 4 4 (shiftRows (s.map sbox))).map mixColumn).flatten) k)

/-- AES-256 encryption of a block under a 32-byte key. -/
def aes256 (key : List Byte) (b : Block) : Block :=
  match roundKeys key with
  | [] => 0
  | k :: ks => bytesBlock (aesRounds ks (xorBytes (blockBytes b) k))

/-! ### GHASH (SP 800-38D) -/

/-- The product in GF(2^128), bit 127 of a block being its first bit. -/
def gmulAux : Nat → Block → Block → Block → Block
  | 0, _, _, z => z
  | n + 1, x, v, z =>
    gmulAux n (x <<< 1) (if v.getLsbD 0 then (v >>> 1) ^^^ 0xE1000000000000000000000000000000 else v >>> 1)
      (if x.msb then z ^^^ v else z)

/-- The product of two blocks. -/
def gmul (x y : Block) : Block := gmulAux 128 x y 0

/-- GHASH under the subkey `h` of a list of blocks. -/
def ghash (h : Block) (l : List Block) : Block := l.foldl (fun y b => gmul (y ^^^ b) h) 0

/-! ### KMAC256 (SP 800-185, FIPS 202) -/

/-- The round constants of Keccak-f[1600]. -/
def keccakRC : List Dword :=
  [0x0000000000000001, 0x0000000000008082, 0x800000000000808A, 0x8000000080008000, 0x000000000000808B, 0x0000000080000001,
   0x8000000080008081, 0x8000000000008009, 0x000000000000008A, 0x0000000000000088, 0x0000000080008009, 0x000000008000000A]
  ++ [0x000000008000808B, 0x800000000000008B, 0x8000000000008089, 0x8000000000008003, 0x8000000000008002, 0x8000000000000080,
   0x000000000000800A, 0x800000008000000A, 0x8000000080008081, 0x8000000000008080, 0x0000000080000001, 0x8000000080008008]

/-- The rotation offsets, lane x + 5y. -/
def keccakRot : List Nat :=
  [0, 1, 62, 28, 27, 36, 44, 6, 55, 20, 3, 10, 43, 25, 39, 41, 45, 15, 21, 8, 18, 2, 61, 56, 14]

/-- One round of Keccak-f[1600] on 25 lanes. -/
def keccakRound (a : List Dword) (rc : Dword) : List Dword :=
  let col (x : Nat) : Dword := (List.range 5).foldl (fun s y => s ^^^ a.getD (x % 5 + 5 * y) 0) 0
  let d : List Dword := (List.range 5).map fun x => col (x + 4) ^^^ (col (x + 1)).rotateLeft 1
  let t : List Dword := (List.range 25).map fun i => a.getD i 0 ^^^ d.getD (i % 5) 0
  -- B[y, 2x+3y] = rot(A[x, y]): lane (X, Y) of B comes from x = (X + 3Y) mod 5, y = X
  let b : List Dword := (List.range 25).map fun i =>
    let sx := (i % 5 + 3 * (i / 5)) % 5
    let src := sx + 5 * (i % 5)
    (t.getD src 0).rotateLeft (keccakRot.getD src 0)
  let c : List Dword := (List.range 25).map fun i =>
    let g (k : Nat) : Dword := b.getD ((i % 5 + k) % 5 + 5 * (i / 5)) 0
    g 0 ^^^ (~~~ g 1 &&& g 2)
  match c with
  | l :: r => (l ^^^ rc) :: r
  | [] => []

/-- Keccak-f[1600]. -/
def keccakF (a : List Dword) : List Dword := keccakRC.foldl keccakRound a

/-- Bytes as 64-bit lanes, least significant byte first. -/
def toLanes (l : List Byte) : List Dword := (chunks 8 (l.length / 8) l).map fun c => BitVec.ofNat 64 (ofLe c)

/-- Absorb the padded message, `n` blocks of 136 bytes. -/
def absorb : Nat → List Dword → List Byte → List Dword
  | 0, a, _ => a
  | n + 1, a, m =>
    absorb n (keccakF (List.zipWith (· ^^^ ·) a (toLanes (m.take 136) ++ List.replicate 8 0))) (m.drop 136)

/-- `n` blocks of 136 output bytes. -/
def squeeze : Nat → List Dword → List Byte
  | 0, _ => []
  | n + 1, a => ((a.take 17).map fun l => leBytes 8 l.toNat).flatten ++ squeeze n (keccakF a)

/-- Big-endian bytes of a number, at least one. -/
def beMin (x : Nat) : List Byte :=
  (leBytes (max 1 ((Nat.log2 x + 8) / 8)) x).reverse

/-- left_encode of SP 800-185. -/
def leftEncode (x : Nat) : List Byte := BitVec.ofNat 8 (beMin x).length :: beMin x

/-- right_encode of SP 800-185. -/
def rightEncode (x : Nat) : List Byte := beMin x ++ [BitVec.ofNat 8 (beMin x).length]

/-- encode_string of SP 800-185. -/
def encodeString (s : List Byte) : List Byte := leftEncode (8 * s.length) ++ s

/-- bytepad of SP 800-185 with the rate of KMAC256. -/
def bytepad (x : List Byte) : List Byte :=
  let z := leftEncode 136 ++ x
  z ++ List.replicate ((136 - z.length % 136) % 136) 0

/-- The sponge of cSHAKE256 over an already prefixed message: suffix 00, then pad10*1. -/
def cshakeSponge (m : List Byte) (n : Nat) : List Byte :=
  let k := m.length / 136 + 1
  let z := m ++ 0x04 :: List.replicate (136 * k - m.length - 1) 0
  let p := z.dropLast ++ [z.getLastD 0 ^^^ 0x80]
  (squeeze ((n + 135) / 136) (absorb k (List.replicate 25 0) p)).take n

/-- KMAC256(K, X, 8n, S) of SP 800-185. -/
def kmac256 (key x : List Byte) (n : Nat) (s : String) : List Byte :=
  cshakeSponge (bytepad (encodeString (ascii "KMAC") ++ encodeString (ascii s)) ++ (bytepad (encodeString key) ++ x ++
    rightEncode (8 * n))) n

/-! ### The Reed-Solomon code of R114 -/

/-- The low byte of x^8 + x^4 + x^3 + x^2 + 1. -/
def rsPoly : Byte := 0x1D

/-- α^i. -/
def alphaPow (i : Nat) : Byte := gfPow rsPoly 2 i

/-- Product of a polynomial, highest degree first, by x − α^i. -/
def polyStep (g : List Byte) (i : Nat) : List Byte :=
  List.zipWith (· ^^^ ·) (g ++ [0]) (0 :: g.map (gfMul rsPoly (alphaPow i)))

/-- The generator of `k` factors without its leading 1. -/
def rsGen (k : Nat) : List Byte := ((List.range k).foldl polyStep [1]).drop 1

/-- The check symbols K0, K1, ... of a message: m(x)·x^k mod g(x). -/
def rsCheck (k : Nat) (m : List Byte) : List Byte :=
  let g := rsGen k
  m.foldl (fun r b =>
    let f := b ^^^ r.getD 0 0
    List.zipWith (· ^^^ ·) (r.drop 1 ++ [0]) (g.map (gfMul rsPoly f))) (List.replicate k 0)

/-- A syndrome: the code word's value at α^i. -/
def rsSyndrome (w : List Byte) (i : Nat) : Byte := w.foldl (fun s b => gfMul rsPoly s (alphaPow i) ^^^ b) 0

/-- What the decoder reports. -/
def rsDecode (k : Nat) (w : List Byte) : Option (List Byte × Bool) :=
  let s := (List.range k).map (rsSyndrome w)
  if s.all (· == 0) then some (w, false)
  else
    let s0 := s.getD 0 0
    let fits (j : Nat) : Bool := s0 != 0 && (List.range k).all fun i => s.getD i 0 == gfMul rsPoly s0 (alphaPow (i * j))
    match (List.range w.length).find? fun i => fits (w.length - 1 - i) with
    | some i => some (w.set i (w.getD i 0 ^^^ s0), true)
    | none => none

end Sys2Proof.Machine
end

