-- ==== Sys2Proof/WellFormed.lean ====
section
/-!
DEFINITION. WellFormed.lean: the ranges of a command's operands: units that the package has (Table 0.4, R12, R31), slots, tags, apertures.
A command outside them comes from no agent; `exec` leaves the block as it is.
-/

namespace Sys2Proof

/-- A partition. -/
def isPart (p : Nat) : Bool := decide (1 ≤ p ∧ p ≤ 6)
/-- A partition, or 0 for the block's own flows. -/
def isPartOrBlock (p : Nat) : Bool := decide (p ≤ 6)
/-- A VF of a partition function. -/
def isVf (v : Nat) : Bool := decide (1 ≤ v ∧ v ≤ 16)
/-- An aperture of Table 3.9. -/
def apOk : Aperture → Bool
  | .part p => isPart p
  | .vf p v => isPart p && isVf v
  | _ => true
/-- An aperture with a mailbox: all but those of VFs (R53). -/
def hasMbx : Aperture → Bool
  | .vf _ _ => false
  | _ => true
/-- A mailbox data register. -/
def isWord (k : Nat) : Bool := decide (k < 8)
/-- A seam. -/
def isSeam (n : Nat) : Bool := decide (n < 256)
/-- A shaft. -/
def isShaft (k : Nat) : Bool := decide (k < 12)
/-- A quadrant, its slice and its home. -/
def isQuad (q : Nat) : Bool := decide (q < 4)
/-- A cluster. -/
def isCluster (c : Nat) : Bool := decide (c < 113)
/-- A chiplet site. -/
def isSite (t : Nat) : Bool := decide (t < 8)
/-- A fabric port. -/
def isPort (p : Nat) : Bool := decide (p < 24)
/-- A slotted unit: a port, or the host cluster. -/
def isSlotUnit (u : Nat) : Bool := decide (u ≤ 24)
/-- A node. -/
def isNode (n : Nat) : Bool := decide (n < 255)
/-- A request TAG. -/
def isTag (t : Nat) : Bool := decide (t < 16384)
/-- A face. -/
def isFace (f : Nat) : Bool := decide (f < 8)
/-- A target. -/
def isTarget (t : Nat) : Bool := decide (t < 512)
/-- A tally. -/
def isTally (n : Nat) : Bool := decide (n < 65536)
/-- A Winder task. -/
def isTask (t : Nat) : Bool := decide (t < 256)
/-- A mover channel. -/
def isChan (c : Nat) : Bool := decide (c < 32)
/-- A key slot. -/
def isSlot (n : Nat) : Bool := decide (n < 4096)
/-- A context index. -/
def isCtxIndex (i : Nat) : Bool := decide (i < 4096)
/-- A shift order. -/
def isOrder (k : Nat) : Bool := decide (k < 256)
/-- A word of a slice. -/
def isScrubWord (w : Nat) : Bool := decide (w < 2 ^ 28)
/-- PF0 or a partition function, as a DOE instance or in a power state. -/
def isDoe (f : Nat) : Bool := decide (f ≤ 6)
/-- A priority of a vault engine. -/
def isPrio (p : Nat) : Bool := decide (p < 4)
/-- A generate request (R384). -/
def isDraw (bits : Nat) : Bool := decide (1 ≤ bits ∧ bits ≤ 512)
/-- A function of an FLR. -/
def isFlr : FlrFn → Bool
  | .pf0 => true
  | .pf p => isPart p
  | .vf p v => isPart p && isVf v
/-- An egress point. -/
def isPoint : EgressPoint → Bool
  | .host => true
  | .port p => isPort p
  | .sealPoint n => isSeam n
/-- A unit that an engine step resets. -/
def isUnit : UnitRef → Bool
  | .shaft k => isShaft k
  | .face f => isFace f
  | .channel c => isChan c
  | .task t => isTask t
/-- A queue head that waits. -/
def isHead : WaitHead → Bool
  | .channel c => isChan c
  | .task t => isTask t
  | .front _ => true
/-- An engine that issues operations. -/
def isEngine : Engine → Bool
  | .site t => isSite t
  | .mover c => isChan c
  | .face f => isFace f
  | .task t => isTask t
  | .bar2 p => isPart p
  | .front _ | .block => true

/-- A command whose operands the block can be given. -/
def Instr.wf : Instr → Bool
  | .registerWrite a _ => apOk a.ap
  | .rcRead ap _ => apOk ap
  | .dwFirstWrite ap _ _ => apOk ap
  | .dwComplementWrite ap _ _ => apOk ap
  | .dwWindowExpire ap => apOk ap
  | .mbxSelRead ap _ _ => apOk ap && hasMbx ap
  | .mbxSelWrite ap _ _ => apOk ap && hasMbx ap
  | .mbxCaptureDone ap _ => apOk ap && hasMbx ap
  | .mbxDataWrite ap k _ => apOk ap && hasMbx ap && isWord k
  | .aliasWrite ap _ _ => apOk ap
  | .updStrobeGo ap => apOk ap
  | .strobeOutPulseEnd => true
  | .strobeInEdge => true
  | .seamCreate ap n => apOk ap && isSeam n
  | .seamFillDone n => isSeam n
  | .seamSeal ap n => apOk ap && isSeam n
  | .sealPoint n => isSeam n
  | .seamUnseal ap n => apOk ap && isSeam n
  | .seamRekey ap n => apOk ap && isSeam n
  | .seamRetire ap n => apOk ap && isSeam n
  | .seamDead n => isSeam n
  | .seamFree ap n => apOk ap && isSeam n
  | .seamUnfreeze ap n => apOk ap && isSeam n
  | .driftStart s => isShaft s
  | .sweepPage s _ _ => isShaft s
  | .periodicDriftDue n => isSeam n
  | .rekeyOverrun n => isSeam n
  | .budgetWindowClose n => isSeam n
  | .writeTokenArrive n => isSeam n
  | .shaftRead s => isShaft s
  | .counterFetchDone s _ _ => isShaft s
  | .padReady s _ => isShaft s
  | .hubReadReturn s _ _ => isShaft s
  | .correctionVerdict s => isShaft s
  | .egressRelease p pt => isPart p && isPoint pt
  | .shaftWrite s => isShaft s
  | .refreshDone s _ => isShaft s
  | .partialOldLineReturn s _ _ => isShaft s
  | .hubWriteAck s _ => isShaft s
  | .laneSample c _ => isCluster c
  | .innerPageAccess q _ _ => isQuad q
  | .scrubWordRead q word _ => isQuad q && isScrubWord word
  | .scrubPassEnd q => isQuad q
  | .shareZeroDone s => isShaft s
  | .siteLinkUp t _ => isSite t
  | .siteLinkDown t => isSite t
  | .frameReceive t _ => isSite t
  | .reqFrame t => isSite t
  | .dataFrame t => isSite t
  | .siteSlotIssue t _ => isSite t
  | .ctrlHello t _ => isSite t
  | .ctrlResponse t _ => isSite t
  | .ctrlKeyConfirm t => isSite t
  | .ctrlCredit t => isSite t
  | .ctrlReplay t => isSite t
  | .ctrlReplayLost t => isSite t
  | .ctrlReplayFailed t => isSite t
  | .ctrlResync t => isSite t
  | .ctrlRekey t => isSite t
  | .ctrlFlushDone t => isSite t
  | .bringupTimeout t => isSite t
  | .resyncTimeout t => isSite t
  | .tsRestart ap t => apOk ap && isSite t
  | .tsRekey ap t => apOk ap && isSite t
  | .fabricPortUp p => isPort p
  | .fabricPortDown p => isPort p
  | .codewordReceive p _ _ _ => isPort p
  | .packetTransit p => isPort p
  | .packetDeliver p => isPort p
  | .packetVerdict p => isPort p
  | .helloTimer p => isPort p
  | .helloReceive p => isPort p
  | .announceTimer => true
  | .announceReceive p => isPort p
  | .announceSilent p => isPort p
  | .disputeReceive p => isPort p
  | .routeFailReceive p => isPort p
  | .routeOkReceive p => isPort p
  | .timeSyncTimer => true
  | .timeSyncReceive p => isPort p
  | .slotBoundary unit => isSlotUnit unit
  | .formStartTimer => true
  | .formStartReceive p _ => isPort p
  | .evidenceReceive p _ => isPort p
  | .keysReceive p _ => isPort p
  | .confirmReceive p => isPort p
  | .formWindowEnd => true
  | .formedReceive p _ => isPort p
  | .rejectReceive p _ => isPort p
  | .joinedReceive p => isPort p
  | .candidateTimeout => true
  | .joinTimeout => true
  | .joinRetry => true
  | .leaveDomain => true
  | .generationSwitch => true
  | .flowKeyExpire part => isPartOrBlock part
  | .requestTimeout tag => isTag tag
  | .yfRevive ap node => apOk ap && isNode node
  | .homeRequest q src _ tag => isQuad q && isNode src && isTag tag
  | .entryFreed q _ => isQuad q
  | .ticketLapse q part _ => isQuad q && isPart part
  | .lockWaitTimeout q _ => isQuad q
  | .answerReceive tag => isTag tag
  | .nackReceive tag => isTag tag
  | .nackRetry tag => isTag tag
  | .fenceComplete e _ => isEngine e
  | .cartEnd t _ => isSite t
  | .cartEndTimeout t _ => isSite t
  | .cartPrepare q src _ tag => isQuad q && isNode src && isTag tag
  | .cartSolo q src _ tag => isQuad q && isNode src && isTag tag
  | .soloTimeout q _ _ => isQuad q
  | .cartVote tag => isTag tag
  | .cartSoloVote tag => isTag tag
  | .cartDecide q src _ tag => isQuad q && isNode src && isTag tag
  | .cartDecided tag => isTag tag
  | .cartDecidedWaitExpire _ => true
  | .cartCommit q src _ tag => isQuad q && isNode src && isTag tag
  | .cartAbort q src _ tag => isQuad q && isNode src && isTag tag
  | .cartDone tag => isTag tag
  | .cartQuery q src _ tag => isQuad q && isNode src && isTag tag
  | .cartAnswer tag => isTag tag
  | .cartMemberTimeout q _ _ => isQuad q
  | .cartQueryRepeat q _ _ => isQuad q
  | .cartLeadTimeout q _ _ => isQuad q
  | .cartAbortEntryExpire q _ _ => isQuad q
  | .faceArm ap target _ => apOk ap && isTarget target
  | .faceDisarm ap target => apOk ap && isTarget target
  | .faceClear ap target => apOk ap && isTarget target
  | .faceClearDone target => isTarget target
  | .contributionApply target _ => isTarget target
  | .contributionHoldTimeout target => isTarget target
  | .faceCacheFill f _ _ => isFace f
  | .gatherComplete task => isTask task
  | .tallySignal q src _ tag _ => isQuad q && isNode src && isTag tag
  | .tallyWait q src _ tag _ => isQuad q && isNode src && isTag tag
  | .signalRelease tag => isTag tag
  | .waitDoneReceive tag => isTag tag
  | .tallyAckReceive tag => isTag tag
  | .waitRepeat tag => isTag tag
  | .talSignalAdd ap n => apOk ap && isTally n
  | .talSignalMax ap n => apOk ap && isTally n
  | .talPair ap n => apOk ap && isTally n
  | .talUnpair ap n => apOk ap && isTally n
  | .talQuery ap n => apOk ap && isTally n
  | .wndLoad ap t _ => apOk ap && isTask t
  | .wndStart ap t => apOk ap && isTask t
  | .wndResume ap t => apOk ap && isTask t
  | .wndStop ap t => apOk ap && isTask t
  | .wndUnload ap t => apOk ap && isTask t
  | .winderStepIssue t _ => isTask t
  | .indOperandReturn t => isTask t
  | .movBind ap c => apOk ap && isChan c
  | .movStart ap c => apOk ap && isChan c
  | .movAbort ap c => apOk ap && isChan c
  | .movDestroy ap c => apOk ap && isChan c
  | .movRef ap => apOk ap
  | .movUnref ap => apOk ap
  | .movDoorbell ap c _ => apOk ap && isChan c
  | .descriptorFetched c _ => isChan c
  | .descriptorActive c => isChan c
  | .translationAnswer c _ _ => isChan c
  | .paramBlockReturn c => isChan c
  | .hostReadCompletion c _ _ => isChan c
  | .descriptorFinish c => isChan c
  | .recordUndeliverable c => isChan c
  | .destroyComplete c => isChan c
  | .hostTlpReceive _ => true
  | .bar2Access x => isPart x.part
  | .ideKmQuery fn _ _ => isDoe fn
  | .ideKmKeyProg fn _ _ _ _ _ _ => isDoe fn
  | .ideKmKSetGo fn _ _ _ _ _ => isDoe fn
  | .ideKmKSetStop fn _ _ _ _ _ => isDoe fn
  | .spdmMessage fn _ => isDoe fn
  | .getTdispVersion p _ => isPart p
  | .getTdispCapabilities p _ => isPart p
  | .lockInterfaceRequest p _ => isPart p
  | .getDeviceInterfaceReport p _ => isPart p
  | .getDeviceInterfaceState p _ => isPart p
  | .startInterfaceRequest p _ => isPart p
  | .stopInterfaceRequest p _ => isPart p
  | .configWriteLocked p => isPart p
  | .ctxOpen ap _ => apOk ap
  | .ctxRetire ap _ => apOk ap
  | .ctxRetireComplete p idx => isPart p && isCtxIndex idx
  | .ctxLossLoRead ap => apOk ap
  | .frontEndWait w => isPart w.part
  | .frontEndWithdraw _ => true
  | .pfD3hot fn => isDoe fn
  | .pfD0 fn => isDoe fn
  | .pfD3cold p => isPart p
  | .flr fn => isFlr fn
  | .flrDone fn => isFlr fn
  | .surpriseLinkDown => true
  | .hostLinkUp => true
  | .hstRemove ap p => apOk ap && isPart p
  | .removeComplete p => isPart p
  | .hstDirtyEnable ap => apOk ap
  | .hstDirtyDisable ap => apOk ap
  | .hstMigOffer ap _ => apOk ap
  | .hstMigAccept ap _ => apOk ap
  | .hstMigFinish ap _ => apOk ap
  | .migOfferExpire p => isPart p
  | .vltOrigin ap slot _ => apOk ap && isSlot slot
  | .vltRetire ap slot => apOk ap && isSlot slot
  | .vltZeroise ap slot => apOk ap && isSlot slot
  | .slotDead slot => isSlot slot
  | .slotEmpty slot => isSlot slot
  | .drbgGenerate bits => isDraw bits
  | .drbgReseed => true
  | .entropyHealthFail => true
  | .checkJobSubmit prio _ => isPrio prio
  | .checkPermutation _ => true
  | .pkeRequest _ prio => isPrio prio
  | .pkeComplete _ => true
  | .signWindowEnd _ _ => true
  | .stateEncodingError => true
  | .tamperEvent => true
  | .lampSramUncorr _ => true
  | .lcsTransition ap _ => apOk ap
  | .transitionProgrammed => true
  | .lcsScrap ap => apOk ap
  | .porAssert => true
  | .porRelease _ => true
  | .memTrained => true
  | .hubTrainingTimeout => true
  | .step13Timeout => true
  | .lseReload ap _ _ _ => apOk ap
  | .lseMove ap => apOk ap
  | .shiftOrderDue k => isOrder k
  | .chipResetAssert => true
  | .rstReadyAssert => true
  | .chipResetRelease _ => true
  | .qpwrOkRise q => isQuad q
  | .qpwrOkFall q => isQuad q
  | .clockMonitorFault _ => true
  | .waitCanaryExpire h => isHead h
  | .busyCanaryExpire u => isUnit u
  | .replayCanaryExpire u => isUnit u
  | .engineStepDone u => isUnit u
  | .engineStepOverrun u => isUnit u
  | .partitionStepDone p => isPart p
  | .partitionStepOverrun p => isPart p
  | .chipStepOverrun => true
  | .lampWatchdogExpire => true
  | .fltKick ap => apOk ap
  | .fltEngine ap _ => apOk ap
  | .fltPartition ap _ => apOk ap
  | .fltChip ap => apOk ap
  | .fltTray ap => apOk ap
  | .obsFreeze ap => apOk ap
  | .obsFreezeAt ap _ => apOk ap
  | .obsRelease ap => apOk ap
  | .obsPeek ap => apOk ap
  | .peekReturn ap _ => apOk ap
  | .peekTimeout ap => apOk ap
  | .freezePacketReceive p => isPort p
  | .freezeTimeReached => true
  | .snapshotDrained => true
  | .seamCreateDone n => isSeam n
  | .movAbortDrained c => isChan c
  | .dirtyEnableDone p => isPart p
  | .entropyStartupPass => true
  | .rotateFlowPrepare k => isOrder k
  | .clockRestored => true
  | .registerRead a => apOk a.ap
  | .vfPowerState p v _ => isPart p && isVf v
  | .d0FromD3cold p => isPart p

end Sys2Proof
end

