-- ==== Sys2Proof/Machine/State.lean ====
section
/-!
DEFINITION. Machine/State.lean: every piece of state the spec gives the DG3, as plain data, one structure for each part of
the block, with the state after reset (the block before event P, its fields at the reset values of the register tables).
A register word the spec lays out in bits is kept in the fields its table names and put together where it is read.
-/

namespace Sys2Proof.Machine

/-! ### Command interfaces, mailboxes, global registers (03, and R80's command protocol) -/

/-- One instance of a block's command registers (R80): arguments, status, interrupt status and enable. -/
structure Inst where
  regs    : Tab Word := []
  busy    : Bool := false
  done    : Bool := false
  code    : Nat := 0
  unit    : Nat := 0
  result  : Word := 0
  irqStat : Word := 0
  irqEn   : Word := 0
  deriving DecidableEq, Repr

/-- The blocks with command or interrupt registers of their own instances (Table 0.4). -/
inductive Blk where
  | seam | face | tal | wnd | mov | ctx | hst | vlt | lcs | lse | flt | obs | yf
  deriving DecidableEq, Repr

/-- A mailbox instance (R53 to R56). `busy` holds the object being captured. -/
structure Mbx where
  sel   : Word := 0
  words : Nat := 0
  err   : Nat := 0
  fail  : Bool := false
  done  : Bool := false
  busy  : Bool := false
  valid : Bool := false
  opened : Bool := false
  data  : BitVec 256 := 0
  deriving DecidableEq, Repr

/-- The GLB_ and UPD_ registers, pending dual writes by aperture (offset and value), buffered strobed values by register, and the sticky
error bit of the debug port (03). -/
structure Glb where
  compat   : Bool := false
  state    : Nat := 0
  step     : Nat := 1
  errAddr  : Word := 0
  errInfo  : Word := 0
  errCount : Word := 0
  dwFail   : Word := 0
  denied   : Word := 0
  irqEn    : Word := 0
  scratch  : Word := 0
  dwPend   : Tab (Nat × Word) := []
  buf      : Tab Word := []
  updCount : Word := 0
  outWidth : BitVec 4 := 3
  fwdOut   : Bool := false
  extEn    : Bool := true
  present  : BitVec 6 := 0
  conf     : BitVec 6 := 0
  sticky   : Bool := false
  deriving DecidableEq, Repr

/-- The pins of Table 18.2 and what they drive. -/
structure Pins where
  strobeOut : Bool := false
  trayReq   : Bool := false
  rstReady  : Bool := false
  chipRst   : Bool := false
  por       : Bool := true
  qpwrOff   : BitVec 4 := 0
  qpwrOk    : BitVec 4 := 0xF
  strap     : BitVec 2 := 0
  memTrained : Bool := false
  tamper    : Bool := false
  deriving DecidableEq, Repr

/-- Time: the shift clock in ns with its eighths, block-clock cycles since power good, and event P (R5, R6, R413). `target` is the last
offset measured, in ns, `slew` what is left of it to slew, in eighths of a ns. -/
structure Clock where
  shift  : Dword := 0
  frac   : Nat := 0
  valid  : Bool := false
  cyc    : Nat := 0
  cycP   : Nat := 0
  target : Int := 0
  slew   : Int := 0
  alarm  : Bool := false
  lost   : Bool := false
  deriving DecidableEq, Repr

/-! ### The Lease (15, R403 to R405, R464) -/

/-- A partition shape (section 0x01). -/
structure Shape where
  shape      : Nat := 0
  part       : Nat := 0
  openKind   : Bool := false
  allowBound : Bool := false
  carts      : Bool := false
  stepValid  : Bool := false
  stackSet     : BitVec 16 := 0
  narrow     : BitVec 16 := 0
  sites      : BitVec 8 := 0
  faces      : BitVec 8 := 0
  hostSlots  : Nat := 0
  ideStreams : Nat := 0
  vfs        : Nat := 0
  channels   : Word := 0
  urgent     : Word := 0
  movCycles  : List Nat := []
  loggable   : Word := 0
  talBase    : Nat := 0
  talCount   : Nat := 0
  stepTally  : Nat := 0
  wndBase    : Nat := 0
  wndCount   : Nat := 0
  budget     : Nat := 0
  reserve    : List Nat := []
  quotas     : List (Nat × Nat × Nat) := []
  areas      : List (List Nat) := []
  deriving DecidableEq, Repr

/-- A seam template (section 0x02). -/
structure Template where
  part         : Nat := 0
  kind         : Nat := 0
  transferable : Bool := false
  count        : Nat := 0
  stackSet       : BitVec 16 := 0
  maxGranules  : Nat := 0
  maxRate      : Nat := 0
  minInterval  : Nat := 0
  maxInterval  : Nat := 0
  deriving DecidableEq, Repr

/-- A node record of the topology (section 0x03). -/
structure NodeRec where
  unitId   : Dword := 0
  node     : Nat := 0
  row      : Nat := 0
  col      : Nat := 0
  shape    : Nat := 0
  parts    : BitVec 8 := 0
  identity : BitVec 256 := 0
  deriving DecidableEq, Repr

/-- A port record of the topology. -/
structure PortRec where
  node     : Nat := 0
  port     : Nat := 0
  peer     : Nat := 0
  peerPort : Nat := 0
  mode     : Nat := 0
  owner    : Nat := 0
  slots    : List Nat := []
  deriving DecidableEq, Repr

/-- A shift order (Table 15.5). -/
structure Order where
  time   : Dword := 0
  action : Nat := 0
  basis  : Bool := false
  part   : Nat := 0
  rep    : Bool := false
  state  : Nat := 0
  target : Nat := 0
  period : Nat := 0
  base   : Nat := 0
  deriving DecidableEq, Repr

/-- Partition deadlines (section 0x06). -/
structure PartLimit where
  part        : Nat := 0
  slotDemand  : Nat := 0
  egressBound : Nat := 0
  stepPeriod  : Nat := 0
  collBytes   : Nat := 0
  maxBulk     : Nat := 0
  deriving DecidableEq, Repr

/-- A deadline class (section 0x06). -/
structure ClassLimit where
  part     : Nat := 0
  urgent   : Bool := false
  host     : Bool := false
  len      : Nat := 0
  deadline : Nat := 0
  deriving DecidableEq, Repr

/-- A chiplet descriptor (Table 7.8). -/
structure Descriptor where
  maker       : BitVec 16 := 0
  part        : BitVec 16 := 0
  rev         : BitVec 16 := 0
  sites       : BitVec 8 := 0
  minSvn      : BitVec 16 := 0
  measurement : BitVec 384 := 0
  endorser    : BitVec 384 := 0
  deriving DecidableEq, Repr

/-- The topology header (section 0x03). -/
structure Topo where
  topo       : Nat := 0
  rows       : Nat := 0
  cols       : Nat := 0
  deadBound  : Nat := 8
  listed     : Nat := 0
  minMembers : Nat := 0
  formWindow : Nat := 300
  hubHop     : Nat := 0
  foreman    : List Nat := []
  nodes      : List NodeRec := []
  ports      : List PortRec := []
  deriving DecidableEq, Repr

/-- Policies (section 0x05). -/
structure Policies where
  compatDigest : BitVec 256 := 0
  compatEpoch  : Word := 0
  deadLose     : Bool := true
  canary       : Nat := 0
  moveStack    : List Nat := []
  moveSite     : List Nat := []
  moveFace     : List Nat := []
  moveChannel  : List Nat := []
  deriving DecidableEq, Repr

/-- The Lease as read (R403 to R405): its header, its records and where its sections lie. -/
structure Lease where
  signedLen   : Nat := 0
  digestEpoch : Word := 0
  signed      : Bool := false
  shapes      : List Shape := []
  templates   : List Template := []
  topo        : Topo := {}
  orders      : List Order := []
  policies    : Policies := {}
  limits      : List PartLimit := []
  classes     : List ClassLimit := []
  descriptors : List Descriptor := []
  fwLoad      : Nat := 0
  fwEntry     : Nat := 0
  fwLen       : Nat := 0
  offsets     : List Nat := []
  lens        : List Nat := []
  deriving DecidableEq, Repr

/-! ### Faults and recovery (16) -/

/-- The unit types of Table 16.3. -/
inductive UnitType where
  | shaft | cluster | site | port | node | face | target | channel | task | tally | home | slot | function | stream | slice
  | seam | order | section_
  deriving DecidableEq, Repr

/-- The OBJECT of a fault record (Table 16.3). -/
inductive Obj where
  | none
  | line (addr : Nat) (seam : Nat)
  | unit (t : UnitType) (idx : Nat) (sec : Nat)
  | window (len : Nat) (cluster : Nat)
  deriving DecidableEq, Repr

/-- An engine step in progress (R434). -/
structure EngStep where
  unit     : UnitRef
  part     : Nat := 0
  suspects : List (BitVec 16) := []
  alive    : List (BitVec 16) := []
  byCmd    : Option Nat := none
  phase    : Nat := 0
  deriving DecidableEq, Repr

/-- A partition step in progress (R433); `begun` once its engines have been reset. -/
structure PartStep where
  part  : Nat
  byCmd : Option Nat := none
  begun : Bool := false
  deriving DecidableEq, Repr

/-- The step counters FLT_STEPS_p (Table 16.15). -/
structure StepCount where
  engine : BitVec 16 := 0
  part   : BitVec 8 := 0
  deriving DecidableEq, Repr

/-- The fault log, the canaries and the ladder (16). -/
structure Flt where
  log       : List Block := []
  next      : BitVec 24 := 0
  lost      : Word := 0
  canWait   : Nat := 0
  canEngine : Nat := 50
  canReplay : Nat := 4
  canLamp   : Nat := 10
  steps     : Tab StepCount := []
  chipCount : BitVec 16 := 0
  chipCause : BitVec 16 := 0
  eng       : List EngStep := []
  parts     : List PartStep := []
  chip      : Bool := false
  warmDue   : Bool := false
  engHist   : List (UnitRef × Nat) := []
  partHist  : List (Nat × Nat) := []
  chipHist  : List Nat := []
  watchdog  : Bool := false
  kicks     : Nat := 0
  deriving DecidableEq, Repr

/-! ### Contexts (13, R353 to R357) -/

/-- The states of a context entry (R353). -/
inductive CtxState where
  | free | active | lost | retiring
  deriving DecidableEq, Repr

/-- A context entry (Table 13.11). -/
structure CtxEntry where
  state : CtxState := .free
  gen   : BitVec 4 := 0
  fn    : Nat := 0
  first : BitVec 16 := 0
  deriving DecidableEq, Repr

/-- The context tables, keyed by partition × 4,096 + INDEX, and the loss queues (R353, R355). An entry that is not listed is FREE with the
partition's `genBase`; `retired` holds the RETIRE commands in progress, with whether work was discarded. -/
structure CtxSt where
  tab      : Tab CtxEntry := []
  loss     : Tab (List (BitVec 16 × BitVec 16)) := []
  overflow : Tab (BitVec 15) := []
  stale    : Tab Word := []
  genBase  : Tab (BitVec 4) := []
  retired  : List (Nat × Nat × Bool) := []
  deriving DecidableEq, Repr

/-! ### The vault's key slots (14, R376 to R381) -/

/-- The states of a key slot (R379). -/
inductive SlotState where
  | empty | active | retiring | dead
  deriving DecidableEq, Repr

/-- A key slot: its attribute word's fields (Table 14.4) and its key material. -/
structure Slot where
  usage  : BitVec 5 := 0
  owner  : Nat := 0
  level  : BitVec 3 := 0
  origin : BitVec 2 := 0
  state  : SlotState := .empty
  epoch  : BitVec 16 := 0
  since  : Dword := 0
  key    : BitVec 512 := 0
  deriving DecidableEq, Repr

/-! ### Seams and sweeps (04) -/

/-- The states of a seam (Table 4.2). -/
inductive SeamState where
  | empty | loading | active | sealed | drifting | retiring | dead
  deriving DecidableEq, Repr

/-- The kinds of a seam (Table 4.1). -/
inductive SeamKind where
  | sealed | versioned | bound | plain
  deriving DecidableEq, Repr

/-- The command a BUSY seam is running (R80, R82 to R84); `refill` is an UNSEAL that has swapped its keys and runs its fill. -/
inductive SeamJob where
  | none
  | create (fill : Bool)
  | sealing
  | unseal (fill : Bool)
  | refill
  deriving DecidableEq, Repr

/-- A seam table entry (Table 4.2), with its token bucket (R88), failure window (R98) and drift bookkeeping. `sealAt` is
what had reached each shaft when its SEAL was accepted (R83). -/
structure Seam where
  start    : Nat := 0
  size     : Nat := 0
  kind     : SeamKind := .sealed
  state    : SeamState := .empty
  owner    : Nat := 0
  frozen   : Bool := false
  busy     : Bool := false
  epoch    : BitVec 32 := 0
  sealEp   : BitVec 36 := 0
  pad      : Nat := 0
  hash     : Nat := 0
  nextPad  : Nat := 0
  nextHash : Nat := 0
  maxRate  : Nat := 0
  interval : Nat := 0
  base     : Nat := 0
  transferable : Bool := false
  tokens   : Nat := 0
  fails    : BitVec 11 := 0
  winEnd   : Option Dword := none
  since    : Dword := 0
  job      : SeamJob := .none
  cmdAp    : Nat := 0
  held     : Option Nat := none
  retireAt : Dword := 0
  sealAt   : List Nat := []
  deriving DecidableEq, Repr

/-- A sweep, running or queued at a shaft (R91, Table 4.14). -/
structure Sweep where
  seam  : Nat
  cls   : Nat
  fill  : Bool := false
  start : Nat := 0
  done  : Nat := 0
  begun : Bool := false
  front : Bool := false
  deriving DecidableEq, Repr

/-! ### Operations (09, R225 to R232) -/

/-- An operation on the global address space: the fields of a request packet or slot (Tables 7.4, 8.x, 9.2 to 9.4). -/
structure Op where
  kind    : Nat := 0
  opcode  : Nat := 0
  len     : Nat := 0
  addr    : Nat := 0
  part    : Nat := 0
  ctx     : Option (BitVec 16) := none
  ordered : Bool := false
  cart    : Bool := false
  fmt     : Nat := 0
  poison  : Bool := false
  cartw   : Block := 0
  payload : List Byte := []
  deriving DecidableEq, Repr

/-- Who a line access is for (R103): line k of a home tracker entry, the staging of a cart member, or a member's write at
commit, with the line and the context that R249 names. -/
inductive Src where
  | home (id : Nat) (k : Nat)
  | cart (key : Nat)
  | commit (line part : Nat) (ctx : BitVec 16)
  deriving DecidableEq, Repr

/-- What a read-modify-write does with the old line (R130, R231, R279). -/
inductive Rmw where
  | masked
  | atomic (opcode : Nat) (off : Nat) (operand : List Byte)
  | vector (opcode : Nat) (fmt : Nat) (data : List Byte)
  deriving DecidableEq, Repr

/-- An access waiting or in progress at a shaft. `token` says that it has its write token, `kept` that it was accepted before its
seam began to retire, `no` how many accesses had reached the shaft before it. -/
structure Acc where
  line  : Nat
  part  : Nat
  ctx   : Option (BitVec 16)
  src   : Src
  site  : Option Nat := none
  write : Bool := false
  data  : Line := 0
  mask  : Dword := 0
  rmw   : Option Rmw := none
  token : Bool := false
  kept  : Bool := false
  no    : Nat := 0
  deriving DecidableEq, Repr

/-- A tracker entry (R104): an issued stack read with what its pads and checks use. `old` marks the old-line read of a
partial write or face atomic, whose access it then holds; `pads` is false while its pads are still to come (R35); `no` is the arrival
number of its access. -/
structure Track where
  tag   : Nat
  line  : Nat
  seam  : Nat
  part  : Nat
  ctx   : Option (BitVec 16)
  src   : Src
  site  : Option Nat := none
  padSlot  : Nat
  hashSlot : Nat
  kind  : SeamKind
  ep    : BitVec 4
  ver   : Option (BitVec 44)
  raw   : Option (Line × BitVec 72 × Bool) := none
  old   : Option Acc := none
  stamp : Option Nat := none
  pads  : Bool := true
  no    : Nat := 0
  deriving DecidableEq, Repr

/-- A line of the write buffer (R105): new ciphertext, MAC field and meta byte, and stack writes not yet acknowledged. -/
structure WbLine where
  c    : Line
  mac  : BitVec 56
  meta_ : Byte
  seam : Nat
  ver  : BitVec 44
  padSlot : Nat
  unacked : Nat := 1
  deriving DecidableEq, Repr

/-- A page refresh in progress with its triggering write (R89). -/
structure Refresh where
  seam : Nat
  page : Nat
  i    : Nat
  w    : Acc
  deriving DecidableEq, Repr

/-- An expanded key in a cluster's cache (R17, R18): the vault slot it was expanded from, its key, and the partition that owns it. -/
structure KeyCopy where
  slot : Nat
  key  : BitVec 512
  part : Nat
  deriving DecidableEq, Repr

/-- A memory cluster's or link, port or host cluster's state (R17, R21, R22, R132, Table 5.14). -/
structure Cluster where
  unchecked : Bool := false
  offline   : Bool := false
  spareOut  : Bool := false
  laneOut   : Bool := false
  retired   : Nat := 0
  sample    : Nat := 0
  n         : Nat := 0
  ctxs      : List (Nat × Nat × BitVec 16) := []
  keys      : List KeyCopy := []
  deriving DecidableEq, Repr

/-- Error capture registers (Tables 5.12, 5.13, 6.9, 6.10). -/
structure Capture where
  valid  : Bool := false
  code   : BitVec 16 := 0
  addr   : Nat := 0
  area   : Nat := 0
  uncorr : Bool := false
  deriving DecidableEq, Repr

/-- An entry of a lost-page list (R153). -/
structure LostPage where
  seam : Nat
  page : Nat
  rewritten : Dword := 0
  swept : Bool := false
  deriving DecidableEq, Repr

/-- One shaft: its sweep engine, tracker, write buffer, counter cache, read buffer and registers (04, 05, 06). -/
structure Shaft where
  narrow   : Bool := false
  reserve  : Nat := 0
  run      : Option Sweep := none
  queue    : List Sweep := []
  q        : List Acc := []
  arr      : Nat := 0
  track    : List Track := []
  high     : Nat := 0
  wb       : Tab WbLine := []
  cc       : List Nat := []
  fetch    : List Nat := []
  corrQ    : List Nat := []
  corrWait : List Nat := []
  refresh  : List Refresh := []
  turn     : Nat := 0
  lost     : List LostPage := []
  lostAll  : List Nat := []
  corr     : Word := 0
  uncorr   : Word := 0
  macFail  : Word := 0
  padStall : Word := 0
  ccMiss   : Word := 0
  cap      : Capture := {}
  irqStat  : Word := 0
  irqEn    : Word := 0
  deriving DecidableEq, Repr

/-! ### The verify horizon (05, R119 to R125) -/

/-- A Yebin packet formed at this node: its header fields but SEQ, and its payload (08, Tables 8.2 and 9.2 to 9.4). -/
structure Packet where
  dst     : Nat := 0
  src     : Nat := 0
  kind    : Nat := 0
  opcode  : Nat := 0
  len     : Nat := 0
  part    : Nat := 0
  tag     : Nat := 0
  ctx     : Option (BitVec 16) := none
  addr    : Nat := 0
  fmt     : Nat := 0
  ordered : Bool := false
  poison  : Bool := false
  bcast   : Bool := false
  cartw   : Block := 0
  payload : List Byte := []
  deriving DecidableEq, Repr

/-- What an egress carries (Table 5.4). -/
inductive Cargo where
  | packet (p : Packet)
  | hostWrite (fn : Nat) (addr : Dword) (bytes : List Byte) (chan : Option Nat)
  | record (c : Nat) (addr : Dword) (bytes : List Byte)
  | completion (fn : Nat) (tag : Nat) (status : Nat) (bytes : List Byte) (mmio : Bool)
  | unit (c : Nat) (seq : Dword) (bytes : List Byte)
  | seal (seam : Nat)
  | msix (fn : Nat)
  deriving DecidableEq, Repr

/-- A held egress request (R120, R121). -/
structure Egress where
  point : EgressPoint
  stamp : Nat
  ctx   : Option (BitVec 16)
  cargo : Cargo
  at_   : Nat := 0
  deriving DecidableEq, Repr

/-- The horizon of one partition (R121, Table 5.16). -/
structure Horizon where
  next    : Nat := 0
  opn     : List Nat := []
  held    : List Egress := []
  maxLag  : Nat := 0
  dropped : Word := 0
  deriving DecidableEq, Repr

/-! ### The Inner Store (06) -/

/-- The states of a slice (Table 6.6). -/
inductive SliceState where
  | uninit | ready | gated | failed
  deriving DecidableEq, Repr

/-- A scrub correction table entry (R149). -/
structure ScrubEntry where
  word : Nat
  count : Nat := 1
  deriving DecidableEq, Repr

/-- One slice: state, counters, scrubber, repair; `banks` and `cols` are the spare rows and columns left in each bank (06). -/
structure Slice where
  state  : SliceState := .uninit
  corr   : Word := 0
  uncorr : Word := 0
  passes : BitVec 16 := 0
  pos    : BitVec 10 := 0
  table  : List ScrubEntry := []
  queued : List Nat := []
  fused  : Nat := 0
  soft   : Nat := 0
  spares : Nat := 128
  banks  : List Nat := List.replicate 32 4
  cols   : List Nat := List.replicate 32 2
  deriving DecidableEq, Repr

/-- A read or write waiting for an inner page (R143). -/
structure PageReq where
  key   : Nat
  addr  : Nat
  part  : Nat
  ctx   : Option (BitVec 16)
  src   : Src
  write : Bool := false
  bytes : List (Option Byte) := []
  rmw   : Option Rmw := none
  len   : Nat := 0
  deriving DecidableEq, Repr

/-- The Inner Store: contents by area and the INS_ registers. Counter blocks are keyed by shaft × 2^23 + block, inner pages by
local address, dirty bits by (share × 32 + function) × 2^24 + bit of the function's log; an absent entry is the masked zero of
R145. `dirtyEn` holds HST_DIRTY_p. -/
structure InsSt where
  slices  : Tab Slice := []
  area    : Tab (Nat × Nat) := []
  cb      : Tab Line := []
  pages   : Tab Byte := []
  reqs    : List PageReq := []
  dirty   : List Nat := []
  dirtyEn : Tab (BitVec 17) := []
  zeroing : List Nat := []
  leaseOk : Bool := true
  cap     : Capture := {}
  irqStat : Word := 0
  irqEn   : Word := 0
  nextKey : Nat := 0
  deriving DecidableEq, Repr

/-! ### Chiplet sites (07) -/

/-- The states of a site (Table 7.9). -/
inductive SiteState where
  | unassigned | down | boot | run | resync | disabled | quarantined
  deriving DecidableEq, Repr

/-- A frame sent and retained for replay (R174). -/
structure TxFrame where
  seq   : Dword
  bytes : List Byte
  deriving DecidableEq, Repr

/-- A frame to send: its header's varying fields, its plaintext payload for RSP the request it answers, and the TAG of the
operation whose last response it is (R160 to R168). -/
structure OutFrame where
  kind    : Nat
  tag     : Nat := 0
  status  : Nat := 0
  part    : Nat := 0
  poison  : Bool := false
  payload : List Byte := []
  reqSeq  : Dword := 0
  slot    : Nat := 0
  ctx     : Option (BitVec 16) := none
  ends    : Option Nat := none
  deriving DecidableEq, Repr

/-- An accepted frame, deciphered (R173). -/
structure RxFrame where
  kind    : Nat
  tag     : Nat := 0
  part    : Nat := 0
  poison  : Bool := false
  seq     : Dword := 0
  payload : List Byte := []
  deriving DecidableEq, Repr

/-- An outstanding operation of a shim (R163): its slot, the parts of data still due, and what was made of it. -/
structure SlotOp where
  tag    : Nat
  seq    : Dword
  slot   : Nat
  op     : Op
  need   : Nat := 0
  data   : List Byte := []
  mask   : Dword := 0
  issued : Bool := false
  answered : Bool := false
  status : Nat := 0
  deriving DecidableEq, Repr

/-- One chiplet site (07). Key slots are vault slot numbers; `step` is the step of Table 7.7 reached, `txBase` the first SEQ of the
sending epoch. -/
structure Site where
  state   : SiteState := .unassigned
  cause   : Nat := 0
  desc    : Nat := 0
  linkUp  : Bool := false
  maker   : BitVec 16 := 0
  part    : BitVec 16 := 0
  rev     : BitVec 16 := 0
  svn     : BitVec 16 := 0
  unitId  : Dword := 0
  measurement : BitVec 384 := 0
  transcript  : List Byte := []
  nonce   : BitVec 256 := 0
  th      : List Byte := []
  z       : Option Nat := none
  txK     : Option Nat := none
  rxK     : Option Nat := none
  rxPrev  : Option Nat := none
  step    : Nat := 0
  txBase  : Dword := 0
  txEp    : BitVec 32 := 0
  rxEp    : BitVec 32 := 0
  rxCount : Nat := 0
  txSeq   : Dword := 0
  rxSeq   : Dword := 0
  deriving DecidableEq, Repr

/-- A site's traffic: replay, credits, operations and counters (R171 to R174, R183, Tables 7.13 to 7.20). `kept` are the verified writes
that a quarantine leaves to complete (R182), `chunks` the bootstrap message being received: its code, its bytes, and whether its last
chunk has come (R176), `flit` the positions filled of the flit being formed (R160). -/
structure SiteIo where
  sent    : List TxFrame := []
  rspBuf  : List OutFrame := []
  rspHeld : Nat := 0
  reqOut  : Nat := 0
  dataOut : Nat := 0
  reqGot  : Nat := 0
  dataGot : Nat := 0
  await_  : Bool := false
  flush   : Bool := false
  rx      : List RxFrame := []
  ops     : List SlotOp := []
  kept    : List SlotOp := []
  chunks  : Option (Nat × List Byte × Bool) := none
  flit    : Nat := 0
  high    : Nat := 0
  macFail : Word := 0
  replay  : Word := 0
  replaySent : Word := 0
  stale   : Word := 0
  resync  : Word := 0
  cmdBusy : Bool := false
  cmdDone : Bool := false
  cmdCode : Nat := 0
  irqStat : Word := 0
  irqEn   : Word := 0
  deriving DecidableEq, Repr

/-! ### Requesters and homes (09) -/

/-- An outstanding request of this node (R226): who issued it and how far it has come; `retry` is the reason of the NACK whose retry is
to come, `reason` that of the last NACK (R241), `posted` says that its packet has been released once (R230, R277), and
`irq` names the function whose MSI-X message follows a descriptor's signal (R332). -/
structure Req where
  tag     : Nat
  node    : Nat
  eng     : Engine
  op      : Op
  extTag  : Nat := 0
  posted  : Bool := false
  seq     : Dword := 0
  slot    : Nat := 0
  sent    : Bool := false
  nacks   : Nat := 0
  retry   : Nat := 0
  reason  : Nat := 0
  ordNo   : Nat := 0
  discarded : Bool := false
  acked   : Bool := false
  held    : Bool := false
  irq     : Option Nat := none
  port    : Option Nat := none
  deriving DecidableEq, Repr

/-- An answer that has reached its requester and waits to be matched (R226); `at_` is the line of the operation that this node's own
home found at fault, and `early` says that its home formed it while its context was active, before the verdicts of its lines (R170). -/
structure Answer where
  tag     : Nat
  src     : Nat
  part    : Nat
  addr    : Nat
  kind    : Nat
  opcode  : Nat
  len     : Nat := 0
  poison  : Bool := false
  cartw   : Block := 0
  port    : Option Nat := none
  payload : List Byte := []
  at_     : Nat := 0
  early   : Bool := false
  deriving DecidableEq, Repr

/-- The end of a request of an engine other than a site: kept until the engine's own event takes it up. -/
structure Done where
  eng    : Engine
  extTag : Nat
  ok     : Bool
  code   : Nat := 0
  poison : Bool := false
  data   : List Byte := []
  deriving DecidableEq, Repr

/-- The requester side: outstanding requests, arrived answers, and which (engine, context) saw a failure since its last FENCE. -/
structure ReqSt where
  out     : List Req := []
  answers : List Answer := []
  failed  : List (Engine × Nat × BitVec 16) := []
  fences  : List (Engine × Nat × BitVec 16 × Nat) := []
  done    : List Done := []
  nextNo  : Nat := 1
  deriving DecidableEq, Repr

/-- A request that has reached its home and waits to be admitted (R238). -/
structure Arrival where
  q   : Nat
  src : Nat
  tag : Nat
  op  : Op
  deriving DecidableEq, Repr

/-- A home tracker entry (R236): a request admitted, whether it has been passed on to its shaft, slice or face, what has come back
(line number and bytes), and, while it waits behind a cart lock or is held at a closed target, since when. -/
structure HomeEntry where
  id     : Nat
  q      : Nat
  part   : Nat
  src    : Nat
  tag    : Nat
  op     : Op
  started : Bool := false
  got    : List (Nat × List Byte) := []
  poison : Bool := false
  err    : Nat := 0
  errAt  : Nat := 0
  site   : Option Nat := none
  target : Option Nat := none
  since  : Nat := 0
  answered : Bool := false
  deriving DecidableEq, Repr

/-- A ticket (R239). -/
structure Ticket where
  q    : Nat
  part : Nat
  no   : Nat
  src  : Nat
  tag  : Nat
  reserved : Bool := false
  held : Option Op := none
  deriving DecidableEq, Repr

/-- The home trackers: entries, tickets and their counts, order breaks, line locks, registers (R236 to R244, Tables 9.13 to 9.15). `vals`
holds the stack lines and `words` the inner-page words whose current value the tracker keeps (R237), `freed` the lead roles' entries, by
quadrant and partition, that have become free in the command under way (R239). -/
structure HomeSt where
  arr     : List Arrival := []
  entries : List HomeEntry := []
  tickets : List Ticket := []
  issued  : Tab Nat := []
  served  : Tab Nat := []
  breaks  : List (Nat × Nat × Nat × Nat) := []
  high    : Tab Nat := []
  nacks   : Tab Word := []
  quota   : Tab (Nat × Nat × Nat) := []
  nextId  : Nat := 1
  vals    : Tab Line := []
  words   : List Nat := []
  freed   : List (Nat × Nat) := []
  deriving DecidableEq, Repr

/-! ### The fabric (08) -/

/-- The states of a port (Table 8.18). -/
inductive PortState where
  | unused | down | hello | up | disputed | miswired
  deriving DecidableEq, Repr

/-- A packet framed by a receiving port (R194, R195): both header words, payload and MAC as they came. -/
structure RxPkt where
  w0      : Block
  w1      : Dword
  payload : List Byte
  mac     : Dword
  delivered : Bool := false
  stamp   : Option Nat := none
  sentAt  : List (BitVec 12) := []
  deriving DecidableEq, Repr

/-- A packet accepted for this node's link-control engine (R211), deciphered. -/
structure CtrlMsg where
  opcode  : Nat
  src     : Nat
  clear   : Bool
  bcast   : Bool := false
  chunk   : Nat := 0
  last    : Bool := true
  payload : List Byte
  sentAt  : List (BitVec 12) := []
  deriving DecidableEq, Repr

/-- What waits in a port's output queue for its slot or for credits (R191, R206, R209): a packet of this node, or bytes that go on the
wire as they are, with their partition, payload length and lane. -/
inductive Queued where
  | own (p : Packet)
  | raw (part payload vl : Nat) (bytes : List Byte)
  deriving DecidableEq, Repr

/-- TIME_SYNC fields kept for one port (R414). -/
structure TimeSync where
  seq    : Dword := 0
  lastTx : Dword := 0
  prevTx : Dword := 0
  rxSeq  : Dword := 0
  rxTime : Dword := 0
  deriving DecidableEq, Repr

/-- One fabric port: link state, framing, credits (R188 to R191, Table 8.18). `lostUnits` counts the units passed over since framing was
lost (R190, R209). -/
structure Port where
  state    : PortState := .unused
  reason   : Nat := 0
  slotted  : Bool := false
  owner    : Nat := 0
  peer     : Nat := 0
  peerPort : Nat := 0
  slots    : List Nat := []
  slotIdx  : Nat := 0
  cellsTx  : Dword := 0
  cellsRx  : Dword := 0
  sent     : List (BitVec 12) := [0, 0, 0]
  limit    : List (BitVec 12) := [0, 0, 0]
  got      : List (BitVec 12) := [0, 0, 0]
  partial_ : List Block := []
  lost     : Bool := true
  lostUnits : Nat := 0
  rx       : List RxPkt := []
  ctrl     : List CtrlMsg := []
  tx       : List Queued := []
  lane     : Nat := 0
  deriving DecidableEq, Repr

/-- A port's link protocol and counters (R201, R212 to R214, Table 8.13). -/
structure PortIo where
  annOk    : Bool := false
  fails    : List Nat := []
  integAt  : Option Nat := none
  macFail  : Word := 0
  cwLost   : Word := 0
  replay   : Word := 0
  drop     : Word := 0
  sync     : TimeSync := {}
  rfSent   : List (Nat × Nat) := []
  deriving DecidableEq, Repr

/-- A route entry (Table 8.17), and the ports whose neighbour has sent ROUTE_FAIL for its node (R207). -/
structure Route where
  valid  : Bool := false
  direct : Bool := false
  firstR : Nat := 31
  altR   : Nat := 31
  firstC : Nat := 31
  altC   : Nat := 31
  rfail  : Bool := false
  cfail  : Bool := false
  failed : List Nat := []
  deriving DecidableEq, Repr

/-- A node entry (Table 8.19). -/
structure NodeEnt where
  listed   : Bool := false
  member   : Bool := false
  dead     : Bool := false
  timeouts : Nat := 0
  seen     : Bool := false
  cause    : Nat := 0
  parts    : BitVec 6 := 0
  incarn   : Word := 0
  deriving DecidableEq, Repr

/-- The key set of one direction of one flow for one generation and epoch (R197): the vault slots of K_pad and H. -/
structure FlowKey where
  part : Nat
  src  : Nat
  dst  : Nat
  gen  : Word
  epoch : Word
  slot : Nat
  old  : Bool := false
  deriving DecidableEq, Repr

/-- The slot-pad key of a slotted port, direction (`tx`: this node sends) and partition, of a generation (R209). -/
structure PadKey where
  port : Nat
  tx   : Bool
  part : Nat
  gen  : Word
  slot : Nat
  deriving DecidableEq, Repr

/-- A flow this node sends on (R199). -/
structure FlowTx where
  part  : Nat
  dst   : Nat
  seq   : BitVec 62 := 0
  unanswered : Nat := 0
  deriving DecidableEq, Repr

/-- A flow this node receives: the replay window (R200). `hi` is one above the highest SEQ accepted, 0 when none. -/
structure FlowRx where
  part  : Nat
  src   : Nat
  bcast : Bool := false
  gen   : Word := 0
  hi    : Nat := 0
  map   : BitVec 1024 := 0
  deriving DecidableEq, Repr

/-- A formation in progress (R215 to R219): the candidate this node answers, and, at the foreman, what it has collected. -/
structure Candidate where
  gen     : Word
  rank    : Nat
  foreman : Nat
  mine    : Bool := false
  nonce   : BitVec 256 := 0
  start   : List Byte := []
  evidence : List Byte := []
  confirmed : Bool := false
  keysIn  : Bool := false
  incarn  : Word := 0
  accepted : List (Nat × List Byte × Word) := []
  confirms : List Nat := []
  join    : Bool := false
  switch  : Dword := 0
  deriving DecidableEq, Repr

/-- The fabric: routes, nodes, flows, the domain (08). `nextMembers` are the members of a generation to come, `joins` the joiners this node
has sent KEYS, `rfAt` when ROUTE_FAIL was last sent for a destination, `hostIdx` the place in the rotation of host slots. -/
structure FabSt where
  foreman : Nat := 0xFF
  dstate  : Nat := 0
  frank   : Nat := 0
  self    : Bool := false
  gen     : Word := 0
  genSeen : Word := 0
  nextGen : Option (Word × Dword) := none
  nextMembers : BitVec 256 := 0
  ports   : Tab Port := []
  pio     : Tab PortIo := []
  routes  : Tab Route := []
  nodes   : Tab NodeEnt := []
  keys    : List FlowKey := []
  dkeys   : List (Nat × Word × Nat) := []
  pads    : List PadKey := []
  tx      : List FlowTx := []
  rx      : List FlowRx := []
  epoch   : Tab Word := []
  oldEpoch : Tab Dword := []
  cand    : Option Candidate := none
  joinPos : Nat := 0
  joins   : List (Nat × List Byte × Word) := []
  rfAt    : Tab Nat := []
  hostSlot : Nat := 0
  hostIdx : Nat := 0
  digest  : BitVec 256 := 0
  compat  : BitVec 256 := 0
  compatOff : Bool := false
  deriving DecidableEq, Repr

/-! ### Carts (09, R244 to R250) -/

/-- A member of a cart at its issuer: its slot's tag, its operation, its home, the TAG of the request that carries it, and its vote
(the CODE of Table 9.9, 0 while none has come). -/
structure CartMember where
  tag    : Nat
  op     : Op
  node   : Nat
  q      : Nat
  vote   : Nat := 0
  fault  : Nat := 0
  data   : List Byte := []
  poison : Bool := false
  deriving DecidableEq, Repr

/-- How far a cart has come at its issuer. -/
inductive CartPhase where
  | opened | closing | voting | deciding | failed
  deriving DecidableEq, Repr

/-- A cart at its issuing site (R244, R246). `quiet` says that its results are discarded (R357). -/
structure Cart where
  id       : Nat
  site     : Nat
  part     : Nat
  ctx      : BitVec 16
  members  : List CartMember := []
  endTag   : Option Nat := none
  phase    : CartPhase := .opened
  decision : Nat := 0
  tries    : Nat := 0
  quiet    : Bool := false
  deriving DecidableEq, Repr

/-- How far a member has come at its home. -/
inductive StagePhase where
  | arrived | reading | staged | done
  deriving DecidableEq, Repr

/-- A member of a cart at its home (R244, R246, R248): the request that carried it, its lock and its staged line. -/
structure Staged where
  key    : Nat
  issuer : Nat
  cart   : Nat
  q      : Nat
  part   : Nat
  src    : Nat
  tag    : Nat
  op     : Op
  solo   : Bool := false
  phase  : StagePhase := .arrived
  locked : Bool := false
  lead   : Bool := false
  old    : List Byte := []
  line   : List Byte := []
  poison : Bool := false
  at_    : Nat := 0
  asked  : Bool := false
  deriving DecidableEq, Repr

/-- An entry of the decision log (R246): the code decided, the other homes still to answer DONE, all of them, when it was written, the
share whose cart decision log holds it, how many of its two copies are uncorrectable (Tables 6.2, 6.3), and whether the lead has counted
the cart indeterminate (R247). -/
structure Decision where
  issuer : Nat
  cart   : Nat
  q      : Nat
  part   : Nat
  code   : Nat
  waits  : List (Nat × Nat) := []
  homes  : List (Nat × Nat) := []
  at_    : Nat := 0
  share  : Nat := 0
  bad    : Nat := 0
  lost   : Bool := false
  deriving DecidableEq, Repr

/-- The carts of a node (09, Tables 9.12, 9.16, 9.17). -/
structure CartSt where
  carts  : List Cart := []
  staged : List Staged := []
  log    : List Decision := []
  commit : Word := 0
  abort  : Word := 0
  indet  : Word := 0
  nextId : Nat := 0
  nextKey : Nat := 0
  deriving DecidableEq, Repr

/-! ### Faces (10) -/

/-- The states of a target (Table 10.1). -/
inductive TgtState where
  | empty | opened | closed | failed
  deriving DecidableEq, Repr

/-- A target (R253 to R264): its ARM fields, its accumulators (an absent one is the identity) or stored units, and the home
tracker entries waiting to be applied or held. -/
structure Target where
  state    : TgtState := .empty
  op       : Nat := 0
  fmt      : Nat := 0
  win      : Nat := 0
  units    : Nat := 0
  share    : Nat := 0
  bufOff   : Nat := 0
  expected : Nat := 0
  arrived  : Nat := 0
  tally    : Nat := 0
  flags    : BitVec 8 := 0
  acc      : Tab Word := []
  store    : Tab Line := []
  wait     : List Nat := []
  clearing : Option Nat := none
  deriving DecidableEq, Repr

/-- A gather in progress (R273, R277): its parameters, the cache lines it still waits for, whether it has been read out, the writes still to be issued (global
address and data), and those issued, by issue number. -/
structure Gather where
  task   : Nat
  target : Nat
  ctx    : BitVec 16
  part   : Nat
  offset : Nat := 0
  count  : Nat := 0
  fmt    : Nat := 0
  clear  : Bool := false
  dest   : Nat := 0
  addr   : Nat := 0
  need   : List Nat := []
  read   : Bool := false
  poison : Bool := false
  todo   : List (Nat × List Byte) := []
  issued : List Nat := []
  deriving DecidableEq, Repr

/-- The faces: targets by number, units applied per face, lines each cache holds and lines being fetched (R253, R254). A line is
numbered target × 2^15 + line of the buffer. `stale` lists the buffers, by share, first line and lines, that a target has used since the
share was cleared (R146, R260). -/
structure FaceSt where
  targets : Tab Target := []
  applied : Tab Word := []
  cache   : Tab (List Nat) := []
  fetch   : Tab (List Nat) := []
  gathers : List Gather := []
  stale   : List (Nat × Nat × Nat) := []
  deriving DecidableEq, Repr

/-! ### Tallies and the Winder (11) -/

/-- A tally record (Table 11.1). -/
structure TallyRec where
  spent   : Bool := false
  orphan  : Bool := false
  role    : BitVec 2 := 0
  partner : BitVec 16 := 0
  bound   : BitVec 16 := 0
  stale   : BitVec 16 := 0
  refs    : BitVec 12 := 0
  value   : Dword := 0
  deriving DecidableEq, Repr

/-- A registered wait (R289, R295): the tally, the threshold and the WAIT_GE it answers, in registration order. -/
structure Registration where
  tally : Nat
  th    : Dword
  src   : Nat
  part  : Nat
  tag   : Nat
  ctx   : Option (BitVec 16) := none
  deriving DecidableEq, Repr

/-- An object that references are held on (R337). -/
inductive RefObj where
  | queue (c : Nat)
  | tally (n : Nat)
  | seam (n : Nat)
  deriving DecidableEq, Repr

/-- Who holds a reference (Table 12.6). -/
inductive RefHolder where
  | ctx (p : Nat) (tag : BitVec 16)
  | owner (p : Nat) (tag : BitVec 16)
  | desc (c : Nat) (seq : Nat)
  | task (t : Nat)
  deriving DecidableEq, Repr

/-- The tallies of a package: records, registrations, quotas for remote waits keyed by quadrant × 8 + partition, stale counts per
partition, audit counters (R299). -/
structure TalSt where
  recs  : Tab TallyRec := []
  regs  : List Registration := []
  quota : Tab Nat := []
  stale : Tab Word := []
  audit : Tab Dword := []
  refs  : List (RefHolder × RefObj) := []
  deriving DecidableEq, Repr

/-- The states of a task (Table 11.3). -/
inductive TaskState where
  | empty | stopped | ready | blocked | done | halted
  deriving DecidableEq, Repr

/-- A Winder task (R303 to R307, Tables 11.21, 11.22): its program, where it is, and what its step waits for. -/
structure Task where
  state  : TaskState := .empty
  part   : Nat := 0
  ctx    : BitVec 16 := 0
  canary : BitVec 16 := 0
  prog   : List Block := []
  step   : Nat := 0
  iter   : Dword := 0
  loop   : Word := 0
  fault  : Nat := 0
  block  : Nat := 0
  req    : Option Nat := none
  ind    : Option Nat := none
  moveSeqs : List Nat := []
  stopReq : Bool := false
  since  : Nat := 0
  nextPtr : Nat := 0
  deriving DecidableEq, Repr

/-- A LOAD in progress (R303): its arguments, the lines of the program still to be asked for, and those that have come. -/
structure Load where
  task   : Nat
  part   : Nat
  ctx    : BitVec 16
  canary : BitVec 16
  src    : Nat
  n      : Nat
  todo   : List Nat := []
  got    : Tab (List Byte) := []
  bad    : Bool := false
  deriving DecidableEq, Repr

/-- The Winder: tasks, the round-robin position of each partition's issue lane (R308), and the LOAD in progress of each instance. -/
structure WndSt where
  tasks : Tab Task := []
  lane  : Tab Nat := []
  loads : Tab Load := []
  deriving DecidableEq, Repr


/-! ### The mover (12) -/

/-- The states of a mover channel (Table 12.1). -/
inductive ChanState where
  | unbound | stopped | run | draining | halted | orphaned
  deriving DecidableEq, Repr

/-- A fetched descriptor (Table 12.2): its eight words, the ring index it came from (none for a Winder descriptor), the task it came
from, its number, and the fault that its checks found (R319, R320). -/
structure Desc where
  words : List Dword := []
  idx   : Option Nat := none
  task  : Option Nat := none
  seq   : Nat := 0
  bad   : Nat := 0
  deriving DecidableEq, Repr

/-- How far an active descriptor has come. -/
inductive MovPhase where
  | waiting | param | run | sealing | finished
  deriving DecidableEq, Repr

/-- A page translation of a descriptor (R318): for its destination or source, the virtual page, and the page it answers. -/
structure Trans where
  dst  : Bool
  page : Nat
  at_  : Option Nat := none
  deriving DecidableEq, Repr

/-- The active set (R313, R321 to R329): the descriptor with its effective parameters, the next source line to ask for, source lines
held for a wrapped unit, lines waiting for their destination (offset or address, bytes, poison), translations, host reads outstanding
(source offset and length), units formed and held, destination lines sent or answered. -/
structure MovAct where
  d      : Desc := {}
  len    : Nat := 0
  src    : Nat := 0
  dst    : Nat := 0
  phase  : MovPhase := .run
  order  : Nat := 0
  rd     : Nat := 0
  got    : Tab (List Byte × Bool) := []
  outq   : List (Nat × List Byte × Bool) := []
  trans  : List Trans := []
  hostRd : List (Nat × Nat × Option Nat) := []
  units  : Nat := 0
  heldU  : Nat := 0
  acks   : Nat := 0
  done   : Nat := 0
  status : Nat := 0
  poison : Bool := false
  deriving DecidableEq, Repr

/-- A Winder MOVE step presented to a channel (R317): its task, descriptors still to be fetched and to complete, and whether the step
waits for their transfers. -/
structure MoveStep where
  task     : Nat
  left     : Nat
  undone   : Nat
  complete : Bool := false
  addr     : Nat := 0
  deriving DecidableEq, Repr

/-- A mover channel (R312 to R316, Tables 12.9 to 12.17). `consumed` counts ring slots consumed since BIND; `cmdAp` is the instance of
a command in progress, `abortTo` the ring index that an abort in progress names (none: the active descriptor), `lastCtx` the context of
the last record committed, `awaitRec` the ring index whose held record an ABORT waits for, `ring` the page of a ring at a device address
whose translation was asked for, with its answer (R318). -/
structure Chan where
  state : ChanState := .unbound
  part  : Nat := 0
  ctx   : BitVec 16 := 0
  fault : Nat := 0
  space : Bool := false
  fn    : Nat := 0
  log2  : Nat := 0
  base  : Dword := 0
  head  : Nat := 0
  tail  : Nat := 0
  fetchAt : Nat := 0
  consumed : Nat := 0
  act   : Option MovAct := none
  queue : List Desc := []
  moves : List MoveStep := []
  ignored : BitVec 8 := 0
  done  : Word := 0
  bytes : Word := 0
  cmdAp : Option Nat := none
  awaitRec : Option Nat := none
  destroying : Bool := false
  abortTo : Option Nat := none
  lastCtx : BitVec 16 := 0
  ring  : Option (Nat × Option Nat) := none
  deriving DecidableEq, Repr

/-- The mover (12): its channels, the order in which active descriptors became ready, what a SEAL of a channel came to, export counts
and highest imported SEQ of migration slots, and wrapped units released from the horizon. -/
structure MovSt where
  chans   : Tab Chan := []
  next    : Nat := 0
  sealRes : Tab Nat := []
  export_ : Tab Dword := []
  import_ : Tab Dword := []
  units   : List (Nat × Dword × List Byte) := []
  deriving DecidableEq, Repr

/-! ### The host side (13) -/

/-- An IDE stream (R345, Table 13.18): its owner, whether it is Secure, its key sets' slots by (key set, sub-stream, direction), and
the sub-streams and directions for which K_SET_GO has come; `sent` counts the TLPs sent on each sub-stream (R345). -/
structure IdeStream where
  valid  : Bool := false
  secure : Bool := false
  owner  : Nat := 0
  kset   : Nat := 0
  keys   : List ((Nat × Nat × Nat) × Nat) := []
  go     : List (Nat × Nat × Nat) := []
  sent   : List Dword := [0, 0, 0]
  deriving DecidableEq, Repr

/-- An SPDM session of a DOE instance (R348): the instance, 0 PF0 and n PFn, the session, whether FINISH has come, its key slot. -/
structure Session where
  doe  : Nat
  id   : Nat
  open_ : Bool := false
  slots : List Nat := []
  deriving DecidableEq, Repr

/-- A pending OFFER (R368): its nonce, its bytes 0 to 4,431, and when it was made. -/
structure Offer where
  nonce : BitVec 256
  head  : List Byte
  at_   : Nat
  deriving DecidableEq, Repr

/-- The host side (13). Power states (0 D0, 1 D3hot, 2 D3cold) and MMIO contexts (CTX_FUNC) are kept by function number, partition × 32 +
VF, PF0 being 0; streams 0 to 15 are the selective ones, 16 the link stream. -/
structure HstSt where
  fwaits : List FrontWait := []
  bwaits : List Bar2 := []
  power   : Tab Nat := []
  pme     : Tab Nat := []
  up      : Bool := false
  downs   : BitVec 16 := 0
  tdi     : Tab Nat := []
  cause   : Tab (BitVec 16) := []
  streams : Tab IdeStream := []
  sess    : List Session := []
  nextSess : Nat := 1
  func    : Tab (BitVec 16) := []
  removing : List (Nat × Nat × Dword) := []
  dirtyPend : Tab (BitVec 17) := []
  offers  : Tab Offer := []
  flr     : List FlrFn := []
  deriving DecidableEq, Repr

/-! ### Fuses, the vault's engines and life-cycle (14) -/

/-- A state record slot (R396, R398): whether any fuse of it is blown, and the fields of its record, valid when CHECK matches. -/
structure LcRecord where
  used    : Bool := false
  valid   : Bool := false
  state   : Nat := 0
  counter : Nat := 0
  auth    : BitVec 384 := 0
  deriving DecidableEq, Repr

/-- The fuses of the unit (Table 14.1), with the life-cycle state in force and the identity hash derived at start (R374, R395). -/
structure Fuses where
  unitId : Dword := 0
  identity : BitVec 256 := 0
  lifecycle : Nat := 0
  counter : Nat := 0
  records : List LcRecord := List.replicate 8 {}
  scrap   : Bool := false
  next    : Nat := 0
  prog    : Option (LcRecord × Nat) := none
  progDone : Bool := false
  tamper  : Bool := false
  unsigned : Bool := false
  deriving DecidableEq, Repr

/-- A KMAC job of the check engine (R386, R387): permutations still to run of its total, and mismatches met. -/
structure ChkJob where
  left  : Nat
  total : Nat
  bad   : Nat := 0
  deriving DecidableEq, Repr

/-- A unit of the public-key engine (R389): whether an operation runs, its priority, and the priorities waiting in arrival order. -/
structure PkeUnit where
  busy  : Bool := false
  prio  : Nat := 0
  queue : List Nat := []
  deriving DecidableEq, Repr

/-- The entropy source (0 start-up test, 1 healthy, 2 restarting, 3 failed), DRBG, check engine and public-key engine (14). -/
structure VltSt where
  entropy  : Nat := 0
  restarts : BitVec 16 := 0
  fails    : List Nat := []
  reqs     : Nat := 0
  waiting  : Nat := 0
  chkFailed : Bool := false
  jobs     : Tab (List ChkJob) := []
  running  : Option Nat := none
  chkHist  : List Nat := []
  chkJobs  : Word := 0
  mismatch : Word := 0
  pke      : Tab PkeUnit := []
  pkeOps   : Word := 0
  pkeRestart : Word := 0
  deriving DecidableEq, Repr

/-! ### The Lease in force and starting up (15) -/

/-- A MOVE that waits for its quadrant to be powered (R412, R459): the resource's kind and number, its new owner, whether seams are
transferred. -/
structure MoveReq where
  kind  : Nat
  idx   : Nat
  owner : Nat
  xfer  : Bool
  deriving DecidableEq, Repr

/-- Lease and start state (15). `lease` carries the assignment in force, MOVEs included; `bytes` is the copy in slice 0. `halted` says that
the start stopped in its step for good, `flagged` that every slice is initialised anew at the next warm start (R456), `stepAt` when the
step in progress began, `prepared` the flow epochs derived ahead of a ROTATE_FLOW. -/
structure LseSt where
  lease  : Option Lease := none
  bytes  : List Byte := []
  shape  : Nat := 0
  node   : Nat := 0
  orders : List Order := []
  code    : Nat := 0
  section_ : Nat := 0
  index   : Nat := 0
  offset  : Nat := 0
  signed  : Bool := false
  full    : Bool := false
  digestOk : Bool := false
  steps   : Tab Nat := []
  stepAt  : Nat := 0
  late    : BitVec 8 := 0
  halted  : Bool := false
  heldWarm : Bool := false
  flagged : Bool := false
  move    : Option MoveReq := none
  prepared : Tab Word := []
  deriving DecidableEq, Repr

/-! ### Observation (17) -/

/-- Observation (R440 to R449). Counters are keyed by group × 256 + unit; `armed` is the armed time with its SOURCE, FREEZE_ID and
origin; `peeks` the lines under PEEK by aperture; `data` OBS_PEEK_DATA by aperture, `dataOf` the partition whose line it holds, 0 for none. -/
structure ObsSt where
  strobe  : Bool := false
  accept  : Bool := true
  cnt     : Tab Dword := []
  frz     : Tab Dword := []
  audit   : Tab Dword := []
  frozen  : Bool := false
  ready   : Bool := false
  overflow : Bool := false
  late    : Bool := false
  source  : Nat := 0
  tvalid  : Bool := false
  origin  : Nat := 0
  id      : Nat := 0
  time    : Dword := 0
  missed  : Word := 0
  made    : Nat := 0
  armed   : Option (Nat × Dword × Nat × Nat) := none
  seen    : List (Nat × Nat) := []
  snap    : List Block := []
  image   : Tab Dword := []
  peeks   : Tab Nat := []
  data    : Tab (List Word) := []
  dataOf  : Tab Nat := []
  deriving DecidableEq, Repr

/-- Owners of stacks, sites, faces and mover channels, 0 the block (R12, Table 1.2). -/
structure Own where
  stack : Tab Nat := []
  site  : Tab Nat := []
  face  : Tab Nat := []
  chan  : Tab Nat := []
  deriving DecidableEq, Repr

/-- What the block shows outside: register responses, messages at its ports, frames, packets, TLPs, in the order produced. A TLP shows
the stream it is sent under; its bytes are then ciphertext. -/
inductive Output where
  | regRead (ap : Aperture) (off : Nat) (v : Word)
  | regError (ap : Aperture) (off : Nat)
  | hubRead (shaft tag line : Nat)
  | hubWrite (shaft line : Nat) (data : Line) (side : Side)
  | frame (site : Nat) (bytes : List Byte)
  | codeword (port : Nat) (hdr : BitVec 20) (units : List Block)
  | hostWrite (fn : Nat) (stream : Option Nat) (addr : Dword) (bytes : List Byte)
  | hostCpl (fn tag status : Nat) (stream : Option Nat) (bytes : List Byte)
  | frontEnd (queue code value : Nat)
  | msix (fn : Nat) (stream : Option Nat)
  | pme (fn : Nat)
  | doe (fn : Nat) (code : Nat) (bytes : List Byte)
  | flrDone (fn : Nat)
  | hostRead (chan fn : Nat) (stream : Option Nat) (addr : Dword) (len : Nat)
  | translate (chan : Nat) (dst : Bool) (page : Nat)
  | descRead (chan : Nat) (stream : Option Nat) (addr : Dword)
  | blobRead (part : Nat) (stream : Option Nat) (addr : Dword)
  deriving DecidableEq, Repr

/-- The state of the DG3. -/
structure State where
  pending : List Instr := []
  out     : List Output := []
  fresh   : Nat := 0
  glb     : Glb := {}
  cmds    : Tab Inst := []
  mbx     : Tab Mbx := []
  pins    : Pins := {}
  clk     : Clock := {}
  fuse    : Fuses := {}
  lse     : LseSt := {}
  own     : Own := {}
  flt     : Flt := {}
  ctx     : CtxSt := {}
  slots   : Tab Slot := []
  seams   : Tab Seam := []
  budget  : Tab Nat := []
  shafts  : Tab Shaft := []
  clus    : Tab Cluster := []
  hz      : Tab Horizon := []
  ins     : InsSt := {}
  sites   : Tab Site := []
  sio     : Tab SiteIo := []
  fab     : FabSt := {}
  req     : ReqSt := {}
  home    : HomeSt := {}
  cart    : CartSt := {}
  face    : FaceSt := {}
  tal     : TalSt := {}
  wnd     : WndSt := {}
  mov     : MovSt := {}
  hst     : HstSt := {}
  vlt     : VltSt := {}
  obs     : ObsSt := {}
  deriving DecidableEq, Repr

/-- The faults a step can stop with. No meaning of this model stops so: every condition the spec calls a fault is the block's own
fault record and its effect, a next state. -/
inductive Fault where
  /-- Raised by no command (safe). -/
  | none
  deriving DecidableEq, Repr

/-- Why a command has no meaning. -/
inductive Refusal where
  /-- Raised by an arm of `exec` for a command the model does not give a meaning yet (safe). -/
  | notModelled (mnemonic : String)
  deriving DecidableEq, Repr

/-- The block before the release of dg_por_n: every field at its reset value. -/
def State.reset : State := {}

end Sys2Proof.Machine
end

