-- ==== Sys2Proof/Machine/Ops.lean ====
section
/-!
DEFINITION. Machine/Ops.lean: the named operations every family shares: command instances and interrupts, counters, time, the fault
log (R427, R428), context loss (R355), the vault's slots (R376, R379) and random values.
-/

namespace Sys2Proof.Machine

/-! ### Small things -/

/-- A counter that saturates at all ones (R47). -/
def satInc {w : Nat} (x : BitVec w) : BitVec w := if x = BitVec.allOnes w then x else x + 1

/-- ⌈a / b⌉. -/
def ceilDiv (a b : Nat) : Nat := (a + b - 1) / b

/-- A number added to a rising list, once. -/
def insNat (k : Nat) : List Nat → List Nat
  | [] => [k]
  | j :: t => if k = j then j :: t else if k < j then k :: j :: t else j :: insNat k t

/-- The first of `n` numbers from `i` that satisfies `p`. -/
def firstFrom (p : Nat → Bool) : Nat → Nat → Option Nat
  | 0, _ => none
  | n + 1, i => if p i then some i else firstFrom p n (i + 1)

/-- An item put in its place in a list that rises by a key, after its equals. -/
def insertBy {α : Type} (f : α → Nat) (a : α) : List α → List α
  | [] => [a]
  | b :: t => if f a < f b then a :: b :: t else b :: insertBy f a t

/-- A list sorted by a key, equals in their order. -/
def sortBy {α : Type} (f : α → Nat) (l : List α) : List α := l.foldl (fun acc a => insertBy f a acc) []

/-- A bit field of a line with its value replaced. -/
def setBits (x : Line) (lo w v : Nat) : Line :=
  (x &&& ~~~ (BitVec.ofNat 512 (2 ^ w - 1) <<< lo)) ||| (BitVec.ofNat 512 (v % 2 ^ w) <<< lo)

/-- A word with bit `b` set. -/
def setBit (x : Word) (b : Nat) : Word := x ||| (1 <<< b)

/-- The partitions of a package (R12). -/
def allParts : List Nat := [1, 2, 3, 4, 5, 6]

/-! ### Outputs, free values, time -/

/-- Something shown at a port. -/
def State.emit (s : State) (o : Output) : State := { s with out := s.out ++ [o] }

/-- The DRBG's next output (R384). -/
def State.rand (s : State) : BitVec 512 := Config.drbg s.fresh

/-- The state after a free value has been used. -/
def State.used (s : State) : State := { s with fresh := s.fresh + 1 }

/-- The shift clock no earlier than `t`: an event due at `t` has come, so the clock has reached it (DEDUCED, log 2). -/
def State.reach (s : State) (t : Dword) : State :=
  if s.clk.shift.toNat < t.toNat then { s with clk := { s.clk with shift := t } } else s

/-- Block time in nanoseconds since event P (R6). -/
def State.blockNs (s : State) : Nat := (s.clk.cyc - s.clk.cycP) * 5 / 8

/-! ### Always-on counters (R440, Table 17.1) -/

/-- An always-on counter: `n` more, saturating. -/
def State.bump (s : State) (group unit n : Nat) : State :=
  let k := group * 256 + unit
  let v := (s.obs.cnt.getD k 0).toNat + n
  { s with obs := { s.obs with cnt := s.obs.cnt.put k (BitVec.ofNat 64 (min v (2 ^ 64 - 1))) } }

/-! ### Command instances and interrupts (R80, Tables 4.12, 4.17 and their like) -/

/-- The number of a block's instances in the table. -/
def Blk.num : Blk → Nat
  | .seam => 0 | .face => 1 | .tal => 2 | .wnd => 3 | .mov => 4 | .ctx => 5 | .hst => 6 | .vlt => 7 | .lcs => 8
  | .lse => 9 | .flt => 10 | .obs => 11 | .yf => 12

/-- An aperture's instance: 0 operator, 1 to 6 a partition, 7 Lamp-private, 8 debug (R53, R65). -/
def apIdx : Aperture → Nat
  | .operator => 0
  | .part p => p
  | .vf p _ => 16 + p
  | .lamp => 7
  | .debug => 8

/-- The instance of block `b` at aperture index `a`. -/
def State.inst (s : State) (b : Blk) (a : Nat) : Inst := s.cmds.getD (b.num * 32 + a) {}

/-- An instance rewritten. -/
def State.modInst (s : State) (b : Blk) (a : Nat) (f : Inst → Inst) : State :=
  { s with cmds := s.cmds.modD (b.num * 32 + a) {} f }

/-- An argument register of an instance, by its offset. -/
def State.arg (s : State) (b : Blk) (a off : Nat) : Word := (s.inst b a).regs.getD off 0

/-- An interrupt status bit of one instance. -/
def State.irq (s : State) (b : Blk) (a bit : Nat) : State :=
  s.modInst b a fun i => { i with irqStat := setBit i.irqStat bit }

/-- The instances that see an event of partition `p`: operator, Lamp, debug, and the partition's own (R102 and its like). -/
def seeing (p : Nat) : List Nat := if p = 0 then [0, 7, 8] else [0, p, 7, 8]

/-- An interrupt status bit in every instance that sees partition `p`. -/
def State.irqVis (s : State) (b : Blk) (p bit : Nat) : State := (seeing p).foldl (fun s a => s.irq b a bit) s

/-- A command taken up: BUSY, its unit shown (R80). DONE and CODE keep what the last command left until it ends (DESIGN CHOICE, log 80). -/
def State.cmdBusy (s : State) (b : Blk) (a unit : Nat) : State :=
  s.modInst b a fun i => { i with busy := true, unit := unit }

/-- A command completed or refused: DONE and its code, CMD_DONE pending (R80). -/
def State.cmdEnd (s : State) (b : Blk) (a unit code : Nat) : State :=
  s.modInst b a fun i =>
    { i with busy := false, done := true, code := code, unit := unit, irqStat := setBit i.irqStat 0 }

/-- A command written while another runs: ignored, CODE 0x1 (R80). -/
def State.cmdIgnored (s : State) (b : Blk) (a : Nat) : State := s.modInst b a fun i => { i with code := 1 }

/-- A command register written with an OP of no action: nothing happens, but that while a command runs CODE shows it (R80). -/
def State.noAction (s : State) (b : Blk) (a : Nat) : State := if (s.inst b a).busy then s.cmdIgnored b a else s

/-- A command that first meets the busy check of its instance (R80). -/
def State.command (s : State) (b : Blk) (a : Nat) (f : State → State) : State :=
  if (s.inst b a).busy then s.cmdIgnored b a else f s

/-! ### Fault records (R426 to R428, Tables 16.2 and 16.3) -/

/-- The TYPE of a unit (Table 16.3). -/
def UnitType.num : UnitType → Nat
  | .shaft => 1 | .cluster => 2 | .site => 3 | .port => 4 | .node => 5 | .face => 6 | .target => 7 | .channel => 8
  | .task => 9 | .tally => 10 | .home => 11 | .slot => 12 | .function => 13 | .stream => 14 | .slice => 15 | .seam => 16
  | .order => 17 | .section_ => 18

/-- KIND of a record's OBJECT. -/
def Obj.kind : Obj → Nat
  | .none => 0
  | .line .. => 1
  | .unit .. => 2
  | .window .. => 3

/-- The 42 bits of OBJECT. -/
def Obj.bits : Obj → BitVec 42
  | .none => 0
  | .line a n => BitVec.ofNat 4 (a >>> 36) ++ BitVec.ofNat 8 n ++ BitVec.ofNat 30 (a >>> 6)
  | .unit t i sec => BitVec.ofNat 6 t.num ++ (0 : BitVec 4) ++ BitVec.ofNat 16 sec ++ BitVec.ofNat 16 i
  | .window l c => (0 : BitVec 15) ++ BitVec.ofNat 11 l ++ (0 : BitVec 9) ++ BitVec.ofNat 7 c

/-- A fault record as the log would hold it now (Table 16.2). -/
def State.record (s : State) (code scope part : Nat) (ctx : Option (BitVec 16)) (o : Obj) : Block :=
  let ns : Nat := if s.clk.valid then s.clk.shift.toNat else s.blockNs
  BitVec.ofNat 44 (ns >>> 10) ++ BitVec.ofNat 16 code ++ (ctx.getD 0) ++ BitVec.ofNat 3 part ++ BitVec.ofNat 3 scope
    ++ BitVec.ofBool s.clk.valid ++ BitVec.ofBool ctx.isSome ++ BitVec.ofNat 2 o.kind ++ o.bits

/-- A record appended: the log keeps the 1,024 newest, newest first, and counts what it overwrites (R427). -/
def Flt.append (f : Flt) (r : Block) : Flt :=
  { f with log := (r :: f.log).take 1024, next := f.next + 1, lost := if f.log.length < 1024 then f.lost else satInc f.lost }

/-- A raised fault recorded, with the RECORD interrupt of the instances that see it (R427, Table 16.16). -/
def State.raise (s : State) (code scope part : Nat) (ctx : Option (BitVec 16)) (o : Obj) : State :=
  { s with flt := s.flt.append (s.record code scope part ctx o) }.irqVis .flt part 1

/-- A fault that is only logged, of the block or of a partition (SCOPE 0). -/
def State.logged (s : State) (code part : Nat) (o : Obj) : State := s.raise code 0 part none o

/-- The DRBG serves generate requests (R385). -/
def State.drbgOk (s : State) : Bool := s.vlt.entropy != 3

/-- What one of the block's own protocols does that needs a key: refused with 0x8005 while the DRBG is stopped (R385, DESIGN CHOICE, log 64). -/
def State.withDrbg (s t : State) : State := if s.drbgOk then t else s.logged 0x8005 0 .none

/-- A fault reported to a partition (SCOPE 4). -/
def State.toPart (s : State) (code part : Nat) (o : Obj) : State := s.raise code 4 part none o

/-- A fault raised to the operator as an alarm (R428). -/
def State.alarm (s : State) (code : Nat) (o : Obj) : State := (s.raise code 0 0 none o).irq .flt 0 4

/-! ### Contexts (R353 to R355) -/

/-- The table key of a context tag of partition `p` (R353). -/
def ctxKey (p : Nat) (tag : BitVec 16) : Nat := p * 4096 + tag.toNat % 4096

/-- The entry a tag of partition `p` names. -/
def State.ctxOf (s : State) (p : Nat) (tag : BitVec 16) : CtxEntry := s.ctx.tab.getD (ctxKey p tag) { gen := s.ctx.genBase.getD p 0 }

/-- The tag names an entry of that generation in a given state. -/
def State.ctxIs (s : State) (st : CtxState) (p : Nat) (tag : BitVec 16) : Bool :=
  (s.ctxOf p tag).state == st && (s.ctxOf p tag).gen == tag.extractLsb' 12 4

/-- A submission under this tag is accepted (R354). -/
def State.ctxOk (s : State) (p : Nat) (tag : BitVec 16) : Bool := s.ctxIs .active p tag

/-- A submission refused under R354 is counted in CTX_COUNT_p.STALE. -/
def State.stale (s : State) (p : Nat) : State :=
  { s with ctx := { s.ctx with stale := s.ctx.stale.modD p 0 satInc } }

/-- A loss queued, or counted when the queue holds 64 (R355). -/
def State.pushLoss (s : State) (p : Nat) (tag : BitVec 16) (code : BitVec 16) : State :=
  if (s.ctx.loss.getD p []).length < 64 then
    { s with ctx := { s.ctx with loss := s.ctx.loss.modD p [] fun l => l ++ [(tag, code)] } }.irqVis .ctx p 1
  else
    (({ s with ctx := { s.ctx with overflow := s.ctx.overflow.modD p 0 satInc } }.irqVis .ctx p 2).logged 0x500A p .none)

/-- A registered wait withdrawn by its request's TAG: the registration of a local tally goes, or the wait that has not yet reached its
home (R293). -/
def State.unregister (s : State) (tag : Nat) : State :=
  { s with
    tal := { s.tal with regs := s.tal.regs.filter fun g => g.src != s.lse.node || g.tag != tag }
    home := { s.home with arr := s.home.arr.filter fun x => x.src != s.lse.node || x.tag != tag } }

/-- A wait withdrawn: its local registration goes and it ends here; a wait on another node keeps its TAG, its answer discarded (R293). -/
def State.withdrawWait (s : State) (tag : Nat) : State :=
  match s.req.out.find? (·.tag == tag) with
  | none => s
  | some r =>
    if r.node = s.lse.node then
      let u := s.unregister tag
      { u with req := { u.req with out := u.req.out.filter (·.tag != tag), answers := u.req.answers.filter (·.tag != tag) } }
    else { s with req := { s.req with out := s.req.out.map fun (r : Req) => if r.tag = tag then { r with discarded := true } else r } }

/-- A task halted by a fault (Table 11.3): HALTED, the code in WND_TASK_t.FAULT, WND_IRQ_STATUS.HALTED, its wait withdrawn (R293,
Table 11.5). -/
def State.haltTask (s : State) (t code : Nat) : State :=
  let k := s.wnd.tasks.getD t {}
  match k.state with
  | .ready | .blocked =>
    let s := (k.req.map s.withdrawWait).getD s
    let k' : Task := { k with state := .halted, fault := code, block := 0, req := none, ind := none, stopReq := false }
    { s with wnd := { s.wnd with tasks := s.wnd.tasks.put t k' } }.irqVis .wnd k.part 2
  | _ => s

/-- What a lost context ends at once: its tasks halt, its registrations are withdrawn, and its waits end without a value, to be
answered with STATUS 0x02 (R170, R293, R355, Table 11.5). -/
def State.ctxEnds (s : State) (p : Nat) (tag : BitVec 16) (code : Nat) : State :=
  let t := (s.wnd.tasks.filter fun (_, k) => k.part == p && k.ctx == tag).foldl (fun s (n, _) => s.haltTask n code) s
  let waits := t.req.out.filter fun r => r.op.kind == 3 && r.op.opcode == 3 && r.op.part == p && r.op.ctx == some tag && !r.held
  let answer (r : Req) : Answer :=
    { tag := r.tag, src := r.node, part := p, addr := r.op.addr, kind := 1, opcode := 5, len := 1, payload := List.replicate 8 0 }
  waits.foldl (fun s r => { s.unregister r.tag with req := { s.req with answers := s.req.answers ++ [answer r] } }) t

/-- A fault that loses its context: recorded with SCOPE 2; an ACTIVE entry becomes LOST with its first fault and enters the loss
queue, its tasks and waits end; on any other entry nothing changes (R355). -/
def State.loseCtx (s : State) (p : Nat) (tag : BitVec 16) (code : Nat) (o : Obj) : State :=
  let t := s.raise code 2 p (some tag) o
  if t.ctxOk p tag then
    let e := { t.ctxOf p tag with state := .lost, first := BitVec.ofNat 16 code }
    let t := { t with ctx := { t.ctx with tab := t.ctx.tab.put (ctxKey p tag) e } }
    (t.pushLoss p tag (BitVec.ofNat 16 code)).ctxEnds p tag code
  else t

/-- A fault that keeps its context (SCOPE 1). -/
def State.keepCtx (s : State) (p : Nat) (tag : BitVec 16) (code : Nat) (o : Obj) : State := s.raise code 1 p (some tag) o

/-- A fault that loses its context; where no context is known here, as for another node's request, it is reported to the
partition with CTX_VALID = 0 (R123, DEDUCED, log 11). -/
def State.loseOpt (s : State) (p : Nat) (tag : Option (BitVec 16)) (code : Nat) (o : Obj) : State :=
  match tag with
  | some c => s.loseCtx p c code o
  | none => s.toPart code p o

/-- The same for a fault that keeps its context. -/
def State.keepOpt (s : State) (p : Nat) (tag : Option (BitVec 16)) (code : Nat) (o : Obj) : State :=
  match tag with
  | some c => s.keepCtx p c code o
  | none => s.toPart code p o

/-! ### The vault's slots (R376 to R380) -/

/-- A key slot. -/
def State.slot (s : State) (n : Nat) : Slot := s.slots.getD n {}

/-- A slot rewritten. -/
def State.setSlot (s : State) (n : Nat) (k : Slot) : State := { s with slots := s.slots.put n k }

/-- A slot that some seam holds as its next pad or hash slot, until it is dead (R77, R376). -/
def State.slotHeld (s : State) (n : Nat) : Bool :=
  s.seams.any fun (_, e) => (e.state != .empty || e.busy) && e.state != .dead && (e.nextPad == n || e.nextHash == n)

/-- The lowest EMPTY slot from 16 on that no seam holds and that is not in `skip` (R376). -/
def State.freeSlot (s : State) (skip : List Nat) : Option Nat :=
  firstFrom (fun n => (s.slot n).state == .empty && !s.slotHeld n && !skip.contains n) 4080 16

/-- A key written into a slot with its attribute word, in one cycle (R379). -/
def State.putKey (s : State) (n : Nat) (usage : BitVec 5) (owner : Nat) (level : BitVec 3) (origin : BitVec 2)
    (epoch : BitVec 16) (key : BitVec 512) : State :=
  s.setSlot n { usage, owner, level, origin, state := .active, epoch, key }

/-- A generated key (R77, R384). -/
def State.genKey (s : State) (n : Nat) (usage : BitVec 5) (owner : Nat) (level : BitVec 3) (epoch : BitVec 16) : State :=
  (s.putKey n usage owner level 1 epoch s.rand).used

/-- ACTIVE to RETIRING (R379). -/
def State.retireSlot (s : State) (n : Nat) : State :=
  if (s.slot n).state = .active then s.setSlot n { s.slot n with state := .retiring, since := s.clk.shift } else s

/-- A cluster without its expanded copies of a slot's key. -/
def Cluster.forget (k : Cluster) (n : Nat) : Cluster := { k with keys := k.keys.filter (·.slot != n) }

/-- To DEAD: the key is overwritten with zeros, and its expanded copies are invalidated (R19, R379). -/
def State.killSlot (s : State) (n : Nat) : State :=
  if (s.slot n).state = .active ∨ (s.slot n).state = .retiring then
    { s.setSlot n { s.slot n with state := .dead, key := 0 } with clus := s.clus.map fun (c, k) => (c, k.forget n) }
  else s

/-- Several slots zeroised. -/
def State.killSlots (s : State) (l : List Nat) : State := l.foldl State.killSlot s

/-- A slot's first 32 bytes, as an AES-256 key. -/
def State.keyBytes (s : State) (n : Nat) : List Byte := (leBytes 64 (s.slot n).key.toNat).take 32

/-- The units a mask of n bits names. -/
def bitsOf {w : Nat} (m : BitVec w) : List Nat := (List.range w).filter fun i => m.getLsbD i

/-- A slot's first 16 bytes, as a GHASH subkey (R3, R111). -/
def State.keyBlock (s : State) (n : Nat) : Block := bytesBlock ((leBytes 64 (s.slot n).key.toNat).take 16)

/-! ### The Lease's records for this node -/

/-- The Lease in force, or an empty one. -/
def State.lease (s : State) : Lease := s.lse.lease.getD {}

/-- The shapes of this node. -/
def State.shapes (s : State) : List Shape := s.lease.shapes.filter fun x => x.shape == s.lse.shape

/-- The shape of partition `p` on this node, empty when the Lease defines none. -/
def State.shapeOf (s : State) (p : Nat) : Shape := (s.shapes.find? fun x => x.part == p).getD {}

/-- Partition `p` is defined. -/
def State.defined (s : State) (p : Nat) : Bool := s.shapes.any fun x => x.part == p

/-- The owner of a stack, site, face or mover channel. -/
def State.stackOwner (s : State) (k : Nat) : Nat := s.own.stack.getD k 0
/-- The owner of a site. -/
def State.siteOwner (s : State) (t : Nat) : Nat := s.own.site.getD t 0
/-- The owner of a face. -/
def State.faceOwner (s : State) (f : Nat) : Nat := s.own.face.getD f 0
/-- The owner of a mover channel. -/
def State.chanOwner (s : State) (c : Nat) : Nat := s.own.chan.getD c 0

/-! ### Clusters (R17, R18, R21, R24, R25, R30) -/

/-- The partitions that share the host cluster's slots (Table 1.5). -/
def State.hostParts (s : State) : List Nat := (s.shapes.filter fun x => x.hostSlots != 0).map (·.part)

/-- The partition that owns a cluster at this moment: its shaft's, site's or port's, and on a slotted port and at the host cluster that
of the current slot (R24). -/
def State.clusterOwner (s : State) (c : Nat) : Nat :=
  if c < 48 then s.stackOwner (c / 4)
  else if c < 88 then s.siteOwner ((c - 48) / 5)
  else if c < 112 then
    let q := s.fab.ports.getD (c - 88) {}
    if q.slotted then q.slots.getD q.slotIdx 0 else q.owner
  else s.fab.hostSlot

/-- The entries of a cluster's key cache that one partition may fill: fixed shares where partitions take turns (R25). -/
def State.keyShare (s : State) (c : Nat) : Nat :=
  if c < 88 then 64
  else if c < 112 then
    let q := s.fab.ports.getD (c - 88) {}
    if q.slotted then 64 / max 1 (q.slots.filter (· != 0)).eraseDups.length else 64
  else 64 / max 1 s.hostParts.length

/-- A key expanded into a cluster's cache (R18). A full share gives up one of its entries, which the spec does not name. -/
def State.cacheKey (s : State) (c n : Nat) : State :=
  let k := s.clus.getD c {}
  let part := (s.slot n).owner
  let new : KeyCopy := { slot := n, key := (s.slot n).key, part }
  let mine := k.keys.filter fun x => s.keyShare c == 64 || x.part == part
  if k.keys.contains new then s
  else if mine.length < s.keyShare c then { s with clus := s.clus.put c { k with keys := new :: k.keys } }
  else
    let keys := match mine[Config.freeNat s.fresh % mine.length]? with
      | some x => k.keys.erase x
      | none => k.keys
    { s with clus := s.clus.put c { k with keys := new :: keys } }.used

/-- Work of a cluster: the keys of the slots it computes under, its lane-cycles (R440, DESIGN CHOICE, log 47), and the context whose
operation passes through it, with the sample count it passed under (R21). -/
def State.passCluster (s : State) (c part cycles : Nat) (ctx : Option (BitVec 16)) (slots : List Nat) : State :=
  let t := slots.foldl (fun s n => s.cacheKey c n) (s.bump 0x03 c cycles)
  match ctx with
  | none => t
  | some x =>
    let add (k : Cluster) : Cluster :=
      if k.ctxs.contains (k.n, part, x) then k else { k with ctxs := (k.n, part, x) :: k.ctxs }
    { t with clus := t.clus.modD c {} add }

/-! ### The host link (R345, R346, R359, R360) -/

/-- Partition p is confidential. -/
def State.confidential (s : State) (p : Nat) : Bool :=
  (s.lease.shapes.any fun x => x.shape == s.lse.shape && x.part == p && !x.openKind)

/-- A Secure selective stream of the partition. -/
def State.secureStream (s : State) (p : Nat) : Option Nat :=
  (List.range 16).find? fun k => (s.hst.streams.getD k {}).secure && (s.hst.streams.getD k {}).owner == p

/-- An unsigned field of n bytes at an offset, least significant byte first. -/
def leAt (b : List Byte) (off n : Nat) : Nat := ofLe ((b.drop off).take n)

/-- The Secure stream a TLP of the partition goes under, the link stream for the block's own (R346). -/
def State.hostStream (s : State) (p : Nat) : Option Nat :=
  if p = 0 then (if (s.hst.streams.getD 16 {}).secure then some 16 else none) else s.secureStream p

/-- A TLP of the partition may cross the link now: the link is up, the host cluster is in the partition's slot, and a confidential
partition has a Secure stream (R24, R25, R346). The block's own TLPs leave in any slot (DESIGN CHOICE, log 66). -/
def State.hostWay (s : State) (p : Nat) : Bool :=
  s.hst.up && (p == 0 || s.fab.hostSlot == p) && (!s.confidential p || (s.secureStream p).isSome)

/-- Host-bound data of the partition may leave: its function is in D0 and, in a confidential partition, its TDI is in RUN (R16, R346,
R359). -/
def State.hostOpen (s : State) (p : Nat) : Bool :=
  s.hostWay p && s.hst.power.getD (p * 32) 0 == 0 && (!s.confidential p || s.hst.tdi.getD p 0 == 2)

/-- The IDE pad of n bytes: AES-256 in counter mode from 2, under the initial value of a sub-stream and its invocation count
(PRESUMED, PCIe IDE's AES-GCM, PRESUMED, log 67). -/
def idePad (key : List Byte) (sub : Nat) (count : Dword) (n : Nat) : List Byte :=
  let iv (i : Nat) : Block := BitVec.ofNat 4 (8 + sub) ++ (0 : BitVec 28) ++ count ++ BitVec.ofNat 32 (i + 2)
  (((List.range ((n + 15) / 16)).map fun i => blockBytes (aes256 key (iv i))).flatten).take n

/-- A host-bound TLP: under the partition's stream its bytes leave enciphered by the host cluster, and a partition without one sends it
clear (R9, R30, R346). `sub` is 0 for a posted, 1 for a non-posted TLP and 2 for a completion. -/
def State.toHost (s : State) (p sub : Nat) (ctx : Option (BitVec 16)) (bytes : List Byte) (o : Option Nat → List Byte → Output) : State :=
  match s.hostStream p with
  | none => s.emit (o none bytes)
  | some k =>
    let x := s.hst.streams.getD k {}
    match x.keys.find? fun y => y.1 == (x.kset, sub, 1) with
    | none => s
    | some (_, n) =>
      let count := x.sent.getD sub 0 + 1
      let t := s.passCluster 112 p (bytes.length / 16 + 1) ctx [n]
      let x' := { x with sent := x.sent.set sub count }
      { t with hst := { t.hst with streams := t.hst.streams.put k x' } }.emit
        (o (some k) (xorBytes bytes (idePad (s.keyBytes n) sub count bytes.length)))

/-- A completion to a host request of a function. -/
def State.cpl (s : State) (fn tag status : Nat) (bytes : List Byte) (ctx : Option (BitVec 16)) : State :=
  s.toHost (fn / 32) 2 ctx bytes fun k b => .hostCpl fn tag status k b

/-- PME asked of the hub for PFn, with its cause (R360). -/
def State.pme (s : State) (p cause : Nat) : State :=
  ({ s with hst := { s.hst with pme := s.hst.pme.put p cause } }.irqVis .hst p 1).emit (.pme (p * 32))

end Sys2Proof.Machine
end

