-- ==== Sys2Proof/Machine/Operands.lean ====
section
/-!
DEFINITION. Machine/Operands.lean: the element formats and the arithmetic of the faces (10, R256 to R276) and the scalar atomics
(R229, R230). A finite value is kept exactly, as a signed integer times a power of two, and rounded once.
-/

namespace Sys2Proof.Machine

/-! ### Exact values -/

/-- The sign-magnitude reading of bits in a binary format of `eb` exponent and `mb` fraction bits, finite codes only. -/
def decodeFin (eb mb bias : Nat) (bits : Nat) : Bool × Nat × Int :=
  let e := bits / 2 ^ mb % 2 ^ eb
  let f := bits % 2 ^ mb
  let neg := bits / 2 ^ (mb + eb) % 2 == 1
  if e = 0 then (neg, f, 1 - (bias : Int) - mb) else (neg, f + 2 ^ mb, (e : Int) - bias - mb)

/-- m · 2^e rounded to nearest, ties to even, to a multiple of 2^q: the multiple. -/
def roundShift (m : Nat) (e q : Int) : Nat :=
  if q ≤ e then m * 2 ^ (e - q).toNat
  else
    let d := (q - e).toNat
    let n := m / 2 ^ d
    let r := m % 2 ^ d
    if 2 * r > 2 ^ d ∨ (2 * r = 2 ^ d ∧ n % 2 = 1) then n + 1 else n

/-- The magnitude code of m · 2^e rounded to nearest even in a format with gradual underflow; a code beyond the format's largest
says that the value overflows. -/
def roundCode (mb bias m : Nat) (e : Int) : Nat :=
  if m = 0 then 0
  else
    let emin : Int := 1 - (bias : Int)
    let q : Int := max (e + (Nat.log2 m : Int)) emin - mb
    roundShift m e q + (q - (emin - mb)).toNat * 2 ^ mb

/-! ### fp32 (R268, R270) -/

/-- The canonical NaN. -/
def nan32 : Word := 0x7FC00000
/-- A NaN. -/
def isNan32 (a : Word) : Bool := decide (a.toNat % 2 ^ 31 > 0x7F800000)
/-- An infinity. -/
def isInf32 (a : Word) : Bool := decide (a.toNat % 2 ^ 31 = 0x7F800000)
/-- A signed magnitude code as fp32. -/
def mk32 (neg : Bool) (code : Nat) : Word := BitVec.ofNat 32 (code + (if neg then 2 ^ 31 else 0))

/-- An exact value as fp32, rounded; the flag says a finite value became an infinity. -/
def to32 (neg : Bool) (m : Nat) (e : Int) : Word × Bool :=
  let c := roundCode 23 127 m e
  if 0x7F800000 ≤ c then (mk32 neg 0x7F800000, true) else (mk32 neg c, false)

/-- Target flags as FACE_TGT_STATUS orders them from bit 21 up: OUT_OVF, OUT_SAT, WRAP, SAT, MX_OVF, OVF, NAN, POISON. -/
abbrev Flags := BitVec 8

/-- OUT_OVF. -/
def fOutOvf : Flags := 0x01
/-- OUT_SAT. -/
def fOutSat : Flags := 0x02
/-- WRAP. -/
def fWrap : Flags := 0x04
/-- SAT. -/
def fSat : Flags := 0x08
/-- MX_OVF. -/
def fMxOvf : Flags := 0x10
/-- OVF. -/
def fOvf : Flags := 0x20
/-- NAN. -/
def fNan : Flags := 0x40
/-- POISON. -/
def fPoison : Flags := 0x80

/-- fp32 addition, round to nearest even, with the flags it raises (R270). -/
def add32 (a b : Word) : Word × Flags :=
  if isNan32 a || isNan32 b then (nan32, fNan)
  else if isInf32 a then (if isInf32 b && a != b then (nan32, fNan) else (a, 0))
  else if isInf32 b then (b, 0)
  else
    let (na, ma, ea) := decodeFin 8 23 127 a.toNat
    let (nb, mb, eb) := decodeFin 8 23 127 b.toNat
    let e := min ea eb
    let x : Int := (if na then -1 else 1) * (ma * 2 ^ (ea - e).toNat : Nat)
    let y : Int := (if nb then -1 else 1) * (mb * 2 ^ (eb - e).toNat : Nat)
    let t := x + y
    if t = 0 then (mk32 (na && nb) 0, 0)
    else
      let (r, o) := to32 (decide (t < 0)) t.natAbs e
      (r, if o then fOvf else 0)

/-- The order of fp32 values with −0 below +0 (R230). -/
def ord32 (a : Word) : Int := if a.msb then -(a.toNat % 2 ^ 31 : Nat) - 1 else a.toNat

/-- The lesser fp32 value; a NaN gives the canonical NaN. -/
def min32 (a b : Word) : Word := if isNan32 a || isNan32 b then nan32 else if ord32 a ≤ ord32 b then a else b
/-- The greater fp32 value; a NaN gives the canonical NaN. -/
def max32 (a b : Word) : Word := if isNan32 a || isNan32 b then nan32 else if ord32 b ≤ ord32 a then a else b

/-! ### Formats (Table 10.2, R257, R258) -/

/-- Elements of a 64-byte unit; 0 for a reserved code. -/
def elems (f : Nat) : Nat :=
  match f with
  | 0 | 0xA | 0xB => 16
  | 1 | 2 | 5 | 6 => 32
  | 3 | 4 | 8 | 9 => 64
  | 7 => 96
  | _ => 0

/-- An integer format. -/
def isIntFmt (f : Nat) : Bool := decide (8 ≤ f) && decide (f ≤ 0xB)
/-- An MX format. -/
def isMx (f : Nat) : Bool := decide (5 ≤ f) && decide (f ≤ 7)

/-- Two codes match (R258). -/
def fmtMatch (f g : Nat) : Bool :=
  f == g || (f == 8 && g == 9) || (f == 9 && g == 8) || (f == 0xA && g == 0xB) || (f == 0xB && g == 0xA)

/-- The n bytes at offset i of a unit, as a number. -/
def unitNat (u : List Byte) (i n : Nat) : Nat := ofLe ((u.drop i).take n)

/-- Element i of a unit and its block's scale byte (R257). -/
def element (f : Nat) (u : List Byte) (i : Nat) : Nat × Nat :=
  match f with
  | 0 | 0xA | 0xB => (unitNat u (4 * i) 4, 0)
  | 1 | 2 => (unitNat u (2 * i) 2, 0)
  | 5 | 6 => (unitNat u i 1, unitNat u 32 1)
  | 7 => (unitNat u (i / 2) 1 / 16 ^ (i % 2) % 16, unitNat u (48 + i / 32) 1)
  | _ => (unitNat u i 1, 0)

/-- The bytes of an MX unit that hold no element or scale are zero (R257). -/
def paddingOk (f : Nat) (u : List Byte) : Bool :=
  match f with
  | 5 | 6 => (u.drop 33).all (· == 0)
  | 7 => (u.drop 51).all (· == 0)
  | _ => true

/-- An exact MX product as fp32: infinity with MX_OVF beyond the largest finite value (R268). -/
def mxProduct (neg : Bool) (m : Nat) (e : Int) (s : Nat) : Word × Flags :=
  let (v, o) := to32 neg m (e + s - 127)
  (v, if o then fMxOvf else 0)

/-- Conversion of one element into its accumulator value (R268). -/
def toAcc (f e s : Nat) : Word × Flags :=
  let canon (r : Word × Flags) : Word × Flags := if isNan32 r.1 then (nan32, r.2 ||| fNan) else r
  let ieee (eb mb bias : Nat) (sc : Option Nat) : Word × Flags :=
    let x := e / 2 ^ mb % 2 ^ eb
    let neg := e / 2 ^ (mb + eb) % 2 == 1
    if x = 2 ^ eb - 1 then (if e % 2 ^ mb = 0 then (mk32 neg 0x7F800000, 0) else (nan32, 0))
    else
      let (n, m, k) := decodeFin eb mb bias e
      match sc with
      | none => ((to32 n m k).1, 0)
      | some s => mxProduct n m k s
  let e4m3 (sc : Option Nat) : Word × Flags :=
    if e % 128 = 127 then (nan32, 0)
    else
      let (n, m, k) := decodeFin 4 3 7 e
      match sc with
      | none => ((to32 n m k).1, 0)
      | some s => mxProduct n m k s
  match f with
  | 0 => canon (BitVec.ofNat 32 e, 0)
  | 1 => canon (BitVec.ofNat 32 (e * 65536), 0)
  | 2 => canon (ieee 5 10 15 none)
  | 3 => canon (e4m3 none)
  | 4 => canon (ieee 5 2 15 none)
  | 5 => canon (if s = 255 then (nan32, 0) else e4m3 (some s))
  | 6 => canon (if s = 255 then (nan32, 0) else ieee 5 2 15 (some s))
  | 7 => canon (if s = 255 then (nan32, 0) else
      let (n, m, k) := decodeFin 2 1 1 e
      mxProduct n m k s)
  | 8 | 9 => ((BitVec.ofNat 8 e).signExtend 32, 0)
  | _ => (BitVec.ofNat 32 e, 0)

/-- The identity of an operation (Table 10.6). -/
def identity (op : Nat) (int : Bool) : Word :=
  match op, int with
  | 0, false => 0x80000000
  | 1, false => 0x7F800000
  | 2, false => 0xFF800000
  | 1, true => 0x7FFFFFFF
  | 2, true => 0x80000000
  | _, _ => 0

/-- One accumulator updated with one value under the contribution's FORMAT (R269, R271). -/
def accumulate (op f : Nat) (a x : Word) : Word × Flags :=
  if isIntFmt f then
    match op with
    | 0 =>
      let wide := a.toInt + x.toInt
      if wide = (a + x).toInt then (a + x, 0)
      else if f = 9 ∨ f = 0xB then ((if wide < 0 then 0x80000000 else 0x7FFFFFFF), fSat)
      else (a + x, fWrap)
    | 1 => (if a.toInt ≤ x.toInt then a else x, 0)
    | _ => (if x.toInt ≤ a.toInt then a else x, 0)
  else
    let (r, fl) := match op with
      | 0 => add32 a x
      | 1 => (min32 a x, 0)
      | _ => (max32 a x, 0)
    if isNan32 r then (nan32, fl ||| fNan) else (r, fl)

/-- An fp32 value narrowed: its code, saturating or overflowing at the format's largest (R275). -/
def narrow (mb bias maxCode over_ : Nat) (m : Nat) (e : Int) : Nat × Bool :=
  let c := roundCode mb bias m e
  if maxCode < c then (over_, true) else (c, false)

/-- Conversion of an accumulator out, for the formats without blocks (R275); `sh` divides by 2^sh first (R276). -/
def fromAcc (g : Nat) (a : Word) (sh : Int) : Nat × Flags :=
  let (neg, m, e0) := decodeFin 8 23 127 a.toNat
  let e := e0 - sh
  let fin := !isNan32 a && !isInf32 a
  let sg (w : Nat) : Nat := if neg then 2 ^ (w - 1) else 0
  let out (w nan inf : Nat) (r : Nat × Bool) (fl : Flags) : Nat × Flags :=
    if isNan32 a then (nan, 0) else if !fin then (inf + sg w, 0) else (r.1 + sg w, if r.2 then fl else 0)
  match g with
  | 0 => (a.toNat, 0)
  | 1 => out 16 0x7FC0 0x7F80 (narrow 7 127 0x7F7F 0x7F80 m e) fOutOvf
  | 2 => out 16 0x7E00 0x7C00 (narrow 10 15 0x7BFF 0x7C00 m e) fOutOvf
  | 3 | 5 => out 8 0x7F 0x7E (narrow 3 7 0x7E 0x7E m e) fOutSat
  | 4 | 6 => out 8 0x7E 0x7C (narrow 2 15 0x7B 0x7C m e) fOutOvf
  | 7 => out 4 0 7 (narrow 1 1 7 7 m e) fOutSat
  | 8 => (a.toNat % 256, 0)
  | 9 =>
    if a.toInt < -128 then (0x80, fOutSat) else if 127 < a.toInt then (0x7F, fOutSat) else (a.toNat % 256, 0)
  | _ => (a.toNat, 0)

/-- floor(log2) of the magnitude of a finite non-zero fp32 value. -/
def log32 (a : Word) : Int :=
  let (_, m, e) := decodeFin 8 23 127 a.toNat
  e + Nat.log2 m

/-- The scale byte, the element codes and the flags of one block of 32 accumulators (R276). -/
def mxBlock (g : Nat) (l : List Word) : Nat × List Nat × Flags :=
  if l.any fun a => isNan32 a || isInf32 a then (0xFF, l.map fun _ => 0, fNan)
  else if l.all fun a => a.toNat % 2 ^ 31 == 0 then (0x7F, l.map fun _ => 0, 0)
  else
    let big := l.foldl (fun m a => max m (a.toNat % 2 ^ 31)) 0
    let emax : Int := if g = 7 then 2 else if g = 5 then 8 else 15
    let x : Int := max (-127) (min 127 (log32 (BitVec.ofNat 32 big) - emax))
    let r := l.map fun a => fromAcc g a x
    ((x + 127).toNat, r.map (·.1), r.foldl (fun f e => f ||| e.2) 0)

/-- Nibbles packed two to a byte, the first in the low half. -/
def packNibbles : List Nat → List Byte
  | a :: b :: t => BitVec.ofNat 8 (a + 16 * b) :: packNibbles t
  | [a] => [BitVec.ofNat 8 a]
  | [] => []

/-- One 64-byte unit of a format formed from its accumulators (R257, R275, R276). -/
def packUnit (g : Nat) (l : List Word) : List Byte × Flags :=
  let r := l.map fun a => fromAcc g a 0
  let fl := r.foldl (fun f e => f ||| e.2) 0
  match g with
  | 5 | 6 =>
    let (s, e, f) := mxBlock g l
    (e.map (BitVec.ofNat 8) ++ BitVec.ofNat 8 s :: List.replicate 31 0, f)
  | 7 =>
    let b := (chunks 32 3 l).map (mxBlock 7)
    (packNibbles ((b.map (·.2.1)).flatten) ++ b.map (fun x => BitVec.ofNat 8 x.1) ++ List.replicate 13 0,
      b.foldl (fun f e => f ||| e.2.2) 0)
  | 1 | 2 => ((r.map fun x => leBytes 2 x.1).flatten, fl)
  | 3 | 4 | 8 | 9 => (r.map fun x => BitVec.ofNat 8 x.1, fl)
  | _ => ((r.map fun x => leBytes 4 x.1).flatten, fl)

/-- The accumulator values of a unit of a format. -/
def unitAccs (f : Nat) (u : List Byte) : List (Word × Flags) :=
  (List.range (elems f)).map fun i => toAcc f (element f u i).1 (element f u i).2

/-- The operation of a vector opcode: VADD, VMIN, VMAX (Table 9.2). -/
def vectorOp (opcode : Nat) : Nat := opcode - 0x30

/-- A vector operation on one line of ordinary memory (R280). -/
def vectorLine (opcode f : Nat) (line operand : List Byte) : List Byte :=
  let r := List.zipWith (fun a x => (accumulate (vectorOp opcode) f a.1 x.1).1) (unitAccs f line) (unitAccs f operand)
  (packUnit f r).1

/-! ### Scalar atomics (R229, R230, Table 9.5) -/

/-- The fetching form of a scalar atomic's opcode; posted forms lie 0x40 above. -/
def atomicBase (opcode : Nat) : Option Nat :=
  if 0x10 ≤ opcode ∧ opcode ≤ 0x21 then some opcode
  else if 0x50 ≤ opcode ∧ opcode ≤ 0x61 then some (opcode - 0x40) else none

/-- Operand bytes of a scalar atomic. -/
def atomicSize (base : Nat) : Nat :=
  match base with
  | 0x11 | 0x15 | 0x16 | 0x1A | 0x1B | 0x1E | 0x20 => 8
  | 0x21 => 16
  | _ => 4

/-- Length code of a scalar atomic. -/
def atomicLen (base : Nat) : Nat :=
  match base with
  | 0x20 => 2
  | 0x21 => 3
  | _ => 1

/-- The payload bytes an atomic uses; the rest must be zero (Table 9.5). -/
def atomicUsed (base : Nat) : Nat :=
  match base with
  | 0x1F => 8
  | 0x20 => 16
  | 0x21 => 32
  | b => atomicSize b

/-- The new value of the operand-size field from its old value and the payload (R230). -/
def atomicNew (base : Nat) (old payload : List Byte) : List Byte :=
  let n := atomicSize base
  let x := ofLe old
  let y := ofLe (payload.take n)
  let sx : Int := if 2 * x < 2 ^ (8 * n) then x else (x : Int) - 2 ^ (8 * n)
  let sy : Int := if 2 * y < 2 ^ (8 * n) then y else (y : Int) - 2 ^ (8 * n)
  match base with
  | 0x10 | 0x11 => leBytes n (x + y)
  | 0x12 => leBytes 4 (add32 (BitVec.ofNat 32 x) (BitVec.ofNat 32 y)).1.toNat
  | 0x13 | 0x15 => if sx ≤ sy then old else payload.take n
  | 0x14 | 0x16 => if x ≤ y then old else payload.take n
  | 0x17 => leBytes 4 (min32 (BitVec.ofNat 32 x) (BitVec.ofNat 32 y)).toNat
  | 0x18 | 0x1A => if sy ≤ sx then old else payload.take n
  | 0x19 | 0x1B => if y ≤ x then old else payload.take n
  | 0x1C => leBytes 4 (max32 (BitVec.ofNat 32 x) (BitVec.ofNat 32 y)).toNat
  | 0x1D | 0x1E => payload.take n
  | _ => if old = payload.take n then (payload.drop n).take n else old

/-- Bytes replaced at an offset of a longer string. -/
def putBytes (l : List Byte) (off : Nat) (b : List Byte) : List Byte := l.take off ++ b ++ l.drop (off + b.length)

/-- What a read-modify-write makes of the old 64 bytes (R126, R130, R279). -/
def rmwApply (r : Rmw) (mask : Dword) (data old : List Byte) : List Byte :=
  match r with
  | .masked => (old.zip (data.zip (List.range 64))).map fun (o, d, j) => if mask.getLsbD j then d else o
  | .atomic opc off operand => putBytes old off (atomicNew opc ((old.drop off).take (atomicSize opc)) operand)
  | .vector opc f operand => vectorLine opc f old operand

end Sys2Proof.Machine
end

