-- ==== Sys2Proof/Machine/Recovery.lean ====
section
/-!
DEFINITION. Machine/Recovery.lean: what a fault starts (16): the partition step (R433), the chip step and the power cycle with
their escalation counts (R432, R436), and the dropping of held egress (R125).
-/

namespace Sys2Proof.Machine

/-- A seam entry. -/
def State.seam (s : State) (n : Nat) : Seam := s.seams.getD n {}

/-- A seam entry rewritten. -/
def State.modSeam (s : State) (n : Nat) (f : Seam → Seam) : State := { s with seams := s.seams.modD n {} f }

/-- A seam command ends: towards its instance, or towards the mover channel whose SEAL it was (R80, R326). -/
def State.seamEnd (s : State) (a n code : Nat) : State :=
  if 64 ≤ a then { s with mov := { s.mov with sealRes := s.mov.sealRes.put (a - 64) code } } else s.cmdEnd .seam a n code

/-- A SEAL whose egress was dropped: CODE 0xB, the seam stays loading (R83). -/
def State.sealDropped (s : State) (n : Nat) : State :=
  let e := s.seam n
  if e.job = .sealing then
    (s.modSeam n fun e => { e with busy := false, job := .none }).seamEnd e.cmdAp n 0xB
  else s

/-- The horizon of a partition. -/
def State.horizon (s : State) (p : Nat) : Horizon := s.hz.getD p {}

/-- The horizon of a partition rewritten. -/
def State.modHz (s : State) (p : Nat) (f : Horizon → Horizon) : State := { s with hz := s.hz.modD p {} f }

/-- A function number lies in what is being reset (R361). -/
def flrHolds (x : FlrFn) (fn : Nat) : Bool :=
  match x with
  | .pf0 => fn == 0
  | .pf p => fn / 32 == p
  | .vf p v => fn == p * 32 + v

/-- Nothing is sent for a function: the host link is down, or the function is in FLR or D3cold (R125). -/
def State.mute (s : State) (fn : Nat) : Bool :=
  !s.hst.up || s.hst.flr.any (fun x => flrHolds x fn) || s.hst.power.getD (fn / 32 * 32) 0 == 2

/-- One egress dropped by a reset (R125): no fault; a SEAL completes with 0xB; a completion to a host read becomes one with
Completer Abort status when it can still be sent. -/
def State.dropQuiet (s : State) (e : Egress) : State :=
  match e.cargo with
  | .seal n => s.sealDropped n
  | .completion fn tag _ _ _ => if s.mute fn then s else s.cpl fn tag 1 [] e.ctx
  | _ => s

/-- Every held egress of a partition dropped and its open set emptied (R125). -/
def State.dropEgress (s : State) (p : Nat) : State :=
  (s.horizon p).held.foldl State.dropQuiet (s.modHz p fun h => { h with held := [], opn := [] })

/-- How many of the marked times lie within `span` cycles of now. -/
def recent (now span : Nat) (l : List Nat) : Nat := (l.filter fun t => now ≤ t + span).length

/-- A second of block time in cycles (R5). -/
def cycPerSec : Nat := 1600000000

/-- The power-cycle step: dg_tray_req is asserted and held (R436). -/
def State.powerCycle (s : State) : State := { s with pins := { s.pins with trayReq := true } }

/-- A warm start is due: the block enters it when the command that called for it has had its own effect (R422, R432). -/
def State.warmDue (s : State) : State := { s with flt := { s.flt with warmDue := true } }

/-- The chip step for a fault already recorded: counted with its cause, then a warm start; the third within 60 s escalates to the
power cycle with 0xA009. While one runs, a further cause is absorbed (R432). -/
def State.chipStep (s : State) (code : Nat) : State :=
  if s.flt.chip ∨ s.glb.state = 1 then s
  else
    let hist := s.clk.cyc :: s.flt.chipHist
    let t := { s with flt := { s.flt with
      chip := true, chipCount := satInc s.flt.chipCount, chipCause := BitVec.ofNat 16 code, chipHist := hist.take 3 } }
    if recent s.clk.cyc (60 * cycPerSec) hist ≥ 3 then (t.raise 0xA009 7 0 none .none).powerCycle else t.warmDue

/-- Every ACTIVE context of a partition lost with 0xA004 (R433, step 1). -/
def State.loseAll (s : State) (p : Nat) (code : Nat) : State :=
  (s.ctx.tab.filter fun (k, e) => k / 4096 == p && e.state == .active).foldl
    (fun s (k, e) => s.loseCtx p (e.gen ++ BitVec.ofNat 12 k) code .none) s

/-- The partition step for a fault already recorded: counted, contexts lost, engines reset, in progress until acknowledged; the
third of a partition within 10 s escalates to the chip step with 0xA007 (R432, R433). Its engines are reset
when the command that called for the step has had its own effect. -/
def State.partStep (s : State) (p : Nat) (byCmd : Option Nat) : State :=
  if s.flt.parts.any (·.part == p) then s
  else
    let hist := (p, s.clk.cyc) :: s.flt.partHist
    let mine := (hist.filter (·.1 == p)).map (·.2)
    let t := { s with flt := { s.flt with
      parts := { part := p, byCmd } :: s.flt.parts, partHist := hist.take 64
      steps := s.flt.steps.modD p {} fun c => { c with part := satInc c.part } } }
    let t := t.loseAll p 0xA004
    if recent s.clk.cyc (10 * cycPerSec) mine ≥ 3 then (t.raise 0xA007 6 p none .none).chipStep 0xA007 else t

/-- A partition fault: recorded with SCOPE 5, and the partition step runs (R428, Table 16.4). -/
def State.partFault (s : State) (code p : Nat) (o : Obj) : State := (s.raise code 5 p none o).partStep p none

end Sys2Proof.Machine
end

