-- ==== Sys2Proof/Machine/Seams.lean ====
section
/-!
DEFINITION. Machine/Seams.lean: the seam table, the seam commands, drifts and the integrity budget (04, and R411). What a shaft does
with a line is in Machine/Shaft.lean.
-/

namespace Sys2Proof.Machine

/-! ### Fields (Tables 4.1, 4.2, 4.6) -/

/-- KIND's code. -/
def SeamKind.num : SeamKind → Nat
  | .sealed => 0 | .versioned => 1 | .bound => 2 | .plain => 3

/-- The kind a code names. -/
def kindOf (n : Nat) : SeamKind :=
  match n % 4 with
  | 0 => .sealed
  | 1 => .versioned
  | 2 => .bound
  | _ => .plain

/-- STATE's code. -/
def SeamState.num : SeamState → Nat
  | .empty => 0 | .loading => 1 | .active => 2 | .sealed => 3 | .drifting => 4 | .retiring => 5 | .dead => 6

/-- The entry as Table 4.2 lays it out. -/
def Seam.word (e : Seam) : BitVec 256 :=
  BitVec.ofNat 23 e.start ++ BitVec.ofNat 15 e.size ++ BitVec.ofNat 2 e.kind.num ++ BitVec.ofNat 3 e.state.num
    ++ BitVec.ofNat 3 e.owner ++ BitVec.ofBool e.frozen ++ BitVec.ofBool e.busy ++ e.epoch ++ e.sealEp
    ++ BitVec.ofNat 12 e.pad ++ BitVec.ofNat 12 e.hash ++ BitVec.ofNat 12 e.nextPad ++ BitVec.ofNat 12 e.nextHash
    ++ BitVec.ofNat 16 e.maxRate ++ BitVec.ofNat 32 e.interval ++ BitVec.ofNat 18 e.base ++ (0 : BitVec 26)

/-- MAJOR of a counter block (Table 4.6). -/
def cbMajor (b : Line) : BitVec 36 := b.extractLsb' 476 36
/-- MINOR of line i. -/
def cbMinor (b : Line) (i : Nat) : BitVec 7 := b.extractLsb' (28 + 7 * i) 7
/-- DIRTY. -/
def cbDirty (b : Line) : Bool := b.getLsbD 27
/-- REFRESHING. -/
def cbRefreshing (b : Line) : Bool := b.getLsbD 26
/-- WRITES. -/
def cbWrites (b : Line) : BitVec 16 := b.extractLsb' 10 16

/-- A counter block of given MAJOR with every minor 0. -/
def cbFresh (major : Nat) (dirty : Bool) : Line := setBits (setBits 0 476 36 major) 27 1 (if dirty then 1 else 0)

/-- The largest major (R89). -/
def maxMajor : BitVec 36 := BitVec.allOnes 36

/-- A shaft. -/
def State.shaft (s : State) (k : Nat) : Shaft := s.shafts.getD k {}

/-- A shaft rewritten. -/
def State.modShaft (s : State) (k : Nat) (f : Shaft → Shaft) : State := { s with shafts := s.shafts.modD k {} f }

/-- An access that reaches the shaft takes the next arrival number and waits in its queue (R83, R106). -/
def Shaft.push (sh : Shaft) (a : Acc) : Shaft := { sh with q := sh.q ++ [{ a with no := sh.arr }], arr := sh.arr + 1 }

/-- The stack whose window holds a seam's first granule: 64 GiB windows of 2 MiB granules (R31, R74). -/
def Seam.stack (e : Seam) : Nat := e.start >>> 15

/-- The pages of a seam (R92). -/
def Seam.pages (e : Seam) : Nat := e.size * 512

/-- The entry is one of those R81 counts: loading, active, sealed, drifting, or its CREATE in progress. -/
def Seam.counts (e : Seam) : Bool :=
  match e.state with
  | .loading | .active | .sealed | .drifting => true
  | .empty => e.busy
  | _ => false

/-- The entry occupies its range: any state but empty, or its CREATE in progress. -/
def Seam.present (e : Seam) : Bool := e.state != .empty || e.busy

/-- The seam that covers a line, given by local address bits [43:6]. -/
def State.seamAt (s : State) (line : Nat) : Option (Nat × Seam) :=
  s.seams.find? fun (_, e) => e.state != .empty && decide (e.start ≤ line / 32768) && decide (line / 32768 < e.start + e.size)

/-- The seams of a stack that R81 counts. -/
def State.seamsOn (s : State) (k : Nat) : List Seam := s.seams.vals.filter fun e => e.counts && e.stack == k

/-! ### Version (R73) -/

/-- Version bits of a sealed seam. -/
def verSealed (ep : BitVec 36) : BitVec 44 := ep ++ (0 : BitVec 8)

/-- Version bits of a versioned seam: the refresh flag is 1 exactly when the minor is 0 and the major is not. -/
def verOf (major : BitVec 36) (minor : BitVec 7) : BitVec 44 :=
  major ++ minor ++ BitVec.ofBool (decide (minor = 0) && decide (major ≠ 0))

/-! ### Drift requests (R91, R95, Table 4.4) -/

/-- A drift trigger acting on seam `n` (Table 4.4): discarded on a retiring, dead or empty seam, ignored on a plain one, held on a
loading one, merged with a queued or running drift under the more urgent class, and otherwise queued. A transfer drift (`front`) follows a
drift that has begun, at the head of the queue; it merges with one that has not (R86, R91). -/
def State.wantDrift (s : State) (n cls : Nat) (start : Nat) (front : Bool) : State :=
  let e := s.seam n
  let sh := s.shaft e.stack
  let isIt (w : Sweep) : Bool := w.seam == n && !w.fill
  match e.state with
  | .empty | .retiring | .dead => s
  | .loading => s.modSeam n fun e => { e with held := some (min cls (e.held.getD 3)) }
  | _ =>
    if e.kind = .plain then s
    else if front then
      let w : Sweep := match sh.queue.find? fun w => isIt w && !w.begun with
        | some w => { w with cls := min w.cls cls, front := true }
        | none => { seam := n, cls, start, front := true }
      s.modShaft e.stack fun sh => { sh with queue := w :: sh.queue.filter fun w => !isIt w || w.begun }
    else if sh.run.any isIt then
      s.modShaft e.stack fun sh => { sh with run := sh.run.map fun w => { w with cls := min w.cls cls } }
    else if sh.queue.any isIt then
      let up (w : Sweep) : Sweep :=
        if isIt w then { w with cls := min w.cls cls, start := if w.begun || cls ≠ 1 then w.start else start } else w
      s.modShaft e.stack fun sh => { sh with queue := sh.queue.map up }
    else s.modShaft e.stack fun sh => { sh with queue := sh.queue ++ [{ seam := n, cls, start }] }

/-- The seam's sweeps ended (R85). -/
def State.endSweeps (s : State) (n : Nat) : State :=
  s.modShaft (s.seam n).stack fun sh =>
    { sh with run := sh.run.filter (·.seam != n), queue := sh.queue.filter (·.seam != n) }

/-- The sweep of seam `n` that has begun, running or suspended. -/
def State.sweepOf (s : State) (n : Nat) : Option Sweep :=
  let sh := s.shaft (s.seam n).stack
  (sh.run.toList ++ sh.queue).find? fun w => w.seam == n && w.begun && !w.fill

/-! ### The integrity budget (R98) -/

/-- One hour of shift time in nanoseconds. -/
def hourNs : Nat := 3600000000000

/-- SEAM_BUDGET_p.LIMIT (Table 4.13). -/
def State.limit (s : State) (p : Nat) : Nat := s.budget.getD p 16

/-- A seam frozen with a partition fault and a class-2 drift queued (R98, R154). -/
def State.freezeSeam (s : State) (n code : Nat) (o : Obj) : State :=
  let e := s.seam n
  (((s.modSeam n fun e => { e with frozen := true }).irqVis .seam e.owner 2).partFault code e.owner o).wantDrift n 2 0 false

/-- One failure event on a seam: the count rises, a window opens at the first, and a count above the limit freezes (R98). -/
def State.countIntegrity (s : State) (n : Nat) (o : Obj) : State :=
  let e := s.seam n
  let fails := satInc e.fails
  let win := if e.fails = 0 then some (s.clk.shift + BitVec.ofNat 64 hourNs) else e.winEnd
  let t := s.modSeam n fun e => { e with fails := fails, winEnd := win }
  if fails.toNat > s.limit e.owner ∧ ¬ e.frozen then t.freezeSeam n 0x1105 o else t

/-! ### Commands: who may issue them (R80) -/

/-- A seam command from an aperture: a partition's instance on its own seams and the Lamp's on all; elsewhere SEAM_CMD is a
reserved location. `f` is given the instance. -/
def State.seamCmd (s : State) (ap : Aperture) (n : Nat) (f : Nat → State → State) : State :=
  match ap with
  | .lamp => s.command .seam 7 (f 7)
  | .part p => s.command .seam p fun s =>
    if (s.seam n).owner = p ∧ (s.seam n).present then f p s else s.cmdEnd .seam p n 2
  | _ => s

/-! ### CREATE (R81, R82, R411) -/

/-- What a CREATE asks for (Table 4.11). -/
def createReq (s : State) (a : Nat) : Seam × Bool :=
  let a1 := s.arg .seam a 0x14
  let e : Seam :=
    { start := ((s.arg .seam a 0x10).extractLsb' 0 23).toNat
      size := (a1.extractLsb' 0 15).toNat
      kind := kindOf (a1.extractLsb' 16 2).toNat
      owner := if a = 7 then (a1.extractLsb' 19 3).toNat else a
      maxRate := ((s.arg .seam a 0x18).extractLsb' 0 16).toNat
      interval := (s.arg .seam a 0x1C).toNat
      cmdAp := a }
  (e, a1.getLsbD 18)

/-- The kinds of Table 4.1 that a partition may hold (R72). -/
def kindPermitted (sh : Shape) (k : SeamKind) : Bool :=
  match k with
  | .sealed | .versioned => true
  | .bound => sh.openKind || sh.allowBound
  | .plain => sh.openKind

/-- A request fits a template (R411), COUNT apart. -/
def Template.fits (t : Template) (e : Seam) : Bool :=
  t.part == e.owner && t.kind == e.kind.num && t.stackSet.getLsbD e.stack && decide (e.size ≤ t.maxGranules)
    && decide (e.maxRate ≤ t.maxRate) && decide (t.minInterval ≤ e.interval) && decide (e.interval ≤ t.maxInterval)

/-- The template a request fits, leaving no more than COUNT seams of it in existence; `skip` is an entry being replaced (R76). -/
def State.fitTemplate (s : State) (e : Seam) (skip : Nat) : Option Template :=
  s.lease.templates.find? fun t => t.fits e &&
    decide ((s.seams.filter fun (k, x) => k != skip && x.counts && t.fits x).length < t.count)

/-- Drift time of a seam at `r` percent of the stack's rate, in ns (R81). -/
def driftNs (size r : Nat) : Nat := ceilDiv (2 * size * 2097152 * 100) (r * 1280)

/-- The drift-time sum of a stack's seams (R81). -/
def driftSum (l : List Seam) (r : Nat) : Nat :=
  ((l.filter fun m => m.kind != .plain).map fun m => driftNs m.size r).sum

/-- Checks 0x9 and 0xA of R81 over the seams of a stack. -/
def rateChecks (l : List Seam) (r : Nat) : Nat :=
  let t := driftSum l r
  if l.any fun m => m.kind != .plain && m.interval != 0 && decide (t > m.interval * 1000000) then 9
  else if ((l.filter fun m => m.kind == .versioned).map fun m => m.maxRate * 8064).sum > 127 * 128000 then 0xA
  else 0

/-- A range lies within one 48 GiB stack window, owned by the partition, and meets no other seam (R74). A stack that OWNER does not own is
refused as a range outside its window is (DESIGN CHOICE, log 68). -/
def State.rangeOk (s : State) (e : Seam) : Bool :=
  decide (1 ≤ e.size) && decide (e.size ≤ 24576) && decide (e.start % 32768 + e.size ≤ 24576) && decide (e.stack < 12)
    && s.stackOwner e.stack == e.owner
    && s.seams.all fun (_, m) => !m.present || decide (m.start + m.size ≤ e.start) || decide (e.start + e.size ≤ m.start)

/-- MAX_WRITE_RATE obeys R88: 1 to 65,535 when versioned, 0 otherwise. -/
def rateOk (e : Seam) : Bool := if e.kind = .versioned then e.maxRate != 0 else e.maxRate == 0

/-- First fit for counter space, in 4 KiB units, on 8-unit steps (R75, R81). -/
def State.counterFit (s : State) (e : Seam) : Option Nat :=
  let total := (s.ins.area.getD (7 * e.stack) (0, 0)).2 * 512
  let used := s.seams.vals.filter fun m => m.present && m.kind == .versioned && m.stack == e.stack
  (firstFrom (fun i => decide (8 * i + e.size * 8 ≤ total) &&
    used.all fun m => decide (m.base + m.size * 8 ≤ 8 * i) || decide (8 * i + e.size * 8 ≤ m.base)) (total / 8 + 1) 0).map (8 * ·)

/-- The reservations of Table 14.6 in force, as counts of slots (R380). -/
def reservedSlots (l : Lease) (shape node : Nat) : Nat :=
  let shs := l.shapes.filter (·.shape == shape)
  let sites := (shs.map fun x => ((List.range 8).filter x.sites.getLsbD).length).sum
  let streams := 1 + (shs.map (·.ideStreams)).sum
  let does := 1 + (shs.filter fun x => x.hostSlots != 0).length
  let m (d : Nat) : Nat := (l.topo.nodes.filter (·.parts.getLsbD d)).length
  let member := 0 :: (shs.map (·.part))
  let fabric :=
    if l.topo.listed ≤ 1 then 0
    else (member.map fun d => 2 + 4 * (m d - 1)).sum + 2 * m 0
      + 4 * ((l.topo.ports.filter (·.node == node)).map fun x => ((x.slots.filter (· != 0)).eraseDups).length).sum
  5 * sites + 12 * streams + 8 * does + fabric

/-- The slots in use, from 16 on, that no seam and no migration holds (R380). -/
def State.reservedUsed (s : State) : Nat :=
  (s.slots.filter fun (n, k) => decide (16 ≤ n) && k.state != .empty && k.usage != 6 && k.usage != 7 && k.usage != 0xF).length

/-- The free slots of R380. -/
def State.freeSlots (s : State) (reserved : Nat) : Nat :=
  let empty := 4080 - (s.slots.filter fun (n, k) => decide (16 ≤ n) && (k.state != .empty || s.slotHeld n)).length
    - ((s.seams.vals.map fun e => if e.present && e.state != .dead then
        ([e.nextPad, e.nextHash].filter fun n => decide (16 ≤ n) && (s.slots.find n).isNone).length else 0).sum)
  empty - (reserved - s.reservedUsed)

/-- A command that needs a key is refused while the DRBG is stopped: 0x8005 to its partition (R385). -/
def State.noKey (s : State) (p : Nat) : State := if s.drbgOk then s else s.toPart 0x8005 p .none

/-- The checks of R81 in their order, 0 when all pass; R411's template comes first. Every entry that is present counts among the seams
its partition owns, retiring and dead ones included (DESIGN CHOICE, log 69). -/
def State.createCheck (s : State) (n : Nat) (e : Seam) : Nat :=
  if (s.fitTemplate e 256).isNone then 5
  else if 256 ≤ n ∨ (s.seam n).present then 3
  else if !kindPermitted (s.shapeOf e.owner) e.kind then 4
  else if !s.rangeOk e || !rateOk e then 5
  else if (s.seams.vals.filter fun m => m.present && m.owner == e.owner).length ≥ 64 then 6
  else if e.kind = .versioned ∧ (s.counterFit e).isNone then 7
  else if !s.drbgOk || decide (s.freeSlots (reservedSlots s.lease s.lse.shape s.lse.node) < 4) then 8
  else rateChecks (e :: s.seamsOn e.stack) (s.shaft e.stack).reserve

/-- Four slots taken for a new seam: two with generated keys, two held EMPTY (R77, R82). -/
def State.takeSlots (s : State) : List Nat :=
  let a := (s.freeSlot []).getD 0
  let b := (s.freeSlot [a]).getD 0
  let c := (s.freeSlot [a, b]).getD 0
  [a, b, c, (s.freeSlot [a, b, c]).getD 0]

/-- The counter space of a versioned seam zeroed (R82): an absent block reads zero (R145). -/
def State.zeroCounters (s : State) (e : Seam) : State :=
  if e.kind = .versioned then
    let lo := e.stack * 2 ^ 23 + e.base * 64
    { s with ins := { s.ins with cb := s.ins.cb.filter fun (k, _) => k < lo || decide (lo + e.size * 512 ≤ k) } }
  else s

/-- The home's tracker keeps no value of n lines whose content another key, epoch or fill now gives (R82, R84, R237). -/
def State.dropVals (s : State) (line n : Nat) : State :=
  { s with home := { s.home with vals := s.home.vals.filter fun (l, _) => decide (l < line) || decide (line + n ≤ l) } }

/-- An admitted CREATE begins: slots and keys, counters zeroed, a fill queued when asked for (R82). The token bucket starts full (DESIGN
CHOICE, log 70). -/
def State.createBegin (s : State) (a n : Nat) (e : Seam) (fill : Bool) : State :=
  let sl := s.takeSlots
  let e := { e with
    pad := sl.getD 0 0, hash := sl.getD 1 0, nextPad := sl.getD 2 0, nextHash := sl.getD 3 0, busy := true
    job := .create fill, base := (if e.kind = .versioned then (s.counterFit e).getD 0 else 0), tokens := 4096
    since := s.clk.shift, transferable := ((s.fitTemplate e 256).map (·.transferable)).getD false }
  let t := (s.genKey e.pad 6 e.owner 4 0).genKey e.hash 7 e.owner 4 0
  let t := (({ t with seams := t.seams.put n e }.zeroCounters e).dropVals (e.start * 32768) (e.pages * 64)).cmdBusy .seam a n
  if fill then t.modShaft e.stack fun sh => { sh with queue := sh.queue ++ [{ seam := n, cls := 3, fill := true }] } else t

/-- SEAM_CMD CREATE (R81). -/
def seamCreate (ap : Aperture) (n : Nat) (s : State) : State :=
  let go (a : Nat) (s : State) : State :=
    let (e, fill) := createReq s a
    let code := s.createCheck n e
    if code = 0 then s.createBegin a n e fill else (if code = 8 then s.noKey e.owner else s).seamEnd a n code
  match ap with
  | .lamp => s.command .seam 7 (go 7)
  | .part p => s.command .seam p (go p)
  | _ => s

/-- The seam takes its state and its command completes (R82 step 4, R84). -/
def State.seamReady (s : State) (n : Nat) (st : SeamState) : State :=
  (s.modSeam n fun e => { e with state := st, busy := false, job := .none }).seamEnd (s.seam n).cmdAp n 0

/-- The state a created seam enters (Table 4.3). -/
def Seam.firstState (e : Seam) : SeamState := if e.kind = .sealed then .loading else .active

/-- A CREATE without a fill completes (R82). -/
def seamCreateDone (n : Nat) (s : State) : State :=
  if (s.seam n).job = .create false then s.seamReady n (s.seam n).firstState else s

/-- A fill completes once every page is written (R82, R84). -/
def seamFillDone (n : Nat) (s : State) : State :=
  let e := s.seam n
  let sh := s.shaft e.stack
  match sh.run with
  | none => s
  | some w =>
    if w.seam = n ∧ w.fill ∧ w.done = e.pages then
      let t := (s.modShaft e.stack fun sh => { sh with run := none }).irqVis .seam e.owner 1
      match e.job with
      | .create true => t.seamReady n e.firstState
      | .refill => t.seamReady n .loading
      | _ => t
    else s

/-! ### SEAL and UNSEAL (R83, R84) -/

/-- An egress request stamped and held at its point (R121). -/
def State.hold (s : State) (p : Nat) (pt : EgressPoint) (ctx : Option (BitVec 16)) (c : Cargo) : State :=
  s.modHz p fun h => { h with held := h.held ++ [{ point := pt, stamp := h.next, ctx, cargo := c, at_ := s.clk.cyc }] }

/-- R121's may_leave. -/
def Horizon.mayLeave (h : Horizon) (e : Egress) : Bool := h.opn.all fun m => decide (e.stamp ≤ m)

/-- A SEAL accepted on a loading seam as an egress request of its partition (R83, R120), or refused with 0x3. -/
def State.sealBy (s : State) (a n : Nat) (ctx : Option (BitVec 16)) : State :=
  let e := s.seam n
  if e.state ≠ .loading ∨ e.busy then s.seamEnd a n 3
  else
    let sealAt := (List.range 12).map fun k => (s.shaft k).arr
    (s.modSeam n fun e => { e with busy := true, job := .sealing, cmdAp := a, sealAt }).hold e.owner (.sealPoint n) ctx (.seal n)

/-- SEAM_CMD SEAL. -/
def seamSeal (ap : Aperture) (n : Nat) (s : State) : State :=
  s.seamCmd ap n fun a s =>
    let e := s.seam n
    let t := s.sealBy a n none
    if e.state ≠ .loading ∨ e.busy then t else t.cmdBusy .seam a n

/-- The seam's range holds a line, given by local address bits [43:6]. -/
def Seam.covers (e : Seam) (line : Nat) : Bool := decide (e.start ≤ line / 32768) && decide (line / 32768 < e.start + e.size)

/-- A write to the seam that reached its shaft before the SEAL is not yet committed (R83). -/
def State.writesOpen (s : State) (n : Nat) : Bool :=
  let e := s.seam n
  let sh := s.shaft e.stack
  let before (no : Nat) : Bool := decide (no < e.sealAt.getD e.stack 0)
  sh.q.any (fun a => a.write && e.covers a.line && before a.no) || sh.track.any (fun t => t.old.isSome && t.seam == n && before t.no)
    || sh.refresh.any (fun r => r.seam == n && before r.w.no)

/-- A read of the partition issued before the SEAL has no verdict yet, whether or not its line has been delivered (R83). -/
def State.readsOpen (s : State) (n : Nat) : Bool :=
  let e := s.seam n
  (List.range 12).any fun k =>
    let before (no : Nat) : Bool := decide (no < e.sealAt.getD k 0)
    (s.shaft k).q.any (fun a => !a.write && a.part == e.owner && before a.no)
      || (s.shaft k).track.any fun t => t.old.isNone && t.part == e.owner && before t.no

/-- The seal point: every read issued before the SEAL has its verdict, and every write that reached the shaft before it is committed;
the seam is sealed and a held drift acts (R83, Table 4.3). -/
def sealPoint (n : Nat) (s : State) : State :=
  let e := s.seam n
  let h := s.horizon e.owner
  match h.held.find? fun g => g.cargo == .seal n with
  | none => s
  | some g =>
    if e.job = .sealing ∧ h.mayLeave g ∧ s.writesOpen n = false ∧ s.readsOpen n = false then
      let lag := s.clk.cyc - g.at_
      let t := s.modHz e.owner fun h => { h with held := h.held.filter fun g => g.cargo != .seal n, maxLag := max h.maxLag lag }
      let t := t.modSeam n fun e => { e with held := none }
      let t := t.seamReady n .sealed
      match e.held with
      | some c => t.wantDrift n c 0 false
      | none => t
    else s

/-- Both next slots are EMPTY (R78). -/
def State.nextEmpty (s : State) (e : Seam) : Bool :=
  (s.slot e.nextPad).state == .empty && (s.slot e.nextHash).state == .empty

/-- New keys generated into the next slots under a new epoch (R78). -/
def State.nextKeys (s : State) (n : Nat) : State :=
  let e := s.seam n
  let ep := (e.epoch + 1).setWidth 16
  (((s.genKey e.nextPad 6 e.owner 4 ep).genKey e.nextHash 7 e.owner 4 ep).modSeam n fun e => { e with epoch := e.epoch + 1 })

/-- The next slots become the current ones, and the old ones pass to retiring (R77). -/
def State.swapSlots (s : State) (n : Nat) : State :=
  let e := s.seam n
  ((s.modSeam n fun e => { e with pad := e.nextPad, hash := e.nextHash, nextPad := e.pad, nextHash := e.hash }).retireSlot
    e.pad).retireSlot e.hash

/-- UNSEAL once its next slots are EMPTY: new keys swapped in, SEAL_EPOCH and EPOCH advanced, and the seam loading, at once or when
its fill is done: until then it is empty for every access (R82, R84). -/
def State.unsealGo (s : State) (n : Nat) : State :=
  let e := s.seam n
  match e.job with
  | .unseal fill =>
    if e.state = .sealed ∧ s.nextEmpty e then
      let t := (((s.nextKeys n).swapSlots n).modSeam n fun e => { e with sealEp := e.sealEp + 1 }).dropVals (e.start * 32768) (e.pages * 64)
      if fill then
        (t.modSeam n fun e => { e with job := .refill }).modShaft e.stack fun sh =>
          { sh with queue := sh.queue ++ [{ seam := n, cls := 3, fill := true }] }
      else t.seamReady n .loading
    else s
  | _ => s

/-- SEAM_CMD UNSEAL (R84). -/
def seamUnseal (ap : Aperture) (n : Nat) (s : State) : State :=
  s.seamCmd ap n fun a s =>
    let e := s.seam n
    if e.state ≠ .sealed ∨ e.busy then s.seamEnd a n 3
    else if e.sealEp = BitVec.allOnes 36 then s.seamEnd a n 0xC
    else if !s.drbgOk then (s.noKey e.owner).seamEnd a n 8
    else
      ((s.modSeam n fun e => { e with busy := true, cmdAp := a, job := .unseal ((s.arg .seam a 0x14).getLsbD 18) }).cmdBusy
        .seam a n).unsealGo n

/-! ### REKEY, RETIRE, FREE, UNFREEZE (R85, R95, R99) -/

/-- SEAM_CMD REKEY: a class-3 drift (R95); complete when queued (R78). -/
def seamRekey (ap : Aperture) (n : Nat) (s : State) : State :=
  s.seamCmd ap n fun a s =>
    let e := s.seam n
    match e.state with
    | .empty | .retiring | .dead => s.seamEnd a n 3
    | _ => if e.busy then s.seamEnd a n 3 else (s.wantDrift n 3 0 false).seamEnd a n 0

/-- The command that runs on a seam ends as the seam retires under it: a SEAL's egress is dropped and it completes with 0xB, a CREATE
or an UNSEAL with 0x3 (DESIGN CHOICE, log 71). -/
def State.endCommand (s : State) (n : Nat) : State :=
  let e := s.seam n
  match e.job with
  | .none => s
  | .sealing => (s.modHz e.owner fun h => { h with held := h.held.filter fun g => g.cargo != .seal n }).sealDropped n
  | _ => (s.modSeam n fun e => { e with busy := false, job := .none }).seamEnd e.cmdAp n 3

/-- A seam enters retiring: its sweeps end, its lost pages are forgotten, and a command that runs on it ends (R85, R153). -/
def State.retireSeam (s : State) (n : Nat) : State :=
  let e := s.seam n
  if !e.present || e.state == .retiring || e.state == .dead then s
  else
    let keep (a : Acc) : Acc := if e.covers a.line then { a with kept := true } else a
    (((s.endCommand n).endSweeps n).modShaft e.stack fun sh =>
      { sh with lost := sh.lost.filter (·.seam != n), lostAll := sh.lostAll.filter (· != n), q := sh.q.map keep }).modSeam n fun e =>
        { e with state := .retiring, retireAt := s.clk.shift, held := none }

/-- SEAM_CMD RETIRE (R85), accepted on a frozen seam as well (R99). -/
def seamRetire (ap : Aperture) (n : Nat) (s : State) : State :=
  s.seamCmd ap n fun a s =>
    let e := s.seam n
    match e.state with
    | .empty | .retiring | .dead => s.seamEnd a n 3
    | _ => if e.busy then s.seamEnd a n 3 else (s.retireSeam n).seamEnd a n 0

/-- No accepted operation on the seam remains at its shaft. -/
def State.seamQuiet (s : State) (n : Nat) : Bool :=
  let sh := s.shaft (s.seam n).stack
  !sh.q.any (fun a => a.kept && (s.seam n).covers a.line) && !sh.track.any (·.seam == n) && !sh.wb.any (fun (_, w) => w.seam == n) && !sh.refresh.any (·.seam == n)

/-- A retiring seam without operations becomes dead after 16 µs, and its four slots are zeroised (R85). -/
def seamDead (n : Nat) (s : State) : State :=
  let e := s.seam n
  if e.state = .retiring ∧ s.seamQuiet n then
    ((s.reach (e.retireAt + 16000)).killSlots [e.pad, e.hash, e.nextPad, e.nextHash]).modSeam n fun e =>
      { e with state := .dead, busy := false, job := .none }
  else s

/-- SEAM_CMD UNFREEZE: clears FROZEN of a seam that is not drifting (R99). -/
def seamUnfreeze (ap : Aperture) (n : Nat) (s : State) : State :=
  s.seamCmd ap n fun a s =>
    let e := s.seam n
    match e.state with
    | .empty | .drifting => s.seamEnd a n 3
    | _ => if e.busy then s.seamEnd a n 3 else (s.modSeam n fun e => { e with frozen := false }).seamEnd a n 0

/-! ### Sweeps: starting and completing (R78, R91, R94) -/

/-- A queued sweep may start now: a fill, a suspended drift, or a drift whose next slots are EMPTY and whose seam runs no
command (R78). -/
def State.sweepEligible (s : State) (w : Sweep) : Bool :=
  let e := s.seam w.seam
  w.fill || w.begun || (s.drbgOk && s.nextEmpty e && !e.busy && (e.state == .active || e.state == .sealed))

/-- The first eligible sweep of the most urgent class (R91). -/
def State.nextSweep (s : State) (k : Nat) : Option Sweep :=
  let l := (s.shaft k).queue.filter s.sweepEligible
  (l.find? (·.cls == 1)).or ((l.find? (·.cls == 2)).or (l.find? (·.cls == 3)))

/-- A sweep is started: a new drift generates its keys, advances EPOCH and makes the seam drifting; a lower-class sweep that ran
is suspended (R78, R91, R94). -/
def State.startSweep (s : State) (k : Nat) (w : Sweep) : State :=
  let t := s.modShaft k fun sh =>
    { sh with run := some { w with begun := true }, queue := sh.run.toList ++ sh.queue.erase w }
  if w.fill ∨ w.begun then t else (t.nextKeys w.seam).modSeam w.seam fun e => { e with state := .drifting }

/-- The shaft's sweep engine takes its next sweep (R91). -/
def driftStart (k : Nat) (s : State) : State :=
  match s.nextSweep k with
  | none => s
  | some w =>
    match (s.shaft k).run with
    | none => s.startSweep k w
    | some r => if w.cls < r.cls then s.startSweep k w else s

/-- A drift's last page is swept: former state, slots swapped, count cleared (R94). -/
def State.driftDone (s : State) (k n : Nat) : State :=
  let e := s.seam n
  ((((s.modShaft k fun sh => { sh with run := none, lostAll := sh.lostAll.filter (· != n) }).swapSlots n).modSeam n fun e =>
    { e with state := if e.kind = .sealed then .sealed else .active, fails := 0, winEnd := none, since := s.clk.shift }).irqVis
      .seam e.owner 1)

/-- The time has come to queue the seam's periodic drift (R97). -/
def periodicDriftDue (n : Nat) (s : State) : State :=
  let e := s.seam n
  if e.interval = 0 then s
  else
    let lead := driftSum (s.seamsOn e.stack) (s.shaft e.stack).reserve
    (s.reach (e.since + BitVec.ofNat 64 (e.interval * 1000000 - lead))).wantDrift n 3 0 false

/-- No drift has completed within REKEY_INTERVAL: a partition fault, and the seam keeps working (R97). -/
def rekeyOverrun (n : Nat) (s : State) : State :=
  let e := s.seam n
  match e.state with
  | .loading | .active | .sealed | .drifting =>
    if e.interval = 0 ∨ e.kind = .plain then s
    else
      (((s.reach (e.since + BitVec.ofNat 64 (e.interval * 1000000))).irqVis .seam e.owner 3).partFault 0x110B e.owner
        (.unit .seam n 0))
  | _ => s

/-- The hour of the integrity window has passed (R98). -/
def budgetWindowClose (n : Nat) (s : State) : State :=
  match (s.seam n).winEnd with
  | none => s
  | some w => (s.reach w).modSeam n fun e => { e with fails := 0, winEnd := none }

/-! ### The mailbox write of an entry (R76) -/

/-- A Lamp-private mailbox write of seam table entry `n`, its reserved bits ignored (R4): none when it is refused with ERR_CODE 0x6. -/
def seamEntryWrite (s : State) (n : Nat) (w : BitVec 256) : Option State :=
  let e := s.seam n
  let e' := { e with maxRate := (w.extractLsb' 76 16).toNat, interval := (w.extractLsb' 44 32).toNat }
  let others := (s.seams.filter fun (k, m) => k != n && m.counts && m.stack == e.stack).map (·.2)
  match e.state with
  | .empty | .retiring | .dead => none
  | _ =>
    if e'.word.extractLsb' 26 230 = w.extractLsb' 26 230 ∧ rateOk e' ∧ rateChecks (e' :: others) (s.shaft e.stack).reserve = 0 ∧ (s.fitTemplate e' n).isSome then
      some { s with seams := s.seams.put n e' }
    else none

end Sys2Proof.Machine
end

