-- ==== Sys2Proof/Machine/Wire.lean ====
section
/-!
DEFINITION. Machine/Wire.lean: what leaves for a site and for the fabric, bit by bit: Tolone frames (R160 to R168) and Yebin packets
(R194 to R198, R209), first hops (R204, R205), and how an egress is presented to a port (R120).
-/

namespace Sys2Proof.Machine

/-! ### Frames to a site (07) -/

/-- A site. -/
def State.site (s : State) (t : Nat) : Site := s.sites.getD t {}
/-- A site rewritten. -/
def State.modSite (s : State) (t : Nat) (f : Site → Site) : State := { s with sites := s.sites.modD t {} f }
/-- A site's traffic. -/
def State.sIo (s : State) (t : Nat) : SiteIo := s.sio.getD t {}
/-- A site's traffic rewritten. -/
def State.modSio (s : State) (t : Nat) (f : SiteIo → SiteIo) : State := { s with sio := s.sio.modD t {} f }

/-- A frame header (Table 7.2). -/
def frameHeader (kind phase part seq tag status cclass ccount : Nat) (poison : Bool) : Dword :=
  BitVec.ofNat 4 kind ++ BitVec.ofNat 2 phase ++ BitVec.ofNat 2 part ++ BitVec.ofNat 16 seq ++ BitVec.ofNat 16 tag
    ++ BitVec.ofNat 8 status ++ BitVec.ofNat 2 cclass ++ BitVec.ofNat 6 ccount ++ (0 : BitVec 7) ++ BitVec.ofBool poison

/-- A link counter block (Table 7.5). -/
def linkBlock (seq : Dword) (c2h rsp : Bool) (slot part b : Nat) : Block :=
  seq ++ BitVec.ofBool c2h ++ BitVec.ofBool rsp ++ BitVec.ofNat 2 slot ++ BitVec.ofNat 2 part ++ (0 : BitVec 55)
    ++ BitVec.ofNat 3 b

/-- The 64-byte pad of a frame. -/
def linkPad (key : List Byte) (cb : Nat → Block) : List Byte :=
  ((List.range 4).map fun b => blockBytes (aes256 key (cb b))).flatten

/-- The MAC of a frame: T[127:64] of GHASH over header, wire payload and lengths, XOR P_4 (R167). -/
def frameMac (key : List Byte) (h : Block) (header wire : List Byte) (cb : Nat → Block) : Dword :=
  let blocks := bytesBlock (header ++ List.replicate 8 0) :: (chunks 16 4 wire).map bytesBlock
  (ghash h (blocks ++ [0x00000000000000400000000000000200]) ^^^ aes256 key (cb 4)).extractLsb' 64 64

/-- A link or flow hash key: bytes 32 to 47 of its slot, beside K_pad in bytes 0 to 31 (R177, R197); byte 0 of H is its bits [127:120]
(R3). -/
def State.hashKey (s : State) (n : Nat) : Block := bytesBlock (((leBytes 64 (s.slot n).key.toNat).drop 32).take 16)

/-- The bytes of an enciphered frame. -/
def State.frameBytes (s : State) (t : Nat) (f : OutFrame) (cclass ccount : Nat) : List Byte :=
  let st := s.site t
  let slot := st.txK.getD 0
  let rsp := f.kind == 3
  let cb := if rsp then linkBlock f.reqSeq false true f.slot f.part else linkBlock st.txSeq false false 0 0
  let hd := leBytes 8 (frameHeader f.kind (st.txEp.toNat % 4) f.part (st.txSeq.toNat % 65536) f.tag f.status cclass ccount
    f.poison).toNat
  let wire := xorBytes ((f.payload ++ List.replicate 64 0).take 64) (linkPad (s.keyBytes slot) cb)
  -- the 64-bit MAC field holds bytes 0 to 7 of T, T[127:120] first
  hd ++ wire ++ (leBytes 8 (frameMac (s.keyBytes slot) (s.hashKey slot) hd wire cb).toNat).reverse

/-- The keys of one direction and epoch of a site: K_pad in bytes 0 to 31, H in bytes 32 to 47 (R177). -/
def linkKey (z : List Byte) (dir : String) (epoch : BitVec 32) : BitVec 512 :=
  let m := ascii dir ++ leBytes 4 epoch.toNat
  BitVec.ofNat 512 (ofLe (kmac256 z m 32 "TOLONE-PAD" ++ kmac256 z m 16 "TOLONE-HASH"))

/-- A site-link key written into a free vault slot; none when no slot is free (R177). -/
def State.putLink (s : State) (epoch : BitVec 16) (key : BitVec 512) : Option (Nat × State) :=
  (s.freeSlot []).map fun n => (n, s.putKey n 8 0 3 2 epoch key)

/-- The link cluster that takes a frame of a site: the site's online clusters in turn (Table 2.3, R30, DESIGN CHOICE, log 47). -/
def State.linkCluster (s : State) (t n : Nat) : Nat :=
  let on := ((List.range 5).map (48 + 5 * t + ·)).filter fun c => !(s.clus.getD c {}).offline
  on.getD (n % max 1 on.length) (48 + 5 * t)

/-- A frame placed in the next position of the flit being formed (R160). -/
def State.putFrame (s : State) (t : Nat) (b : List Byte) : State :=
  (s.emit (.frame t b)).modSio t fun io => { io with flit := (io.flit + 1) % 3 }

/-- The positions of a site's flit that no frame fills hold empty frames (R160). -/
def State.fillFlit (s : State) (t : Nat) : State :=
  if (s.sIo t).flit = 0 then s
  else ((List.range (3 - (s.sIo t).flit)).foldl (fun (s : State) _ => s.emit (.frame t (List.replicate 80 0))) s).modSio t fun io => { io with flit := 0 }

/-- An enciphered frame sent: numbered, retained for replay (the last 2,048), with the credits it returns; while
the link is down it is only retained (R162, R171, R174, R175). -/
def State.sendFrame (s : State) (t : Nat) (f : OutFrame) : State :=
  let io := s.sIo t
  let (cls, n) := if io.reqGot ≠ 0 then (1, min 63 io.reqGot) else if io.dataGot ≠ 0 then (3, min 63 io.dataGot) else (0, 0)
  let bytes := s.frameBytes t f cls n
  let seq := (s.site t).txSeq
  let u := s.modSio t fun io => { io with
    sent := ({ seq, bytes } :: io.sent).take 2048
    reqGot := if cls = 1 then io.reqGot - n else io.reqGot, reqOut := if cls = 1 then io.reqOut + n else io.reqOut
    dataGot := if cls = 3 then io.dataGot - n else io.dataGot, dataOut := if cls = 3 then io.dataOut + n else io.dataOut }
  let u := (u.modSite t fun st => { st with txSeq := st.txSeq + 1 }).passCluster (s.linkCluster t seq.toNat) (s.siteOwner t) 5 f.ctx
    (s.site t).txK.toList
  if (s.site t).linkUp then (u.bump 0x07 t 1).putFrame t bytes else u

/-- The sending direction advances to its next epoch: CTRL REKEY names it and the first SEQ under it (R178). -/
def State.advanceTx (s : State) (t : Nat) : State :=
  let st := s.site t
  match s.putLink ((st.txEp + 1).setWidth 16) (linkKey (s.keyBytes (st.z.getD 0)) "H2C" (st.txEp + 1)) with
  | none => s
  | some (n, u) =>
    let u := u.sendFrame t {
      kind := 5, tag := 0x1400, payload := leBytes 4 (st.txEp + 1).toNat ++ leBytes 8 (st.txSeq + 1).toNat }
    (u.killSlot (st.txK.getD 0)).modSite t fun x => { x with txK := some n, txEp := st.txEp + 1, txBase := st.txSeq + 1 }

/-- A frame sent; before the 2^40th of an epoch the epoch advances (R178). -/
def State.txFrame (s : State) (t : Nat) (f : OutFrame) : State :=
  let st := s.site t
  (if 2 ^ 40 - 2 ≤ (st.txSeq - st.txBase).toNat then s.advanceTx t else s).sendFrame t f

/-- A CTRL frame: message code in TAG's high byte (Tables 7.2, 7.6); CTRL consumes no credit (R171). -/
def State.ctrl (s : State) (t code : Nat) (payload : List Byte) : State :=
  s.txFrame t { kind := 5, tag := code * 256, payload }

/-- A bootstrap message: clear CTRL frames of 64 bytes, the chunk index in SEQ and the last chunk marked (R176). -/
def bootFrames (code : Nat) (msg : List Byte) : List (List Byte) :=
  let n := max 1 ((msg.length + 63) / 64)
  (List.range n).map fun i =>
    leBytes 8 (frameHeader 5 0 0 i (code * 256) (if i + 1 = n then 1 else 0) 0 0 false).toNat
      ++ (((msg.drop (64 * i)).take 64) ++ List.replicate 64 0).take 64 ++ List.replicate 8 0

/-- A bootstrap message sent. -/
def State.boot (s : State) (t code : Nat) (msg : List Byte) : State :=
  (bootFrames code msg).foldl (fun s b => s.putFrame t b) s

/-- The operation of a site ends: it is no longer outstanding (R163). -/
def State.endSlotOp (s : State) (t tag : Nat) : State :=
  s.modSio t fun io => { io with ops := io.ops.filter (·.tag != tag) }

/-- A response frame sent; with an operation's last one its TAG is free (R163). -/
def State.sendRsp (s : State) (t : Nat) (f : OutFrame) : State :=
  let u := (s.modSio t fun io => { io with rspHeld := io.rspHeld - 1 }).txFrame t f
  match f.ends with
  | some tag => u.endSlotOp t tag
  | none => u

/-- A response frame: sent when a response credit is held, and kept in the response buffer otherwise and while the link is down
(R171, R172, R175). -/
def State.respond (s : State) (t : Nat) (f : OutFrame) : State :=
  let io := s.sIo t
  if (s.site t).state ≠ .run ∧ (s.site t).state ≠ .resync then s
  else if io.rspHeld = 0 ∨ io.rspBuf ≠ [] ∨ (s.site t).state = .resync then s.modSio t fun io => { io with rspBuf := io.rspBuf ++ [f] }
  else s.sendRsp t f

/-- The response buffer of 512 frames takes n more (R172, Table 7.10). -/
def State.rspRoom (s : State) (t n : Nat) : Bool := decide ((s.sIo t).rspBuf.length + n ≤ 512)

/-- A CMPL frame with one entry; the fifteen others are unused (R164, DESIGN CHOICE, log 12). -/
def cmplFrame (tag status : Nat) : OutFrame :=
  { kind := 4, payload := (0 : Byte) :: BitVec.ofNat 8 status :: leBytes 2 tag ++ (List.replicate 15 [0, 0, 0xFF, 0xFF]).flatten
    ends := some tag }

/-- An operation whose response is formed: it stays outstanding until that is sent (R163). -/
def State.answered (s : State) (t tag : Nat) : State :=
  s.modSio t fun io => { io with ops := io.ops.map fun o => if o.tag = tag then { o with answered := true } else o }

/-- A completion entry for an operation without data (R164). -/
def State.cmpl (s : State) (t tag status : Nat) : State := (s.answered t tag).respond t (cmplFrame tag status)

/-- The RSP frames of n bytes: one for each 64-byte part. -/
def rspParts (n : Nat) : Nat := max 1 ((n + 63) / 64)

/-- The RSP frames of an operation with data, one for each 64-byte part (R164, R168). -/
def State.rsp (s : State) (t : Nat) (o : SlotOp) (status : Nat) (poison : Bool) (data : List Byte) : State :=
  let n := rspParts data.length
  (List.range n).foldl (fun s i => s.respond t {
    kind := 3, tag := o.tag, status, part := i, poison, payload := (data.drop (64 * i)).take 64, reqSeq := o.seq
    slot := o.slot, ends := if i + 1 = n then some o.tag else none }) (s.answered t o.tag)

/-! ### Packets (R194 to R198) -/

/-- The payload length of a length code (Table 9.1). -/
def lenBytes (code : Nat) : Nat :=
  match code with
  | 0 => 0 | 1 => 8 | 2 => 16 | 3 => 32 | 4 => 64 | 5 => 128 | 6 => 256 | 7 => 72 | _ => 0

/-- Header word 0 (Table 8.3) with VL and HOPS as given. -/
def word0 (p : Packet) (vl hops : Nat) : Block :=
  (3 : BitVec 4) ++ BitVec.ofNat 4 p.kind ++ BitVec.ofNat 8 p.opcode ++ BitVec.ofNat 8 p.dst ++ BitVec.ofNat 8 p.src
    ++ BitVec.ofNat 3 p.part ++ BitVec.ofNat 2 vl ++ BitVec.ofBool p.ordered ++ (0 : BitVec 2) ++ BitVec.ofNat 16 p.tag
    ++ BitVec.ofNat 44 p.addr ++ BitVec.ofNat 8 p.len ++ BitVec.ofNat 4 p.fmt ++ BitVec.ofNat 2 hops ++ BitVec.ofBool p.poison
    ++ BitVec.ofBool (p.kind == 4) ++ (0 : BitVec 12)

/-- VL and HOPS zeroed, as they enter the MAC (R196). -/
def clearHops (w : Block) : Block := w &&& ~~~ (((3 : Block) <<< 91) ||| ((3 : Block) <<< 14))

/-- A flow counter block (Table 8.5). -/
def flowBlock (w1 : Dword) (src dst part b : Nat) : Block :=
  w1 ++ BitVec.ofNat 8 src ++ BitVec.ofNat 8 dst ++ BitVec.ofNat 3 part ++ (0 : BitVec 40) ++ BitVec.ofNat 5 b

/-- The pad of a payload of n bytes. -/
def flowPad (key : List Byte) (cb : Nat → Block) (n : Nat) : List Byte :=
  (((List.range ((n + 15) / 16)).map fun b => blockBytes (aes256 key (cb b))).flatten).take n

/-- The MAC of a packet (R198). -/
def flowMac (key : List Byte) (h : Block) (w0 : Block) (w1 : Dword) (wire : List Byte) (cb : Nat → Block) : Dword :=
  let l : Block := (0xC0 : Dword) ++ BitVec.ofNat 64 (8 * wire.length)
  let blocks := clearHops w0 :: (w1 ++ (0 : Dword)) :: (chunks 16 ((wire.length + 15) / 16) wire).map bytesBlock
  (ghash h (blocks ++ [l]) ^^^ aes256 key (cb 16)).extractLsb' 64 64

/-- Header, payload and MAC, and zeros to the next unit boundary; words most significant byte first (R194). -/
def packetBytes (w0 : Block) (w1 : Dword) (wire : List Byte) (mac : Dword) : List Byte :=
  let b := blockBytes w0 ++ (leBytes 8 w1.toNat).reverse ++ wire ++ (leBytes 8 mac.toNat).reverse
  b ++ List.replicate ((16 - b.length % 16) % 16) 0

/-- The plaintext payload of a packet: a cart packet opens with its cart word (R228, R245). -/
def Packet.bytes (p : Packet) : List Byte := if p.kind = 4 then leBytes 16 p.cartw.toNat ++ p.payload else p.payload

/-! ### Ports and routes (R191, R204, R205) -/

/-- A port. -/
def State.port (s : State) (p : Nat) : Port := s.fab.ports.getD p {}
/-- This node's record in the topology. -/
def State.nodeRec (s : State) (n : Nat) : NodeRec := (s.lease.topo.nodes.find? (·.node == n)).getD {}

/-- A port rewritten. -/
def State.modPort (s : State) (p : Nat) (f : Port → Port) : State :=
  { s with fab := { s.fab with ports := s.fab.ports.modD p {} f } }
/-- A port's counters. -/
def State.pIo (s : State) (p : Nat) : PortIo := s.fab.pio.getD p {}
/-- A port's counters rewritten. -/
def State.modPio (s : State) (p : Nat) (f : PortIo → PortIo) : State :=
  { s with fab := { s.fab with pio := s.fab.pio.modD p {} f } }
/-- The packet dropped is counted in YF_DROP_p. -/
def State.dropAt (s : State) (p : Nat) : State := s.modPio p fun io => { io with drop := satInc io.drop }
/-- A node entry. -/
def State.node (s : State) (n : Nat) : NodeEnt := s.fab.nodes.getD n {}
/-- A node entry rewritten. -/
def State.modNode (s : State) (n : Nat) (f : NodeEnt → NodeEnt) : State :=
  { s with fab := { s.fab with nodes := s.fab.nodes.modD n {} f } }
/-- A route entry. -/
def State.route (s : State) (n : Nat) : Route := s.fab.routes.getD n {}

/-- STATE of a port (Table 8.18). -/
def PortState.num : PortState → Nat
  | .unused => 0 | .down => 1 | .hello => 2 | .up => 3 | .disputed => 4 | .miswired => 5

/-- The port carries packets of partition `part` (R25, Table 1.5): dedicated to it, or with a slot of it; block traffic anywhere. -/
def Port.carries (p : Port) (part : Nat) : Bool := part == 0 || (if p.slotted then p.slots.contains part else p.owner == part)

/-- Free units of the lane at the next hop (R191). -/
def Port.credits (p : Port) (vl : Nat) : Nat := (p.limit.getD vl 0 - p.sent.getD vl 0).toNat

/-- A packet of u units may start on the lane (R191). -/
def Port.maySend (p : Port) (vl u : Nat) : Bool := decide ((p.limit.getD vl 0 - p.sent.getD vl 0 - BitVec.ofNat 12 u).toNat < 2048)

/-- A port is up, not disputed, and open to the partition. -/
def State.portOk (s : State) (p part : Nat) : Bool := decide (p < 24) && (s.port p).state == .up && (s.port p).carries part

/-- The direct ports to a node, lower number first. -/
def State.directPorts (s : State) (n part : Nat) : List Nat :=
  (List.range 24).filter fun p => s.portOk p part && (s.port p).peer == n

/-- The row-first and the column-first ports towards a node that are usable (R204, R207). -/
def State.usablePorts (s : State) (n part : Nat) : List Nat × List Nat :=
  let r := s.route n
  let ok (l : List Nat) : List Nat := l.filter fun p => s.portOk p part
  (if r.rfail then [] else ok [r.firstR, r.altR], if r.direct || r.cfail then [] else ok [r.firstC, r.altC])

/-- The port of a detour in the node's own row or column: the lowest node ID of that row or column with usable ports to both ends; a
neighbour that has sent ROUTE_FAIL has none to the other (R205 item 3, R207). -/
def State.detour (s : State) (n part : Nat) : Option Nat :=
  let row (m : Nat) : Nat := ((s.lease.topo.nodes.find? (·.node == m)).map (·.row)).getD 0
  let col (m : Nat) : Nat := ((s.lease.topo.nodes.find? (·.node == m)).map (·.col)).getD 0
  let me := s.lse.node
  let line (m : Nat) : Bool := (row m == row me && row n == row me) || (col m == col me && col n == col me)
  let ports (m : Nat) : List Nat := (s.directPorts m part).filter fun p => !(s.route n).failed.contains p
  let cand := (s.lease.topo.nodes.map (·.node)).filter fun m => m != me && m != n && line m && ports m != []
  (cand.min?).bind fun m => (ports m).head?

/-- The candidate with the most free credits on a lane; earlier candidates win ties (R205 item 2, R206). -/
def State.mostCredits (s : State) (l : List Nat) (vl : Nat) : Option Nat :=
  l.foldl (fun b p => match b with
    | none => some p
    | some x => if (s.port x).credits vl < (s.port p).credits vl then some p else some x) none

/-- The first hop of a packet (R205). -/
def State.firstHop (s : State) (n part : Nat) (ordered : Bool) : Option Nat :=
  let (r, c) := s.usablePorts n part
  let best := if ordered then (r.min?).or c.min? else s.mostCredits (sortBy id r ++ sortBy id c) 0
  if (s.route n).direct then best.or (s.detour n part) else best

/-! ### Flow keys and transmission (R197, R199) -/

/-- The flow epoch of a partition (R202). -/
def State.flowEpoch (s : State) (part : Nat) : Word := s.fab.epoch.getD part 0

/-- The vault slot under whose keys a flow sends in a generation and PHASE: no packet starts under one that is not ACTIVE (R379). -/
def State.flowKey (s : State) (part src dst : Nat) (gen : Word) (phase : Nat) : Option Nat :=
  (s.fab.keys.find? fun k => k.part == part && k.src == src && k.dst == dst && k.gen == gen &&
    k.epoch.toNat % 4 == phase && (s.slot k.slot).state == .active).map (·.slot)

/-- The sending side of a flow. -/
def State.flowTx (s : State) (part dst : Nat) : FlowTx :=
  (s.fab.tx.find? fun f => f.part == part && f.dst == dst).getD { part, dst }

/-- The sending side of a flow rewritten. -/
def State.putTx (s : State) (f : FlowTx) : State :=
  { s with fab := { s.fab with tx := f :: s.fab.tx.filter fun g => g.part != f.part || g.dst != f.dst } }

/-- A request, tally or cart packet that expects an answer (R199, R227). -/
def Packet.asks (p : Packet) : Bool := p.kind == 0 || ((p.kind == 3 || p.kind == 4) && p.opcode < 0x80)

/-- The lane of an own packet: hop-local link control on VL 2 (R206, R211). -/
def Packet.vl (p : Packet) : Nat := if p.kind = 2 ∧ p.opcode < 7 then 2 else 0

/-- The bytes of a packet under its flow's keys (R198). -/
def State.flowBytes (s : State) (p : Packet) (slot : Nat) : List Byte :=
  let w0 := word0 p p.vl 0
  let w1 : Dword := BitVec.ofNat 2 (s.flowEpoch p.part).toNat ++ (s.flowTx p.part p.dst).seq
  let cb := flowBlock w1 p.src p.dst p.part
  let wire := xorBytes p.bytes (flowPad (s.keyBytes slot) cb p.bytes.length)
  packetBytes w0 w1 wire (flowMac (s.keyBytes slot) (s.hashKey slot) w0 w1 wire cb)

/-- The bytes of a clear link-control packet (R203). -/
def Packet.clearBytes (p : Packet) : List Byte := packetBytes (word0 p (if p.opcode < 8 then 2 else 0) 0) 0 p.bytes 0

/-- Link credits used: SENT of the lane rises by the packet's units (R191). -/
def Port.spend (p : Port) (vl u : Nat) : Port := { p with sent := p.sent.set vl (p.sent.getD vl 0 + BitVec.ofNat 12 u) }

/-- The slot pad of a cell's unit (R209). -/
def slotPad (key : List Byte) (count : Dword) (part unit : Nat) : List Byte :=
  blockBytes (aes256 key (count ++ (0 : BitVec 16) ++ BitVec.ofNat 3 part ++ (0 : BitVec 40) ++ BitVec.ofNat 5 unit))

/-- A cell: the packet, zeros to 288 bytes, and the slot pad over the header and over what follows the MAC (R209). -/
def cellBytes (key : List Byte) (count : Dword) (part : Nat) (payload : Nat) (b : List Byte) : List Byte :=
  let cell := (b ++ List.replicate 288 0).take 288
  let pad := ((List.range 18).map (slotPad key count part)).flatten
  (cell.zip (pad.zip (List.range 288))).map fun (c, k, i) => if i < 24 ∨ 32 + payload ≤ i then c ^^^ k else c

/-- The slot-pad key of a port and partition: KMAC256(K_0, a ‖ b ‖ port ‖ p, 256, "YEBIN3-SLOT"), from the partition domain key
of partition 0 (R209). -/
def slotKey (k0 : List Byte) (a b port part : Nat) : List Byte := kmac256 k0 [a, b, port, part] 32 "YEBIN3-SLOT"

/-- The vault slot of a slot-pad key of the running generation. -/
def State.padSlot (s : State) (port part : Nat) (tx : Bool) : Option Nat :=
  if s.fab.dstate = 3 then
    (s.fab.pads.find? fun k => k.port == port && k.part == part && k.tx == tx && k.gen == s.fab.gen).map (·.slot)
  else none

/-- The domain secret of a generation: slot 8 holds a member's own, slot 9 the other (Table 14.3). -/
def State.domainSecret (s : State) (g : Word) : List Byte := s.keyBytes (if g = s.fab.gen ∧ s.fab.dstate = 3 then 8 else 9)

/-- K_dp of a partition for a generation (R197). -/
def State.domainKey (s : State) (p : Nat) (g : Word) : List Byte :=
  kmac256 (s.domainSecret g) (BitVec.ofNat 8 p :: leBytes 4 g.toNat) 32 "YEBIN3-PARTITION"

/-- Free units of a receive lane: 2,048 for VL 0 and 1, 64 for VL 2, less what waits (R191). -/
def Port.free (p : Port) (vl : Nat) : Nat :=
  let units (x : RxPkt) : Nat := if (x.w0.extractLsb' 91 2).toNat = vl then (24 + x.payload.length + 8 + 15) / 16 else 0
  (if vl = 2 then 64 else 2048) - (p.rx.map units).sum

/-- A codeword header: FIRST, and the LIMIT of one lane, units received plus free units (Table 8.1, R191). -/
def Port.header (p : Port) (first : Nat) : BitVec 20 :=
  BitVec.ofNat 6 first ++ BitVec.ofNat 2 p.lane ++ (p.got.getD p.lane 0 + BitVec.ofNat 12 (p.free p.lane))

/-- The 16-byte units of a byte string. -/
def units (b : List Byte) : List Block := (chunks 16 (b.length / 16) b).map bytesBlock

/-- A packet shown at a port, at the start of a codeword whose other units are idle; the lanes' limits take turns (R189, R191, DESIGN CHOICE, log 33). -/
def State.codeword (s : State) (port : Nat) (b : List Byte) : State :=
  ((s.modPort port fun p => { p with lane := (p.lane + 1) % 3 }).bump 0x04 port (b.length / 16)).emit (.codeword port ((s.port port).header 0) (units b))

/-- A cell without a slot pad: a node that is no member holds no K_0 (R209, DEDUCED, log 85). -/
def bareCell (b : List Byte) : List Byte := b ++ List.replicate (288 - b.length) 0

/-- The packet is put on the wire of a port: as it is, or as a cell of the current slot (R209). -/
def State.putOnWire (s : State) (port payload : Nat) (b : List Byte) (vl : Nat) : State :=
  let p := s.port port
  if p.slotted then
    let slotPart := p.slots.getD p.slotIdx 0
    let t := s.modPort port fun p => { p.spend vl 18 with cellsTx := p.cellsTx + 1 }
    match s.padSlot port slotPart true with
    | some n => t.codeword port (cellBytes (s.keyBytes n) p.cellsTx slotPart payload b)
    | none => t.codeword port (bareCell b)
  else (s.modPort port fun p => p.spend vl (b.length / 16)).codeword port b

/-- The packet leaves: numbered in its flow, enciphered by the port's cluster and sent (R30, R199). Without its flow's key no packet leaves
(R18), and none on an exhausted flow, which is logged with 0x300A. -/
def State.transmit (s : State) (port : Nat) (p : Packet) : State :=
  match s.flowKey p.part p.src p.dst s.fab.gen ((s.flowEpoch p.part).toNat % 4) with
  | none => s
  | some slot =>
    let f := s.flowTx p.part p.dst
    if 2 ^ 62 - 1 ≤ f.seq.toNat then s.logged 0x300A p.part (.unit .node p.dst 0)
    else
      let b := s.flowBytes p slot
      let t := s.passCluster (88 + port) p.part (p.bytes.length / 16 + 1) p.ctx [slot]
      (t.putOnWire port p.bytes.length b p.vl).putTx
        { f with seq := f.seq + 1, unanswered := f.unanswered + (if p.asks then 1 else 0) }

/-! ### Output queues (R191, R206, R209) -/

/-- The partition of a queued item. -/
def Queued.part : Queued → Nat
  | .own k => k.part
  | .raw part _ _ _ => part

/-- Its lane. -/
def Queued.vl : Queued → Nat
  | .own k => k.vl
  | .raw _ _ vl _ => vl

/-- Its units as a packet. -/
def Queued.units : Queued → Nat
  | .own k => (24 + k.bytes.length + 8 + 15) / 16
  | .raw _ _ _ b => b.length / 16

/-- The item may start on its lane: its units have credits, and its flow has fewer than 1,024 packets unanswered (R191, R199). -/
def State.maySendItem (s : State) (port : Nat) (x : Queued) : Bool :=
  let q := s.port port
  q.maySend x.vl (if q.slotted then 18 else x.units) && (match x with
    | .own k => !(k.asks && decide (1024 ≤ (s.flowTx k.part k.dst).unanswered))
    | .raw .. => true)

/-- The item put on the wire. -/
def State.sendItem (s : State) (port : Nat) (x : Queued) : State :=
  match x with
  | .own k => s.transmit port k
  | .raw _ n vl b => s.putOnWire port n b vl

/-- The first item of a port's queue that may be sent now among those that satisfy a test: items of one partition and lane keep their
order. -/
def State.nextItem (s : State) (port : Nat) (f : Queued → Bool) : Option Queued :=
  let l := (s.port port).tx
  ((l.zip (List.range l.length)).find? fun (x, i) =>
    f x && s.maySendItem port x && (l.take i).all fun y => y.vl != x.vl || y.part != x.part).map (·.1)

/-- What waits at a dedicated port is sent as far as credits go (R191). -/
def State.drainTx (s : State) (port : Nat) : State :=
  if (s.port port).slotted then s
  else (List.range (s.port port).tx.length).foldl (fun s _ => match s.nextItem port fun _ => true with
    | none => s
    | some x => (s.modPort port fun q => { q with tx := q.tx.erase x }).sendItem port x) s

/-- A packet presented to a port: sent at once by a dedicated port with credits for it, and queued otherwise, on a slotted port for a slot
(R191, R209). -/
def State.present (s : State) (port : Nat) (x : Queued) : State :=
  let q := s.port port
  if !q.slotted ∧ s.maySendItem port x ∧ q.tx.all (fun y => y.vl != x.vl || y.part != x.part) then s.sendItem port x
  else s.modPort port fun q => { q with tx := q.tx ++ [x] }

/-- A clear link-control message, sent on a port (R203). -/
def State.sendClear (s : State) (port : Nat) (p : Packet) : State :=
  s.present port (.raw 0 p.bytes.length p.vl p.clearBytes)

/-- An answer of a home or a tally, for the requester `src`: directly when it is on this node, otherwise an egress of the
partition at the port of its route (R120, R226, R232). -/
def State.answerTo (s : State) (a : Answer) (dst : Nat) (fmt : Nat) (ctx : Option (BitVec 16)) : State :=
  if dst = s.lse.node then { s with req := { s.req with answers := s.req.answers ++ [a] } }
  else
    match s.firstHop dst a.part false with
    | none => s.logged 0x300B a.part (.unit .node dst 0)
    | some port => s.hold a.part (.port port) ctx (.packet {
        dst, src := s.lse.node, kind := a.kind, opcode := a.opcode, len := a.len, part := a.part, tag := a.tag, ctx
        addr := a.addr, fmt, poison := a.poison, cartw := a.cartw, payload := a.payload })

end Sys2Proof.Machine
end

