-- ==== Sys2Proof/Machine/Deliver.lean ====
section
/-!
DEFINITION. Machine/Deliver.lean: the requester's side of an operation (09, R225 to R235): issuing a request with its TAG, ending it
towards the engine that issued it, the fence, and the raising of its fault.
-/

namespace Sys2Proof.Machine

/-! ### Operations and their homes -/

/-- The quadrant of a local address: of the stack window, or of the Inner Store slice, that it selects (R31, R143). -/
def quadOf (a : Nat) : Nat :=
  let l := a % 2 ^ 44
  if l < 0xC000000000 then l / 2 ^ 36 / 3 else min 3 ((l - 0xC000000000) / 2 ^ 31)

/-- The node of a global address (R225). -/
def nodeOf (a : Nat) : Nat := a / 2 ^ 44 % 256

/-- An operation answered with data (R164, Tables 9.2 to 9.4). -/
def Op.returns (o : Op) : Bool :=
  if o.kind = 0 then o.opcode == 1 || (decide (0x10 ≤ o.opcode) && decide (o.opcode ≤ 0x21)) else o.kind == 3 && o.opcode == 3

/-- A posted operation: complete towards its context when its packet is released (R230, R231, R297). -/
def Op.posted (o : Op) : Bool :=
  o.kind == 0 && (decide (0x50 ≤ o.opcode) && decide (o.opcode ≤ 0x61) || decide (0x30 ≤ o.opcode) && decide (o.opcode ≤ 0x32))

/-- An operation that changes memory. -/
def Op.writes (o : Op) : Bool := o.kind == 0 && o.opcode != 1

/-- Bytes an operation covers: LENGTH for reads, writes and vectors, the line for a masked write, the operand for an atomic (R229). -/
def Op.size (o : Op) : Nat :=
  match atomicBase o.opcode with
  | some b => atomicSize b
  | none => if o.opcode = 3 then 64 else lenBytes o.len

/-- A fetching atomic's or a read's answer length. -/
def Op.answerBytes (o : Op) : Nat :=
  if o.kind = 3 then 8
  else match atomicBase o.opcode with
  | some b => if b = 0x21 then 16 else 8
  | none => if o.opcode = 1 then lenBytes o.len else 0

/-- The two operations touch a common line. -/
def sameLines (a b : Op) : Bool :=
  decide (a.addr / 64 ≤ (b.addr + max 1 b.size - 1) / 64) && decide (b.addr / 64 ≤ (a.addr + max 1 a.size - 1) / 64)

/-! ### Face targets (R255, R263, Table 10.4) -/

/-- A target. -/
def State.target (s : State) (t : Nat) : Target := s.face.targets.getD t {}

/-- A target rewritten. -/
def State.modTarget (s : State) (t : Nat) (f : Target → Target) : State :=
  { s with face := { s.face with targets := s.face.targets.modD t {} f } }

/-- The armed target whose window an operation touches. -/
def State.targetAt (s : State) (o : Op) : Option (Nat × Target) :=
  let a := o.addr % 2 ^ 44
  s.face.targets.find? fun (_, t) => t.state != .empty && decide (t.win * 64 < a + max 1 o.size)
    && decide (a < (t.win + t.units) * 64)

/-- The lowest-numbered face of a partition in a quadrant (R279). -/
def State.quadFace (s : State) (q p : Nat) : Option Nat := [2 * q, 2 * q + 1].find? fun f => s.faceOwner f == p

/-! ### Raising a request's fault at its requester -/

/-- The details that keep the context of the operation (Tables 9.11, 10.14). -/
def keeps (code : Nat) : Bool := [0x3407, 0x800C, 0xB801, 0xB802, 0xB803, 0xB806, 0xB004, 0xB005].contains code

/-- The details of a dead target (R235). -/
def isDeadCode (code : Nat) : Bool := code == 0x3101 || code == 0x3102 || code == 0x300B

/-- FACE_IRQ_STATUS.REFUSED for the details of Table 10.22. -/
def State.faceRefused (s : State) (part code : Nat) : State :=
  if 0xB001 ≤ code ∧ code ≤ 0xB007 ∧ code ≠ 0xB006 then s.irqVis .face part 2 else s

/-- The fault of an operation raised to its issuing context: lost or kept as the detail's own table says, a dead target's as
YF_OPS_CFG.DEAD_LOSE says (R235). -/
def State.opFault (s : State) (part : Nat) (ctx : Option (BitVec 16)) (code : Nat) (o : Obj) : State :=
  let s := s.faceRefused part code
  if isDeadCode code && !s.lease.policies.deadLose || keeps code then s.keepOpt part ctx code o
  else s.loseOpt part ctx code o

/-- The object of an operation's fault (Tables 4.8, 5.7, 10.14, 16.3): for memory of this node its line, with its seam, for a face its
target or the face itself, for a tally the tally, and for any other operation the node it was for. `k` is the line of the operation. -/
def State.opObj (s : State) (o : Op) (node code k : Nat) : Obj :=
  let line := o.addr % 2 ^ 44 / 64 + k
  if node ≠ s.lse.node then .unit .node node 0
  else if code / 4096 = 1 ∨ code / 4096 = 2 then .line (line * 64) (((s.seamAt line).map (·.1)).getD 0xFF)
  else if code / 4096 = 7 then .unit .tally (o.addr % 65536) 0
  else if code / 4096 = 0xB ∧ code < 0xB800 then
    match s.targetAt o with
    | some (t, _) => .unit .target t 0
    | none => .unit .face ((s.quadFace (quadOf o.addr) o.part).getD 0) 0
  else .unit .node node 0

/-! ### Ending a request -/

/-- The error value of n bytes (every byte 0xFF). -/
def errorValue (n : Nat) : List Byte := List.replicate n 0xFF

/-- The STATUS of a completion (R164, R170, R235). -/
def State.opStatus (s : State) (part : Nat) (ctx : Option (BitVec 16)) (ok : Bool) (code : Nat) (poison : Bool) : Nat :=
  match ctx with
  | some c => if !s.ctxOk part c then 2 else if isDeadCode code then 3 else if ok && !poison then 0 else 1
  | none => if isDeadCode code then 3 else if ok && !poison then 0 else 1

/-- A failed operation remembered for the next FENCE of its context through its engine (R234). -/
def State.markFailed (s : State) (e : Engine) (part : Nat) (ctx : Option (BitVec 16)) : State :=
  match ctx with
  | some c => { s with req := { s.req with failed := (e, part, c) :: s.req.failed.filter (· != (e, part, c)) } }
  | none => s

/-- A home declared dead is waited for no longer, and a commit entry with no home left goes (R246). -/
def State.dropHome (s : State) (n : Nat) : State :=
  let drop (d : Decision) : Decision := { d with waits := d.waits.filter (·.1 != n) }
  { s with cart := { s.cart with log := (s.cart.log.map drop).filter fun d => d.code != 5 || d.waits != [] } }

/-- A cart packet that failed: a missing vote counts as abort, and a home declared dead is waited for no longer (R246, DEDUCED, log 24). -/
def State.cartFailed (s : State) (r : Req) : State :=
  let vote (m : CartMember) : CartMember := if m.vote = 0 then { m with vote := 6, fault := 0xB802 } else m
  let member (c : Cart) : Cart :=
    if c.id = r.extTag / 16 then { c with members := c.members.modify (r.extTag % 16) vote } else c
  if r.op.opcode = 1 ∨ r.op.opcode = 2 then { s with cart := { s.cart with carts := s.cart.carts.map member } }
  else if (r.op.opcode = 4 ∨ r.op.opcode = 5) ∧ (s.node r.node).dead then s.dropHome r.node
  else s

/-- A task. -/
def State.task (s : State) (t : Nat) : Task := s.wnd.tasks.getD t {}

/-- A task rewritten. -/
def State.modTask (s : State) (t : Nat) (f : Task → Task) : State :=
  { s with wnd := { s.wnd with tasks := s.wnd.tasks.modD t {} f } }

/-- A task's current step completes: the next step, READY, or STOPPED when STOP waits for the step boundary (R304, R305). -/
def State.stepDone (s : State) (t : Nat) (next : Nat) : State :=
  s.modTask t fun k =>
    { k with step := next, state := if k.stopReq then .stopped else .ready, stopReq := false, block := 0, req := none, ind := none }

/-- In D3hot a fabric packet that satisfies a registration of the partition's front end or mover has PME sent (R360). -/
def State.wakePme (s : State) (r : Req) (code : Nat) : State :=
  let ours : Bool := match r.eng with
    | .front _ | .mover _ => true
    | _ => false
  if ours ∧ code = 0 ∧ r.op.kind = 3 ∧ r.op.opcode = 3 ∧ r.node ≠ s.lse.node ∧ s.hst.power.getD (r.op.part * 32) 0 = 1 then
    s.pme r.op.part 2
  else s

/-- The result of an operation handed to the engine that issued it: a site answers its chiplet (R164), a task's wait completes its
step, the front end is answered (R356), and every other engine finds a record of it. -/
def State.giveResult (s : State) (r : Req) (status : Nat) (code : Nat) (poison : Bool) (data : List Byte) : State :=
  match r.eng with
  | .site t =>
    match (s.sIo t).ops.find? fun o => o.tag == r.extTag && o.seq == r.seq with
    | none => s
    | some o =>
      if r.op.kind = 4 then s
      else if r.op.returns then s.rsp t o status (poison || status != 0) (if status = 0 then data else errorValue (max 64 r.op.answerBytes))
      else s.cmpl t o.tag status
  | .block => s
  | .front q => (s.emit (.frontEnd q code (ofLe data))).wakePme r code
  | .task t =>
    if 65536 ≤ r.extTag then
      { s with req := { s.req with done := s.req.done ++ [{ eng := .task t, extTag := r.extTag, ok := status == 0, code, poison, data }] } }
    else if (s.task t).req = some r.tag then
      if status = 0 then s.stepDone t (s.task t).nextPtr else s.haltTask t code
    else if (s.task t).ind = some r.tag then
      { s with req := { s.req with done := s.req.done ++ [{
        eng := .task t, extTag := r.tag, ok := status == 0, code, poison, data }] } }
    else s
  | .mover c =>
    let d : Done := { eng := .mover c, extTag := r.extTag, ok := status == 0, code, poison, data }
    { s with req := { s.req with done := s.req.done ++ [d] } }.wakePme r code
  | e => { s with req := { s.req with done := s.req.done ++ [{
      eng := e, extTag := r.extTag, ok := status == 0, code, poison, data }] } }

/-- A request is outstanding no more. -/
def State.dropReq (s : State) (r : Req) : State := { s with req := { s.req with out := s.req.out.filter (·.tag != r.tag) } }

/-- A request ends: it is outstanding no more, and its engine receives the result unless it was discarded; a chiplet's discarded
operation still completes, with STATUS 0x02 (R226, R235, R238, R339, R354). `early` data for a chiplet goes although a verdict has since
lost the context (R170). -/
def State.endReq (s : State) (r : Req) (code : Nat) (poison : Bool) (data : List Byte) (early : Bool := false) : State :=
  let t := s.dropReq r
  let status := if early ∧ code = 0 ∧ !poison then 0 else s.opStatus r.op.part r.op.ctx (decide (code = 0)) code poison
  let t := if status = 0 then t else t.markFailed r.eng r.op.part r.op.ctx
  let t := if r.op.kind = 4 ∧ code ≠ 0 then t.cartFailed r else t
  let chip : Bool := match r.eng with
    | .site _ => true
    | _ => false
  if r.discarded && !chip then t else t.giveResult r (if r.discarded then 2 else status) code poison data

/-- A request ends with a fault raised to its context, or without one (R235). `k` is the line of the operation that failed. -/
def State.finishReq (s : State) (r : Req) (code : Nat) (poison : Bool) (data : List Byte) (k : Nat := 0) (early : Bool := false) : State :=
  let t := s.dropReq r
  (if code = 0 ∨ r.discarded ∨ r.op.kind = 4 then t else t.opFault r.op.part r.op.ctx code (s.opObj r.op r.node code k)).endReq r code
    poison data early

/-! ### Issuing -/

/-- The lowest TAG that no outstanding request holds (R226). -/
def State.freeTag (s : State) : Option Nat :=
  firstFrom (fun n => s.req.out.all fun r => r.tag != n) 16384 0

/-- A READ goes ORDERED while an ORDERED write or atomic of its context to the same line is unanswered (R233 item 3). -/
def State.issueOrdered (s : State) (op : Op) : Bool :=
  op.ordered || (op.kind == 0 && op.opcode == 1 &&
    s.req.out.any fun r => r.op.ordered && r.op.writes && r.op.part == op.part && r.op.ctx == op.ctx && sameLines r.op op)

/-- The packet of a request (R194, R227). -/
def State.reqPacket (s : State) (r : Req) : Packet :=
  { dst := r.node, src := s.lse.node, kind := r.op.kind, opcode := r.op.opcode, len := r.op.len, part := r.op.part, tag := r.tag
    ctx := r.op.ctx, addr := r.op.addr % 2 ^ 44, fmt := r.op.fmt, ordered := r.op.ordered, poison := r.op.poison
    cartw := r.op.cartw, payload := r.op.payload }

/-- A request is sent: to this node's own home, to be admitted there, or as an egress of its partition at the port of its route;
false when no port is usable (R205, R225). -/
def State.sendReq (s : State) (r : Req) (q : Nat) : Option State :=
  if r.node = s.lse.node then
    some { s with home := { s.home with arr := s.home.arr ++ [{ q, src := s.lse.node, tag := r.tag, op := r.op }] } }
  else
    (s.firstHop r.node r.op.part r.op.ordered).map fun port =>
      let out := s.req.out.map fun (x : Req) => if x.tag = r.tag then { x with port := some port } else x
      { s with req := { s.req with out } }.hold
          r.op.part (.port port) r.op.ctx (.packet (s.reqPacket r))

/-- The quadrant that holds the tally store of a partition (Table 6.2). -/
def State.tallyQuad (s : State) (p : Nat) : Nat :=
  match (List.range 12).find? fun k => s.stackOwner k == p && (s.ins.area.getD (7 * k + 1) (0, 0)).2 != 0 with
  | some k => k / 3
  | none => 0

/-- The quadrant where an operation is admitted on its home. -/
def State.opQuad (s : State) (op : Op) : Nat := if op.kind = 3 then s.tallyQuad op.part else quadOf op.addr

/-- An engine whose waits on this node's tallies have registrations of their own: 32 for channels, 256 for tasks, 256 for the front end
(R292). -/
def ownWaitSlot : Engine → Bool
  | .mover _ | .task _ | .front _ => true
  | _ => false

/-- The registrations in use of the 480 that are kept for waits to other nodes; a chiplet's wait on a tally of this node takes one of them
too (R292, DESIGN CHOICE, log 92). -/
def State.sharedWaits (s : State) : Nat :=
  (s.req.out.filter fun r => r.op.kind == 3 && r.op.opcode == 3 && (r.node != s.lse.node
    || !ownWaitSlot r.eng && s.tal.regs.any fun g => g.src == s.lse.node && g.tag == r.tag)).length

/-- A request issued for an engine: none while no TAG is free, or no registration for a wait to another node, so the engine stalls (R226,
R292). A request to a dead node or without a
usable port fails at once (R222, R205), as does one to a node that is no member of the partition's domain and so has no flow (R14,
DEDUCED, log 34), one on an exhausted flow with 0x300A (R199). A held request waits to be released (R291). -/
def State.issueReq (s : State) (eng : Engine) (op : Op) (ext : Nat) (seq : Dword) (held : Bool) : Option State :=
  if 16384 ≤ s.req.out.length ∨ (op.kind = 3 ∧ op.opcode = 3 ∧ nodeOf op.addr ≠ s.lse.node ∧ 480 ≤ s.sharedWaits) then none
  else
    s.freeTag.map fun tag =>
      let op := { op with ordered := s.issueOrdered op }
      let node := nodeOf op.addr
      let r : Req := { tag, node, eng, op, extTag := ext, seq, held, ordNo := s.req.nextNo }
      let t := { s with req := { s.req with out := s.req.out ++ [r], nextNo := s.req.nextNo + 1 } }
      if (s.node node).dead ∧ node ≠ s.lse.node then t.finishReq r 0x3102 false []
      else if node ≠ s.lse.node ∧ (s.flowTx op.part node).seq.toNat ≥ 2 ^ 62 - 1 then t.finishReq r 0x300A false []
      else if node ≠ s.lse.node ∧ (!(s.node node).member || !(s.nodeRec node).parts.getLsbD op.part) then t.finishReq r 0x300B false []
      else if held then t
      else (t.sendReq r (s.opQuad op)).getD (t.finishReq r 0x300B false [])

/-- The request of a TAG. -/
def State.reqOf (s : State) (tag : Nat) : Option Req := s.req.out.find? (·.tag == tag)

/-- A request rewritten. -/
def State.modReq (s : State) (tag : Nat) (f : Req → Req) : State :=
  { s with req := { s.req with out := s.req.out.map fun r => if r.tag = tag then f r else r } }

/-- The first arrived answer to a TAG that satisfies a test, and the rest. -/
def State.takeAnswer (s : State) (tag : Nat) (p : Answer → Bool) : Option (Answer × State) :=
  (s.req.answers.find? fun a => a.tag == tag && p a).map fun a =>
    (a, { s with req := { s.req with answers := s.req.answers.erase a } })

/-- An answer that matches no outstanding request is discarded, counted at the port that received it (R226). -/
def State.strayAnswer (s : State) (a : Answer) : State :=
  match a.port with
  | some p => s.dropAt p
  | none => s

/-- An answer belongs to a request: TAG, ADDR, PART and the answering node (R226). -/
def Answer.matches_ (a : Answer) (r : Req) : Bool :=
  a.tag == r.tag && a.src == r.node && a.part == r.op.part && a.addr % 2 ^ 44 == r.op.addr % 2 ^ 44

/-- A flow's unanswered packet has been answered or has failed (R199). -/
def State.flowAnswered (s : State) (r : Req) : State :=
  if r.sent then
    let f := s.flowTx r.op.part r.node
    s.putTx { f with unanswered := f.unanswered - 1 }
  else s

/-- The site whose chiplet issued an operation. -/
def engineSite : Engine → Option Nat
  | .site t => some t
  | _ => none

/-- The response buffer of the request's site takes the answer (R172). -/
def State.answerRoom (s : State) (r : Req) (a : Answer) : Bool :=
  match r.eng with
  | .site t => s.rspRoom t (rspParts (max a.payload.length r.op.answerBytes))
  | _ => true

/-- ANSWER_RECEIVE: an answer other than a NACK is matched by its TAG and completes its request; one for a chiplet waits while the site's
response buffer is full (R172, R226, R235, R238). -/
def answerReceive (tag : Nat) (s : State) : State :=
  match s.takeAnswer tag (fun a => a.kind == 1 && a.opcode != 4) with
  | none => s
  | some (a, t) =>
    match t.reqOf tag with
    | none => t.strayAnswer a
    | some r =>
      if !a.matches_ r then t.strayAnswer a
      else if !s.answerRoom r a then s
      else
        let t := t.flowAnswered r
        if a.opcode = 5 then t.finishReq r (ofLe (a.payload.take 2)) a.poison [] a.at_
        else t.finishReq r 0 a.poison a.payload 0 (a.early && (engineSite r.eng).isSome)

/-- Every outstanding request to a node fails with a detail (R222). -/
def State.failAll (s : State) (node code : Nat) : State :=
  (s.req.out.filter fun r => r.node == node).foldl (fun s r => (s.flowAnswered r).finishReq r code false []) s

/-- A node declared dead: its outstanding requests fail with 0x3102, a lead home waits for it no longer, 0x3103 is logged and
YF_IRQ_STATUS.DEAD set (R222, R246). -/
def State.declareDead (s : State) (n cause : Nat) : State :=
  if (s.node n).dead then s
  else
    ((((s.modNode n fun e => { e with dead := true, cause }).failAll n 0x3102).dropHome n).logged 0x3103 0 (.unit .node n 0)).irq .yf 0 5

/-- Every operation that the context issued through this engine has been answered or has failed (R234). -/
def State.fenceClear (s : State) (e : Engine) (part : Nat) (ctx : BitVec 16) : Bool :=
  s.req.out.all fun r => r.eng != e || r.op.part != part || r.op.ctx != some ctx

/-- The fault of a failed FENCE, and its failures forgotten. -/
def State.fenceResult (s : State) (e : Engine) (part : Nat) (ctx : BitVec 16) : State × Nat :=
  if s.req.failed.contains (e, part, ctx) then
    ({ s with req := { s.req with failed := s.req.failed.filter (· != (e, part, ctx)) } }.keepCtx part ctx 0x3407 .none, 1)
  else (s, 0)

end Sys2Proof.Machine
end

