-- ==== Sys2Proof/Machine/Inner.lean ====
section
/-!
DEFINITION. Machine/Inner.lean: the Inner Store's shared operations (06): its areas, corrected and uncorrectable words (R147, R149,
R152), lost pages (R153, R154), dirty bits (R141, R366) and the bytes of inner pages (R143).
-/

namespace Sys2Proof.Machine

/-- A slice. -/
def State.slice (s : State) (q : Nat) : Slice := s.ins.slices.getD q {}

/-- A slice rewritten. -/
def State.modSlice (s : State) (q : Nat) (f : Slice → Slice) : State :=
  { s with ins := { s.ins with slices := s.ins.slices.modD q {} f } }

/-- BASE and SIZE of area a of share k, in 2 MiB units (Table 6.12). -/
def State.area (s : State) (k a : Nat) : Nat × Nat := s.ins.area.getD (7 * k + a) (0, 0)

/-- Bytes of a share (Table 6.1). -/
def shareBytes : Nat := 0x28000000

/-- The slice offset where area a of share k starts (R138, R141). -/
def State.areaStart (s : State) (k a : Nat) : Nat := k % 3 * shareBytes + (s.area k a).1 * 2097152

/-! ### Masking (R144) -/

/-- Block B_b of line `line` of slice q. -/
def maskBlock (q line b : Nat) : Block :=
  (0x49 : BitVec 8) ++ BitVec.ofNat 2 q ++ BitVec.ofNat 25 line ++ (0 : BitVec 91) ++ BitVec.ofNat 2 b

/-- The mask M of a line, under K_mask,q, which lies in slot 4 + q. -/
def State.mask (s : State) (q line : Nat) : Line :=
  bytesLine ((List.range 4).map fun b => blockBytes (aes256 (s.keyBytes (4 + q)) (maskBlock q line b))).flatten

/-- What the slice's cells hold for a line whose content is `l`, and what a read makes of the cells' content: the line XOR its mask. -/
def State.masked (s : State) (q line : Nat) (l : Line) : Line := l ^^^ s.mask q line

/-- The slice has no content under its masking key: from a cold start or gating until its initialisation every line reads as noise. -/
def State.noisy (s : State) (q : Nat) : Bool := (s.slice q).state == .uninit || (s.slice q).state == .gated

/-- Noise: free bytes. -/
def noise (a n : Nat) : List Byte := (List.range n).map fun i => Config.freeByte a i

/-! ### Corrected and uncorrectable words -/

/-- The capture registers take an event unless one is held; then it is counted only (Tables 6.9, 6.10). -/
def State.insCapture (s : State) (q word area : Nat) (uncorr : Bool) : State :=
  if s.ins.cap.valid then s
  else { s with ins := { s.ins with
    cap := { valid := true, code := BitVec.ofNat 16 q, addr := word, area, uncorr }, irqStat := setBit s.ins.irqStat 0 } }

/-- A word noted in the scrub correction table: its count rises, or it enters, in a full table in place of the entry with the
smallest count, the oldest among equals (R149). -/
def scrubNote (t : List ScrubEntry) (w : Nat) : List ScrubEntry :=
  if t.any (·.word == w) then t.map fun e => if e.word = w then { e with count := e.count + 1 } else e
  else if t.length < 256 then t ++ [{ word := w }]
  else
    let m := (t.map (·.count)).foldl min (t.map (·.count)).sum
    match t.find? (·.count == m) with
    | some e => t.erase e ++ [{ word := w }]
    | none => t

/-- A single-bit error corrected on the fly: counted, noted in the scrub correction table, captured (R147). -/
def State.insCorr (s : State) (q word area : Nat) : State :=
  ((s.modSlice q fun e => { e with corr := satInc e.corr, table := scrubNote e.table word }).bump 0x13 q 1).insCapture q word area false

/-- An uncorrectable word: counted, captured, INS_IRQ_STATUS.UNCORR (R152). -/
def State.insUncorr (s : State) (q word area : Nat) : State :=
  let t := ((s.modSlice q fun e => { e with uncorr := satInc e.uncorr }).bump 0x14 q 1).insCapture q word area true
  { t with ins := { t.ins with irqStat := setBit t.ins.irqStat 1 } }

/-- A word read with its decoder's report: corrected ones are counted; the flag says that it is uncorrectable. -/
def State.insWord (s : State) (q word area : Nat) (e : Ecc) : State × Bool :=
  match e with
  | .clean => (s, false)
  | .corrected => (s.insCorr q word area, false)
  | .uncorr => (s.insUncorr q word area, true)

/-- Words read with their decoders' report. Which of them a report other than clean is about is a free value (DESIGN CHOICE, log 81). -/
def State.insWords (s : State) (q : Nat) (words : List Nat) (area : Nat) (e : Ecc) : State × Bool :=
  if e = .clean then (s, false)
  else s.used.insWord q (words.getD (Config.freeNat s.fresh % max 1 words.length) (words.headD 0)) area e

/-- The n words from one on. -/
def wordsFrom (w n : Nat) : List Nat := (List.range n).map (w + ·)

/-! ### Counter blocks and lost pages (R108, R152 to R154) -/

/-- The counter block of page k of a seam, by its key (R75, R87). -/
def cbKey (e : Seam) (page : Nat) : Nat := e.stack * 2 ^ 23 + e.base * 64 + page

/-- A counter block; one that was never written is zero (R145), and one of a slice that is not initialised is noise (R144). -/
def State.cb (s : State) (key : Nat) : Line :=
  if s.noisy (key / 2 ^ 23 / 3) then bytesLine (noise key 64) else s.ins.cb.getD key 0

/-- A counter block stored (R108); zero is what an absent one reads as. -/
def State.putCb (s : State) (key : Nat) (b : Line) : State :=
  { s with ins := { s.ins with cb := if b = 0 then s.ins.cb.erase key else s.ins.cb.put key b } }

/-- The page's entry in the shaft's lost-page list. -/
def State.lostEntry (s : State) (k n page : Nat) : Option LostPage :=
  (s.shaft k).lost.find? fun l => l.seam == n && l.page == page

/-- The page is lost and line i of it has not been rewritten since its sweep (R153). -/
def State.lineLost (s : State) (k n page i : Nat) : Bool :=
  (s.shaft k).lostAll.contains n || (match s.lostEntry k n page with
    | some l => !l.rewritten.getLsbD i
    | none => false)

/-- The page is lost and its sweep has not come (R153). -/
def State.pageLost (s : State) (k n page : Nat) : Bool :=
  (s.shaft k).lostAll.contains n || (match s.lostEntry k n page with
    | some l => !l.swept
    | none => false)

/-- An uncorrectable counter block: 0x2201 to the partition, the page entered in the lost-page list and a class-3 drift queued; on a
full list the seam is frozen with 0x2204 and swept in class 2 (R152 to R154). A listed page that its sweep has passed is lost anew.
`w` is the word of the block that is uncorrectable. -/
def State.loseCounter (s : State) (k n page w : Nat) : State :=
  let e := s.seam n
  let t := (s.insUncorr (k / 3) (s.areaStart k 0 / 8 + (e.base * 64 + page) * 8 + w) 0).toPart 0x2201 e.owner (.unit .seam n 0)
  let again (l : LostPage) : LostPage := if l.seam = n ∧ l.page = page then { l with swept := false, rewritten := 0 } else l
  if (t.lostEntry k n page).isSome then
    if t.pageLost k n page then t
    else (t.modShaft k fun sh => { sh with lost := sh.lost.map again }).wantDrift n 3 0 false
  else if (t.shaft k).lost.length < 64 then
    let t := t.modShaft k fun sh => { sh with lost := sh.lost ++ [{ seam := n, page }] }
    { t with ins := { t.ins with irqStat := setBit t.ins.irqStat 3 } }.wantDrift n 3 0 false
  else t.freezeSeam n 0x2204 (.unit .seam n 0)

/-- A line of a lost page has been rewritten in full; the entry goes when all 64 are (R153). -/
def State.lineRewritten (s : State) (k n page i : Nat) : State :=
  let upd (l : LostPage) : Option LostPage :=
    if l.seam = n ∧ l.page = page ∧ l.swept then
      let m := l.rewritten ||| (1 <<< i)
      if m = BitVec.allOnes 64 then none else some { l with rewritten := m }
    else some l
  s.modShaft k fun sh => { sh with lost := sh.lost.filterMap upd }

/-! ### Dirty logs (Table 6.2, R143, R366) -/

/-- The functions of a partition that are logged now. -/
def State.loggedFns (s : State) (p : Nat) : List Nat :=
  (List.range 17).filter fun f => (s.ins.dirtyEn.getD p 0).getLsbD f

/-- A dirty bit's key: share, function, and its place in the function's log, the stack's pages first. -/
def dirtyKey (k fn bit : Nat) : Nat := (k * 32 + fn) * 2 ^ 24 + bit

/-- A page of a share's stack, or of its inner pages, marked written in the log of every logged function of the partition. -/
def State.markDirty (s : State) (k p bit : Nat) : State :=
  { s with ins := { s.ins with dirty := (s.loggedFns p).foldl (fun l f => insNat (dirtyKey k f bit) l) s.ins.dirty } }

/-- The log bit of a page of the stack window. -/
def stackBit (addr : Nat) : Nat := addr % 2 ^ 36 / 4096

/-- Bits of the stack part of a function's log: 1.5 MiB of page bits. -/
def stackBits : Nat := 12582912

/-! ### Inner pages (R143) -/

/-- The share an inner-page address lies in and its offset in the share, if it lies in the slices' window at a share. -/
def innerShare (addr : Nat) : Option (Nat × Nat) :=
  let l := addr % 2 ^ 44
  if l < 0xC000000000 ∨ 0xC200000000 ≤ l then none
  else
    let q := (l - 0xC000000000) / 2 ^ 31
    let o := (l - 0xC000000000) % 2 ^ 31
    if o < 3 * shareBytes then some (3 * q + o / shareBytes, o % shareBytes) else none

/-- The partition whose inner pages hold the n bytes at an address, 0 when none does. -/
def State.innerOwner (s : State) (addr n : Nat) : Nat :=
  match innerShare addr with
  | none => 0
  | some (k, o) =>
    let (b, z) := s.area k 6
    if b * 2097152 ≤ o ∧ o + n ≤ (b + z) * 2097152 then s.stackOwner k else 0

/-- Bytes of inner pages; one never written is zero (R145), and those of a slice that is not initialised are noise (R144). -/
def State.innerBytes (s : State) (addr n : Nat) : List Byte :=
  if s.noisy ((addr % 2 ^ 44 - 0xC000000000) / 2 ^ 31) then noise addr n
  else (List.range n).map fun i => s.ins.pages.getD (addr % 2 ^ 44 + i) 0

/-- One byte of an inner page written: zero is what an unlisted byte reads as. -/
def putInner (t : Tab Byte) (a : Nat) (b : Byte) : Tab Byte := if b = 0 then t.erase a else t.put a b

/-- Bytes written to inner pages, `none` leaving a byte as it is, and the page marked dirty: the inner part of a log counts pages from the
start of the share's inner-page area (R367). -/
def State.writeInner (s : State) (p addr : Nat) (l : List (Option Byte)) : State :=
  let a := addr % 2 ^ 44
  let put (t : Tab Byte) (x : Option Byte × Nat) : Tab Byte := match x.1 with
    | some b => putInner t (a + x.2) b
    | none => t
  let t := { s with ins := { s.ins with pages := (l.zip (List.range l.length)).foldl put s.ins.pages } }
  match innerShare addr with
  | some (k, o) => t.markDirty k p (stackBits + (o - (s.area k 6).1 * 2097152) / 4096)
  | none => t

end Sys2Proof.Machine
end

