-- ==== Sys2Proof/Machine/Tallies.lean ====
section
/-!
DEFINITION. Machine/Tallies.lean: the tallies (11, R286 to R302): records, signals, waits and their registrations, pairs, references
(R337), and TAL_CMD (R311).
-/

namespace Sys2Proof.Machine

/-- A tally record. -/
def State.tally (s : State) (n : Nat) : TallyRec := s.tal.recs.getD n {}

/-- A tally record stored; one never written has every field clear. -/
def State.putTally (s : State) (n : Nat) (r : TallyRec) : State :=
  { s with tal := { s.tal with recs := if r = {} then s.tal.recs.erase n else s.tal.recs.put n r } }

/-- The partition owns the tally (R286). -/
def State.ownsTally (s : State) (p n : Nat) : Bool :=
  let x := s.shapeOf p
  s.defined p && decide (x.talBase ≤ n) && decide (n < x.talBase + x.talCount)

/-- The owner of a tally, 0 when none. -/
def State.tallyOwner (s : State) (n : Nat) : Nat := (allParts.find? fun p => s.ownsTally p n).getD 0

/-! ### Waiters (R289, R292, R293, R295) -/

/-- A waiter answered: WAIT_DONE with the value, or ERROR with a code (R295). -/
def State.answerWait (s : State) (g : Registration) (code : Nat) (v : Dword) : State :=
  let a : Answer := { tag := g.tag, src := s.lse.node, part := g.part, addr := g.tally, kind := 3, opcode := 0x83, len := 1
                      payload := leBytes 8 v.toNat }
  s.answerTo (if code = 0 then a else { a with kind := 1, opcode := 5, payload := leBytes 8 code }) g.src 0 g.ctx

/-- The waiters of a tally that satisfy a test are released in the order they were registered (R289). -/
def State.releaseWaits (s : State) (n : Nat) (p : Registration → Bool) (code : Nat) (v : Dword) : State :=
  let go (g : Registration) : Bool := g.tally == n && p g
  (s.tal.regs.filter go).foldl (fun s g => s.answerWait g code v)
    { s with tal := { s.tal with regs := s.tal.regs.filter fun g => !go g } }

/-! ### Signals (R287 to R290) -/

/-- The pair admits value nv on the tally (R290). -/
def State.pairOk (s : State) (r : TallyRec) (nv : Nat) : Bool :=
  let o := s.tally r.partner.toNat
  if r.role = 1 then decide (nv ≤ o.value.toNat + r.bound.toNat)
  else if r.role = 2 then decide (nv ≤ o.value.toNat) else true

/-- A signal applied at the tally's home: the fault code it is refused with, or 0 (R289). -/
def State.signal (s : State) (part n : Nat) (max : Bool) (x : Dword) : State × Nat :=
  let r := s.tally n
  if !s.ownsTally part n then (s, 0x7001)
  else if r.spent || r.orphan then (s, 0x7003)
  else if !max && decide (x.toNat > 2 ^ 64 - 1 - r.value.toNat) then
    (((s.putTally n { r with value := BitVec.allOnes 64, spent := true }).releaseWaits n (fun _ => true) 0x7004 0).irqVis .tal part 3
    , 0x7002)
  else if max && decide (x.toNat < r.value.toNat) then
    ({ s.putTally n { r with stale := satInc r.stale } with
      tal := { (s.putTally n { r with stale := satInc r.stale }).tal with stale := s.tal.stale.modD part 0 satInc } }, 0)
  else
    let nv := if max then x else r.value + x
    if s.pairOk r nv.toNat then
      ((s.putTally n { r with value := nv }).releaseWaits n (fun g => decide (g.th.toNat ≤ nv.toNat)) 0 nv, 0)
    else (s.irqVis .tal part 2, if r.role = 1 then 0x7005 else 0x7006)

/-- A signal of the block's own, as a closing face target's (R263, R291): a refusal is reported to the partition. -/
def State.signalLocal (s : State) (part n : Nat) : State :=
  let (t, code) := s.signal part n false 1
  if code = 0 then t else if code = 0x7002 then t.logged code part (.unit .tally n 0) else t.toPart code part (.unit .tally n 0)

/-- The record's uncorrectable word: rewritten as a spent tally, the pair dissolved, the waiters released with 0x7004 (R152, R288). -/
def State.tallyLost (s : State) (n : Nat) : State :=
  let p := s.tallyOwner n
  let clear (x : Nat × TallyRec) : Nat × TallyRec :=
    if x.2.role ≠ 0 ∧ x.2.partner.toNat = n then (x.1, { x.2 with role := 0, partner := 0, bound := 0 }) else x
  let t := { s with tal := { s.tal with recs := s.tal.recs.map clear } }
  let t := (t.putTally n { value := BitVec.allOnes 64, spent := true }).releaseWaits n (fun _ => true) 0x7004 0
  (t.irqVis .tal p 3).toPart 0x2206 p (.unit .tally n 0)

/-- The word of the tally store that holds a record. -/
def State.tallyWord (s : State) (n : Nat) : Nat :=
  let p := s.tallyOwner n
  match (List.range 12).find? fun k => s.stackOwner k == p && (s.area k 1).2 != 0 with
  | some k => (s.areaStart k 1 + (n - (s.shapeOf p).talBase) * 16) / 8
  | none => 0

/-- The record is read: a corrected word is counted, an uncorrectable one is acted on (R147, R152). -/
def State.readTally (s : State) (q n : Nat) (ecc : Ecc) : State :=
  if s.tallyOwner n = 0 then s
  else
    let (t, bad) := s.insWords q (wordsFrom (s.tallyWord n) 2) 1 ecc
    if bad then t.tallyLost n else t

/-! ### Tally packets at the home (R294 to R296) -/

/-- The first waiting arrival of a request, and the others. -/
def State.takeArrival (s : State) (q src part tag : Nat) (p : Op → Bool) : Option (Op × State) :=
  (s.home.arr.find? fun a => a.q == q && a.src == src && a.op.part == part && a.tag == tag && p a.op).map fun a =>
    (a.op, { s with home := { s.home with arr := s.home.arr.erase a } })

/-- An answer of this node's home to a request. -/
def State.answerOp (s : State) (src tag : Nat) (o : Op) (kind opcode len : Nat) (poison : Bool) (payload : List Byte) (k : Nat := 0) :
    State :=
  s.answerTo { tag, src := s.lse.node, part := o.part, addr := o.addr, kind, opcode, len, poison, cartw := o.cartw, payload, at_ := k
               early := kind == 1 && (opcode == 1 || opcode == 3) && (match o.ctx with
                 | some c => s.ctxOk o.part c
                 | none => true) }
    src o.fmt o.ctx

/-- An ERROR answer (Table 9.3), for line k of the operation. -/
def State.answerErr (s : State) (src tag : Nat) (o : Op) (code : Nat) (k : Nat := 0) : State :=
  s.answerOp src tag o 1 5 1 false (leBytes 8 code) k

/-- A NACK answer, counted in YF_NACK_q (Table 9.7). -/
def State.answerNack (s : State) (q src tag : Nat) (o : Op) (reason ticket ahead : Nat) : State :=
  let v := (ticket % 65536) * 2 ^ 48 + (min ahead 2047) * 2 ^ 36 + reason * 2 ^ 32
  ({ s with home := { s.home with nacks := s.home.nacks.modD q 0 satInc } }.bump 0x19 q 1).answerOp src tag o 1 4 1 false (leBytes 8 v)

/-- TALLY_SIGNAL: a signal reaches its home and is applied, or refused with ERROR (R289, R295). -/
def tallySignal (q src part tag : Nat) (ecc : Ecc) (s : State) : State :=
  match s.takeArrival q src part tag (fun o => o.kind == 3 && (o.opcode == 1 || o.opcode == 2)) with
  | none => s
  | some (o, t) =>
    let n := o.addr % 65536
    let t := t.readTally q n ecc
    let (t, code) := t.signal part n (o.opcode == 2) (BitVec.ofNat 64 (ofLe o.payload))
    if code = 0 then t.answerOp src tag o 3 0x81 0 false [] else t.answerErr src tag o code

/-- Registrations this home holds for a partition's remote waits, and its own node's. -/
def State.remoteRegs (s : State) (part : Nat) : Nat := (s.tal.regs.filter fun g => g.src != s.lse.node && g.part == part).length

/-- A wait registered behind those already there (R289). -/
def State.register (s : State) (g : Registration) : State := { s with tal := { s.tal with regs := s.tal.regs ++ [g] } }

/-- TALLY_WAIT: a wait reaches its home: complete when satisfied, registered otherwise, a repetition keeping its one registration
(R289, R292, R295, R296). -/
def tallyWait (q src part tag : Nat) (ecc : Ecc) (s : State) : State :=
  match s.takeArrival q src part tag (fun o => o.kind == 3 && o.opcode == 3) with
  | none => s
  | some (o, t) =>
    let n := o.addr % 65536
    let t := t.readTally q n ecc
    let r := t.tally n
    let th : Dword := BitVec.ofNat 64 (ofLe o.payload)
    let mine (g : Registration) : Bool := g.src == src && g.part == part && g.tag == tag
    if !t.ownsTally part n then t.answerErr src tag o 0x7001
    else if r.spent || r.orphan then t.answerErr src tag o 0x7003
    else if th.toNat ≤ r.value.toNat then
      { t with tal := { t.tal with regs := t.tal.regs.filter fun g => !mine g } }.answerOp src tag o 3 0x83 1 false
        (leBytes 8 r.value.toNat)
    else if t.tal.regs.any mine then t.answerOp src tag o 3 0x81 0 false []
    else
      let u := (t.register { tally := n, th, src, part, tag, ctx := o.ctx }).answerOp src tag o 3 0x81 0 false []
      if src = s.lse.node then
        let own := ((t.req.out.find? (·.tag == tag)).map fun r => ownWaitSlot r.eng).getD false
        if !own && decide (480 ≤ t.sharedWaits) then s else u
      else if t.tal.quota.getD (q * 8 + part) 0 ≤ t.remoteRegs part then t.answerNack q src tag o 2 0 0
      else u

/-! ### Tally operations at their requester (R291, R294, R296) -/

/-- Every operation that a request's context issued earlier through its engine has been answered or has failed (R234, R291). -/
def State.earlierDone (s : State) (r : Req) : Bool :=
  (s.req.out.all fun x => decide (r.ordNo ≤ x.ordNo) || x.eng != r.eng || x.op.part != r.op.part || x.op.ctx != r.op.ctx)
    && (match r.eng with
      | .site t => ((s.sIo t).ops.takeWhile fun o => o.tag != r.extTag).all fun o => o.answered || o.op.ctx != r.op.ctx
      | .task t => s.face.gathers.all (·.task != t) && (s.task t).moveSeqs.isEmpty
      | _ => true)

/-- SIGNAL_RELEASE: a held signal is released and sent; a task's SIGNAL step completes with it, and a descriptor's MSI-X message follows it
(R291, R332, Table 11.4). -/
def signalRelease (tag : Nat) (s : State) : State :=
  match s.reqOf tag with
  | none => s
  | some r =>
    if r.held ∧ s.earlierDone r then
      let t := s.modReq tag fun r => { r with held := false }
      let t := (t.sendReq r (t.opQuad r.op)).getD (t.finishReq r 0x300B false [])
      let t := match r.irq with
        | some fn => t.hold r.op.part .host r.op.ctx (.msix fn)
        | none => t
      match r.eng with
      | .task k => if (s.task k).state = .blocked ∧ (s.task k).block = 6 then t.stepDone k (s.task k).nextPtr else t
      | _ => t
    else s

/-- WAIT_DONE_RECEIVE: a wait completes with the tally's value (R296). -/
def waitDoneReceive (tag : Nat) (s : State) : State :=
  match s.takeAnswer tag (fun a => a.kind == 3 && a.opcode == 0x83) with
  | none => s
  | some (a, t) =>
    match t.reqOf tag with
    | none => t.strayAnswer a
    | some r => if a.matches_ r && r.op.kind == 3 && r.op.opcode == 3 then (t.flowAnswered r).finishReq r 0 false a.payload
      else t.strayAnswer a

/-- TALLY_ACK_RECEIVE: a signal completes; a WAIT_GE's timer stops while it keeps its TAG (R295, R296). -/
def tallyAckReceive (tag : Nat) (s : State) : State :=
  match s.takeAnswer tag (fun a => a.kind == 3 && a.opcode == 0x81) with
  | none => s
  | some (a, t) =>
    match t.reqOf tag with
    | none => t.strayAnswer a
    | some r =>
      if !(a.matches_ r && r.op.kind == 3) then t.strayAnswer a
      else if r.op.opcode = 3 then (t.flowAnswered r).modReq tag fun r => { r with acked := true, sent := false }
      else (t.flowAnswered r).finishReq r 0 false []

/-- WAIT_REPEAT: a registered wait on another node is sent again with the same TAG, its timer running anew (R296). -/
def waitRepeat (tag : Nat) (s : State) : State :=
  match s.reqOf tag with
  | none => s
  | some r =>
    if r.acked ∧ r.node ≠ s.lse.node then
      let t := s.modReq tag fun r => { r with acked := false }
      (t.sendReq r (t.opQuad r.op)).getD (t.finishReq r 0x300B false [])
    else s

/-! ### References (R337, Table 12.6) and orphans (R301) -/

/-- References held on an object. -/
def State.refsOn (s : State) (o : RefObj) : Nat := (s.tal.refs.filter fun r => r.2 == o).length

/-- A reference taken: none when the count is full (R301, R337). -/
def State.addRef (s : State) (h : RefHolder) (o : RefObj) : Option State :=
  let full := match o with
    | .tally n => (s.tally n).refs.toNat
    | _ => s.refsOn o
  if 4095 ≤ full then none
  else
    let t := { s with tal := { s.tal with refs := (h, o) :: s.tal.refs } }
    some (match o with
      | .tally n => t.putTally n { t.tally n with refs := (t.tally n).refs + 1 }
      | _ => t)

/-- A tally's reference count lowered: when it thereby reaches 0 an orphan is cleared, and with `reset` any tally; a count at 0 stays
there, its record unchanged (R288, R301). -/
def State.unrefTally (s : State) (n : Nat) (reset : Bool) : State :=
  let r := s.tally n
  if r.refs = 0 then s
  else if r.refs = 1 ∧ (r.orphan ∨ reset) then s.putTally n {} else s.putTally n { r with refs := r.refs - 1 }

/-- One reference dropped, if it is held. -/
def State.dropRef (s : State) (h : RefHolder) (o : RefObj) (reset : Bool) : State :=
  if s.tal.refs.contains (h, o) then
    let t := { s with tal := { s.tal with refs := s.tal.refs.erase (h, o) } }
    match o with
    | .tally n => t.unrefTally n reset
    | _ => t
  else s

/-- Every reference of a holder dropped. -/
def State.dropRefs (s : State) (h : RefHolder) (reset : Bool) : State :=
  ((s.tal.refs.filter fun r => r.1 == h).map (·.2)).foldl (fun s o => s.dropRef h o reset) s

/-- DESTROY of a tally while other references remain: ORPHAN, and every waiter released with 0x7004 (R301, R339). -/
def State.orphanTally (s : State) (n : Nat) : State :=
  ((s.putTally n { s.tally n with orphan := true }).releaseWaits n (fun _ => true) 0x7004 0).irqVis .tal (s.tallyOwner n) 1

/-! ### TAL_CMD (R290, R298, R299, R311) -/

/-- TAL_CMD from an aperture: the operator may signal and query any tally; a partition its own; the Lamp all. -/
def State.tallyCmd (s : State) (ap : Aperture) (n : Nat) (operatorMay : Bool) (f : Nat → State → State) : State :=
  match ap with
  | .operator => s.command .tal 0 fun s =>
    if operatorMay ∧ s.tallyOwner n ≠ 0 then f 0 s else s.cmdEnd .tal 0 n 2
  | .part p => s.command .tal p fun s => if s.ownsTally p n then f p s else s.cmdEnd .tal p n 2
  | .lamp => s.command .tal 7 fun s => if s.tallyOwner n ≠ 0 then f 7 s else s.cmdEnd .tal 7 n 2
  | .debug => s.command .tal 8 fun s => s.cmdEnd .tal 8 n 2
  | _ => s

/-- The CODE a refused signal completes with (Table 11.11). -/
def talCode (code : Nat) : Nat :=
  match code with
  | 0 => 0
  | 0x7001 => 2
  | 0x7005 | 0x7006 => 4
  | _ => 3

/-- A hand-setting counted in the owner's audit counter (R299). -/
def State.handSet (s : State) (p : Nat) : State := { s with tal := { s.tal with audit := s.tal.audit.modD p 0 satInc } }

/-- TAL_CMD SIGNAL_ADD and SIGNAL_MAX of TAL_ARG1:TAL_ARG0. -/
def State.talSignal (s : State) (ap : Aperture) (n : Nat) (max : Bool) : State :=
  s.tallyCmd ap n true fun a s =>
    let v : Dword := s.arg .tal a 0x14 ++ s.arg .tal a 0x10
    let p := s.tallyOwner n
    let (t, code) := s.signal p n max v
    let t := if code = 0x7002 then t.logged code p (.unit .tally n 0) else t
    (if a = 0 ∧ (code = 0 ∨ code = 0x7002) then t.handSet p else t).cmdEnd .tal a n (talCode code)

/-- TAL_CMD SIGNAL_ADD. -/
def talSignalAdd (ap : Aperture) (n : Nat) (s : State) : State := s.talSignal ap n false

/-- TAL_CMD SIGNAL_MAX. -/
def talSignalMax (ap : Aperture) (n : Nat) (s : State) : State := s.talSignal ap n true

/-- TAL_CMD PAIR: TALLY the producer, TAL_ARG2 the consumer, TAL_ARG3 the bound (R290). -/
def talPair (ap : Aperture) (n : Nat) (s : State) : State :=
  s.tallyCmd ap n false fun a s =>
    let c := (s.arg .tal a 0x18).toNat % 65536
    let b := (s.arg .tal a 0x1C).toNat % 65536
    let p := s.tally n
    let x := s.tally c
    if c = n ∨ b = 0 ∨ s.tallyOwner c ≠ s.tallyOwner n ∨ p.role ≠ 0 ∨ x.role ≠ 0 ∨ p.value.toNat < x.value.toNat ∨
        x.value.toNat + b < p.value.toNat then s.cmdEnd .tal a n 5
    else
      ((s.putTally n { p with role := 1, partner := BitVec.ofNat 16 c, bound := BitVec.ofNat 16 b }).putTally c
        { x with role := 2, partner := BitVec.ofNat 16 n, bound := 0 }).cmdEnd .tal a n 0

/-- TAL_CMD UNPAIR, on either member (R290). -/
def talUnpair (ap : Aperture) (n : Nat) (s : State) : State :=
  s.tallyCmd ap n false fun a s =>
    let r := s.tally n
    if r.role = 0 then s.cmdEnd .tal a n 5
    else
      let o := r.partner.toNat
      ((s.putTally n { r with role := 0, partner := 0, bound := 0 }).putTally o
        { s.tally o with role := 0, partner := 0, bound := 0 }).cmdEnd .tal a n 0

/-- TAL_RESULT of a record (Table 11.12). -/
def TallyRec.result (r : TallyRec) : Word :=
  BitVec.ofBool r.spent ++ BitVec.ofBool r.orphan ++ r.role ++ r.refs ++ r.partner

/-- TAL_CMD QUERY into TAL_RESULT (R311). -/
def talQuery (ap : Aperture) (n : Nat) (s : State) : State :=
  s.tallyCmd ap n true fun a s =>
    (s.modInst .tal a fun i => { i with result := (s.tally n).result }).cmdEnd .tal a n 0

/-- A mailbox write of a tally's VALUE: none when refused with ERR_CODE 0x6 (R298). `hand` says that it is a hand-setting. -/
def tallyWrite (s : State) (n : Nat) (v : Dword) (hand : Bool) : Option State :=
  let r := s.tally n
  let p := s.tallyOwner n
  let ok (t : State) : State := if hand then t.handSet p else t
  if p = 0 ∨ r.orphan then none
  else if r.value.toNat ≤ v.toNat then
    if s.pairOk r v.toNat then
      some (ok ((s.putTally n { r with value := v, spent := false }).releaseWaits n (fun g => decide (g.th.toNat ≤ v.toNat)) 0 v))
    else none
  else if r.role = 0 ∧ !(s.tal.regs.any (·.tally == n)) then some (ok (s.putTally n { r with value := v, spent := false }))
  else none

end Sys2Proof.Machine
end

