-- ==== Sys2Proof/Machine/HomeCore.lean ====
section
/-!
DEFINITION. Machine/HomeCore.lean: a home's shared operations (09): the checks of Table 9.6 and Table 10.4, the passing of an
admitted operation to its shaft, slice or face, its lines as they come back, and its answer (R229, R232, R233, R236 to R238, R243).
-/

namespace Sys2Proof.Machine

/-! ### Seam access (Table 4.5) -/

/-- What the seam's state makes of an access. -/
inductive Verdict where
  | pass
  | errorValue
  | refuse (code : Nat)
  deriving DecidableEq, Repr

/-- Table 4.5. FROZEN is looked at first (DEDUCED, log 22); `kept` marks an access accepted before retiring began; a seam whose UNSEAL
runs its fill is empty for every access (R82). -/
def accessRule (e : Option Seam) (write kept : Bool) : Verdict :=
  match e with
  | none => .refuse 0x1103
  | some e =>
    if e.frozen then (if write then .refuse 0x1104 else .errorValue)
    else if e.job = .refill then .refuse 0x1103
    else match e.state with
      | .empty => .refuse 0x1103
      | .loading | .active => .pass
      | .sealed => if write then .refuse 0x1101 else .pass
      | .drifting => if write && e.kind == .sealed then .refuse 0x1101 else .pass
      | .retiring => if kept then .pass else .refuse 0x1102
      | .dead => .refuse 0x1102

/-- A seam's key slots take new operations: no key of it has been retired or zeroised in the vault (R378, R379). -/
def State.seamKeyed (s : State) (e : Seam) : Bool :=
  e.kind == .plain || e.state == .retiring || ((s.slot e.pad).state == .active && (s.slot e.hash).state == .active)

/-- The rule applied to the line; under a key slot that is no longer what the seam needs, the operation is refused with 0x800C (R378). -/
def State.access (s : State) (line : Nat) (write kept : Bool) : Verdict :=
  match s.seamAt line with
  | none => accessRule none write kept
  | some (_, e) => if accessRule (some e) write kept = .pass ∧ !s.seamKeyed e then .refuse 0x800C else accessRule (some e) write kept

/-! ### Shape of an operation (R228, R229, Tables 9.2, 9.5) -/

/-- The first line an operation touches, by local address bits [43:6]. -/
def Op.firstLine (o : Op) : Nat := o.addr % 2 ^ 44 / 64

/-- The lines an operation covers. -/
def Op.lineCount (o : Op) : Nat := max 1 ((o.size + 63) / 64)

/-- A vector operation. -/
def Op.isVector (o : Op) : Bool := decide (0x30 ≤ o.opcode) && decide (o.opcode ≤ 0x32)

/-- Check 1 of Table 9.6: length code, alignment and zero padding. -/
def Op.wellShaped (o : Op) : Bool :=
  match atomicBase o.opcode with
  | some b =>
    o.len == atomicLen b && o.addr % atomicSize b == 0 && o.payload.length == lenBytes o.len
      && (o.payload.drop (atomicUsed b)).all (· == 0)
  | none =>
    let sized := (o.len == 4 || o.len == 5 || o.len == 6) && o.addr % lenBytes o.len == 0
    if o.opcode = 1 then sized && o.payload.isEmpty
    else if o.opcode = 2 then sized && o.payload.length == lenBytes o.len
    else if o.opcode = 3 then o.len == 7 && o.addr % 64 == 0 && o.payload.length == 72
    else if o.isVector then
      sized && o.payload.length == lenBytes o.len && (chunks 64 4 o.payload).all fun u => u.isEmpty || paddingOk o.fmt u
    else false

/-- The partition whose memory holds n bytes from a local address: the stack's owner below its Inner-Store windows, the share's for an
inner page, 0 for none (R31, R143). -/
def State.memOwner (s : State) (l n : Nat) : Nat :=
  if l < 0xC000000000 then (if l % 2 ^ 36 < 0xC00000000 then s.stackOwner (l / 2 ^ 36) else 0) else s.innerOwner l n

/-- Check 2: the address lies in memory of the packet's partition, 0 when it does. -/
def State.placeCheck (s : State) (o : Op) : Nat :=
  let owner := s.memOwner (o.addr % 2 ^ 44) (max 1 o.size)
  if owner = o.part ∧ owner ≠ 0 then 0 else if owner = 0 then 0x3402 else 0x3401

/-- Table 10.4, 0 when the operation is one the target takes. -/
def Target.rule (t : Target) (o : Op) : Nat :=
  let a := o.addr % 2 ^ 44
  if a < t.win * 64 ∨ (t.win + t.units) * 64 < a + o.size then 0xB002
  else if t.op = 3 then (if o.opcode = 1 ∨ o.opcode = 2 then 0 else 0xB002)
  else if o.isVector then (if vectorOp o.opcode = t.op ∧ fmtMatch o.fmt t.fmt then 0 else 0xB001)
  else 0xB002

/-- Check 4: the seam rules over every line of the operation; inner pages have none. A frozen seam's read is served as an error
value. The fault code of the first line refused and its number, 0 when none is. -/
def State.seamFail (s : State) (o : Op) : Nat × Nat :=
  if 0xC000000000 ≤ o.addr % 2 ^ 44 then (0, 0)
  else
    ((List.range o.lineCount).filterMap fun k => match s.access (o.firstLine + k) o.writes false with
      | .refuse c => some (c, k)
      | _ => none).headD (0, 0)

/-- Check 4's fault code. -/
def State.seamCheck (s : State) (o : Op) : Nat := (s.seamFail o).1

/-- Checks 1 to 4 of Table 9.6 with Table 10.4 in place of check 4 on a window address, then R279's: the fault code, or 0. A cart
member is never taken by a target. -/
def State.homeCheck (s : State) (o : Op) : Nat :=
  let rmw := (atomicBase o.opcode).isSome || o.isVector
  if !o.wellShaped then 0x3403
  else if s.placeCheck o ≠ 0 then s.placeCheck o
  else if o.poison ∧ o.writes ∧ ¬ (o.isVector ∧ (s.targetAt o).isSome) then 0x3404
  else match s.targetAt o with
    | some (_, t) => if o.cart then 0xB002 else t.rule o
    | none =>
      if s.seamCheck o ≠ 0 then s.seamCheck o
      else if o.isVector ∧ elems o.fmt = 0 then 0xB001
      else if rmw ∧ (s.quadFace (quadOf o.addr) o.part).isNone then 0xB007
      else 0

/-! ### Line locks of carts (R243, R244) -/

/-- The lines of a staged member. -/
def Staged.holds (m : Staged) (o : Op) : Bool := m.locked && sameLines m.op o

/-- Some cart locks a line of the operation. -/
def State.locked (s : State) (o : Op) : Bool := s.cart.staged.any fun m => m.holds o

/-! ### Entries (R236, R237) -/

/-- An entry rewritten. -/
def State.modEntry (s : State) (id : Nat) (f : HomeEntry → HomeEntry) : State :=
  { s with home := { s.home with entries := s.home.entries.map fun e => if e.id = id then f e else e } }

/-- An entry. -/
def State.entry (s : State) (id : Nat) : Option HomeEntry := s.home.entries.find? (·.id == id)

/-- The k-th 64-byte part of an operation's data. -/
def Op.part64 (o : Op) (k : Nat) : List Byte := (o.payload.drop (64 * k)).take 64

/-- The read-modify-write a line of an operation asks for (R231, R279). -/
def Op.rmwOf (o : Op) (k : Nat) : Option Rmw :=
  match atomicBase o.opcode with
  | some b => some (.atomic b (o.addr % 64) o.payload)
  | none => if o.isVector then some (.vector o.opcode o.fmt (o.part64 k)) else none

/-- The access a line of an operation makes at its shaft. -/
def Op.acc (o : Op) (src : Src) (site : Option Nat) (k : Nat) : Acc :=
  let base : Acc := { line := o.firstLine + k, part := o.part, ctx := o.ctx, src, site, write := o.writes, rmw := o.rmwOf k }
  if o.opcode = 3 then
    { base with data := bytesLine (o.payload.drop 8), mask := BitVec.ofNat 64 (ofLe (o.payload.take 8)) }
  else { base with data := bytesLine (o.part64 k), mask := BitVec.allOnes 64 }

/-- The bytes a write puts into an inner page, `none` where it leaves one. -/
def Op.innerBytes (o : Op) (k : Nat) : List (Option Byte) :=
  if o.opcode = 3 then
    ((o.payload.drop 8).zip (List.range 64)).map fun (b, j) =>
      if (BitVec.ofNat 64 (ofLe (o.payload.take 8))).getLsbD j then some b else none
  else (o.part64 k).map some

/-- The request a line of an operation makes at an inner page. -/
def Op.pageReq (o : Op) (key : Nat) (src : Src) (k : Nat) : PageReq :=
  let size := if (atomicBase o.opcode).isSome then o.size else 64
  { key, addr := o.addr % 2 ^ 44 + 64 * k, part := o.part, ctx := o.ctx, src, write := o.writes, len := size
    bytes := if o.writes && (o.rmwOf k).isNone then o.innerBytes k else []
    rmw := match o.rmwOf k with
      | some (.atomic b _ x) => some (.atomic b 0 x)
      | r => r }

/-- An access queued at its shaft, or a request at its slice. -/
def State.pushLine (s : State) (o : Op) (src : Src) (site : Option Nat) (k : Nat) : State :=
  let a := o.acc src site k
  if o.addr % 2 ^ 44 < 0xC000000000 then s.modShaft (a.line / 2 ^ 30) fun sh => sh.push a
  else
    { s with ins := { s.ins with
      reqs := s.ins.reqs ++ [o.pageReq s.ins.nextKey src k], nextKey := s.ins.nextKey + 1 } }

/-- An entry's operation is passed on (R237): to its face target, or line by line to its shaft or slice. -/
def State.startEntry (s : State) (e : HomeEntry) : State :=
  let t := s.modEntry e.id fun e => { e with started := true, since := s.clk.cyc }
  match e.target with
  | some n => t.modTarget n fun g => { g with wait := g.wait ++ [e.id] }
  | none => (List.range e.op.lineCount).foldl (fun s k => s.pushLine e.op (.home e.id k) e.site k) t

/-- An entry may start: it is not behind a lock (R243), not behind an ordered operation of its source that has not been applied
(R233 item 2), and not behind an earlier operation on its line that has not started, save a read behind one that waits for a
lock (R233 item 1, R244). -/
def State.mayStart (s : State) (e : HomeEntry) : Bool :=
  let before := s.home.entries.filter fun x => decide (x.id < e.id) && !x.answered && x.q == e.q
  e.op.kind == 0 && !(e.op.writes && s.locked e.op)
    && (!e.op.ordered || before.all fun x => !(x.op.ordered && x.src == e.src && x.part == e.part))
    && before.all fun x => x.started || x.op.kind != 0 || !sameLines x.op e.op || (!e.op.writes && s.locked x.op)

/-- Every entry of a home that may start is started, in the order of admission. -/
def State.pump (s : State) : State :=
  (s.home.entries.filter fun e => !e.started).foldl (fun s e => if s.mayStart e then s.startEntry e else s) s

/-- A line that the operation touches, by its number. -/
def Op.covers (o : Op) (line : Nat) : Bool :=
  decide (o.firstLine ≤ line) && decide (line ≤ (o.addr % 2 ^ 44 + max 1 o.size - 1) / 64)

/-- An operation on the line is admitted and not answered (R237). -/
def State.wanted (s : State) (line : Nat) : Bool :=
  s.home.entries.any fun e => !e.answered && e.op.kind == 0 && e.target.isNone && e.op.covers line

/-- An access of an admitted operation. -/
def Src.isHome : Src → Bool
  | .home _ _ => true
  | _ => false

/-- The value that the tracker keeps of an access's line (R237). -/
def State.heldVal (s : State) (a : Acc) : Option Line := if a.src.isHome then s.home.vals.find a.line else none

/-- The current value of a line kept in the tracker while an operation on it is queued (R237). -/
def State.keepVal (s : State) (src : Src) (line : Nat) (v : Line) : State :=
  if src.isHome ∧ s.wanted line ∨ (s.home.vals.find line).isSome then { s with home := { s.home with vals := s.home.vals.put line v } } else s

/-- What the tracker keeps of lines that no queued operation touches goes (R237). -/
def State.forget (s : State) : State :=
  { s with home := { s.home with vals := s.home.vals.filter fun (l, _) => s.wanted l, words := s.home.words.filter fun w => s.wanted (w / 8) } }

/-- The answer of an entry whose lines have all come back (R232): ERROR with a fault, else RDATA, ADATA or ACK. -/
def State.answerEntry (s : State) (e : HomeEntry) : State :=
  let data := ((List.range e.op.lineCount).map fun k => ((e.got.find? (·.1 == k)).map (·.2)).getD []).flatten
  let t := s.modEntry e.id fun e => { e with answered := true, started := true }
  let t :=
    if e.err ≠ 0 then t.answerErr e.src e.tag e.op e.err e.errAt
    else if e.op.opcode = 1 then t.answerOp e.src e.tag e.op 1 1 e.op.len e.poison data
    else if e.op.returns then
      let n := e.op.answerBytes
      t.answerOp e.src e.tag e.op 1 3 (if n = 16 then 2 else 1) e.poison ((data ++ List.replicate 16 0).take n)
    else t.answerOp e.src e.tag e.op 1 2 0 false []
  t.forget.pump

/-- A line of an entry's operation is done: its data or old value, poison, and the fault that refused it. The last one is answered. -/
def State.gotLine (s : State) (id k : Nat) (bytes : List Byte) (poison : Bool) (err : Nat) : State :=
  match s.entry id with
  | none => s
  | some e =>
    if e.answered then s
    else
      let e := { e with got := e.got ++ [(k, bytes)], poison := e.poison || poison, err := if e.err = 0 then err else e.err
                        errAt := if e.err = 0 then k else e.errAt }
      let t := s.modEntry id fun _ => e
      if e.op.lineCount ≤ e.got.length then t.answerEntry e else t

/-- The fault of an entry given at once, all its lines apart. -/
def State.failEntry (s : State) (id code : Nat) : State :=
  match s.entry id with
  | none => s
  | some e => if e.answered then s else s.answerEntry { e with err := code }

/-- The site that an operation of this node's own came from (R170). -/
def State.siteOf (s : State) (src tag : Nat) : Option Nat :=
  if src = s.lse.node then
    (s.reqOf tag).bind fun r => match r.eng with
      | .site t => some t
      | _ => none
  else none

/-- A memory verdict has lost a context whose operation came from a site of this node: the shim is told (R170). -/
def State.tellSite (s : State) (site : Option Nat) (ctx : Option (BitVec 16)) (code : Nat) : State :=
  match site, ctx with
  | some t, some c =>
    if (s.site t).state = .run ∨ (s.site t).state = .resync then s.ctrl t 0x17 (leBytes 2 c.toNat ++ leBytes 2 code) else s
  | _, _ => s

end Sys2Proof.Machine
end

