-- ==== Sys2Proof/Machine/Egress.lean ====
section
/-!
DEFINITION. Machine/Egress.lean: the verify horizon (05, R119 to R125): deliveries, verdicts, the dropping of egress behind a failed
one, and the release of held egress in request order.
-/

namespace Sys2Proof.Machine

/-- horizon_delivery (R121): a member stamped and open. -/
def State.deliverStamp (s : State) (p : Nat) : State × Nat :=
  let st := (s.horizon p).next
  (s.modHz p fun h => { h with next := h.next + 1, opn := insNat st h.opn }, st)

/-- A channel halts with a fault (R334). -/
def State.haltChan (s : State) (c code : Nat) : State :=
  ({ s with mov := { s.mov with chans := s.mov.chans.mod c fun k => { k with state := .halted, fault := code } } }).irqVis
    .mov (s.mov.chans.getD c {}).part 1

/-- The ring index of a completion record (Table 12.4). -/
def recIdx (bytes : List Byte) : Nat := ofLe ((bytes.drop 12).take 2)

/-- A record has left its hold or was dropped: an ABORT that waited for it completes with a CODE (R335). -/
def State.recordGone (s : State) (c : Nat) (bytes : List Byte) (code : Nat) : State :=
  let k := s.mov.chans.getD c {}
  if k.awaitRec = some (recIdx bytes) then
    let t := match k.cmdAp with
      | some a => s.cmdEnd .mov a c code
      | none => s
    let clear (k : Chan) : Chan := { k with awaitRec := none, cmdAp := none }
    { t with mov := { t.mov with chans := t.mov.chans.mod c clear } }
  else s

/-- The context of a dropped egress lost with 0x1204; one that names no context is logged to the partition (R123). -/
def State.lose1204 (s : State) (p : Nat) (ctx : Option (BitVec 16)) (o : Obj) : State :=
  match ctx with
  | some c => s.loseCtx p c 0x1204 o
  | none => s.logged 0x1204 p o

/-- One egress dropped behind a failed verdict (R123): its context is lost with 0x1204. A Yebin request ends at its requester; a host
write is lost as an undeliverable record is; a host completion becomes one with Completer Abort; a SEAL completes with 0xB. The record
names the failing member (R135). -/
def State.dropBad (s : State) (p : Nat) (o : Obj) (e : Egress) : State :=
  let u := s.modHz p fun h => { h with dropped := satInc h.dropped }
  let t := u.lose1204 p e.ctx o
  match e.cargo with
  | .packet k =>
    match (if k.asks then u.reqOf k.tag else none) with
    | some r => if r.sent then t else ((u.dropReq r).lose1204 p e.ctx o).endReq r 0x1204 false []
    | none => t
  | .hostWrite _ _ _ chan => match chan with
    | some c => (t.haltChan c 0x1204).irq .mov 0 3
    | none => t
  | .record c _ bytes => ((t.recordGone c bytes 0).haltChan c 0x1204).irq .mov 0 3
  | .unit c _ _ => t.haltChan c 0x1204
  | .completion fn tag _ _ _ => t.cpl fn tag 1 [] e.ctx
  | .msix _ => t.irq .mov 0 3
  | .seal n => t.sealDropped n

/-- horizon_verdict (R121, R123); `o` is what a fault record names of the member. -/
def State.verdict (s : State) (p st : Nat) (ok : Bool) (o : Obj) : State :=
  let t := s.modHz p fun h => { h with opn := h.opn.filter (· != st) }
  if ok then t
  else
    let bad (e : Egress) : Bool := decide (st < e.stamp)
    ((t.horizon p).held.filter bad).foldl (fun s e => s.dropBad p o e)
      (t.modHz p fun h => { h with held := h.held.filter fun e => !bad e })

/-! ### Release (R121, R122, R191, R199, R205) -/

/-- ORDERED packets to this destination already sent by another port and not yet answered (R205). -/
def State.orderedElsewhere (s : State) (p : Packet) (port : Nat) : Bool :=
  p.ordered && s.req.out.any fun r => r.op.ordered && r.sent && r.node == p.dst && r.op.part == p.part && r.port != some port

/-- A packet may be presented to its port: the port is up, credits for its units are held, or it waits for a slot, and its flow has fewer
than 1,024 unanswered packets (R191, R199, R205). -/
def State.mayTransmit (s : State) (port : Nat) (p : Packet) : Bool :=
  let q := s.port port
  q.state == .up && (q.slotted || q.maySend p.vl ((24 + p.bytes.length + 8 + 15) / 16))
    && !(p.asks && decide (1024 ≤ (s.flowTx p.part p.dst).unanswered)) && !s.orderedElsewhere p port

/-- The port still leads to the packet's destination: it is up, carries the partition, and is not marked failed for it (R204, R207). -/
def State.leadsTo (s : State) (port : Nat) (p : Packet) : Bool := s.portOk port p.part && !(s.route p.dst).failed.contains port

/-- A held packet whose port no longer leads to its destination takes its first hop anew; without a usable port it fails at its engine
with 0x300B (R205). -/
def State.routeAgain (s : State) (e : Egress) (k : Packet) : State :=
  match s.firstHop k.dst k.part k.ordered with
  | some port =>
    let t := s.modHz k.part fun h => { h with held := h.held.map fun x => if x = e then { e with point := .port port } else x }
    if k.asks then t.modReq k.tag fun r => { r with port := some port } else t
  | none =>
    let t := s.modHz k.part fun h => { h with held := h.held.erase e }
    match (if k.asks then t.reqOf k.tag else none) with
    | some r => t.finishReq r 0x300B false []
    | none => t.logged 0x300B k.part (.unit .node k.dst 0)

/-- What a released egress becomes. A posted operation of a site completes towards its context at its first release (R230, R241). -/
def State.releaseCargo (s : State) (e : Egress) : State :=
  match e.point, e.cargo with
  | .port port, .packet p =>
    if !p.asks then s.present port (.own p)
    else match s.reqOf p.tag with
      | none => s.present port (.own p)
      | some r =>
        if 2 ^ 62 - 1 ≤ (s.flowTx p.part p.dst).seq.toNat then s.finishReq r 0x300A false []
        else
          let t := (s.present port (.own p)).modReq p.tag fun r => { r with sent := true, posted := true }
          match r.eng with
          | .site k => if r.op.posted ∧ !r.posted then t.cmpl k r.extTag (t.opStatus r.op.part r.op.ctx true 0 false) else t
          | _ => t
  | _, .hostWrite fn addr bytes _ => s.toHost (fn / 32) 0 e.ctx bytes fun k b => .hostWrite fn k addr b
  | _, .record c addr bytes =>
    let k := s.mov.chans.getD c {}
    let t := (s.toHost k.part 0 e.ctx bytes fun x b => .hostWrite (k.part * 32 + k.fn) x addr b).recordGone c bytes 5
    let last (k : Chan) : Chan := { k with lastCtx := e.ctx.getD k.lastCtx }
    { t with mov := { t.mov with chans := t.mov.chans.mod c last } }
  | _, .unit c seq bytes => { s with mov := { s.mov with units := s.mov.units ++ [(c, seq, bytes)] } }
  | _, .msix fn => s.toHost (fn / 32) 0 e.ctx [] fun k _ => .msix fn k
  | _, .completion fn tag status bytes _ => s.cpl fn tag status bytes e.ctx
  | _, _ => s

/-- The first held egress of a point: held egress of one partition leaves in request order at each point (R121). -/
def Horizon.first (h : Horizon) (pt : EgressPoint) : Option Egress := h.held.find? (·.point == pt)

/-- EGRESS_RELEASE: the horizon has cleared below the first egress held at the point, and it leaves (R121, R122). A SEAL leaves at
its seal point, and host-bound TLPs wait while the partition's function is in D3 or no stream of it is Secure (R346, R359). A packet
whose port has stopped leading to its destination is routed anew instead (R205). -/
def egressRelease (p : Nat) (pt : EgressPoint) (s : State) : State :=
  let h := s.horizon p
  match h.first pt with
  | none => s
  | some e =>
    let stray : Option Packet := match e.point, e.cargo with
      | .port port, .packet k => if s.leadsTo port k then none else some k
      | _, _ => none
    match stray with
    | some k => s.routeAgain e k
    | none =>
    let may : Bool := match e.point, e.cargo with
      | .port port, .packet k => s.mayTransmit port k
      | _, .seal _ => false
      | .host, .unit c _ _ => (match (s.mov.chans.getD c {}).act with
        | some a => !(a.d.words.getD 0 0).getLsbD 51 || s.hostOpen p
        | none => true)
      | .host, .msix fn => s.hostOpen p && s.hst.power.getD fn 0 == 0
      | .host, .completion _ _ _ _ false => s.hostWay p
      | .host, _ => s.hostOpen p
      | _, _ => true
    if h.mayLeave e && may then
      let lag := s.clk.cyc - e.at_
      (s.modHz p fun h => { h with held := h.held.erase e, maxLag := max h.maxLag lag }).releaseCargo e
    else s

end Sys2Proof.Machine
end

