-- ==== Sys2Proof/Machine/Carts.lean ====
section
/-!
DEFINITION. Machine/Carts.lean: carts (09, R244 to R250): the issuing site, the member homes and the lead home.
-/

namespace Sys2Proof.Machine

/-! ### The cart word (Table 9.9) -/

/-- CART_ID. -/
def cwId (w : Block) : Nat := (w.extractLsb' 112 16).toNat
/-- ISSUER. -/
def cwIssuer (w : Block) : Nat := (w.extractLsb' 104 8).toNat
/-- LEAD. -/
def cwLead (w : Block) : Nat := (w.extractLsb' 96 8).toNat
/-- LEAD_Q. -/
def cwLeadQ (w : Block) : Nat := (w.extractLsb' 94 2).toNat
/-- INDEX. -/
def cwIndex (w : Block) : Nat := (w.extractLsb' 88 4).toNat
/-- AT_HOME, minus one as the word holds it. -/
def cwAtHome (w : Block) : Nat := (w.extractLsb' 84 4).toNat
/-- CODE. -/
def cwCode (w : Block) : Nat := (w.extractLsb' 80 4).toNat
/-- CONTEXT. -/
def cwCtx (w : Block) : BitVec 16 := w.extractLsb' 48 16
/-- FAULT. -/
def cwFault (w : Block) : Nat := (w.extractLsb' 32 16).toNat

/-- The word with CODE and FAULT replaced, its reserved bits zero (R4). -/
def cwSet (w : Block) (code fault : Nat) : Block :=
  w.extractLsb' 84 44 ++ BitVec.ofNat 4 code ++ w.extractLsb' 48 32 ++ BitVec.ofNat 16 fault ++ (0 : BitVec 32)

/-- The word with AT_HOME for a home of n members. -/
def cwAt (w : Block) (n : Nat) : Block := w.extractLsb' 88 40 ++ BitVec.ofNat 4 (n - 1) ++ w.extractLsb' 0 84

/-- A cart word. -/
def cartWord (id issuer lead leadQ homes index atHome code mop mlen : Nat) (ctx : BitVec 16) : Block :=
  BitVec.ofNat 16 id ++ BitVec.ofNat 8 issuer ++ BitVec.ofNat 8 lead ++ BitVec.ofNat 2 leadQ ++ BitVec.ofNat 2 (homes - 1)
    ++ BitVec.ofNat 4 index ++ BitVec.ofNat 4 (atHome - 1) ++ BitVec.ofNat 4 code ++ BitVec.ofNat 8 mop ++ BitVec.ofNat 8 mlen
    ++ ctx ++ (0 : BitVec 16) ++ (0 : BitVec 32)

/-- The homes of a cart in order of first member; the first is the lead (R246). -/
def Cart.homes (c : Cart) : List (Nat × Nat) := (c.members.map fun m => (m.node, m.q)).eraseDups

/-- The home of a cart packet that names no member: the base of its quadrant's first stack window (DESIGN CHOICE, log 25). -/
def quadAddr (node q : Nat) : Nat := node * 2 ^ 44 + q * 3 * 2 ^ 36

/-- A cart rewritten. -/
def State.modCart (s : State) (id : Nat) (f : Cart → Cart) : State :=
  { s with cart := { s.cart with carts := s.cart.carts.map fun c => if c.id = id then f c else c } }

/-! ### The end of a cart at its issuer (R250) -/

/-- A member, or CART_END, completes with a STATUS; members that return data answer in RSP frames. -/
def State.endMember (s : State) (site tag status : Nat) (data : List Byte) (poison : Bool) : State :=
  match (s.sIo site).ops.find? (·.tag == tag) with
  | none => s
  | some o =>
    if o.op.returns then
      s.rsp site o status (poison || status != 0) (if status = 0 then data else errorValue (max 64 o.op.answerBytes))
    else s.cmpl site tag status

/-- Every member of a cart and its CART_END complete, and the cart is closed. Members that failed are remembered for the next FENCE (R234).
Discarded results are not shown (R357). -/
def State.closeCart (s : State) (c : Cart) (st : Nat) : State :=
  let t := { s with cart := { s.cart with carts := s.cart.carts.filter (·.id != c.id) } }
  let t := if st = 0 then t else t.markFailed (.site c.site) c.part (some c.ctx)
  let t := c.members.foldl (fun s m => s.endMember c.site m.tag st m.data (m.poison && st == 0)) t
  match c.endTag with
  | some g => t.endMember c.site g st [] false
  | none => t

/-- The cart's fault on abort: of the first member that voted conflict, full or refused, else the timeout (R250, Table 9.11). -/
def abortFault (c : Cart) : Nat × Nat :=
  match c.members.find? fun m => m.vote == 2 || m.vote == 3 || m.vote == 4 with
  | some m => if m.vote = 2 then (0xB801, 0) else if m.vote = 3 then (0xB803, 0) else (0xB806, m.fault)
  | none => (0xB802, 0)

/-- A cart ends at its issuer: commit (5), abort (6) or indeterminate (7); its members of a context lost before complete with STATUS 2
(R246, R250). -/
def State.finishCart (s : State) (c : Cart) (code : Nat) : State :=
  let st (n : Nat) : Nat := if s.ctxOk c.part c.ctx then n else 2
  if code = 5 then
    { s with cart := { s.cart with commit := satInc s.cart.commit } }.closeCart c (st 0)
  else if code = 6 then
    let (f, own) := abortFault c
    let t := { s with cart := { s.cart with abort := satInc s.cart.abort } }
    let t := if c.quiet then t else t.keepCtx c.part c.ctx f .none
    let t := if own = 0 ∨ c.quiet then t else t.opFault c.part (some c.ctx) own .none
    t.closeCart c (st 1)
  else
    ({ s with cart := { s.cart with indet := satInc s.cart.indet } }.toPart 0xB804 c.part .none).closeCart c 2

/-- A cart that never sent a packet fails: malformed or disabled with 0xB805, late with 0xB802 (R244). It stays until its CART_END. -/
def State.failCart (s : State) (c : Cart) (code : Nat) : State :=
  let t := (s.opFault c.part (some c.ctx) code .none).markFailed (.site c.site) c.part (some c.ctx)
  let st := if t.ctxOk c.part c.ctx then 1 else 2
  let t := c.members.foldl (fun s m => s.endMember c.site m.tag st [] false) t
  let t := { t with cart := { t.cart with abort := satInc t.cart.abort } }
  match c.endTag with
  | some g => { t with cart := { t.cart with carts := t.cart.carts.filter (·.id != c.id) } }.endMember c.site g st [] false
  | none => t.modCart c.id fun c => { c with phase := .failed, members := [] }

/-! ### Sending (R246) -/

/-- A cart packet of this node's issued as a request. -/
def State.sendCart (s : State) (eng : Engine) (op : Op) (ext : Nat) : State := (s.issueReq eng op ext 0 false).getD s

/-- DECIDE's home list: node, quadrant, members minus one, VALID; entry 0 is the lead (R245). -/
def homeList (c : Cart) : List Byte :=
  let entry (h : Nat × Nat) : Nat :=
    h.1 * 2 ^ 24 + h.2 * 2 ^ 22 + ((c.members.filter fun m => (m.node, m.q) == h).length - 1) * 2 ^ 18 + 2 ^ 17
  (((c.homes.map fun h => leBytes 4 (entry h)).flatten) ++ List.replicate 16 0).take 16

/-- DECIDE sent to the lead (R246). -/
def State.sendDecide (s : State) (c : Cart) : State :=
  let (n, q) := c.homes.headD (0, 0)
  let w := cartWord c.id s.lse.node n q c.homes.length 0 (c.members.filter fun m => (m.node, m.q) == (n, q)).length c.decision 0 0 c.ctx
  (s.sendCart (.site c.site) { kind := 4, opcode := 3, len := 2, addr := quadAddr n q, part := c.part, ctx := some c.ctx,
                               cartw := w, payload := homeList c } (c.id * 16)).modCart c.id fun c => { c with tries := c.tries + 1 }

/-- A cart whose votes are all in: a single-home cart ends, another sends DECIDE with COMMIT or ABORT (R246, R248). -/
def State.cartAdvance (s : State) (c : Cart) : State :=
  if c.phase ≠ .voting ∨ c.members.any (·.vote == 0) then s
  else if c.homes.length = 1 then s.finishCart c (if c.members.all (·.vote == 5) then 5 else 6)
  else
    let d := if c.members.all (·.vote == 1) then 5 else 6
    (s.modCart c.id fun c => { c with phase := .deciding, decision := d }).sendDecide { c with phase := .deciding, decision := d }

/-- Every cart whose votes are in goes on. -/
def State.cartsAdvance (s : State) : State := s.cart.carts.foldl (fun s c => s.cartAdvance c) s

/-- The payload code of a member's data: WRITE 64 bytes, masked 72, an atomic its own, READ none (Table 9.4). -/
def memberDataCode (o : Op) : Nat := if o.opcode = 1 then 0 else o.len

/-- The cart of a context at a site that has sent nothing yet. -/
def State.cartOf (s : State) (t : Nat) (ctx : BitVec 16) : Option Cart :=
  s.cart.carts.find? fun c => c.site == t && c.ctx == ctx && (c.phase == .opened || c.phase == .closing || c.phase == .failed)

/-- CART_END: the site sends SOLO or PREPARE for every member (R246, R248). It waits while fewer TAGs are free than members. -/
def cartEnd (t : Nat) (ctx : BitVec 16) (s : State) : State :=
  match s.cartOf t ctx with
  | none => s
  | some c =>
    if c.phase ≠ .closing ∨ 16384 < s.req.out.length + c.members.length then s
    else
      let (n, q) := c.homes.headD (0, 0)
      let send (s : State) (x : CartMember × Nat) : State :=
        let m := x.1
        let at_ := (c.members.filter fun y => (y.node, y.q) == (m.node, m.q)).length
        let w := cartWord c.id s.lse.node n q c.homes.length x.2 at_ 0 m.op.opcode m.op.len c.ctx
        s.sendCart (.site t) { m.op with kind := 4, opcode := if c.homes.length = 1 then 2 else 1
                                         len := memberDataCode m.op, cartw := w } (c.id * 16 + x.2)
      ((c.members.zip (List.range 16)).foldl send (s.modCart c.id fun c => { c with phase := .voting })).cartsAdvance

/-- CART_END_TIMEOUT: no CART_END within 20 µs of the first member (R244). -/
def cartEndTimeout (t : Nat) (ctx : BitVec 16) (s : State) : State :=
  match s.cartOf t ctx with
  | none => s
  | some c => if c.phase = .opened then s.failCart c 0xB802 else s

/-- A vote taken up by its cart (R246). -/
def State.takeVote (s : State) (r : Req) (a : Answer) : State :=
  let t := { s with req := { s.req with out := s.req.out.filter (·.tag != r.tag) } }.flowAnswered r
  let set (m : CartMember) : CartMember :=
    { m with vote := cwCode a.cartw, fault := cwFault a.cartw, data := a.payload, poison := a.poison }
  (t.modCart (r.extTag / 16) fun c => { c with members := c.members.modify (r.extTag % 16) set }).cartsAdvance

/-- An answer of a cart packet matched to its request; a stray one is discarded (R226). -/
def State.cartReply (s : State) (tag opcode : Nat) (f : State → Req → Answer → State) : State :=
  match s.takeAnswer tag (fun a => a.kind == 4 && a.opcode == opcode) with
  | none => s
  | some (a, t) =>
    match t.reqOf tag with
    | none => t.strayAnswer a
    | some r => if r.op.kind = 4 ∧ a.matches_ r then f t r a else t.strayAnswer a

/-- CART_VOTE: a member's vote reaches the issuer (R246). -/
def cartVote (tag : Nat) (s : State) : State := s.cartReply tag 0x81 State.takeVote

/-- CART_SOLO_VOTE: a single-home cart's vote reaches the issuer (R248). -/
def cartSoloVote (tag : Nat) (s : State) : State := s.cartReply tag 0x82 State.takeVote

/-- CART_DECIDED: the lead's decision ends the cart (R250). -/
def cartDecided (tag : Nat) (s : State) : State :=
  s.cartReply tag 0x83 fun s r a =>
    let t := { s with req := { s.req with out := s.req.out.filter (·.tag != r.tag) } }.flowAnswered r
    match t.cart.carts.find? (·.id == r.extTag / 16) with
    | some c => if c.phase = .deciding then t.finishCart c (cwCode a.cartw) else t
    | none => t

/-- CART_DECIDED_WAIT_EXPIRE: DECIDE is sent again, three times in all; then, or when the lead is dead, the cart is indeterminate
(R246). -/
def cartDecidedWaitExpire (cart : Nat) (s : State) : State :=
  match s.cart.carts.find? (·.id == cart) with
  | none => s
  | some c =>
    if c.phase ≠ .deciding then s
    else if 3 ≤ c.tries ∨ (s.node (c.homes.headD (0, 0)).1).dead then s.finishCart c 7
    else s.sendDecide c

/-! ### Member homes (R244, R246, R248) -/

/-- The member operation that a PREPARE or SOLO carries. -/
def memberOp (o : Op) : Op :=
  { o with kind := 0, opcode := (o.cartw.extractLsb' 72 8).toNat, len := (o.cartw.extractLsb' 64 8).toNat, cart := true }

/-- A vote sent: VOTE or SOLO_VOTE with CODE and FAULT, and the member's result when it has one; its home entry is answered (R236). -/
def State.vote (s : State) (m : Staged) (code fault : Nat) : State :=
  let good := code == 1 || code == 5
  let (len, data) : Nat × List Byte :=
    if !good then (0, [])
    else if m.op.opcode = 1 then (4, m.old)
    else if m.op.returns then
      let n := m.op.answerBytes
      (if n = 16 then 2 else 1, (m.old ++ List.replicate 16 0).take n)
    else (0, [])
  let o := { m.op with cartw := cwSet m.op.cartw code fault }
  let done (e : HomeEntry) : HomeEntry :=
    if e.src = m.src ∧ e.tag = m.tag ∧ e.part = m.part ∧ e.op.kind = 4 then { e with answered := true } else e
  let t := { s with home := { s.home with entries := s.home.entries.map done } }
  t.answerOp m.src m.tag o 4 (if m.solo then 0x82 else 0x81) len (m.poison && good) data

/-- The staged members of one cart at one home. -/
def State.stagedOf (s : State) (q issuer cart : Nat) : List Staged :=
  s.cart.staged.filter fun m => m.q == q && m.issuer == issuer && m.cart == cart

/-- A staged member rewritten. -/
def State.modStaged (s : State) (key : Nat) (f : Staged → Staged) : State :=
  { s with cart := { s.cart with staged := s.cart.staged.map fun m => if m.key = key then f m else m } }

/-- A staged member gone, its lock released; the entry of a lead role becomes free (R236, R239). -/
def State.dropStaged (s : State) (key : Nat) : State :=
  let free := (s.cart.staged.filter fun m => m.key == key && m.lead).map fun m => (m.q, m.part)
  { s with cart := { s.cart with staged := s.cart.staged.filter (·.key != key) }
           home := { s.home with freed := s.home.freed ++ free } }

/-- The read that staging needs: the line of a READ, masked write or atomic; a full-line WRITE needs none. -/
def stageRead (o : Op) : Option Op :=
  if o.opcode = 2 then none
  else if 0xC000000000 ≤ o.addr % 2 ^ 44 ∧ (atomicBase o.opcode).isSome then
    some { o with opcode := 1, len := 0, payload := [] }
  else some { o with opcode := 1, len := 4, addr := o.addr / 64 * 64, payload := [] }

/-- The new line, or on an inner page the new bytes, of a member from what was read (R244). -/
def stageLine (o : Op) (old : List Byte) : List Byte :=
  match atomicBase o.opcode with
  | some b =>
    let off := if 64 ≤ old.length then o.addr % 64 else 0
    rmwApply (.atomic b off o.payload) 0 [] old
  | none =>
    if o.opcode = 3 then rmwApply .masked (BitVec.ofNat 64 (ofLe (o.payload.take 8))) (o.payload.drop 8) old
    else if o.opcode = 2 then o.payload else old

/-- The old value an atomic returns, or the line a READ returns. -/
def stageOld (o : Op) (old : List Byte) : List Byte :=
  match atomicBase o.opcode with
  | some b => ((old.drop (if 64 ≤ old.length then o.addr % 64 else 0)).take (atomicSize b))
  | none => old

/-- A member refused at commit: its own fault and 0xB807 to the issuing context, which the cart word names (R249, R251, DEDUCED, log 89). -/
def State.commitRefused (s : State) (part : Nat) (ctx : BitVec 16) (code line : Nat) : State :=
  (s.opFault part (some ctx) code (.line (line * 64) (((s.seamAt line).map (·.1)).getD 0xFF))).opFault part (some ctx) 0xB807 .none

/-- A staged write placed: an inner page at once, a stack line at its shaft as a full-line write. A seam that has become frozen,
retiring or dead refuses it (R249). -/
def State.commitMember (s : State) (m : Staged) : State :=
  if m.op.opcode = 1 ∨ m.phase ≠ .staged then s
  else if 0xC000000000 ≤ m.op.addr % 2 ^ 44 then
    s.writeInner m.part (if (atomicBase m.op.opcode).isSome then m.op.addr else m.op.addr / 64 * 64) (m.line.map some)
  else
    let a : Acc := { line := m.op.firstLine, part := m.part, ctx := m.op.ctx, write := true
                     src := .commit m.op.firstLine m.part (cwCtx m.op.cartw), data := bytesLine m.line, mask := BitVec.allOnes 64 }
    match s.access a.line true false with
    | .refuse c => s.commitRefused m.part (cwCtx m.op.cartw) c a.line
    | _ => s.modShaft (a.line / 2 ^ 30) fun sh => sh.push a

/-- A home's members of a cart end: applied on COMMIT, their locks released, and what waited behind them started (R246). -/
def State.outcome (s : State) (q issuer cart code : Nat) : State :=
  let l := s.stagedOf q issuer cart
  let t := if code = 5 then l.foldl State.commitMember s else s
  (l.foldl (fun s m => s.dropStaged m.key) t).pump

/-- A PREPAREd member staged: it votes; a failure drops its lock at once (R244, R246). -/
def State.stageDone (s : State) (m : Staged) (err : Nat) : State :=
  if err ≠ 0 then ((s.vote m 4 err).dropStaged m.key).pump
  else (s.modStaged m.key fun x => { m with at_ := x.at_ }).vote m 1 0

/-- Staging begins: a full-line write is staged as it is, any other member reads its line first. -/
def State.stageBegin (s : State) (m : Staged) : State × Bool :=
  match stageRead m.op with
  | none => (s.modStaged m.key fun x => { x with phase := .staged, locked := true, line := m.op.payload }, true)
  | some o => ((s.modStaged m.key fun x => { x with phase := .reading, locked := true }).pushLine o (.cart m.key) none 0, false)

/-- A single-home cart all of whose members are staged: applied, released and voted commit in one step (R248). -/
def State.soloFinish (s : State) (m : Staged) : State :=
  let l := s.stagedOf m.q m.issuer m.cart
  if l.all (·.phase == .staged) then l.foldl (fun s x => s.vote x 5 0) (s.outcome m.q m.issuer m.cart 5) else s

/-- A single-home cart refused: the first failing member votes its code, the others abort (R248). -/
def State.soloRefuse (s : State) (m : Staged) (code fault : Nat) : State :=
  let l := s.stagedOf m.q m.issuer m.cart
  (l.foldl (fun s x => if x.key = m.key then s.vote x code fault else s.vote x 6 0) s).outcome m.q m.issuer m.cart 6

/-- The line of a member has been read, its check passed or failed; poison refuses a masked write or atomic (R128, R244). -/
def State.memberRead (s : State) (key : Nat) (bytes : List Byte) (poison : Bool) (err : Nat) : State :=
  match s.cart.staged.find? (·.key == key) with
  | none => s
  | some m =>
    let err := if err = 0 ∧ poison ∧ m.op.opcode ≠ 1 then 0x2102 else err
    let m := { m with phase := .staged, poison, old := stageOld m.op bytes, line := stageLine m.op bytes }
    if m.solo then
      if err ≠ 0 then s.soloRefuse m 4 err else (s.modStaged key fun _ => m).soloFinish m
    else s.stageDone m err

/-- The index of quadrant q and partition p. -/
def qp (q p : Nat) : Nat := q * 8 + p

/-- Entry and ticket quotas in force: none while the partition is in its step (R433). -/
def State.homeQuota (s : State) (q p : Nat) : Nat × Nat :=
  if s.flt.parts.any (·.part == p) then (0, 0)
  else
    let x := s.home.quota.getD (qp q p) (0, 0, 0)
    (x.1, x.2.1)

/-- Entries of the quadrant held: those of requests and those of lead roles (R236). -/
def State.entriesHeld (s : State) (q : Nat) (p : Nat → Bool) : Nat :=
  (s.home.entries.filter fun e => e.q == q && p e.part).length + (s.cart.staged.filter fun m => m.lead && m.q == q && p m.part).length

/-- Entries of the quadrant in use: those held and those reserved by a ticket (R236, R239). -/
def State.inUse (s : State) (q : Nat) (p : Nat → Bool) : Nat :=
  s.entriesHeld q p + (s.home.tickets.filter fun t => t.q == q && p t.part && t.reserved).length

/-- Lead roles held at a quadrant (R236). -/
def State.leads (s : State) (q : Nat) : Nat := (s.cart.staged.filter fun m => m.lead && m.q == q).length

/-- Some other cart locks a line of the member. -/
def State.lockedByOther (s : State) (m : Staged) : Bool :=
  s.cart.staged.any fun x => (x.issuer != m.issuer || x.cart != m.cart) && x.holds m.op

/-- The largest number of entries in use at a quadrant (Table 9.13). -/
def State.noteUse (s : State) (q : Nat) : State :=
  { s with home := { s.home with high := s.home.high.modD q 0 fun h => max h (s.inUse q fun _ => true) } }

/-- The lead role of a cart may take its further entry: at most 256 at a quadrant, within the partition's quota (R236). -/
def State.leadRoom (s : State) (q part : Nat) : Bool :=
  decide (s.leads q < 256) && decide (s.inUse q (· == part) < (s.homeQuota q part).1)

/-- Members in the order of their INDEX. -/
def byIndex (l : List Staged) : List Staged := (List.range 16).flatMap fun i => l.filter fun m => cwIndex m.op.cartw == i

/-- CODE and FAULT of a member that a home refuses: its line is locked by another cart, or it fails a check; CODE 0 when neither holds. -/
def State.memberBad (s : State) (m : Staged) : Nat × Nat :=
  if s.lockedByOther m then (2, 0) else if s.homeCheck m.op ≠ 0 then (4, s.homeCheck m.op) else (0, 0)

/-- An admitted PREPARE or SOLO of home q (R246, R248). A single-home cart answers with the failure of the first member, by INDEX, that
fails (DEDUCED, log 89). -/
def State.memberArrives (s : State) (q src part tag : Nat) (o : Op) : State :=
  let w := o.cartw
  let op := memberOp o
  let mine := s.stagedOf q (cwIssuer w) (cwId w)
  let role := decide (cwLead w = s.lse.node) && cwLeadQ w == q && mine.all fun m => !m.lead
  let m : Staged := { key := s.cart.nextKey, issuer := cwIssuer w, cart := cwId w, q, part, src, tag, op, solo := o.opcode == 2
                      lead := role && o.opcode == 1, at_ := s.clk.cyc }
  let t := { s with cart := { s.cart with nextKey := s.cart.nextKey + 1 } }
  let put := { t with cart := { t.cart with staged := t.cart.staged ++ [m] } }
  if m.solo then
    let l := mine ++ [m]
    if l.length ≤ cwAtHome w then put
    else match (byIndex l).find? fun x => (put.memberBad x).1 != 0 with
      | some x => put.soloRefuse x (put.memberBad x).1 (put.memberBad x).2
      | none => ((l.foldl (fun (u : State) x => (u.stageBegin x).1) put)).soloFinish m
  else if (t.memberBad m).1 ≠ 0 then t.vote m (t.memberBad m).1 (t.memberBad m).2
  else if m.lead ∧ !t.leadRoom q part then t.vote m 3 0
  else
    let (u, ready) := (put.noteUse q).stageBegin m
    if ready then u.stageDone { m with phase := .staged, locked := true, line := op.payload } 0 else u

/-- SOLO_TIMEOUT: not every member has come within 20 µs (R248). -/
def soloTimeout (q issuer cart : Nat) (s : State) : State :=
  let l := (s.stagedOf q issuer cart).filter fun m => m.solo && m.phase == .arrived
  (l.foldl (fun s m => (s.vote m 6 0).dropStaged m.key) s).pump

/-- COMMIT and ABORT at a member home: applied or released, DONE; with no staged state DONE carries CODE 0x7 (R246, R247). -/
def State.cartOutcome (s : State) (q src part tag opcode code : Nat) : State :=
  match s.takeArrival q src part tag (fun o => o.kind == 4 && o.opcode == opcode) with
  | none => s
  | some (o, t) =>
    let w := o.cartw
    let known := !(t.stagedOf q (cwIssuer w) (cwId w)).isEmpty
    (t.outcome q (cwIssuer w) (cwId w) code).answerOp src tag { o with cartw := cwSet w (if known then code else 7) 0 } 4 0x84 0
      false []

/-- CART_COMMIT. -/
def cartCommit (q src part tag : Nat) (s : State) : State := s.cartOutcome q src part tag 4 5

/-- CART_ABORT. -/
def cartAbort (q src part tag : Nat) (s : State) : State := s.cartOutcome q src part tag 5 6

/-- A QUERY to the lead (R246). -/
def State.sendQuery (s : State) (m : Staged) : State :=
  let w := m.op.cartw
  let t := s.modStaged m.key fun m => { m with asked := true }
  t.sendCart .block { kind := 4, opcode := 6, addr := quadAddr (cwLead w) (cwLeadQ w), part := m.part, cartw := cwSet w 0 0 } 0

/-- A member home that is not the lead of the cart, with members staged. -/
def State.memberHome (s : State) (q issuer cart : Nat) : Option Staged :=
  ((s.stagedOf q issuer cart).filter fun m =>
    !m.solo && !(cwLead m.op.cartw == s.lse.node && cwLeadQ m.op.cartw == q)).head?

/-- CART_MEMBER_TIMEOUT: 20 µs without an outcome, a QUERY goes to the lead (R246). -/
def cartMemberTimeout (q issuer cart : Nat) (s : State) : State :=
  match s.memberHome q issuer cart with
  | none => s
  | some m => if m.asked then s else s.sendQuery m

/-- CART_QUERY_REPEAT: a further DEAD_BOUND without ANSWER: another QUERY, or, when the lead is dead, the locks are released with
0xB804 (R246). -/
def cartQueryRepeat (q issuer cart : Nat) (s : State) : State :=
  match s.memberHome q issuer cart with
  | none => s
  | some m =>
    if !m.asked then s
    else if (s.node (cwLead m.op.cartw)).dead then (s.outcome q issuer cart 6).toPart 0xB804 m.part (.unit .node (cwLead m.op.cartw) 0)
    else s.sendQuery m

/-- CART_ANSWER: the lead's decision reaches a member home that asked, which applies or releases and sends DONE (R246). -/
def cartAnswer (tag : Nat) (s : State) : State :=
  s.cartReply tag 0x86 fun s r a =>
    let t := { s with req := { s.req with out := s.req.out.filter (·.tag != r.tag) } }.flowAnswered r
    let code := cwCode a.cartw
    let homes := ((t.cart.staged.filter fun m => m.issuer == cwIssuer a.cartw && m.cart == cwId a.cartw &&
      !(cwLead a.cartw == t.lse.node && cwLeadQ a.cartw == m.q)).map (·.q)).eraseDups
    homes.foldl (fun s q => (s.outcome q (cwIssuer a.cartw) (cwId a.cartw) code).answerOp r.node r.tag
      { kind := 4, addr := quadAddr s.lse.node q, part := r.op.part, cartw := cwSet a.cartw code 0 } 4 0x84 0 false []) t

/-! ### The lead home (R246) -/

/-- The lead's log entry of a cart. -/
def State.decision (s : State) (issuer cart : Nat) : Option Decision :=
  s.cart.log.find? fun d => d.issuer == issuer && d.cart == cart

/-- The other homes named in DECIDE's list, with the members at each. -/
def otherHomes (l : List Byte) : List ((Nat × Nat) × Nat) :=
  ((chunks 4 4 l).drop 1).filterMap fun e =>
    let v : Word := BitVec.ofNat 32 (ofLe e)
    if v.getLsbD 17 then some (((v.extractLsb' 24 8).toNat, (v.extractLsb' 22 2).toNat), (v.extractLsb' 18 4).toNat + 1) else none

/-- The share whose cart decision log holds a decision of the lead at a quadrant: the partition's first there that has one (DEDUCED,
log 9). -/
def State.logShare (s : State) (q part : Nat) : Nat :=
  ([3 * q, 3 * q + 1, 3 * q + 2].find? fun k => s.stackOwner k == part && (s.area k 5).2 != 0).getD (3 * q)

/-- lead_decide: the first decision is logged, applied at the lead in the same step, and, from a DECIDE, sent to the other homes. -/
def State.leadDecide (s : State) (q : Nat) (o : Op) (code : Nat) (others : List ((Nat × Nat) × Nat)) : State :=
  let w := o.cartw
  let homes := others.map (·.1)
  if (s.decision (cwIssuer w) (cwId w)).isSome then s
  else
    let d : Decision := {
      issuer := cwIssuer w, cart := cwId w, q, part := o.part, code, waits := homes, homes, at_ := s.clk.cyc, share := s.logShare q o.part }
    let keep := code == 6 || homes != []
    let t := if keep then { s with cart := { s.cart with log := d :: s.cart.log } } else s
    let t := t.outcome q (cwIssuer w) (cwId w) code
    let t :=
      if cwIssuer w = s.lse.node then t
      else if code = 5 then { t with cart := { t.cart with commit := satInc t.cart.commit } }
      else { t with cart := { t.cart with abort := satInc t.cart.abort } }
    others.foldl (fun s h => s.sendCart .block {
      kind := 4, opcode := if code = 5 then 4 else 5, addr := quadAddr h.1.1 h.1.2, part := o.part, cartw := cwAt (cwSet w code 0) h.2 } 0) t

/-- CART_DECIDE: the lead logs, applies, sends the outcome on, and answers DECIDED with what its log holds. -/
def cartDecide (q src part tag : Nat) (s : State) : State :=
  match s.takeArrival q src part tag (fun o => o.kind == 4 && o.opcode == 3) with
  | none => s
  | some (o, t) =>
    let code := match t.decision (cwIssuer o.cartw) (cwId o.cartw) with
      | some d => d.code
      | none => cwCode o.cartw
    (t.leadDecide q o code (otherHomes o.payload)).answerOp src tag { o with cartw := cwSet o.cartw code 0 } 4 0x83 0 false []

/-- CART_QUERY: the lead answers with its logged decision, logging ABORT when it has none. -/
def cartQuery (q src part tag : Nat) (s : State) : State :=
  match s.takeArrival q src part tag (fun o => o.kind == 4 && o.opcode == 6) with
  | none => s
  | some (o, t) =>
    let code := match t.decision (cwIssuer o.cartw) (cwId o.cartw) with
      | some d => d.code
      | none => 6
    (t.leadDecide q o code []).answerOp src tag { o with cartw := cwSet o.cartw code 0 } 4 0x86 0 false []

/-- CART_LEAD_TIMEOUT: 20 µs at the lead without a decision log ABORT. -/
def cartLeadTimeout (q issuer cart : Nat) (s : State) : State :=
  match (s.stagedOf q issuer cart).filter fun m => cwLead m.op.cartw == s.lse.node && cwLeadQ m.op.cartw == q && !m.solo with
  | [] => s
  | m :: _ => s.leadDecide q m.op 6 []

/-- CART_DONE: a home's DONE reaches the lead; it retires the COMMIT or ABORT that it answers. CODE 0x7 on a committed cart raises 0xB804,
and the lead of another node's cart counts it indeterminate, once; a commit entry ends with its last home (R226, R246, R247, R252). -/
def cartDone (tag : Nat) (s : State) : State :=
  match s.takeAnswer tag (fun a => a.kind == 4 && a.opcode == 0x84) with
  | none => s
  | some (a, t) =>
    let (issuer, cart) := (cwIssuer a.cartw, cwId a.cartw)
    let mine (r : Req) : Bool := r.op.kind == 4 && (r.op.opcode == 4 || r.op.opcode == 5) && a.matches_ r
      && cwIssuer r.op.cartw == issuer && cwId r.op.cartw == cart
    let known := (t.reqOf tag).filter mine
    let t := match known with
      | some r => (t.dropReq r).flowAnswered r
      | none => t
    match t.decision issuer cart with
    | none => if known.isNone then t.strayAnswer a else t
    | some d =>
      let gone := cwCode a.cartw = 7 ∧ d.code = 5
      let t := if gone then t.toPart 0xB804 d.part (.unit .node a.src 0) else t
      let t := if gone ∧ !d.lost ∧ issuer ≠ s.lse.node then { t with cart := { t.cart with indet := satInc t.cart.indet } } else t
      let d' := { d with waits := d.waits.filter (· != (a.src, quadOf a.addr)), lost := d.lost || decide gone }
      { t with cart := { t.cart with log :=
          if d'.code = 5 && d'.waits.isEmpty then t.cart.log.erase d else t.cart.log.map fun x => if x = d then d' else x } }

/-- CART_ABORT_ENTRY_EXPIRE: an abort entry is kept 100 µs (R246). -/
def cartAbortEntryExpire (q issuer cart : Nat) (s : State) : State :=
  { s with cart := { s.cart with
    log := s.cart.log.filter fun d => !(d.q == q && d.issuer == issuer && d.cart == cart && d.code == 6) } }

end Sys2Proof.Machine
end

