-- ==== Sys2Proof/Machine/Home.lean ====
section
/-!
DEFINITION. Machine/Home.lean: the home tracker's admission, tickets and line-lock timeouts (09, R236 to R243), and the requester's
side of a NACK (R241) and of a fence (R234).
-/

namespace Sys2Proof.Machine

/-- Tickets issued and served at a quadrant for a partition, modulo 65,536 (R239). -/
def State.issued (s : State) (q p : Nat) : Nat := s.home.issued.getD (qp q p) 0
/-- Tickets served. -/
def State.served (s : State) (q p : Nat) : Nat := s.home.served.getD (qp q p) 0

/-- a − b modulo 65,536. -/
def ticketDiff (a b : Nat) : Nat := (a + 65536 - b) % 65536

/-- An operation admitted: it holds an entry and is passed on when it may start; a PREPARE or SOLO goes to the cart logic. The order
break that it caused ends (R236, R239). -/
def State.admitReq (s : State) (q part src tag : Nat) (o : Op) : State :=
  let e : HomeEntry := {
    id := s.home.nextId, q, part, src, tag, op := o, site := s.siteOf src tag, since := s.clk.cyc
    started := o.kind != 0, target := if o.kind = 0 then (s.targetAt o).map (·.1) else none }
  let t := { s with home := { s.home with
    entries := s.home.entries ++ [e], nextId := s.home.nextId + 1
    breaks := s.home.breaks.filter (· != (q, src, part, tag)) } }
  let t := t.noteUse q
  if o.kind = 4 then t.memberArrives q src part tag o else t.pump

/-- Half of DEAD_BOUND in cycles: DEAD_BOUND µs of 1,600 cycles (R222, R243). -/
def State.halfBound (s : State) : Nat := s.lease.topo.deadBound * 800

/-- A line of the operation has been locked for half of DEAD_BOUND by a cart (R239's LONG, R243, DEDUCED, log 26). -/
def State.lockedLong (s : State) (o : Op) : Bool :=
  o.kind == 0 && o.writes && s.cart.staged.any fun m => m.holds o && decide (m.at_ + s.halfBound ≤ s.clk.cyc)

/-- home_admit (R239): check 5 of Table 9.6. -/
def State.homeAdmit (s : State) (q part src tag : Nat) (o : Op) : State :=
  let ahead (no : Nat) : Nat := ticketDiff no (s.served q part)
  let mine (t : Ticket) : Bool := t.q == q && t.part == part && t.src == src && t.tag == tag
  let broken := s.home.breaks.find? fun b => b.1 == q && b.2.1 == src && b.2.2.1 == part
  if o.ordered ∧ broken.isSome ∧ broken ≠ some (q, src, part, tag) then s.answerNack q src tag o 4 0 0
  else match s.home.tickets.find? mine with
    | some t =>
      if t.reserved then { s with home := { s.home with tickets := s.home.tickets.erase t } }.admitReq q part src tag o
      else if ahead t.no < 64 ∧ (s.home.tickets.filter fun x => x.q == q && x.held.isSome).length < 64 then
        { s with home := { s.home with tickets := s.home.tickets.map fun (x : Ticket) => if x = t then { x with held := some o } else x } }
      else s.answerNack q src tag o 1 t.no (ahead t.no)
    | none =>
      if s.lockedLong o then s.answerNack q src tag o 3 0 0
      else if s.issued q part = s.served q part ∧ s.inUse q (· == part) < (s.homeQuota q part).1 then s.admitReq q part src tag o
      else if (s.homeQuota q part).2 ≤ ahead (s.issued q part) then s.answerNack q src tag o 2 0 0
      else
        let no := s.issued q part
        let k : Ticket := { q, part, no, src, tag }
        let breaks := if o.ordered then s.home.breaks ++ [(q, src, part, tag)] else s.home.breaks
        { s with home := { s.home with
          tickets := s.home.tickets ++ [k], breaks
          issued := s.home.issued.put (qp q part) ((no + 1) % 65536) } }.answerNack q src tag o 1 no (ahead no)

/-- HOME_REQUEST: a request at its home passes the checks of Table 9.6 in order, and is admitted, NACKed or answered with ERROR. -/
def homeRequest (q src part tag : Nat) (s : State) : State :=
  match s.takeArrival q src part tag (fun o => o.kind == 0) with
  | none => s
  | some (o, t) =>
    let code := t.homeCheck o
    if code = 0 then t.homeAdmit q part src tag o else t.answerErr src tag o code (if code / 4096 = 1 then (t.seamFail o).2 else 0)

/-- CART_PREPARE: a PREPARE takes an entry and is prepared (R246). -/
def cartPrepare (q src part tag : Nat) (s : State) : State :=
  match s.takeArrival q src part tag (fun o => o.kind == 4 && o.opcode == 1) with
  | none => s
  | some (o, t) => t.homeAdmit q part src tag o

/-- CART_SOLO: a SOLO takes an entry; the last of its cart runs it (R248). -/
def cartSolo (q src part tag : Nat) (s : State) : State :=
  match s.takeArrival q src part tag (fun o => o.kind == 4 && o.opcode == 2) with
  | none => s
  | some (o, t) => t.homeAdmit q part src tag o

/-- An entry of a partition's quota is passed to the next ticket, which is reserved or, when its retry is held, admitted (R239). -/
def State.passEntry (s : State) (q part : Nat) : State :=
  let n := s.served q part
  if s.issued q part = n then s
  else
    let t := { s with home := { s.home with served := s.home.served.put (qp q part) ((n + 1) % 65536) } }
    match t.home.tickets.find? fun x => x.q == q && x.part == part && x.no == n with
    | none => t
    | some k =>
      match k.held with
      | some o => { t with home := { t.home with tickets := t.home.tickets.erase k } }.admitReq q part k.src k.tag o
      | none =>
        { t with home := { t.home with tickets := t.home.tickets.map fun (x : Ticket) => if x = k then { x with reserved := true } else x } }

/-- ENTRY_FREED: an answered entry is freed and passed on (R236, R239). -/
def entryFreed (q entry : Nat) (s : State) : State :=
  match s.entry entry with
  | none => s
  | some e =>
    if e.answered ∧ e.q = q then
      { s with home := { s.home with entries := s.home.entries.filter (·.id != entry) } }.passEntry q e.part
    else s

/-- TICKET_LAPSE: 4 µs without the retry: the ticket goes, 0x3405 is logged and its entry is passed on (R239). -/
def ticketLapse (q part no : Nat) (s : State) : State :=
  match s.home.tickets.find? fun x => x.q == q && x.part == part && x.no == no && x.reserved with
  | none => s
  | some k =>
    ({ s with home := { s.home with tickets := s.home.tickets.erase k } }.logged 0x3405 part (.unit .home q 0)).passEntry q part

/-- LOCK_WAIT_TIMEOUT: a write or atomic has waited half of DEAD_BOUND behind a lock: its entry is released with NACK LOCKED (R243). -/
def lockWaitTimeout (q entry : Nat) (s : State) : State :=
  match s.entry entry with
  | none => s
  | some e =>
    if e.q = q ∧ ¬ e.started ∧ e.op.writes ∧ s.locked e.op then
      (({ s with home := { s.home with entries := s.home.entries.filter (·.id != entry) } }.answerNack q e.src e.tag e.op 3 0
        0).passEntry q e.part).pump
    else s

/-! ### NACKs at the requester (R241) -/

/-- NACK_RECEIVE: the retry is noted with its reason, or the operation fails with 0x3406 at its 64th NACK. -/
def nackReceive (tag : Nat) (s : State) : State :=
  match s.takeAnswer tag (fun a => a.kind == 1 && a.opcode == 4) with
  | none => s
  | some (a, t) =>
    match t.reqOf tag with
    | none => t.strayAnswer a
    | some r =>
      if !a.matches_ r then t.strayAnswer a
      else
        let t := t.flowAnswered r
        if 63 ≤ r.nacks then t.finishReq { r with sent := false } 0x3406 false []
        else
          let reason := ofLe a.payload / 2 ^ 32 % 16
          t.modReq tag fun r => { r with nacks := r.nacks + 1, retry := reason, reason, sent := false }

/-- An ORDER retry waits until every earlier ordered request to that home that a NACK other than ORDER has stopped has been answered, and
every earlier one that waits for its own ORDER retry has been sent again (R241). -/
def State.orderClear (s : State) (r : Req) : Bool :=
  s.req.out.all fun x => decide (r.ordNo ≤ x.ordNo) || !x.op.ordered || x.node != r.node || x.op.part != r.op.part
    || quadOf x.op.addr != quadOf r.op.addr || x.nacks == 0 || (x.reason == 4 && x.retry == 0)

/-- NACK_RETRY: the retry time has come; the same request is sent again as a new packet (R241). -/
def nackRetry (tag : Nat) (s : State) : State :=
  match s.reqOf tag with
  | none => s
  | some r =>
    if r.retry = 0 ∨ (r.retry = 4 ∧ !s.orderClear r) then s
    else
      let t := s.modReq tag fun r => { r with retry := 0 }
      (t.sendReq r (t.opQuad r.op)).getD (t.finishReq r 0x300B false [])

/-! ### FENCE (R234) -/

/-- FENCE_COMPLETE: every earlier operation of the context through the engine instance has been answered or has failed. -/
def fenceComplete (e : Engine) (ctx : BitVec 16) (s : State) : State :=
  match s.req.fences.find? fun f => f.1 == e && f.2.2.1 == ctx with
  | none => s
  | some (_, part, _, ext) =>
    let before : Bool := match e with
      | .site t => ((s.sIo t).ops.takeWhile fun o => o.tag != ext).all fun o => o.answered || o.op.ctx != some ctx
      | .task t => s.face.gathers.all (·.task != t) && (s.task t).moveSeqs.isEmpty
      | _ => true
    if s.fenceClear e part ctx && before then
      let t := { s with req := { s.req with fences := s.req.fences.erase (e, part, ctx, ext) } }
      let (t, st) := t.fenceResult e part ctx
      match e with
      | .site k => t.cmpl k ext (if t.ctxOk part ctx then st else 2)
      | .task k => if (t.task k).state = .blocked ∧ (t.task k).block = 3 then t.stepDone k (t.task k).nextPtr else t
      | .mover _ => { t with req := { t.req with done := t.req.done ++ [{
          eng := e, extTag := ext, ok := st == 0, code := if st = 0 then 0 else 0x3407 }] } }
      | _ => t
    else s

end Sys2Proof.Machine
end

