-- ==== Sys2Proof/Machine/Shaft.lean ====
section
/-!
DEFINITION. Machine/Shaft.lean: the shaft path (05) and what it does for seams (04): pads and tags, side-band, reads and their
verdicts, writes, page refresh, sweeps, and the sampling of lanes (R103 to R133, R89 to R94).
-/

namespace Sys2Proof.Machine

/-! ### Pads, tags and side-band (R109 to R115) -/

/-- A counter block (Table 5.1). -/
def cbBlock (seam line : Nat) (ver : BitVec 44) (b : Nat) : Block :=
  BitVec.ofNat 8 seam ++ BitVec.ofNat 38 line ++ ver ++ (0 : BitVec 35) ++ BitVec.ofNat 3 b

/-- The 64 pad bytes of a line, as a line (R110). -/
def linePad (key : List Byte) (seam line : Nat) (ver : BitVec 44) : Line :=
  bytesLine ((List.range 4).map fun b => blockBytes (aes256 key (cbBlock seam line ver b))).flatten

/-- The tag T[127:72] of a ciphertext line (R111). -/
def lineTag (key : List Byte) (h : Block) (seam line : Nat) (ver : BitVec 44) (c : Line) : BitVec 56 :=
  let blocks := (chunks 16 4 (lineBytes c)).map bytesBlock
  (ghash h (blocks ++ [0x200]) ^^^ aes256 key (cbBlock seam line ver 4)).extractLsb' 72 56

/-- The pads of a line of a seam; a plain seam's are zero (R126). -/
def State.padOf (s : State) (e : Seam) (n padSlot line : Nat) (ver : BitVec 44) : Line :=
  if e.kind = .plain then 0 else linePad (s.keyBytes padSlot) n line ver

/-- The tag of a line, zero on a plain seam, cut to 32 bits in narrow mode (R111, R112). -/
def State.tagOf (s : State) (e : Seam) (n padSlot hashSlot line : Nat) (ver : BitVec 44) (c : Line) : BitVec 56 :=
  if e.kind = .plain then 0
  else
    let t := lineTag (s.keyBytes padSlot) (s.keyBlock hashSlot) n line ver c
    if (s.shaft e.stack).narrow then t.extractLsb' 24 32 ++ (0 : BitVec 24) else t

/-- The meta byte (R113, R115). -/
def metaByte (narrow : Bool) (k : SeamKind) (ep : BitVec 4) : Byte :=
  if narrow then ep ++ (0 : BitVec 4) else BitVec.ofNat 2 k.num ++ ep ++ (0 : BitVec 2)

/-- The MAC field's bytes, most significant first. -/
def macBytes (narrow : Bool) (mac : BitVec 56) : List Byte :=
  ((leBytes 7 mac.toNat).reverse).take (if narrow then 4 else 7)

/-- The side-band of a line: check symbols, MAC field, meta byte (Table 5.2, R114). -/
def sideOf (narrow : Bool) (c : Line) (mac : BitVec 56) (m : Byte) : Side :=
  let k := if narrow then 3 else 4
  let chk := ofLe (rsCheck k (lineBytes c ++ macBytes narrow mac ++ [m])).reverse
  if narrow then (0 : BitVec 32) ++ BitVec.ofNat 24 chk ++ mac.extractLsb' 24 32 ++ m
  else BitVec.ofNat 32 chk ++ mac ++ m

/-- A decoded line: ciphertext, MAC field, meta byte, and whether a symbol was corrected. -/
structure Decoded where
  c    : Line
  mac  : BitVec 56
  meta_ : Byte
  fixed : Bool
  deriving DecidableEq, Repr

/-- The decoder (R114): none when uncorrectable. -/
def decodeLine (narrow : Bool) (l : HubLine) : Option Decoded :=
  let k := if narrow then 3 else 4
  let (chk, mac) : Nat × BitVec 56 :=
    if narrow then ((l.side.extractLsb' 40 24).toNat, l.side.extractLsb' 8 32 ++ (0 : BitVec 24))
    else ((l.side.extractLsb' 64 32).toNat, l.side.extractLsb' 8 56)
  let w := lineBytes l.data ++ macBytes narrow mac ++ [l.side.extractLsb' 0 8] ++ (leBytes k chk).reverse
  (rsDecode k w).map fun (w, fixed) =>
    let m := if narrow then 4 else 7
    let macN := ofLe ((w.drop 64).take m).reverse
    { c := bytesLine (w.take 64), mac := BitVec.ofNat 56 (if narrow then macN * 2 ^ 24 else macN), meta_ := w.getD (64 + m) 0, fixed }

/-- meta_ok (R115): KIND in full mode, and EPOCH. -/
def metaOk (narrow : Bool) (k : SeamKind) (ep : BitVec 4) (m : Byte) : Bool :=
  if narrow then m.extractLsb' 4 4 == ep else m.extractLsb' 6 2 == BitVec.ofNat 2 k.num && m.extractLsb' 2 4 == ep

/-! ### The key and the version of a line (R73, R92) -/

/-- The page of a line within its seam. -/
def Seam.pageOf (e : Seam) (line : Nat) : Nat := (line - e.start * 32768) / 64

/-- The keys of a page: pad slot, hash slot and the low epoch bits; none while the page is under sweep (R92). -/
def State.driftKey (s : State) (n page : Nat) : Option (Nat × Nat × BitVec 4) :=
  let e := s.seam n
  if e.state ≠ .drifting then some (e.pad, e.hash, e.epoch.setWidth 4)
  else
    let (start, done) := match s.sweepOf n with
      | some w => (w.start, w.done)
      | none => (0, e.pages)
    let off := (page + e.pages - start) % e.pages
    if off < done then some (e.nextPad, e.nextHash, e.epoch.setWidth 4)
    else if off = done then none
    else some (e.pad, e.hash, (e.epoch - 1).setWidth 4)

/-- The version of a line of a seam, its counter block taken as stored (R73). -/
def State.versionOf (s : State) (n line : Nat) : BitVec 44 :=
  let e := s.seam n
  match e.kind with
  | .sealed => verSealed e.sealEp
  | .versioned =>
    let b := s.cb (cbKey e (e.pageOf line))
    verOf (cbMajor b) (cbMinor b (line % 64))
  | _ => 0

/-- A counter block with REFRESHING set outside a refresh: every line of the page fails its MAC (R90). -/
def State.pageBad (s : State) (n page : Nat) : Bool :=
  let e := s.seam n
  e.kind == .versioned && cbRefreshing (s.cb (cbKey e page)) && !(s.shaft e.stack).refresh.any fun r => r.seam == n && r.page == page

/-! ### Results of an access -/

/-- A line's result handed to what asked for it: an entry of the home tracker, or a cart member's staging. -/
def State.lineDone (s : State) (src : Src) (bytes : List Byte) (poison : Bool) (err : Nat) : State :=
  match src with
  | .home id k => s.gotLine id k bytes poison err
  | .cart key => s.memberRead key bytes poison err
  | .commit line part ctx => if err = 0 then s else s.commitRefused part ctx err line

/-- The staging read of a cart member that will be changed: it is judged before it is used, as the old line of a partial write is
(R128, R244). -/
def State.judgedFirst (s : State) (src : Src) : Bool :=
  match src with
  | .cart key => s.cart.staged.any fun m => m.key == key && m.op.opcode != 1
  | _ => false

/-- An error captured in SHF_ERR_LO and SHF_ERR_HI unless one is held (Tables 5.12, 5.13). -/
def State.shfCapture (s : State) (k code line : Nat) : State :=
  s.modShaft k fun sh => if sh.cap.valid then sh
    else { sh with cap := { valid := true, code := BitVec.ofNat 16 code, addr := line }, irqStat := setBit sh.irqStat 0 }

/-- An interrupt status bit of a shaft. -/
def State.shfIrq (s : State) (k bit : Nat) : State := s.modShaft k fun sh => { sh with irqStat := setBit sh.irqStat bit }

/-- The object of a line-level fault. -/
def lineObj (line n : Nat) : Obj := .line (line * 64) n

/-- An uncorrectable line: counted, captured (R117, R128). -/
def State.shfUncorr (s : State) (k code line : Nat) : State :=
  (((s.modShaft k fun sh => { sh with uncorr := satInc sh.uncorr }).bump 0x11 k 1).shfCapture k code line).shfIrq k 2

/-- A MAC or meta failure: counted, captured, and an event of the integrity budget (R98, R117). -/
def State.shfMacFail (s : State) (k n code line : Nat) : State :=
  ((((s.modShaft k fun sh => { sh with macFail := satInc sh.macFail }).bump 0x12 k 1).shfCapture k code line).shfIrq k 1).countIntegrity n
    (lineObj line n)

/-- A corrected symbol: counted, captured with DETAIL 0x0FF (R118). -/
def State.shfCorr (s : State) (k line : Nat) : State :=
  ((s.modShaft k fun sh => { sh with corr := satInc sh.corr }).bump 0x10 k 1).shfCapture k 0x20FF line

/-- The memory clusters of a shaft that are online. -/
def State.shaftClusters (s : State) (k : Nat) : List Nat :=
  ([4 * k, 4 * k + 1, 4 * k + 2, 4 * k + 3]).filter fun c => !(s.clus.getD c {}).offline

/-- A line's work at a shaft: its transfers at the shaft port, and its lane-cycles in the memory cluster whose turn it is among those
online, under the keys of its slots (R30, R131). A plain seam's line needs no cluster. -/
def State.shaftTurn (s : State) (k part transfers cycles : Nat) (ctx : Option (BitVec 16)) (slots : List Nat) : State :=
  let t := s.bump 0x01 k transfers
  if slots = [] then t
  else
    let on := s.shaftClusters k
    let turn := (s.shaft k).turn
    (t.modShaft k fun sh => { sh with turn := (turn + 1) % 12 }).passCluster (on.getD (turn % max 1 on.length) (4 * k)) part cycles ctx slots

/-- The slots whose keys a line of a seam needs: none on a plain seam (R126). -/
def Seam.needs (e : Seam) (slots : List Nat) : List Nat := if e.kind = .plain then [] else slots

/-- A shaft without an online cluster forms no pad: its accesses to a keyed seam wait (R22, DEDUCED, log 72). -/
def State.padsHere (s : State) (k line : Nat) : Bool :=
  s.shaftClusters k != [] || (match s.seamAt line with
    | some (_, e) => e.kind == .plain
    | none => true)

/-! ### The counter cache (R108) -/

/-- A counter block entered in the cache; a full cache gives up a block the spec does not name. -/
def State.cacheCb (s : State) (k key : Nat) : State :=
  let cc := (s.shaft k).cc
  if cc.contains key then s
  else if cc.length < 4096 then s.modShaft k fun sh => { sh with cc := key :: sh.cc }
  else (s.modShaft k fun sh => { sh with cc := key :: sh.cc.eraseIdx (Config.freeNat s.fresh % cc.length) }).used

/-- A miss counted and the block asked for (R108). -/
def State.missCb (s : State) (k key : Nat) : State :=
  s.modShaft k fun sh => if sh.fetch.contains key then sh else { sh with fetch := sh.fetch ++ [key], ccMiss := satInc sh.ccMiss }

/-! ### Accesses that wait (R106) -/

/-- The page of a line is held by a refresh (R89). -/
def Shaft.pageHeld (sh : Shaft) (n page : Nat) : Bool := sh.refresh.any fun r => r.seam == n && r.page == page

/-- No rule makes the access at index i of the shaft's queue wait for another: no earlier access to its line, no read-modify-write
in flight on it, its page not held (R89, R92, R106). -/
def State.lineFree (s : State) (k i : Nat) (a : Acc) : Bool :=
  let sh := s.shaft k
  ((sh.q.take i).all fun b => b.line != a.line) && !(sh.track.any fun t => t.line == a.line && t.old.isSome)
    && match s.seamAt a.line with
      | none => true
      | some (n, e) => !sh.pageHeld n (e.pageOf a.line) && (s.driftKey n (e.pageOf a.line)).isSome

/-- A read issued to the stack whose data has not come back (R106). -/
def Shaft.readOut (sh : Shaft) (line : Nat) : Bool := sh.track.any fun t => t.line == line && t.raw.isNone && t.stamp.isNone

/-- A home's read of the line whose verdict is to come: a later operation takes the value it leaves in the home's tracker (R237, DEDUCED,
log 90). -/
def Shaft.homeOut (sh : Shaft) (a : Acc) : Bool := a.src.isHome && sh.track.any fun t => t.line == a.line && t.src.isHome

/-- The read can start: a tracker entry is free or the write buffer serves it (R104, R106), or the home's tracker does (R237). -/
def State.readReady (s : State) (k i : Nat) (a : Acc) : Bool :=
  let sh := s.shaft k
  !a.write && s.lineFree k i a && !sh.homeOut a
    && ((s.heldVal a).isSome || (decide (sh.track.length < 3072) || (sh.wb.find a.line).isSome) && s.padsHere k a.line)

/-- The write covers its line without needing the old one. -/
def Acc.full (a : Acc) : Bool := a.rmw.isNone && a.mask == BitVec.allOnes 64

/-- Write-buffer entries held: lines buffered, and writes accepted whose line is still to come (R105). -/
def Shaft.held (sh : Shaft) : Nat :=
  sh.wb.length + (sh.track.filter fun t => t.old.isSome && (sh.wb.find t.line).isNone).length + sh.refresh.length

/-- The write can start, its token and counter block apart: the write buffer of 1,536 lines takes it, and a write that must read its
old line has a tracker entry (R104 to R106). -/
def State.writeReady (s : State) (k i : Nat) (a : Acc) : Bool :=
  let sh := s.shaft k
  let hit := (sh.wb.find a.line).isSome
  a.write && s.lineFree k i a && !sh.readOut a.line && (a.full || !sh.homeOut a) && (decide (sh.held < 1536) || hit)
    && (a.full || hit || (s.heldVal a).isSome || decide (sh.track.length < 3072)) && s.padsHere k a.line

/-- The first access of a shaft's queue that passes a test, and the state without it. -/
def State.takeAcc (s : State) (k : Nat) (p : Nat → Acc → Bool) : Option (Acc × State) :=
  let q := (s.shaft k).q
  ((q.zip (List.range q.length)).find? fun x => p x.2 x.1).map fun x =>
    (x.1, s.modShaft k fun sh => { sh with q := sh.q.eraseIdx x.2 })

/-- The lowest tracker index that is free (R104). -/
def Shaft.freeTag (sh : Shaft) : Nat := (firstFrom (fun i => sh.track.all fun t => t.tag != i) 3072 0).getD 0

/-- A tracker entry taken and the read issued to the hub. -/
def State.track (s : State) (k : Nat) (t : Track) : State :=
  (s.modShaft k fun sh => { sh with track := sh.track ++ [t], high := max sh.high (sh.track.length + 1) }).emit
    (.hubRead k t.tag t.line)

/-- A tracker entry released. -/
def State.untrack (s : State) (k tag : Nat) : State := s.modShaft k fun sh => { sh with track := sh.track.filter (·.tag != tag) }

/-- A tracker entry rewritten. -/
def State.modTrack (s : State) (k tag : Nat) (f : Track → Track) : State :=
  s.modShaft k fun sh => { sh with track := sh.track.map fun t => if t.tag = tag then f t else t }

/-! ### Reads (R116 to R118) -/

/-- SHAFT_READ: the first read that can start is checked, and served from the value the home keeps or the write buffer, or issued to the hub
(R104, R106, R116, R237). -/
def shaftRead (k : Nat) (s : State) : State :=
  match s.takeAcc k (fun i a => s.readReady k i a) with
  | none => s
  | some (a, t) =>
    match s.access a.line false a.kept with
    | .refuse c => t.lineDone a.src [] false c
    | .errorValue => t.lineDone a.src (errorValue 64) true 0
    | .pass =>
      match s.seamAt a.line with
      | none => t
      | some (n, e) =>
        let page := e.pageOf a.line
        if let some v := s.heldVal a then t.lineDone a.src (lineBytes v) false 0
        else if e.kind = .versioned ∧ s.lineLost k n page (a.line % 64) then
          if s.judgedFirst a.src then t.lineDone a.src [] false 0x2202
          else (t.keepOpt a.part a.ctx 0x2203 (lineObj a.line n)).lineDone a.src (errorValue 64) true 0
        else match (s.shaft k).wb.find a.line with
          | some w => t.lineDone a.src (lineBytes (w.c ^^^ s.padOf e n w.padSlot a.line w.ver)) false 0
          | none =>
            let (pad, hash, ep) := (s.driftKey n page).getD (0, 0, 0)
            let key := cbKey e page
            let hit := e.kind != .versioned || (s.shaft k).cc.contains key
            let t := if hit then t else t.missCb k key
            (t.shaftTurn k a.part 1 5 a.ctx (e.needs [pad, hash])).track k {
              tag := (s.shaft k).freeTag, line := a.line, seam := n, part := a.part, ctx := a.ctx, src := a.src, site := a.site
              padSlot := pad, hashSlot := hash, kind := e.kind, ep, ver := if hit then some (s.versionOf n a.line) else none
              pads := hit, no := a.no }

/-- The verdict of a delivered line (R116, R117): a pass frees the entry; a failure counts, drops held egress and costs the context. -/
def State.judge (s : State) (k : Nat) (t : Track) (d : Decoded) : State :=
  let e := s.seam t.seam
  let mOk := metaOk (s.shaft k).narrow t.kind t.ep d.meta_
  let tagged := s.tagOf e t.seam t.padSlot t.hashSlot t.line (t.ver.getD 0) d.c
  let ok := mOk && tagged == d.mac && !s.pageBad t.seam (e.pageOf t.line)
  let u := (s.verdict t.part (t.stamp.getD 0) ok (lineObj t.line t.seam)).untrack k t.tag
  if ok then u.keepVal t.src t.line (d.c ^^^ s.padOf e t.seam t.padSlot t.line (t.ver.getD 0))
  else
    let code := if mOk then 0x1201 else 0x1202
    ((u.shfMacFail k t.seam code t.line).loseOpt t.part t.ctx code (lineObj t.line t.seam)).tellSite t.site t.ctx code

/-- A decoded line delivered, stamped as a horizon member, and judged at once or, when corrected, by the correction path; a plain
seam's line is only delivered (R116, R118, R119). A member to be staged is judged first (R128, R244). -/
def State.deliverLine (s : State) (k : Nat) (t : Track) (d : Decoded) : State :=
  let e := s.seam t.seam
  let plain := d.c ^^^ s.padOf e t.seam t.padSlot t.line (t.ver.getD 0)
  let s := if d.fixed then s.shfCorr k t.line else s
  if t.kind = .plain then ((s.untrack k t.tag).keepVal t.src t.line plain).lineDone t.src (lineBytes plain) false 0
  else if s.judgedFirst t.src then
    let ok := metaOk (s.shaft k).narrow t.kind t.ep d.meta_
      && s.tagOf e t.seam t.padSlot t.hashSlot t.line (t.ver.getD 0) d.c == d.mac && !s.pageBad t.seam (e.pageOf t.line)
    if ok then (s.untrack k t.tag).lineDone t.src (lineBytes plain) false 0
    else ((s.untrack k t.tag).shfMacFail k t.seam 0x1203 t.line).lineDone t.src [] false 0x1203
  else
    let (u, st) := s.deliverStamp t.part
    let t' := { t with stamp := some st }
    if d.fixed then
      ((u.modTrack k t.tag fun t => { t with stamp := some st, raw := some (d.c, d.mac ++ BitVec.ofNat 16 (d.meta_.toNat), true) }).modShaft
        k fun sh => { sh with corrQ := sh.corrQ ++ [t.tag] }).lineDone t.src (lineBytes plain) false 0
    else (u.lineDone t.src (lineBytes plain) false 0).judge k t' d

/-- The decoded form kept in a tracker entry. -/
def heldLine (x : Line × BitVec 72 × Bool) : Decoded :=
  { c := x.1, mac := x.2.1.extractLsb' 16 56, meta_ := x.2.1.extractLsb' 0 8, fixed := x.2.2 }

/-- A line for a chiplet stays in the read buffer while its site's response buffer is full (R172). -/
def State.lineStays (s : State) (t : Track) : Bool :=
  match t.site with
  | some n => !s.rspRoom n 1
  | none => false

/-- A decoded line that may be delivered, or held: until its pads are ready, for room in the site's response
buffer, or in the correction queue (R35, R118, R172). -/
def State.offerLine (s : State) (k : Nat) (t : Track) (d : Decoded) : State :=
  let hold := s.modTrack k t.tag fun t => { t with raw := some (d.c, d.mac ++ BitVec.ofNat 16 d.meta_.toNat, d.fixed) }
  if !t.pads ∨ s.lineStays t then hold
  else if d.fixed ∧ t.kind ≠ .plain ∧ ¬ s.judgedFirst t.src ∧ 8 ≤ (s.shaft k).corrQ.length then
    hold.modShaft k fun sh => { sh with corrWait := sh.corrWait ++ [t.tag] }
  else s.deliverLine k t d

/-- HUB_READ_RETURN: a line returns, is decoded first, and has one of the outcomes of Table 5.3 (R117). -/
def hubReadReturn (k tag : Nat) (l : HubLine) (s : State) : State :=
  match (s.shaft k).track.find? fun t => t.tag == tag && t.old.isNone && t.raw.isNone && t.stamp.isNone with
  | none => s
  | some t =>
    match decodeLine (s.shaft k).narrow l with
    | some d => s.offerLine k t d
    | none =>
      if s.judgedFirst t.src then ((s.untrack k tag).shfUncorr k 0x2102 t.line).lineDone t.src [] false 0x2102
      else
        (((s.untrack k tag).shfUncorr k 0x2101 t.line).toPart 0x2101 t.part (lineObj t.line t.seam)).lineDone t.src (errorValue 64)
          true 0

/-- PAD_READY: the pads of a read whose version is known are ready; a line held for them is delivered (R35). -/
def padReady (k tag : Nat) (s : State) : State :=
  match (s.shaft k).track.find? fun t => t.tag == tag && t.old.isNone && t.stamp.isNone && t.ver.isSome && !t.pads with
  | none => s
  | some t =>
    let u := s.modTrack k tag fun t => { t with pads := true, raw := none }
    match t.raw with
    | none => u
    | some x => u.offerLine k { t with pads := true, raw := none } (heldLine x)

/-- CORRECTION_VERDICT: the head of the correction queue is judged, and the next held corrected line enters the queue (R118). -/
def correctionVerdict (k : Nat) (s : State) : State :=
  match (s.shaft k).corrQ with
  | [] => s
  | tag :: rest =>
    let t := s.modShaft k fun sh => { sh with corrQ := rest }
    let t := match (s.shaft k).track.find? (·.tag == tag) with
      | none => t
      | some x => match x.raw with
        | some r => t.judge k x (heldLine r)
        | none => t
    match (t.shaft k).corrWait with
    | [] => t
    | g :: w =>
      let t := t.modShaft k fun sh => { sh with corrWait := w }
      match (t.shaft k).track.find? (·.tag == g) with
      | none => t
      | some x => match x.raw with
        | some r => t.deliverLine k { x with raw := none } (heldLine r)
        | none => t

/-! ### Writes (R126 to R130) -/

/-- A ciphertext line placed in the write buffer, readable from here, and its stack write issued (R105, R106, R126). -/
def State.putLine (s : State) (k n line : Nat) (c : Line) (key : Nat × Nat × BitVec 4) (ver : BitVec 44) : State :=
  let e := s.seam n
  let narrow := (s.shaft k).narrow
  let mac := s.tagOf e n key.1 key.2.1 line ver c
  let m := metaByte narrow e.kind key.2.2
  let w : WbLine := { c, mac, meta_ := m, seam := n, ver, padSlot := key.1
                      unacked := (((s.shaft k).wb.find line).map (·.unacked)).getD 0 + 1 }
  (s.modShaft k fun sh => { sh with wb := sh.wb.put line w }).emit (.hubWrite k line c (sideOf narrow c mac m))

/-- The counter block of a written line: its minor, WRITES, DIRTY (R126). -/
def cbWrite (b : Line) (i minor : Nat) : Line :=
  let b := setBits (setBits b (28 + 7 * i) 7 minor) 27 1 1
  setBits b 10 16 (min 65535 ((cbWrites b).toNat + 1))

/-- A write commits: the new plaintext line enciphered under its new version, the counter block stored with it, the logs marked, and
the result given (R126). -/
def State.commitLine (s : State) (k n : Nat) (a : Acc) (key : Nat × Nat × BitVec 4) (ver : BitVec 44) (plain : Line) (old : List Byte) :
    State :=
  let e := s.seam n
  let page := e.pageOf a.line
  let i := a.line % 64
  let t := s.putLine k n a.line (plain ^^^ s.padOf e n key.1 a.line ver) key ver
  let t := if e.kind = .versioned then
      let b := t.cb (cbKey e page)
      (t.putCb (cbKey e page) (cbWrite b i (ver.extractLsb' 1 7).toNat)).lineRewritten k n page i
    else t
  (((t.markDirty k a.part (stackBit (a.line * 64))).shaftTurn k a.part 1 5 a.ctx (e.needs [key.1, key.2.1])).keepVal a.src a.line plain).lineDone
    a.src old false 0

/-- The version a write leaves: the line's next minor on a versioned seam, the current version elsewhere (R126). -/
def State.nextVersion (s : State) (n line : Nat) : BitVec 44 :=
  let e := s.seam n
  if e.kind = .versioned then
    let b := s.cb (cbKey e (e.pageOf line))
    verOf (cbMajor b) (cbMinor b (line % 64) + 1)
  else s.versionOf n line

/-- What a write makes of the old plaintext, and the old value it returns (R126, R130, R230). -/
def Acc.merge (a : Acc) (old : List Byte) : Line × List Byte :=
  let r := a.rmw.getD .masked
  let back : List Byte := match r with
    | .atomic b off _ => (old.drop off).take (atomicSize b)
    | _ => []
  (bytesLine (rmwApply r a.mask (lineBytes a.data) old), back)

/-- A token taken, if the write has none yet (R88). -/
def State.takeToken (s : State) (n : Nat) (a : Acc) : State :=
  if (s.seam n).kind = .versioned ∧ ¬ a.token then s.modSeam n fun e => { e with tokens := e.tokens - 1 } else s

/-- A write that can start, its counter block at hand, its token taken (R89, R96, R126). -/
def State.writeGo (s : State) (k n : Nat) (a : Acc) : State :=
  let e := s.seam n
  let page := e.pageOf a.line
  let key := (s.driftKey n page).getD (0, 0, 0)
  let b := s.cb (cbKey e page)
  if e.kind = .versioned ∧ (s.pageLost k n page ∨ (!a.full ∧ s.lineLost k n page (a.line % 64))) then s.lineDone a.src [] false 0x2202
  else if e.kind = .versioned ∧ cbMinor b (a.line % 64) = 127 then
    if cbMajor b = maxMajor then
      (s.modShaft k fun sh => { sh with q := { a with token := true } :: sh.q }).wantDrift n 1 page false
    else
      (s.putCb (cbKey e page) (setBits b 26 1 1)).modShaft k fun sh =>
        { sh with refresh := sh.refresh ++ [{ seam := n, page, i := a.line % 64, w := { a with token := true } }] }
  else if a.full then s.commitLine k n a key (s.nextVersion n a.line) a.data []
  else if let some v := s.heldVal a then
    s.commitLine k n a key (s.nextVersion n a.line) (a.merge (lineBytes v)).1 (a.merge (lineBytes v)).2
  else match (s.shaft k).wb.find a.line with
    | some w =>
      let old := lineBytes (w.c ^^^ s.padOf e n w.padSlot a.line w.ver)
      s.commitLine k n a key (s.nextVersion n a.line) (a.merge old).1 (a.merge old).2
    | none =>
      (s.shaftTurn k a.part 1 5 a.ctx (e.needs [key.1, key.2.1])).track k {
        tag := (s.shaft k).freeTag, line := a.line, seam := n, part := a.part, ctx := a.ctx, src := a.src, site := a.site
        padSlot := key.1, hashSlot := key.2.1, kind := e.kind, ep := key.2.2, ver := some (s.versionOf n a.line), old := some a
        no := a.no }

/-- The write needs a counter block that the cache does not hold. -/
def State.needsCb (s : State) (k : Nat) (a : Acc) : Option Nat :=
  match s.seamAt a.line with
  | some (n, e) =>
    let key := cbKey e (e.pageOf a.line)
    if e.kind = .versioned ∧ ¬ (s.shaft k).cc.contains key ∧ ¬ s.pageLost k n (e.pageOf a.line) then some key else none
  | none => none

/-- The write waits for a token of its seam (R88). -/
def State.needsToken (s : State) (a : Acc) : Bool :=
  match s.seamAt a.line with
  | some (_, e) => e.kind == .versioned && !a.token && e.tokens == 0
  | none => false

/-- The write waits for a forced drift of its seam to reach its page (R96). -/
def State.waitsDrift (s : State) (a : Acc) : Bool :=
  match s.seamAt a.line with
  | some (_, e) =>
    let b := s.cb (cbKey e (e.pageOf a.line))
    e.kind == .versioned && a.token && cbMajor b == maxMajor && cbMinor b (a.line % 64) == 127
  | none => false

/-- One write that can start goes on: refused by Table 4.5, or performed. -/
def State.writeOne (s : State) (k : Nat) : Option State :=
  (s.takeAcc k fun i a => s.writeReady k i a && (s.access a.line true a.kept != .pass
    || ((s.needsCb k a).isNone && !s.needsToken a && !s.waitsDrift a))).map fun (a, t) =>
      match s.access a.line true a.kept with
      | .refuse c => t.lineDone a.src [] false c
      | .errorValue => t
      | .pass => match s.seamAt a.line with
        | some (n, _) => (t.takeToken n a).writeGo k n a
        | none => t

/-- Counter blocks asked for by the writes that could start but for them (R108). -/
def State.askBlocks (s : State) (k : Nat) : State :=
  let q := (s.shaft k).q
  (q.zip (List.range q.length)).foldl (fun t (a, i) =>
    if s.writeReady k i a && s.access a.line true a.kept == .pass then
      match s.needsCb k a with
      | some key => t.missCb k key
      | none => t
    else t) s

/-- SHAFT_WRITE: the first write that can start goes on; when none can, the counter blocks that writes wait for are fetched (R126). -/
def shaftWrite (k : Nat) (s : State) : State :=
  match s.writeOne k with
  | some t => t
  | none => s.askBlocks k

/-- Up to n writes that can start go on. -/
def State.runWrites (k : Nat) : Nat → State → State
  | 0, s => s
  | n + 1, s => match s.writeOne k with
    | some t => State.runWrites k n t
    | none => s

/-- COUNTER_FETCH_DONE: a counter block returns: waiting reads learn their version and waiting writes go on; an uncorrectable one
loses its page; one with REFRESHING set outside a refresh is a partition fault (R90, R108, R152). `blk` counts the blocks of the
shaft's counter space. -/
def counterFetchDone (k blk : Nat) (ecc : Ecc) (s : State) : State :=
  let key := k * 2 ^ 23 + blk
  if !(s.shaft k).fetch.contains key then s
  else
    let t := s.modShaft k fun sh => { sh with fetch := sh.fetch.filter (· != key) }
    match t.seams.find? fun (_, e) => e.kind == .versioned && e.state != .empty && e.stack == k
        && decide (e.base * 64 ≤ blk) && decide (blk < e.base * 64 + e.pages) with
    | none => t
    | some (n, e) =>
      let page := blk - e.base * 64
      let waits := (t.shaft k).track.filter fun x => x.seam == n && x.ver.isNone && e.pageOf x.line == page
      if ecc = .uncorr then
        let t := t.used.loseCounter k n page (Config.freeNat t.fresh % 8)
        let t := waits.foldl (fun s x =>
          ((s.untrack k x.tag).keepOpt x.part x.ctx 0x2203 (lineObj x.line n)).lineDone x.src (errorValue 64) true 0) t
        State.runWrites k (t.shaft k).q.length t
      else
        let t := (t.insWords (k / 3) (wordsFrom (t.areaStart k 0 / 8 + blk * 8) 8) 0 ecc).1
        let t := t.cacheCb k key
        let t := if t.pageBad n page then t.partFault 0x110A e.owner (.unit .seam n 0) else t
        let t := waits.foldl (fun s x => s.modTrack k x.tag fun y => { y with ver := some (s.versionOf n x.line) }) t
        State.runWrites k (t.shaft k).q.length t

/-- WRITE_TOKEN_ARRIVE: the bucket gains a token, up to its depth, and a write that waits for one goes on (R88). -/
def writeTokenArrive (n : Nat) (s : State) : State :=
  let e := s.seam n
  if e.kind ≠ .versioned ∨ e.state = .empty then s
  else
    let t := s.modSeam n fun e => { e with tokens := min 4096 (e.tokens + 1) }
    if e.tokens = 0 then State.runWrites e.stack 1 t else t

/-- The old line of a partial write or atomic judged: its plaintext, or the detail that refuses the write (R128). -/
def State.oldLine (s : State) (k n line : Nat) (key : Nat × Nat × BitVec 4) (ver : BitVec 44) (l : HubLine) : Except Nat (Line × Bool) :=
  let e := s.seam n
  match decodeLine (s.shaft k).narrow l with
  | none => .error 0x2102
  | some d =>
    let ok := e.kind == .plain || (metaOk (s.shaft k).narrow e.kind key.2.2 d.meta_
      && s.tagOf e n key.1 key.2.1 line ver d.c == d.mac && !s.pageBad n (e.pageOf line))
    if ok then .ok (d.c ^^^ s.padOf e n key.1 line ver, d.fixed) else .error 0x1203

/-- A write refused for its old line: counted by its sort, answered with the detail (R128). -/
def State.refuseOld (s : State) (k n : Nat) (a : Acc) (code : Nat) : State :=
  (if code = 0x2102 then s.shfUncorr k code a.line else s.shfMacFail k n code a.line).lineDone a.src [] false code

/-- PARTIAL_OLD_LINE_RETURN: the old line of a partial write or atomic returns; the write is merged or refused (R126 to R130). -/
def partialOldLineReturn (k tag : Nat) (l : HubLine) (s : State) : State :=
  match (s.shaft k).track.find? (·.tag == tag) with
  | none => s
  | some t =>
    match t.old with
    | none => s
    | some a =>
      let key := (t.padSlot, t.hashSlot, t.ep)
      let u := s.untrack k tag
      match s.oldLine k t.seam t.line key (t.ver.getD 0) l with
      | .error code => u.refuseOld k t.seam a code
      | .ok (old, fixed) =>
        let u := if fixed then u.shfCorr k t.line else u
        let key := (s.driftKey t.seam ((s.seam t.seam).pageOf t.line)).getD key
        u.commitLine k t.seam a key (s.nextVersion t.seam t.line) (a.merge (lineBytes old)).1 (a.merge (lineBytes old)).2

/-- HUB_WRITE_ACK: the hub acknowledges a stack write; the entry goes with its last one (R105). -/
def hubWriteAck (k line : Nat) (s : State) : State :=
  match (s.shaft k).wb.find line with
  | none => s
  | some w => s.modShaft k fun sh =>
      { sh with wb := if w.unacked ≤ 1 then sh.wb.erase line else sh.wb.put line { w with unacked := w.unacked - 1 } }

/-! ### Re-encipherment: refresh and sweep (R89, R93) -/

/-- The line as the stack or the write buffer holds it: the buffered one is taken (R93). -/
def State.standing (s : State) (k line : Nat) (l : HubLine) : HubLine :=
  match (s.shaft k).wb.find line with
  | some w => { data := w.c, side := sideOf (s.shaft k).narrow w.c w.mac w.meta_ }
  | none => l

/-- A line of a page that fails its MAC as the page is re-enciphered: counted, captured, reported with its detail, and an event of the
integrity budget; it stays in place (R89, R93, R136). -/
def State.leftInPlace (s : State) (k n line code : Nat) : State :=
  ((((s.modShaft k fun sh => { sh with macFail := satInc sh.macFail }).bump 0x12 k 1).shfCapture k code line).toPart code (s.seam n).owner
    (lineObj line n)).countIntegrity n (lineObj line n)

/-- One line of a page re-enciphered from old key and version to new, in one cluster's 10 lane-cycles; an uncorrectable line, which is
counted, or one that fails its MAC stays as it is (R89, R93, R131). On a page whose counter block has REFRESHING set every line fails
(R90). -/
def State.reencipher (s : State) (k n line code : Nat) (kOld : Nat × Nat × BitVec 4) (vOld : BitVec 44) (kNew : Nat × Nat × BitVec 4)
    (vNew : BitVec 44) (l : HubLine) : State :=
  let e := s.seam n
  let s := s.shaftTurn k e.owner 2 10 none (e.needs [kOld.1, kOld.2.1, kNew.1, kNew.2.1])
  match decodeLine (s.shaft k).narrow (s.standing k line l) with
  | none => (s.modShaft k fun sh => { sh with uncorr := satInc sh.uncorr }).bump 0x11 k 1
  | some d =>
    let s := if d.fixed then s.shfCorr k line else s
    let ok := metaOk (s.shaft k).narrow e.kind kOld.2.2 d.meta_ && s.tagOf e n kOld.1 kOld.2.1 line vOld d.c == d.mac
      && !s.pageBad n (e.pageOf line)
    if !ok then s.leftInPlace k n line code
    else
      let c := d.c ^^^ s.padOf e n kOld.1 line vOld ^^^ s.padOf e n kNew.1 line vNew
      if ((s.shaft k).wb.find line).isSome then s.putLine k n line c kNew vNew
      else
        let m := metaByte (s.shaft k).narrow e.kind kNew.2.2
        let mac := s.tagOf e n kNew.1 kNew.2.1 line vNew c
        s.emit (.hubWrite k line c (sideOf (s.shaft k).narrow c mac m))

/-- The line of a page. -/
def Seam.lineAt (e : Seam) (page j : Nat) : Nat := e.start * 32768 + page * 64 + j

/-- The hub's line j of a page, all zeros when it was not given. -/
def hubLineAt (l : List HubLine) (j : Nat) : HubLine := l.getD j { data := 0, side := 0 }

/-- REFRESH_DONE: a page refresh ends: 63 lines re-enciphered under the new major, the triggering write performed under minor 1 or
refused, the counter block stored and the page released (R89). -/
def refreshDone (k : Nat) (lines : List HubLine) (s : State) : State :=
  match (s.shaft k).refresh with
  | [] => s
  | r :: rest =>
    let n := r.seam
    let e := s.seam n
    match s.driftKey n r.page with
    | none => s
    | some key =>
      let ck := cbKey e r.page
      let b := s.cb ck
      let major := cbMajor b + 1
      let old (j : Nat) : BitVec 44 := verOf (cbMajor b) (cbMinor b j)
      let one (s : State) (j : Nat) : State :=
        if j = r.i then s
        else s.reencipher k n (e.lineAt r.page j) 0x1108 key (old j) key (verOf major 0) (hubLineAt lines j)
      let t := (List.range 64).foldl one s
      let line := e.lineAt r.page r.i
      let res : Except Nat (Line × List Byte × Bool) :=
        if r.w.full then .ok (r.w.data, [], false)
        else match s.oldLine k n line key (old r.i) (s.standing k line (hubLineAt lines r.i)) with
          | .error c => .error c
          | .ok (x, fixed) => .ok ((r.w.merge (lineBytes x)).1, (r.w.merge (lineBytes x)).2, fixed)
      let nb := setBits (setBits (cbFresh major.toNat true) 10 16 (cbWrites b).toNat) 27 1 (if cbDirty b then 1 else 0)
      let t := (t.putCb ck nb).modShaft k fun sh => { sh with refresh := rest }
      match res with
      | .error c => t.refuseOld k n r.w c
      | .ok (x, back, fixed) => (if fixed then t.shfCorr k line else t).commitLine k n r.w key (verOf major 1) x back

/-- SWEEP_PAGE: the running sweep finishes its next page: a fill writes zeros; a drift re-enciphers every line to the new keys and
stores a fresh counter block, a lost page's lines staying in place (R82, R93, R94, R153). A page held by a refresh is not swept, and one
whose block has REFRESHING set is a partition fault (R90). A line of a listed page that has not been rewritten since its sweep stays in
place in every later sweep (DEDUCED, log 73). -/
def sweepPage (k : Nat) (lines : List HubLine) (ecc : Ecc) (s : State) : State :=
  match (s.shaft k).run with
  | none => s
  | some w =>
    let n := w.seam
    let e := s.seam n
    let page := (w.start + w.done) % e.pages
    if e.pages ≤ w.done ∨ (s.shaft k).pageHeld n page then s
    else
      let ck := cbKey e page
      let step (t : State) : State := t.modShaft k fun sh => { sh with run := sh.run.map fun x => { x with done := x.done + 1 } }
      if w.fill then
        let key := (e.pad, e.hash, e.epoch.setWidth 4)
        let zero (t : State) (j : Nat) : State :=
          let line := e.lineAt page j
          let ver := s.versionOf n line
          let c := s.padOf e n e.pad line ver
          (t.shaftTurn k e.owner 1 5 none (e.needs [e.pad, e.hash])).emit (.hubWrite k line c (sideOf (s.shaft k).narrow c (s.tagOf e n e.pad e.hash line ver c)
            (metaByte (s.shaft k).narrow e.kind key.2.2)))
        step ((List.range 64).foldl zero (s.dropVals (e.lineAt page 0) 64))
      else
        let kOld := (e.pad, e.hash, (e.epoch - 1).setWidth 4)
        let kNew := (e.nextPad, e.nextHash, e.epoch.setWidth 4)
        let ver := e.kind == .versioned
        let lost := ver && s.pageLost k n page
        let s := if ver && ecc == .uncorr && !lost then s.used.loseCounter k n page (Config.freeNat s.fresh % 8)
          else if ver && ecc == .corrected then (s.insWords (k / 3) (wordsFrom (s.areaStart k 0 / 8 + (e.base * 64 + page) * 8) 8) 0 ecc).1 else s
        let lost := lost || (ver && ecc == .uncorr)
        let s := if !lost && s.pageBad n page then s.partFault 0x110A e.owner (.unit .seam n 0) else s
        let one (t : State) (j : Nat) : State :=
          let line := e.lineAt page j
          if ver && s.lineLost k n page j then t
          else t.reencipher k n line 0x1109 kOld (s.versionOf n line) kNew (if ver then 0 else s.versionOf n line) (hubLineAt lines j)
        let t := if lost then s else (List.range 64).foldl one s
        let t := if ver then t.putCb ck (cbFresh 0 (cbDirty (s.cb ck))) else t
        let swept (l : LostPage) : LostPage :=
          if l.seam = n ∧ l.page = page ∧ !l.swept then { l with swept := true, rewritten := 0 } else l
        let t := step (t.modShaft k fun sh => { sh with lost := sh.lost.map swept })
        if e.pages ≤ w.done + 1 then t.driftDone k n else t

end Sys2Proof.Machine
end

