-- ==== Sys2Proof/Machine/InnerOps.lean ====
section
/-!
DEFINITION. Machine/InnerOps.lean: the events of the Inner Store (06): accesses to inner pages, the scrubber, and the zeroing of a
share (R143, R146 to R149, R152).
-/

namespace Sys2Proof.Machine

/-- The 64-bit words, counted from the first it touches, that a write changes only in part (R152). -/
def partWords (addr : Nat) (l : List (Option Byte)) : List Nat :=
  let n := l.length
  let first := addr % 8
  let pad := List.replicate first (none : Option Byte) ++ l ++ List.replicate ((8 - (first + n) % 8) % 8) none
  let ws := chunks 8 ((first + n) / 8 + 1) pad
  (List.range ws.length).filter fun i => (ws.getD i []).any (·.isSome) && (ws.getD i []).any (·.isNone)

/-- The slice word of an inner-page address. -/
def innerWord (addr : Nat) : Nat := (addr % 2 ^ 44 - 0xC000000000) % 2 ^ 31 / 8

/-- Words of an inner page whose value the home's tracker keeps while an operation on their line is queued (R237). -/
def State.keepWords (s : State) (src : Src) (w n : Nat) : State :=
  if src.isHome then
    { s with home := { s.home with words := ((List.range n).filter fun i => s.wanted ((w + i) / 8)).foldl (fun l i => insNat (w + i) l) s.home.words } }
  else s

/-- INNER_PAGE_ACCESS: a request at an inner page is served, decoded word by word, the dirty bit set by a write; an uncorrectable
word gives a read the error value with 0x2205 and refuses a write that needs it (R143, R147, R152). A read decodes every word it covers,
a write those it changes in part, but for words whose value the home's tracker keeps (R237). -/
def innerPageAccess (q key : Nat) (ecc : Ecc) (s : State) : State :=
  match s.ins.reqs.find? fun r => r.key == key && quadOf r.addr == q with
  | none => s
  | some r =>
    let before := s.ins.reqs.takeWhile (·.key != key)
    let n := max r.len r.bytes.length
    if before.any fun x => decide (x.addr < r.addr + n) && decide (r.addr < x.addr + max x.len x.bytes.length) then s
    else
      let t := { s with ins := { s.ins with reqs := s.ins.reqs.filter (·.key != key) } }
      let reads := if !r.write || r.rmw.isSome then List.range ((r.addr % 8 + n + 7) / 8) else partWords r.addr r.bytes
      let line0 := r.addr % 2 ^ 44 / 8
      let kept (i : Nat) : Bool := r.src.isHome && s.home.words.contains (line0 + i)
      let reads := reads.filter fun i => !kept i
      let (t, bad) := if reads.isEmpty then (t, false) else t.insWords q (reads.map (innerWord r.addr + ·)) 6 ecc
      let t := if bad then t else t.keepWords r.src line0 ((r.addr % 8 + n + 7) / 8)
      let old := t.innerBytes r.addr n
      if bad then
        if r.write then t.lineDone r.src [] false 0x2205
        else match r.src with
          | .cart k => if s.judgedFirst (.cart k) then t.lineDone r.src [] false 0x2205
            else (t.keepOpt r.part r.ctx 0x2205 (lineObj (r.addr % 2 ^ 44 / 64) 0xFF)).lineDone r.src (errorValue n) true 0
          | _ => (t.keepOpt r.part r.ctx 0x2205 (lineObj (r.addr % 2 ^ 44 / 64) 0xFF)).lineDone r.src (errorValue n) true 0
      else if !r.write then t.lineDone r.src old false 0
      else match r.rmw with
        | some m =>
          let back : List Byte := match m with
            | .atomic b _ _ => old.take (atomicSize b)
            | _ => []
          (t.writeInner r.part r.addr ((rmwApply m 0 [] old).map some)).lineDone r.src back false 0
        | none => (t.writeInner r.part r.addr r.bytes).lineDone r.src [] false 0

/-- The share and the area (7: block-reserved) that a word of slice q lies in, with the word's byte offset in the area. -/
def State.wordArea (s : State) (q word : Nat) : Nat × Nat × Nat :=
  let o := word * 8
  if 3 * shareBytes ≤ o then (3 * q, 7, o - 3 * shareBytes)
  else
    let k := 3 * q + o / shareBytes
    let u := o % shareBytes
    match (List.range 7).find? fun a => decide ((s.area k a).1 * 2097152 ≤ u) && decide (u < ((s.area k a).1 + (s.area k a).2) * 2097152) with
    | some a => (k, a, u - (s.area k a).1 * 2097152)
    | none => (k, 8, 0)

/-- The target of a share's face-buffer byte. -/
def State.bufferTarget (s : State) (k off : Nat) : Option Nat :=
  (s.face.targets.find? fun (t, g) => g.state != .empty && t / 128 * 3 + g.share == k
    && decide (g.bufOff * 64 ≤ off)
    && decide (off < g.bufOff * 64 + (if g.op = 3 then g.units * 64 else g.units * elems g.fmt * 4))).map (·.1)

/-- An uncorrectable word of share k's cart decision log: one copy of a decision is lost, and when the other is too, the decision is, with
0x220A and the cart-indeterminate fault (Table 6.3). Which decision's copy it is, the layout does not tell (DESIGN CHOICE, log 9). -/
def State.decisionLost (s : State) (k p : Nat) : State :=
  let l := s.cart.log.filter fun d => d.share == k
  match l[Config.freeNat s.fresh % (l.length + 1)]? with
  | none => s.used
  | some d =>
    let t := s.used
    if d.bad = 0 then { t with cart := { t.cart with log := t.cart.log.map fun x => if x = d then { d with bad := 1 } else x } }
    else
      (({ t with cart := { t.cart with log := t.cart.log.erase d, indet := satInc t.cart.indet } }.toPart 0x220A p (.unit .slice (k / 3) 5))).toPart
        0xB804 p (.unit .slice (k / 3) 5)

/-- The consequence of an uncorrectable word that the scrubber found, by area (Table 6.3). A word of the block-reserved area lies in
the retained Lease copy or in a lost-page list, which the layout does not tell (DESIGN CHOICE, log 9). -/
def State.wordLost (s : State) (q word : Nat) : State :=
  let (k, a, o) := s.wordArea q word
  let p := s.stackOwner k
  match a with
  | 0 =>
    match s.seams.find? fun (_, e) => e.kind == .versioned && e.state != .empty && e.stack == k
        && decide (e.base * 64 ≤ o / 64) && decide (o / 64 < e.base * 64 + e.pages) with
    | some (n, e) => s.loseCounter k n (o / 64 - e.base * 64) (o % 64 / 8)
    | none => s.insUncorr q word 0
  | 1 =>
    let t := s.insUncorr q word 1
    if o / 16 < (s.shapeOf p).talCount then t.tallyLost ((s.shapeOf p).talBase + o / 16) else t
  | 2 =>
    let t := (s.insUncorr q word 2).toPart 0x2207 p (.unit .slice q a)
    match s.bufferTarget k o with
    | some g => t.modTarget g fun x => { x with flags := x.flags ||| fPoison }
    | none => t
  | 3 =>
    let g := (s.shapeOf p).wndBase + o / 1024
    if (s.shapeOf p).wndCount ≤ o / 1024 then s.insUncorr q word 3
    else
      let t := (s.insUncorr q word 3).toPart 0x2208 p (.unit .task g 0)
      if (s.task g).step = o % 1024 / 16 then t.haltTask g 0x2208 else t
  | 4 =>
    let t := (s.insUncorr q word 4).logged 0x2209 p (.unit .slice q a)
    match (bitsOf (s.shapeOf p).loggable)[o / 2097152]? with
    | none => t
    | some fn =>
      let bits := (List.range 64).map fun i => dirtyKey k fn (o % 2097152 * 8 + i)
      { t with ins := { t.ins with dirty := bits.foldl (fun l b => insNat b l) t.ins.dirty } }
  | 5 => (s.insUncorr q word 5).decisionLost k p
  | 6 => (s.insUncorr q word 6).logged 0x2205 p (.unit .slice q a)
  | 7 =>
    let t := ((s.insUncorr q word 7).logged 0x220B 0 (.unit .slice q a)).used
    if q = 0 ∧ Config.freeBit s.fresh then { t with ins := { t.ins with leaseOk := false } }
    else
      let k := 3 * q + Config.freeNat s.fresh % 3
      let all := (t.seams.filter fun (_, e) => e.kind == .versioned && e.counts && e.stack == k).map (·.1)
      t.modShaft k fun sh => { sh with lostAll := all.foldl (fun l n => insNat n l) sh.lostAll }
  | _ => s.insUncorr q word 7

/-- SCRUB_WORD_READ: the scrubber decodes a word (R148, R149, R152). -/
def scrubWordRead (q word : Nat) (ecc : Ecc) (s : State) : State :=
  let t := s.modSlice q fun e => { e with pos := BitVec.ofNat 10 (word * 8 / 2097152) }
  match ecc with
  | .clean => t
  | .corrected => t.insCorr q word (min 7 (s.wordArea q word).2.1)
  | .uncorr => t.wordLost q word

/-- SCRUB_PASS_END: words corrected at least three times are queued for row sparing, and the table is cleared (R149). -/
def scrubPassEnd (q : Nat) (s : State) : State :=
  let rows := ((s.slice q).table.filter fun e => decide (3 ≤ e.count)).map (·.word)
  let t := s.modSlice q fun e => { e with
    table := [], passes := satInc e.passes, pos := 0, queued := rows.foldl (fun l w => insNat w l) e.queued }
  if rows.isEmpty then t else { t with ins := { t.ins with irqStat := setBit t.ins.irqStat 2 } }

/-- What lies in a share cleared: the masked zeros of R146. Counter blocks of a transferred seam are kept. What the tally store, the
programs and the face buffers held is cleared where their users are (R365, R412). -/
def State.zeroShare (s : State) (k : Nat) : State :=
  let kept (key : Nat) : Bool := s.seams.any fun (_, e) => e.kind == .versioned && e.counts && e.stack == k
    && decide (cbKey e 0 ≤ key) && decide (key < cbKey e 0 + e.pages)
  let mine (a : Nat) : Bool := match innerShare a with
    | some (j, _) => j == k
    | none => false
  { s with ins := { s.ins with
    cb := s.ins.cb.filter fun (a, _) => a / 2 ^ 23 != k || kept a
    pages := s.ins.pages.filter fun (a, _) => !mine a
    dirty := s.ins.dirty.filter fun d => d / 2 ^ 29 != k
    zeroing := s.ins.zeroing.filter (· != k) }
           face := { s.face with stale := s.face.stale.filter (·.1 != k) }
           cart := { s.cart with log := s.cart.log.filter (·.share != k) } }

/-- A share's zeroing begins (R146). -/
def State.beginZero (s : State) (k : Nat) : State := { s with ins := { s.ins with zeroing := insNat k s.ins.zeroing } }

/-- SHARE_ZERO_DONE: the masked zeros over a share are written (R146). -/
def shareZeroDone (k : Nat) (s : State) : State := if s.ins.zeroing.contains k then s.zeroShare k else s

end Sys2Proof.Machine
end

