-- ==== Sys2Proof/Machine/Sites.lean ====
section
/-!
DEFINITION. Machine/Sites.lean: chiplet sites (07): bring-up (R176 to R179), frames in order (R173 to R175), request slots (R163 to R165),
credits (R171, R172), epochs (R178), quarantine and resets (R181 to R183).
-/

namespace Sys2Proof.Machine

/-! ### Site events and keys -/

/-- A bit of TS_IRQ_STATUS (Table 7.20). -/
def State.tsIrq (s : State) (t bit : Nat) : State := s.modSio t fun io => { io with irqStat := setBit io.irqStat bit }

/-- The OBJECT of a site's fault record (R186). -/
def siteObj (t : Nat) : Obj := .unit .site t 0

/-- Z and every link key of a site zeroised (R19, R182). -/
def State.zeroSite (s : State) (t : Nat) : State :=
  let x := s.site t
  (s.killSlots ([x.z, x.txK, x.rxK, x.rxPrev].filterMap id)).modSite t fun x =>
    { x with z := none, txK := none, rxK := none, rxPrev := none, th := [], transcript := [], step := 0 }

/-- The outstanding operations of a site abandoned: its requests run on with their results discarded, its carts show no result and its
fences end (R182, R183). -/
def State.abandonSite (s : State) (t : Nat) : State :=
  let mine (r : Req) : Req := if r.eng = .site t then { r with discarded := true } else r
  let hush (c : Cart) : Cart := if c.site = t then { c with quiet := true } else c
  let u := { s with
    req := { s.req with out := s.req.out.map mine, fences := s.req.fences.filter fun f => f.1 != Engine.site t }
    cart := { s.cart with carts := s.cart.carts.map hush } }
  u.modSio t fun io => { io with ops := [], rspBuf := [], kept := [] }

/-- A disabled site: its keys zeroised, the cause shown, the fault logged (Table 7.9, R176). -/
def State.disableSite (s : State) (t code : Nat) : State :=
  ((((s.zeroSite t).modSite t fun x => { x with state := .disabled, cause := code % 256 }).logged code (s.siteOwner t) (siteObj t)).tsIrq t 2)

/-- REJECT with its reason, and the site disabled (Table 7.7). -/
def State.rejectSite (s : State) (t code : Nat) : State := (s.boot t 4 (leBytes 2 code)).disableSite t code

/-! ### Request slots and their data (R163, Table 7.4) -/

/-- The 64-byte parts of data that an operation brings: one for a masked write, an atomic or a tally operation, LENGTH / 64 for a
write or vector, none otherwise (R163, R294). -/
def slotParts (opcode len : Nat) : Nat :=
  if opcode = 3 ∨ (atomicBase opcode).isSome ∨ (0x40 ≤ opcode ∧ opcode ≤ 0x42) then 1
  else if opcode = 2 ∨ (0x30 ≤ opcode ∧ opcode ≤ 0x32) then (lenBytes len + 63) / 64
  else 0

/-- An operation as a slot names it. The tally opcodes 0x40 to 0x42 become operations of KIND 0x3 (R294). -/
def slotOp (w : Block) (part : Nat) : Op :=
  let opcode := (w.extractLsb' 120 8).toNat
  let tal := decide (0x40 ≤ opcode) && decide (opcode ≤ 0x42)
  { kind := if tal then 3 else 0, opcode := if tal then opcode - 0x3F else opcode, len := (w.extractLsb' 112 8).toNat
    addr := (w.extractLsb' 0 52).toNat, part, ctx := some (w.extractLsb' 96 16), ordered := w.getLsbD 75, cart := w.getLsbD 74
    fmt := (w.extractLsb' 76 4).toNat }

/-- The operation of slot i of a REQ frame; a masked write's mask is in the next slot (R163). -/
def slotAt16 (part : Nat) (seq : Dword) (words : List Block) (i : Nat) : SlotOp :=
  let w := words.getD i 0
  let opcode := (w.extractLsb' 120 8).toNat
  { tag := (w.extractLsb' 80 16).toNat, seq, slot := i, op := slotOp w part, need := slotParts opcode (w.extractLsb' 112 8).toNat
    mask := if opcode = 3 then (words.getD (i + 1) 0).extractLsb' 64 64 else 0 }

/-- The byte-masked write, which uses the next slot too. -/
def SlotOp.masked (o : SlotOp) : Bool := o.op.kind == 0 && o.op.opcode == 3

/-- A slot that is misuse: a TAG above 4,095 or outstanding, or a mask that would lie in another frame (R163, R172). -/
def SlotOp.bad (o : SlotOp) (l : List SlotOp) : Bool := decide (4095 < o.tag) || l.any (·.tag == o.tag) || (o.masked && o.slot == 3)

/-- The four words of a REQ frame's payload. -/
def reqWords (payload : List Byte) : List Block := (chunks 16 4 payload).map fun b => BitVec.ofNat 128 (ofLe b)

/-- The operations of one REQ frame added to those outstanding, misused slots apart. -/
def addSlots (part : Nat) (f : RxFrame) (l : List SlotOp) : List SlotOp :=
  let go (x : List SlotOp × Bool) (i : Nat) : List SlotOp × Bool :=
    let o := slotAt16 part f.seq (reqWords f.payload) i
    if x.2 ∨ o.op.opcode = 0 ∧ o.op.kind = 0 ∨ o.bad x.1 then (x.1, false) else (x.1 ++ [o], o.masked)
  ((List.range 4).foldl go (l, false)).1

/-- A DATA frame's part given to its operation. -/
def SlotOp.give (o : SlotOp) (f : RxFrame) : SlotOp :=
  if o.tag = f.tag then { o with data := o.data ++ f.payload, op := { o.op with poison := o.op.poison || f.poison } } else o

/-- The operations outstanding once every accepted frame has been taken up. -/
def SiteIo.all (io : SiteIo) (part : Nat) : List SlotOp :=
  io.rx.foldl (fun l f => if f.kind = 1 then addSlots part f l else if f.kind = 2 then l.map fun o => o.give f else l) io.ops

/-- The writes and operands already verified, not yet issued, which complete after a quarantine (R182). -/
def SiteIo.verified (io : SiteIo) (part : Nat) : List SlotOp :=
  (io.all part).filter fun o => decide (o.need ≠ 0) && decide (o.need * 64 ≤ o.data.length) && !o.issued && !o.answered && !o.op.cart

/-! ### Quarantine and reset -/

/-- A site quarantined (R182): QUARANTINE when it was in RUN, keys zeroised, frames in flight discarded, a partition fault raised. Writes
and operands already verified stay to complete. -/
def State.quarantine (s : State) (t code : Nat) : State :=
  let u := if (s.site t).state = .run then s.ctrl t 0x18 (leBytes 2 code) else s
  let kept := (u.sIo t).kept ++ (u.sIo t).verified (u.siteOwner t)
  let u := ((u.zeroSite t).abandonSite t).modSio t fun io => { io with
    kept, sent := [], rx := [], rspHeld := 0, reqOut := 0, dataOut := 0, reqGot := 0, dataGot := 0, await_ := false, flush := false
    chunks := none }
  ((u.modSite t fun x => { x with state := .quarantined, cause := code % 256 }).tsIrq t 3).partFault code (s.siteOwner t) (siteObj t)

/-- FLUSH sent after a warm start or a partition reset: operations are abandoned, keys and SEQ counts kept; REQ and DATA frames not yet
taken up are discarded and their credits returned (R183). -/
def State.flushSite (s : State) (t : Nat) : State :=
  let n (k : Nat) : Nat := ((s.sIo t).rx.filter (·.kind == k)).length
  let u := (s.abandonSite t).modSio t fun io => { io with
    rx := io.rx.filter fun f => f.kind != 1 && f.kind != 2, reqGot := io.reqGot + n 1, dataGot := io.dataGot + n 2 }
  if (s.site t).state = .run ∨ (s.site t).state = .resync then (u.modSio t fun io => { io with flush := true }).ctrl t 0x15 [] else u

/-! ### Bring-up (R176, R177, R179) -/

/-- The hub's HELLO: unit ID, site number, protocol version 1 (DESIGN CHOICE, log 30). -/
def helloBytes (unitId : Dword) (t : Nat) : List Byte := leBytes 8 unitId.toNat ++ [BitVec.ofNat 8 t, 1]

/-- Bring-up starts at step 1: HELLO is sent (Table 7.7). -/
def State.startSite (s : State) (t : Nat) : State :=
  let h := helloBytes s.fuse.unitId t
  (s.modSite t fun x =>
    { x with state := .boot, step := 1, transcript := h, nonce := 0, cause := 0, linkUp := true }).boot t 1 h

/-- A chunk of a bootstrap message is taken in order; chunk 0 begins a message anew (R176). -/
def State.takeChunk (s : State) (t code idx : Nat) (last : Bool) (b : List Byte) : State :=
  s.modSio t fun io => { io with
    chunks := match io.chunks with
      | some (c, l, false) => if idx = 0 then some (code, b, last) else if c = code ∧ idx * 64 = l.length then some (c, l ++ b, last) else none
      | _ => if idx = 0 then some (code, b, last) else none }

/-- A whole bootstrap message of a code, which opens with the given bytes, is taken up. -/
def State.takeBoot (s : State) (t code : Nat) (b : List Byte) : Option State :=
  match (s.sIo t).chunks with
  | some (c, l, true) => if c = code ∧ b.isPrefixOf l then some (s.modSio t fun io => { io with chunks := none }) else none
  | _ => none

/-- SITE_LINK_UP: bring-up from a down site, RESYNC from a resynchronising one; a negotiated configuration outside Table 7.1 is logged
with 0x400B and the site is not brought up (R157, R175, R176). -/
def siteLinkUp (t : Nat) (cfgOk : Bool) (s : State) : State :=
  if 8 ≤ t ∨ (s.site t).linkUp then s
  else if !cfgOk then s.logged 0x400B (s.siteOwner t) (siteObj t)
  else match (s.site t).state with
    | .down => s.startSite t
    | .resync => (s.modSite t fun x => { x with linkUp := true }).ctrl t 0x13 (leBytes 8 (s.site t).rxSeq.toNat)
    | _ => s.modSite t fun x => { x with linkUp := true }

/-- SITE_LINK_DOWN: a site in RUN enters resynchronisation (R158, R175). -/
def siteLinkDown (t : Nat) (s : State) : State :=
  let u := s.modSite t fun x => { x with linkUp := false }
  if 8 ≤ t ∨ !(s.site t).linkUp then s
  else if (s.site t).state = .run then
    ((u.modSite t fun x => { x with state := .resync }).modSio t fun io => { io with resync := satInc io.resync }).tsIrq t 1
  else u

/-- The descriptors that a HELLO can match: maker code, part, revision, and the site in the mask (R179). -/
def Descriptor.hello (d : Descriptor) (t : Nat) (maker part rev : BitVec 16) : Bool :=
  d.maker == maker && d.part == part && d.rev == rev && d.sites.getLsbD t

/-- Bytes that the public-key engine chooses, as an ephemeral key: free values (DESIGN CHOICE, log 9). -/
def State.freeBytes (s : State) (n : Nat) : List Byte := (List.range n).map (Config.freeByte s.fresh)

/-- The shim's HELLO at step 1: REJECT when no listed descriptor can match, else CHALLENGE with its nonce and ephemeral keys
(Table 7.7, R177); with the DRBG stopped the site stays in bootstrap (R385). -/
def State.siteHello (s : State) (t : Nat) (h : ShimHello) : State :=
  let s := s.modSite t fun x => { x with maker := h.maker, part := h.part, rev := h.rev }
  if h.credits < 16 ∨ 4095 < h.credits then s
  else if h.version ≠ 1 ∨ !(s.lease.descriptors.any fun d => d.hello t h.maker h.part h.rev) then s.rejectSite t 0x4006
  else
    let nonce : BitVec 256 := s.rand.setWidth 256
    let c := leBytes 32 nonce.toNat ++ s.used.freeBytes (1568 + 97)
    let u := (s.used.used.modSio t fun io => { io with rspHeld := h.credits }).modSite t fun x =>
      { x with nonce, step := 3, transcript := x.transcript ++ h.bytes ++ c }
    s.withDrbg (u.boot t 2 c)

/-- CTRL_HELLO: the shim's HELLO has come, whole. It is step 1 of bring-up, or in RUN and resync a chiplet reset: keys zeroised, the
contexts with an operation outstanding lost with 0x400A, and bring-up run again (R183). -/
def ctrlHello (t : Nat) (h : ShimHello) (s : State) : State :=
  match s.takeBoot t 1 h.bytes with
  | none => s
  | some s =>
  match (s.site t).state with
  | .boot => if (s.site t).step = 1 then s.siteHello t h else s
  | .run | .resync =>
    let ctxs := (((s.sIo t).all (s.siteOwner t)).filterMap fun o => o.op.ctx).eraseDups
    let u := (s.zeroSite t).abandonSite t
    let u := ctxs.foldl (fun s c => s.loseCtx (s.siteOwner t) c 0x400A (siteObj t)) u
    let u := u.modSio t fun io => { io with
      sent := [], rx := [], reqOut := 0, dataOut := 0, reqGot := 0, dataGot := 0, await_ := false, flush := false, rspHeld := 0 }
    (u.startSite t).siteHello t h
  | _ => s

/-- The first descriptor that a RESPONSE matches, and its index (R179). -/
def State.descOf (s : State) (t : Nat) (r : ShimResponse) : Option (Nat × Descriptor) :=
  let x := s.site t
  ((List.range 16).zip s.lease.descriptors).find? fun (_, d) =>
    d.hello t x.maker x.part x.rev && d.endorser == r.endorser && d.measurement == r.measurement && decide (d.minSvn.toNat ≤ r.svn.toNat)

/-- CTRL_RESPONSE: the evidence is judged, and the hub sends KEY_CONFIRM under fresh keys, or REJECT (R176, R177, R179). With no free
vault slot the site stays in bootstrap. -/
def ctrlResponse (t : Nat) (r : ShimResponse) (s : State) : State :=
  let x := s.site t
  if x.state ≠ .boot ∨ x.step ≠ 3 then s
  else match s.takeBoot t 3 r.bytes with
  | none => s
  | some s =>
  let s := s.modSite t fun x => { x with svn := r.svn }
  match s.descOf t r with
    | none => s.rejectSite t 0x4007
    | some (i, _) =>
      if !r.chainOk || !r.sigsOk || r.nonceEcho != x.nonce then s.rejectSite t 0x4007
      else
        let th := kmac256 (ascii "TOLONE") (x.transcript ++ r.bytes) 64 "TOLONE-TRANSCRIPT"
        let z := kmac256 (r.ssKem ++ r.ssEcdh) th 32 "TOLONE-LINK-SECRET"
        match s.putLink 0 (BitVec.ofNat 512 (ofLe z)) with
        | none => s
        | some (nz, u) =>
          match u.putLink 0 (linkKey z "H2C" 0) with
          | none => s
          | some (nt, u) =>
            match u.putLink 0 (linkKey z "C2H" 0) with
            | none => s
            | some (nr, u) =>
              let u := u.modSite t fun x => { x with
                step := 6, th, z := some nz, txK := some nt, rxK := some nr, rxPrev := none, txEp := 0, rxEp := 0, rxCount := 0
                txSeq := 0, rxSeq := 0, txBase := 0, desc := i, unitId := r.unitId, measurement := r.measurement }
              let u := u.modSio t fun io => { io with reqOut := 256, dataOut := 512, sent := [] }
              u.ctrl t 5 (leBytes 2 256 ++ leBytes 2 512 ++ th.take 32)

/-! ### Receiving frames (R160 to R162, R167, R173) -/

/-- The SEQ a header names: the value in [expected − 32,768, expected + 32,767] with those low 16 bits (R162). -/
def fullSeq (expected : Dword) (low : BitVec 16) : Int :=
  let d := (low - expected.setWidth 16).toInt
  (expected.toNat : Int) + d

/-- The key slot that a received PHASE names: the epoch in force, or the one before while it is kept (R178). -/
def Site.rxKeyOf (x : Site) (phase : Nat) : Option Nat :=
  if phase = x.rxEp.toNat % 4 then x.rxK
  else if x.rxEp ≠ 0 ∧ phase = (x.rxEp - 1).toNat % 4 then x.rxPrev
  else none

/-- Credits returned by a frame: the response class (R171). -/
def State.gainCredits (s : State) (t n : Nat) : State := s.modSio t fun io => { io with rspHeld := min 4095 (io.rspHeld + n) }

/-- Responses held for want of a credit are sent, oldest first (R172). -/
def State.drainRsp (s : State) (t : Nat) : State :=
  (List.range (s.sIo t).rspBuf.length).foldl (fun s _ =>
    match (s.sIo t).rspBuf with
    | [] => s
    | f :: r =>
      if (s.sIo t).rspHeld = 0 ∨ (s.site t).state ≠ .run then s
      else (s.modSio t fun io => { io with rspBuf := r }).sendRsp t f) s

/-- Credits of consumed frames go back with the next frames; once 32 wait, in a CREDIT message (R171, DESIGN CHOICE, log 31). -/
def State.returnCredits (s : State) (t : Nat) : State :=
  let io := s.sIo t
  if io.reqGot + io.dataGot < 32 ∨ (s.site t).state ≠ .run then s
  else
    let u := s.modSio t fun io => { io with
      reqOut := io.reqOut + io.reqGot, dataOut := io.dataOut + io.dataGot, reqGot := 0, dataGot := 0 }
    u.ctrl t 0x10 (leBytes 2 io.reqGot ++ leBytes 2 0 ++ leBytes 2 io.dataGot)

/-- A received frame failed at the expected SEQ: on the first failure logged and replay asked for; on its retransmission the site is
quarantined (R173, R174). -/
def State.frameFailed (s : State) (t : Nat) : State :=
  let u := (s.modSio t fun io => { io with macFail := satInc io.macFail }).bump 0x15 t 1
  if (s.sIo t).await_ then u.quarantine t 0x4002
  else
    let u := (u.modSio t fun io => { io with await_ := true, replay := satInc io.replay }).bump 0x15 t 1
    (u.logged 0x4001 (s.siteOwner t) (siteObj t)).ctrl t 0x11 (leBytes 8 (s.site t).rxSeq.toNat)

/-- An accepted frame: counted, its credits taken, its payload deciphered and kept for its own event. A kind that may not come this
way, or a REQ or DATA frame without credit, quarantines the site; while FLUSH is unanswered REQ and DATA are discarded and their
credits returned. Frames of the epoch in force are counted, and 2,048 of them end the one before (R161, R171 to R173, R178, R183). -/
def State.acceptFrame (s : State) (t : Nat) (hd : Dword) (plain : List Byte) : State :=
  let kind := (hd.extractLsb' 60 4).toNat
  let now := (hd.extractLsb' 58 2).toNat == (s.site t).rxEp.toNat % 4
  let u := (s.modSite t fun x => { x with rxSeq := x.rxSeq + 1, rxCount := if now then x.rxCount + 1 else x.rxCount }).bump 0x07 t 1
  let u := if 2048 ≤ (u.site t).rxCount then
      (u.killSlots (u.site t).rxPrev.toList).modSite t fun x => { x with rxPrev := none }
    else u
  let u := u.modSio t fun io => { io with await_ := false }
  let u := if (hd.extractLsb' 14 2).toNat = 2 then (u.gainCredits t (hd.extractLsb' 8 6).toNat).drainRsp t else u
  let f : RxFrame := { kind, tag := (hd.extractLsb' 24 16).toNat, part := (hd.extractLsb' 56 2).toNat, poison := hd.getLsbD 0
                       seq := (s.site t).rxSeq, payload := plain }
  let put (u : State) : State := u.modSio t fun io => { io with rx := io.rx ++ [f] }
  let io := u.sIo t
  if kind = 1 then
    if io.reqOut = 0 then u.quarantine t 0x4005
    else if io.flush then (u.modSio t fun io => { io with reqOut := io.reqOut - 1, reqGot := io.reqGot + 1 }).returnCredits t
    else put (u.modSio t fun io => { io with reqOut := io.reqOut - 1 })
  else if kind = 2 then
    if io.dataOut = 0 then u.quarantine t 0x4005
    else if io.flush then (u.modSio t fun io => { io with dataOut := io.dataOut - 1, dataGot := io.dataGot + 1 }).returnCredits t
    else put (u.modSio t fun io => { io with dataOut := io.dataOut - 1 })
  else if kind = 5 then put u
  else u.quarantine t 0x4005

/-- The MAC of a received frame under a key slot. -/
def State.rxMac (s : State) (slot : Nat) (seq : Dword) (header wire : List Byte) : Dword :=
  frameMac (s.keyBytes slot) (s.hashKey slot) header wire (linkBlock seq true false 0 0)

/-- FRAME_RECEIVE: an empty frame is ignored, a clear bootstrap frame is a chunk of its message, a stale one counted, and any other
accepted in SEQ order under its MAC (R160, R173, R176). A RESYNC is acted on out of order while its site resynchronises (DEDUCED, log 32). -/
def frameReceive (t : Nat) (frame : List Byte) (s : State) : State :=
  let x := s.site t
  let hdB := frame.take 8
  let hd : Dword := BitVec.ofNat 64 (ofLe hdB)
  let wire := (frame.drop 8).take 64
  let mac : Dword := BitVec.ofNat 64 (ofLe (frame.drop 72).reverse)
  let kind := (hd.extractLsb' 60 4).toNat
  let code := (hd.extractLsb' 32 8).toNat
  if frame.length ≠ 80 ∨ 8 ≤ t ∨ kind = 0 then s
  else if x.state = .disabled ∨ x.state = .quarantined then s.modSio t fun io => { io with stale := satInc io.stale }
  else if !x.linkUp then s
  else if kind = 5 ∧ mac = 0 ∧ (code = 1 ∨ code = 3) then s.takeChunk t code (hd.extractLsb' 40 16).toNat (hd.getLsbD 16) wire
  else if x.rxK = none then s
  else
    let full := fullSeq x.rxSeq (hd.extractLsb' 40 16)
    let slot := x.rxKeyOf (hd.extractLsb' 58 2).toNat
    let good (n : Nat) (seq : Dword) : Bool := s.rxMac n seq hdB wire == mac
    let plain (n : Nat) (seq : Dword) : List Byte := xorBytes wire (linkPad (s.keyBytes n) (linkBlock seq true false 0 0))
    if full < (x.rxSeq.toNat : Int) then s.modSio t fun io => { io with stale := satInc io.stale }
    else
      let seq : Dword := BitVec.ofNat 64 full.toNat
      if seq = x.rxSeq then
        match slot with
        | some n => if good n seq then s.acceptFrame t hd (plain n seq) else s.frameFailed t
        | none => s.frameFailed t
      else
        match slot with
        | some n =>
          if x.state = .resync ∧ kind = 5 ∧ code = 0x13 ∧ good n seq then
            let f : RxFrame := { kind, tag := (hd.extractLsb' 24 16).toNat, seq, payload := plain n seq }
            s.modSio t fun io => { io with rx := io.rx ++ [f] }
          else if (s.sIo t).await_ then s else s.frameFailed t
        | none => if (s.sIo t).await_ then s else s.frameFailed t

/-- The oldest accepted frame that satisfies a test, and the state without it. -/
def State.takeRx (s : State) (t : Nat) (p : RxFrame → Bool) : Option (RxFrame × State) :=
  ((s.sIo t).rx.find? p).map fun f => (f, s.modSio t fun io => { io with rx := io.rx.erase f })

/-- The oldest accepted CTRL message of a code. -/
def State.takeCtrl (s : State) (t code : Nat) : Option (RxFrame × State) := s.takeRx t fun f => f.kind == 5 && f.tag / 256 == code

/-! ### Requests taken up (R163) -/

/-- One slot of a REQ frame taken up, unless the masked write before it has used it. A masked write takes the mask from the next slot,
which must lie in the same frame; a TAG above 4,095 or outstanding is misuse, and the site is quarantined (R163, R172). The flag
says that the next slot is used. -/
def State.takeSlot (t : Nat) (seq : Dword) (words : List Block) (x : State × Bool) (i : Nat) : State × Bool :=
  let (s, skip) := x
  let o := slotAt16 (s.siteOwner t) seq words i
  if (s.site t).state ≠ .run ∨ skip ∨ o.op.opcode = 0 ∧ o.op.kind = 0 then (s, false)
  else if o.bad (s.sIo t).ops then (s.quarantine t 0x4005, false)
  else (s.modSio t fun io => { io with ops := io.ops ++ [o], high := max io.high (io.ops.length + 1) }, o.masked)

/-- REQ_FRAME: the oldest accepted REQ frame hands over its four slots, and its credit may go back (R163, R171). -/
def reqFrame (t : Nat) (s : State) : State :=
  if (s.site t).state ≠ .run then s
  else match s.takeRx t (fun f => f.kind == 1) with
    | none => s
    | some (f, u) =>
      let u := u.modSio t fun io => { io with reqGot := io.reqGot + 1 }
      ((List.range 4).foldl (State.takeSlot t f.seq (reqWords f.payload)) (u, false)).1.returnCredits t

/-- The oldest accepted DATA frame supplies the next part of its operation; a TAG with no data outstanding, or a part out of order,
quarantines the site (R163, R172). -/
def dataFrame (t : Nat) (s : State) : State :=
  if (s.site t).state ≠ .run then s
  else match s.takeRx t (fun f => f.kind == 2) with
    | none => s
    | some (f, u) =>
      let u := u.modSio t fun io => { io with dataGot := io.dataGot + 1 }
      match (u.sIo t).ops.find? (·.tag == f.tag) with
      | none => u.quarantine t 0x4005
      | some o =>
        if o.need * 64 ≤ o.data.length ∨ f.part * 64 ≠ o.data.length then u.quarantine t 0x4005
        else (u.modSio t fun io => { io with ops := io.ops.map fun o => o.give f }).returnCredits t

/-! ### Issuing a slot (R225) -/

/-- A slot operation rewritten. -/
def State.modOp (s : State) (t tag : Nat) (f : SlotOp → SlotOp) : State :=
  s.modSio t fun io => { io with ops := io.ops.map fun o => if o.tag = tag then f o else o }

/-- The operation of a slot with its payload: mask and data of a masked write, LENGTH bytes of any other (Tables 9.2, 9.4). -/
def SlotOp.whole (o : SlotOp) : Op :=
  if o.op.kind = 0 ∧ o.op.opcode = 3 then { o.op with payload := leBytes 8 o.mask.toNat ++ o.data }
  else { o.op with payload := o.data.take (lenBytes o.op.len) }

/-- A slot operation ends at the site, refused or with its context lost, and is remembered for the next FENCE (R164, R170, R234). -/
def State.endSlot (s : State) (t : Nat) (o : SlotOp) (status : Nat) : State :=
  let s := if status = 0 then s else s.markFailed (.site t) (s.siteOwner t) o.op.ctx
  if o.op.returns then s.rsp t o status (status != 0) (errorValue (max 64 o.op.answerBytes)) else s.cmpl t o.tag status

/-- The opcodes that a slot may name (Table 9.2, R234, R244, R294). -/
def Op.known (o : Op) : Bool :=
  o.kind == 3 || o.opcode == 1 || o.opcode == 2 || o.opcode == 3 || (atomicBase o.opcode).isSome || o.isVector
    || o.opcode == 0x38 || o.opcode == 0x3C

/-- An operation that a cart may hold (R244). -/
def Op.cartable (o : Op) : Bool :=
  o.kind == 0 && ((o.opcode == 1 || o.opcode == 2) && o.len == 4 || o.opcode == 3 || decide (0x10 ≤ o.opcode) && decide (o.opcode ≤ 0x21))

/-- A slot with CART joins its context's cart, opening it when it is the first; a breach of R244 fails the cart with 0xB805: a member of
another shape or, on this node, outside the partition, too many members or homes, a cart of the context open at another site. -/
def State.joinCart (s : State) (t : Nat) (o : SlotOp) (ctx : BitVec 16) : State :=
  let op := o.whole
  let m : CartMember := { tag := o.tag, op, node := nodeOf op.addr, q := quadOf op.addr }
  let u := s.modOp t o.tag fun x => { x with issued := true }
  let bad := !op.cartable || (m.node == s.lse.node && s.placeCheck op != 0)
  match s.cart.carts.find? fun c => c.site == t && c.ctx == ctx && (c.phase == .opened || c.phase == .failed) with
  | some c =>
    let c' := { c with members := c.members ++ [m] }
    if c.phase = .failed then u.endSlot t o 1
    else if bad ∨ 16 < c'.members.length ∨ 4 < c'.homes.length then (u.modCart c.id fun _ => c').failCart c' 0xB805
    else u.modCart c.id fun _ => c'
  | none =>
    let c : Cart := { id := s.cart.nextId % 65536, site := t, part := s.siteOwner t, ctx, members := [m] }
    let open_ := (s.cart.carts.filter fun x => x.site == t && x.phase == .opened).length
    let u := { u with cart := { u.cart with carts := u.cart.carts ++ [c], nextId := (u.cart.nextId + 1) % 65536 } }
    let other := s.cart.carts.any fun x => x.part == s.siteOwner t && x.ctx == ctx && x.phase == .opened
    if bad ∨ other ∨ 64 ≤ open_ ∨ !(s.shapeOf (s.siteOwner t)).carts then u.failCart c 0xB805 else u

/-- A CART_END slot closes its context's cart; one that failed ends with STATUS 0x01, as does a CART_END without a cart (R244). -/
def State.endCart (s : State) (t : Nat) (o : SlotOp) (ctx : BitVec 16) : State :=
  let u := s.modOp t o.tag fun x => { x with issued := true }
  match s.cart.carts.find? fun c => c.site == t && c.ctx == ctx && (c.phase == .opened || c.phase == .failed) with
  | some c =>
    if c.phase = .failed then
      { u with cart := { u.cart with carts := u.cart.carts.filter (·.id != c.id) } }.endSlot t o 1
    else u.modCart c.id fun c => { c with phase := .closing, endTag := some o.tag }
  | none => (u.opFault (s.siteOwner t) (some ctx) 0xB805 (siteObj t)).endSlot t o 1

/-- A slot may be issued: its data is complete, no FENCE of its context waits before it, earlier ORDERED operations of its context are
issued before an ORDERED one, and everything earlier of its context before a FENCE, a signal or CART_END (R163, R233, R234, R291). -/
def SlotOp.ready (o : SlotOp) (l : List SlotOp) : Bool :=
  let before := (l.takeWhile fun x => x.tag != o.tag).filter fun x => x.op.ctx == o.op.ctx
  let all := o.op.opcode == 0x38 || o.op.opcode == 0x3C || (o.op.kind == 3 && o.op.opcode != 3)
  !o.issued && !o.answered && decide (o.need * 64 ≤ o.data.length)
    && before.all fun x => x.answered || !(x.op.kind == 0 && x.op.opcode == 0x38)
      && (x.issued || !(all || (o.op.ordered && x.op.ordered) || (o.op.cart && x.op.cart)))

/-- A verified write or operand that outlived its site's quarantine is performed, its result discarded (R182). -/
def State.issueKept (s : State) (t : Nat) (o : SlotOp) : State :=
  let part := s.siteOwner t
  let op := o.whole
  let u := s.modSio t fun io => { io with kept := io.kept.erase o }
  if !o.ready (s.sIo t).kept then s
  else if !s.ctxOk part (op.ctx.getD 0) then u.stale part
  else if !op.known then u.opFault part op.ctx 0x3403 (siteObj t)
  else if op.kind = 0 ∧ nodeOf op.addr = s.lse.node ∧ s.placeCheck op = 0x3401 then u.opFault part op.ctx 0x4009 (siteObj t)
  else match u.issueReq (.site t) op o.tag o.seq (op.kind == 3 && op.opcode != 3) with
    | none => s
    | some v =>
      let gone (r : Req) : Req := if r.eng = .site t ∧ r.extTag = o.tag ∧ r.seq = o.seq then { r with discarded := true } else r
      { v with req := { v.req with out := v.req.out.map gone } }

/-- SITE_SLOT_ISSUE: a slot whose data is complete is performed (R225): refused for a context that is not ACTIVE (R354) and for memory
of this node outside the owning partition (R165), taken into its context's cart, held as a FENCE or a signal, or issued. With no free
TAG, or no room for its answer in the response buffer, it waits (R172, R226). What a quarantine left to complete goes first (R182). -/
def siteSlotIssue (t : Nat) (tag : Nat) (s : State) : State :=
  let part := s.siteOwner t
  match (s.sIo t).kept.find? (·.tag == tag) with
  | some o => s.issueKept t o
  | none =>
  match (s.sIo t).ops.find? (·.tag == tag) with
  | none => s
  | some o =>
    let op := o.whole
    let ctx := op.ctx.getD 0
    if (s.site t).state ≠ .run ∨ !o.ready (s.sIo t).ops ∨ !s.rspRoom t (rspParts op.answerBytes) then s
    else if !s.ctxOk part ctx then (s.stale part).endSlot t o 2
    else if !op.known then (s.opFault part op.ctx 0x3403 (siteObj t)).endSlot t o 1
    else if op.kind = 0 ∧ op.opcode = 0x38 then
      let u := s.modOp t tag fun x => { x with issued := true }
      { u with req := { u.req with fences := u.req.fences ++ [(.site t, part, ctx, tag)] } }
    else if op.kind = 0 ∧ op.opcode = 0x3C then s.endCart t o ctx
    else if op.cart then s.joinCart t o ctx
    else if op.kind = 0 ∧ nodeOf op.addr = s.lse.node ∧ s.placeCheck op = 0x3401 then
      (s.opFault part op.ctx 0x4009 (siteObj t)).endSlot t o 1
    else
      let u := s.modOp t tag fun x => { x with issued := true }
      match u.issueReq (.site t) op tag o.seq (op.kind == 3 && op.opcode != 3) with
      | none => s
      | some v => if op.posted ∧ nodeOf op.addr = s.lse.node then v.cmpl t tag (v.opStatus part op.ctx true 0 false) else v

/-! ### CTRL messages (Table 7.6) -/

/-- CTRL_KEY_CONFIRM: the shim's KEY_CONFIRM matches bytes 0 to 31 of TH, and the site enters RUN; otherwise attestation has failed
(Table 7.7, R177). -/
def ctrlKeyConfirm (t : Nat) (s : State) : State :=
  let x := s.site t
  if x.state ≠ .boot ∨ x.step ≠ 6 then s
  else match s.takeCtrl t 5 with
    | none => s
    | some (f, u) =>
      if f.payload.take 32 = x.th.take 32 then (u.modSite t fun x => { x with state := .run, step := 7 }).tsIrq t 0
      else u.rejectSite t 0x4007

/-- CTRL_CREDIT: credits per class, of which the hub uses the response class (R171). -/
def ctrlCredit (t : Nat) (s : State) : State :=
  match s.takeCtrl t 0x10 with
  | none => s
  | some (f, u) => (u.gainCredits t (ofLe ((f.payload.drop 2).take 2))).drainRsp t

/-- Every retained frame from a SEQ on sent again, byte for byte; none while the link is down (R174, R175). -/
def State.resend (s : State) (t : Nat) (seq : Dword) : State :=
  if !(s.site t).linkUp then s
  else (((s.sIo t).sent.filter fun f => decide (seq.toNat ≤ f.seq.toNat)).reverse).foldl (fun s f => s.putFrame t f.bytes) s

/-- The frames from a SEQ on are still retained; the next SEQ to be sent needs none. -/
def State.retained (s : State) (t : Nat) (seq : Dword) : Bool :=
  seq == (s.site t).txSeq || (s.sIo t).sent.any (·.seq == seq)

/-- CTRL_REPLAY: the hub retransmits from the named SEQ, or answers REPLAY_LOST and quarantines the site (R174). -/
def ctrlReplay (t : Nat) (s : State) : State :=
  match s.takeCtrl t 0x11 with
  | none => s
  | some (f, u) =>
    let seq : Dword := BitVec.ofNat 64 (ofLe (f.payload.take 8))
    if u.retained t seq then (u.modSio t fun io => { io with replaySent := satInc io.replaySent }).resend t seq
    else (u.ctrl t 0x12 (leBytes 8 seq.toNat)).quarantine t 0x4003

/-- CTRL_REPLAY_LOST (R174). -/
def ctrlReplayLost (t : Nat) (s : State) : State :=
  match s.takeCtrl t 0x12 with
  | none => s
  | some (_, u) => u.quarantine t 0x4003

/-- CTRL_REPLAY_FAILED (R174). -/
def ctrlReplayFailed (t : Nat) (s : State) : State :=
  match s.takeCtrl t 0x19 with
  | none => s
  | some (_, u) => u.quarantine t 0x4002

/-- CTRL_RESYNC: the hub retransmits from the named SEQ and the site is in RUN again; in RUN it has been acted on already, and with the
link down again the next link up brings another (R175). -/
def ctrlResync (t : Nat) (s : State) : State :=
  match s.takeCtrl t 0x13 with
  | none => s
  | some (f, u) =>
    let seq : Dword := BitVec.ofNat 64 (ofLe (f.payload.take 8))
    if (s.site t).state ≠ .resync ∨ !(s.site t).linkUp then u
    else if u.retained t seq then (((u.modSite t fun x => { x with state := .run }).tsIrq t 0).resend t seq).drainRsp t
    else (u.ctrl t 0x12 (leBytes 8 seq.toNat)).quarantine t 0x4003

/-- The receiving direction advances: the old keys are kept, older ones zeroised (R178). -/
def State.advanceRx (s : State) (t : Nat) : State :=
  let x := s.site t
  match s.putLink ((x.rxEp + 1).setWidth 16) (linkKey (s.keyBytes (x.z.getD 0)) "C2H" (x.rxEp + 1)) with
  | none => s
  | some (n, u) =>
    let u := (u.killSlots x.rxPrev.toList).retireSlot (x.rxK.getD 0)
    u.modSite t fun y => { y with rxPrev := x.rxK, rxK := some n, rxEp := x.rxEp + 1, rxCount := 0 }

/-- CTRL_REKEY: the shim's direction advances to the epoch it names; the epoch already in force under TS_CMD REKEY stands (R178). -/
def ctrlRekey (t : Nat) (s : State) : State :=
  match s.takeCtrl t 0x14 with
  | none => s
  | some (f, u) =>
    let e : BitVec 32 := BitVec.ofNat 32 (ofLe (f.payload.take 4))
    if e = (s.site t).rxEp + 1 then u.advanceRx t
    else if e = (s.site t).rxEp then u
    else u.quarantine t 0x4005

/-- CTRL_FLUSH_DONE: REQ and DATA frames are taken again (R183). -/
def ctrlFlushDone (t : Nat) (s : State) : State :=
  match s.takeCtrl t 0x16 with
  | none => s
  | some (_, u) => u.modSio t fun io => { io with flush := false }

/-- BRINGUP_TIMEOUT: bring-up is not complete 50 ms after link up (R176). -/
def bringupTimeout (t : Nat) (s : State) : State := if (s.site t).state = .boot then s.disableSite t 0x4008 else s

/-- RESYNC_TIMEOUT: the link is not up again 10 ms after link down (R175). -/
def resyncTimeout (t : Nat) (s : State) : State :=
  if (s.site t).state = .resync ∧ !(s.site t).linkUp then s.quarantine t 0x4004 else s

/-! ### TS_CMD (R187, Table 7.14) -/

/-- An aperture that holds the operator's registers: operator and Lamp-private (R187). -/
def opAp : Aperture → Bool
  | .operator => true
  | .lamp => true
  | _ => false

/-- TS_CMD completes with a code. -/
def State.tsEnd (s : State) (t code : Nat) : State := s.modSio t fun io => { io with cmdBusy := false, cmdDone := true, cmdCode := code }

/-- TS_CMD RESTART: a disabled or quarantined site is brought up at the next link up (Table 7.14). -/
def tsRestart (ap : Aperture) (t : Nat) (s : State) : State :=
  if !opAp ap ∨ 8 ≤ t then s
  else if (s.site t).state = .disabled ∨ (s.site t).state = .quarantined then
    (s.modSite t fun x => { x with state := .down, cause := 0 }).tsEnd t 0
  else s.tsEnd t 2

/-- TS_CMD REKEY: in RUN, both epochs advance (R178). -/
def tsRekey (ap : Aperture) (t : Nat) (s : State) : State :=
  if !opAp ap ∨ 8 ≤ t then s
  else if (s.site t).state = .run then ((s.advanceTx t).advanceRx t).tsEnd t 0
  else s.tsEnd t 2

end Sys2Proof.Machine
end

