-- ==== Sys2Proof/Machine/Ports.lean ====
section
/-!
DEFINITION. Machine/Ports.lean: fabric ports (08): codewords and framing (R189 to R195), transit and broadcast (R206 to R208), delivery
and verdict (R199 to R203), slots (R209), HELLO, ANNOUNCE and disputes (R212 to R214), route failures (R207) and TIME_SYNC (R414).
-/

namespace Sys2Proof.Machine

/-! ### Packet headers (Table 8.3) -/

/-- KIND. -/
def hKind (w : Block) : Nat := (w.extractLsb' 120 4).toNat
/-- OPCODE. -/
def hOp (w : Block) : Nat := (w.extractLsb' 112 8).toNat
/-- DST. -/
def hDst (w : Block) : Nat := (w.extractLsb' 104 8).toNat
/-- SRC. -/
def hSrc (w : Block) : Nat := (w.extractLsb' 96 8).toNat
/-- PART. -/
def hPart (w : Block) : Nat := (w.extractLsb' 93 3).toNat
/-- VL. -/
def hVl (w : Block) : Nat := (w.extractLsb' 91 2).toNat
/-- TAG. -/
def hTag (w : Block) : Nat := (w.extractLsb' 72 16).toNat
/-- ADDR. -/
def hAddr (w : Block) : Nat := (w.extractLsb' 28 44).toNat
/-- LENGTH. -/
def hLen (w : Block) : Nat := (w.extractLsb' 20 8).toNat
/-- HOPS. -/
def hHops (w : Block) : Nat := (w.extractLsb' 14 2).toNat

/-- Length codes of line data. -/
def lineLen (l : Nat) : Bool := l == 4 || l == 5 || l == 6

/-- The payload length of a packet, none when opcode or length code is unknown (R195, R211, R228). -/
def payloadLen (kind op len : Nat) : Option Nat :=
  let ok (b : Bool) (n : Nat) : Option Nat := if b then some n else none
  match kind with
  | 0 =>
    if op = 1 then ok (lineLen len) 0
    else if op = 2 ∨ (0x30 ≤ op ∧ op ≤ 0x32) then ok (lineLen len) (lenBytes len)
    else if op = 3 then ok (len == 7) 72
    else match atomicBase op with
      | some b => ok (len == atomicLen b) (lenBytes len)
      | none => none
  | 1 =>
    if op = 1 then ok (lineLen len) (lenBytes len)
    else if op = 2 then ok (len == 0) 0
    else if op = 3 then ok (len == 1 || len == 2) (lenBytes len)
    else ok ((op == 4 || op == 5) && len == 1) 8
  | 2 => ok ((decide (1 ≤ op) && decide (op ≤ 8) || decide (0x10 ≤ op) && decide (op ≤ 0x16)) && decide (len ≤ 16)) (16 * len)
  | 3 =>
    if op = 0x81 then ok (len == 0) 0
    else ok ((op == 1 || op == 2 || op == 3 || op == 0x83) && len == 1) 8
  | 4 =>
    if op = 1 ∨ op = 2 then ok (decide (len ≤ 4) || len == 7) (16 + lenBytes len)
    else if op = 3 then ok (len == 2) 32
    else if op = 0x81 ∨ op = 0x82 then ok (len == 0 || len == 1 || len == 2 || len == 4) (16 + lenBytes len)
    else ok ((op == 4 || op == 5 || op == 6 || op == 0x83 || op == 0x84 || op == 0x86) && len == 0) 16
  | _ => none

/-- The payload length that header word 0 gives; none for a malformed packet (R195). -/
def headLen (w : Block) : Option Nat :=
  if (w.extractLsb' 124 4).toNat = 3 ∧ hPart w ≠ 7 then payloadLen (hKind w) (hOp w) (hLen w) else none

/-- Units of a packet with n bytes of payload. -/
def packetUnits (n : Nat) : Nat := (32 + n + 15) / 16

/-! ### Framing (R189, R190, R195, R209) -/

/-- A packet from its units. -/
def unitsPacket (us : List Block) (n : Nat) (sentAt : List (BitVec 12)) : RxPkt :=
  let b := (us.map blockBytes).flatten
  { w0 := us.headD 0, w1 := BitVec.ofNat 64 (ofLe ((b.drop 16).take 8).reverse), payload := (b.drop 24).take n
    mac := BitVec.ofNat 64 (ofLe ((b.drop (24 + n)).take 8).reverse), sentAt }

/-- The slot pad removed from a cell: from its header bytes, then from what follows its MAC (R209). -/
def openCell (key : List Byte) (count : Dword) (part : Nat) (cell : List Byte) : List Byte :=
  let clearHead := cellBytes key count part 256 cell
  match headLen (bytesBlock (clearHead.take 16)) with
  | some n => cellBytes key count part n cell
  | none => clearHead

/-- Units received on a lane counted (R191). -/
def Port.count (p : Port) (vl n : Nat) : Port := { p with got := p.got.set vl (p.got.getD vl 0 + BitVec.ofNat 12 n) }

/-- One unit taken into the framing of a port; the flag says that the packet is malformed, and framing is lost until the next FIRST
(R195). `key` holds the slot-pad key, if there is one, and the slot's partition of a slotted port. -/
def Port.unit (key : Option (Option (List Byte) × Nat)) (p : Port) (u : Block) : Port × Bool :=
  if p.partial_ = [] ∧ u = 0 then (p, false)
  else
    let us := p.partial_ ++ [u]
    match key with
    | some (k, part) =>
      if us.length < 18 then ({ p with partial_ := us }, false)
      else
        let cell := (us.map blockBytes).flatten
        let us := units (match k with
          | some key => openCell key p.cellsRx part cell
          | none => cell)
        let w := us.headD 0
        match headLen w with
        | none => ({ p with partial_ := [], lost := true, cellsRx := p.cellsRx + 1 }, true)
        | some n =>
          let q := { p with partial_ := [], cellsRx := p.cellsRx + 1, rx := p.rx ++ [unitsPacket us n p.got] }
          (q.count (hVl w) 18, false)
    | none =>
      let w := us.headD 0
      match headLen w with
      | none => ({ p with partial_ := [], lost := true }, true)
      | some n =>
        if us.length < packetUnits n then ({ p with partial_ := us }, false)
        else (({ p with partial_ := [], rx := p.rx ++ [unitsPacket us n p.got] } : Port).count (hVl w) (packetUnits n), false)

/-- Framing of a port is lost: what was in progress is passed over. -/
def Port.lose (p : Port) (n : Nat) : Port :=
  { p with partial_ := [], lost := true, lostUnits := p.lostUnits + p.partial_.length + n }

/-- Framing resumes after n more units: on a slotted port every 18 units passed over count as a cell (R209, DESIGN CHOICE, log 86). -/
def Port.resume (p : Port) (n : Nat) : Port :=
  { p with
    lost := false, partial_ := [], lostUnits := 0
    cellsRx := if p.slotted then p.cellsRx + BitVec.ofNat 64 ((p.lostUnits + n) / 18) else p.cellsRx }

/-- CODEWORD_RECEIVE: the credit limit of one lane is taken, and the units are framed into packets; an uncorrected codeword loses what
is in progress and starts in it; what waits for the lane's credits is sent (R189 to R191). -/
def codewordReceive (p : Nat) (hdr : BitVec 20) (us : List Block) (bad : Bool) (s : State) : State :=
  let q := s.port p
  if 24 ≤ p ∨ q.state = .unused ∨ q.state = .down then s
  else if bad then
    (((s.modPort p fun q => q.lose 40).modPio p fun io => { io with cwLost := satInc io.cwLost }).bump 0x17 p 1).logged
      0x3004 0 (.unit .port p 0)
  else
    let first := (hdr.extractLsb' 14 6).toNat
    let vl := (hdr.extractLsb' 12 2).toNat
    let q := if vl < 3 then { q with limit := q.limit.set vl (hdr.setWidth 12) } else q
    let start := if q.lost then (if first < 40 then first else us.length) else 0
    let q := if !q.lost then q else if first < 40 then q.resume first else { q with lostUnits := q.lostUnits + us.length }
    let part := q.slots.getD q.slotIdx 0
    let pad := (s.padSlot p part false).map s.keyBytes
    let key := if q.slotted then some (pad, part) else none
    let step (x : Port × Nat) (u : Block) : Port × Nat :=
      if x.1.lost then ({ x.1 with lostUnits := x.1.lostUnits + 1 }, x.2)
      else
        let (q, badPkt) := x.1.unit key u
        (q, if badPkt then x.2 + 1 else x.2)
    let (q, n) := (us.drop start).foldl step (q, 0)
    ((List.range n).foldl (fun s _ => s.dropAt p) ((s.modPort p fun _ => q).bump 0x05 p us.length)).drainTx p

/-- The first waiting packet that satisfies a test taken from a port. -/
def State.takePkt (s : State) (p : Nat) (f : RxPkt → Bool) : Option (RxPkt × State) :=
  ((s.port p).rx.find? f).map fun x => (x, s.modPort p fun q => { q with rx := q.rx.erase x })

/-! ### Link-control messages (R203, R208, R211) -/

/-- A byte string padded with zeros to whole units. -/
def padUnits (b : List Byte) : List Byte := b ++ List.replicate ((16 - b.length % 16) % 16) 0

/-- A link-control packet of this node's. -/
def State.linkPacket (s : State) (dst opcode : Nat) (b : List Byte) (chunk : Nat) (last : Bool) : Packet :=
  let b := padUnits b
  { dst, src := s.lse.node, kind := 2, opcode, len := b.length / 16, part := 0, tag := chunk, addr := if last then 2 ^ 43 else 0
    payload := b, bcast := dst == 0xFF }

/-- A message sent to the neighbour at a port under the partition-0 flow; nothing is sent while this node holds no such flow. -/
def State.sendHop (s : State) (p opcode : Nat) (b : List Byte) : State :=
  let dst := (s.port p).peer
  if (s.flowKey 0 s.lse.node dst s.fab.gen ((s.flowEpoch 0).toNat % 4)).isNone then s
  else s.present p (.own { s.linkPacket dst opcode b 0 false with addr := 0 })

/-- One usable port to each neighbour, the lowest (R208). -/
def State.peerPorts (s : State) : List Nat :=
  ((List.range 24).filter fun p => s.portOk p 0 && (List.range p).all fun r => !(s.portOk r 0 && (s.port r).peer == (s.port p).peer))

/-- The chunks of a formation message: 256 bytes each (R203, Table 8.3). -/
def chunked (b : List Byte) : List (Nat × Bool × List Byte) :=
  let n := max 1 ((b.length + 255) / 256)
  (List.range n).map fun i => (i, i + 1 == n, (b.drop (256 * i)).take 256)

/-- A clear message broadcast to every neighbour (R208). -/
def State.bcastClear (s : State) (opcode : Nat) (b : List Byte) : State :=
  s.peerPorts.foldl (fun s p => (chunked b).foldl (fun s (i, l, c) => s.sendClear p (s.linkPacket 0xFF opcode c i l)) s) s

/-- A clear message routed to a node; nothing is sent without a usable route. -/
def State.routeClear (s : State) (dst opcode : Nat) (b : List Byte) : State :=
  match s.firstHop dst 0 false with
  | none => s
  | some p => (chunked b).foldl (fun s (i, l, c) => s.sendClear p (s.linkPacket dst opcode c i l)) s

/-- An enciphered broadcast: one packet of the broadcast flow to every neighbour (R197, R208). -/
def State.bcastFlow (s : State) (opcode : Nat) (b : List Byte) : State :=
  let p : Packet := { s.linkPacket 0xFF opcode b 0 false with addr := 0 }
  match s.flowKey 0 s.lse.node 0xFF s.fab.gen ((s.flowEpoch 0).toNat % 4) with
  | none => s
  | some slot =>
    let wire := s.flowBytes p slot
    let f := s.flowTx 0 0xFF
    if 2 ^ 62 - 1 ≤ f.seq.toNat then s.logged 0x300A 0 (.unit .node 0xFF 0)
    else (s.peerPorts.foldl (fun s q => s.present q (.raw 0 p.bytes.length 0 wire)) s).putTx { f with seq := f.seq + 1 }

/-! ### Port states (Table 8.18, R212 to R214) -/

/-- A port changes STATE, with the LINK interrupt. -/
def State.portState (s : State) (p : Nat) (x : PortState) : State :=
  if (s.port p).state = x then s else (s.modPort p fun q => { q with state := x }).irq .yf 0 0

/-- Nodes to which no route has a usable port are declared dead (R222). -/
def State.checkRoutes (s : State) : State :=
  if s.fab.dstate ≠ 3 then s
  else (s.fab.nodes.filter fun (n, e) => e.member && !e.dead && n != s.lse.node).foldl (fun s (n, _) =>
    if (s.firstHop n 0 false).isNone && (s.firstHop n 0 true).isNone then s.declareDead n 2 else s) s

/-- ROUTE_OK for every destination that a ROUTE_FAIL named and that has a usable direct port again (R207). -/
def State.routeOks (s : State) : State :=
  (List.range 24).foldl (fun s p =>
    (s.pIo p).rfSent.foldl (fun s (d, _) =>
      if s.directPorts d 0 = [] then s
      else (s.sendHop p 5 [BitVec.ofNat 8 d]).modPio p fun io => { io with rfSent := io.rfSent.filter (·.1 != d) }) s) s

/-- What waits in the queue of a port that cannot be used: this node's own packets take their first hop anew or fail with 0x300B, and the
others are lost (R205, R206). -/
def State.clearTx (s : State) (p : Nat) : State :=
  let l := (s.port p).tx
  l.foldl (fun s x => match x with
    | .own k =>
      if k.kind = 2 then s
      else match s.firstHop k.dst k.part k.ordered with
        | some q => (if k.asks then s.modReq k.tag fun r => { r with port := some q } else s).present q (.own k)
        | none => match (if k.asks then s.reqOf k.tag else none) with
          | some r => s.finishReq r 0x300B false []
          | none => s.logged 0x300B k.part (.unit .node k.dst 0)
    | .raw part _ vl _ => if vl = 1 then (s.dropAt p).logged 0x300B part (.unit .port p 0) else s) (s.modPort p fun q => { q with tx := [] })

/-- A port becomes disputed: DISPUTE is sent, the alarm raised, and the port is unusable (R214). -/
def State.disputePort (s : State) (p reason : Nat) : State :=
  let t := ((s.modPort p fun q => { q with reason }).portState p .disputed).clearTx p
  let t := t.sendClear p (t.linkPacket (t.port p).peer 3 [BitVec.ofNat 8 reason] 0 false)
  ((t.alarm 0x3005 (.unit .port p 0)).irq .yf 0 4).checkRoutes

/-- A port is up: usable, and ROUTE_OK goes where it is due. -/
def State.portUp (s : State) (p : Nat) : State := ((s.modPort p fun q => { q with reason := 0 }).portState p .up).routeOks

/-- SENT of the three lanes, two bytes each. -/
def Port.sentBytes (p : Port) : List Byte := (p.sent.map fun x => leBytes 2 x.toNat).flatten

/-- The HELLO of a port (Table 8.9). -/
def State.helloMsg (s : State) (p : Nat) : List Byte :=
  let me := (s.lease.topo.nodes.find? (·.node == s.lse.node)).getD {}
  leBytes 8 s.fuse.unitId.toNat
    ++ [BitVec.ofNat 8 s.lse.node, BitVec.ofNat 8 me.row, BitVec.ofNat 8 me.col, BitVec.ofNat 8 p, 3, BitVec.ofNat 8 s.fuse.lifecycle,
        BitVec.ofNat 8 s.fab.foreman, if s.fab.dstate = 3 then 1 else 0]
    ++ leBytes 4 s.fab.gen.toNat ++ leBytes 32 s.fab.digest.toNat ++ leBytes 32 s.fab.compat.toNat ++ leBytes 32 s.fuse.identity.toNat
    ++ (s.port p).sentBytes ++ List.replicate 6 0

/-- HELLO sent on a port. -/
def State.sendHello (s : State) (p : Nat) : State :=
  s.sendClear p { s.linkPacket (s.port p).peer 1 (s.helloMsg p) 0 false with addr := 0 }

/-- FABRIC_PORT_UP: a wired port that was down starts its link: counts from 0, and HELLO is sent (R191, R209, R212). A port whose cluster
is offline stays down (R22). -/
def fabricPortUp (p : Nat) (s : State) : State :=
  if 24 ≤ p ∨ (s.port p).state ≠ .down ∨ (s.clus.getD (88 + p) {}).offline then s
  else
    let t := s.modPort p fun q => { q with
      sent := [0, 0, 0], got := [0, 0, 0], limit := [2048, 2048, 64], partial_ := [], lost := true, lostUnits := 0, cellsTx := 0, cellsRx := 0 }
    ((t.modPio p fun io => { io with annOk := false, fails := [] }).portState p .hello).sendHello p

/-- FABRIC_PORT_DOWN: the port is unusable, and what waits on it leaves by another or is lost (R204, R205). -/
def fabricPortDown (p : Nat) (s : State) : State :=
  if 24 ≤ p ∨ (s.port p).state = .unused ∨ (s.port p).state = .down then s
  else (((s.modPort p fun q => { q with partial_ := [], lost := true, reason := 0 }).portState p .down).clearTx p).checkRoutes

/-- HELLO_TIMER: HELLO again until the peer's first ANNOUNCE is accepted (R212). -/
def helloTimer (p : Nat) (s : State) : State :=
  if 24 ≤ p ∨ (s.port p).state = .unused ∨ (s.port p).state = .down ∨ (s.pIo p).annOk then s else s.sendHello p

/-! ### Transit (R206, R207) -/

/-- ROUTE_FAIL to the previous hop, at most one a destination every 10 µs (R207). -/
def State.routeFail (s : State) (p d : Nat) : State :=
  let lately : Bool := match s.fab.rfAt.find d with
    | some t => decide (s.clk.cyc < t + 16000)
    | none => false
  if lately then s
  else
    let t := (s.sendHop p 4 [BitVec.ofNat 8 d]).modPio p fun io => { io with rfSent := (d, s.clk.cyc) :: io.rfSent.filter (·.1 != d) }
    { t with fab := { t.fab with rfAt := t.fab.rfAt.put d s.clk.cyc } }

/-- A packet in transit presented to its outgoing port on VL 1. -/
def State.forward (s : State) (out : Nat) (x : RxPkt) : State :=
  let w := clearHops x.w0 ||| (BitVec.ofNat 128 (2 ^ 91) ||| BitVec.ofNat 128 (2 ^ 14))
  let b := packetBytes w x.w1 x.payload x.mac
  s.present out (.raw (hPart x.w0) x.payload.length 1 b)

/-- What a disputed or a miswired port still carries (R213, R214). -/
def State.portTakes (s : State) (p : Nat) (x : RxPkt) : Bool :=
  let l := hKind x.w0 == 2
  match (s.port p).state with
  | .disputed => l && (hOp x.w0 == 1 || hOp x.w0 == 2 || hOp x.w0 == 3)
  | .miswired => l && hOp x.w0 == 1
  | .down | .unused => false
  | _ => true

/-- PACKET_TRANSIT: the oldest packet for another node is forwarded with VL 1 and HOPS 1, or discarded, for want of a usable direct port or
because its partition may not use the one chosen (R206). -/
def packetTransit (p : Nat) (s : State) : State :=
  match s.takePkt p (fun x => !x.delivered && hDst x.w0 != s.lse.node && hDst x.w0 != 0xFF) with
  | none => s
  | some (x, t) =>
    let d := hDst x.w0
    if !s.portTakes p x then t.dropAt p
    else if hHops x.w0 = 1 ∨ s.directPorts d 0 = [] then
      ((t.dropAt p).logged 0x300B (hPart x.w0) (.unit .node d 0)).routeFail p d
    else
      let ports := s.directPorts d 0
      match (if x.w0.getLsbD 90 then ports.head? else s.mostCredits ports 1) with
      | none => t.dropAt p
      | some o => if (s.port o).carries (hPart x.w0) then t.forward o x else t.dropAt p

/-! ### Delivery (R201, R203, R208) -/

/-- The opcodes of clear link-control packets (Table 8.8). -/
def clearOp (op : Nat) : Bool := op == 1 || op == 3 || (decide (0x10 ≤ op) && decide (op ≤ 0x15))

/-- A broadcast that came from a row peer goes on to this node's own column peers (R208). -/
def State.rebroadcast (s : State) (x : RxPkt) : State :=
  let pos (n : Nat) : Nat × Nat := ((s.lease.topo.nodes.find? (·.node == n)).map fun r => (r.row, r.col)).getD (0, 0)
  let me := pos s.lse.node
  if s.lease.topo.topo = 0 ∨ hHops x.w0 ≠ 0 ∨ (pos (hSrc x.w0)).1 ≠ me.1 then s
  else (s.peerPorts.filter fun p => (pos (s.port p).peer).2 == me.2).foldl (fun s p => s.forward p x) s

/-- PACKET_DELIVER: the oldest packet for this node is delivered; one of a partition becomes a horizon member until its verdict. Packets of
a node declared dead are discarded, clear ones apart (R119, R201, R222, DEDUCED, log 35). -/
def packetDeliver (p : Nat) (s : State) : State :=
  match (s.port p).rx.find? fun x => !x.delivered && (hDst x.w0 == s.lse.node || hDst x.w0 == 0xFF) with
  | none => s
  | some x =>
    let cut := s.modPort p fun q => { q with rx := q.rx.erase x }
    let clear := hKind x.w0 == 2 && clearOp (hOp x.w0)
    if !s.portTakes p x ∨ ((s.node (hSrc x.w0)).dead ∧ !clear) then cut.dropAt p
    else
      let (t, stamp) : State × Option Nat :=
        if hPart x.w0 ≠ 0 then
          let (t, n) := s.deliverStamp (hPart x.w0)
          (t, some n)
        else (s, none)
      let mark (y : RxPkt) : RxPkt := if y = x then { y with delivered := true, stamp } else y
      let t := t.modPort p fun q => { q with rx := q.rx.map mark }
      if hDst x.w0 = 0xFF then t.rebroadcast x else t

/-- The message of an accepted link-control packet kept for its own event. -/
def State.keepCtrl (s : State) (p : Nat) (x : RxPkt) (clear : Bool) (plain : List Byte) : State :=
  let m : CtrlMsg := { opcode := hOp x.w0, src := hSrc x.w0, clear, bcast := hDst x.w0 == 0xFF, chunk := hTag x.w0
                       last := decide (2 ^ 43 ≤ hAddr x.w0) || !decide (0x10 ≤ hOp x.w0), payload := plain, sentAt := x.sentAt }
  s.modPort p fun q => { q with ctrl := q.ctrl ++ [m] }

/-! ### Verdict (R199 to R202) -/

/-- The flow keys that a packet may be under: its partition, ends and PHASE. -/
def State.rxKeys (s : State) (w0 : Block) (w1 : Dword) : List FlowKey :=
  s.fab.keys.filter fun k => k.part == hPart w0 && k.src == hSrc w0 && k.dst == hDst w0 && k.epoch.toNat % 4 == (w1.extractLsb' 62 2).toNat

/-- The MAC of a received packet passes under a key. -/
def State.pktOk (s : State) (x : RxPkt) (k : FlowKey) : Bool :=
  flowMac (s.keyBytes k.slot) (s.hashKey k.slot) x.w0 x.w1 x.payload (flowBlock x.w1 (hSrc x.w0) (hDst x.w0) (hPart x.w0)) == x.mac

/-- The replay window takes a SEQ; none for a duplicate or a value below the window (R200). -/
def FlowRx.take (f : FlowRx) (seq : Nat) : Option FlowRx :=
  if f.hi ≤ seq then some { f with map := (f.map <<< (seq + 1 - f.hi)) ||| 1, hi := seq + 1 }
  else
    let d := f.hi - 1 - seq
    if 1024 ≤ d ∨ f.map.getLsbD d then none else some { f with map := f.map ||| ((1 : BitVec 1024) <<< d) }

/-- The receiving side of a flow. -/
def State.flowRx (s : State) (w0 : Block) (gen : Word) : FlowRx :=
  (s.fab.rx.find? fun f => f.part == hPart w0 && f.src == hSrc w0 && f.bcast == (hDst w0 == 0xFF) && f.gen == gen).getD
    { part := hPart w0, src := hSrc w0, bcast := hDst w0 == 0xFF, gen }

/-- The receiving side of a flow rewritten. -/
def State.putRx (s : State) (f : FlowRx) : State :=
  let other (g : FlowRx) : Bool := g.part != f.part || g.src != f.src || g.bcast != f.bcast || g.gen != f.gen
  { s with fab := { s.fab with rx := f :: s.fab.rx.filter other } }

/-- A horizon member of a packet judged. -/
def State.judgePacket (s : State) (p : Nat) (x : RxPkt) (ok : Bool) : State :=
  match x.stamp with
  | some st => s.verdict (hPart x.w0) st ok (.unit .port p 0)
  | none => s

/-- A failed verdict: counted and logged; a delivered response ends its request and loses its context with 0x3002; more than 16
failures within 1 ms dispute the port (R201). -/
def State.pktFailed (s : State) (p : Nat) (x : RxPkt) : State :=
  let fails := ((s.clk.cyc :: (s.pIo p).fails).filter fun t => decide (s.clk.cyc < t + 1600000)).take 17
  let t := (s.modPio p fun io => { io with macFail := satInc io.macFail, fails }).bump 0x16 p 1
  let t := t.logged 0x3001 (hPart x.w0) (.unit .port p 0)
  let t := if hKind x.w0 = 1 then
      match t.reqOf (hTag x.w0) with
      | some r => if r.node = hSrc x.w0 ∧ r.op.part = hPart x.w0 then (t.flowAnswered r).finishReq r 0x3002 false [] else t
      | none => t
    else t
  let t := t.judgePacket p x false
  if fails.length ≤ 16 ∨ (t.port p).state ≠ .up then t
  else (t.modPio p fun io => { io with integAt := some s.clk.cyc }).disputePort p 3

/-- The operation that an accepted request, tally or cart packet asks for. -/
def pktOp (me : Nat) (x : RxPkt) (plain : List Byte) : Op :=
  let k := hKind x.w0
  { kind := k, opcode := hOp x.w0, len := hLen x.w0, addr := me * 2 ^ 44 + hAddr x.w0, part := hPart x.w0, ordered := x.w0.getLsbD 90
    cart := x.w0.getLsbD 12, fmt := (x.w0.extractLsb' 16 4).toNat, poison := x.w0.getLsbD 13
    cartw := if k = 4 then BitVec.ofNat 128 (ofLe (plain.take 16)) else 0, payload := if k = 4 then plain.drop 16 else plain }

/-- An accepted packet goes where its kind says: a request to its home, an answer to its requester, link control to its engine. -/
def State.acceptPkt (s : State) (p : Nat) (x : RxPkt) (plain : List Byte) : State :=
  let k := hKind x.w0
  if k = 2 then (if hOp x.w0 = 8 then s else s.keepCtrl p x false plain)
  else
    let op := pktOp s.lse.node x plain
    if k = 1 ∨ (k ≠ 0 ∧ 0x80 ≤ hOp x.w0) then
      let a : Answer := { tag := hTag x.w0, src := hSrc x.w0, part := hPart x.w0, addr := hAddr x.w0, kind := k, opcode := hOp x.w0
                          len := hLen x.w0, poison := op.poison, cartw := op.cartw, port := some p, payload := op.payload }
      { s with req := { s.req with answers := s.req.answers ++ [a] } }
    else
      let q := if k = 3 then s.tallyQuad op.part else quadOf op.addr
      { s with home := { s.home with arr := s.home.arr ++ [{ q, src := hSrc x.w0, tag := hTag x.w0, op }] } }

/-- PACKET_VERDICT: the oldest delivered packet is judged: a clear packet by its form (R203), any other by its MAC, in the port's cluster,
and then by its flow's replay window (R30, R200 to R202). -/
def packetVerdict (p : Nat) (s : State) : State :=
  match s.takePkt p (·.delivered) with
  | none => s
  | some (x, t) =>
    let clear := hKind x.w0 == 2 && clearOp (hOp x.w0)
    if clear then
      if hPart x.w0 = 0 ∧ x.w1 = 0 ∧ x.mac = 0 then t.keepCtrl p x true x.payload else t.dropAt p
    else
      match (t.rxKeys x.w0 x.w1).find? fun k => t.pktOk x k with
      | none => t.pktFailed p x
      | some k =>
        let t := t.judgePacket p x true
        let ctx := if hKind x.w0 = 1 then (t.reqOf (hTag x.w0)).bind (·.op.ctx) else none
        let t := t.passCluster (88 + p) (hPart x.w0) (x.payload.length / 16 + 1) ctx [k.slot]
        let t := t.modNode (hSrc x.w0) fun e => { e with timeouts := 0 }
        match (t.flowRx x.w0 k.gen).take (x.w1.extractLsb' 0 62).toNat with
        | none => (t.modPio p fun io => { io with replay := satInc io.replay }).logged 0x3003 (hPart x.w0) (.unit .port p 0)
        | some f =>
          let pad := flowPad (t.keyBytes k.slot) (flowBlock x.w1 (hSrc x.w0) (hDst x.w0) (hPart x.w0)) x.payload.length
          (t.putRx f).acceptPkt p x (xorBytes x.payload pad)

/-! ### HELLO, ANNOUNCE, DISPUTE (R212 to R214) -/

/-- The oldest accepted message of an opcode at a port. -/
def State.takeMsg (s : State) (p opcode : Nat) : Option (CtrlMsg × State) :=
  ((s.port p).ctrl.find? (·.opcode == opcode)).map fun m => (m, s.modPort p fun q => { q with ctrl := q.ctrl.erase m })

/-- Bytes of a message, from an offset. -/
def CtrlMsg.le (m : CtrlMsg) (off n : Nat) : Nat := ofLe ((m.payload.drop off).take n)

/-- The counts of units received take the SENT values that a message carries, as they stood in the unit stream (R191). -/
def State.restoreCredits (s : State) (p : Nat) (m : CtrlMsg) (off : Nat) : State :=
  s.modPort p fun q => { q with
    got := (List.range 3).map fun v => BitVec.ofNat 12 (m.le (off + 2 * v) 2) + (q.got.getD v 0 - m.sentAt.getD v 0) }

/-- A digest that is this node's own, or its compatible one (R214, R417). -/
def State.digestOk (s : State) (d : BitVec 256) : Bool :=
  d == s.fab.digest || (d == s.fab.compat && s.fab.compat != 0 && !s.fab.compatOff)

/-- A HELLO agrees with the Lease's record of the peer (R213). -/
def State.helloAgrees (s : State) (p : Nat) (m : CtrlMsg) : Bool :=
  match s.lease.topo.nodes.find? (·.node == (s.port p).peer) with
  | none => false
  | some r =>
    m.le 0 8 == r.unitId.toNat && m.le 8 1 == r.node && m.le 9 1 == r.row && m.le 10 1 == r.col && m.le 11 1 == (s.port p).peerPort
      && m.le 12 1 == 3 && m.le 84 32 == r.identity.toNat

/-- ANNOUNCE_TIMER: a member announces itself on every port that is up or disputed (R214). -/
def announceTimer (s : State) : State :=
  if s.fab.dstate ≠ 3 then s
  else
    let ports := (List.range 24).filter fun p => (s.port p).state == .up || (s.port p).state == .disputed
    ports.foldl (fun s p => s.sendHop p 2 (leBytes 32 s.fab.digest.toNat ++ leBytes 32 s.fab.compat.toNat ++ leBytes 4 s.fab.gen.toNat
      ++ (s.port p).sentBytes)) s

/-- ANNOUNCE_RECEIVE: credits and digest state; a foreign digest disputes the port, an acceptable one ends a dispute (R191, R214). -/
def announceReceive (p : Nat) (s : State) : State :=
  match s.takeMsg p 2 with
  | none => s
  | some (m, t) =>
    let t := (t.restoreCredits p m 68).modPio p fun io => { io with annOk := true }
    if !t.digestOk (BitVec.ofNat 256 (m.le 0 32)) then (if (t.port p).state = .up then t.disputePort p 1 else t)
    else if (t.port p).state = .disputed then
      match (t.pIo p).integAt with
      | some x => if t.clk.cyc < x + 1600000 then t else t.portUp p
      | none => t.portUp p
    else t

/-- ANNOUNCE_SILENT: no ANNOUNCE for 3 ms of shift time (R214). -/
def announceSilent (p : Nat) (s : State) : State :=
  if p < 24 ∧ s.fab.dstate = 3 ∧ (s.port p).state = .up then s.disputePort p 2 else s

/-- DISPUTE_RECEIVE (R214). -/
def disputeReceive (p : Nat) (s : State) : State :=
  match s.takeMsg p 3 with
  | none => s
  | some (_, t) => if (t.port p).state = .up then t.disputePort p 4 else t

/-- The route kind of a destination that uses a port marked failed or usable (R207). -/
def Route.mark (r : Route) (p : Nat) (fail : Bool) : Route :=
  { r with failed := if fail then insNat p r.failed else r.failed.filter (· != p)
           rfail := if r.firstR = p ∨ r.altR = p then fail else r.rfail
           cfail := if r.firstC = p ∨ r.altC = p then fail else r.cfail }

/-- ROUTE_FAIL_RECEIVE (R207). -/
def routeFailReceive (p : Nat) (s : State) : State :=
  match s.takeMsg p 4 with
  | none => s
  | some (m, t) =>
    { t with fab := { t.fab with routes := t.fab.routes.mod (m.le 0 1) fun r => r.mark p true } }.checkRoutes

/-- ROUTE_OK_RECEIVE (R207). -/
def routeOkReceive (p : Nat) (s : State) : State :=
  match s.takeMsg p 5 with
  | none => s
  | some (m, t) => { t with fab := { t.fab with routes := t.fab.routes.mod (m.le 0 1) fun r => r.mark p false } }

/-! ### TIME_SYNC (R414) -/

/-- TIME_SYNC_TIMER: a member sends TIME_SYNC on every up port. -/
def timeSyncTimer (s : State) : State :=
  if s.fab.dstate ≠ 3 then s
  else ((List.range 24).filter fun p => (s.port p).state == .up).foldl (fun s p =>
    let y := (s.pIo p).sync
    let b := leBytes 8 (y.seq + 1).toNat ++ leBytes 8 y.rxSeq.toNat ++ leBytes 8 y.rxTime.toNat ++ leBytes 8 y.lastTx.toNat
    (s.sendHop p 6 b).modPio p fun io =>
      { io with sync := { y with seq := y.seq + 1, prevTx := y.lastTx, lastTx := s.clk.shift } }) s

/-- The node towards which this node's clock is corrected (R414). -/
def State.timeParent (s : State) : Option Nat :=
  let root := s.fab.foreman
  let pos (n : Nat) : Nat × Nat := ((s.lease.topo.nodes.find? (·.node == n)).map fun r => (r.row, r.col)).getD (0, 0)
  let me := pos s.lse.node
  let r := pos root
  if s.fab.self ∨ root = s.lse.node then none
  else if s.lease.topo.topo = 0 ∨ r.1 = me.1 ∨ r.2 = me.2 then some root
  else (s.lease.topo.nodes.find? fun n => n.row == me.1 && n.col == r.2).map (·.node)

/-- An offset measured towards the parent, in ns: a clock not yet valid is set in one step, a valid one slews; more than 1 µs is
logged with 0x9032 (R413). -/
def State.clockOffset (s : State) (off : Int) : State :=
  if !s.clk.valid then
    { s with clk := { s.clk with shift := BitVec.ofInt 64 ((s.clk.shift.toNat : Int) + off), valid := true, target := off, slew := 0 } }
  else
    let t := { s with clk := { s.clk with target := off, slew := off * 8 } }
    if 1000 < off.natAbs then
      if s.clk.alarm then t else ({ t with clk := { t.clk with alarm := true } }.logged 0x9032 0 .none).irqVis .lse 0 3
    else if off.natAbs ≤ 25 then { t with clk := { t.clk with alarm := false } }
    else t

/-- TIME_SYNC_RECEIVE: the times of the latest complete pair of messages give the offset of the peer's clock (R414). -/
def timeSyncReceive (p : Nat) (s : State) : State :=
  match s.takeMsg p 6 with
  | none => s
  | some (m, t) =>
    let y := (t.pIo p).sync
    let seq : Dword := BitVec.ofNat 64 (m.le 0 8)
    let heard : Dword := BitVec.ofNat 64 (m.le 8 8)
    let t2 : Int := m.le 16 8
    let t3 : Int := m.le 24 8
    let t1 : Option Nat := if heard = 0 then none else if heard = y.seq then some y.lastTx.toNat
      else if heard + 1 = y.seq then some y.prevTx.toNat else none
    let now := t.clk.shift
    let u := t.modPio p fun io => { io with sync := { y with rxSeq := seq, rxTime := now } }
    match t1 with
    | some a =>
      if y.rxSeq + 1 = seq ∧ y.rxSeq ≠ 0 ∧ t.timeParent = some (t.port p).peer then
        u.clockOffset (((t2 - a) - ((y.rxTime.toNat : Int) - t3)) / 2)
      else u
    | none => u

/-! ### Slots (R209, Table 1.5) -/

/-- A PAD cell of a partition, under the flow to the port's peer (R209). -/
def State.padCell (s : State) (port part : Nat) : State :=
  s.transmit port { dst := (s.port port).peer, src := s.lse.node, kind := 2, opcode := 8, len := 16, part, payload := List.replicate 256 0 }

/-- The host slots in rotation: HOST_SLOTS of each partition (R25, Table 1.5). -/
def State.hostRotation (s : State) : List Nat := s.shapes.flatMap fun x => List.replicate x.hostSlots x.part

/-- SLOT_BOUNDARY: the next slot begins. At a slotted port (unit 0 to 23) one cell leaves: the first that may of the slot's partition or
of block traffic, else a PAD cell; at the host cluster (unit 24) the next host slot. Where this node holds no flow key of the slot's
partition towards the peer, the PAD cell is of partition 0 (R25, R27, R209, Table 1.5; DESIGN CHOICE, log 84). -/
def slotBoundary (unit : Nat) (s : State) : State :=
  if unit = 24 then
    let l := s.hostRotation
    let i := (s.fab.hostIdx + 1) % max 1 l.length
    { s with fab := { s.fab with hostIdx := i, hostSlot := l.getD i 0 } }
  else
    let q := s.port unit
    if 24 < unit ∨ !q.slotted ∨ q.slots.length = 0 then s
    else
      let i := (q.slotIdx + 1) % q.slots.length
      let part := q.slots.getD i 0
      let t := s.modPort unit fun q => { q with slotIdx := i }
      if q.state = .unused ∨ q.state = .down then t
      else match t.nextItem unit fun x => x.part == part || x.part == 0 with
        | some x => (t.modPort unit fun q => { q with tx := q.tx.erase x }).sendItem unit x
        | none =>
          let held (p : Nat) : Bool := (s.flowKey p s.lse.node q.peer s.fab.gen ((s.flowEpoch p).toNat % 4)).isSome
          if q.state ≠ .up ∨ !q.maySend 0 18 then t
          else t.padCell unit (if held part then part else 0)

end Sys2Proof.Machine
end

