-- ==== Sys2Proof/Machine/Domain.lean ====
section
/-!
DEFINITION. Machine/Domain.lean: the domain (08): flow keys (R197, R202), formation (R215 to R219), late joiners (R220), leaving and the
change of generation (R221), dead nodes (R222), and shift orders on becoming a member (R418).
-/

namespace Sys2Proof.Machine

/-! ### Shift orders whose time has passed (R418) -/

/-- How often an order has been due by a shift time. -/
def Order.dueBy (o : Order) (now : Nat) : Nat :=
  if o.action = 0 ∨ o.basis ∨ now < o.time.toNat then 0
  else if o.rep ∧ o.period ≠ 0 then (now - o.time.toNat) / (o.period * 1000) + 1
  else 1

/-- An order as it stands once its passed occurrences are skipped: late, or advanced (R418). -/
def Order.skip (o : Order) (now : Nat) : Order :=
  let n := o.dueBy now
  if n = 0 then o
  else if o.rep then { o with time := BitVec.ofNat 64 (o.time.toNat + n * (o.period * 1000)) }
  else if o.state = 1 then { o with state := 4 } else o

/-- On entry to RUN from a cold start, and on becoming a member, orders on shift time that have passed are late or advance (R418). -/
def State.ordersEntry (s : State) : State :=
  if s.clk.valid then
    let l := s.lse.orders.map fun o => o.skip s.clk.shift.toNat
    let n := (l.filter (·.state == 4)).length - (s.lse.orders.filter (·.state == 4)).length
    let t := { s with lse := { s.lse with orders := l, late := (List.range n).foldl (fun x _ => satInc x) s.lse.late } }
    if n = 0 then t else t.irqVis .lse 0 2
  else s

/-- The flow epoch of a partition that the orders have reached at this node's shift time (R418). -/
def State.reachedEpoch (s : State) (p : Nat) : Word :=
  BitVec.ofNat 32 (((s.lse.orders.filter fun o => o.action == 2 && o.part == p).map fun o => o.dueBy s.clk.shift.toNat).sum)

/-! ### Flow keys (R197, R202) -/

/-- K_pad and H of one direction of a flow (R197). -/
def flowBits (kdp : List Byte) (src dst : Nat) (epoch inS inD : Word) : BitVec 512 :=
  let m := [BitVec.ofNat 8 src, BitVec.ofNat 8 dst] ++ leBytes 4 epoch.toNat ++ leBytes 4 inS.toNat ++ leBytes 4 inD.toNat
  BitVec.ofNat 512 (ofLe (kmac256 kdp m 32 "YEBIN3-FLOW-PAD" ++ kmac256 kdp m 16 "YEBIN3-FLOW-HASH"))

/-- The incarnation of a node in a generation: 0 in one that is only being formed (R218). -/
def State.incarnOf (s : State) (gen : Word) (n : Nat) : Word :=
  let join : Bool := match s.fab.cand with
    | some c => c.join && c.gen == gen
    | none => false
  if gen = s.fab.gen ∧ s.fab.dstate = 3 ∨ join then (s.node n).incarn else 0

/-- The slot of the domain secret of a generation, whose ORIGIN the keys derived from it take (R378). -/
def State.secretSlot (s : State) (g : Word) : Nat := if g = s.fab.gen ∧ s.fab.dstate = 3 then 8 else 9

/-- The keys of one direction derived into a free slot. -/
def State.addFlow (s : State) (part src dst : Nat) (gen epoch : Word) : State :=
  match s.freeSlot [] with
  | none => s
  | some n =>
    let inD := if dst = 0xFF then 0 else s.incarnOf gen dst
    let key := flowBits (s.domainKey part gen) src dst epoch (s.incarnOf gen src) inD
    let k : FlowKey := { part, src, dst, gen, epoch, slot := n }
    { s.putKey n 0xD 0 5 (s.slot (s.secretSlot gen)).origin (epoch.setWidth 16) key with fab := { s.fab with keys := s.fab.keys ++ [k] } }

/-- The flows between this node and another in one partition: both directions, and the other's broadcasts in partition 0. -/
def State.addFlows (s : State) (part n : Nat) (gen epoch : Word) : State :=
  let t := (s.addFlow part s.lse.node n gen epoch).addFlow part n s.lse.node gen epoch
  if part = 0 then t.addFlow 0 n 0xFF gen epoch else t

/-- The partitions that the Lease makes this node a member of, partition 0 among them. -/
def State.myParts (s : State) : List Nat := (List.range 7).filter fun p => p == 0 || (s.nodeRec s.lse.node).parts.getLsbD p

/-- The other nodes of a domain partition. -/
def State.partNodes (s : State) (p : Nat) : List Nat :=
  (s.lease.topo.nodes.filter fun r => r.node != s.lse.node && (p == 0 || r.parts.getLsbD p)).map (·.node)

/-- A slot-pad key derived into a free slot (R209). -/
def State.addPad (s : State) (port : Nat) (tx : Bool) (part : Nat) (gen : Word) : State :=
  match s.freeSlot [] with
  | none => s
  | some n =>
    let q := s.port port
    let k0 := s.domainKey 0 gen
    let key := if tx then slotKey k0 s.lse.node q.peer port part else slotKey k0 q.peer s.lse.node q.peerPort part
    { s.putKey n 0xE 0 5 (s.slot (s.secretSlot gen)).origin (gen.setWidth 16) (BitVec.ofNat 512 (ofLe key)) with
      fab := { s.fab with pads := s.fab.pads ++ [{ port, tx, part, gen, slot := n }] } }

/-- The slot pads of every slotted port, both directions, for the partitions that hold slots on it (R209). -/
def State.derivePads (s : State) (gen : Word) : State :=
  (List.range 24).foldl (fun s port =>
    let q := s.port port
    if !q.slotted then s
    else q.slots.eraseDups.foldl (fun s part => (s.addPad port true part gen).addPad port false part gen) s) s

/-- The partition domain keys, flows and slot pads of a generation derived (R197, R209, R218 item 4). -/
def State.deriveDomain (s : State) (gen : Word) (epoch : Nat → Word) : State :=
  State.derivePads (gen := gen) <| s.myParts.foldl (fun s p =>
    let s := match s.freeSlot [] with
      | none => s
      | some n =>
        { s.putKey n 0xC 0 5 (s.slot (s.secretSlot gen)).origin (gen.setWidth 16) (BitVec.ofNat 512 (ofLe (s.domainKey p gen))) with
          fab := { s.fab with dkeys := s.fab.dkeys ++ [(p, gen, n)] } }
    let s := if p = 0 then s.addFlow 0 s.lse.node 0xFF gen (epoch 0) else s
    (s.partNodes p).foldl (fun s n => s.addFlows p n gen (epoch p)) s) s

/-- Flow keys that satisfy a test zeroised and forgotten. -/
def State.dropKeys (s : State) (f : FlowKey → Bool) : State :=
  let gone := (s.fab.keys.filter f).map (·.slot)
  { s.killSlots gone with fab := { s.fab with keys := s.fab.keys.filter fun k => !f k } }

/-- Partition domain keys that satisfy a test zeroised and forgotten. -/
def State.dropDomainKeys (s : State) (f : Nat × Word × Nat → Bool) : State :=
  let gone := (s.fab.dkeys.filter f).map fun x => x.2.2
  { s.killSlots gone with fab := { s.fab with dkeys := s.fab.dkeys.filter fun k => !f k } }

/-- Slot-pad keys that satisfy a test zeroised and forgotten. -/
def State.dropPads (s : State) (f : PadKey → Bool) : State :=
  let gone := (s.fab.pads.filter f).map (·.slot)
  { s.killSlots gone with fab := { s.fab with pads := s.fab.pads.filter fun k => !f k } }

/-- Every key of a generation zeroised, its domain secret apart. -/
def State.dropGen (s : State) (g : Word) : State :=
  ((s.dropKeys fun k => k.gen == g).dropDomainKeys fun k => k.2.1 == g).dropPads fun k => k.gen == g

/-- FLOW_KEY_EXPIRE: 16 µs after an epoch or generation ended, its flow keys of a partition are zeroised; with those of partition 0
goes the domain secret of the generation that ended (R202, R221). -/
def flowKeyExpire (part : Nat) (s : State) : State :=
  let t := s.dropKeys fun k => k.part == part && k.old
  let t := { t with fab := { t.fab with oldEpoch := t.fab.oldEpoch.erase part } }
  if part = 0 ∧ t.fab.nextGen.isNone ∧ t.fab.cand.isNone then
    ((t.killSlot 9).dropDomainKeys fun k => k.2.1 != t.fab.gen).dropPads fun k => k.gen != t.fab.gen
  else t

/-! ### Formation messages (R215, Table 8.10) -/

/-- The bytes of the two signatures of a formation message: ML-DSA-87 and ECDSA P-384 (PRESUMED, log 36). -/
def sigLen : Nat := 4627 + 96

/-- A formation message signed: what the public-key engine writes is a free value (DESIGN CHOICE, log 9). -/
def State.signed (s : State) (b : List Byte) : List Byte := b ++ s.freeBytes sigLen

/-- All chunks of the oldest message of an opcode, joined; none while the last is missing (R203, Table 8.3). -/
def State.takeWhole (s : State) (p opcode : Nat) : Option (CtrlMsg × State) :=
  match (s.port p).ctrl.find? (·.opcode == opcode) with
  | none => none
  | some m =>
    let l := (s.port p).ctrl.filter fun x => x.opcode == opcode && x.src == m.src
    let pre := l.takeWhile fun x => !x.last
    let all := l.take (pre.length + 1)
    if all.length ≤ pre.length then none
    else
      some ({ m with payload := (all.map (·.payload)).flatten, last := true },
        s.modPort p fun q => { q with ctrl := q.ctrl.filter fun x => !all.contains x })

/-- A formation message came from the listed node that it names. -/
def State.namesNode (s : State) (m : CtrlMsg) (unitOff nodeOff : Nat) : Bool :=
  s.lease.topo.nodes.any fun r => r.node == m.le nodeOff 1 && r.unitId.toNat == m.le unitOff 8

/-- The partition uses a cluster: it owns the unit, or has slots of it (Table 13.2). -/
def State.usesCluster (s : State) (p c : Nat) : Bool :=
  if c < 88 then s.clusterOwner c == p
  else if c < 112 then (s.port (c - 88)).carries p
  else s.hostParts.contains p

/-- A set of numbers below n as a bitmap. -/
def bitmap (n : Nat) (f : Nat → Bool) : Nat := ((List.range n).filter f).foldl (fun m i => m + 2 ^ i) 0

/-- The entry of a partition in measurement block 5, zeros where the Lease defines none (Table 13.2). -/
def State.partBlock (s : State) (p : Nat) : List Byte :=
  let x := s.shapeOf p
  if !s.defined p then List.replicate 50 0
  else
    [BitVec.ofNat 8 p, if x.openKind then 1 else 0] ++ leBytes 2 x.stackSet.toNat ++ leBytes 1 x.sites.toNat ++ leBytes 1 x.faces.toNat
      ++ leBytes 3 (bitmap 24 fun q => (s.port q).carries p) ++ leBytes 2 x.narrow.toNat
      ++ leBytes 15 (bitmap 113 fun c => s.usesCluster p c && (s.clus.getD c {}).unchecked)
      ++ leBytes 15 (bitmap 113 fun c => s.usesCluster p c && (s.clus.getD c {}).offline)
      ++ leBytes 8 (s.tal.audit.getD p 0).toNat ++ leBytes 1 (s.hst.tdi.getD p 0)

/-- A site in measurement block 6: its state, and in RUN what R180 enters. -/
def State.siteBlock (s : State) (t : Nat) : List Byte :=
  let x := s.site t
  let st : Nat := match x.state with
    | .unassigned => 0 | .down => 1 | .boot => 2 | .run => 3 | .resync => 4 | .disabled => 5 | .quarantined => 6
  if x.state = .run then [BitVec.ofNat 8 st, BitVec.ofNat 8 x.desc] ++ leBytes 8 x.unitId.toNat ++ leBytes 48 x.measurement.toNat
    ++ leBytes 2 x.svn.toNat
  else BitVec.ofNat 8 st :: List.replicate 59 0

/-- Measurement blocks 1 to 7 (Table 13.2), block 5 of the partitions listed; the order of the fields within a block is the table's
(DESIGN CHOICE, log 94). -/
def State.block (s : State) (parts : List Nat) : Nat → List Byte
  | 1 => leBytes 48 Config.romDigest.toNat
  | 2 => leBytes 48 (Config.fwDigest s.fab.digest).toNat
  | 3 => leBytes 32 s.fab.digest.toNat ++ leBytes 32 s.fab.compat.toNat
  | 4 => leBytes 1 s.fuse.lifecycle ++ leBytes 8 s.fuse.unitId.toNat ++ [0xB0]
  | 5 => parts.flatMap s.partBlock
  | 6 => (List.range 8).flatMap s.siteBlock
  | 7 => leBytes 4 s.fab.gen.toNat ++ leBytes 1 s.lse.node ++ leBytes 32 (bitmap 256 fun n => (s.node n).member)
    ++ (List.range 24).flatMap fun q => [BitVec.ofNat 8 (s.port q).state.num, BitVec.ofNat 8 (s.port q).reason]
  | _ => []

/-- The package evidence: measurement blocks 1 to 7 (R180, R214, R349). -/
def State.packageEvidence (s : State) : List Byte := [1, 2, 3, 4, 5, 6, 7].flatMap (s.block allParts)

/-- EVIDENCE under a candidate, without its signatures. -/
def State.evidenceMsg (s : State) (c : Candidate) : List Byte :=
  leBytes 4 c.gen.toNat ++ leBytes 32 c.nonce.toNat ++ leBytes 8 s.fuse.unitId.toNat
    ++ [BitVec.ofNat 8 s.lse.node, BitVec.ofNat 8 s.fuse.lifecycle] ++ leBytes 32 s.fab.digest.toNat ++ s.packageEvidence
    ++ s.freeBytes (1568 + 97 + 2592 + 97)

/-- The candidate set and answered with EVIDENCE (R216, R218 item 1); with the DRBG stopped there is no ephemeral key to answer with
(R385). -/
def State.answerCandidate (s : State) (c : Candidate) : State :=
  let e := s.evidenceMsg c
  let t := { s.used with fab := { s.fab with cand := some { c with evidence := e } } }
  s.withDrbg (t.routeClear c.foreman 0x11 (t.signed e)).used

/-- The candidate's keys zeroised: a domain secret that is not in force, and what was derived from it (R19, R216). -/
def State.dropCandidate (s : State) : State :=
  match s.fab.cand with
  | none => s
  | some c =>
    let t := { s with fab := { s.fab with cand := none } }
    if c.gen = s.fab.gen ∧ s.fab.dstate = 3 then t else (t.killSlot 9).dropGen c.gen

/-- A formation or join that failed: 0x3008 and YF_IRQ_STATUS.FORM_FAIL. -/
def State.formFail (s : State) : State := (s.logged 0x3008 0 .none).irq .yf 0 1

/-- This node's rank in the foreman list. -/
def State.myRank (s : State) : Option Nat := (List.range 4).find? fun k => s.lease.topo.foreman.getD k 0xFF == s.lse.node

/-- A formation started by this node with a generation (R217, R219): its own candidate, a fresh domain secret in slot 9, FORM_START
broadcast; none while the DRBG is stopped (R385). -/
def State.startFormation (s : State) (g : Word) (rank : Nat) (switch : Dword) : State :=
  let nonce : BitVec 256 := s.rand.setWidth 256
  let t := s.dropCandidate.used
  let t := (t.putKey 9 0xB 0 5 1 (g.setWidth 16) ((t.rand.setWidth 256).setWidth 512)).used
  let start := t.signed (leBytes 4 g.toNat ++ [BitVec.ofNat 8 rank] ++ leBytes 8 t.fuse.unitId.toNat ++ [BitVec.ofNat 8 t.lse.node]
    ++ leBytes 32 nonce.toNat ++ leBytes 32 t.fab.digest.toNat)
  let c : Candidate := { gen := g, rank, foreman := t.lse.node, mine := true, nonce, start, confirms := [t.lse.node], switch }
  let t := { t.used with fab := { t.fab with cand := some c, genSeen := g, dstate := if t.fab.dstate = 3 then 3 else 2 } }
  s.withDrbg (t.bcastClear 0x10 start)

/-- FORM_START_TIMER: a listed foreman or deputy starts a formation (R217). -/
def formStartTimer (s : State) : State :=
  let f := s.fab
  let free : Bool := match f.cand with
    | none => true
    | some c => s.myRank == some 0 && !c.mine && !c.confirmed
  match s.myRank with
  | none => s
  | some k =>
    if s.lease.topo.listed ≤ 1 ∨ ¬ (f.dstate = 1 ∨ f.dstate = 2) ∨ !free then s else s.startFormation (f.genSeen + 1) k 0

/-- FORM_START_RECEIVE: an authenticated FORM_START becomes the candidate when it is better, higher generation first and then lower
rank, and CONFIRM has not been sent (R215, R216). A member takes only a later generation of its acting foreman's (R221). -/
def formStartReceive (p : Nat) (v : PkVerdict) (s : State) : State :=
  match s.takeWhole p 0x10 with
  | none => s
  | some (m, t) =>
    let g : Word := BitVec.ofNat 32 (m.le 0 4)
    let rank := m.le 4 1
    let node := m.le 13 1
    if !v.sigsOk || !t.namesNode m 5 13 || t.lease.topo.foreman.getD rank 0xFF != node then t
    else
      let seen := if t.fab.genSeen.toNat < g.toNat then g else t.fab.genSeen
      let t := { t with fab := { t.fab with genSeen := seen } }
      let better : Bool := match t.fab.cand with
        | none => true
        | some c => !c.confirmed && (decide (c.gen.toNat < g.toNat) || c.gen == g && decide (rank < c.rank))
      let allowed : Bool := if t.fab.dstate = 3 then decide (t.fab.gen.toNat < g.toNat) && node == t.fab.foreman
        else t.fab.dstate == 1 || t.fab.dstate == 2
      if !better || !allowed then t
      else
        let t := t.dropCandidate
        let t := { t with fab := { t.fab with dstate := if t.fab.dstate = 3 then 3 else 2 } }
        t.answerCandidate { gen := g, rank, foreman := node, nonce := BitVec.ofNat 256 (m.le 14 32)
                            start := m.payload.take (78 + sigLen) }

/-! ### Keys (R219) -/

/-- TH of a node: FORM_START and its EVIDENCE without signatures. -/
def formTh (start evidence : List Byte) : List Byte := kmac256 (ascii "YEBIN3") (start ++ evidence) 64 "YEBIN3-TRANSCRIPT"

/-- KEK. -/
def formKek (v : PkVerdict) (th : List Byte) : List Byte := kmac256 (v.ssKem ++ v.ssEcdh) th 32 "YEBIN3-KEK"

/-- The mask of WRAP. -/
def formMask (kek : List Byte) (g : Word) : List Byte := kmac256 kek (leBytes 4 g.toNat) 32 "YEBIN3-DS-MASK"

/-- TAG. -/
def formTag (kek : List Byte) (g : Word) (wrap : List Byte) : List Byte := kmac256 kek (leBytes 4 g.toNat ++ wrap) 16 "YEBIN3-DS-TAG"

/-- The CONFIRM value of a node. -/
def formConfirm (ds th : List Byte) (unitId : Dword) : List Byte := kmac256 ds (th ++ leBytes 8 unitId.toNat) 32 "YEBIN3-CONFIRM"

/-- The domain secret of a generation that this node gives out. -/
def State.secretOf (s : State) (g : Word) : List Byte := s.keyBytes (s.secretSlot g)

/-- REJECT to a node. -/
def State.sendReject (s : State) (g : Word) (n : Nat) : State :=
  let b := leBytes 4 g.toNat ++ leBytes 8 (s.nodeRec n).unitId.toNat ++ leBytes 2 0x3009
  (((s.routeClear n 0x15 (s.signed b)).used).logged 0x3009 0 (.unit .node n 0)).irq .yf 0 1

/-- EVIDENCE_RECEIVE: the foreman of a formation, or a member of the foreman list that a joiner asks, checks EVIDENCE and answers KEYS or
REJECT (R218, R219, R220). -/
def evidenceReceive (p : Nat) (v : PkVerdict) (s : State) : State :=
  match s.takeWhole p 0x11 with
  | none => s
  | some (m, t) =>
    let g : Word := BitVec.ofNat 32 (m.le 0 4)
    let n := m.le 44 1
    let mine := (t.fab.cand.filter fun c => c.mine && c.gen == g)
    let join := t.myRank.isSome && t.fab.dstate == 3 && g == t.fab.gen
    if mine.isNone ∧ !join then t
    else
      let start := (mine.map (·.start)).getD []
      let echoed : Bool := match mine with
        | some c => m.le 4 32 == c.nonce.toNat
        | none => true
      if !(v.sigsOk && t.namesNode m 36 44 && echoed && m.le 45 1 == t.fuse.lifecycle && t.digestOk (BitVec.ofNat 256 (m.le 46 32))) then
        t.sendReject g n
      else
        let th := formTh start (m.payload.take (78 + t.packageEvidence.length + 1568 + 97 + 2592 + 97))
        let kek := formKek v th
        let incarn : Word := if mine.isSome then 0 else if (t.node n).seen then (t.node n).incarn + 1 else 0
        let wrap := xorBytes (t.secretOf g) (formMask kek g)
        let b := leBytes 4 g.toNat ++ leBytes 8 (t.nodeRec n).unitId.toNat ++ leBytes 4 incarn.toNat ++ t.freeBytes (1568 + 97) ++ wrap
          ++ formTag kek g wrap
        let add (l : List (Nat × List Byte × Word)) : List (Nat × List Byte × Word) := (n, th, incarn) :: l.filter (·.1 != n)
        let t := match mine with
          | some c => { t.used with fab := { t.fab with cand := some { c with accepted := add c.accepted } } }
          | none => { t.used with fab := { t.fab with joins := add t.fab.joins } }
        (t.routeClear n 0x12 (t.signed b)).used

/-- KEYS_RECEIVE: the node unwraps the domain secret, sends CONFIRM and derives its keys; a failed TAG is logged with 0x300D (R218
item 4, R219, R220). -/
def keysReceive (p : Nat) (v : PkVerdict) (s : State) : State :=
  match s.takeWhole p 0x12 with
  | none => s
  | some (m, t) =>
    let g : Word := BitVec.ofNat 32 (m.le 0 4)
    match t.fab.cand with
    | none => t
    | some c =>
      if !v.sigsOk ∨ c.mine ∨ c.keysIn ∨ g ≠ c.gen ∨ m.le 4 8 ≠ t.fuse.unitId.toNat then t
      else
        let th := formTh c.start c.evidence
        let kek := formKek v th
        let wrap := (m.payload.drop (16 + 1568 + 97)).take 32
        if formTag kek g wrap ≠ (m.payload.drop (16 + 1568 + 97 + 32)).take 16 then t.logged 0x300D 0 .none
        else
          let ds := xorBytes wrap (formMask kek g)
          let incarn : Word := BitVec.ofNat 32 (m.le 12 4)
          let t := t.putKey 9 0xB 0 5 3 (g.setWidth 16) (BitVec.ofNat 512 (ofLe ds))
          let t := if c.join then t.modNode t.lse.node fun e => { e with incarn, seen := true } else t
          let t := { t with fab := { t.fab with cand := some { c with keysIn := true, confirmed := true, incarn } } }
          let t := t.routeClear c.foreman 0x13 (leBytes 4 g.toNat ++ leBytes 8 t.fuse.unitId.toNat ++ formConfirm ds th t.fuse.unitId)
          t.deriveDomain g fun p => if c.join then t.reachedEpoch p else 0

/-! ### Becoming a member (R218, R220, R221) -/

/-- The running generation becomes g: slots 8 and 9 exchange their secrets, flows restart at SEQ 0 under the new keys, and the old
keys wait for their end; its members are those that FORMED names, each with incarnation 0 (R199, R218, R221). -/
def State.switchTo (s : State) (g : Word) : State :=
  let a := s.slot 8
  let b := s.slot 9
  let mark (k : FlowKey) : FlowKey := if k.gen = g then k else { k with old := true }
  let t := (s.setSlot 8 b).setSlot 9 a
  let renew (n : Nat) (e : NodeEnt) : NodeEnt :=
    { e with member := t.fab.nextMembers.getLsbD n || n == t.lse.node, incarn := 0, seen := e.seen || t.fab.nextMembers.getLsbD n }
  { t with fab := { t.fab with
    gen := g, nextGen := none, keys := t.fab.keys.map mark, tx := [], epoch := [], joins := []
    nodes := if t.fab.dstate = 3 then t.fab.nodes.map fun (n, e) => (n, renew n e) else t.fab.nodes } }

/-- This node becomes a member of a first formation or by a join (R218, R220, R413, R418). -/
def State.becomeMember (s : State) (c : Candidate) (member : Nat → Bool) : State :=
  let t := s.switchTo c.gen
  let set (r : NodeRec) (s : State) : State := s.modNode r.node fun e =>
    { e with listed := true, member := member r.node || r.node == s.lse.node, seen := e.seen || member r.node, dead := false, timeouts := 0
             cause := 0, incarn := if c.join then e.incarn else 0 }
  let t := t.lease.topo.nodes.foldl (fun s r => set r s) t
  let t := { t with fab := { t.fab with
    dstate := 3, cand := none, foreman := c.foreman, frank := c.rank, self := c.mine, rx := [] } }
  let t := if c.mine then { t with clk := { t.clk with valid := true } } else t
  let ep (p : Nat) : Nat × Word := (p, if c.join then t.reachedEpoch p else 0)
  let t := { t with fab := { t.fab with epoch := t.myParts.map ep } }
  (t.ordersEntry.irq .yf 0 2).checkRoutes

/-- A FORMED taken: a first formation makes the node a member; over a running generation the switch is set, or made at once when its
time has passed (R218, R221). -/
def State.acceptFormed (s : State) (c : Candidate) (bitmap : BitVec 256) (switch : Dword) : State :=
  if s.fab.dstate ≠ 3 then s.becomeMember c fun n => bitmap.getLsbD n
  else
    let t := { s with fab := { s.fab with cand := none, nextGen := some (c.gen, switch), nextMembers := bitmap } }
    if switch.toNat ≤ s.clk.shift.toNat then t.switchTo c.gen else t

/-- The foreman sends FORMED and takes it itself (R218 item 5). -/
def State.sendFormed (s : State) (c : Candidate) : State :=
  let bitmap : BitVec 256 := c.confirms.foldl (fun b n => b ||| ((1 : BitVec 256) <<< n)) 0
  let b := leBytes 4 c.gen.toNat ++ leBytes 32 bitmap.toNat ++ leBytes 8 c.switch.toNat
  let t := (s.bcastClear 0x14 (s.signed b)).used
  (t.deriveDomain c.gen fun _ => 0).acceptFormed c bitmap c.switch

/-- A JOINED accepted: the joiner's incarnation is recorded, its flows derived afresh with SEQ and windows at 0, and its dead
declaration cleared (R220 item 4, R222). -/
def State.acceptJoined (s : State) (n : Nat) (incarn : Word) : State :=
  let t := s.dropKeys fun k => k.src == n || k.dst == n
  let t := t.modNode n fun e => { e with incarn, seen := true, member := true, dead := false, timeouts := 0, cause := 0 }
  let t := { t with fab := { t.fab with tx := t.fab.tx.filter (·.dst != n), rx := t.fab.rx.filter (·.src != n) } }
  let add (s : State) (p : Nat) : State := if (s.partNodes p).contains n then s.addFlows p n s.fab.gen (s.flowEpoch p) else s
  (t.myParts.foldl add t).irq .yf 0 2

/-- CONFIRM_RECEIVE: a CONFIRM whose value is the one computed counts; a joiner's brings JOINED, the last one of a formation FORMED (R203,
R218, R220). -/
def confirmReceive (p : Nat) (s : State) : State :=
  match s.takeWhole p 0x13 with
  | none => s
  | some (m, t) =>
    let named (a : Nat × List Byte × Word) : Bool := (t.nodeRec a.1).unitId.toNat == m.le 4 8
    let good (g : Word) (n : Nat) (th : List Byte) : Bool :=
      m.le 0 4 == g.toNat && (m.payload.drop 12).take 32 == formConfirm (t.secretOf g) th (t.nodeRec n).unitId
    let joiner := if t.fab.dstate = 3 ∧ m.le 0 4 = t.fab.gen.toNat then t.fab.joins.find? named else none
    match joiner, t.fab.cand with
    | some (n, th, incarn), _ =>
      if !good t.fab.gen n th then t
      else
        let t := { t with fab := { t.fab with joins := t.fab.joins.filter (·.1 != n) } }
        (t.bcastFlow 0x16 (leBytes 4 t.fab.gen.toNat ++ [BitVec.ofNat 8 n] ++ leBytes 4 incarn.toNat)).acceptJoined n incarn
    | none, some c =>
      match (if c.mine then c.accepted.find? named else none) with
      | none => t
      | some (n, th, _) =>
        if !good c.gen n th then t
        else
          let c := { c with confirms := insNat n c.confirms }
          let t := { t with fab := { t.fab with cand := some c } }
          if t.lease.topo.listed ≤ c.confirms.length then t.sendFormed c else t
    | none, none => t

/-- FORM_WINDOW_END: FORMED with a quorum confirmed, else 0x3008 (R218 item 5). -/
def formWindowEnd (s : State) : State :=
  match s.fab.cand with
  | none => s
  | some c =>
    if !c.mine then s
    else if s.lease.topo.minMembers ≤ c.confirms.length then s.sendFormed c
    else s.formFail

/-- FORMED_RECEIVE: a FORMED of the candidate's generation, whose keys have come (R216, R218). -/
def formedReceive (p : Nat) (v : PkVerdict) (s : State) : State :=
  match s.takeWhole p 0x14 with
  | none => s
  | some (m, t) =>
    match t.fab.cand with
    | none => t
    | some c =>
      if !v.sigsOk ∨ c.mine ∨ c.join ∨ !c.keysIn ∨ m.le 0 4 ≠ c.gen.toNat then t
      else t.acceptFormed c (BitVec.ofNat 256 (m.le 4 32)) (BitVec.ofNat 64 (m.le 36 8))

/-- REJECT_RECEIVE: a REJECT of this node's evidence is logged (R218). -/
def rejectReceive (p : Nat) (v : PkVerdict) (s : State) : State :=
  match s.takeWhole p 0x15 with
  | none => s
  | some (m, t) =>
    if v.sigsOk ∧ m.le 4 8 = t.fuse.unitId.toNat then (t.logged 0x3009 0 (.unit .node m.src 0)).irq .yf 0 1 else t

/-- JOINED_RECEIVE: the joiner itself becomes a member; every other member takes its incarnation (R220). -/
def joinedReceive (p : Nat) (s : State) : State :=
  match s.takeMsg p 0x16 with
  | none => s
  | some (m, t) =>
    let n := m.le 4 1
    match t.fab.cand with
    | some c =>
      if c.join ∧ !t.fab.self ∧ c.keysIn ∧ n = t.lse.node ∧ m.le 0 4 = c.gen.toNat then t.becomeMember c fun _ => true
      else if t.fab.dstate = 3 ∧ m.le 0 4 = t.fab.gen.toNat ∧ n ≠ t.lse.node then t.acceptJoined n (BitVec.ofNat 32 (m.le 5 4)) else t
    | none =>
      if t.fab.dstate = 3 ∧ m.le 0 4 = t.fab.gen.toNat ∧ n ≠ t.lse.node then t.acceptJoined n (BitVec.ofNat 32 (m.le 5 4)) else t

/-- CANDIDATE_TIMEOUT (R216). -/
def candidateTimeout (s : State) : State :=
  match s.fab.cand with
  | none => s
  | some c => if c.join then s else s.dropCandidate.formFail

/-! ### Joining and leaving (R213, R220, R221) -/

/-- EVIDENCE sent to a foreman of the list for a join (R220). -/
def State.joinVia (s : State) (rank : Nat) (g : Word) : State :=
  let t := s.dropCandidate
  let t := { t with fab := { t.fab with dstate := 4, joinPos := rank } }
  t.answerCandidate { gen := g, rank, foreman := t.lease.topo.foreman.getD rank 0xFF, join := true }

/-- The next rank from `k` on whose node is listed and is not this one. -/
def State.nextForeman (s : State) (k : Nat) : Option Nat :=
  (List.range 4).find? fun r => decide (k ≤ r) && s.lease.topo.foreman.getD r 0xFF != 0xFF && s.lease.topo.foreman.getD r 0xFF != s.lse.node

/-- HELLO_RECEIVE: the peer is checked against the Lease; the port is up, miswired or disputed accordingly; a member's HELLO starts a
join (R191, R213, R214, R217, R220). -/
def helloReceive (p : Nat) (s : State) : State :=
  match s.takeMsg p 1 with
  | none => s
  | some (m, t) =>
    if (t.port p).state = .unused ∨ (t.port p).state = .down then t
    else if !t.helloAgrees p m then
      ((((t.portState p .miswired).clearTx p).irq .yf 0 3).logged 0x3006 0 (.unit .port p 0)).checkRoutes
    else
      let g : Word := BitVec.ofNat 32 (m.le 16 4)
      let member := (m.le 15 1) % 2 == 1
      let t := t.restoreCredits p m 116
      let t := { t with fab := { t.fab with genSeen := if t.fab.genSeen.toNat < g.toNat then g else t.fab.genSeen } }
      let t := if (t.port p).state = .hello ∨ (t.port p).state = .miswired then t.portUp p else t
      let t := if (t.port p).state = .up ∧ !t.digestOk (BitVec.ofNat 256 (m.le 20 32)) then t.disputePort p 1 else t
      if member ∧ t.fab.cand.isNone ∧ (t.fab.dstate = 1 ∨ t.fab.dstate = 2 ∨ t.fab.dstate = 5) then
        match (List.range 4).find? fun r => t.lease.topo.foreman.getD r 0xFF == m.le 14 1 with
        | some r => if m.le 14 1 = t.lse.node then t else t.joinVia r g
        | none => t
      else t

/-- JOIN_TIMEOUT: no KEYS within 100 ms: the next-ranked member, or 0x3008 at the end of the list (R220). -/
def joinTimeout (s : State) : State :=
  match s.fab.cand with
  | none => s
  | some c =>
    if !c.join ∨ c.keysIn ∨ s.fab.self then s
    else match s.nextForeman (s.fab.joinPos + 1) with
      | some r => s.joinVia r c.gen
      | none => s.dropCandidate.formFail

/-- JOIN_RETRY: a joiner that nobody answered tries the list again (R220). -/
def joinRetry (s : State) : State :=
  if s.fab.dstate = 4 ∧ s.fab.cand.isNone then
    match s.nextForeman 0 with
    | some r => s.joinVia r s.fab.genSeen
    | none => s
  else s

/-- LEAVE_DOMAIN: every port has been down, miswired or disputed for 100 ms: the domain keys are zeroised, every partition receives a
partition fault, and the node joins again (R221). -/
def leaveDomain (s : State) : State :=
  let off (p : Nat) : Bool := let x := (s.port p).state
    x == .down || x == .miswired || x == .disputed || x == .unused
  if s.fab.dstate ≠ 3 ∨ s.lease.topo.listed ≤ 1 ∨ !(List.range 24).all off then s
  else
    let t := ((((s.dropKeys fun _ => true).dropDomainKeys fun _ => true).dropPads fun _ => true).killSlot 8).killSlot 9
    let t := { t with fab := { t.fab with
      dstate := 5, cand := none, nextGen := none, joins := [], self := false, foreman := 0xFF, tx := [], rx := []
      nodes := t.fab.nodes.map fun (n, e) => (n, { e with member := false }) } }
    (allParts.filter t.defined).foldl (fun s p => s.partFault 0xA00D p (.unit .node s.lse.node 0)) t

/-- GENERATION_SWITCH: the shift clock has reached SWITCH: members send under the new generation (R221). -/
def generationSwitch (s : State) : State :=
  match s.fab.nextGen with
  | none => s
  | some (g, w) => (s.reach w).switchTo g

/-! ### Dead nodes (R222) -/

/-- REQUEST_TIMEOUT: a request sent and not answered fails with 0x3101, and its node's count rises; at 3 the node is dead. A wait
that its home has acknowledged has no timer (R222, R296). -/
def requestTimeout (tag : Nat) (s : State) : State :=
  match s.reqOf tag with
  | none => s
  | some r =>
    if !r.sent ∨ r.acked then s
    else
      let t := ((s.flowAnswered r).finishReq r 0x3101 false []).bump 0x18 r.node 1
      let n := (t.node r.node).timeouts + 1
      let t := t.modNode r.node fun e => { e with timeouts := min 3 n }
      (if 3 ≤ n then t.declareDead r.node 1 else t).cartsAdvance

/-- YF_NODE_CMD REVIVE: the dead declaration of a node is cleared and its count is 0 (R222, R224). -/
def yfRevive (ap : Aperture) (n : Nat) (s : State) : State :=
  if opAp ap then s.modNode n fun e => { e with dead := false, timeouts := 0, cause := 0 } else s

end Sys2Proof.Machine
end

