-- ==== Sys2Proof/Machine/Faces.lean ====
section
/-!
DEFINITION. Machine/Faces.lean: the faces (10): arming and clearing targets, contributions, the face cache, gathers, and what resets
do to targets (R253 to R267, R273 to R278, R282, R283).
-/

namespace Sys2Proof.Machine

/-! ### Arming (R259 to R262) -/

/-- The fields of an ARM (Table 10.3). -/
structure Arm where
  op       : Nat := 0
  fmt      : Nat := 0
  win      : Nat := 0
  units    : Nat := 0
  share    : Nat := 0
  bufOff   : Nat := 0
  expected : Nat := 0
  tally    : Nat := 0
  deriving DecidableEq, Repr

/-- Buffer bytes of a target (R260). -/
def bufBytes (op fmt units : Nat) : Nat := if op = 3 then units * 64 else units * elems fmt * 4

/-- The window check of R260: one stack window of the face's quadrant, or inner pages of the partition there, and no other armed
window. -/
def State.windowOk (s : State) (f p : Nat) (a : Arm) : Bool :=
  let q := f / 2
  let addr := a.win * 64
  let place : Bool :=
    if addr < 0xC000000000 then s.stackOwner (a.win / 2 ^ 30) == p && a.win / 2 ^ 30 / 3 == q
      && decide (a.win % 2 ^ 30 + a.units ≤ 805306368)
    else quadOf addr == q && s.innerOwner addr (a.units * 64) == p
  a.win % 4 == 0 && decide (1 ≤ a.units) && decide (a.units ≤ 16384) && place
    && s.face.targets.all fun (_, t) => t.state == .empty || decide (a.win + a.units ≤ t.win) || decide (t.win + t.units ≤ a.win)

/-- The buffer check of R260: at most 2 MiB, within the face-buffer area of a share the partition owns, and no other target's. -/
def State.bufferOk (s : State) (f p : Nat) (a : Arm) : Bool :=
  let k := f / 2 * 3 + a.share
  let n := bufBytes a.op a.fmt a.units
  decide (a.share < 3) && s.stackOwner k == p && decide (n ≤ 2097152)
    && decide (a.bufOff * 64 + n ≤ (s.area k 2).2 * 2097152)
    && s.face.targets.all fun (t, g) => g.state == .empty || t / 128 * 3 + g.share != k
      || decide (a.bufOff * 64 + n ≤ g.bufOff * 64) || decide (g.bufOff * 64 + bufBytes g.op g.fmt g.units ≤ a.bufOff * 64)

/-- A target closes: CLOSED, its tally signalled in the same cycle (R263). -/
def State.closeTarget (s : State) (n : Nat) : State :=
  let p := s.faceOwner (n / 64)
  ((s.modTarget n fun t => { t with state := .closed }).irqVis .face p 1).signalLocal p (s.target n).tally

/-- ARM of a target for a partition: the state and the CODE of Table 10.13 (R259 to R261). -/
def State.armTarget (s : State) (p n : Nat) (a : Arm) : State × Nat :=
  let f := n / 64
  let t := s.target n
  if 512 ≤ n then (s, 3)
  else if s.faceOwner f ≠ p ∨ p = 0 ∨ !s.ownsTally p a.tally then (s, 2)
  else match t.state with
    | .opened =>
      if a.expected = 0 ∨ a.expected < t.arrived then (s, 7)
      else
        let u := s.modTarget n fun t => { t with expected := a.expected, tally := a.tally }
        (if a.expected = t.arrived then u.closeTarget n else u, 0)
    | .empty =>
      if (a.op = 3 ∧ a.fmt ≠ 0) ∨ elems a.fmt = 0 then (s, 4)
      else if !s.windowOk f p a then (s, 5)
      else if !s.bufferOk f p a then (s, 6)
      else if a.expected = 0 then (s, 7)
      else (s.modTarget n fun t => { t with
        state := .opened, op := a.op, fmt := a.fmt, win := a.win, units := a.units, share := a.share, bufOff := a.bufOff
        expected := a.expected, arrived := 0, tally := a.tally, flags := 0, acc := [], wait := [], clearing := none }, 0)
    | _ => (s, 3)

/-- The arguments of FACE_CMD ARM (Table 10.17). -/
def armArgs (s : State) (a : Nat) (tally : BitVec 16) : Arm :=
  let a0 := s.arg .face a 0x10
  let a1 := s.arg .face a 0x14
  { op := (a1.extractLsb' 30 2).toNat, fmt := (a1.extractLsb' 26 4).toNat, share := (a1.extractLsb' 24 2).toNat
    win := (a1.extractLsb' 15 6).toNat * 2 ^ 32 + a0.toNat, units := (a1.extractLsb' 0 15).toNat
    bufOff := ((s.arg .face a 0x18).extractLsb' 0 24).toNat, expected := ((s.arg .face a 0x1C).extractLsb' 0 24).toNat
    tally := tally.toNat }

/-- FACE_CMD from an aperture: a partition on its own faces, the Lamp on every face (R285). `f` gets the instance and the partition
whose face it is. -/
def State.faceCmd (s : State) (ap : Aperture) (n : Nat) (f : Nat → Nat → State → State) : State :=
  let own := s.faceOwner (n / 64)
  match ap with
  | .part p => s.command .face p fun s => if 512 ≤ n then s.cmdEnd .face p n 3 else if own = p then f p p s else s.cmdEnd .face p n 2
  | .lamp => s.command .face 7 fun s => if 512 ≤ n then s.cmdEnd .face 7 n 3 else if own ≠ 0 then f 7 own s else s.cmdEnd .face 7 n 2
  | _ => s

/-- FACE_CMD ARM. -/
def faceArm (ap : Aperture) (target : Nat) (tally : BitVec 16) (s : State) : State :=
  s.faceCmd ap target fun a p s =>
    let (t, code) := s.armTarget p target (armArgs s a tally)
    t.cmdEnd .face a target code

/-- Operations held at a target, or admitted for it and not yet passed on, answered with ERROR 0xB003 (R262, R264). -/
def State.refuseWaits (s : State) (l : List Nat) : State := l.foldl (fun s id => s.failEntry id 0xB003) s

/-- The operations admitted for a target. -/
def State.atTarget (s : State) (n : Nat) : List HomeEntry := s.home.entries.filter fun e => e.target == some n && !e.answered

/-- A clear in progress ends with what ends it, and so does its command (R80, R266). -/
def State.endClear (s : State) (n : Nat) : State :=
  match (s.target n).clearing with
  | some a => (s.modTarget n fun t => { t with clearing := none }).cmdEnd .face a n 0
  | none => s

/-- A gather whose target is no longer CLOSED when it would read it is refused (R255, R274; DEDUCED, log 91). -/
def State.dropGather (s : State) (g : Gather) : State :=
  let t := { s with face := { s.face with gathers := s.face.gathers.filter (·.task != g.task) } }
  ((t.opFault g.part (some g.ctx) 0xB005 (.unit .target g.target 0)).markFailed (.task g.task) g.part (some g.ctx)).haltTask g.task 0xB005

/-- A target's buffer, by its share, first line and lines. -/
def Target.buffer (t : Target) (n : Nat) : Nat × Nat × Nat :=
  (n / 128 * 3 + t.share, t.bufOff, (bufBytes t.op t.fmt t.units + 63) / 64)

/-- A target leaves its buffer, whose content is from then on not stated, and its cache lines go (R254, R260). -/
def State.leaveBuffer (s : State) (n : Nat) : State :=
  let t := s.target n
  let f := n / 64
  let other (l : Nat) : Bool := l / 32768 != n
  let b := t.buffer n
  { s with face := { s.face with
    cache := s.face.cache.modD f [] (·.filter other), fetch := s.face.fetch.modD f [] (·.filter other)
    stale := if t.state = .empty ∨ s.face.stale.contains b then s.face.stale else b :: s.face.stale } }

/-- DISARM: EMPTY, accumulators and held contributions discarded; gathers of the target that have not read it are refused (R262). -/
def State.disarm (s : State) (n : Nat) : State :=
  let l := (s.atTarget n).map (·.id)
  let t := ((s.endClear n).leaveBuffer n).modTarget n fun _ => {}
  let t := ((t.face.gathers.filter fun g => g.target == n && !g.read).foldl State.dropGather t).refuseWaits l
  t.modTarget n fun t => { t with wait := [] }

/-- FACE_CMD DISARM. -/
def faceDisarm (ap : Aperture) (target : Nat) (s : State) : State :=
  s.faceCmd ap target fun a _ s => (s.disarm target).cmdEnd .face a target 0

/-- The clear of a target: identities, ARRIVED 0, flags 0, OPEN; EXPECTED and TALLY kept (R255, R266, R274). -/
def State.clearTarget (s : State) (n : Nat) : State :=
  s.modTarget n fun t => { t with state := .opened, arrived := 0, flags := 0, acc := [], clearing := none }

/-- FACE_CMD CLEAR begins; contributions wait until it ends (R281). -/
def faceClear (ap : Aperture) (target : Nat) (s : State) : State :=
  s.faceCmd ap target fun a _ s =>
    if (s.target target).state = .empty ∨ (s.target target).clearing.isSome then s.cmdEnd .face a target 3
    else (s.modTarget target fun t => { t with clearing := some a }).cmdBusy .face a target

/-- FACE_CLEAR_DONE: the clear ends, and waiting contributions may be applied (R266, R281). -/
def faceClearDone (target : Nat) (s : State) : State :=
  match (s.target target).clearing with
  | none => s
  | some a => (s.clearTarget target).cmdEnd .face a target 0

/-! ### Failing (R282, R283) -/

/-- A target fails: FAILED, 0xB006 to the partition, what waits answered with 0xB003 but for READs, which it still serves (R263, R264,
R283, Table 10.4). -/
def State.failTarget (s : State) (n : Nat) : State :=
  let p := s.faceOwner (n / 64)
  let read (id : Nat) : Bool := ((s.entry id).map (·.op.opcode)) == some 1
  let l := (s.target n).wait.filter fun id => !read id
  ((((s.endClear n).modTarget n fun t => { t with state := .failed, wait := t.wait.filter read }).irqVis .face p 3).toPart 0xB006 p
    (.unit .target n 0)).refuseWaits l

/-- An engine reset of a face: every armed target fails, and the cache is discarded with what it had not written back, so that an
assembled unit that stood in it reads as a free value (R254, Table 10.12). -/
def State.resetFace (s : State) (f : Nat) : State :=
  let armed := (s.face.targets.filter fun (n, t) => n / 64 == f && t.state != .empty).map (·.1)
  let t := armed.foldl State.failTarget s
  let c := s.face.cache.getD f []
  let lose (n : Nat) (g : Target) : Target := if n / 64 = f then { g with store := g.store.filter fun (u, _) => !c.contains (n * 32768 + u) } else g
  let ranges := armed.map fun n => (s.target n).buffer n
  { t with face := { t.face with targets := t.face.targets.map fun (n, g) => (n, lose n g)
                                 stale := ranges.foldl (fun l b => if l.contains b then l else b :: l) t.face.stale
                                 cache := t.face.cache.erase f, fetch := t.face.fetch.erase f
                                 gathers := t.face.gathers.filter fun g => g.target / 64 != f } }

/-- An entry whose operation is dropped without an answer; it is freed as an answered one is, and the request of an engine of this node
with it (R239, Table 10.12). -/
def State.dropEntry (s : State) (id : Nat) : State :=
  let t := s.modEntry id fun e => { e with answered := true }
  match s.entry id with
  | some e => if e.src = s.lse.node then { t with req := { t.req with out := t.req.out.filter (·.tag != e.tag) } } else t
  | none => t

/-- A warm start, or a face that leaves its partition: every target EMPTY, what waited dropped without a fault (Table 10.12). -/
def State.emptyFace (s : State) (f : Nat) : State :=
  let mine := s.face.targets.filter fun (n, _) => n / 64 == f
  let t := mine.foldl (fun (s : State) (n, _) => (s.endClear n).leaveBuffer n) s
  let t := { t with face := { t.face with
    targets := t.face.targets.filter fun (n, _) => n / 64 != f
    cache := t.face.cache.erase f, fetch := t.face.fetch.erase f
    gathers := t.face.gathers.filter fun g => g.target / 64 != f } }
  ((mine.map fun (n, _) => (s.atTarget n).map (·.id)).flatten).foldl State.dropEntry t

/-! ### The face cache (R254) -/

/-- The cache lines of units i to i + n − 1 of a target's window, numbered target × 2^15 + line of the buffer. -/
def unitLines (n : Nat) (t : Target) (i cnt : Nat) : List Nat :=
  let per := if t.op = 3 then 1 else elems t.fmt / 16
  (List.range (cnt * per)).map fun j => n * 32768 + i * per + j

/-- The lines a contribution touches. -/
def entryLines (n : Nat) (t : Target) (e : HomeEntry) : List Nat :=
  unitLines n t ((e.op.addr % 2 ^ 44 - t.win * 64) / 64) (e.op.size / 64)

/-- The face's cache holds every line. -/
def State.cached (s : State) (f : Nat) (l : List Nat) : Bool := l.all ((s.face.cache.getD f []).contains ·)

/-- Lines not in the cache are fetched from the buffer. -/
def State.fetchLines (s : State) (f : Nat) (l : List Nat) : State :=
  let miss := l.filter fun x => !(s.face.cache.getD f []).contains x
  { s with face := { s.face with fetch := s.face.fetch.modD f [] fun q => q ++ miss.filter fun x => !q.contains x } }

/-- A line enters the cache; a full one evicts a line the spec does not name, written back to its buffer. -/
def State.cacheLine (s : State) (f line : Nat) : State :=
  let c := s.face.cache.getD f []
  let keep := if c.length < 4096 then c else c.eraseIdx (Config.freeNat s.fresh % c.length)
  let t := { s with face := { s.face with
    cache := s.face.cache.put f (line :: keep), fetch := s.face.fetch.modD f [] fun q => q.filter (· != line) } }
  if c.length < 4096 then t else t.used

/-! ### Contributions (R263 to R265, R269) -/

/-- One accumulator updated, with the target's flags. -/
def Target.apply (t : Target) (k : Nat) (f : Nat) (x : Word × Flags) : Target :=
  let a := t.acc.getD k (identity t.op (isIntFmt t.fmt))
  let (r, fl) := accumulate t.op f a x.1
  { t with acc := t.acc.put k r, flags := t.flags ||| fl ||| x.2 }

/-- A vector contribution applied element by element from unit u of the window (R269). -/
def Target.reduce (t : Target) (u f : Nat) (payload : List Byte) : Target :=
  let per := elems t.fmt
  let xs := ((chunks 64 4 payload).filter (!·.isEmpty)).map (unitAccs f)
  (xs.zip (List.range xs.length)).foldl (fun t (l, i) =>
    (l.zip (List.range l.length)).foldl (fun t (x, j) => t.apply ((u + i) * per + j) f x) t) t

/-- Units of a window stored unchanged (Table 10.4). -/
def Target.keep (t : Target) (u : Nat) (payload : List Byte) : Target :=
  let xs := (chunks 64 4 payload).filter (!·.isEmpty)
  { t with store := (xs.zip (List.range xs.length)).foldl (fun m (b, i) => m.put (u + i) (bytesLine b)) t.store }

/-- Bytes of a stored unit. ARM does not initialise the buffer (R260): a unit never written is zero in a buffer that no target has used
since its share was cleared (R145, R146), and else a free value. -/
def State.stored (s : State) (t : Target) (n u : Nat) : List Byte :=
  let k := n / 128 * 3 + t.share
  match t.store.find u with
  | some l => lineBytes l
  | none =>
    if s.face.stale.any fun b => b.1 == k && decide (b.2.1 ≤ t.bufOff + u) && decide (t.bufOff + u < b.2.1 + b.2.2) then
      (List.range 64).map fun j => Config.freeByte (n * 16384 + u) j
    else List.replicate 64 0

/-- An entry answered with data already at hand. -/
def State.endEntry (s : State) (id : Nat) (data : List Byte) (poison : Bool) (err : Nat) : State :=
  match s.entry id with
  | none => s
  | some e => s.answerEntry { e with got := (List.range e.op.lineCount).map fun k => (k, (data.drop (64 * k)).take 64), poison, err }

/-- A contribution is not to be held: the target is open, or the operation is a READ, or it is to be refused (Table 10.1, 10.4). -/
def Target.takes (t : Target) (e : HomeEntry) : Bool :=
  t.clearing.isNone && (e.op.opcode == 1 || t.state == .opened || t.state == .failed)

/-- The slice words that cache lines of a target stand for. -/
def State.lineWords (s : State) (n : Nat) (t : Target) (l : List Nat) : List Nat :=
  l.flatMap fun x => wordsFrom (s.areaStart (n / 128 * 3 + t.share) 2 / 8 + t.bufOff * 8 + x % 32768 * 8) 8

/-- CONTRIBUTION_APPLY: the first contribution that no rule holds is applied and counted, or refused; lines that the cache misses are
fetched first (R254, R263, R264, R265, R283). -/
def contributionApply (target : Nat) (ecc : Ecc) (s : State) : State :=
  let t := s.target target
  let f := target / 64
  let es := t.wait.filterMap s.entry
  let clear (e : HomeEntry) : Bool :=
    (es.takeWhile (·.id != e.id)).all fun x => (entryLines target t x).all fun l => !(entryLines target t e).contains l
  match es.find? fun e => t.takes e && clear e && (t.state == .failed || s.cached f (entryLines target t e)) with
  | none => (es.filter t.takes).foldl (fun s e => s.fetchLines f (entryLines target t e)) s
  | some e =>
    let u := s.modTarget target fun t => { t with wait := t.wait.filter (· != e.id) }
    let first := (e.op.addr % 2 ^ 44 - t.win * 64) / 64
    let units := e.op.size / 64
    let reads := e.op.opcode == 1 || (t.op != 3 && t.state != .failed)
    let (u, bad) := if reads then u.insWords (f / 2) (s.lineWords target t (entryLines target t e)) 2 ecc else (u, false)
    let lost (u : State) : State := (u.modTarget target fun t => { t with flags := t.flags ||| fPoison }).toPart 0x2207 e.part (.unit .target target 0)
    if e.op.opcode = 1 then
      (if bad then lost u else u).endEntry e.id ((List.range units).map fun i => s.stored t target (first + i)).flatten bad 0
    else if t.state = .failed ∨ 0xFFFFFF < t.arrived + units then u.endEntry e.id [] false 0xB003
    else if bad then ((lost u).failTarget target).endEntry e.id [] false 0xB003
    else
      let n : Target := if t.op = 3 then t.keep first e.op.payload else t.reduce first e.op.fmt e.op.payload
      let fl := if e.op.poison then n.flags ||| fPoison else n.flags
      let arrived := t.arrived + units
      let u := u.modTarget target fun x => { x with acc := n.acc, store := n.store, flags := fl, arrived }
      let u := u.bump 0x06 f units
      let u := { u with face := { u.face with applied := u.face.applied.modD f 0 fun w => BitVec.ofNat 32 (min (2 ^ 32 - 1) (w.toNat + units)) } }
      (if arrived = t.expected then u.closeTarget target else u).endEntry e.id [] false 0

/-- CONTRIBUTION_HOLD_TIMEOUT: a contribution held half of DEAD_BOUND at a CLOSED target is answered with 0xB003 (R264). -/
def contributionHoldTimeout (target : Nat) (s : State) : State :=
  let t := s.target target
  if t.state ≠ .closed then s
  else match (t.wait.filterMap s.entry).find? (·.op.opcode != 1) with
    | none => s
    | some e => (s.modTarget target fun t => { t with wait := t.wait.filter (· != e.id) }).endEntry e.id [] false 0xB003

/-! ### Gathers (R273 to R278) -/

/-- A gather is refused (R274). -/
def State.gatherBad (s : State) (g : Gather) : Bool :=
  let t := s.target g.target
  let total := if t.op = 3 then t.units else t.units * elems t.fmt
  decide (512 ≤ g.target) || s.faceOwner (g.target / 64) != g.part || t.state != .closed || t.clearing.isSome
    || g.count == 0 || decide (total < g.offset + g.count)
    || (t.op != 3 && (elems g.fmt == 0 || g.offset % max 1 (elems g.fmt) != 0 || g.count % max 1 (elems g.fmt) != 0
      || isIntFmt g.fmt != isIntFmt t.fmt))
    || (g.clear && (g.offset != 0 || g.count != total)) || g.dest == 3 || g.addr % 64 != 0

/-- The cache lines a gather reads. -/
def gatherLines (t : Target) (g : Gather) : List Nat :=
  if t.op = 3 then unitLines g.target t g.offset g.count
  else (List.range ((g.offset + g.count + 15) / 16 - g.offset / 16)).map fun j => g.target * 32768 + g.offset / 16 + j

/-- The output units of a gather and the flags it raises (R275, R277). -/
def State.output (s : State) (t : Target) (g : Gather) : List Byte × Flags :=
  if t.op = 3 then (((List.range g.count).map fun i => s.stored t g.target (g.offset + i)).flatten, 0)
  else
    let per := max 1 (elems g.fmt)
    let unit (i : Nat) : List Byte × Flags :=
      packUnit g.fmt ((List.range per).map fun j => t.acc.getD (g.offset + i * per + j) (identity t.op (isIntFmt t.fmt)))
    let us := (List.range (g.count / per)).map unit
    ((us.map (·.1)).flatten, us.foldl (fun f u => f ||| u.2) 0)

/-- The writes that carry n bytes to an address: the largest of 256, 128 and 64 bytes aligned there and not beyond what remains. -/
def splitWrites : Nat → Nat → List Byte → List (Nat × List Byte)
  | 0, _, _ => []
  | fuel + 1, a, b =>
    if b.isEmpty then []
    else
      let n := if a % 256 = 0 ∧ 256 ≤ b.length then 256 else if a % 128 = 0 ∧ 128 ≤ b.length then 128 else 64
      (a, b.take n) :: splitWrites fuel (a + n) (b.drop n)

/-- The members of a domain partition, ascending from above this node and wrapping, this node apart (R277). -/
def State.fanOut (s : State) (p : Nat) : List Nat :=
  let m := (s.lease.topo.nodes.filter fun x => x.parts.getLsbD p && x.node != s.lse.node).map (·.node)
  sortBy id (m.filter (s.lse.node < ·)) ++ sortBy id (m.filter (· < s.lse.node))

/-- The destinations of a gather's output, each a global address (R277). -/
def State.gatherDest (s : State) (g : Gather) : List Nat :=
  let loc := g.addr % 2 ^ 44
  let me := s.lse.node * 2 ^ 44 + loc
  match g.dest with
  | 0 => [me]
  | 1 => [g.addr]
  | _ => me :: (s.fanOut g.part).map fun n => n * 2 ^ 44 + loc

/-- The length code of a write of n bytes. -/
def lenCode (n : Nat) : Nat := if n = 256 then 6 else if n = 128 then 5 else 4

/-- Writes of a gather issued in order while TAGs are free, at most `fuel` of them (R226, R277). -/
def State.gatherIssue (g : Gather) : Nat → State → Gather × State
  | 0, s => (g, s)
  | fuel + 1, s =>
    match g.todo with
    | [] => (g, s)
    | (a, b) :: rest =>
      let op : Op := { kind := 0, opcode := 2, len := lenCode b.length, addr := a, part := g.part, ctx := some g.ctx
                       poison := g.poison, payload := b }
      match s.issueReq (.task g.task) op 2 0 false with
      | none => (g, s)
      | some t => State.gatherIssue { g with todo := rest, issued := s.req.nextNo :: g.issued } fuel t

/-- A gather put back, or newly entered. -/
def State.putGather (s : State) (g : Gather) : State :=
  { s with face := { s.face with gathers := s.face.gathers.filter (·.task != g.task) ++ [g] } }

/-- Every gather rewritten. -/
def State.modGathers (s : State) (f : Gather → Gather) : State :=
  { s with face := { s.face with gathers := s.face.gathers.map f } }

/-- What a cache word's decoder reports where no operand of the event says it: a free value (R147, R254, DESIGN CHOICE, log 16). -/
def State.freeEcc (s : State) : Ecc :=
  match Config.freeNat s.fresh % 3 with
  | 0 => .clean
  | 1 => .corrected
  | _ => .uncorr

/-- A gather whose lines have all come through the cache is read out, the target cleared when asked, and its writes issued; an
uncorrectable word of the cache sets POISON and poisons it (R254, R274, R275, R277, R278). -/
def State.gatherRead (s : State) (g : Gather) : State :=
  let t := s.target g.target
  if g.read ∨ g.need ≠ [] then s
  else if t.state ≠ .closed ∨ t.clearing.isSome then s.dropGather g
  else
    let (bytes, fl) := s.output t g
    let (s, bad) := s.used.insWords (g.target / 128) (s.lineWords g.target t (gatherLines t g)) 2 s.freeEcc
    let s := if bad then
        (s.modTarget g.target fun t => { t with flags := t.flags ||| fPoison }).toPart 0x2207 g.part (.unit .target g.target 0)
      else s
    let poison := g.poison || bad || (t.flags &&& fPoison) != 0
    let s := s.modTarget g.target fun t => { t with flags := t.flags ||| fl }
    let s := if g.clear then s.clearTarget g.target else s
    let todo := ((s.gatherDest g).map fun a => splitWrites (bytes.length / 64 + 1) a bytes).flatten
    let (g, s) := State.gatherIssue { g with read := true, poison, todo } todo.length s
    s.putGather g

/-- A GATHER step accepted or refused with 0xB005 (R273, R274). -/
def State.gatherStart (s : State) (g : Gather) : Option State :=
  if s.gatherBad g then none
  else
    let f := g.target / 64
    let l := gatherLines (s.target g.target) g
    let g := { g with need := l.filter fun x => !(s.face.cache.getD f []).contains x }
    some (((s.putGather g).fetchLines f g.need).gatherRead g)

/-- GATHER_COMPLETE: what remains is issued; the gather ends when every local write is applied and every remote one released (R277). -/
def gatherComplete (task : Nat) (s : State) : State :=
  match s.face.gathers.find? (·.task == task) with
  | none => s
  | some g =>
    if !g.read then s
    else
      let (g, s) := State.gatherIssue g g.todo.length s
      let openW (n : Nat) : Bool := s.req.out.any fun r => r.ordNo == n && (r.node == s.lse.node || !r.posted)
      if g.todo.isEmpty && !(g.issued.any openW) then
        { s with face := { s.face with gathers := s.face.gathers.filter (·.task != task) } }
      else s.putGather g

/-- READs of an assembly target that waited for an uncorrectable word are answered with poison (R152, Table 10.4). -/
def State.poisonReads (s : State) (n : Nat) (l : List HomeEntry) : State :=
  let t := s.target n
  l.foldl (fun (u : State) e =>
    (u.modTarget n fun t => { t with wait := t.wait.filter (· != e.id) }).endEntry e.id
      ((List.range (e.op.size / 64)).map fun i => s.stored t n ((e.op.addr % 2 ^ 44 - t.win * 64) / 64 + i)).flatten true 0) s

/-- FACE_CACHE_FILL: a line arrives from its buffer; a gather that waited for it reads out. An uncorrectable word sets POISON; it poisons the
gathers and READs that wait for it, and fails the target when a contribution does (R152, R254, R278, R283). -/
def faceCacheFill (f line : Nat) (ecc : Ecc) (s : State) : State :=
  if !(s.face.fetch.getD f []).contains line then s
  else
    let n := line / 32768
    let t := s.target n
    let (u, bad) := s.insWords (f / 2) (wordsFrom (s.areaStart (f / 2 * 3 + t.share) 2 / 8 + t.bufOff * 8 + line % 32768 * 8) 8) 2 ecc
    let u := u.cacheLine f line
    let mine (g : Gather) : Bool := g.target == n && !g.read && g.need.contains line
    let es := (t.wait.filterMap s.entry).filter fun e => t.takes e && (entryLines n t e).contains line
    let u := if bad && t.state != .empty then
        let v := (u.modTarget n fun t => { t with flags := t.flags ||| fPoison }).toPart 0x2207 (s.faceOwner f) (.unit .target n 0)
        let v := (v.modGathers fun g => if mine g then { g with poison := true } else g).poisonReads n (es.filter (·.op.opcode == 1))
        if t.state == .opened && es.any (·.op.opcode != 1) then v.failTarget n else v
      else u
    let u := u.modGathers fun g => { g with need := g.need.filter (· != line) }
    (u.face.gathers.filter fun g => g.target == n).foldl State.gatherRead u

end Sys2Proof.Machine
end

