-- ==== Sys2Proof/Machine/Winder.lean ====
section
/-!
DEFINITION. Machine/Winder.lean: the Winder (11, R303 to R309): its commands, the steps of a program, indirect operands.
-/

namespace Sys2Proof.Machine

/-! ### Commands (R304, R311) -/

/-- The partition that a task is given to (WND_RANGE_p), 0 when none. -/
def State.taskOwner (s : State) (t : Nat) : Nat :=
  (allParts.find? fun p => s.defined p && decide ((s.shapeOf p).wndBase ≤ t) && decide (t < (s.shapeOf p).wndBase + (s.shapeOf p).wndCount)).getD
    0

/-- WND_CMD from an aperture: a partition on its own tasks, the Lamp on every task; reserved for the operator (R311). `f` gets the
instance and the partition whose task it is. -/
def State.wndCmd (s : State) (ap : Aperture) (t : Nat) (f : Nat → Nat → State → State) : State :=
  let own := if t < 256 then s.taskOwner t else 0
  match ap with
  | .part p => s.command .wnd p fun s => if own = p then f p p s else s.cmdEnd .wnd p t 2
  | .lamp => s.command .wnd 7 fun s => if own ≠ 0 then f 7 own s else s.cmdEnd .wnd 7 t 2
  | _ => s

/-- A task without work in progress (R304). -/
def TaskState.idle : TaskState → Bool
  | .empty | .stopped | .done | .halted => true
  | _ => false

/-- The tallies that a loaded program refers to: each local one named by a WAIT or SIGNAL step with IND = 0 (Table 12.6). -/
def State.progTallies (s : State) (prog : List Block) : List Nat :=
  let one (w : Block) : Option Nat :=
    let c := (w.extractLsb' 124 4).toNat
    if (c = 1 ∨ c = 5) ∧ !w.getLsbD 123 ∧ (!w.getLsbD 122 ∨ (w.extractLsb' 96 8).toNat = s.lse.node) then
      some (w.extractLsb' 104 16).toNat
    else none
  (prog.filterMap one).eraseDups

/-- References taken for a task of partition p on the tallies that p owns; none when some count is full (R286, R301). -/
def State.taskRefs (s : State) (p t : Nat) (l : List Nat) : Option State :=
  (l.filter fun n => s.ownsTally p n).foldl (fun s n => s.bind fun s => s.addRef (.task t) (.tally n)) (some s)

/-- The local address of LOAD's source (Tables 11.17, 11.18). -/
def State.loadAddr (s : State) (a : Nat) : Nat :=
  (((s.arg .wnd a 0x14).extractLsb' 0 6).toNat * 2 ^ 32 + (s.arg .wnd a 0x10).toNat) * 64

/-- A program loaded into a task under a context: the references of the program before it go, those of the tallies that it names are taken
(R303, R337). -/
def State.loadProg (s : State) (a t p : Nat) (ctx can : BitVec 16) (l : List Block) : State :=
  if !s.ctxOk p ctx then (s.stale p).cmdEnd .wnd a t 5
  else
    let u := s.dropRefs (.task t) false
    match u.taskRefs p t (u.progTallies l) with
    | none => (u.loseCtx p ctx 0x7001 (.unit .task t 0)).cmdEnd .wnd a t 5
    | some u => (u.modTask t fun _ => { state := .stopped, part := p, ctx, canary := can, prog := l }).cmdEnd .wnd a t 0

/-- LOAD's source lies in the partition's memory (R303). -/
def State.loadOk (s : State) (p src n : Nat) : Bool := p != 0 && s.memOwner src (16 * n) == p && s.memOwner (src + 16 * n - 1) 1 == p

/-- The number of a LOAD's read of line i, for instance a. -/
def loadExt (a i : Nat) : Nat := 65536 + a * 64 + i

/-- A LOAD's next reads issued while there are TAGs: ordinary reads of the partition under the task's context (R119, R303). -/
def State.loadIssue (a : Nat) : Nat → State → State
  | 0, s => s
  | k + 1, s =>
    match s.wnd.loads.find a with
    | none => s
    | some l =>
      match l.todo with
      | [] => s
      | i :: rest =>
        let op : Op := { kind := 0, opcode := 1, len := 4, addr := s.lse.node * 2 ^ 44 + l.src + 64 * i, part := l.part, ctx := some l.ctx }
        match s.issueReq (.task l.task) op (loadExt a i) 0 false with
        | none => s
        | some t => State.loadIssue a k { t with wnd := { t.wnd with loads := t.wnd.loads.put a { l with todo := rest } } }

/-- WND_CMD LOAD: the task, the length, the source and the context are checked, and the program is read (R303, Tables 11.18, 11.19). -/
def wndLoad (ap : Aperture) (t : Nat) (s : State) : State :=
  s.wndCmd ap t fun a p s =>
    let a1 := s.arg .wnd a 0x14
    let src := s.loadAddr a
    let n := (a1.extractLsb' 8 7).toNat
    let ctx : BitVec 16 := (s.arg .wnd a 0x18).extractLsb' 0 16
    if !(s.task t).state.idle then s.cmdEnd .wnd a t 3
    else if n = 0 ∨ 64 < n ∨ !s.loadOk p src n then s.cmdEnd .wnd a t 4
    else if !s.ctxOk p ctx then (s.stale p).cmdEnd .wnd a t 5
    else
      let l : Load := { task := t, part := p, ctx, canary := (s.arg .wnd a 0x1C).extractLsb' 0 16, src, n, todo := List.range ((n + 3) / 4) }
      State.loadIssue a 16 ({ s with wnd := { s.wnd with loads := s.wnd.loads.put a l } }.cmdBusy .wnd a t)

/-- The steps of a program's lines. -/
def Load.steps (l : Load) : List Block :=
  (chunks 16 64 ((List.range ((l.n + 3) / 4)).flatMap fun i => l.got.getD i [])).map (fun b => BitVec.ofNat 128 (ofLe b)) |>.take l.n

/-- The results of a LOAD's reads taken up; a line that fails, is poisoned or was discarded fails the LOAD (R303, Table 11.19). -/
def State.loadTake (s : State) (a : Nat) (l : Load) : State :=
  let mine (d : Done) : Bool := d.eng == .task l.task && decide (loadExt a 0 ≤ d.extTag) && decide (d.extTag < loadExt a 64)
  let ds := s.req.done.filter mine
  let live (i : Nat) : Bool := s.req.out.any fun r => r.eng == .task l.task && r.extTag == loadExt a i && !r.discarded
  let got := ds.foldl (fun m d => m.put (d.extTag - loadExt a 0) d.data) l.got
  let gone := (List.range ((l.n + 3) / 4)).any fun i => !l.todo.contains i && (got.find i).isNone && !live i
  { s with
    req := { s.req with done := s.req.done.filter fun d => !mine d }
    wnd := { s.wnd with loads := s.wnd.loads.put a { l with got, bad := l.bad || gone || ds.any fun d => !d.ok || d.poison } } }

/-- A LOAD goes on: its results, its next reads, and its end once every line has come (R303). -/
def State.loadStep (s : State) (a : Nat) : State :=
  match s.wnd.loads.find a with
  | none => s
  | some l =>
    let t := State.loadIssue a 16 (s.loadTake a l)
    match t.wnd.loads.find a with
    | none => t
    | some l =>
      let gone : State := { t with wnd := { t.wnd with loads := t.wnd.loads.erase a } }
      if !(s.inst .wnd a).busy then gone
      else if l.bad then gone.cmdEnd .wnd a l.task 4
      else if l.todo ≠ [] ∨ l.got.length < (l.n + 3) / 4 then t
      else if !(t.task l.task).state.idle then gone.cmdEnd .wnd a l.task 3
      else gone.loadProg a l.task l.part l.ctx l.canary l.steps

/-- Every LOAD goes on. -/
def State.settleLoads (s : State) : State := s.wnd.loads.foldl (fun (s : State) (a, _) => s.loadStep a) s

/-- A task made READY by START or RESUME: its context must not be lost (R304). -/
def State.goTask (s : State) (a p t : Nat) (f : Task → Task) : State :=
  if !s.ctxOk p (s.task t).ctx then s.cmdEnd .wnd a t 5
  else (s.modTask t fun k => { f k with state := .ready, fault := 0, block := 0, stopReq := false }).cmdEnd .wnd a t 0

/-- WND_CMD START. -/
def wndStart (ap : Aperture) (t : Nat) (s : State) : State :=
  s.wndCmd ap t fun a p s =>
    match (s.task t).state with
    | .stopped | .done | .halted => s.goTask a p t fun k => { k with step := 0, iter := 0, loop := 0 }
    | _ => s.cmdEnd .wnd a t 3

/-- WND_CMD RESUME: at the current step, ITER kept. -/
def wndResume (ap : Aperture) (t : Nat) (s : State) : State :=
  s.wndCmd ap t fun a p s =>
    match (s.task t).state with
    | .stopped | .halted => s.goTask a p t id
    | _ => s.cmdEnd .wnd a t 3

/-- WND_CMD STOP: a READY task stops, a waiting one with its wait withdrawn; a step whose operations run stops at its boundary (R304). -/
def wndStop (ap : Aperture) (t : Nat) (s : State) : State :=
  s.wndCmd ap t fun a _ s =>
    let k := s.task t
    let stop (u : State) : State := (u.modTask t fun k => { k with state := .stopped, block := 0, req := none }).cmdEnd .wnd a t 0
    match k.state with
    | .ready => stop s
    | .blocked =>
      if k.block = 1 ∨ k.block = 2 then stop ((k.req.map s.withdrawWait).getD s)
      else if k.block = 3 then
        stop { s with req := { s.req with fences := s.req.fences.filter fun f => f.1 != Engine.task t } }
      else if k.block = 7 then stop s
      else (s.modTask t fun k => { k with stopReq := true }).cmdEnd .wnd a t 0
    | _ => s.cmdEnd .wnd a t 3

/-- A task emptied, its references dropped (R304, Table 12.6). -/
def State.unloadTask (s : State) (t : Nat) : State := (s.dropRefs (.task t) false).modTask t fun _ => {}

/-- WND_CMD UNLOAD. -/
def wndUnload (ap : Aperture) (t : Nat) (s : State) : State :=
  s.wndCmd ap t fun a _ s => if (s.task t).state.idle then (s.unloadTask t).cmdEnd .wnd a t 0 else s.cmdEnd .wnd a t 3

/-! ### Steps (R305 to R307, Table 11.4) -/

/-- A step refused by a face halts its task with a fault of its context, which names the target (R284, Table 10.14). -/
def State.stepFault (s : State) (t code : Nat) (o : Obj) : State :=
  let k := s.task t
  (s.opFault k.part (some k.ctx) code o).haltTask t code

/-- The malformed-step details keep the context (Table 11.8). -/
def State.stepBad (s : State) (t code : Nat) : State :=
  let k := s.task t
  (s.keepCtx k.part k.ctx code (.unit .task t k.step)).haltTask t code

/-- Bits [lo + n − 1 : lo] of the operands are zero. -/
def zeroBits (o : BitVec 120) (lo n : Nat) : Bool := (o.toNat >>> lo) % 2 ^ n == 0

/-- Every unused flag and operand bit of a step is zero (R305); `f` holds the flags [122:120]. -/
def stepFormed (code : Nat) (f : BitVec 3) (o : BitVec 120) : Bool :=
  match code with
  | 0 => f == 0 && o == 0
  | 1 => !f.getLsbD 1 && !f.getLsbD 0 && zeroBits o 64 16 && (f.getLsbD 2 || zeroBits o 96 8)
  | 2 => !f.getLsbD 0 && zeroBits o 0 71
  | 3 => f == 0 && zeroBits o 52 10
  | 4 => !f.getLsbD 1 && !f.getLsbD 0 && zeroBits o 44 67 && zeroBits o 0 6
  | 5 => !f.getLsbD 0 && zeroBits o 64 16 && (f.getLsbD 2 || zeroBits o 96 8) && (f.getLsbD 1 || zeroBits o 80 16)
  | 6 => f == 0 && o == 0
  | 7 => !f.getLsbD 1 && !f.getLsbD 0 && zeroBits o 32 82
  | _ => false

/-- A tally operation of a task: a WAIT_GE, or a signal that is held until it may be released (R291, R294). -/
def State.taskTally (s : State) (t : Nat) (opcode node tally : Nat) (v : Dword) : State :=
  let k := s.task t
  let op : Op := { kind := 3, opcode, len := 1, addr := node * 2 ^ 44 + tally, part := k.part, ctx := some k.ctx, payload := leBytes 8 v.toNat }
  let wait := opcode == 3
  let block := if !wait then 6 else if node = s.lse.node then 1 else 2
  let full := s.modTask t fun k => { k with state := .blocked, block := 7 }
  match s.freeTag with
  | none => full
  | some tag =>
    let u := s.modTask t fun k =>
      { k with state := .blocked, block, req := if wait then some tag else none, nextPtr := k.step + 1, since := s.clk.cyc }
    match u.issueReq (.task t) op 0 0 (!wait) with
    | none => full
    | some u =>
      if wait ∨ u.req.out.any (·.tag == tag) ∨ (u.task t).state ≠ .blocked then u else u.stepDone t (k.step + 1)

/-- ARM (R260, R261, R305): with CLR a target that is not EMPTY is cleared first, and then armed or refused; an extension word brings the
fields of an ARM from EMPTY. -/
def State.taskArm (s : State) (t : Nat) (clr : Bool) (ext : Option Block) (o : BitVec 120) : State :=
  let k := s.task t
  let n := (o.extractLsb' 111 9).toNat
  let g := s.target n
  let e := (ext.getD 0)
  let arm : Arm := {
    op := (e.extractLsb' 118 2).toNat, fmt := (e.extractLsb' 114 4).toNat, win := (e.extractLsb' 76 38).toNat
    units := (e.extractLsb' 61 15).toNat, share := (e.extractLsb' 59 2).toNat, bufOff := (e.extractLsb' 35 24).toNat
    expected := (o.extractLsb' 87 24).toNat, tally := (o.extractLsb' 71 16).toNat }
  if s.faceOwner (n / 64) ≠ k.part ∨ !s.ownsTally k.part arm.tally ∨ (g.state = .empty ∧ ext.isNone) ∨ g.clearing.isSome then
    s.stepFault t 0xB004 (.unit .target n 0)
  else
    let (u, code) := (if clr ∧ g.state ≠ .empty then s.clearTarget n else s).armTarget k.part n arm
    if code = 0 then u.stepDone t (k.step + (if ext.isSome then 2 else 1)) else u.stepFault t 0xB004 (.unit .target n 0)

/-- GATHER (R273, R274): accepted by the face, or refused with 0xB005. A task's gather waits while an earlier one of it runs. -/
def State.taskGather (s : State) (t : Nat) (o : BitVec 120) : State :=
  let k := s.task t
  let g : Gather := {
    task := t, target := (o.extractLsb' 111 9).toNat, ctx := k.ctx, part := k.part, offset := (o.extractLsb' 90 21).toNat
    count := (o.extractLsb' 69 21).toNat, fmt := (o.extractLsb' 65 4).toNat, clear := o.getLsbD 64
    dest := (o.extractLsb' 62 2).toNat, addr := (o.extractLsb' 0 52).toNat }
  if s.face.gathers.any (·.task == t) then s
  else match (s.modTask t fun k => { k with nextPtr := k.step + 1 }).gatherStart g with
    | none => s.stepFault t 0xB005 (.unit .target g.target 0)
    | some u => if (u.task t).state = .ready then u.stepDone t (k.step + 1) else u

/-- MOVE (R317): the step is presented to its channel and waits until its descriptors are queued, or with COMPLETE have completed. -/
def State.taskMove (s : State) (t : Nat) (complete : Bool) (o : BitVec 120) : State :=
  let k := s.task t
  let c := (o.extractLsb' 115 5).toNat
  let n := (o.extractLsb' 111 4).toNat + 1
  if s.chanOwner c ≠ k.part then s.stepBad t 0x7012
  else
    let m : MoveStep := { task := t, left := n, undone := n, complete, addr := (o.extractLsb' 0 44).toNat }
    let u := { s with mov := { s.mov with chans := s.mov.chans.modD c {} fun h => { h with moves := h.moves ++ [m] } } }
    u.modTask t fun k => { k with state := .blocked, block := 4, nextPtr := k.step + 1 }

/-- LOOP (R307). -/
def State.taskLoop (s : State) (t : Nat) (iter : Bool) (o : BitVec 120) : State :=
  let k := s.task t
  let target := (o.extractLsb' 114 6).toNat
  let count : Word := o.extractLsb' 0 32
  if k.prog.length ≤ target then s.stepBad t 0x7013
  else if count = 0 ∨ k.loop.toNat < count.toNat then
    s.modTask t fun k =>
      { k with step := target, loop := if count = 0 then k.loop else k.loop + 1, iter := if iter then k.iter + 1 else k.iter }
  else (s.modTask t fun k => { k with loop := 0 }).stepDone t (k.step + 1)

/-- FENCE (R234, R305): it waits in the list of fences until the task's operations have ended. -/
def State.taskFence (s : State) (t : Nat) : State :=
  let k := s.task t
  let u := s.modTask t fun k => { k with state := .blocked, block := 3, nextPtr := k.step + 1 }
  { u with req := { u.req with fences := u.req.fences ++ [(.task t, k.part, k.ctx, 0)] } }

/-- A step carried out with its operands (Table 11.4). -/
def State.runStep (s : State) (t : Nat) (w : Block) (o : BitVec 120) : State :=
  let k := s.task t
  let code := (w.extractLsb' 124 4).toNat
  let f : BitVec 3 := w.extractLsb' 120 3
  let node := if f.getLsbD 2 then (o.extractLsb' 96 8).toNat else s.lse.node
  let scaled : Dword := o.extractLsb' 0 64 + k.iter * (o.extractLsb' 80 16).setWidth 64
  let next := k.prog[k.step + 1]?
  let isExt := (next.map fun x => (x.extractLsb' 124 4).toNat == 15 && zeroBits (x.setWidth 120) 0 35 && (x.extractLsb' 120 4) == 0).getD false
  if !stepFormed code f o then s.stepBad t 0x7010
  else match code with
    | 0 => (s.modTask t fun k => { k with state := .done, block := 0 }).irqVis .wnd k.part 1
    | 1 => s.taskTally t 3 node (o.extractLsb' 104 16).toNat scaled
    | 2 =>
      if f.getLsbD 1 ∧ !isExt then s.stepBad t 0x7010
      else s.taskArm t (f.getLsbD 2) (if f.getLsbD 1 then next else none) o
    | 3 => s.taskGather t o
    | 4 => s.taskMove t (f.getLsbD 2) o
    | 5 =>
      if f.getLsbD 1 then s.taskTally t 2 node (o.extractLsb' 104 16).toNat scaled
      else s.taskTally t 1 node (o.extractLsb' 104 16).toNat (o.extractLsb' 0 64)
    | 6 => s.taskFence t
    | _ => s.taskLoop t (f.getLsbD 2) o

/-- The operand word of a step with IND is read (R306): its line, as an ordinary read of the partition. -/
def State.readOperand (s : State) (t : Nat) (w : Block) : State :=
  let k := s.task t
  let a := (w.extractLsb' 0 44).toNat
  let code := (w.extractLsb' 124 4).toNat
  if ¬ (1 ≤ code ∧ code ≤ 5) ∨ a % 16 ≠ 0 ∨ (w.extractLsb' 44 76) ≠ 0 then s.stepBad t 0x7010
  else if s.memOwner a 16 ≠ k.part then s.stepBad t 0x7011
  else
    let op : Op := { kind := 0, opcode := 1, len := 4, addr := s.lse.node * 2 ^ 44 + a / 64 * 64, part := k.part, ctx := some k.ctx }
    match s.freeTag with
    | none => s.modTask t fun k => { k with state := .blocked, block := 7 }
    | some tag =>
      let u := s.modTask t fun k => { k with state := .blocked, block := 5, ind := some tag }
      (u.issueReq (.task t) op 1 0 false).getD (s.modTask t fun k => { k with state := .blocked, block := 7 })

/-- The share that holds a partition's Winder programs. -/
def State.progShare (s : State) (p : Nat) : Nat :=
  ((List.range 12).find? fun k => s.stackOwner k == p && (s.area k 3).2 != 0).getD 0

/-- The next READY task of a partition in round-robin order after the last one issued (R308). -/
def State.nextTask (s : State) (p : Nat) : Option Nat :=
  let last := s.wnd.lane.getD p 0
  let l := (s.wnd.tasks.filter fun (_, k) => k.part == p && k.state == .ready).map (·.1)
  (l.find? (last < ·)).or l.head?

/-- WINDER_STEP_ISSUE: the lane of a partition issues the next step of the READY task whose turn it is (R305, R308). An uncorrectable
program word halts the task (R152). -/
def winderStepIssue (t : Nat) (ecc : Ecc) (s : State) : State :=
  let k := s.task t
  if k.state ≠ .ready ∨ s.nextTask k.part ≠ some t then s
  else
    let s := { s with wnd := { s.wnd with lane := s.wnd.lane.put k.part t } }
    if k.prog.length ≤ k.step then s.stepBad t 0x7013
    else
      let share := s.progShare k.part
      let word := s.areaStart share 3 / 8 + ((t - (s.shapeOf k.part).wndBase) * 1024 + k.step * 16) / 8
      let (s, bad) := s.insWords (share / 3) (wordsFrom word 2) 3 ecc
      if bad then (s.toPart 0x2208 k.part (.unit .task t k.step)).haltTask t 0x2208
      else
        let w := k.prog.getD k.step 0
        if w.getLsbD 123 then s.readOperand t w else s.runStep t w (w.setWidth 120)

/-- IND_OPERAND_RETURN: the operand word has come, and the step proceeds with it; poison, an error value or a refusal halts the task
with 0x7011 (R306). -/
def indOperandReturn (t : Nat) (s : State) : State :=
  let k := s.task t
  match s.req.done.find? fun d => d.eng == .task t && k.ind == some d.extTag with
  | none => s
  | some d =>
    let u := { s with req := { s.req with done := s.req.done.erase d } }.modTask t fun k => { k with ind := none, state := .ready, block := 0 }
    if k.state ≠ .blocked then { s with req := { s.req with done := s.req.done.erase d } }
    else if !d.ok ∨ d.poison then u.stepBad t 0x7011
    else
      let w := k.prog.getD k.step 0
      let off := (w.extractLsb' 0 6).toNat
      u.runStep t w (BitVec.ofNat 120 (ofLe ((d.data.drop off).take 16)))

end Sys2Proof.Machine
end

