-- ==== Sys2Proof/Machine/Mover.lean ====
section
/-!
DEFINITION. Machine/Mover.lean: the mover (12, R312 to R341): its commands, references, descriptors, the data path of the active
descriptor, completion, abort and destruction.
A request of the mover carries in `extTag` eight times the line it moves plus its sort: 1 a source read, 2 a destination write, 3 a
wait, 4 the read of a parameter block, 5 a signal, 6 the read of a descriptor.
-/

namespace Sys2Proof.Machine

/-- A channel. -/
def State.chan (s : State) (c : Nat) : Chan := s.mov.chans.getD c {}

/-- A channel rewritten. -/
def State.modChan (s : State) (c : Nat) (f : Chan → Chan) : State := { s with mov := { s.mov with chans := s.mov.chans.modD c {} f } }

/-- The active set of a channel rewritten. -/
def State.modAct (s : State) (c : Nat) (f : MovAct → MovAct) : State := s.modChan c fun k => { k with act := k.act.map f }

/-- The channel's class (R312): urgent when the Lease says so. -/
def State.urgent (s : State) (c : Nat) : Bool := (s.shapeOf (s.chanOwner c)).urgent.getLsbD c

/-- Ring slots. -/
def Chan.slots (k : Chan) : Nat := 2 ^ k.log2

/-! ### Descriptor fields (Table 12.2) -/

/-- `n` bits from bit `lo` of word `i`. -/
def Desc.field (d : Desc) (i lo n : Nat) : Nat := ((d.words.getD i 0).toNat >>> lo) % 2 ^ n
/-- A flag of word 0. -/
def Desc.flag (d : Desc) (b : Nat) : Bool := (d.words.getD 0 0).getLsbD b
/-- OP. -/
def Desc.op (d : Desc) : Nat := d.field 0 60 4
/-- CONTEXT. -/
def Desc.ctx (d : Desc) : BitVec 16 := BitVec.ofNat 16 (d.field 0 32 16)
/-- SRC_HOST. -/
def Desc.srcHost (d : Desc) : Bool := d.flag 52
/-- DST_HOST. -/
def Desc.dstHost (d : Desc) : Bool := d.flag 51

/-- The object of a fault of a descriptor: its channel and ring index (R341). -/
def descObj (c : Nat) (d : Desc) : Obj := .unit .channel c (d.idx.getD 0xFFFF)

/-- The alignment and length rules on effective parameters (R319, Table 12.3). -/
def alignOk (d : Desc) (len src dst : Nat) : Bool :=
  let base := decide (64 ≤ len) && len % 64 == 0 && src % 64 == 0 && dst % 64 == 0
  match d.op with
  | 5 => base && src % 4096 == 0 && len % 4096 == 0
  | 6 => base && len % 4224 == 0
  | _ => base

/-- The flags and reserved bits of a descriptor are as its OP permits (R320, Table 12.3). -/
def formOk (d : Desc) (urgent : Bool) : Bool :=
  let resv := d.field 0 48 3 == 0 && d.field 4 0 11 == 0 && d.field 7 32 20 == 0
  let sealed_ := !d.flag 53 || d.op == 4
  let sides := match d.op with
    | 1 | 4 => d.srcHost && !d.dstHost
    | 2 => !d.srcHost && d.dstHost
    | 3 => !d.srcHost && !d.dstHost
    | 5 | 7 => !d.srcHost
    | 6 => !d.dstHost
    | _ => false
  let cls := !urgent || d.op == 1 || d.op == 2 || d.op == 3 || d.op == 7
  resv && sealed_ && sides && cls

/-- The rules on a parameter that only some transforms have: no destination for IMPORT_UNWRAP, no other bits in a dirty log's SRC. -/
def paramsOk (d : Desc) (src dst : Nat) : Bool :=
  match d.op with
  | 6 => dst == 0
  | 7 => src >>> 60 == 0 && (src >>> 24) % 2 ^ 32 == 0
  | _ => true

/-- The fault of a fetched descriptor, 0 when none (R319, R320). -/
def Desc.check (d : Desc) (urgent : Bool) : Nat :=
  let len := d.field 0 0 32
  let src := d.field 1 0 64
  let dst := d.field 2 0 64
  let rec16 := !d.flag 55 || d.field 3 0 4 == 0
  let shape := if d.flag 59 then src % 64 == 0 else alignOk d len src dst
  if !(rec16 && shape) then 0x6001
  else if !formOk d urgent || (!d.flag 59 && !paramsOk d src dst) || (d.flag 59 && src >>> 44 != 0) then 0x6002
  else 0

/-- The local tallies that a descriptor names (Table 12.6). -/
def Desc.tallies (d : Desc) (self : Nat) : List Nat :=
  let w := if d.flag 58 && d.field 4 40 8 == self then [d.field 4 48 16] else []
  let g := if d.flag 57 && d.field 4 16 8 == self then [d.field 4 24 16] else []
  (w ++ g).eraseDups

/-! ### Commands (R315, R337 to R339, R342) -/

/-- MOV_CMD from an aperture: a partition on its own channels, the Lamp on every assigned one; the operator instance is read-only
(R342). `f` gets the instance and the partition whose channel it is. -/
def State.movCmd (s : State) (ap : Aperture) (c : Nat) (f : Nat → Nat → State → State) : State :=
  let own := if c < 32 then s.chanOwner c else 0
  match ap with
  | .part p => s.command .mov p fun s => if own = p ∧ p ≠ 0 then f p p s else s.cmdEnd .mov p c 2
  | .lamp => s.command .mov 7 fun s => if own ≠ 0 then f 7 own s else s.cmdEnd .mov 7 c 2
  | _ => s

/-- MOV_CMD BIND: the ring, its size, its context and its function (R315). -/
def movBind (ap : Aperture) (c : Nat) (s : State) : State :=
  s.movCmd ap c fun a p s =>
    let a2 := s.arg .mov a 0x18
    let base : Dword := s.arg .mov a 0x14 ++ s.arg .mov a 0x10
    let ctx : BitVec 16 := a2.extractLsb' 0 16
    let k := (a2.extractLsb' 16 4).toNat
    let fn := (a2.extractLsb' 24 5).toNat
    if (s.chan c).state ≠ .unbound then s.cmdEnd .mov a c 3
    else if base.toNat % 4096 ≠ 0 ∨ k < 4 ∨ 12 < k ∨ (s.shapeOf p).vfs < fn then s.cmdEnd .mov a c 4
    else if !s.ctxOk p ctx then (s.stale p).cmdEnd .mov a c 2
    else match s.addRef (.owner p ctx) (.queue c) with
      | none => s.cmdEnd .mov a c 6
      | some t =>
        (t.modChan c fun h => {
            state := .stopped, part := p, ctx, space := a2.getLsbD 20, fn, log2 := k, base, done := h.done, bytes := h.bytes
            moves := h.moves }).cmdEnd .mov a c 0

/-- MOV_CMD START (Table 12.1). -/
def movStart (ap : Aperture) (c : Nat) (s : State) : State :=
  s.movCmd ap c fun a _ s =>
    match (s.chan c).state with
    | .stopped | .halted => (s.modChan c fun k => { k with state := .run, fault := 0 }).cmdEnd .mov a c 0
    | _ => s.cmdEnd .mov a c 3

/-- The object that ARG0 names (Table 12.11). -/
def refObj (s : State) (a : Nat) : Option RefObj :=
  let i := ((s.arg .mov a 0x10).extractLsb' 0 16).toNat
  match ((s.arg .mov a 0x10).extractLsb' 28 2).toNat with
  | 0 => some (.queue i)
  | 1 => some (.tally i)
  | 2 => some (.seam i)
  | _ => none

/-- The partition that owns an object. -/
def State.refOwner (s : State) (o : RefObj) : Nat :=
  match o with
  | .queue c => if c < 32 then s.chanOwner c else 0
  | .tally n => s.tallyOwner n
  | .seam n => if (s.seam n).present then (s.seam n).owner else 0

/-- The object exists to be referred to: a bound queue, a tally that is no orphan, a seam. -/
def State.refLive (s : State) (o : RefObj) : Bool :=
  match o with
  | .queue c => (s.chan c).state != .unbound && (s.chan c).state != .orphaned
  | .tally n => !(s.tally n).orphan
  | .seam _ => true

/-- References on an object, as MOV_RESULT shows them. -/
def State.refCount (s : State) (o : RefObj) : Nat :=
  match o with
  | .tally n => (s.tally n).refs.toNat
  | _ => s.refsOn o

/-- A reference command ends with its result (Table 12.13). -/
def State.refEnd (s : State) (a : Nat) (o : RefObj) (c code : Nat) : State :=
  (s.modInst .mov a fun i => { i with result := BitVec.ofNat 32 (s.refCount o % 4096) }).cmdEnd .mov a c code

/-- REF, UNREF and DESTROY by object (R337): `f` gets the instance, the acting partition, the object and the acting context. -/
def State.refCmd (s : State) (ap : Aperture) (f : Nat → Nat → RefObj → BitVec 16 → State → State) : State :=
  let go (a : Nat) (may : Nat → Bool) (s : State) : State :=
    match refObj s a with
    | none => s.cmdEnd .mov a 0 4
    | some o =>
      let p := s.refOwner o
      if p ≠ 0 ∧ may p then f a p o ((s.arg .mov a 0x18).extractLsb' 0 16) s else s.cmdEnd .mov a 0 2
  match ap with
  | .part p => s.command .mov p (go p (· == p))
  | .lamp => s.command .mov 7 (go 7 fun _ => true)
  | _ => s

/-- MOV_CMD REF (R337, Table 12.6). -/
def movRef (ap : Aperture) (s : State) : State :=
  s.refCmd ap fun a p o ctx s =>
    if !s.ctxOk p ctx then (s.stale p).cmdEnd .mov a 0 2
    else if !s.refLive o then s.cmdEnd .mov a 0 3
    else match s.addRef (.ctx p ctx) o with
      | none => s.refEnd a o 0 6
      | some t => t.refEnd a o 0 0

/-- SEAM_CMD FREE: a dead seam on which no reference is held becomes empty, its number and counter space released (R85, R338). -/
def seamFree (ap : Aperture) (n : Nat) (s : State) : State :=
  s.seamCmd ap n fun a s =>
    let e := s.seam n
    if e.state ≠ .dead ∨ e.busy ∨ s.refsOn (.seam n) ≠ 0 then s.seamEnd a n 3
    else ({ s with seams := s.seams.erase n }).seamEnd a n 0

/-- A queue destroyed while its last reference goes: ORPHANED becomes UNBOUND (R339). -/
def State.freeOrphan (s : State) (o : RefObj) : State :=
  match o with
  | .queue c =>
    if (s.chan c).state = .orphaned ∧ s.refsOn o = 0 then s.modChan c fun k => { done := k.done, bytes := k.bytes, moves := k.moves }
    else s
  | _ => s

/-- MOV_CMD UNREF (R337). -/
def movUnref (ap : Aperture) (s : State) : State :=
  s.refCmd ap fun a p o ctx s =>
    if s.tal.refs.contains (.ctx p ctx, o) then ((s.dropRef (.ctx p ctx) o false).freeOrphan o).refEnd a o 0 0
    else s.cmdEnd .mov a 0 2

/-- MOV_DB_c, from the partition's aperture or that of the bound VF (R316). -/
def movDoorbell (ap : Aperture) (c : Nat) (tail : BitVec 12) (s : State) : State :=
  let k := s.chan c
  let own := if c < 32 then s.chanOwner c else 0
  let may : Bool := match ap with
    | .part p => own == p && p != 0
    | .vf p v => own == p && k.fn == v && v != 0 && k.state != .unbound && s.hst.power.getD (p * 32 + v) 0 == 0
    | _ => false
  if !may then s
  else if k.state = .run ∨ k.state = .stopped then s.modChan c fun k => { k with tail := tail.toNat % k.slots }
  else s.modChan c fun k => { k with ignored := satInc k.ignored }

/-! ### Requests and completions of a channel -/

/-- The partition's function is in D0, so its channels run (Table 13.4). -/
def State.chanAwake (s : State) (c : Nat) : Bool := s.hst.power.getD ((s.chan c).part * 32) 0 == 0

/-- A request of the channel outstanding in this node. -/
def State.chanReqs (s : State) (c : Nat) : List Req := s.req.out.filter fun r => r.eng == .mover c

/-- The channel's requests marked discarded: their answers raise and move nothing (R226, R336, R339). A signal not yet released is not
sent, a wait is withdrawn. -/
def State.dropChanReqs (s : State) (c : Nat) (signals : Bool) : State :=
  let mine (r : Req) : Bool := r.eng == .mover c && (signals || r.extTag % 8 != 5)
  let t := { s with req := { s.req with
    out := (s.req.out.filter fun r => !(mine r && r.held)).map fun r => if mine r && r.extTag % 8 != 3 then { r with discarded := true } else r
    done := s.req.done.filter fun d => d.eng != Engine.mover c } }
  (t.req.out.filter fun r => mine r && r.extTag % 8 == 3).foldl (fun (s : State) (r : Req) => s.withdrawWait r.tag) t

/-- A completion record (Table 12.4). -/
def recordBytes (k : Chan) (d : Desc) (done fault status : Nat) : List Byte :=
  leBytes 4 (d.field 7 0 32) ++ leBytes 4 (done % 2 ^ 32) ++ leBytes 2 fault ++ leBytes 2 status ++ leBytes 2 (d.idx.getD 0xFFFF)
    ++ [0, if (k.consumed >>> k.log2) % 2 = 1 then 0x80 else 0]

/-- The record of a descriptor held as an egress, when it has one (R332, R333). -/
def State.putRecord (s : State) (c : Nat) (d : Desc) (done fault status : Nat) : State :=
  let k := s.chan c
  if d.flag 55 then s.hold k.part .host (some d.ctx) (.record c (d.words.getD 3 0) (recordBytes k d done fault status)) else s

/-- A Winder MOVE's descriptor is over: a step that waits for its transfers completes with the last (R305, R317). -/
def State.moveOver (s : State) (c : Nat) (d : Desc) : State :=
  match d.task with
  | none => s
  | some t =>
    match (s.chan c).moves.find? fun m => m.task == t && m.undone != 0 with
    | none => s
    | some m =>
      let m' : MoveStep := { m with undone := m.undone - 1 }
      let u := s.modChan c fun k =>
        { k with moves := if m'.undone = 0 && m'.left = 0 then k.moves.erase m else k.moves.map fun x => if x = m then m' else x }
      let u := u.modTask t fun k => { k with moveSeqs := k.moveSeqs.erase d.seq }
      if m'.undone = 0 ∧ m.complete ∧ (u.task t).state = .blocked ∧ (u.task t).block = 4 then u.stepDone t (u.task t).nextPtr else u

/-- A descriptor leaves the channel: its references are dropped, and a ring slot is consumed (R316, Table 12.6). -/
def State.descOver (s : State) (c : Nat) (d : Desc) : State :=
  let t := (s.dropRefs (.desc c d.seq) false).moveOver c d
  t.modChan c fun k =>
    match d.idx with
    | some i => { k with head := (i + 1) % k.slots, consumed := k.consumed + 1 }
    | none => k

/-- The active descriptor of a halted channel ends: its record is written with STATUS 0x01, or dropped by a reset (R319, R333, R340). -/
def State.endFailed (s : State) (c : Nat) (record : Bool) : State :=
  let k := s.chan c
  match k.act with
  | none => s
  | some a =>
    let t := s.dropChanReqs c false
    let t := if record then t.putRecord c a.d a.done k.fault 1 else t
    (t.modChan c fun k => { k with act := none }).descOver c a.d

/-- A fault of the active descriptor: raised to its context, the channel halts and the descriptor ends (R341). -/
def State.movFail (s : State) (c code : Nat) (lose : Bool) : State :=
  let k := s.chan c
  match k.act with
  | none => s
  | some a =>
    let t := if lose then s.loseCtx k.part a.d.ctx code (descObj c a.d) else s.keepCtx k.part a.d.ctx code (descObj c a.d)
    (t.haltChan c code).endFailed c true

/-- A request of the active descriptor failed; its fault has been raised by the requester, and the channel halts with it (R324, R341). -/
def State.movStop (s : State) (c code : Nat) : State := (s.haltChan c code).endFailed c true

/-- The active descriptor is over without data, its context being lost (R323). -/
def State.movLost (s : State) (c : Nat) : State :=
  (s.dropChanReqs c false).modAct c fun a => { a with phase := .finished, status := 2, outq := [], hostRd := [], got := [] }

/-! ### Migration keys (R327) -/

/-- The slot may wrap or unwrap: ACTIVE, of usage migration, owned by the partition. -/
def State.migSlotOk (s : State) (p n : Nat) : Bool :=
  let k := s.slot n
  k.usage == 0xF && k.owner == p && k.state == .active

/-- K_mp and H_m. -/
def State.migKeys (s : State) (n : Nat) : List Byte × Block :=
  let k := s.keyBytes n
  (kmac256 k [] 32 "XENER-MIGRATE-PAD", bytesBlock (kmac256 k [] 16 "XENER-MIGRATE-HASH"))

/-- The pad of block b of unit SEQ. -/
def migPad (kmp : List Byte) (seq : Dword) (b : Nat) : List Byte :=
  blockBytes (aes256 kmp (seq ++ (0 : BitVec 48) ++ BitVec.ofNat 16 b))

/-- The tag of a unit over its header line and ciphertext. -/
def migTag (kmp : List Byte) (h : Block) (seq : Dword) (header cipher : List Byte) : List Byte :=
  let l : Block := 0x00000000000002000000000000008000
  let y := ghash h (((chunks 16 4 header ++ chunks 16 256 cipher).map bytesBlock) ++ [l])
  xorBytes (blockBytes y) (migPad kmp seq 0xFFFF)

/-- The pads of the 256 data blocks of a unit. -/
def migPads (kmp : List Byte) (seq : Dword) : List Byte := (List.range 256).flatMap fun b => migPad kmp seq b

/-- A header line (R327). -/
def migHeader (seq : Dword) (page : Nat) (unitId : Dword) (mask : Dword) : List Byte :=
  leBytes 8 1 ++ leBytes 8 seq.toNat ++ leBytes 8 page ++ leBytes 8 unitId.toNat ++ leBytes 8 mask.toNat ++ List.replicate 24 0

/-- A wrapped unit of a page's 64 lines, each with its poison. -/
def migUnit (kmp : List Byte) (h : Block) (seq : Dword) (page : Nat) (unitId : Dword) (l : List (List Byte × Bool)) : List Byte :=
  let mask : Dword := BitVec.ofNat 64 ((l.zip (List.range 64)).foldl (fun m x => if x.1.2 then m + 2 ^ x.2 else m) 0)
  let plain := l.flatMap fun x => if x.2 then List.replicate 64 0 else x.1
  let hdr := migHeader seq page unitId mask
  let cipher := xorBytes plain (migPads kmp seq)
  hdr ++ cipher ++ migTag kmp h seq hdr cipher ++ List.replicate 48 0

/-- What a unit's checks find (R328): its SEQ, page, poison mask and plaintext. -/
def migOpen (kmp : List Byte) (h : Block) (u : List Byte) : Option (Dword × Nat × Dword × List Byte) :=
  let hdr := u.take 64
  let seq : Dword := BitVec.ofNat 64 (ofLe ((hdr.drop 8).take 8))
  let cipher := (u.drop 64).take 4096
  let tail := u.drop 4160
  let zero (l : List Byte) : Bool := l.all (· == 0)
  if tail.take 16 == migTag kmp h seq hdr cipher && zero (tail.drop 16) && zero ((hdr.drop 2).take 6) && zero (hdr.drop 40)
      && ofLe (hdr.take 2) == 1 then
    some (seq, ofLe ((hdr.drop 16).take 8), BitVec.ofNat 64 (ofLe ((hdr.drop 32).take 8)), xorBytes cipher (migPads kmp seq))
  else none

/-- The DIRTY bit of the counter block of the page at a local address cleared (R327, R329). -/
def State.cleanPage (s : State) (addr : Nat) : State :=
  match s.seamAt (addr % 2 ^ 44 / 64) with
  | some (_, e) =>
    if e.kind = .versioned then
      let key := cbKey e (e.pageOf (addr % 2 ^ 44 / 64))
      if cbDirty (s.cb key) then s.putCb key (setBits (s.cb key) 27 1 0) else s
    else s
  | none => s

/-! ### The data path -/

/-- The translated global address of a byte of the source or destination. -/
def MovAct.xlate (a : MovAct) (dst : Bool) (v : Nat) : Option Nat :=
  (a.trans.find? fun x => x.dst == dst && x.page == v / 4096).bind fun x => x.at_.map fun g => g + v % 4096

/-- A page's translation asked for, once (R318, R321). -/
def State.askPage (s : State) (c : Nat) (dst : Bool) (v : Nat) : State :=
  match (s.chan c).act with
  | none => s
  | some a =>
    if a.trans.any fun x => x.dst == dst && x.page == v / 4096 then s
    else (s.modAct c fun a => { a with trans := (a.trans ++ [({ dst, page := v / 4096 } : Trans)]).drop (a.trans.length - 63) }).emit
      (.translate c dst (v / 4096))

/-- The bytes of a wrapped unit on its outer side, and of its page: source bytes and destination bytes of a step of the transform. -/
def Desc.steps (d : Desc) : Nat × Nat := if d.op = 5 then (4096, 4224) else if d.op = 6 then (4224, 4096) else (64, 64)

/-- n destination lines sent or answered: DONE counts the source bytes they stand for, MOV_BYTES_c the lines (R333, Table 12.9). -/
def State.movAck (s : State) (c n : Nat) : State :=
  let upd (a : MovAct) : MovAct :=
    let acks := a.acks + n
    { a with acks, done := acks / (a.d.steps.2 / 64) * a.d.steps.1 }
  s.modChan c fun k => { k with act := k.act.map upd, bytes := BitVec.ofNat 32 (min 0xFFFFFFFF (k.bytes.toNat + n)) }

/-- The lines of bytes at rising offsets. -/
def linesAt (off : Nat) (l : List Byte) : List (Nat × List Byte × Bool) :=
  (List.range (l.length / 64)).map fun i => (off + 64 * i, (l.drop (64 * i)).take 64, false)

/-- Source lines received: passed on to the destination, or gathered for a wrapped unit. -/
def State.movGot (s : State) (c off : Nat) (bytes : List Byte) (poison : Bool) : State :=
  s.modAct c fun a =>
    if a.d.op = 5 ∨ a.d.op = 6 then { a with got := a.got.put off (bytes, poison) }
    else { a with outq := a.outq ++ [(off, bytes, poison)], poison := a.poison || poison }

/-- A request of the active descriptor. -/
def State.movReq (s : State) (c : Nat) (a : MovAct) (opcode g : Nat) (poison : Bool) (payload : List Byte) (ext : Nat) : Option State :=
  s.issueReq (.mover c) { kind := 0, opcode, len := 4, addr := g, part := (s.chan c).part, ctx := some a.d.ctx, poison, payload } ext 0 false

/-- The host function of the queue, as its number in the model. -/
def Chan.hostFn (k : Chan) : Nat := k.part * 32 + k.fn

/-- A line of the dirty log read and replaced by zeros (R329). -/
def State.harvestLine (s : State) (share fn off : Nat) : State × List Byte :=
  let lo := dirtyKey share fn (off * 8)
  let hit (b : Nat) : Bool := decide (lo ≤ b) && decide (b < lo + 512)
  let bits := (s.ins.dirty.filter hit).map (· - lo)
  let line : Line := bits.foldl (fun x b => x ||| (1 <<< b)) 0
  let t := { s with ins := { s.ins with dirty := s.ins.dirty.filter fun b => !hit b } }
  (bits.foldl (fun t b => t.cleanPage (share * 2 ^ 36 + (off * 8 + b) * 4096)) t, lineBytes line)

/-- The next source read that may be made: none when nothing may be asked for now (R313, R318, R325). -/
def State.movPull (s : State) (c : Nat) : Option State :=
  let k := s.chan c
  match k.act with
  | none => none
  | some a =>
    let busy := ((s.chanReqs c).filter (·.extTag % 8 != 6)).length + a.outq.length
    if a.len ≤ a.rd then none
    else if a.d.op = 7 then
      if 8 ≤ a.outq.length then none
      else
        let (t, l) := s.harvestLine (a.src / 2 ^ 56 % 16) (a.d.field 4 11 5) (a.src % 2 ^ 24 + a.rd)
        some (t.modAct c fun x => { x with rd := x.rd + 64, outq := x.outq ++ [(a.rd, l, false)] })
    else if (a.d.op = 5 ∨ a.d.op = 6) ∧ a.d.steps.1 * (a.units + 1) ≤ a.rd then none
    else if a.d.srcHost then
      let n := min 256 (min (a.len - a.rd) (if a.d.op = 6 then a.d.steps.1 * (a.units + 1) - a.rd else 256))
      if 256 ≤ a.hostRd.length ∨ !s.hostOpen k.part then none
      else some ((s.modAct c fun x => { x with rd := x.rd + n, hostRd := x.hostRd ++ [(a.rd, n, s.hostStream k.part)] }).toHost k.part 1 (some a.d.ctx) []
        fun x _ => .hostRead c k.hostFn x (BitVec.ofNat 64 (a.src + a.rd)) n)
    else if 128 ≤ busy then none
    else match a.xlate false (a.src + a.rd) with
      | none => if a.trans.any fun x => !x.dst && x.page == (a.src + a.rd) / 4096 then none else some (s.askPage c false (a.src + a.rd))
      | some g => (s.modAct c fun x => { x with rd := x.rd + 64 }).movReq c a 1 g false [] (a.rd / 64 * 8 + 1)

/-- The first waiting line sent on: a host write held as an egress, or a WRITE to its home (R120, R324). -/
def State.movPush (s : State) (c : Nat) : Option State :=
  let k := s.chan c
  match k.act with
  | none => none
  | some a =>
    match a.outq with
    | [] => none
    | (off, bytes, poison) :: rest =>
      let t := s.modAct c fun x => { x with outq := rest }
      if a.d.dstHost then
        some ((t.hold k.part .host (some a.d.ctx)
          (.hostWrite k.hostFn (BitVec.ofNat 64 (a.dst + off)) bytes (some c))).movAck c 1)
      else if 128 ≤ (s.chanReqs c).length then none
      else if a.d.op = 6 then t.movReq c a 2 (s.lse.node * 2 ^ 44 + off) false bytes (off / 64 * 8 + 2)
      else match a.xlate true (a.dst + off) with
        | none => if a.trans.any fun x => x.dst && x.page == (a.dst + off) / 4096 then none else some (s.askPage c true (a.dst + off))
        | some g => t.movReq c a 2 g poison bytes (off / 64 * 8 + 2)

/-- EXPORT_WRAP: the page gathered becomes a wrapped unit, held behind its source reads (R327). -/
def State.movWrap (s : State) (c : Nat) : Option State :=
  let k := s.chan c
  match k.act with
  | none => none
  | some a =>
    let u := a.units
    let lines := (List.range 64).filterMap fun i => a.got.find (u * 4096 + 64 * i)
    if a.d.op ≠ 5 ∨ lines.length ≠ 64 then none
    else
      let slot := a.d.field 7 52 12
      let seq := s.mov.export_.getD slot 0
      if !s.migSlotOk k.part slot ∨ seq = BitVec.allOnes 64 then some (s.movFail c 0x600B false)
      else
        let page := ((a.xlate false (a.src + u * 4096)).getD 0) % 2 ^ 44
        let (kmp, h) := s.migKeys slot
        let bytes := migUnit kmp h seq page s.fuse.unitId lines
        let bad := lines.any (·.2)
        let t := { s with mov := { s.mov with export_ := s.mov.export_.put slot (seq + 1) } }
        let t := (List.range 64).foldl (fun (t : State) i =>
          if (lines.getD i ([], false)).2 then t.keepCtx k.part a.d.ctx 0x600A (descObj c a.d) else t) t
        some ((t.modAct c fun x => { x with
          units := u + 1, heldU := x.heldU + 1, got := [], poison := x.poison || bad }).hold
            k.part .host (some a.d.ctx) (.unit c seq bytes))

/-- IMPORT_UNWRAP: the staged unit is checked, and its lines are to be written to its page (R328). -/
def State.movUnwrap (s : State) (c : Nat) : Option State :=
  let k := s.chan c
  match k.act with
  | none => none
  | some a =>
    let u := a.units
    let lines := (List.range 66).filterMap fun i => a.got.find (u * 4224 + 64 * i)
    if a.d.op ≠ 6 ∨ lines.length ≠ 66 then none
    else
      let slot := a.d.field 7 52 12
      if !s.migSlotOk k.part slot then some (s.movFail c 0x600B false)
      else
        let (kmp, h) := s.migKeys slot
        match migOpen kmp h (lines.flatMap (·.1)) with
        | none => some (s.movFail c 0x6008 true)
        | some (seq, page, mask, plain) =>
          let late : Bool := match s.mov.import_.find slot with
            | some m => decide (seq.toNat ≤ m.toNat)
            | none => false
          if late then some (s.movFail c 0x6009 true)
          else if page % 4096 ≠ 0 ∨ 2 ^ 44 ≤ page ∨ s.memOwner page 4096 ≠ k.part then some (s.movFail c 0x6004 true)
          else
            let out := (linesAt page plain).map fun x => if mask.getLsbD ((x.1 - page) / 64) then (x.1, List.replicate 64 0, false) else x
            let t := { s with mov := { s.mov with import_ := s.mov.import_.put slot seq } }
            let t := (List.range 64).foldl (fun (t : State) i =>
              if mask.getLsbD i then t.keepCtx k.part a.d.ctx 0x600A (descObj c a.d) else t) t
            some (t.modAct c fun x => { x with units := u + 1, got := [], outq := x.outq ++ out, poison := x.poison || mask != 0 })

/-- A wrapped unit released from the horizon: its page's DIRTY bit is cleared, and it goes to the host or, line by line, to its
destination (R327). -/
def State.movUnit (s : State) (c : Nat) (bytes : List Byte) : State :=
  let k := s.chan c
  match k.act with
  | none => s
  | some a =>
    let i := a.units - a.heldU
    let t := (s.cleanPage (ofLe ((bytes.drop 16).take 8))).modAct c fun x => { x with heldU := x.heldU - 1 }
    if a.d.dstHost then
      (t.toHost k.part 0 (some a.d.ctx) bytes fun x b => .hostWrite k.hostFn x (BitVec.ofNat 64 (a.dst + i * 4224)) b).movAck c 66
    else t.modAct c fun x => { x with outq := x.outq ++ linesAt (i * 4224) bytes }

/-- Nothing of the descriptor remains to be read, sent or answered (R332). -/
def State.movDone (s : State) (c : Nat) (a : MovAct) : Bool :=
  decide (a.len ≤ a.rd) && a.outq.isEmpty && a.hostRd.isEmpty && a.heldU == 0 && a.got.isEmpty
    && (s.chanReqs c).all fun r => r.held || r.discarded || r.extTag % 8 == 6

/-- The seam that a SEAL_LOAD fills. -/
def State.movSeam (s : State) (a : MovAct) : Option Nat :=
  (a.xlate true a.dst).bind fun g => (s.seamAt (g % 2 ^ 44 / 64)).map (·.1)

/-- Every line is committed: the descriptor finishes, or issues its SEAL (R326, R332). -/
def State.movEnd (s : State) (c : Nat) : Option State :=
  match (s.chan c).act with
  | none => none
  | some a =>
    if a.phase = .run ∧ s.movDone c a then
      let fin (x : MovAct) : MovAct := { x with phase := .finished, status := if x.poison then 4 else 0 }
      if a.d.flag 53 then
        match s.movSeam a with
        | some n => some ((s.modAct c fun x => { x with phase := .sealing }).sealBy (64 + c) n (some a.d.ctx))
        | none => some (s.movFail c 0x600E false)
      else some (s.modAct c fin)
    else none

/-- One move of the data path, when one can be made. -/
def State.movMove (s : State) (c : Nat) : Option State :=
  match (s.chan c).act with
  | none => none
  | some a =>
    if (s.chan c).state ≠ .run ∨ a.phase ≠ .run ∨ !s.chanAwake c then none
    else if !s.ctxOk (s.chan c).part a.d.ctx then some (s.movLost c)
    else (s.movPush c).or ((s.movWrap c).or ((s.movUnwrap c).or ((s.movPull c).or (s.movEnd c))))

/-- The data path runs until it has to wait: at most 1,024 moves, more than its buffers hold (R313). -/
def State.movPump (c : Nat) : Nat → State → State
  | 0, s => s
  | n + 1, s =>
    match s.movMove c with
    | some t => State.movPump c n t
    | none => s

/-- Bulk descriptors of a partition in a quadrant run one at a time, in the order in which they became active (R331). -/
def State.movTurn (s : State) (c : Nat) (order : Nat) : Bool :=
  s.urgent c || (List.range 8).all fun i =>
    let d := c / 8 * 8 + i
    d == c || s.urgent d || s.chanOwner d != s.chanOwner c || (match (s.chan d).act with
      | some b => decide (order < b.order) || (s.chan d).state != .run
      | none => true)

/-- A DIRTY_HARVEST whose function is logged and whose range lies in that function's log of a share of the partition (R329). -/
def State.harvestOk (s : State) (p fn src len : Nat) : Bool :=
  let share := src / 2 ^ 56 % 16
  decide (share < 12) && s.stackOwner share == p && (s.loggedFns p).contains fn && decide (src % 2 ^ 24 + len ≤ 1593344)

/-- The descriptor's data path starts with its effective parameters, checked (R319, R320, R329). -/
def State.movRun (s : State) (c len src dst : Nat) : State :=
  let k := s.chan c
  match k.act with
  | none => s
  | some a =>
    if !alignOk a.d len src dst then s.movFail c 0x6001 false
    else if !paramsOk a.d src dst || (a.d.op == 7 && !s.harvestOk k.part (a.d.field 4 11 5) src len) then s.movFail c 0x6002 false
    else if (a.d.op = 5 ∨ a.d.op = 6) ∧ !s.migSlotOk k.part (a.d.field 7 52 12) then s.movFail c 0x600B false
    else (s.modAct c fun a => { a with phase := .run, len, src, dst }).movPump c 1024

/-- The active descriptor begins once its wait is over: its parameter block is read, or its data path starts (R321, R322). -/
def State.movBegin (s : State) (c : Nat) : State :=
  let k := s.chan c
  match k.act with
  | none => s
  | some a =>
    if !s.ctxOk k.part a.d.ctx then s.movLost c
    else if a.d.flag 59 then
      let at_ := a.d.field 1 0 44
      if s.memOwner at_ 64 ≠ k.part then s.movFail c 0x6007 false
      else ((s.modAct c fun a => { a with phase := .param }).movReq c a 1 (s.lse.node * 2 ^ 44 + at_) false [] 4).getD s
    else s.movRun c (a.d.field 0 0 32) (a.d.field 1 0 64) (a.d.field 2 0 64)

/-! ### The internal events -/

/-- Descriptors that the channel holds: active, shadow and queue (R317). -/
def Chan.holds (k : Chan) : Nat := (if k.act.isSome then 1 else 0) + k.queue.length

/-- A fetched descriptor joins the queue with its checks' outcome and a reference on each local tally of its partition that it names (R286,
R319 to R321, R337). -/
def State.takeDesc (s : State) (c : Nat) (d : Desc) (place : Nat) : State :=
  let seq := s.mov.next
  let d := { d with seq, bad := if place ≠ 0 then place else d.check (s.urgent c) }
  let s := { s with mov := { s.mov with next := seq + 1 } }
  let refs := ((d.tallies s.lse.node).filter fun n => s.ownsTally (s.chan c).part n).foldl (fun (o : Option State) n => o.bind fun s => s.addRef (.desc c seq) (.tally n)) (some s)
  match refs with
  | some t => t.modChan c fun k => { k with queue := k.queue ++ [d] }
  | none => s.modChan c fun k => { k with queue := k.queue ++ [{ d with bad := 0x7001 }] }

/-- A translated page of another node may be reached: the node is a member of the partition's domain (R318). -/
def State.remoteOk (s : State) (node p : Nat) : Bool := (s.node node).member && (s.nodeRec node).parts.getLsbD p

/-- The read of a descriptor in device memory issued under a context, once (R119, R317, R318). -/
def State.readDesc (s : State) (c g : Nat) (ctx : BitVec 16) : State :=
  if (s.chanReqs c).any fun r => r.extTag % 8 == 6 && !r.discarded then s
  else
    (s.issueReq (.mover c) { kind := 0, opcode := 1, len := 4, addr := g, part := (s.chan c).part, ctx := some ctx } 6 0 false).getD s

/-- The words of a descriptor that could not be read: its context alone. -/
def noWords (ctx : BitVec 16) : List Dword := [BitVec.ofNat 64 (ctx.toNat * 2 ^ 32)]

/-- A descriptor's line that has come: its words, and the fault of a read that failed; a poisoned line is no descriptor (DESIGN CHOICE,
log 93). -/
def Done.desc (d : Done) (ctx : BitVec 16) : List Dword × Nat :=
  if !d.ok then (noWords ctx, d.code)
  else if d.poison then (noWords ctx, 0x6002)
  else ((chunks 8 8 d.data).map fun b => BitVec.ofNat 64 (ofLe b), 0)

/-- The line of a descriptor that has come for a channel. -/
def State.descLine (s : State) (c : Nat) : Option Done := s.req.done.find? fun d => d.eng == .mover c && d.extTag % 8 == 6

/-- A MOVE step's next descriptor joins the channel; a step that waits only for its descriptors to be queued completes with the last
(R305, R317). -/
def State.moveDesc (s : State) (c : Nat) (m : MoveStep) (words : List Dword) (bad : Nat) : State :=
  let m' : MoveStep := { m with left := m.left - 1, addr := m.addr + 64 }
  let seq := s.mov.next
  let t := (s.takeDesc c { words, task := some m.task } bad).modChan c fun k =>
    { k with moves := k.moves.map fun x => if x = m then m' else x }
  let t := t.modTask m.task fun k => { k with moveSeqs := k.moveSeqs ++ [seq] }
  if m'.left = 0 ∧ !m.complete ∧ (t.task m.task).state = .blocked ∧ (t.task m.task).block = 4 then
    t.stepDone m.task (t.task m.task).nextPtr
  else t

/-- The next descriptor of the ring joins the channel. -/
def State.ringDesc (s : State) (c : Nat) (words : List Dword) (bad : Nat) : State :=
  (s.takeDesc c { words, idx := some (s.chan c).fetchAt } bad).modChan c fun k => { k with fetchAt := (k.fetchAt + 1) % k.slots }

/-- The descriptor of a ring at a device address: its page is translated, its line read, and then taken (R315, R318). -/
def State.deviceRing (s : State) (c : Nat) : State :=
  let k := s.chan c
  let v := (k.base + BitVec.ofNat 64 (64 * k.fetchAt)).toNat
  let ask := (s.modChan c fun k => { k with ring := some (v / 4096, none) }).emit (.translate c false (v / 4096))
  match s.descLine c with
  | some d =>
    let (w, bad) := d.desc k.ctx
    { s with req := { s.req with done := s.req.done.erase d } }.ringDesc c w bad
  | none =>
    match k.ring with
    | some (page, some g) => if page = v / 4096 then s.readDesc c (g + v % 4096) k.ctx else ask
    | some (_, none) => s
    | none => ask

/-- DESCRIPTOR_FETCHED: the next descriptor is read, of a MOVE step that the channel serves first, or of the ring (R316, R317, R320,
R321). One in device memory is an ordinary read of the partition: the command issues it, and takes it once its line has come (R119); the
words of one at a host address come with the command. -/
def descriptorFetched (c : Nat) (words : List Dword) (s : State) : State :=
  let k := s.chan c
  if k.state ≠ .run ∨ 16 ≤ k.holds ∨ !s.chanAwake c then s
  else match k.moves.find? (·.left != 0) with
    | some m =>
      let ctx := (s.task m.task).ctx
      if 16 < k.holds + m.left then s
      else if s.memOwner m.addr 64 ≠ k.part then s.moveDesc c m (noWords ctx) 0x6004
      else match s.descLine c with
        | some d => { s with req := { s.req with done := s.req.done.erase d } }.moveDesc c m (d.desc ctx).1 (d.desc ctx).2
        | none => s.readDesc c (s.lse.node * 2 ^ 44 + m.addr) ctx
    | none =>
      if k.moves ≠ [] ∨ k.fetchAt = k.tail then s
      else if k.space then s.deviceRing c
      else if words.length ≠ 8 ∨ !s.hostOpen k.part then s
      else (s.ringDesc c words 0).toHost k.part 1 none [] fun x _ => .descRead c x (k.base + BitVec.ofNat 64 (64 * k.fetchAt))

/-- DESCRIPTOR_ACTIVE: the next descriptor becomes active, its predecessor being complete: refused with its fault, over at once when its
context is lost, waiting, or begun (R320 to R323, R331). -/
def descriptorActive (c : Nat) (s : State) : State :=
  let k := s.chan c
  match k.queue with
  | [] => s
  | d :: rest =>
    let order := s.mov.next
    if k.state ≠ .run ∨ k.act.isSome ∨ !s.movTurn c order ∨ !s.chanAwake c then s
    else
      let t := { s with mov := { s.mov with next := order + 1 } }.modChan c fun k => { k with act := some { d, order }, queue := rest }
      if !s.ctxOk k.part d.ctx then t.movLost c
      else if d.bad ≠ 0 ∧ d.bad / 4096 ≠ 6 ∧ d.bad ≠ 0x7001 then t.movStop c d.bad
      else if d.bad ≠ 0 then t.movFail c d.bad (d.bad == 0x7001 || d.bad == 0x6004)
      else if d.flag 58 then
        let op : Op := {
          kind := 3, opcode := 3, len := 1, addr := d.field 4 40 8 * 2 ^ 44 + d.field 4 48 16, part := k.part, ctx := some d.ctx
          payload := leBytes 8 (d.field 5 0 64) }
        ((t.modAct c fun a => { a with phase := .waiting }).issueReq (.mover c) op 3 0 false).getD s
      else t.movBegin c

/-- A translated page passes the checks of R318 and of its transform: 0, or the fault (R318, R324). -/
def State.pageCheck (s : State) (c : Nat) (a : MovAct) (dst : Bool) (g : Nat) : Nat :=
  let p := (s.chan c).part
  let node := g / 2 ^ 44 % 256
  let op := a.d.op
  let kind : Option (SeamKind × SeamState) := (s.seamAt (g % 2 ^ 44 / 64)).map fun x => (x.2.kind, x.2.state)
  if node = s.lse.node then
    if s.memOwner (g % 2 ^ 44) 4096 ≠ p ∨ (dst ∧ op = 5) then 0x6004
    else if dst ∧ op = 1 ∧ (kind.map (·.1)) = some .sealed then 0x6002
    else if dst && op == 4 && kind != some (.sealed, .loading) then 0x6002
    else 0
  else if dst ∧ (op = 1 ∨ op = 4) ∨ !dst ∧ (op = 2 ∨ op = 3 ∨ op = 5) then 0x6004
  else if s.remoteOk node p then 0
  else 0x6004

/-- The translation of a ring's page: it must lie in the partition's carve-out, or on a member node; the owning context is lost and the
channel halts when it does not, or is refused (R318). -/
def State.ringAnswer (s : State) (c v : Nat) (page : Option (BitVec 52)) : State :=
  let k := s.chan c
  let fail (code : Nat) : State :=
    ((s.modChan c fun k => { k with ring := none }).loseCtx k.part k.ctx code (.unit .channel c k.fetchAt)).haltChan c code
  match page with
  | none => fail 0x6003
  | some g =>
    let g := g.toNat / 4096 * 4096
    let node := g / 2 ^ 44 % 256
    let ok := if node = s.lse.node then s.memOwner (g % 2 ^ 44) 4096 == k.part else s.remoteOk node k.part
    if ok then s.modChan c fun k => { k with ring := some (v, some g) } else fail 0x6004

/-- A ring's page waits for its translation. -/
def State.ringAsks (s : State) (c : Nat) : Option Nat :=
  match (s.chan c).ring with
  | some (v, none) => some v
  | _ => none

/-- TRANSLATION_ANSWER: the hub answers the oldest translation asked for the source or the destination, that of the ring first, or refuses
it (R318). -/
def translationAnswer (c : Nat) (dst : Bool) (page : Option (BitVec 52)) (s : State) : State :=
  if let some v := (if dst then none else s.ringAsks c) then s.ringAnswer c v page
  else match (s.chan c).act with
  | none => s
  | some a =>
    match a.trans.find? fun x => x.dst == dst && x.at_.isNone with
    | none => s
    | some x =>
      match page with
      | none => s.movFail c 0x6003 true
      | some g =>
        let g := g.toNat / 4096 * 4096
        let code := s.pageCheck c a dst g
        if code ≠ 0 then s.movFail c code (code != 0x6002)
        else (s.modAct c fun a => { a with trans := a.trans.map fun y => if y = x then { y with at_ := some g } else y }).movPump c 1024

/-- The channel is stopped by an engine step: what it retains waits for the replay to end (R434). -/
def State.stepHeld (s : State) (c : Nat) : Bool := (s.chan c).state == .halted && (s.chan c).fault == 0xA002

/-- PARAM_BLOCK_RETURN: the parameter block has come, and the descriptor goes on with what it holds (R322). -/
def paramBlockReturn (c : Nat) (s : State) : State :=
  match s.req.done.find? fun d => d.eng == .mover c && d.extTag == 4 && !s.stepHeld c with
  | none => s
  | some d =>
    let t := { s with req := { s.req with done := s.req.done.erase d } }
    match (t.chan c).act with
    | none => t
    | some a =>
      let w (i : Nat) : Nat := ofLe ((d.data.drop (8 * i)).take 8)
      if a.phase ≠ .param then t
      else if !d.ok ∨ d.poison ∨ w 0 / 2 ^ 32 ≠ 0 ∨ (d.data.drop 24).any (· != 0) then t.movFail c 0x6007 false
      else t.movRun c (w 0) (w 1) (w 2)

/-- The signal of a finished descriptor, held until it may be released (R291, R332). -/
def Desc.signalOp (d : Desc) (p : Nat) : Op :=
  { kind := 3, opcode := if d.flag 56 then 2 else 1, len := 1, addr := d.field 4 16 8 * 2 ^ 44 + d.field 4 24 16, part := p
    ctx := some d.ctx, payload := leBytes 8 (d.field 6 0 64) }

/-- DESCRIPTOR_FINISH: the active descriptor completes: record, signal, message, then HEAD (R332, R333). -/
def descriptorFinish (c : Nat) (s : State) : State :=
  let k := s.chan c
  match k.act with
  | none => s
  | some a =>
    if a.phase ≠ .finished ∨ k.state ≠ .run then s
    else
      let t := s.putRecord c a.d a.done 0 a.status
      let signal := a.d.flag 57 && a.status != 2
      match (if signal then t.issueReq (.mover c) (a.d.signalOp k.part) 5 0 true else some t) with
      | none => s
      | some u =>
        let tag := (t.freeTag).getD 0
        let waits := signal && u.req.out.any fun r => r.tag == tag && r.held
        let t := if a.d.flag 54 && waits then u.modReq tag fun r => { r with irq := some k.hostFn } else u
        let t := if a.d.flag 54 && !waits then t.hold k.part .host (some a.d.ctx) (.msix k.hostFn) else t
        (t.modChan c fun k => { k with act := none, done := satInc k.done }).descOver c a.d

/-- RECORD_UNDELIVERABLE: the hub reports that a committed record was not sent or was refused (R334). -/
def recordUndeliverable (c : Nat) (s : State) : State :=
  let k := s.chan c
  if k.state = .unbound then s
  else
    let t := (s.loseCtx k.part k.lastCtx 0x6005 (.unit .channel c 0)).irq .mov 0 3
    if k.state = .draining ∨ k.state = .orphaned then t else (t.haltChan c 0x6005).endFailed c true

/-! ### Abort and destruction (R335, R336, R339) -/

/-- Index i lies from HEAD to TAIL − 1. -/
def Chan.inRing (k : Chan) (i : Nat) : Bool :=
  decide (i < k.slots) && decide ((i + k.slots - k.head) % k.slots < (k.tail + k.slots - k.head) % k.slots)

/-- The slot has been consumed since BIND and stands outside HEAD to TAIL − 1. -/
def Chan.wasDone (k : Chan) (i : Nat) : Bool := !k.inRing i && decide (i < k.slots) && decide (i < k.consumed)

/-- A record of the ring index is held behind the horizon. -/
def State.recordHeld (s : State) (c i : Nat) : Bool :=
  (s.horizon (s.chan c).part).held.any fun e => match e.cargo with
    | .record d _ b => d == c && recIdx b == i
    | _ => false

/-- The data path stopped: what is staged or expected is discarded (R335). -/
def State.movHaltPath (s : State) (c : Nat) : State :=
  (s.dropChanReqs c false).modAct c fun a => { a with phase := .waiting, outq := [], got := [], hostRd := [], trans := [] }

/-- MOV_CMD ABORT (R335). -/
def movAbort (ap : Aperture) (c : Nat) (s : State) : State :=
  s.movCmd ap c fun a _ s =>
    let k := s.chan c
    let a0 := s.arg .mov a 0x10
    let i := (a0.extractLsb' 0 12).toNat
    let wins (k' : Chan → Chan) : State := ((s.movHaltPath c).modChan c k').cmdBusy .mov a c
    if a0.getLsbD 31 then
      if k.state ≠ .run then s.cmdEnd .mov a c 3
      else if k.act.isNone then s.cmdEnd .mov a c 4
      else wins fun k => { k with state := .draining, cmdAp := some a, abortTo := none }
    else if k.wasDone i then
      if s.recordHeld c i then (s.modChan c fun k => { k with cmdAp := some a, awaitRec := some i }).cmdBusy .mov a c
      else s.cmdEnd .mov a c 5
    else if !k.inRing i then s.cmdEnd .mov a c 4
    else if k.state ≠ .run then s.cmdEnd .mov a c 3
    else wins fun k => { k with state := .draining, cmdAp := some a, abortTo := some i }

/-- The descriptors fetched, the active one first, with their DONE. -/
def Chan.fetched (k : Chan) : List (Desc × Nat) :=
  (match k.act with
    | some a => [(a.d, a.done)]
    | none => []) ++ k.queue.map fun d => (d, 0)

/-- The fetched descriptors that an abort ends: the active one, or those up to the named index. -/
def abortEnds (l : List (Desc × Nat)) : Option Nat → List (Desc × Nat)
  | none => l.take 1
  | some i =>
    match l.findIdx? (fun x => x.1.idx == some i) with
    | some j => l.take (j + 1)
    | none => l

/-- MOV_ABORT_DRAINED: records with STATUS 0x03 are written, ring descriptors behind the named one return unconsumed, HEAD is left after
it, and the channel is STOPPED (R335). -/
def movAbortDrained (c : Nat) (s : State) : State :=
  let k := s.chan c
  if k.state ≠ .draining ∨ k.destroying then s
  else
    let ends := abortEnds k.fetched k.abortTo
    let rest := ((k.fetched.drop ends.length).map (·.1))
    let t := s.modChan c fun k => { k with act := none, queue := rest.filter (·.idx.isNone) }
    let t := (rest.filter (·.idx.isSome)).foldl (fun t d => t.dropRefs (.desc c d.seq) false) t
    let t := ends.foldl (fun t x => (t.putRecord c x.1 x.2 0 3).descOver c x.1) t
    let skip (k : Chan) : Chan := match k.abortTo with
      | some i => { k with head := (i + 1) % k.slots, consumed := k.consumed + ((i + 1 + k.slots - k.head) % k.slots) }
      | none => k
    let t := t.modChan c fun k =>
      let k := skip k
      { k with state := .stopped, fetchAt := k.head, cmdAp := none, abortTo := none }
    match k.cmdAp with
    | some a => t.cmdEnd .mov a c 0
    | none => t

/-- Contributions of the channel's requests held at CLOSED targets of this node are answered with 0xB003 (R339, item 2). -/
def State.dropHeldContribs (s : State) (c : Nat) : State :=
  let mine (id : Nat) : Bool := match s.entry id with
    | some e => e.src == s.lse.node && s.req.out.any fun r => r.tag == e.tag && r.eng == .mover c
    | none => false
  s.face.targets.foldl (fun (s : State) (n, t) =>
    if t.state = .closed then
      (t.wait.filter mine).foldl (fun s id => s.failEntry id 0xB003) (s.modTarget n fun t => { t with wait := t.wait.filter fun id => !mine id })
    else s) s

/-- Every fetched descriptor discarded without a record (R339, item 1). -/
def State.discardDescs (s : State) (c : Nat) : State :=
  let k := s.chan c
  k.fetched.foldl (fun (t : State) (x : Desc × Nat) => (t.dropRefs (.desc c x.1.seq) false).moveOver c x.1)
    (s.modChan c fun k => { k with act := none, queue := [], fetchAt := k.head })

/-- Forced destruction of a queue begins, for a command or for the retiring of its context (R339, R357). -/
def State.forceDestroy (s : State) (c : Nat) (ap : Option Nat) : State :=
  let t := (s.modChan c fun k => { k with state := .draining, destroying := true, cmdAp := ap, awaitRec := none, abortTo := none }).dropHeldContribs c
  (t.dropChanReqs c true).discardDescs c

/-- DESTROY of a queue (R339). -/
def State.destroyQueue (s : State) (a p c : Nat) (ctx : BitVec 16) : State :=
  let k := s.chan c
  let held := s.tal.refs.contains (.owner p ctx, .queue c) || s.tal.refs.contains (.ctx p ctx, .queue c)
  match k.state with
  | .stopped | .run | .halted => if !held then s.cmdEnd .mov a c 2 else (s.forceDestroy c (some a)).cmdBusy .mov a c
  | _ => s.cmdEnd .mov a c 3

/-- MOV_CMD DESTROY: of the channel's queue, or of the tally that ARG0 names (R339, Table 12.10). -/
def movDestroy (ap : Aperture) (c : Nat) (s : State) : State :=
  s.refCmd ap fun a p o ctx s =>
    match o with
    | .queue k => if k = c then s.destroyQueue a p c ctx else s.cmdEnd .mov a c 4
    | .seam _ => s.cmdEnd .mov a c 4
    | .tally n =>
      if !s.tal.refs.contains (.ctx p ctx, o) then s.cmdEnd .mov a c 2
      else
        let t := s.dropRef (.ctx p ctx) o true
        if (t.tally n).refs = 0 then t.refEnd a o c 0
        else ((t.orphanTally n).irqVis .mov p 2).refEnd a o c 7

/-- DESTROY_COMPLETE: channel, faces and requester have acknowledged: UNBOUND, or ORPHANED while other contexts hold the queue (R339). -/
def destroyComplete (c : Nat) (s : State) : State :=
  let k := s.chan c
  if k.state ≠ .draining ∨ !k.destroying then s
  else
    let t := (s.dropRef (.owner k.part k.ctx) (.queue c) false).logged 0x600D k.part (.unit .channel c 0)
    let last := t.refsOn (.queue c) == 0
    let t :=
      if last then t.modChan c fun k => { done := k.done, bytes := k.bytes, moves := k.moves }
      else
        (t.modChan c fun k => { k with state := .orphaned, destroying := false, cmdAp := none, fetchAt := k.head, tail := k.head }).irqVis
          .mov k.part 2
    match k.cmdAp with
    | some a => t.refEnd a (.queue c) c (if last then 0 else 7)
    | none => t

/-! ### What other events bring a channel -/

/-- The outcome of one request of a channel (R324, R332): source data, a committed line, the end of a wait. -/
def State.movTake (s : State) (c : Nat) (d : Done) : State :=
  let t := { s with req := { s.req with done := s.req.done.erase d } }
  match (t.chan c).act with
  | none => t
  | some a =>
    if (t.chan c).state ≠ .run then t
    else match d.extTag % 8 with
      | 1 => if d.ok then t.movGot c (d.extTag / 8 * 64) d.data d.poison else if t.ctxOk (t.chan c).part a.d.ctx then t.movStop c d.code else t.movLost c
      | 2 => if d.ok then t.movAck c 1 else t.movStop c d.code
      | 3 =>
        if a.phase ≠ .waiting then t else if d.ok then t.movBegin c else t.movStop c d.code
      | _ => t

/-- The outcome of a channel's SEAL (R326). -/
def State.movSealed (s : State) (c code : Nat) : State :=
  let t := { s with mov := { s.mov with sealRes := s.mov.sealRes.erase c } }
  match (t.chan c).act with
  | none => t
  | some a =>
    if a.phase ≠ .sealing then t
    else if code = 0 then t.modAct c fun a => { a with phase := .finished, status := 0 }
    else t.movFail c 0x600E false

/-- Work that other events have left for the mover: results, SEALs, released units, halted channels, contexts lost. -/
def State.movDue (s : State) : Bool :=
  s.req.done.any (fun d => match d.eng with
      | .mover _ => d.extTag != 4 && d.extTag % 8 != 6
      | _ => false)
    || s.mov.sealRes != [] || s.mov.units != []
    || s.mov.chans.any fun (_, k) => k.act.isSome && (k.state == .halted || k.state == .run)

/-- The mover takes up what other events have left for it. -/
def State.movSettle (s : State) : State :=
  let s := s.req.done.foldl (fun (s : State) d => match d.eng with
    | .mover c => if d.extTag = 4 ∨ d.extTag % 8 = 6 ∨ s.stepHeld c then s else s.movTake c d
    | _ => s) s
  let s := s.mov.sealRes.foldl (fun (s : State) (c, code) => s.movSealed c code) s
  let s := s.mov.units.foldl (fun (s : State) (c, _, b) => s.movUnit c b) { s with mov := { s.mov with units := [] } }
  s.mov.chans.foldl (fun (s : State) (c, _) =>
    let k := s.chan c
    match k.state, k.act with
    | .halted, some _ => if s.stepHeld c then s else s.endFailed c true
    | .run, some a =>
      if a.phase = .run then s.movPump c 1024
      else if (a.phase = .param ∨ a.phase = .waiting) ∧ !s.ctxOk k.part a.d.ctx then s.movLost c
      else s
    | _, _ => s) s

end Sys2Proof.Machine
end

