-- ==== Sys2Proof/Machine/Host.lean ====
section
/-!
DEFINITION. Machine/Host.lean: the host side (13, R343 to R368): contexts, TLPs and BAR2, IDE streams, SPDM and TDISP, power states,
function level resets, link-down, tenant removal, dirty logging and migration keys.
A completion's status is 0 successful, 1 Completer Abort, 2 Unsupported Request.
-/

namespace Sys2Proof.Machine

/-! ### Contexts (R353, R357, R370) -/

/-- An entry of partition p's table by INDEX. -/
def State.ctxAt (s : State) (p i : Nat) : CtxEntry := s.ctx.tab.getD (p * 4096 + i) { gen := s.ctx.genBase.getD p 0 }

/-- An entry stored. -/
def State.putCtx (s : State) (p i : Nat) (e : CtxEntry) : State := { s with ctx := { s.ctx with tab := s.ctx.tab.put (p * 4096 + i) e } }

/-- The tag of an entry (R353). -/
def ctxTag (gen : BitVec 4) (i : Nat) : BitVec 16 := gen ++ BitVec.ofNat 12 i

/-- CTX_CMD OPEN, from a partition instance: the lowest FREE entry bound to a function (R353, R370). -/
def ctxOpen (ap : Aperture) (fn : Nat) (s : State) : State :=
  match ap with
  | .part p => s.command .ctx p fun s =>
    if (s.shapeOf p).vfs < fn then s.cmdEnd .ctx p 0 2
    else match firstFrom (fun i => (s.ctxAt p i).state == .free) 4096 0 with
      | none => s.cmdEnd .ctx p 0 4
      | some i =>
        let e := s.ctxAt p i
        (s.putCtx p i { state := .active, gen := e.gen, fn, first := 0 }).cmdEnd .ctx p (ctxTag e.gen i).toNat 0
  | _ => s

/-- Carts of a context (R357, step 3): one that has sent no packet is discarded, one that has sent PREPARE and is undecided is aborted, a
decided one finishes; their results are discarded, each operation of the chiplet ending with STATUS 0x02. -/
def State.endCarts (s : State) (p : Nat) (ctx : BitVec 16) : State :=
  (s.cart.carts.filter fun c => c.part == p && c.ctx == ctx).foldl (fun (s : State) c =>
    match c.phase with
    | .opened | .closing | .failed => s.closeCart c 2
    | .voting =>
      let t := s.modCart c.id fun c => { c with quiet := true }
      if c.homes.length = 1 then t
      else (t.modCart c.id fun c => { c with phase := .deciding, decision := 6 }).sendDecide
        { c with phase := .deciding, decision := 6, quiet := true }
    | .deciding => s.modCart c.id fun c => { c with quiet := true }) s

/-- The context's outstanding requests marked discarded (R357, step 6; R339, step 3). -/
def State.discardReqs (s : State) (p : Nat) (ctx : BitVec 16) : State :=
  { s with req := { s.req with out := s.req.out.map fun r =>
    if r.op.part = p ∧ r.op.ctx = some ctx ∧ r.op.kind ≠ 4 then { r with discarded := true } else r } }

/-- The channels whose queue the context owns. -/
def State.ownQueues (s : State) (p : Nat) (ctx : BitVec 16) : List Nat :=
  (List.range 32).filter fun c => s.tal.refs.contains (.owner p ctx, .queue c)

/-- The channels of the partition on which a descriptor of the context is active. -/
def State.activeOn (s : State) (p : Nat) (ctx : BitVec 16) : List Nat :=
  (List.range 32).filter fun c => (s.chan c).part == p && (s.chan c).state == .run && (match (s.chan c).act with
    | some a => a.d.ctx == ctx
    | none => false)

/-- RETIRE's steps 2 to 6 carried out, and whether work was discarded (R357). -/
def State.retireWork (s : State) (p : Nat) (ctx : BitVec 16) : State × Bool :=
  let queues := s.ownQueues p ctx
  let t := queues.foldl (fun (s : State) c => s.forceDestroy c none) s
  let active := t.activeOn p ctx
  let t := active.foldl (fun (s : State) c =>
    (s.movHaltPath c).modChan c fun k => { k with state := .draining, cmdAp := none, abortTo := none }) t
  let carts := t.cart.carts.any fun c => c.part == p && c.ctx == ctx
  let t := t.endCarts p ctx
  let tasks := (t.wnd.tasks.filter fun (_, k) => k.part == p && k.ctx == ctx && k.state != .empty).map (·.1)
  let t := tasks.foldl (fun (s : State) n => (s.haltTask n 0x500B).unloadTask n) t
  let t := { t with face := { t.face with gathers := t.face.gathers.filter fun g => !tasks.contains g.task } }
  let t := t.dropRefs (.ctx p ctx) true
  let open_ := t.req.out.any fun r => r.op.part == p && r.op.ctx == some ctx
  let waits := t.req.out.filter fun r => r.op.part == p && r.op.ctx == some ctx && r.op.kind == 3 && r.op.opcode == 3
  let t := waits.foldl (fun (s : State) (r : Req) => s.withdrawWait r.tag) t
  let t := t.discardReqs p ctx
  (t, !queues.isEmpty || !active.isEmpty || carts || !tasks.isEmpty || open_)

/-- CTX_CMD RETIRE of an ACTIVE or LOST entry, from a partition instance (R357). -/
def ctxRetire (ap : Aperture) (tag : BitVec 16) (s : State) : State :=
  match ap with
  | .part p => s.command .ctx p fun s =>
    if s.ctxIs .active p tag ∨ s.ctxIs .lost p tag then
      let i := tag.toNat % 4096
      let t := s.putCtx p i { s.ctxOf p tag with state := .retiring }
      let (t, work) := t.retireWork p tag
      { t with ctx := { t.ctx with retired := t.ctx.retired ++ [(p, i, work)] } }.cmdBusy .ctx p tag.toNat
    else s.cmdEnd .ctx p tag.toNat 3
  | _ => s

/-- CTX_RETIRE_COMPLETE: the context's queues are destroyed and its descriptors aborted; the entry becomes FREE with the next GEN (R357). -/
def ctxRetireComplete (p idx : Nat) (s : State) : State :=
  let e := s.ctxAt p idx
  match s.ctx.retired.find? fun r => r.1 == p && r.2.1 == idx with
  | none => s
  | some r =>
    let tag := ctxTag e.gen idx
    let busy := (List.range 32).any fun c => (s.chan c).state == .draining && (s.chan c).part == p
      && ((s.chan c).ctx == tag || (match (s.chan c).act with
        | some a => a.d.ctx == tag
        | none => false))
    if e.state ≠ .retiring ∨ busy then s
    else
      let t := { s with ctx := { s.ctx with retired := s.ctx.retired.erase r } }.putCtx p idx { state := .free, gen := e.gen + 1 }
      let t := if r.2.2 then t.raise 0x500B 0 p (some tag) .none else t
      t.cmdEnd .ctx p tag.toNat 0

/-- CTX_LOSS_LO read: the fault at the head of the partition's loss queue, whose entry it removes; zero elsewhere (R355, R370). -/
def ctxLossLoRead (ap : Aperture) (s : State) : State :=
  match ap with
  | .part p =>
    match s.ctx.loss.getD p [] with
    | [] => s.emit (.regRead ap 0x40024 0)
    | (_, f) :: rest =>
      { s with ctx := { s.ctx with loss := s.ctx.loss.put p rest } }.emit (.regRead ap 0x40024 (f.setWidth 32))
  | _ => s.emit (.regRead ap 0xC20024 0)

/-! ### Front-end waits (R356) -/

/-- The wait of a front-end queue that is outstanding. -/
def State.frontReq (s : State) (q : Nat) : Option Req := s.req.out.find? fun r => r.eng == .front q && !r.discarded

/-- FRONT_END_WAIT: a queue's wait is registered on its tally under its context; each queue holds one, and stalls while there is no TAG or
registration for it (R226, R292, R354, R356). -/
def frontEndWait (w : FrontWait) (s : State) : State :=
  if 256 ≤ w.queue ∨ (s.frontReq w.queue).isSome ∨ s.hst.fwaits.any (·.queue == w.queue) then s
  else if !s.ctxOk w.part w.ctx ∨ (s.ctxOf w.part w.ctx).fn ≠ w.fn then (s.stale w.part).cpl (w.part * 32 + w.fn) w.queue 2 [] none
  else
    let op : Op := { kind := 3, opcode := 3, len := 1, addr := w.node * 2 ^ 44 + w.tally, part := w.part, ctx := some w.ctx, payload := leBytes 8 w.th.toNat }
    (s.issueReq (.front w.queue) op 0 0 false).getD { s with hst := { s.hst with fwaits := s.hst.fwaits ++ [w] } }

/-- The waits that found no TAG or registration are presented again (R226, R292). -/
def State.settleFront (s : State) : State :=
  s.hst.fwaits.foldl (fun (s : State) w => frontEndWait w s) { s with hst := { s.hst with fwaits := [] } }

/-- FRONT_END_WITHDRAW: the queue's registration is withdrawn (R293, R356). -/
def frontEndWithdraw (q : Nat) (s : State) : State :=
  match s.frontReq q with
  | none => { s with hst := { s.hst with fwaits := s.hst.fwaits.filter (·.queue != q) } }
  | some r => s.withdrawWait r.tag

/-! ### IDE streams (R345 to R347) -/

/-- A stream; 16 is the link stream. -/
def State.stream (s : State) (k : Nat) : IdeStream := s.hst.streams.getD k {}

/-- A stream rewritten. -/
def State.modStream (s : State) (k : Nat) (f : IdeStream → IdeStream) : State :=
  { s with hst := { s.hst with streams := s.hst.streams.modD k {} f } }

/-- A stream Insecure: its keys zeroised at once, or retiring (R347, R361, R363). -/
def State.insecure (s : State) (k : Nat) (now : Bool) : State :=
  let l := (s.stream k).keys.map (·.2)
  let t := if now then s.killSlots l else l.foldl State.retireSlot s
  t.modStream k fun x => { x with secure := false, keys := [], go := [], kset := 0 }

/-- The streams of a partition. -/
def State.streamsOf (s : State) (p : Nat) : List Nat := (List.range 16).filter fun k => (s.stream k).valid && (s.stream k).owner == p

/-- The TDI state of a partition: 0 CONFIG_UNLOCKED, 1 CONFIG_LOCKED, 2 RUN, 3 ERROR (Table 13.17). -/
def State.tdi (s : State) (p : Nat) : Nat := s.hst.tdi.getD p 0

/-- A TDI set. -/
def State.setTdi (s : State) (p v : Nat) (cause : BitVec 16) : State :=
  { s with hst := { s.hst with tdi := s.hst.tdi.put p v, cause := s.hst.cause.put p cause } }

/-- A TDI in CONFIG_LOCKED or RUN enters ERROR, reported to the partition with 0x5007 (Tables 13.3, 13.7). -/
def State.tdiError (s : State) (p cause : Nat) : State :=
  if s.tdi p = 1 ∨ s.tdi p = 2 then
    ((s.setTdi p 3 (BitVec.ofNat 16 cause)).irqVis .hst p 3).toPart 0x5007 p (.unit .function p 0)
  else s

/-- The stream that a BAR2 access came under, kept with it: `ext` holds the tag, the VF, the stream (31 for none) and whether it reads. -/
def bar2Ext (x : Bar2) : Nat := ((x.tag * 32 + x.vf) * 32 + min 31 (x.stream.getD 31)) * 2 + (if x.write then 0 else 1)

/-- The contexts of a partition with a host transfer outstanding that satisfies a test on its stream: an active descriptor with a host
address, or a BAR2 access (R347, R363). -/
def State.hostCtxs (s : State) (p : Nat) (on : Option Nat → Bool) : List (BitVec 16) :=
  let act := (List.range 32).filterMap fun c =>
    if (s.chan c).part = p then
      (s.chan c).act.bind fun a =>
        if a.hostRd.any (fun x => on x.2.2) || ((a.d.srcHost || a.d.dstHost) && on (s.hostStream p)) then some a.d.ctx else none
    else none
  let bar := s.req.out.filterMap fun r => if r.eng = .bar2 p ∧ on (some (r.extTag / 2 % 32)) then r.op.ctx else none
  (act ++ bar).eraseDups

/-- A TLP that failed its IDE check: the stream Insecure, its keys zeroised, the TDI in ERROR, contexts with transfers on the stream lost
(R347). -/
def State.ideFail (s : State) (k : Nat) : State :=
  let p := (s.stream k).owner
  let t := (s.insecure k true)
  if p = 0 then t
  else
    let t := t.tdiError p 0x5002
    (s.hostCtxs p (· == some k)).foldl (fun (t : State) c => t.loseCtx p c 0x5002 (.unit .stream k 0)) t

/-- HOST_READ_COMPLETION: the completion of the oldest host read, its IDE tag verified or not (R325, R347). -/
def hostReadCompletion (c : Nat) (lines : List Line) (ideOk : Bool) (s : State) : State :=
  match (s.chan c).act with
  | none => s
  | some a =>
    match a.hostRd with
    | [] => s
    | (off, n, st) :: rest =>
      if !ideOk then
        let t := s.movFail c 0x6006 true
        (match st with
          | some k => t.ideFail k
          | none => t)
      else if lines.length * 64 ≠ n then s
      else
        let t := s.modAct c fun a => { a with hostRd := rest }
        ((lines.zip (List.range lines.length)).foldl (fun t x => t.movGot c (off + 64 * x.2) (lineBytes x.1) false) t).movPump c 1024

/-- The TLP comes under a Secure selective stream of the partition. -/
def State.underSecure (s : State) (p : Nat) (st : Option Nat) : Bool :=
  match st with
  | some k => decide (k < 16) && (s.stream k).secure && (s.stream k).owner == p
  | none => false

/-- Unsupported Request to a non-posted request. -/
def State.urTo (s : State) (fn tag : Nat) (posted : Bool) : State := if posted then s else s.cpl fn tag 2 [] none

/-- The partition's functions refuse host TLPs: D3cold, or a removal in progress (R359, R365). -/
def State.hostShut (s : State) (p : Nat) : Bool := s.hst.power.getD (p * 32) 0 == 2 || s.hst.removing.any (·.1 == p)

/-- HOST_TLP_RECEIVE: a TLP is checked against its function, stream and TDI state; one that is not accepted is dropped, a non-posted one
with Unsupported Request (R346, R347, R352, R359). A stream carries TLPs of its partition only, the link stream those of PF0, so that one
of a partition under another's stream is refused in the same way (DEDUCED, log 95). -/
def hostTlpReceive (x : Tlp) (s : State) : State :=
  let fn := x.fn * 32 + x.vf
  let p := x.toPart
  if !x.ideOk then (match x.stream with
    | some k => s.ideFail k
    | none => s)
  else
    let foreign := x.fn != 0 && p != 0 && x.fn != p
    let wrong : Bool := match x.stream with
      | some k => if k < 16 then (s.stream k).owner != p else p != 0
      | none => false
    if p ≠ 0 ∧ (s.tdi p = 3 ∨ wrong ∨ (s.confidential p ∧ (foreign ∨ !s.underSecure p x.stream))) then
      (s.logged 0x5001 p (.unit .function p 0)).urTo fn x.tag x.posted
    else if p ≠ 0 ∧ (s.hostShut p ∨ foreign) then s.urTo fn x.tag x.posted
    else s

/-! ### BAR2 (R344, R354) -/

/-- A completion to a host read held as an egress of the partition (R120). -/
def State.holdCpl (s : State) (p fn tag status : Nat) (bytes : List Byte) (ctx : Option (BitVec 16)) : State :=
  s.hold p .host ctx (.completion fn tag status bytes true)

/-- BAR2_ACCESS: a read of a line or a write, an operation of the function's MMIO context (R344). With no TAG free it waits (R226). -/
def bar2Access (x : Bar2) (s : State) : State :=
  let p := x.part
  let fn := p * 32 + x.vf
  let ctx := s.hst.func.getD fn 0
  let ur (s : State) : State := s.urTo fn x.tag x.write
  if s.hst.bwaits.any (fun y => y.tag == x.tag && y.part == p && y.vf == x.vf) then s
  else if s.tdi p = 3 ∨ (s.confidential p ∧ (s.tdi p ≠ 2 ∨ !s.underSecure p x.stream)) then ur (s.logged 0x5001 p (.unit .function p x.vf))
  else if s.hostShut p ∨ s.hst.power.getD (p * 32) 0 ≠ 0 then ur s
  else if !s.ctxOk p ctx ∨ (s.ctxOf p ctx).fn ≠ x.vf then ur (s.stale p)
  else
    let bad (s : State) : State :=
      let t := s.loseCtx p ctx 0x5003 (.unit .function p x.vf)
      if x.write then t else t.cpl fn x.tag 1 [] (some ctx)
    match x.xlate with
    | none => bad s
    | some g =>
      let g := g.toNat / 64 * 64
      let node := g / 2 ^ 44
      let ok := if node = s.lse.node then s.memOwner (g % 2 ^ 44) 64 == p else (s.node node).member && (s.nodeRec node).parts.getLsbD p
      if !ok then bad s
      else
        let full := x.mask == BitVec.allOnes 64
        let op : Op :=
          if !x.write then { kind := 0, opcode := 1, len := 4, addr := g, part := p, ctx := some ctx }
          else if full then { kind := 0, opcode := 2, len := 4, addr := g, part := p, ctx := some ctx, payload := x.bytes }
          else { kind := 0, opcode := 3, len := 7, addr := g, part := p, ctx := some ctx, payload := leBytes 8 x.mask.toNat ++ x.bytes }
        if x.write ∧ x.bytes.length ≠ 64 then s
        else (s.issueReq (.bar2 p) op (bar2Ext x) 0 false).getD { s with hst := { s.hst with bwaits := s.hst.bwaits ++ [x] } }

/-- BAR2 accesses that found no TAG are taken up again, in order (R226). -/
def State.settleBar2Waits (s : State) : State :=
  s.hst.bwaits.foldl (fun (s : State) x => bar2Access x s) { s with hst := { s.hst with bwaits := [] } }

/-- The end of a BAR2 access: a read is completed with its line, or with Completer Abort; a write needs no completion. -/
def State.bar2Take (s : State) (p : Nat) (d : Done) : State :=
  let t := { s with req := { s.req with done := s.req.done.erase d } }
  let vf := d.extTag / 64 % 32
  if d.extTag % 2 = 0 then t
  else t.holdCpl p (p * 32 + vf) (d.extTag / 2048) (if d.ok && !d.poison then 0 else 1) (if d.ok && !d.poison then d.data else [])
    (some (t.hst.func.getD (p * 32 + vf) 0))

/-! ### SPDM and IDE_KM (R345, R348) -/

/-- An established session of a DOE instance. -/
def State.session (s : State) (doe id : Nat) : Option Session := s.hst.sess.find? fun x => x.doe == doe && x.id == id

/-- The session is open for secured messages. -/
def State.sessOpen (s : State) (doe id : Nat) : Bool := match s.session doe id with
  | some x => x.open_
  | none => false

/-- A session ends: its keys are zeroised. -/
def State.endSession (s : State) (x : Session) : State :=
  { s with hst := { s.hst with sess := s.hst.sess.erase x } }.killSlots x.slots

/-- Every session of some DOE instances ended. -/
def State.endSessions (s : State) (f : Session → Bool) : State := (s.hst.sess.filter f).foldl State.endSession s

/-- A measurement block (Table 13.2): PFn reports block 5 of its own partition only; the signature of block 8 is a free value (R349). -/
def State.measurement (s : State) (doe index : Nat) : List Byte :=
  if index = 8 then s.freeBytes 4627 else s.block (if doe = 0 then allParts else [doe]) index

/-- The four keys of a new session in free slots (Table 14.6). -/
def State.sessionKeys (s : State) (fn : Nat) : State × List Nat :=
  (List.range 4).foldl (fun (x : State × List Nat) _ => match x.1.freeSlot [] with
    | none => x
    | some k => ((x.1.putKey k 0xA fn 4 2 0 x.1.rand).used, x.2 ++ [k])) (s, [])

/-- New key material in some slots. -/
def State.renewKeys (s : State) (l : List Nat) : State :=
  l.foldl (fun (s : State) n => (s.setSlot n { s.slot n with key := s.rand }).used) s

/-- SPDM_MESSAGE: a request on a DOE instance is answered; sessions are made by KEY_EXCHANGE and FINISH, at most two an instance, and
anything unsupported is answered with ERROR (R348, R349). The code shown is the request's SPDM response code, 0x7F for ERROR. -/
def spdmMessage (fn : Nat) (r : SpdmReq) (s : State) : State :=
  let err := s.emit (.doe fn 0x7F [])
  if 6 < fn then s
  else match r with
    | .getVersion => s.emit (.doe fn 0x04 [])
    | .getCapabilities => s.emit (.doe fn 0x61 [])
    | .negotiateAlgorithms => s.emit (.doe fn 0x63 [])
    | .getDigests => s.emit (.doe fn 0x01 [])
    | .getCertificate slot => if slot = 0 then s.emit (.doe fn 0x02 []) else err
    | .challenge n => s.emit (.doe fn 0x03 (leBytes 32 n.toNat))
    | .getMeasurements i n => if 1 ≤ i ∧ i ≤ 8 then (s.emit (.doe fn 0x60 (leBytes 32 n.toNat ++ s.measurement fn i))).used else err
    | .keyExchange ok =>
      if !ok ∨ 2 ≤ (s.hst.sess.filter (·.doe == fn)).length then err
      else if !s.drbgOk then (s.logged 0x8005 fn .none).emit (.doe fn 0x7F [])
      else
        let (t, slots) := s.sessionKeys fn
        if slots.length < 4 then err
        else
          let x : Session := { doe := fn, id := s.hst.nextSess, slots }
          { t with hst := { t.hst with sess := t.hst.sess ++ [x], nextSess := t.hst.nextSess + 1 } }.emit (.doe fn 0x64 (leBytes 4 x.id))
    | .finish id ok =>
      match s.session fn id with
      | none => err
      | some x =>
        if !ok then (s.endSession x).emit (.doe fn 0x7F [])
        else
          let up (y : Session) : Session := if y = x then { y with open_ := true } else y
          { s with hst := { s.hst with sess := s.hst.sess.map up } }.emit (.doe fn 0x65 [])
    | .heartbeat id => if s.sessOpen fn id then s.emit (.doe fn 0x68 []) else err
    | .keyUpdate id =>
      match s.session fn id with
      | none => err
      | some x => if x.open_ then (s.renewKeys x.slots).emit (.doe fn 0x69 []) else err
    | .endSession id =>
      match s.session fn id with
      | none => err
      | some x => (s.endSession x).emit (.doe fn 0x6C [])
    | .other _ => err

/-- An IDE_KM message is taken inside a secure session, on a stream of the function: the link stream on PF0, its own on PFn (R345, R346). -/
def State.ideKm (s : State) (fn session stream : Nat) (f : State → State) : State :=
  let own := if fn = 0 then stream == 16 else decide (stream < 16) && (s.stream stream).valid && (s.stream stream).owner == fn
  if s.sessOpen fn session && own then f s else s.emit (.doe fn 0x7F [])

/-- IDE_KM QUERY. -/
def ideKmQuery (fn session stream : Nat) (s : State) : State :=
  s.ideKm fn session stream fun s =>
    s.emit (.doe fn 1 [BitVec.ofNat 8 stream, if (s.stream stream).secure then 1 else 0, BitVec.ofNat 8 (s.stream stream).kset])

/-- The key sets, sub-streams (posted, non-posted, completion) and directions there are (R345). -/
def ideSub (kset sub dir : Nat) : Bool := decide (kset < 2) && decide (sub < 3) && decide (dir < 2)

/-- IDE_KM KEY_PROG: the key enters a slot of usage IDE owned by the stream's partition (R345). -/
def ideKmKeyProg (fn session stream kset sub dir : Nat) (key : BitVec 256) (s : State) : State :=
  s.ideKm fn session stream fun s =>
    let x := s.stream stream
    let id := (kset, sub, dir)
    if !ideSub kset sub dir ∨ x.go.contains id then s.emit (.doe fn 0x7F [])
    else match s.freeSlot [] with
      | none => s.emit (.doe fn 0x7F [])
      | some k =>
        let old := (x.keys.filter (·.1 == id)).map (·.2)
        let t := (s.killSlots old).putKey k 9 (if stream = 16 then 0 else fn) 4 3 (BitVec.ofNat 16 kset) (key.setWidth 512)
        (t.modStream stream fun x => { x with keys := x.keys.filter (·.1 != id) ++ [(id, k)] }).emit (.doe fn 3 [])

/-- The stream is Secure when every sub-stream of both directions goes with one key set. -/
def IdeStream.settled (x : IdeStream) : IdeStream :=
  let full (k : Nat) : Bool := (List.range 3).all fun sub => (List.range 2).all fun dir => x.go.contains (k, sub, dir)
  if full x.kset then { x with secure := true }
  else if full (1 - x.kset) then { x with secure := true, kset := 1 - x.kset }
  else { x with secure := false }

/-- IDE_KM K_SET_GO: a key set of a sub-stream and direction in use; the set it replaces goes out of use (R345). -/
def ideKmKSetGo (fn session stream kset sub dir : Nat) (s : State) : State :=
  s.ideKm fn session stream fun s =>
    let x := s.stream stream
    let id := (kset, sub, dir)
    if !x.keys.any (·.1 == id) then s.emit (.doe fn 0x7F [])
    else
      let go := id :: (x.go.filter fun y => y != (1 - kset, sub, dir) && y != id)
      let sec := x.secure
      let y := { x with go }.settled
      (s.modStream stream fun _ => if sec then { y with secure := true } else y).emit (.doe fn 4 [])

/-- IDE_KM K_SET_STOP: a key set of a sub-stream and direction out of use, its key retiring (R345). -/
def ideKmKSetStop (fn session stream kset sub dir : Nat) (s : State) : State :=
  s.ideKm fn session stream fun s =>
    let x := s.stream stream
    let id := (kset, sub, dir)
    let gone := (x.keys.filter (·.1 == id)).map (·.2)
    let y := { x with go := x.go.filter (· != id), keys := x.keys.filter (·.1 != id) }.settled
    (((gone.foldl State.retireSlot s)).modStream stream fun _ => y).emit (.doe fn 5 [])

/-! ### Function level reset (R361, Table 13.5) -/

/-- A channel aborted by a reset of its partition or function, then HALTED: nothing it had not committed is written or sent
(R340, Table 12.7). -/
def State.abortHalt (s : State) (c code : Nat) : State :=
  let k := s.chan c
  match k.state with
  | .unbound | .orphaned => s
  | _ =>
    if k.destroying then s
    else
      let act := k.act
      let t := (s.dropChanReqs c true)
      let t := (t.modChan c fun k => { k with act := none })
      let t := match act with
        | some a => t.descOver c a.d
        | none => t
      let t := (t.discardDescs c).haltChan c code
      let t := t.modChan c fun k => { k with cmdAp := none, awaitRec := none, abortTo := none }
      match k.cmdAp with
      | some a => t.cmdEnd .mov a c 0
      | none => t

/-- The contexts of the partition that satisfy a test, lost (R361). -/
def State.loseWhere (s : State) (p code : Nat) (f : CtxEntry → Bool) : State :=
  (s.ctx.tab.filter fun (k, e) => k / 4096 == p && e.state == .active && f e).foldl
    (fun (s : State) (k, e) => s.loseCtx p (ctxTag e.gen (k % 4096)) code (.unit .function p e.fn)) s

/-- The tags of the listed entries of a partition that satisfy a test. -/
def State.ctxTags (s : State) (p : Nat) (f : CtxEntry → Bool) : List (BitVec 16) :=
  (s.ctx.tab.filter fun (k, e) => k / 4096 == p && f e).map fun (k, e) => ctxTag e.gen (k % 4096)

/-- Held egress of a VF's lost contexts dropped (R361). -/
def State.dropLost (s : State) (p v : Nat) : State :=
  let lost := s.ctxTags p fun e => e.state == .lost && e.fn == v
  let gone (e : Egress) : Bool := match e.ctx with
    | some c => lost.contains c
    | none => false
  ((s.horizon p).held.filter gone).foldl State.dropQuiet (s.modHz p fun h => { h with held := h.held.filter fun e => !gone e })

/-- The CTX_, HST_ and command registers of a partition's instances at their reset values (R361). -/
def State.resetInsts (s : State) (p : Nat) : State :=
  { s with
    cmds := s.cmds.filter fun (k, _) => k % 32 != p
    ctx := { s.ctx with loss := s.ctx.loss.erase p, overflow := s.ctx.overflow.erase p, stale := s.ctx.stale.erase p }
    hst := { s.hst with func := s.hst.func.filter fun (k, _) => k / 32 != p } }

/-- Every loaded task of a partition HALTED with a code (Table 11.5). -/
def State.haltTasks (s : State) (p code : Nat) : State :=
  (s.wnd.tasks.filter fun (_, k) => k.part == p && k.state != .empty).foldl (fun (s : State) (n, _) =>
    (s.haltTask n code).modTask n fun k => if k.state = .halted then k else { k with state := .halted, fault := code, block := 0 }) s

/-- The effects of an FLR of PFn (Table 13.5). -/
def State.flrPart (s : State) (p : Nat) : State :=
  let t := s.loseWhere p 0x5006 fun _ => true
  let t := ((List.range 32).filter fun c => t.chanOwner c == p).foldl (fun (t : State) c => t.abortHalt c 0x5006) t
  let t := (t.haltTasks p 0x5006).dropEgress p
  let t := (t.streamsOf p).foldl (fun (t : State) k => t.insecure k false) t
  let t := (t.slots.filter fun (_, k) => k.owner == p && (k.usage == 9 || k.usage == 0xF)).foldl (fun (t : State) (n, _) => t.retireSlot n) t
  let t := t.setTdi p 0 0
  let t := ((List.range 8).filter fun f => t.faceOwner f == p).foldl State.resetFace t
  let t := (t.ctxTags p fun e => e.state == .lost).foldl (fun (t : State) c => t.endCarts p c) t
  let t := { t with
    req := { t.req with out := t.req.out.map fun (r : Req) => if r.eng = Engine.bar2 p then { r with discarded := true } else r }
    hst := { t.hst with offers := t.hst.offers.erase p, bwaits := t.hst.bwaits.filter (·.part != p) } }
  t.resetInsts p

/-- The effects of an FLR of a VF of PFn (Table 13.5). -/
def State.flrVf (s : State) (p v : Nat) : State :=
  let t := s.loseWhere p 0x5006 fun e => e.fn == v
  let t := ((List.range 32).filter fun c => t.chanOwner c == p && (t.chan c).fn == v && v != 0).foldl
    (fun (t : State) c => t.abortHalt c 0x5006) t
  let t := t.dropLost p v
  let t := (t.ctxTags p fun e => e.state == .lost && e.fn == v).foldl (fun (t : State) c => t.endCarts p c) t
  { t with ins := { t.ins with dirtyEn := t.ins.dirtyEn.modD p 0 fun m => m &&& ~~~((1 : BitVec 17) <<< v) } }

/-- FLR: its effects, until FLR_DONE (R361, R362). -/
def flr (fn : FlrFn) (s : State) : State :=
  let s := { s with hst := { s.hst with flr := s.hst.flr ++ [fn] } }
  match fn with
  | .pf0 =>
    let t := s.insecure 16 true
    { t with
      glb := { t.glb with irqEn := 0, buf := [], dwPend := [] }
      mbx := t.mbx.erase 0 }
  | .pf p => s.flrPart p
  | .vf p v => s.flrVf p v

/-- The function number of an FLR. -/
def FlrFn_num : FlrFn → Nat
  | .pf0 => 0
  | .pf p => p * 32
  | .vf p v => p * 32 + v

/-- FLR_DONE: the block's part is complete, and is reported to the hub (R361). -/
def flrDone (fn : FlrFn) (s : State) : State :=
  if s.hst.flr.contains fn then { s with hst := { s.hst with flr := s.hst.flr.erase fn } }.emit (.flrDone (FlrFn_num fn)) else s

/-! ### TDISP (R350 to R352, Table 13.3) -/

/-- A TDISP message is taken inside an SPDM secure session of PFn. -/
def State.tdisp (s : State) (p session : Nat) (f : State → State) : State :=
  if 1 ≤ p ∧ p ≤ 6 ∧ s.sessOpen p session then f s else s

/-- TDISP_ERROR. -/
def State.tdispError (s : State) (p : Nat) : State := s.emit (.doe p 0x87F [])

/-- GET_TDISP_VERSION. -/
def getTdispVersion (p session : Nat) (s : State) : State := s.tdisp p session fun s => s.emit (.doe p 0x801 [0x10])

/-- GET_TDISP_CAPABILITIES: no peer-to-peer binding. -/
def getTdispCapabilities (p session : Nat) (s : State) : State := s.tdisp p session fun s => s.emit (.doe p 0x802 [])

/-- LOCK_INTERFACE_REQUEST: from CONFIG_UNLOCKED, with at least one selective stream of the partition Secure. -/
def lockInterfaceRequest (p session : Nat) (s : State) : State :=
  s.tdisp p session fun s =>
    if s.tdi p = 0 ∧ (s.secureStream p).isSome then (s.setTdi p 1 0).emit (.doe p 0x803 []) else s.tdispError p

/-- The interface report: the functions, the BAR2 range, the MSI-X tables (64 vectors of PFn, 8 of each VF) and block 5 of the partition (R350,
Table 13.1). -/
def State.interfaceReport (s : State) (p : Nat) : List Byte :=
  let vfs := (s.shapeOf p).vfs
  [BitVec.ofNat 8 p, BitVec.ofNat 8 vfs] ++ leBytes 8 0 ++ leBytes 8 (2 ^ 36) ++ (64 :: List.replicate vfs 8) ++ s.measurement p 5

/-- GET_DEVICE_INTERFACE_REPORT. -/
def getDeviceInterfaceReport (p session : Nat) (s : State) : State :=
  s.tdisp p session fun s => if s.tdi p = 1 ∨ s.tdi p = 2 then s.emit (.doe p 0x804 (s.interfaceReport p)) else s.tdispError p

/-- GET_DEVICE_INTERFACE_STATE. -/
def getDeviceInterfaceState (p session : Nat) (s : State) : State :=
  s.tdisp p session fun s => s.emit (.doe p 0x805 [BitVec.ofNat 8 (s.tdi p)])

/-- START_INTERFACE_REQUEST: CONFIG_LOCKED to RUN. -/
def startInterfaceRequest (p session : Nat) (s : State) : State :=
  s.tdisp p session fun s => if s.tdi p = 1 then (s.setTdi p 2 0).emit (.doe p 0x806 []) else s.tdispError p

/-- STOP_INTERFACE_REQUEST: the effects of an FLR of PFn, then CONFIG_UNLOCKED (R352). -/
def stopInterfaceRequest (p session : Nat) (s : State) : State :=
  s.tdisp p session fun s => ((s.flrPart p).setTdi p 0 0).emit (.doe p 0x807 [])

/-- CONFIG_WRITE_LOCKED: a configuration write that would change a locked item is dropped, and the TDI enters ERROR (R351). -/
def configWriteLocked (p : Nat) (s : State) : State :=
  if s.tdi p = 1 ∨ s.tdi p = 2 then (s.tdiError p 0x5008).toPart 0x5008 p (.unit .function p 0) else s

/-! ### Tenant removal and power states (R359, R360, R365) -/

/-- The beginning of a removal: every target of the partition EMPTY without a fault (Table 10.12), the effects of an FLR of PFn, every slot of the partition ACTIVE to RETIRING, every seam retiring (R365,
items 1 and 2), and its flows under the retiring epoch (R202). -/
def State.removeBegin (s : State) (p : Nat) : State :=
  let t := ((List.range 8).filter fun f => s.faceOwner f == p).foldl State.emptyFace s
  let t := (t.flrPart p).setTdi p 0 0
  let t := (t.slots.filter fun (_, k) => k.owner == p).foldl (fun (t : State) (n, _) => t.retireSlot n) t
  let t := ((t.fab.keys.filter (·.part == p)).map (·.slot)).foldl State.retireSlot t
  let mark (k : FlowKey) : FlowKey := if k.part = p then { k with old := true } else k
  let t := { t with fab := { t.fab with keys := t.fab.keys.map mark } }
  (t.seams.filter fun (_, e) => e.owner == p && e.present).foldl (fun (t : State) (n, _) => t.retireSeam n) t

/-- Tallies, tasks, faces, channels and contexts cleared as for a tenant removal (Tables 10.12, 11.5, 12.7; R359, R365). -/
def State.clearEngines (s : State) (p : Nat) : State :=
  let mineH (h : RefHolder) : Bool := match h with
    | .ctx q _ | .owner q _ => q == p
    | .desc c _ => s.chanOwner c == p
    | .task t => s.taskOwner t == p
  let t := { s with
    tal := { s.tal with
      recs := s.tal.recs.filter fun (n, _) => s.tallyOwner n != p
      regs := s.tal.regs.filter fun g => g.part != p
      refs := s.tal.refs.filter fun r => !mineH r.1 }
    wnd := { s.wnd with tasks := s.wnd.tasks.filter (fun (_, k) => k.part != p), loads := s.wnd.loads.filter fun (_, l) => l.part != p }
    mov := { s.mov with chans := s.mov.chans.map fun (c, k) => (c, if s.chanOwner c = p then { done := k.done, bytes := k.bytes } else k) }
    req := { s.req with out := s.req.out.map fun r => if r.op.part = p then { r with discarded := true } else r }
    ctx := { s.ctx with
      tab := s.ctx.tab.map fun (k, e) => (k, if k / 4096 = p then { state := .free, gen := e.gen + 1 } else e)
      genBase := s.ctx.genBase.modD p 0 (· + 1)
      retired := s.ctx.retired.filter (·.1 != p) } }
  ((List.range 8).filter fun f => t.faceOwner f == p).foldl State.emptyFace t

/-- HST_CMD from the operator and the Lamp (REMOVE) or from a partition (the others); elsewhere CODE 0x2 (R370). -/
def State.hstCmd (s : State) (ap : Aperture) (f : Nat → State → State) : State :=
  match ap with
  | .operator => s.command .hst 0 fun s => s.cmdEnd .hst 0 0 2
  | .lamp => s.command .hst 7 fun s => s.cmdEnd .hst 7 0 2
  | .debug => s.command .hst 8 fun s => s.cmdEnd .hst 8 0 2
  | .part p => s.command .hst p (f p)
  | _ => s

/-- HST_CMD REMOVE (R365). -/
def hstRemove (ap : Aperture) (p : Nat) (s : State) : State :=
  let go (a : Nat) (s : State) : State :=
    if !s.defined p then s.cmdEnd .hst a 0 4
    else if s.hst.removing.any (·.1 == p) then s.cmdEnd .hst a 0 3
    else
      let t := s.removeBegin p
      { t with hst := { t.hst with removing := t.hst.removing ++ [(p, a, t.clk.shift)] } }.cmdBusy .hst a 0
  match ap with
  | .operator => s.command .hst 0 (go 0)
  | .lamp => s.command .hst 7 (go 7)
  | .part q => s.command .hst q fun s => s.cmdEnd .hst q 0 2
  | .debug => s.command .hst 8 fun s => s.cmdEnd .hst 8 0 2
  | _ => s

/-- Every key slot of the partition dead and every seam of it dead, domain and flow keys with them (R365, item 3). -/
def State.killKeys (s : State) (p : Nat) : State :=
  let t := (s.slots.filter fun (_, k) => k.owner == p).foldl (fun (t : State) (n, _) => t.killSlot n) s
  let t := { t with seams := t.seams.map fun ((n, e) : Nat × Seam) =>
    (n, if e.owner = p ∧ e.state = SeamState.retiring then { e with state := .dead, busy := false, job := .none } else e) }
  (t.dropKeys fun k => k.part == p).dropDomainKeys fun k => k.1 == p

/-- REMOVE_COMPLETE: the grace period is over: the keys die, the shares are zeroed, the engines cleared; REMOVED is set (R365). -/
def removeComplete (p : Nat) (s : State) : State :=
  match s.hst.removing.find? (·.1 == p) with
  | none => s
  | some (_, a, x) =>
    let t := ((s.reach (x + 16000)).killKeys p).clearEngines p
    let t := ((List.range 12).filter fun k => t.stackOwner k == p).foldl State.zeroShare t
    ({ t with hst := { t.hst with removing := t.hst.removing.filter (·.1 != p) } }.irqVis .hst p 2).cmdEnd .hst a 0 0

/-- PF_D3HOT (R359). -/
def pfD3hot (fn : Nat) (s : State) : State :=
  if fn ≤ 6 ∧ s.hst.power.getD (fn * 32) 0 = 0 then { s with hst := { s.hst with power := s.hst.power.put (fn * 32) 1 } } else s

/-- PF_D0: from D3hot; channels resume and waiting TLPs may leave, in order (R360). -/
def pfD0 (fn : Nat) (s : State) : State :=
  if fn ≤ 6 ∧ s.hst.power.getD (fn * 32) 0 = 1 then
    { s with hst := { s.hst with power := s.hst.power.erase (fn * 32), pme := s.hst.pme.erase fn } }
  else s

/-- PF_D3COLD: the partition's keys, channels and contexts are destroyed as under tenant removal, host traffic refused; its flow keys
live out their 16 µs (R359, R146, R202; DEDUCED, log 65). -/
def pfD3cold (p : Nat) (s : State) : State :=
  if 1 ≤ p ∧ p ≤ 6 ∧ s.hst.power.getD (p * 32) 0 ≠ 2 then
    let t := { s with hst := { s.hst with power := s.hst.power.put (p * 32) 2 } }
    let t := (t.removeBegin p).clearEngines p
    let t := ((List.range 12).filter fun k => t.stackOwner k == p).foldl State.beginZero t
    t.dropDomainKeys fun k => k.1 == p
  else s

/-- D0_FROM_D3COLD (R359). -/
def d0FromD3cold (p : Nat) (s : State) : State :=
  if s.hst.power.getD (p * 32) 0 = 2 then { s with hst := { s.hst with power := s.hst.power.erase (p * 32), pme := s.hst.pme.erase p } } else s

/-- VF_POWER_STATE: a VF's state affects its doorbells and MSI-X messages only (R359). -/
def vfPowerState (p v d : Nat) (s : State) : State :=
  if 1 ≤ p ∧ p ≤ 6 ∧ 1 ≤ v ∧ v ≤ (s.shapeOf p).vfs ∧ d ≤ 2 then
    { s with hst := { s.hst with power := if d = 0 then s.hst.power.erase (p * 32 + v) else s.hst.power.put (p * 32 + v) d } }
  else s

/-! ### Link-down (R363, R364) -/

/-- An egress bound for the host, which link-down drops; a wrapped unit whose destination is a device is none. -/
def State.hostBound (s : State) (e : Egress) : Bool :=
  e.point == .host && (match e.cargo with
    | .unit c _ _ => (match (s.chan c).act with
      | some a => a.d.dstHost
      | none => true)
    | _ => true)

/-- Every host-bound TLP of a partition dropped (R363). -/
def State.dropHostBound (s : State) (p : Nat) : State :=
  let l := (s.horizon p).held.filter s.hostBound
  l.foldl State.dropQuiet (s.modHz p fun h => { h with held := h.held.filter fun e => !s.hostBound e })

/-- An ABORT that waits for a record completes when the record is dropped (R335). -/
def State.endAwait (s : State) (c : Nat) : State :=
  match (s.chan c).awaitRec, (s.chan c).cmdAp with
  | some _, some a => (s.modChan c fun k => { k with awaitRec := none, cmdAp := none }).cmdEnd .mov a c 0
  | _, _ => s

/-- The host link is gone: streams, keys and sessions; host-bound TLPs; contexts with host transfers; channels on host rings; TDIs (R363). -/
def State.linkDown (s : State) : State :=
  let lost := allParts.flatMap fun p => (s.hostCtxs p fun _ => true).map fun c => (p, c)
  let t := { s with hst := { s.hst with up := false, bwaits := [] } }
  let t := (List.range 17).foldl (fun (t : State) k => t.insecure k true) t
  let t := t.endSessions fun _ => true
  let t := allParts.foldl State.dropHostBound t
  let t := lost.foldl (fun (t : State) (p, c) => t.loseCtx p c 0x5005 (.unit .function p 0)) t
  let t := (List.range 32).foldl (fun (t : State) c =>
    let t := t.endAwait c
    let k := t.chan c
    if k.space then t
    else if k.state == .draining then t.abortHalt c 0x5005
    else if k.state == .run || k.state == .stopped || k.state == .halted then (t.haltChan c 0x5005).endFailed c false
    else t) t
  allParts.foldl (fun (t : State) p => t.tdiError p 0x5007) t

/-- SURPRISE_LINK_DOWN. -/
def surpriseLinkDown (s : State) : State :=
  let t := s.linkDown
  let t := { t with hst := { t.hst with downs := satInc t.hst.downs } }
  ([0, 7, 8] ++ allParts.filter s.defined).foldl (fun (t : State) a => t.irq .hst a 4) t

/-- HOST_LINK_UP: a new SPDM session is needed, every session having ended with the link (R364). A link whose cluster is offline stays
down (R22). -/
def hostLinkUp (s : State) : State :=
  if (s.clus.getD 112 {}).offline then s else { s with hst := { s.hst with up := true } }

/-! ### Dirty logging (R366) -/

/-- HST_CMD DIRTY_ENABLE: the units of the masked functions are zeroed first (R366). -/
def hstDirtyEnable (ap : Aperture) (s : State) : State :=
  s.hstCmd ap fun p s =>
    let m : BitVec 17 := (s.arg .hst p 0x18).extractLsb' 0 17
    if m &&& ~~~((s.shapeOf p).loggable.setWidth 17) ≠ 0 then s.cmdEnd .hst p 0 4
    else
      let cut (k : Nat) : Bool := s.stackOwner (k / 2 ^ 29) == p && m.getLsbD (k / 2 ^ 24 % 32)
      { s with
        ins := { s.ins with dirty := s.ins.dirty.filter fun k => !cut k }
        hst := { s.hst with dirtyPend := s.hst.dirtyPend.put p m } }.cmdBusy .hst p 0

/-- DIRTY_ENABLE_DONE: logging starts for the masked functions (R366). -/
def dirtyEnableDone (p : Nat) (s : State) : State :=
  match s.hst.dirtyPend.find p with
  | none => s
  | some m =>
    { s with
      ins := { s.ins with dirtyEn := s.ins.dirtyEn.modD p 0 (· ||| m) }
      hst := { s.hst with dirtyPend := s.hst.dirtyPend.erase p } }.cmdEnd .hst p 0 0

/-- HST_CMD DIRTY_DISABLE: logging stops at once, the bits stay (R366). -/
def hstDirtyDisable (ap : Aperture) (s : State) : State :=
  s.hstCmd ap fun p s =>
    let m : BitVec 17 := (s.arg .hst p 0x18).extractLsb' 0 17
    { s with ins := { s.ins with dirtyEn := s.ins.dirtyEn.modD p 0 (· &&& ~~~m) } }.cmdEnd .hst p 0 0

/-! ### Migration keys (R368, Table 13.6) -/

/-- Bytes 0 to 4,431 of a blob of this unit: keys and ciphertexts that the public-key engine makes are free values (DESIGN CHOICE, log 9). -/
def State.blobHead (s : State) (format p : Nat) (nonce : BitVec 256) : List Byte :=
  leBytes 2 format ++ [BitVec.ofNat 8 p, BitVec.ofNat 8 s.fuse.lifecycle, 0, 0, 0, 0] ++ leBytes 8 s.fuse.unitId.toNat ++ leBytes 32 nonce.toNat
    ++ s.freeBytes (1568 + 97) ++ List.replicate 15 0 ++ s.used.freeBytes (2592 + 97) ++ List.replicate 15 0

/-- The blob written to the host, its signatures free (DESIGN CHOICE, log 9). -/
def State.writeBlob (s : State) (p : Nat) (head : List Byte) : State :=
  let addr : Dword := s.arg .hst p 0x14 ++ s.arg .hst p 0x10
  (s.hold p .host none (.hostWrite (p * 32) addr
    (head ++ s.freeBytes (4627 + 96) ++ List.replicate (12288 - 4432 - 4723) 0) none)).used

/-- The peer's identity hash in HST_PEER0 to HST_PEER7. -/
def State.peerHash (s : State) (p : Nat) : BitVec 256 :=
  BitVec.ofNat 256 ((List.range 8).foldl (fun n i => n + (s.arg .hst p (0x40 + 4 * i)).toNat * 2 ^ (32 * i)) 0)

/-- A refused migration command: its CODE, and 0x5009 logged for a failed check (R368). -/
def State.migRefuse (s : State) (p code : Nat) : State := (s.logged 0x5009 p (.unit .function p 0)).cmdEnd .hst p 0 code

/-- The identity hash of the blob's identity public keys, as R212 defines it (Tables 8.9, 13.6). -/
def blobIdentity (b : MigBlob) : BitVec 256 :=
  BitVec.ofNat 256 (ofLe (kmac256 (ascii "YEBIN3") ((b.head.drop 1728).take (2592 + 97)) 32 "YEBIN3-IDENTITY"))

/-- The nonce of a blob (Table 13.6). -/
def blobNonce (b : MigBlob) : BitVec 256 := BitVec.ofNat 256 (leAt b.head 16 32)

/-- The checks of a blob: format, signatures, identity, life-cycle; 0 when all pass (R368). -/
def State.blobCheck (s : State) (p format : Nat) (b : MigBlob) : Nat :=
  if leAt b.head 0 2 ≠ format ∨ b.head.length ≠ 4432 then 4
  else if !b.sigsOk ∨ blobIdentity b ≠ s.peerHash p then 5
  else if leAt b.head 3 1 ≠ s.fuse.lifecycle then 6
  else 0

/-- K_mig installed in a slot of the partition, its export count at 0, when a slot is free beyond the reservations (R368, R380). -/
def State.installMig (s : State) (p : Nat) (ss offer accept : List Byte) : Option (State × Nat) :=
  (if s.freeSlots (reservedSlots s.lease s.lse.shape s.lse.node) = 0 then none else s.freeSlot []).map fun n =>
    let th := kmac256 (ascii "XENER") (offer ++ accept) 64 "XENER-MIGRATE-TRANSCRIPT"
    let k := kmac256 ss th 32 "XENER-MIGRATE-KEY"
    let t := s.putKey n 0xF p 4 2 0 (BitVec.ofNat 512 (ofLe k))
    ({ t with mov := { t.mov with export_ := t.mov.export_.erase n, import_ := t.mov.import_.erase n } }, n)

/-- HST_ARG1:HST_ARG0 is a multiple of 64. -/
def State.blobAddrOk (s : State) (p : Nat) : Bool := (s.arg .hst p 0x10).toNat % 64 == 0

/-- The host can be reached under the partition's stream: what R10 and R359 ask, whichever slot the host cluster is in. -/
def State.hostReach (s : State) (p : Nat) : Bool :=
  s.hst.up && s.hst.power.getD (p * 32) 0 == 0 && (!s.confidential p || ((s.secureStream p).isSome && s.tdi p == 2))

/-- A blob read by the host cluster under the partition's stream (R368). -/
def State.readBlob (s : State) (p : Nat) : State :=
  s.toHost p 1 none [] fun x _ => .blobRead p x (s.arg .hst p 0x14 ++ s.arg .hst p 0x10)

/-- What MIG_OFFER is refused with before host memory is written, 0 when nothing. -/
def State.offerCheck (s : State) (p : Nat) : Nat :=
  if (s.hst.offers.find p).isSome then 3 else if !s.blobAddrOk p then 4 else if !s.drbgOk then 7 else 0

/-- What MIG_ACCEPT is refused with before host memory is read. -/
def State.acceptCheck (s : State) (p : Nat) : Nat := if !s.blobAddrOk p then 4 else if !s.drbgOk then 7 else 0

/-- What MIG_FINISH is refused with before host memory is read. -/
def State.finishCheck (s : State) (p : Nat) : Nat := if (s.hst.offers.find p).isNone then 3 else if !s.blobAddrOk p then 4 else 0

/-- HST_CMD MIG_OFFER: ephemeral keys and an OFFER blob; at most one is pending (R368). -/
def hstMigOffer (ap : Aperture) (hostOk : Bool) (s : State) : State :=
  s.hstCmd ap fun p s =>
    if s.offerCheck p ≠ 0 then (if s.offerCheck p = 7 then s.noKey p else s).cmdEnd .hst p 0 (s.offerCheck p)
    else if !hostOk ∨ !s.hostReach p then s.cmdEnd .hst p 0 8
    else
      let nonce : BitVec 256 := s.rand.setWidth 256
      let t := s.used
      let head := t.blobHead 2 p nonce
      let t := t.used.used.writeBlob p head
      { t with hst := { t.hst with offers := t.hst.offers.put p { nonce, head, at_ := s.clk.cyc } } }.cmdEnd .hst p 0 0

/-- HST_CMD MIG_ACCEPT: an OFFER is checked, an ACCEPT written, K_mig installed (R368). -/
def hstMigAccept (ap : Aperture) (offer : Option MigBlob) (s : State) : State :=
  s.hstCmd ap fun p s =>
    if s.acceptCheck p ≠ 0 then (if s.acceptCheck p = 7 then s.noKey p else s).cmdEnd .hst p 0 (s.acceptCheck p)
    else if !s.hostReach p then s.cmdEnd .hst p 0 8
    else
      let s := s.readBlob p
      match offer with
      | none => s.cmdEnd .hst p 0 8
      | some b =>
        let code := s.blobCheck p 2 b
        if code ≠ 0 then s.migRefuse p code
        else
          let head := s.blobHead 3 p (blobNonce b)
          match s.used.used.installMig p (b.ssKem ++ b.ssEcdh) b.head head with
          | none => s.migRefuse p 7
          | some (t, n) => (t.writeBlob p head).cmdEnd .hst p n 0

/-- HST_CMD MIG_FINISH: the ACCEPT is checked, K_mig installed, the OFFER's ephemeral keys gone (R368). -/
def hstMigFinish (ap : Aperture) (accept : Option MigBlob) (s : State) : State :=
  s.hstCmd ap fun p s =>
    match s.hst.offers.find p with
    | none => s.cmdEnd .hst p 0 3
    | some o =>
      if !s.blobAddrOk p then s.cmdEnd .hst p 0 4
      else if !s.hostReach p then s.cmdEnd .hst p 0 8
      else
        let s := s.readBlob p
        match accept with
        | none => s.cmdEnd .hst p 0 8
        | some b =>
          let code := if s.blobCheck p 3 b = 0 ∧ blobNonce b ≠ o.nonce then 5 else s.blobCheck p 3 b
          if code ≠ 0 then s.migRefuse p code
          else match s.installMig p (b.ssKem ++ b.ssEcdh) o.head b.head with
            | none => s.migRefuse p 7
            | some (t, n) => { t with hst := { t.hst with offers := t.hst.offers.erase p } }.cmdEnd .hst p n 0

/-- MIG_OFFER_EXPIRE: 10 s after MIG_OFFER its ephemeral keys are zeroised (R368). -/
def migOfferExpire (p : Nat) (s : State) : State := { s with hst := { s.hst with offers := s.hst.offers.erase p } }

end Sys2Proof.Machine
end

