-- ==== Sys2Proof/Machine/Keys.lean ====
section
/-!
DEFINITION. Machine/Keys.lean: the vault's commands and slot states (14, R376 to R382), the entropy source and DRBG (R383 to R385), the
check engine (R386, R387), the public-key engine (R389, R390), the Lamp's memory (R391), tamper (R394) and the life-cycle (R395 to R399).
-/

namespace Sys2Proof.Machine

/-! ### VLT_CMD (R379, R382, R401) -/

/-- A VLT_CMD from the operator or the Lamp; the registers appear in no partition aperture (R401). `lampOnly` commands are refused to the
operator with CODE 0x2. -/
def State.vltCmd (s : State) (ap : Aperture) (slot : Nat) (lampOnly : Bool) (f : Nat → State → State) : State :=
  match ap with
  | .operator => s.command .vlt 0 fun s => if lampOnly then s.cmdEnd .vlt 0 slot 2 else f 0 s
  | .lamp => s.command .vlt 7 (f 7)
  | .debug => s.command .vlt 8 fun s => s.cmdEnd .vlt 8 slot 2
  | _ => s

/-- The attribute word of a slot (Table 14.4). -/
def Slot.word (k : Slot) : Word :=
  let st : BitVec 2 := match k.state with
    | .empty => 0 | .active => 1 | .retiring => 2 | .dead => 3
  k.usage ++ BitVec.ofNat 3 k.owner ++ k.level ++ k.origin ++ (0 : BitVec 1) ++ st ++ k.epoch

/-- The key that a slot holds, as its bytes: 128 bits of a seam hash key, K_pad and H of a flow or of a link direction, 256 bits of the others
(R77, R177, R197, R327); a session's is as long as the slot (DESIGN CHOICE, log 9). -/
def State.slotBytes (s : State) (n : Nat) : List Byte :=
  let k := s.slot n
  let len :=
    if k.usage = 7 then 16
    else if k.usage = 0xD ∨ (k.usage = 8 ∧ (List.range 8).all fun t => (s.site t).z != some n) then 48
    else if k.usage = 0xA then 64
    else 32
  (leBytes 64 k.key.toNat).take len

/-- A key-origin statement, its signatures free (Table 14.7, DESIGN CHOICE, log 9). -/
def State.originStatement (s : State) (a slot : Nat) : List Byte :=
  let k := s.slot slot
  let nonce := (List.range 8).flatMap fun i => leBytes 4 (s.arg .vlt a (0x20 + 4 * i)).toNat
  let commit := kmac256 (s.slotBytes slot) [] 32 "XENER-KEY-COMMIT"
  leBytes 2 5 ++ leBytes 2 slot ++ leBytes 4 k.word.toNat ++ leBytes 8 s.fuse.unitId.toNat ++ leBytes 8 s.clk.shift.toNat ++ nonce ++ commit
    ++ List.replicate 40 0 ++ s.freeBytes (4627 + 96) ++ List.replicate (8192 - 4851) 0

/-- What VLT_CMD ORIGIN is refused with before anything is written to host memory. -/
def State.originCheck (s : State) (slot : Nat) : Nat :=
  if (s.slot slot).state = .empty ∨ (s.slot slot).state = .dead then 3 else if slot < 4 then 4 else 0

/-- VLT_CMD ORIGIN (R382). -/
def vltOrigin (ap : Aperture) (slot : Nat) (hostOk : Bool) (s : State) : State :=
  s.vltCmd ap slot false fun a s =>
    if s.originCheck slot ≠ 0 then s.cmdEnd .vlt a slot (s.originCheck slot)
    else if !hostOk ∨ !s.hst.up then (s.logged 0x800D 0 (.unit .slot slot 0)).cmdEnd .vlt a slot 5
    else
      ((s.toHost 0 0 none (s.originStatement a slot) fun k b =>
        .hostWrite 0 k (s.arg .vlt a 0x14 ++ s.arg .vlt a 0x10) b).used).cmdEnd .vlt a slot 0

/-- VLT_CMD RETIRE, from the Lamp (R379). -/
def vltRetire (ap : Aperture) (slot : Nat) (s : State) : State :=
  s.vltCmd ap slot true fun a s =>
    if slot < 4 then s.cmdEnd .vlt a slot 4
    else if (s.slot slot).state ≠ .active then s.cmdEnd .vlt a slot 3
    else (s.retireSlot slot).cmdEnd .vlt a slot 0

/-- VLT_CMD ZEROISE, from the Lamp (R379). -/
def vltZeroise (ap : Aperture) (slot : Nat) (s : State) : State :=
  s.vltCmd ap slot true fun a s =>
    if slot < 4 then s.cmdEnd .vlt a slot 4
    else match (s.slot slot).state with
      | .active | .retiring => (s.killSlot slot).cmdEnd .vlt a slot 0
      | _ => s.cmdEnd .vlt a slot 3

/-- An operation under the slot's key is in flight: at a shaft, or of a channel that wraps or unwraps under it. -/
def State.slotBusy (s : State) (n : Nat) : Bool :=
  s.shafts.any (fun (_, sh) => sh.track.any (fun t => t.padSlot == n || t.hashSlot == n) || sh.wb.any fun (_, w) => w.padSlot == n)
    || s.mov.chans.any fun (_, k) => match k.act with
      | some a => (a.d.op == 5 || a.d.op == 6) && a.d.field 7 52 12 == n
      | none => false

/-- SLOT_DEAD: RETIRING to DEAD once no operation under the key remains and its grace period has passed, 16 µs of shift time for a flow's
key (R202, R379). -/
def slotDead (slot : Nat) (s : State) : State :=
  let k := s.slot slot
  if k.state = .retiring ∧ s.slotBusy slot = false then (if k.usage = 0xD then s.reach (k.since + 16000) else s).killSlot slot else s

/-- SLOT_EMPTY: DEAD to EMPTY; an UNSEAL that waited for its next slots goes on (R84, R379). -/
def slotEmpty (slot : Nat) (s : State) : State :=
  if (s.slot slot).state ≠ .dead then s
  else
    let t := { s with slots := s.slots.erase slot }
    match t.seams.find? fun (_, e) => e.busy && (e.nextPad == slot || e.nextHash == slot) with
    | some (n, _) => t.unsealGo n
    | none => t

/-- Every slot DEAD at once (R393, R394, R399). -/
def State.killAll (s : State) : State := s.slots.foldl (fun (t : State) (n, _) => t.killSlot n) s

/-! ### Entropy and the DRBG (R384, R385) -/

/-- The vault's engines rewritten. -/
def State.modVlt (s : State) (f : VltSt → VltSt) : State := { s with vlt := f s.vlt }

/-- A bit of VLT_IRQ_STATUS in the operator, Lamp and debug instances (R401). -/
def State.vltIrq (s : State) (bit : Nat) : State := s.irqVis .vlt 0 bit

/-- DRBG_GENERATE: a request of at most 512 bits is served, waits for the start-up test, or is refused with 0x8005 (R384, R385). -/
def drbgGenerate (bits : Nat) (s : State) : State :=
  if s.vlt.entropy = 3 then s.logged 0x8005 0 .none
  else if 512 < bits then s
  else if s.vlt.entropy = 1 then s.used.modVlt fun v => { v with reqs := v.reqs + 1 }
  else s.modVlt fun v => { v with waiting := v.waiting + 1 }

/-- DRBG_RESEED: 512 raw bits enter the DRBG, and the count of requests starts anew (R384). -/
def drbgReseed (s : State) : State := if s.vlt.entropy = 1 then s.used.modVlt fun v => { v with reqs := 0 } else s

/-- ENTROPY_HEALTH_FAIL: the source restarts; a third failure within 1 s marks it failed and stops the DRBG (R385). -/
def entropyHealthFail (s : State) : State :=
  if s.vlt.entropy = 3 then s
  else
    let fails := (s.clk.cyc :: s.vlt.fails).take 3
    let t := s.modVlt fun v => { v with fails, restarts := satInc v.restarts, entropy := 2 }
    let t := (t.logged 0x8003 0 .none).vltIrq 2
    if 3 ≤ recent s.clk.cyc cycPerSec fails then
      (t.modVlt fun v => { v with entropy := 3, waiting := 0 }).alarm 0x8004 .none
    else t

/-- ENTROPY_STARTUP_PASS: the source is healthy again and waiting generate requests proceed (R385). -/
def entropyStartupPass (s : State) : State :=
  if s.vlt.entropy = 0 ∨ s.vlt.entropy = 2 then
    { s with fresh := s.fresh + s.vlt.waiting }.modVlt fun v => { v with entropy := 1, reqs := v.reqs + v.waiting, waiting := 0 }
  else s

/-! ### The check engine (R386, R387) -/

/-- The jobs of a priority, the one in progress first. -/
def State.jobsAt (s : State) (p : Nat) : List ChkJob := s.vlt.jobs.getD p []

/-- CHECK_JOB_SUBMIT: a job joins its priority, one in progress and 15 queued; what stands behind them in the list are requesters that
wait for the queue. A failed engine refuses every job (R386, R387). -/
def checkJobSubmit (prio perms : Nat) (s : State) : State :=
  if s.vlt.chkFailed ∨ 4 ≤ prio ∨ perms = 0 then s
  else s.modVlt fun v =>
    { v with jobs := v.jobs.put prio (s.jobsAt prio ++ [{ left := perms, total := perms }]), running := some (v.running.getD prio) }

/-- The most urgent priority with a job. -/
def State.nextJob (s : State) : Option Nat := [0, 1, 2, 3].find? fun p => !(s.jobsAt p).isEmpty

/-- CHECK_PERMUTATION: the cores finish a permutation of the running job and compare; the job counts down, is released at its end, or
restarts on a mismatch; a second mismatch within it or a third within 1 s fails the engine (R387). A more urgent job takes the cores at
this boundary (R386). -/
def checkPermutation (agree : Bool) (s : State) : State :=
  match s.vlt.running with
  | none => s
  | some p =>
    match s.jobsAt p with
    | [] => s.modVlt fun v => { v with running := none }
    | j :: rest =>
      let put (l : List ChkJob) (t : State) : State :=
        let u := t.modVlt fun v => { v with jobs := if l.isEmpty then v.jobs.erase p else v.jobs.put p l }
        u.modVlt fun v => { v with running := u.nextJob }
      if agree then
        if j.left ≤ 1 then put rest (s.modVlt fun v => { v with chkJobs := satInc v.chkJobs })
        else put ({ j with left := j.left - 1 } :: rest) s
      else
        let hist := (s.clk.cyc :: s.vlt.chkHist).take 3
        let t := (s.modVlt fun v => { v with mismatch := satInc v.mismatch, chkHist := hist }).logged 0x8006 0 .none
        let t := t.vltIrq 1
        if 1 ≤ j.bad ∨ 3 ≤ recent s.clk.cyc cycPerSec hist then
          ((t.modVlt fun v => { v with chkFailed := true, jobs := [], running := none }).raise 0x8007 6 0 none .none).chipStep 0x8007
        else put ({ j with left := j.total, bad := j.bad + 1 } :: rest) t

/-! ### The public-key engine (R389, R390) -/

/-- The number of a unit. -/
def pkNum : PkUnit → Nat
  | .kem => 0 | .dsa => 1 | .ecdsa => 2 | .ecdh => 3

/-- A unit. -/
def State.pkUnit (s : State) (u : PkUnit) : PkeUnit := s.vlt.pke.getD (pkNum u) {}

/-- A unit rewritten. -/
def State.setPk (s : State) (u : PkUnit) (x : PkeUnit) : State := s.modVlt fun v => { v with pke := v.pke.put (pkNum u) x }

/-- PKE_REQUEST: an operation begins at an idle unit, or waits by its priority and then its arrival (R389). -/
def pkeRequest (u : PkUnit) (prio : Nat) (s : State) : State :=
  let x := s.pkUnit u
  if 4 ≤ prio then s
  else if x.busy then s.setPk u { x with queue := x.queue ++ [prio] }
  else s.setPk u { x with busy := true, prio }

/-- The most urgent waiting operation starts when one ends. -/
def PkeUnit.next (x : PkeUnit) : PkeUnit :=
  match [0, 1, 2, 3].find? x.queue.contains with
  | none => { x with busy := false, prio := 0 }
  | some p => { busy := true, prio := p, queue := x.queue.erase p }

/-- PKE_COMPLETE: an operation that has begun completes, and the unit takes the next (R389). -/
def pkeComplete (u : PkUnit) (s : State) : State :=
  let x := s.pkUnit u
  if x.busy then (s.setPk u x.next).modVlt fun v => { v with pkeOps := satInc v.pkeOps } else s

/-- SIGN_WINDOW_END: a verified signature is released, or a new window starts with fresh randomness; a failed verification logs 0x8008
(R390). -/
def signWindowEnd (ok verifyFail : Bool) (s : State) : State :=
  if !(s.pkUnit .dsa).busy then s
  else if ok then pkeComplete .dsa s
  else
    let t := s.used.modVlt fun v => { v with pkeRestart := satInc v.pkeRestart }
    if verifyFail then (t.logged 0x8008 0 .none).vltIrq 1 else t

/-! ### Checked state, tamper, the Lamp's memory (R391, R393, R394) -/

/-- STATE_ENCODING_ERROR (R393). -/
def stateEncodingError (s : State) : State := ((s.raise 0x8009 7 0 none .none).killAll).powerCycle

/-- TAMPER_EVENT: every slot DEAD, the DRBG zeroised, TAMPER set, the power cycle asked for (R394). The pin is watched before event P too
(R452, Table 18.4). -/
def tamperEvent (s : State) : State :=
  if s.pins.tamper then s else
  let t := (s.killAll).modVlt fun v => { v with entropy := 3, waiting := 0 }
  let t := { t with fuse := { t.fuse with tamper := true }, pins := { t.pins with tamper := true } }
  (t.raise 0x800A 7 0 none .none).powerCycle

/-- LAMP_SRAM_UNCORR: 0x800F and the chip step; a retained word leaves the soft repair map empty (R391). -/
def lampSramUncorr (retained : Bool) (s : State) : State :=
  let clear (e : Slice) : Slice := { e with spares := e.spares + e.soft, soft := 0 }
  let t := if retained then { s with ins := { s.ins with slices := s.ins.slices.map fun (q, e) => (q, clear e) } } else s
  (t.raise 0x800F 6 0 none .none).chipStep 0x800F

/-! ### Life-cycle (R395 to R399) -/

/-- The valid record with the highest COUNTER. -/
def Fuses.record (f : Fuses) : Option LcRecord :=
  (f.records.filter (·.valid)).foldl (fun o r => match o with
    | some x => if x.counter ≤ r.counter then some r else some x
    | none => some r) none

/-- The life-cycle state (R396). -/
def Fuses.evaluate (f : Fuses) : Nat := if f.scrap then 5 else (f.record.map (·.state)).getD 1

/-- AUTH of the valid record of a state. -/
def Fuses.authOf (f : Fuses) (st : Nat) : BitVec 384 := ((f.records.filter fun r => r.valid && r.state == st).getLast?.map (·.auth)).getD 0

/-- The lowest-numbered unused record slot. -/
def Fuses.freeRecord (f : Fuses) : Option Nat := f.records.findIdx? fun r => !r.used

/-- A transition is permitted, and its signers are these (Table 14.12). -/
def Fuses.signers (f : Fuses) (src dst : Nat) : Option (List (BitVec 384)) :=
  if src = 1 ∧ dst = 2 then some [Config.rootHash]
  else if src = 2 ∧ dst = 3 then some [f.authOf 2]
  else if src = 3 ∧ dst = 4 then some [f.authOf 3, Config.rootHash]
  else none

/-- Bytes of a request. -/
def reqBytes (x : Transition) (off n : Nat) : List Byte := (x.bytes.drop off).take n

/-- FROM, TO, COUNTER, AUTH and the signer count of a request (Table 14.11). -/
def reqFrom (x : Transition) : Nat := leAt x.bytes 2 1
def reqTo (x : Transition) : Nat := leAt x.bytes 3 1
def reqCounter (x : Transition) : Nat := leAt x.bytes 4 4
def reqAuth (x : Transition) : BitVec 384 := BitVec.ofNat 384 (leAt x.bytes 16 48)
def reqCount (x : Transition) : Nat := leAt x.bytes 64 1

/-- The signer hash of two identity public keys (Table 14.2). -/
def signerHash (keys : List Byte) : BitVec 384 := BitVec.ofNat 384 (ofLe (kmac256 (ascii "XENER") keys 48 "XENER-SIGNER"))

/-- The signer hashes of a request, in order. -/
def reqSigners (x : Transition) : List (BitVec 384) :=
  (List.range (reqCount x)).map fun i => signerHash (reqBytes x (128 + 7488 * i) 2689)

/-- The format is correct and the zero bytes are zero (R397, Table 14.11). -/
def reqFormat (x : Transition) : Bool :=
  let zero (off n : Nat) : Bool := (reqBytes x off n).all (· == 0)
  x.bytes.length == 16384 && leAt x.bytes 0 2 == 4 && (reqCount x == 1 || reqCount x == 2) && zero 65 63 && zero 15104 1280
    && (List.range (reqCount x)).all fun i => zero (128 + 7488 * i + 2689) 31 && zero (128 + 7488 * i + 7443) 45

/-- The CODE a transition request is refused with, 0 when it is accepted (R397, Table 14.20). Where several apply, the first in this order
(DESIGN CHOICE, log 97). -/
def State.transitionCheck (s : State) (x : Transition) : Nat :=
  let f := s.fuse
  if !reqFormat x then 4
  else if reqFrom x ≠ f.lifecycle ∨ (f.signers (reqFrom x) (reqTo x)).isNone then 3
  else if reqTo x = 4 ∧ reqAuth x ≠ 0 then 4
  else if leAt x.bytes 8 8 ≠ f.unitId.toNat ∨ reqCounter x ≠ f.counter then 5
  else if 32 ≤ f.counter ∨ f.freeRecord.isNone then 7
  else if f.progDone ∨ f.prog.isSome then 3
  else if (f.signers (reqFrom x) (reqTo x)) ≠ some (reqSigners x) ∨ x.sigsOk.length ≠ reqCount x ∨ x.sigsOk.any (!·) then 6
  else 0

/-- LCS_CMD from the operator or the Lamp; the debug port may not write (R401). A strap refuses its commands with CODE 0x2 (R454). -/
def State.lcsCmd (s : State) (ap : Aperture) (f : Nat → State → State) : State :=
  let go (a : Nat) (s : State) : State := if s.pins.strap.getLsbD 1 then s.cmdEnd .lcs a 0 2 else f a s
  match ap with
  | .operator => s.command .lcs 0 (go 0)
  | .lamp => s.command .lcs 7 (go 7)
  | _ => s

/-- LCS_CMD TRANSITION: the request is read and checked, and the programming of its record starts (R397, R398). -/
def lcsTransition (ap : Aperture) (req : Option Transition) (s : State) : State :=
  s.lcsCmd ap fun a s =>
    let addr : Dword := s.arg .lcs a 0x14 ++ s.arg .lcs a 0x10
    if addr.toNat % 64 ≠ 0 then (s.logged 0x800E 0 .none).cmdEnd .lcs a 0 4
    else if !s.hst.up then (s.logged 0x800E 0 .none).cmdEnd .lcs a 0 8
    else
    let s := s.toHost 0 1 none [] fun k _ => .blobRead 0 k addr
    match req with
    | none => (s.logged 0x800E 0 .none).cmdEnd .lcs a 0 8
    | some x =>
      let code := s.transitionCheck x
      if code ≠ 0 then (s.logged 0x800E 0 .none).cmdEnd .lcs a 0 code
      else
        let r : LcRecord := { used := true, valid := true, state := reqTo x, counter := reqCounter x + 1, auth := reqAuth x }
        { s with fuse := { s.fuse with prog := some (r, a), counter := s.fuse.counter + 1 } }.cmdBusy .lcs a 0

/-- A record in the lowest unused slot. -/
def Fuses.blow (f : Fuses) (r : LcRecord) : Fuses :=
  match f.freeRecord with
  | some i => { f with records := f.records.set i r }
  | none => f

/-- TRANSITION_PROGRAMMED: CHECK is written, the record is valid, and NEXT shows the new state (R398). -/
def transitionProgrammed (s : State) : State :=
  match s.fuse.prog with
  | none => s
  | some (r, a) =>
    { s with fuse := { (s.fuse.blow r) with prog := none, progDone := true, next := r.state } }.cmdEnd .lcs a 0 0

/-- Programming that a reset or a loss of power interrupts: the slot stays used by an invalid record (R398). -/
def Fuses.interrupted (f : Fuses) : Fuses :=
  match f.prog with
  | some (r, _) => { (f.blow { r with valid := false }) with prog := none }
  | none => f

/-- LCS_CMD SCRAP, with the unit ID and the transition counter as arguments (R399). -/
def lcsScrap (ap : Aperture) (s : State) : State :=
  s.lcsCmd ap fun a s =>
    let id : Dword := s.arg .lcs a 0x14 ++ s.arg .lcs a 0x10
    if id ≠ s.fuse.unitId ∨ ((s.arg .lcs a 0x18).extractLsb' 0 6).toNat ≠ s.fuse.counter then s.cmdEnd .lcs a 0 5
    else
      (({ s with fuse := { s.fuse with scrap := true, next := 5 } }.killAll).powerCycle).cmdEnd .lcs a 0 0

end Sys2Proof.Machine
end

