-- ==== Sys2Proof/Machine/Lease.lean ====
section
/-!
DEFINITION. Machine/Lease.lean: the Lease read from its bytes (15, R402 to R407, R464) and its admission (R408, R409, Table 15.3).
-/

namespace Sys2Proof.Machine

/-! ### Reading records (R403 to R405) -/

/-- n bytes at an offset are zero. -/
def zeroAt (b : List Byte) (off n : Nat) : Bool := ((b.drop off).take n).all (· == 0)

/-- k fields of n bytes from an offset. -/
def leList (b : List Byte) (off n k : Nat) : List Nat := (List.range k).map fun i => leAt b (off + n * i) n

/-- Records of a size from an offset, count k. -/
def recordsAt (b : List Byte) (off size k : Nat) : List (List Byte) := (List.range k).map fun i => (b.drop (off + size * i)).take size

/-- A partition shape record of 248 bytes. -/
def readShape (b : List Byte) : Shape :=
  { shape := leAt b 0 1, part := leAt b 1 1, openKind := leAt b 2 1 == 1
    allowBound := (leAt b 3 1) % 2 == 1, carts := (leAt b 3 1) / 2 % 2 == 1, stepValid := (leAt b 3 1) / 4 % 2 == 1
    stackSet := BitVec.ofNat 16 (leAt b 4 2), narrow := BitVec.ofNat 16 (leAt b 6 2), sites := BitVec.ofNat 8 (leAt b 8 1)
    faces := BitVec.ofNat 8 (leAt b 9 1), hostSlots := leAt b 10 1, ideStreams := leAt b 11 1, vfs := leAt b 12 1
    channels := BitVec.ofNat 32 (leAt b 14 4), urgent := BitVec.ofNat 32 (leAt b 18 4), movCycles := leList b 22 1 4
    loggable := BitVec.ofNat 32 (leAt b 26 4), talBase := leAt b 30 2, talCount := leAt b 32 4, stepTally := leAt b 36 2
    wndBase := leAt b 38 1, wndCount := leAt b 39 2, budget := leAt b 41 2, reserve := leList b 43 1 12
    quotas := (List.range 4).map fun q => (leAt b (55 + 6 * q) 2, leAt b (57 + 6 * q) 2, leAt b (59 + 6 * q) 2)
    areas := (List.range 12).map fun k => leList b (79 + 14 * k) 2 7 }

/-- The padding and zero bits of a shape record. -/
def shapeZero (b : List Byte) : Bool := decide (leAt b 2 1 ≤ 1) && decide (leAt b 3 1 < 8) && zeroAt b 13 1 && zeroAt b 247 1

/-- A seam template record of 24 bytes. -/
def readTemplate (b : List Byte) : Template :=
  { part := leAt b 0 1, kind := leAt b 1 1, transferable := leAt b 2 1 != 0, count := leAt b 3 1, stackSet := BitVec.ofNat 16 (leAt b 4 2)
    maxGranules := leAt b 6 2, maxRate := leAt b 8 2, minInterval := leAt b 10 4, maxInterval := leAt b 14 4 }

/-- A node record of 48 bytes. -/
def readNode (b : List Byte) : NodeRec :=
  { unitId := BitVec.ofNat 64 (leAt b 0 8), node := leAt b 8 1, row := leAt b 9 1, col := leAt b 10 1, shape := leAt b 11 1
    parts := BitVec.ofNat 8 (leAt b 12 1), identity := BitVec.ofNat 256 (leAt b 13 32) }

/-- A port record of 16 bytes. -/
def readPort (b : List Byte) : PortRec :=
  { node := leAt b 0 1, port := leAt b 1 1, peer := leAt b 2 1, peerPort := leAt b 3 1, mode := leAt b 4 1, owner := leAt b 5 1
    slots := (List.range 16).map fun i => leAt b 6 8 / 16 ^ i % 16 }

/-- A shift order of 128 bits (Table 15.5). -/
def readOrder (b : List Byte) : Order :=
  let w := leAt b 0 16
  { time := BitVec.ofNat 64 (w >>> 64), action := (w >>> 60) % 16, basis := w.testBit 59, part := (w >>> 56) % 8, rep := w.testBit 55
    state := (w >>> 52) % 8, target := (w >>> 40) % 256, period := w % 2 ^ 40 }

/-- The policies record. -/
def readPolicies (b : List Byte) : Policies :=
  { compatDigest := BitVec.ofNat 256 (leAt b 0 32), compatEpoch := BitVec.ofNat 32 (leAt b 32 4), deadLose := leAt b 36 1 != 0
    canary := leAt b 37 2, moveStack := leList b 39 1 12, moveSite := leList b 51 1 8, moveFace := leList b 59 1 8
    moveChannel := leList b 67 1 32 }

/-- A partition deadline record of 24 bytes. -/
def readLimit (b : List Byte) : PartLimit :=
  { part := leAt b 0 1, slotDemand := leAt b 4 4, egressBound := leAt b 8 4, stepPeriod := leAt b 12 4, collBytes := leAt b 16 4
    maxBulk := leAt b 20 4 }

/-- A deadline-class record of 16 bytes. -/
def readClass (b : List Byte) : ClassLimit :=
  { part := leAt b 0 1, urgent := leAt b 1 1 != 0, host := leAt b 2 1 != 0, len := leAt b 4 4, deadline := leAt b 8 4 }

/-- A chiplet descriptor of 112 bytes (Table 7.8). -/
def readDescriptor (b : List Byte) : Descriptor :=
  { maker := BitVec.ofNat 16 (leAt b 0 2), part := BitVec.ofNat 16 (leAt b 2 2), rev := BitVec.ofNat 16 (leAt b 4 2)
    sites := BitVec.ofNat 8 (leAt b 6 1), minSvn := BitVec.ofNat 16 (leAt b 7 2), measurement := BitVec.ofNat 384 (leAt b 9 48)
    endorser := BitVec.ofNat 384 (leAt b 57 48) }

/-- The section directory entry of TYPE t: its OFFSET and LENGTH (R404). -/
def sectionAt (b : List Byte) (t : Nat) : Nat × Nat := (leAt b (64 + 16 * (t - 1) + 4) 4, leAt b (64 + 16 * (t - 1) + 8) 4)

/-- The partition numbers that any shape defines, ascending. -/
def Lease.partNumbers (l : Lease) : List Nat := (List.range 256).filter fun p => l.shapes.any (·.part == p)

/-- Records up to the first whose bytes are all zero (R464). -/
def untilZero (l : List (List Byte)) : List (List Byte) := l.takeWhile fun r => r.any (· != 0)

/-- The topology section (R464). -/
def readTopo (b : List Byte) (off len : Nat) : Topo :=
  let listed := leAt b (off + 4) 2
  { topo := leAt b off 1, rows := leAt b (off + 1) 1, cols := leAt b (off + 2) 1, deadBound := leAt b (off + 3) 1, listed
    minMembers := leAt b (off + 6) 2, formWindow := leAt b (off + 8) 2, hubHop := leAt b (off + 10) 2, foreman := leList b (off + 12) 1 4
    nodes := (recordsAt b (off + 16) 48 (min listed ((len - 16) / 48))).map readNode
    ports := (untilZero (recordsAt b (off + 16 + 48 * listed) 16 ((len - 16 - 48 * listed) / 16))).map readPort }

/-- The Lease in an image (R403 to R405, R464). -/
def readLease (b : List Byte) : Lease :=
  let sec (t : Nat) : Nat × Nat := sectionAt b t
  let recs (t size : Nat) : List (List Byte) := recordsAt b (sec t).1 size ((sec t).2 / size)
  let l : Lease := {
    signedLen := leAt b 8 4, digestEpoch := BitVec.ofNat 32 (leAt b 12 4), signed := leAt b 16 1 == 1
    shapes := (recs 1 248).map readShape, templates := (recs 2 24).map readTemplate, topo := readTopo b (sec 3).1 (sec 3).2
    orders := (recs 4 16).map readOrder, policies := readPolicies ((b.drop (sec 5).1).take 104)
    descriptors := (recs 7 112).map readDescriptor
    fwLoad := leAt b (sec 8).1 4, fwEntry := leAt b ((sec 8).1 + 4) 4, fwLen := (sec 8).2 - 8
    offsets := (List.range 8).map fun i => (sec (i + 1)).1, lens := (List.range 8).map fun i => (sec (i + 1)).2 }
  let n := l.partNumbers.length
  { l with
    limits := (recordsAt b (sec 6).1 24 n).map readLimit
    classes := (untilZero (recordsAt b ((sec 6).1 + 24 * n) 16 (((sec 6).2 - 24 * n) / 16))).map readClass }

/-- The offset of a record of a section. -/
def Lease.at_ (l : Lease) (t base size i : Nat) : Nat := l.offsets.getD (t - 1) 0 + base + size * i

/-- The bytes a Lease takes, its signature block included (R402, R406). -/
def Lease.size (l : Lease) : Nat := l.signedLen + (if l.signed then 7488 else 0)

/-! ### Verdicts (R408) -/

/-- A refusal: code, section type, index, byte offset. -/
abbrev Refused := Nat × Nat × Nat × Nat

/-- The first refusal of a list of checks. -/
def firstOf {α : Type} (l : List α) (f : α → Option Refused) : Option Refused := l.findSome? f

/-- The first refusal among the outcomes of checks. -/
def firstRefusal (l : List (Option Refused)) : Option Refused := l.findSome? id

/-- A refusal when a condition holds. -/
def refuseIf (b : Bool) (code sec idx off : Nat) : Option Refused := if b then some (code, sec, idx, off) else none

/-- What admission runs against: the life-cycle state, the signature's verdict and signer, the Lease authority, the unit, failed
quadrants, and whether the host cluster is offline (R406, R408). -/
structure AdmitEnv where
  lifecycle : Nat := 1
  sigOk     : Bool := false
  signer    : BitVec 384 := 0
  auth      : BitVec 384 := 0
  unitId    : Dword := 0
  failed    : List Nat := []
  hostOff   : Bool := false
  deriving DecidableEq, Repr

/-! ### Structural checks (Table 15.3) -/

/-- 0x9001 on the header and the directory (R403, R404). -/
def checkImage (b : List Byte) : Option Refused :=
  let sl := leAt b 8 4
  let head := decide (192 ≤ b.length) && leAt b 0 4 == 0x45534C58 && leAt b 4 2 == 1 && leAt b 6 2 == 8 && decide (leAt b 16 1 ≤ 1)
    && zeroAt b 17 47 && sl % 64 == 0 && decide (192 ≤ sl) && decide (sl + (if leAt b 16 1 = 1 then 7488 else 0) ≤ b.length)
  let entry (i : Nat) : Bool :=
    let e := 64 + 16 * i
    let (off, len) := sectionAt b (i + 1)
    leAt b e 2 == i + 1 && zeroAt b (e + 2) 2 && zeroAt b (e + 12) 4 && off % 64 == 0 && decide (192 ≤ off) && decide (off + len ≤ sl)
  let clash (i j : Nat) : Bool :=
    let (a, m) := sectionAt b (i + 1)
    let (c, n) := sectionAt b (j + 1)
    i != j && decide (a < c + n) && decide (c < a + m)
  (refuseIf (!head) 0x9001 0 0 0).or ((firstOf (List.range 8) fun i => refuseIf (!entry i) 0x9001 (i + 1) (i + 1) (64 + 16 * i)).or
    (firstOf (List.range 8) fun j => refuseIf ((List.range 8).any fun i => decide (i < j) && clash i j) 0x9001 (j + 1) (j + 1) (64 + 16 * j)))

/-- 0x9001 on the records: counts, padding and zero bytes (R404, R464). -/
def checkRecords (b : List Byte) (l : Lease) : Option Refused :=
  let off (t : Nat) : Nat := l.offsets.getD (t - 1) 0
  let len (t : Nat) : Nat := l.lens.getD (t - 1) 0
  let rec_ (t base size i : Nat) : List Byte := (b.drop (off t + base + size * i)).take size
  let bad (t base size k : Nat) (ok : List Byte → Bool) : Option Refused :=
    firstOf (List.range k) fun i => refuseIf (!ok (rec_ t base size i)) 0x9001 t t (off t + base + size * i)
  let tail (t used : Nat) : Option Refused := refuseIf (!zeroAt b (off t + used) (len t - used)) 0x9001 t t (off t + used)
  let n := l.partNumbers.length
  let ports := (len 3 - 16 - 48 * l.topo.listed) / 16
  let classes := (len 6 - 24 * n) / 16
  firstRefusal [
    bad 1 0 248 (len 1 / 248) shapeZero,
    tail 1 (len 1 / 248 * 248),
    bad 2 0 24 (len 2 / 24) (fun r => zeroAt r 18 6),
    tail 2 (len 2 / 24 * 24),
    refuseIf (decide (len 3 < 16 + 48 * l.topo.listed)) 0x9001 3 3 (off 3),
    bad 3 16 48 l.topo.listed (fun r => zeroAt r 45 3),
    bad 3 (16 + 48 * l.topo.listed) 16 ports (fun r => zeroAt r 14 2),
    tail 3 (16 + 48 * l.topo.listed + 16 * l.topo.ports.length),
    refuseIf (decide (4096 < len 4)) 0x9001 4 4 (off 4),
    tail 4 (len 4 / 16 * 16),
    refuseIf (decide (len 5 < 104)) 0x9001 5 5 (off 5),
    tail 5 99,
    refuseIf (decide (len 6 < 24 * n) || l.limits.map (·.part) != l.partNumbers) 0x9001 6 6 (off 6),
    bad 6 0 24 n (fun r => zeroAt r 1 3),
    bad 6 (24 * n) 16 classes (fun r => zeroAt r 3 1 && zeroAt r 12 4),
    tail 6 (24 * n + 16 * l.classes.length),
    bad 7 0 112 (len 7 / 112) (fun r => zeroAt r 105 7),
    tail 7 (len 7 / 112 * 112),
    refuseIf (decide (len 8 < 8)) 0x9001 8 8 (off 8)]

/-- The shapes of a shape set, with their record numbers. -/
def Lease.ownShapes (l : Lease) (shape : Nat) : List (Nat × Shape) :=
  ((List.range l.shapes.length).zip l.shapes).filter fun x => x.2.shape == shape

/-- 0x9010 on one shape, with those before it (R12, Table 1.2). -/
def shapeBad (s : Shape) (before : List Shape) : Bool :=
  let clash : Bool := before.any fun o => o.part == s.part || o.stackSet &&& s.stackSet != 0 || o.sites &&& s.sites != 0
    || o.faces &&& s.faces != 0 || o.channels &&& s.channels != 0
  decide (6 ≤ before.length) || s.part == 0 || decide (6 < s.part) || decide ((bitsOf s.stackSet).length < 2) || s.sites == 0 || clash
    || (bitsOf s.stackSet).any (fun k => decide (12 ≤ k))
    || (List.range 12).any fun k =>
      let r := s.reserve.getD k 0
      if s.stackSet.getLsbD k then r == 0 || decide (25 < r) else r != 0

/-- A check over the own shapes, each with those before it. -/
def overShapes (l : List (Nat × Shape)) (f : Shape → List Shape → Bool) (code : Nat) (lease : Lease) : Option Refused :=
  firstOf (List.range l.length) fun i =>
    match l[i]? with
    | none => none
    | some (n, s) => refuseIf (f s ((l.take i).map (·.2))) code 1 s.part (lease.at_ 1 0 248 n)

/-- The quadrants whose units a shape assigns (0x9011). -/
def shapeQuads (l : Lease) (node : Nat) (s : Shape) : List Nat :=
  (bitsOf s.stackSet).map (· / 3) ++ (bitsOf s.sites).map (· / 2) ++ (bitsOf s.faces).map (· / 2) ++ (bitsOf s.channels).map (· / 8)
    ++ ((l.topo.ports.filter fun x => x.node == node && x.mode != 0 && (x.owner == s.part || x.slots.contains s.part)).map (·.port / 6))

/-- 0x9012 on one shape: the first share whose areas break R141 or R142, face buffers counted over the shapes before. -/
def areasBad (s : Shape) (before : List Shape) : Option Nat :=
  let area (x : Shape) (k a : Nat) : Nat := (x.areas.getD k []).getD a 0
  let logged := (bitsOf s.loggable).length
  let face0 := (before.map fun x => ((List.range 12).map fun k => area x k 2).sum).sum
  let bad (k : Nat) : Bool :=
    let sum := ((List.range 7).map fun a => area s k a).sum
    if !s.stackSet.getLsbD k then sum != 0
    else decide (320 < sum) || decide (256 < area s k 0) || decide (1 < area s k 1) || decide (1 < area s k 3) || decide (1 < area s k 5)
      || decide (512 < face0 + ((List.range (k + 1)).map fun j => area s j 2).sum)
      || area s k 4 != logged || (s.carts && area s k 5 == 0)
  let mine := bitsOf s.stackSet
  let tal := (mine.filter fun k => area s k 1 != 0).length
  let wnd := (mine.filter fun k => area s k 3 != 0).length
  ((List.range 12).find? bad).or
    (if decide (1 < tal) || decide (1 < wnd) || (s.talCount != 0 && tal == 0) || (s.wndCount != 0 && wnd == 0) then mine.head? else none)

/-- 0x9014: the header's numbers (R192, R464). -/
def topoHeadOk (t : Topo) : Bool :=
  let shape : Bool :=
    if t.listed = 1 then decide (t.topo ≤ 1)
    else if t.topo = 0 then decide (2 ≤ t.listed) && decide (t.listed ≤ 25)
    else t.topo == 1 && t.rows * t.cols == t.listed && decide (t.listed ≤ 160) && decide (t.rows + t.cols ≤ 26)
  shape && decide (1 ≤ t.deadBound) && decide (t.deadBound ≤ 64)

/-- Two nodes of the layout that Table 8.2 links directly. -/
def linked (t : Topo) (x y : NodeRec) : Bool := x.node != y.node && (t.topo == 0 || x.row == y.row || x.col == y.col)

/-- 0x9014 on a node record: in the layout at a place of its own, with a port to every node that Table 8.2 links it to, numbered once,
not 0xFF, of partition 0 (R192, R193, R405). -/
def nodeBad (t : Topo) (x : NodeRec) : Bool :=
  (decide (2 ≤ t.listed) && t.topo == 1 && (decide (t.rows ≤ x.row) || decide (t.cols ≤ x.col)
      || (t.nodes.filter fun y => y.row == x.row && y.col == x.col).length != 1))
    || (t.nodes.any fun y => linked t x y && !t.ports.any fun r => r.node == x.node && r.mode != 0 && r.peer == y.node)
    || x.node == 0xFF || (t.nodes.filter (·.node == x.node)).length != 1 || !x.parts.getLsbD 0

/-- 0x9014 on a port record (R192, R464). -/
def portBad (t : Topo) (x : PortRec) : Bool :=
  match t.nodes.find? (·.node == x.node) with
  | none => true
  | some a => decide (24 ≤ x.port) || decide (2 < x.mode) || (x.mode != 0 && (match t.nodes.find? (·.node == x.peer) with
    | none => true
    | some b => b.node == a.node || (t.topo == 1 && a.row != b.row && a.col != b.col)))

/-- The distinct numbers of the foreman list. -/
def foremenOk (t : Topo) : Bool :=
  let l := t.foreman.filter (· != 0xFF)
  t.foreman.headD 0xFF != 0xFF && l.eraseDups.length == l.length && l.all fun n => t.nodes.any (·.node == n)

/-- 0x9018 on one shape with those before it (R236, R286, R295, R303, R330). -/
def rangesBad (s : Shape) (before : List Shape) : Bool :=
  let cross (a n b m : Nat) : Bool := n != 0 && m != 0 && decide (a < b + m) && decide (b < a + n)
  let sum (f : Shape → Nat) : Nat := ((s :: before).map f).sum
  let quad (q : Nat) : Bool :=
    decide (16 < sum fun x => x.movCycles.getD q 0) || decide (2048 < sum fun x => (x.quotas.getD q (0, 0, 0)).1)
      || decide (2048 < sum fun x => (x.quotas.getD q (0, 0, 0)).2.1) || decide (512 < sum fun x => (x.quotas.getD q (0, 0, 0)).2.2)
  decide (65536 < s.talBase + s.talCount) || decide (256 < s.wndBase + s.wndCount)
    || (s.stepValid && (decide (s.stepTally < s.talBase) || decide (s.talBase + s.talCount ≤ s.stepTally)))
    || s.urgent &&& ~~~s.channels != 0
    || before.any (fun o => cross s.talBase s.talCount o.talBase o.talCount || cross s.wndBase s.wndCount o.wndBase o.wndCount)
    || [0, 1, 2, 3].any quad

/-- An order breaks Tables 15.5 and 15.6 (0x9019, R417). -/
def orderBad (l : Lease) (o : Order) : Bool :=
  let known := l.shapes.any (·.part == o.part)
  let stepped := l.shapes.any fun x => x.part == o.part && x.stepValid
  if o.action = 0 then false
  else
    let base := decide (o.action ≤ 7) && (!o.rep || o.period != 0) && (!o.basis || stepped) && (o.target == 0 || o.action == 1)
    let ok : Bool := match o.action with
      | 1 | 4 => known
      | 2 => !o.basis && (o.part == 0 || known)
      | 3 | 5 | 7 => !o.basis && o.part == 0
      | _ => o.part == 0 || known
    !(base && ok)

/-- A check over numbered records. -/
def numbered {α : Type} (l : List α) (f : Nat → α → Option Refused) : Option Refused :=
  firstOf ((List.range l.length).zip l) fun x => f x.1 x.2

/-- 0x9012 over the own shapes. -/
def checkAreas (l : Lease) (own : List (Nat × Shape)) : Option Refused :=
  firstOf (List.range own.length) fun i => match own[i]? with
    | none => none
    | some (n, s) => (areasBad s ((own.take i).map (·.2))).map fun k => (0x9012, 1, k, l.at_ 1 0 248 n)

/-- 0x9017 on a template: its kind is permitted in its partition, if this node's shape defines that partition. -/
def checkTemplate (l : Lease) (own : List (Nat × Shape)) (i : Nat) (x : Template) : Option Refused :=
  match own.find? fun s => s.2.part == x.part with
  | none => none
  | some (_, s) => refuseIf (decide (3 < x.kind) || !kindPermitted s (kindOf x.kind)) 0x9017 2 i (l.at_ 2 0 24 i)

/-- The structural checks in ascending code order (R408, Table 15.3). -/
def checkStructure (l : Lease) (e : AdmitEnv) : Option Refused :=
  let t := l.topo
  let me := t.nodes.find? fun x => x.unitId == e.unitId
  let node := (me.map (·.node)).getD 0
  let own := l.ownShapes ((me.map (·.shape)).getD 0)
  let p := l.policies
  firstRefusal [
    refuseIf (l.signed && !e.sigOk) 0x9002 0 0 0,
    refuseIf (e.lifecycle == 3 && (!l.signed || e.signer != e.auth)) 0x9003 0 0 0,
    refuseIf (decide (16777216 < l.size) || decide (458752 < l.fwLen)) 0x9004 0 0 0,
    refuseIf (p.compatDigest != 0 && p.compatEpoch != l.digestEpoch - 1 && p.compatEpoch != l.digestEpoch + 1) 0x9005 5 0 (l.at_ 5 0 0 0),
    overShapes own shapeBad 0x9010 l,
    overShapes own (fun s _ => (shapeQuads l node s).any e.failed.contains || (e.hostOff && s.hostSlots != 0)) 0x9011 l,
    checkAreas l own,
    refuseIf (decide (4080 < reservedSlots l ((me.map (·.shape)).getD 0) node)) 0x9013 0 0 0,
    refuseIf me.isNone 0x9014 3 0 (l.at_ 3 16 0 0),
    refuseIf (!topoHeadOk t) 0x9014 3 0 (l.at_ 3 0 0 0),
    numbered t.nodes fun i x => refuseIf (nodeBad t x) 0x9014 3 i (l.at_ 3 16 48 i),
    numbered t.ports fun i x => refuseIf (portBad t x) 0x9014 3 0 (l.at_ 3 (16 + 48 * t.listed) 16 i),
    refuseIf (decide (2 * t.minMembers ≤ t.listed) || decide (t.formWindow < 50) || decide (1000 < t.formWindow) || !foremenOk t) 0x9015 3 0
      (l.at_ 3 0 0 0),
    refuseIf (decide (16 < l.descriptors.length)) 0x9016 7 0 (l.at_ 7 0 0 0),
    numbered l.templates fun i x => checkTemplate l own i x,
    overShapes own rangesBad 0x9018 l,
    numbered l.orders fun i x => refuseIf (orderBad l x) 0x9019 4 i (l.at_ 4 0 16 i)]

/-! ### Deadline checks (R409) -/

/-- The templates of a stack: those of its owner whose STACKS include it, with their record numbers. -/
def Lease.templatesOn (l : Lease) (s : Shape) (k : Nat) : List (Nat × Template) :=
  ((List.range l.templates.length).zip l.templates).filter fun x => x.2.part == s.part && x.2.stackSet.getLsbD k

/-- t_s of a stack: its drift time in ns. -/
def Lease.driftTime (l : Lease) (s : Shape) (k : Nat) : Nat :=
  let g := ((l.templatesOn s k).map fun x => if x.2.kind = 3 then 0 else x.2.count * x.2.maxGranules).sum
  driftNs (min g 24576) (s.reserve.getD k 1)

/-- The refresh charge of the templates of a stack. -/
def refreshLoad (l : List (Nat × Template)) : Nat := (l.map fun x => if x.2.kind = 1 then x.2.count * x.2.maxRate * 8064 else 0).sum

/-- 0x9020 and 0x9021 of a stack. The record named by 0x9021 is the template whose charge first exceeds the stack (DEDUCED, log 45). -/
def checkStack (l : Lease) (s : Shape) (k : Nat) : Option Refused :=
  let ts := l.templatesOn s k
  let limit := 127 * 128000
  (firstOf ts fun x =>
    refuseIf (x.2.kind != 3 && x.2.minInterval != 0 && decide (x.2.minInterval * 1000000 < l.driftTime s k)) 0x9020 2 k (l.at_ 2 0 24 x.1)).or
  (if refreshLoad ts ≤ limit then none
   else firstOf (List.range ts.length) fun i =>
     refuseIf (decide (limit < refreshLoad (ts.take (i + 1)))) 0x9021 2 k (l.at_ 2 0 24 ((ts.getD i (0, {})).1)))

/-- The deadline record of a partition. -/
def Lease.limit (l : Lease) (p : Nat) : PartLimit := (l.limits.find? (·.part == p)).getD {}

/-- The offset of a partition's deadline record. -/
def Lease.limitAt (l : Lease) (p : Nat) : Nat := l.at_ 6 0 24 ((l.limits.findIdx? (·.part == p)).getD 0)

/-- work_ns of an order (R409). -/
def workNs (l : Lease) (own : List Shape) (o : Order) : Nat :=
  match o.action with
  | 1 | 4 => ((own.filter (·.part == o.part)).flatMap fun s => (bitsOf s.stackSet).map (l.driftTime s)).foldl max 0
  | 2 | 3 => 1016000
  | _ => 0

/-- period_ns of an order (R409). -/
def periodNs (l : Lease) (o : Order) : Nat := if o.basis then o.period * (l.limit o.part).stepPeriod else o.period * 1000

/-- cyc_min of a partition and an urgency: none when it owns no such channel. -/
def cycMin (s : Shape) (urgent : Bool) : Option Nat :=
  ((bitsOf s.channels).filter fun c => s.urgent.getLsbD c == urgent).foldl (fun o c =>
    let x := s.movCycles.getD (c / 8) 0
    some (match o with
      | some y => min x y
      | none => x)) none

/-- A deadline class that cannot be met (0x9026). -/
def classBad (l : Lease) (own : List Shape) (c : ClassLimit) : Bool :=
  match own.find? (·.part == c.part) with
  | none => false
  | some s =>
    let cyc := (cycMin s c.urgent).getD 0
    let len := if c.urgent then c.len else c.len + (l.limit s.part).maxBulk
    let ns := ceilDiv (len * 80) (cyc * 1024)
    let ns := if c.host then max ns (ceilDiv (len * (own.map (·.hostSlots)).sum) (s.hostSlots * 128)) else ns
    cyc == 0 || (c.host && s.hostSlots == 0) || decide (c.deadline < ns)

/-- The deadline checks of the node's own shape, in the order written (R409). -/
def checkDeadlines (l : Lease) (own : List Shape) (node : Nat) : Option Refused :=
  let owner (k : Nat) : Option Shape := own.find? fun s => s.stackSet.getLsbD k
  let d := if l.topo.topo = 0 then 1 else 2
  let slotted := l.topo.ports.filter fun x => x.node == node && x.mode == 2
  firstRefusal [
    firstOf (List.range 12) fun k => (owner k).bind fun s => checkStack l s k,
    numbered l.orders fun i x =>
      let mine := x.part == 0 || own.any (·.part == x.part)
      refuseIf (mine && x.action != 0 && x.period != 0 && decide (periodNs l x < workNs l own x)) 0x9022 4 i (l.at_ 4 0 16 i),
    firstOf own fun s => firstOf slotted fun x =>
      let n := (x.slots.filter (· == s.part)).length
      refuseIf (n != 0 && decide (n * 970 < (l.limit s.part).slotDemand * 160)) 0x9023 6 x.port (l.limitAt s.part),
    firstOf own fun s =>
      let m := l.limit s.part
      let f := (bitsOf s.faces).length
      refuseIf (m.stepPeriod != 0 && m.collBytes != 0 && (f == 0 || decide (m.stepPeriod * 8 < ceilDiv m.collBytes (256 * f) * 5))) 0x9024 6 s.part
        (l.limitAt s.part),
    firstOf own fun s =>
      let m := l.limit s.part
      refuseIf (m.egressBound != 0 && decide (m.egressBound < 60 + d * l.topo.hubHop + ceilDiv ((10 + d) * 5) 8)) 0x9025 6 s.part
        (l.limitAt s.part),
    numbered l.classes fun i x => refuseIf (classBad l own x) 0x9026 6 i (l.at_ 6 (24 * l.limits.length) 16 i)]

/-- The signer hash of an image's signature block, which is laid out as one signer entry (R406, Tables 14.2, 14.11). -/
def leaseSigner (b : List Byte) : BitVec 384 := signerHash ((b.drop (leAt b 8 4)).take 2689)

/-- Admission of a Lease already read: every check of Table 15.3 but those on the image, and R409's (R408, R412). -/
def admitLease (l : Lease) (e : AdmitEnv) : Option Refused :=
  let me := (l.topo.nodes.find? fun x => x.unitId == e.unitId).getD {}
  (checkStructure l e).or (checkDeadlines l ((l.ownShapes me.shape).map (·.2)) me.node)

/-- Admission of an image (R408). -/
def admitImage (b : List Byte) (e : AdmitEnv) : Option Refused :=
  let l := readLease b
  (checkImage b).or ((checkRecords b l).or (admitLease l e))

/-- The configuration digest over the configuration bytes (R407, Table 14.2), as its bytes read least significant first. -/
def configDigest (b : List Byte) (l : Lease) : BitVec 256 :=
  BitVec.ofNat 256 (ofLe (kmac256 (ascii "XENER-DG3-CONFIG") (b.take l.signedLen) 32 "XENER-CONFIG-DIGEST"))

end Sys2Proof.Machine
end

