-- ==== Sys2Proof/Machine/Clusters.lean ====
section
/-!
DEFINITION. Machine/Clusters.lean: the sampling of lanes, the exposure window, and a cluster that goes offline (R21, R22, R132, R133).
-/

namespace Sys2Proof.Machine

/-! ### Lane sampling (R21, R22, R132) -/

/-- Lanes of a cluster: 16, of a fabric cluster 8, of the host cluster 12. -/
def clusterLanes (c : Nat) : Nat := if c < 88 then 16 else if c < 112 then 8 else 12

/-- Every context of the exposure window lost with 0x1303 (R21). -/
def State.exposure (s : State) (c since : Nat) : State :=
  (((s.clus.getD c {}).ctxs.filter fun x => decide (since ≤ x.1)).foldl
    (fun s x => s.loseCtx x.2.1 x.2.2 0x1303 (.window ((clusterLanes c) * 64) c)) s)

/-- The interrupt that reports lane faults of a memory cluster. -/
def State.laneIrq (s : State) (c : Nat) : State := if c < 48 then s.shfIrq (c / 4) 3 else s

/-- Data that a stack carries with n memory clusters, in hundredths of a byte per ns: 16 lanes of 25.6 bytes per ns each, 80 bytes of pad
for 64 of data, and at most the stack's 1,280 (R22, R33, Table 2.4). -/
def stackRate (n : Nat) : Nat := min 128000 (32768 * n)

/-- Admission re-run for a shape at its stack k with n memory clusters left: R409's checks that the stack's rate enters, the drift time,
the refresh charge and the work of the partition's drift orders, at the reduced rate; with none left it fails (R22). -/
def reducedOk (l : Lease) (s : Shape) (k n : Nat) : Bool :=
  let ts := l.templatesOn s k
  let rate := stackRate n
  let g := (ts.map fun x => if x.2.kind = 3 then 0 else x.2.count * x.2.maxGranules).sum
  let drift := ceilDiv (2 * min g 24576 * 2097152 * 10000) (s.reserve.getD k 1 * rate)
  n != 0
    && ts.all (fun x => x.2.kind == 3 || x.2.minInterval == 0 || decide (drift ≤ x.2.minInterval * 1000000))
    && decide (refreshLoad ts ≤ 127 * rate)
    && l.orders.all fun o => (o.action != 1 && o.action != 4) || o.part != s.part || o.period == 0 || decide (drift ≤ periodNs l o)

/-- A cluster goes offline (R22, R133): 0x1302, the exposure rule over the whole cluster, and admission re-run for the owning partition: a
partition fault when its shaft's reduced rate fails it, or when its site keeps no cluster. A fabric port goes down as on link loss; the
host link as on surprise link-down. -/
def State.clusterOffline (s : State) (c since : Nat) : State :=
  let p := s.clusterOwner c
  let t := ({ s with clus := s.clus.modD c {} fun k => { k with offline := true, unchecked := true } }.toPart 0x1302 p
    (.unit .cluster c 0)).laneIrq c
  let t := t.exposure c since
  let left (lo n : Nat) : Nat := ((List.range n).filter fun i => !(t.clus.getD (lo + i) {}).offline).length
  if 88 ≤ c then (if c < 112 then fabricPortDown (c - 88) t else t)
  else
    let ok := if c < 48 then reducedOk t.lease (t.shapeOf p) (c / 4) (left (c / 4 * 4) 4) else left (48 + (c - 48) / 5 * 5) 5 != 0
    if ok ∨ p = 0 then t else t.partFault 0x1302 p (.unit .cluster c 0)

/-- LANE_SAMPLE: the sampled lane's output against the spare's, a third lane deciding when they differ (R21, R132). A cluster that has
retired a lane has no spare left: either lane of the pair is a further faulty one, and the cluster goes offline (R22). -/
def laneSample (c : Nat) (r : Sample) (s : State) : State :=
  let k := s.clus.getD c {}
  if k.offline ∨ k.spareOut then s
  else
    let lanes := clusterLanes c
    let since := k.n + 1 - min (k.n + 1) lanes
    let next (k : Cluster) : Cluster :=
      { k with sample := (k.sample + 1) % lanes, n := k.n + 1, ctxs := k.ctxs.filter fun x => decide (since ≤ x.1) }
    let step (t : State) : State := { t with clus := t.clus.modD c {} next }
    let p := s.clusterOwner c
    if r.lane = r.spare then step s
    else
    let s := s.bump 0x1A c 1
    if k.laneOut ∧ (r.spare = r.third ∨ r.lane = r.third) then step (s.clusterOffline c since)
    else if r.spare = r.third then
        let t := { s with clus := s.clus.modD c {} fun k => { k with laneOut := true, retired := k.sample, unchecked := true } }
        step (((t.toPart 0x1301 p (.window (lanes * 64) c)).laneIrq c).exposure c since)
    else if r.lane = r.third then
      step (({ s with clus := s.clus.modD c {} fun k => { k with spareOut := true, unchecked := true } }.logged 0x1304 p
        (.unit .cluster c 0)).laneIrq c)
    else step (s.clusterOffline c 0)

end Sys2Proof.Machine
end

