-- ==== Sys2Proof/Machine/Start.lean ====
section
/-!
DEFINITION. Machine/Start.lean: the cold start (15, R402, R406 to R410, R419 to R421): its steps, the Lease put in force, HELD and RELOAD, entry
to RUN. The work of a step takes no model time (DESIGN CHOICE, log 49); the start waits where the spec makes it wait: in step 11 for the hub, in step 13
for sites and the domain.
-/

namespace Sys2Proof.Machine

/-! ### What responds (R68, R394, R399) -/

/-- The block is out of power-on reset, not Scrapped and not tampered with: anything may happen in it (R394, R399, R457). -/
def State.alive (s : State) : Bool := !s.pins.por && s.fuse.lifecycle != 5 && !s.pins.tamper

/-- The block is in RUN. -/
def State.inRun (s : State) : Bool := s.glb.state == 3

/-- dg_chip_rst_n or the ladder asks for a warm start: no new work is taken (R432, R457). -/
def State.quiesced (s : State) : Bool := s.pins.chipRst || s.flt.warmDue

/-! ### Step times (R419) -/

/-- The step in progress ends: its time is recorded, and the next one is entered. -/
def State.enterStep (s : State) (n : Nat) : State :=
  { s with
    glb := { s.glb with step := n }
    lse := { s.lse with steps := s.lse.steps.put s.glb.step ((s.clk.cyc - s.lse.stepAt) * 5 / 8 / 1000), stepAt := s.clk.cyc } }

/-- The start stops in a step for good (R421). -/
def State.stopIn (s : State) (n : Nat) : State := { s.enterStep n with lse := { (s.enterStep n).lse with halted := true } }

/-! ### HELD (R410) -/

/-- The reason of a refusal shown (Table 15.10). -/
def State.showRefusal (s : State) (r : Refused) : State :=
  { s with lse := { s.lse with code := r.1, section_ := r.2.1, index := r.2.2.1, offset := r.2.2.2 } }

/-- An LSE interrupt bit (Table 15.13). -/
def State.lseIrq (s : State) (bit : Nat) : State := s.irqVis .lse 0 bit

/-- HELD is entered in a step: the refusal is shown and logged (R410). -/
def State.enterHeld (s : State) (step : Nat) (r : Refused) : State :=
  let t := (s.enterStep step).showRefusal r
  let t := { t with lse := { t.lse with heldWarm := s.glb.state == 1 || (s.glb.state == 2 && s.lse.heldWarm) } }
  let t := { t with glb := { t.glb with state := 2, present := 0, conf := 0 } }
  (t.logged r.1 0 (.unit .section_ r.2.1 r.2.2.1)).lseIrq 1

/-! ### The Lease put in force (R12, R141, R204, R236, R295, R405) -/

/-- The owners of units, from each shape's mask. -/
def ownersOf (l : List Shape) (n : Nat) (mask : Shape → Nat → Bool) : Tab Nat :=
  (List.range n).filterMap fun i => (l.find? fun s => mask s i).map fun s => (i, s.part)

/-- BASE and SIZE of the seven areas of share k of a shape, keyed 7k + a (R141). -/
def areaTable (s : Shape) (k : Nat) : Tab (Nat × Nat) :=
  let sizes := s.areas.getD k []
  (List.range 7).map fun a => (7 * k + a, ((sizes.take a).sum, sizes.getD a 0))

/-- Every area of the shapes' shares. -/
def areasOf (l : List Shape) : Tab (Nat × Nat) :=
  (List.range 12).flatMap fun k => match l.find? fun s => s.stackSet.getLsbD k with
    | some s => areaTable s k
    | none => []

/-- The route entry of a node from the Lease's topology. For a node of the own row or column FIRST_C and ALT_C name the detour through the
lowest node ID of it (R204, R205, Table 8.17). -/
def routeTo (t : Topo) (me d : NodeRec) : Route :=
  let via (x : NodeRec → Bool) : List Nat :=
    (List.range 24).filter fun p => t.ports.any fun r => r.node == me.node && r.port == p && r.mode != 0 && t.nodes.any fun n =>
      n.node == r.peer && x n
  let direct := t.topo == 0 || me.row == d.row || me.col == d.col
  let r := if direct then via fun n => n.node == d.node else via fun n => n.row == me.row && n.col == d.col
  let line (n : NodeRec) : Bool :=
    n.node != me.node && n.node != d.node && (t.topo == 0 || (n.row == me.row && n.row == d.row) || (n.col == me.col && n.col == d.col))
  let c := if direct then (match ((t.nodes.filter line).map (·.node)).min? with
      | some m => via fun n => n.node == m
      | none => [])
    else via fun n => n.row == d.row && n.col == me.col
  { valid := true, direct, firstR := r.getD 0 31, altR := r.getD 1 31, firstC := c.getD 0 31, altC := c.getD 1 31 }

/-- A port as the Lease wires it; it stays UNUSED until step 13. -/
def leasedPort (r : PortRec) : Port :=
  { slotted := r.mode == 2, owner := if r.mode = 1 then r.owner else 0, peer := r.peer, peerPort := r.peerPort
    slots := if r.mode = 2 then r.slots else [] }

/-- The selective IDE streams of the partitions, in ascending partition and stream number (R345), and the link stream (16). -/
def leasedStreams (l : List Shape) : Tab IdeStream :=
  let owners := allParts.flatMap fun p => (l.filter (·.part == p)).flatMap fun s => List.replicate s.ideStreams p
  ((List.range (min 16 owners.length)).map fun (k : Nat) => (k, { valid := true, owner := owners.getD k 0 })) ++ [(16, { valid := true })]

/-- The state of an order as the Lease loads it: armed, or empty (Table 15.5). -/
def Order.load (o : Order) : Order := { o with state := if o.action = 0 then 0 else 1 }

/-- A partition bit mask over some shapes (Table 3.16). -/
def partMask (l : List Shape) : BitVec 6 := l.foldl (fun m s => m ||| ((1 : BitVec 6) <<< (s.part - 1))) 0

/-- What the shapes in force decide: owners, stack modes and reserves, areas, quotas, budgets. -/
def State.assign (s : State) (l : Lease) (shape : Nat) : State :=
  let own := (l.ownShapes shape).map (·.2)
  let quotas (f : Nat × Nat × Nat → Nat × Nat × Nat) : Tab (Nat × Nat × Nat) :=
    (List.range 4).flatMap fun q => allParts.filterMap fun p => (own.find? (·.part == p)).map fun x => (q * 8 + p, f (x.quotas.getD q (0, 0, 0)))
  let mode (k : Nat) (sh : Shaft) : Shaft := match own.find? fun x => x.stackSet.getLsbD k with
    | some x => { sh with narrow := x.narrow.getLsbD k, reserve := x.reserve.getD k 0 }
    | none => { sh with narrow := false, reserve := 0 }
  { s with
    lse := { s.lse with lease := some l, shape }
    own := { stack := ownersOf own 12 fun x i => x.stackSet.getLsbD i, site := ownersOf own 8 fun x i => x.sites.getLsbD i
             face := ownersOf own 8 fun x i => x.faces.getLsbD i, chan := ownersOf own 32 fun x i => x.channels.getLsbD i }
    shafts := (List.range 12).map fun k => (k, mode k (s.shafts.getD k {}))
    ins := { s.ins with area := areasOf own }
    budget := allParts.filterMap fun p => (own.find? (·.part == p)).map fun x => (p, x.budget)
    home := { s.home with quota := quotas id }
    tal := { s.tal with quota := (quotas id).map fun (k, x) => (k, x.2.2) }
    glb := { s.glb with present := partMask own, conf := partMask (own.filter fun x => !x.openKind) } }

/-- The Lease admitted at a cold start is in force. -/
def State.applyLease (s : State) (l : Lease) : State :=
  let me := (l.topo.nodes.find? (·.unitId == s.fuse.unitId)).getD {}
  let t := s.assign l me.shape
  let own := (l.ownShapes me.shape).map (·.2)
  { t with
    lse := { t.lse with node := me.node, orders := l.orders.map Order.load, signed := l.signed }
    flt := { t.flt with canWait := l.policies.canary }
    hst := { t.hst with streams := leasedStreams own }
    fuse := { t.fuse with unsigned := !l.signed }
    fab := { t.fab with
      compat := l.policies.compatDigest
      ports := (List.range 24).filterMap fun p =>
        (l.topo.ports.find? fun r => r.node == me.node && r.port == p && r.mode != 0).map fun r => (p, leasedPort r)
      nodes := (List.range 255).filterMap fun n => (l.topo.nodes.find? (·.node == n)).map fun r =>
        (n, { listed := true, parts := r.parts.extractLsb' 1 6 })
      routes := (List.range 255).filterMap fun n => (l.topo.nodes.find? fun r => r.node == n).map fun r =>
        (n, if n = me.node then { valid := true } else routeTo l.topo me r) } }

/-! ### Steps 8 to 12 (R402, R406 to R408, R374, R144, R145) -/

/-- What admission runs against now. -/
def State.admitEnv (s : State) (sigOk : Bool) (signer : BitVec 384) : AdmitEnv :=
  { lifecycle := s.fuse.lifecycle, sigOk, signer, auth := s.fuse.authOf 3, unitId := s.fuse.unitId
    failed := (s.ins.slices.filter fun (_, e) => e.state == .failed).map (·.1), hostOff := (s.clus.getD 112 {}).offline }

/-- The codes of the work of step 8: the image, its signatures and its lengths (R410, DEDUCED, log 50). -/
def step8Code (c : Nat) : Bool := decide (c ≤ 0x9007)

/-- The configuration digest of a read image, in force for this cold start (R407). -/
def State.digestOf (s : State) (b : List Byte) : State :=
  { s with fab := { s.fab with digest := configDigest b (readLease b) }, lse := { s.lse with bytes := b, digestOk := true } }

/-- Lamp firmware is loaded, and the watchdog starts (R392, R431). -/
def State.lampStart (s : State) : State := { s with flt := { s.flt with watchdog := true, kicks := 0 } }

/-- What a slice's shares hold for their users, zero: tally records, Winder programs, face buffers, cart decisions, lost-page lists. -/
def State.zeroUsers (s : State) (q : Nat) : State :=
  let own (k : Nat) : Bool := k / 3 == q
  let holds (p a : Nat) : Bool := (List.range 12).any fun k => own k && s.stackOwner k == p && p != 0 && (s.area k a).2 != 0
  let blank (n : Nat) (k : Task) : Task := if holds (s.taskOwner n) 3 then { k with prog := k.prog.map fun _ => 0 } else k
  let wipe (t : Nat) (g : Target) : Target :=
    if t / 128 = q then { g with acc := [], store := (List.range g.units).map fun i => (i, (0 : Line)) } else g
  { s with
    tal := { s.tal with recs := s.tal.recs.filter fun (n, _) => !holds (s.tallyOwner n) 1 }
    wnd := { s.wnd with tasks := s.wnd.tasks.map fun ((n, k) : Nat × Task) => (n, blank n k) }
    face := { s.face with targets := s.face.targets.map fun ((t, g) : Nat × Target) => (t, wipe t g) }
    cart := { s.cart with log := s.cart.log.filter fun d => !own d.share }
    shafts := s.shafts.map fun ((k, x) : Nat × Shaft) => (k, if own k then { x with lost := [], lostAll := [] } else x) }

/-- The masking keys are generated and every line of every slice is written with masked zeros (R144, R145). -/
def State.initSlices (s : State) (l : List Nat) : State :=
  l.foldl (fun (s : State) q =>
    let t := (s.genKey (4 + q) 5 0 2 0).zeroUsers q
    let own (k : Nat) : Bool := k / 3 == q
    let t := t.modSlice q fun (e : Slice) => { e with state := SliceState.ready, table := [] }
    { t with face := { t.face with stale := t.face.stale.filter fun b => !own b.1 }, ins := { t.ins with
      cb := t.ins.cb.filter fun (a, _) => !own (a / 2 ^ 23)
      pages := t.ins.pages.filter fun (a, _) => match innerShare a with
        | some (k, _) => !own k
        | none => true
      dirty := t.ins.dirty.filter fun d => !own (d / 2 ^ 29) } }) s

/-- The slices that are not failed. -/
def State.goodSlices (s : State) : List Nat := [0, 1, 2, 3].filter fun q => (s.slice q).state != .failed

/-- A node that takes part in a domain. -/
def State.inDomain (s : State) : Bool := decide (1 < s.lease.topo.listed)

/-- Every owned site is in RUN, disabled or quarantined (R420). -/
def State.sitesSettled (s : State) : Bool :=
  s.own.site.all fun (t, _) => match (s.site t).state with
    | .run | .disabled | .quarantined => true
    | _ => false

/-- The units of a quadrant that belong to partition p (R23, Table 2.1). -/
def State.hasIn (s : State) (p q : Nat) : Bool :=
  s.own.stack.any (fun (k, o) => k / 3 == q && o == p) || s.own.site.any (fun (k, o) => k / 2 == q && o == p)
    || s.own.face.any (fun (k, o) => k / 2 == q && o == p)
    || s.fab.ports.any fun (k, x) => k / 6 == q && (x.owner == p || x.slots.contains p)

/-- A quadrant gated at entry to RUN: the slice's masking key is zeroised and dg_qpwr_off asserted (R23, R459). -/
def State.gate (s : State) (q : Nat) : State :=
  let t := (s.killSlot (4 + q)).modSlice q fun e => { e with state := .gated }
  { t with pins := { t.pins with qpwrOff := t.pins.qpwrOff ||| ((1 : BitVec 4) <<< q) } }

/-- Steps 14 and 15: RUN. From a cold start shift orders whose time has passed are skipped and unowned quadrants gated; a chip step ends
(R418, R420, R422, R459). -/
def State.enterRun (s : State) : State :=
  let cold := s.glb.state == 0
  let t := (s.enterStep 14).enterStep 15
  let t := { t with glb := { t.glb with state := 3 }, flt := { t.flt with chip := false } }
  if cold then
    let idle := [1, 2, 3].filter fun q => (t.slice q).state != .failed && !allParts.any fun p => t.hasIn p q
    (idle.foldl State.gate t).ordersEntry
  else t

/-- Step 13 is entered at a cold start: owned sites are down and start where their link is up, wired ports are down, and a package that
forms no domain has a valid shift clock (R176, R217, R413). -/
def State.enterStep13 (s : State) : State :=
  let t := s.enterStep 13
  let t := { t with fab := { t.fab with
    dstate := if t.inDomain then 1 else 0
    ports := t.fab.ports.map fun ((p, x) : Nat × Port) => (p, { x with state := PortState.down }) } }
  let t := if t.fab.ports.isEmpty then t else t.irq .yf 0 0
  let t := if t.inDomain then t else { t with clk := { t.clk with valid := true } }
  t.own.site.foldl (fun (t : State) (k, _) =>
    let t := t.modSite k fun x => { x with state := .down }
    if (t.site k).linkUp then t.startSite k else t) t

/-- Steps 11 to 15 as far as they go now: step 11 waits for the hub, step 13 for the sites and the domain (R419 to R421). -/
def State.startAdvance (s : State) : State :=
  if s.lse.halted then s
  else
    let s := if s.glb.state = 0 ∧ s.glb.step = 11 ∧ s.pins.memTrained then ((s.enterStep 12).initSlices s.goodSlices).enterStep13 else s
    if (s.glb.state = 0 ∨ s.glb.state = 1) ∧ s.glb.step = 13 ∧ s.sitesSettled ∧ (!s.inDomain ∨ s.fab.dstate = 3) then s.enterRun else s

/-- The fuse secret read into its slot: URS, or LRS in the Returned state, where slot 0 stays EMPTY (R372, R375, Table 14.3). -/
def State.fuseSecret (s : State) : State :=
  if s.fuse.evaluate = 4 then s.putKey 1 2 0 4 0 0 (Config.lrs.setWidth 512) else s.putKey 0 1 0 4 0 0 (Config.urs.setWidth 512)

/-- n of P-384, the order of its group (FIPS 186-5). -/
def p384Order : Nat :=
  0xFFFFFFFFFFFFFFFFFFFFFFFFFFFFFFFFFFFFFFFFFFFFFFFFC7634D81F4372DDF581A0DB248B0A77AECEC196ACCC52973

/-- The identity keys derived into slots 2 and 3: the seed of ML-DSA-87 and the scalar of ECDSA P-384, under the root of the life-cycle
state (Table 14.2, R374). -/
def State.identityKeys (s : State) : State :=
  let root := s.keyBytes (if s.fuse.lifecycle = 4 then 1 else 0)
  let x := leBytes 8 s.fuse.unitId.toNat ++ leBytes 1 s.fuse.lifecycle
  let d := ofLe (kmac256 root x 64 "XENER-ID-ECDSA384") % (p384Order - 1) + 1
  (s.putKey 2 3 0 4 0 0 (BitVec.ofNat 512 (ofLe (kmac256 root x 32 "XENER-ID-MLDSA87")))).putKey 3 4 0 4 0 0 (BitVec.ofNat 512 d)

/-- Steps 9 and 10 on an image that step 8 has read: admission, the Lease put in force, identity keys, the wait for the hub. -/
def State.admitStart (s : State) (b : List Byte) (sigOk : Bool) : State × Bool :=
  match Sys2Proof.Machine.admitImage b (s.admitEnv sigOk (leaseSigner b)) with
  | some r => (s.enterHeld (if step8Code r.1 then 8 else 9) r, false)
  | none =>
    let t := ((s.lampStart.enterStep 9).applyLease (readLease b)).enterStep 10
    let t := t.identityKeys
    let t := { t with glb := { t.glb with state := 0 } }
    ((t.enterStep 11).startAdvance, true)

/-- Steps 8 to 11 over the NOR as it stands (R402, R410). The flag says that the Lease is in force. -/
def State.readStart (s : State) (nor : Option (List Byte)) (sigOk : Bool) : State × Bool :=
  let t := s.enterStep 8
  match nor with
  | none => (t.enterHeld 8 (0x9006, 0, 0, 0), false)
  | some b => (t.digestOf b).admitStart b sigOk

/-! ### Steps 1 to 7 -/

/-- A failing row or column that BIST repairs in a slice from what its bank has left (R150). Which bank, and whether it is a row, are free
values (DESIGN CHOICE, log 9). -/
def State.bistRepair (s : State) (q : Nat) : State :=
  let b := Config.freeNat s.fresh % 32
  let row (e : Slice) : Slice :=
    if e.banks.getD b 0 = 0 then e else { e with fused := e.fused + 1, spares := e.spares - 1, banks := e.banks.set b (e.banks.getD b 0 - 1) }
  s.used.modSlice q fun e => if Config.freeBit s.fresh then row e else { e with cols := e.cols.set b (e.cols.getD b 0 - 1) }

/-- A quadrant whose self-test failed: its slice is failed, 0x220C (R151). -/
def State.failQuad (s : State) (q : Nat) : State := (s.modSlice q fun e => { e with state := .failed }).logged 0x220C 0 (.unit .slice q 0)

/-- Steps 4 to 7, then the Lease: self-tests, known answers, entropy, life-cycle (R151, R383, R384, R390, R395, R396, R399, R421). -/
def State.coldTests (s : State) (i : StartInputs) : State :=
  let t := (s.enterStep 3).enterStep 4
  let t := i.failedQuads.foldl State.failQuad t
  if i.failedQuads.contains 0 then t.stopIn 4
  else
    let t := t.enterStep 5
    if !i.katOk then (t.logged 0x8002 0 .none).stopIn 5
    else
      let t := t.enterStep 6
      if !i.entropyOk then ((t.modVlt fun v => { v with entropy := 3 }).alarm 0x8004 .none).stopIn 6
      else
        let t := (t.modVlt fun v => { v with entropy := 1 }).used.enterStep 7
        let t := { t with fuse := { t.fuse with lifecycle := t.fuse.evaluate }, pins := { t.pins with strap := i.strap } }
        if t.fuse.lifecycle = 5 then { t with lse := { t.lse with halted := true } }
        else (t.readStart i.nor i.sigOk).1

/-- POR_RELEASE, event P: the cold start runs as far as the hub's memory training (R419, R421, R452); after a tamper event since power good
nothing runs (R394). -/
def porRelease (i : StartInputs) (s : State) : State :=
  if !s.pins.por then s
  else if s.pins.tamper then { s with pins := { s.pins with por := false } }
  else
    let t := { s with
      pins := { s.pins with por := false, trayReq := false }
      clk := { s.clk with cycP := s.clk.cyc }
      lse := { s.lse with stepAt := s.clk.cyc } }
    let t := t.enterStep 2
    if !i.fuseOk then (t.logged 0x8001 0 .none).stopIn 2
    else
      let t := { t with fuse := { t.fuse with unitId := i.unitId, identity := i.identity, scrap := t.fuse.scrap || i.scrapped } }
      let t := i.bist.foldl State.bistRepair t.fuseSecret
      t.coldTests i

/-- POR_ASSERT: the whole block is reset at once. What is outside its registers stays: the fuses, an interrupted programming of which leaves
its slot used, dg_tray_req, and the levels of the hub's pins (R398, R436, R452, R457). -/
def porAssert (s : State) : State :=
  { State.reset with
    pending := s.pending
    out := s.out
    fresh := s.fresh
    fuse := { s.fuse.interrupted with lifecycle := 0, next := 0, progDone := false, tamper := false, unsigned := false }
    pins := { State.reset.pins with trayReq := s.pins.trayReq, qpwrOk := s.pins.qpwrOk, memTrained := s.pins.memTrained } }

/-- MEM_TRAINED: dg_mem_trained rises; a start waiting in step 11 goes on (R421). -/
def memTrained (s : State) : State := { s with pins := { s.pins with memTrained := true } }.startAdvance

/-- HUB_TRAINING_TIMEOUT: 10 s in step 11 stop the start with 0x9033 (R421). -/
def hubTrainingTimeout (s : State) : State :=
  if s.glb.state = 0 ∧ s.glb.step = 11 ∧ !s.pins.memTrained ∧ !s.lse.halted then (s.logged 0x9033 0 .none).stopIn 11 else s

/-- STEP13_TIMEOUT: a node that is no member 1,800 ms after entering step 13 ends it anyway (R420). -/
def step13Timeout (s : State) : State :=
  if (s.glb.state = 0 ∨ s.glb.state = 1) ∧ s.glb.step = 13 ∧ s.inDomain ∧ s.fab.dstate ≠ 3 then s.enterRun else s

/-- LSE_CMD at an aperture that has the register: the operator, the Lamp and the debug port (R425). -/
def State.lseCmd (s : State) (ap : Aperture) (f : Nat → State → State) : State :=
  match ap with
  | .operator => s.command .lse 0 (f 0)
  | .lamp => s.command .lse 7 (f 7)
  | .debug => s.command .lse 8 fun s => s.cmdEnd .lse 8 0 2
  | _ => s

end Sys2Proof.Machine
end

