-- ==== Sys2Proof/Machine/Observation.lean ====
section
/-!
DEFINITION. Machine/Observation.lean: observation (17): the freeze (R442 to R444), the snapshot and the tally image (R445), FREEZE packets
(R443), the peek (R448), and which counters and records an aperture may read (R441, R446).
-/

namespace Sys2Proof.Machine

/-! ### State codes as registers and records show them -/

/-- STATE of a channel (Table 12.1). -/
def ChanState.num : ChanState → Nat
  | .unbound => 0 | .stopped => 1 | .run => 2 | .halted => 3 | .draining => 4 | .orphaned => 5

/-- STATE of a task (Table 11.3). -/
def TaskState.num : TaskState → Nat
  | .empty => 0 | .stopped => 1 | .ready => 2 | .blocked => 3 | .done => 4 | .halted => 5

/-- STATE of a site (Table 7.9). -/
def SiteState.num : SiteState → Nat
  | .unassigned => 0 | .down => 1 | .boot => 2 | .run => 3 | .resync => 4 | .disabled => 5 | .quarantined => 6

/-- STATE of a target (Table 10.1). -/
def TgtState.num : TgtState → Nat
  | .empty => 0 | .opened => 1 | .closed => 2 | .failed => 3

/-! ### Snapshot records (R445, Tables 17.3 and 17.4) -/

/-- A snapshot record (Table 17.3). -/
def snapRecord (rtype part index : Nat) (ctx : BitVec 16) (aux value : Nat) : Block :=
  BitVec.ofNat 6 rtype ++ BitVec.ofNat 3 part ++ BitVec.ofNat 16 index ++ ctx ++ BitVec.ofNat 23 aux ++ BitVec.ofNat 64 value

/-- AUX with a value at a bit of [86:64], counted from bit 64. -/
def auxAt (bit v : Nat) : Nat := v <<< (bit - 64)

/-- 0x01: channels. -/
def State.snapChans (s : State) : List Block :=
  (s.mov.chans.filter fun (_, k) => k.state != .unbound).map fun (c, k) =>
    snapRecord 1 k.part c k.ctx (auxAt 84 k.state.num + auxAt 72 k.head) (k.tail + k.fault <<< 16)

/-- 0x02: tasks. -/
def State.snapTasks (s : State) : List Block :=
  (s.wnd.tasks.filter fun (_, k) => k.state != .empty).map fun (t, k) =>
    snapRecord 2 k.part t k.ctx (auxAt 84 k.state.num + auxAt 78 k.step + auxAt 75 k.block) k.iter.toNat

/-- The kind and number of a waiter (a site's wait is shown as kind 3, DESIGN CHOICE, log 52). -/
def waiterOf (e : Option Engine) : Nat × Nat :=
  match e with
  | some (.mover c) => (0, c)
  | some (.task t) => (1, t)
  | some (.front q) => (2, q)
  | some (.site t) => (3, t)
  | _ => (3, 0)

/-- 0x03: local wait registrations. -/
def State.snapWaits (s : State) : List Block :=
  (sortBy (·.tally) (s.tal.regs.filter fun g => g.src == s.lse.node)).map fun (g : Registration) =>
    let w := waiterOf ((s.reqOf g.tag).map (·.eng))
    snapRecord 3 g.part g.tally (g.ctx.getD 0) (auxAt 85 w.1 + auxAt 77 (w.2 % 256)) g.th.toNat

/-- 0x04: remote waits held at a home of this node. -/
def State.snapRemote (s : State) : List Block :=
  (sortBy (·.tally) (s.tal.regs.filter fun g => g.src != s.lse.node)).map fun (g : Registration) =>
    snapRecord 4 g.part g.tally (g.ctx.getD 0) (auxAt 79 g.src + auxAt 65 (g.tag % 16384)) g.th.toNat

/-- 0x05: sites. -/
def State.snapSites (s : State) : List Block :=
  (s.sites.filter fun (_, x) => x.state != .unassigned).map fun (t, x) =>
    let io := s.sIo t
    snapRecord 5 (s.siteOwner t) t 0 (auxAt 75 (io.rspHeld % 4096))
      (io.reqOut % 1024 + (io.dataOut % 1024) <<< 16 + (io.ops.length % 8192) <<< 32 + x.state.num <<< 48)

/-- 0x06: ports. -/
def State.snapPorts (s : State) : List Block :=
  (s.fab.ports.filter fun (_, x) => x.state != .unused).map fun (p, x) =>
    snapRecord 6 x.owner p 0 (auxAt 84 x.state.num) (x.credits 0 + x.credits 1 <<< 16 + x.credits 2 <<< 32)

/-- 0x07: home tracker quotas. -/
def State.snapHomes (s : State) : List Block :=
  (List.range 4).flatMap fun q => (allParts.filter s.defined).map fun p =>
    let mine := s.home.tickets.filter fun t => t.q == q && t.part == p
    snapRecord 7 p (8 * q + p) 0 0
      ((s.entriesHeld q (· == p)) % 4096 + (mine.length % 4096) <<< 16 + ((mine.filter fun t => t.held.isSome).length % 128) <<< 32)

/-- 0x08: carts in the lead role: undecided ones, and entries of the decision log. -/
def State.snapLeads (s : State) : List Block :=
  let nodes (l : List (Nat × Nat)) : Nat := ((List.range 4).map fun i => ((l.getD i (0, 0)).1 % 256) <<< (8 * i)).sum
  let got (d : Decision) : Nat := ((List.range 4).map fun i => if i < d.homes.length ∧ !d.waits.contains (d.homes.getD i (0, 0)) then 2 ^ i else 0).sum
  let open_ := (s.cart.staged.filter fun m => m.lead && (s.decision m.issuer m.cart).isNone).map fun (m : Staged) => (m.cart, snapRecord 8 m.part m.cart 0 (auxAt 79 m.issuer) 0)
  let made := s.cart.log.map fun (d : Decision) =>
    (d.cart, snapRecord 8 d.part d.cart 0 (auxAt 79 d.issuer + auxAt 77 (if d.code = 5 then 1 else 2)) (nodes d.homes + got d <<< 32))
  (sortBy Prod.fst (open_ ++ made)).map Prod.snd

/-- How far a cart at its issuer has come, as the record shows it. -/
def CartPhase.num : CartPhase → Nat
  | .opened | .closing | .failed => 0
  | .voting => 1
  | .deciding => 2

/-- 0x09: carts open at an issuing site. -/
def State.snapCarts (s : State) : List Block :=
  (sortBy (·.id) s.cart.carts).map fun (c : Cart) =>
    snapRecord 9 c.part c.id c.ctx (auxAt 79 ((c.members.head?.map (·.node)).getD 0) + auxAt 77 c.phase.num) ((c.members.length - 1) % 16)

/-- 0x0A: cart locks. -/
def State.snapLocks (s : State) : List Block :=
  (sortBy (·.cart) (s.cart.staged.filter (·.locked))).map fun (m : Staged) =>
    snapRecord 0xA m.part m.cart 0 (auxAt 79 m.issuer) (m.op.addr % 2 ^ 44 / 64)

/-- 0x0B: armed targets. -/
def State.snapTargets (s : State) : List Block :=
  (s.face.targets.filter fun (_, t) => t.state != .empty).map fun (n, t) =>
    snapRecord 0xB (s.faceOwner (n / 64)) n 0 (auxAt 84 t.state.num) (t.expected % 2 ^ 24 + (t.arrived % 2 ^ 24) <<< 32)

/-- Every record, in ascending RTYPE and INDEX. -/
def State.snapshot (s : State) : List Block :=
  s.snapChans ++ s.snapTasks ++ s.snapWaits ++ s.snapRemote ++ s.snapSites ++ s.snapPorts ++ s.snapHomes ++ s.snapLeads ++ s.snapCarts
    ++ s.snapLocks ++ s.snapTargets

/-! ### The freeze (R442 to R444) -/

/-- Observation rewritten. -/
def State.modObs (s : State) (f : ObsSt → ObsSt) : State := { s with obs := f s.obs }

/-- A bit of OBS_IRQ_STATUS in every instance: the operator's, the Lamp's, the debug port's and those of the partitions (Table 17.12). -/
def State.obsIrq (s : State) (bit : Nat) : State := (allParts.filter s.defined).foldl (fun s p => s.irq .obs p bit) (s.irqVis .obs 0 bit)

/-- A trigger discarded or replaced: OBS_MISSED (R444). -/
def State.obsMiss (s : State) : State := (s.modObs fun o => { o with missed := satInc o.missed }).obsIrq 3

/-- The capture of a freeze: counters, audit counters, snapshot and tally image as they stand; while FROZEN = 1 the trigger is missed. -/
def State.capture (s : State) (source id origin : Nat) (late : Bool) : State :=
  if s.obs.frozen then s.obsMiss
  else
    let all := s.snapshot
    (s.modObs fun o => { o with
      frz := o.cnt, audit := s.tal.audit, frozen := true, ready := false, late, source, id, origin, tvalid := s.clk.valid
      time := s.clk.shift, snap := all.take 32768, overflow := decide (32768 < all.length)
      image := (s.tal.recs.filter fun (_, r) => r.value != 0).map fun (n, r) => (n, r.value) }).obsIrq 1

/-- The FREEZE_ID of a freeze that this node originates, and the count after it. -/
def State.freezeId (s : State) : Nat × State := (s.obs.made, s.modObs fun o => { o with made := (o.made + 1) % 32768 })

/-- A capture of a local source with a FREEZE_ID of this node's count (Table 17.2). -/
def State.captureLocal (s : State) (source : Nat) : State :=
  if s.obs.frozen then s.obsMiss else s.freezeId.2.capture source s.freezeId.1 s.lse.node false

/-- A time armed: an earlier one is replaced and counted; one already passed is captured at once, LATE; one that has just come, on time
(R442, R444). -/
def State.armFreeze (s : State) (source : Nat) (t : Dword) (id origin : Nat) : State :=
  if s.clk.valid ∧ t.toNat ≤ s.clk.shift.toNat then s.capture source id origin (t.toNat != s.clk.shift.toNat)
  else
    let u := if s.obs.armed.isSome then s.obsMiss else s
    u.modObs fun o => { o with armed := some (source, t, id, origin) }

/-- OBS_CMD at an instance: everything from the operator, the Lamp and the debug port; only PEEK from a partition (R449). -/
def State.obsCmd (s : State) (ap : Aperture) (f : Nat → State → State) : State :=
  match ap with
  | .operator => s.command .obs 0 (f 0)
  | .lamp => s.command .obs 7 (f 7)
  | .debug => s.command .obs 8 (f 8)
  | .part p => s.command .obs p fun s => s.cmdEnd .obs p 0 2
  | .vf _ _ => s

/-- OBS_CMD FREEZE (R442). -/
def obsFreeze (ap : Aperture) (s : State) : State := s.obsCmd ap fun a s => (s.captureLocal 0).cmdEnd .obs a 0 0

/-- The 64-bit argument of an OBS instance. -/
def State.obsArg (s : State) (a : Nat) : Dword := s.arg .obs a 0x14 ++ s.arg .obs a 0x10

/-- A FREEZE_ID and its origin noted as armed (R443). -/
def State.noteFreeze (s : State) (id origin : Nat) : State := s.modObs fun o => { o with seen := ((id, origin) :: o.seen).take 1024 }

/-- OBS_CMD FREEZE_AT: T is armed; with BCAST it must lie 5 µs ahead, and a FREEZE packet goes to every member (R443). -/
def obsFreezeAt (ap : Aperture) (bcast : Bool) (s : State) : State :=
  s.obsCmd ap fun a s =>
    let t := s.obsArg a
    if bcast ∧ t.toNat < s.clk.shift.toNat + 5000 then s.cmdEnd .obs a 0 4
    else
      let (id, u) := s.freezeId
      let msg := leBytes 8 t.toNat ++ leBytes 2 id ++ [BitVec.ofNat 8 s.lse.node] ++ List.replicate 5 0
      let u := if bcast then u.bcastFlow 7 msg else u
      ((u.noteFreeze id s.lse.node).armFreeze 1 t id s.lse.node).cmdEnd .obs a 0 0

/-- RELEASE: the flags clear and the copies and the snapshot go (R444). -/
def State.release (s : State) : State :=
  s.modObs fun o => { o with
    frozen := false, ready := false, late := false, overflow := false, frz := [], audit := [], snap := [], image := [], time := 0 }

/-- OBS_CMD RELEASE. -/
def obsRelease (ap : Aperture) (s : State) : State := s.obsCmd ap fun a s => s.release.cmdEnd .obs a 0 0

/-- FREEZE_PACKET_RECEIVE: an accepted FREEZE packet arms its T once for each FREEZE_ID and origin, when BCAST_ACCEPT = 1 (R443). -/
def freezePacketReceive (p : Nat) (s : State) : State :=
  match s.takeMsg p 7 with
  | none => s
  | some (m, t) =>
    let id := m.le 8 2
    let origin := m.le 10 1
    if !t.obs.accept ∨ t.obs.seen.contains (id, origin) then t
    else (t.noteFreeze id origin).armFreeze 4 (BitVec.ofNat 64 (m.le 0 8)) id origin

/-- FREEZE_TIME_REACHED: the valid shift clock reaches the armed time (R442, R444). -/
def freezeTimeReached (s : State) : State :=
  match s.obs.armed with
  | none => s
  | some (source, t, id, origin) =>
    if !s.clk.valid then s else ((s.reach t).modObs fun o => { o with armed := none }).capture source id origin false

/-- SNAPSHOT_DRAINED: READY (R445). -/
def snapshotDrained (s : State) : State :=
  if s.obs.frozen ∧ !s.obs.ready then (s.modObs fun o => { o with ready := true }).obsIrq 2 else s

/-! ### The peek (R447, R448) -/

/-- The debug port has more than the operator's rights (Table 14.10). -/
def State.debugFull (s : State) : Bool := s.fuse.lifecycle == 1 || s.fuse.lifecycle == 2 || s.fuse.lifecycle == 4

/-- Partition p is open. -/
def State.openPart (s : State) (p : Nat) : Bool := s.defined p && (s.shapeOf p).openKind

/-- An inner page that the debug port may peek: of an open partition (Table 17.5). -/
def State.peekInner (s : State) (a addr : Nat) : Bool := a == 8 && s.debugFull && s.openPart (s.innerOwner addr 64)

/-- A local address in a stack window of this node (R31). -/
def stackWindow (addr : Nat) : Bool := decide (addr < 0xC000000000) && decide (addr % 2 ^ 36 < 0xC00000000)

/-- OBS_CMD PEEK: the address is checked and the line asked for, under a tag of the aperture's own (R448, DESIGN CHOICE, log 53). -/
def obsPeek (ap : Aperture) (s : State) : State :=
  let go (a : Nat) (s : State) : State :=
    let addr := (s.obsArg a).toNat
    let mine : Bool := match ap with
      | .part p => stackWindow addr && s.stackOwner (addr / 2 ^ 36) == p
      | _ => true
    if !mine then s.cmdEnd .obs a 0 2
    else if addr % 64 ≠ 0 then s.cmdEnd .obs a 0 3
    else if stackWindow addr ∨ s.peekInner a addr then
      let t := (s.modObs fun o => { o with peeks := o.peeks.put a addr }).cmdBusy .obs a 0
      if stackWindow addr then t.emit (.hubRead (addr / 2 ^ 36) (0xFF0 + a) (addr / 64)) else t
    else s.cmdEnd .obs a 0 (if (innerShare addr).isSome then 2 else 3)
  match ap with
  | .operator => s.command .obs 0 (go 0)
  | .lamp => s.command .obs 7 (go 7)
  | .debug => s.command .obs 8 (go 8)
  | .part p => s.command .obs p (go p)
  | .vf _ _ => s

/-- The OBS_PEEK_DATA words of a line and a side-band (R448). -/
def peekWords (data : Line) (side : Side) : List Word :=
  ((List.range 16).map fun i => data.extractLsb' (32 * i) 32) ++ (List.range 3).map fun i => side.extractLsb' (32 * i) 32

/-- The line deciphered and verified (R116): none when it is uncorrectable or fails its tag or meta check. -/
def State.peekPlain (s : State) (n : Nat) (e : Seam) (line : Nat) (l : HubLine) : Option Line :=
  match s.driftKey n (e.pageOf line) with
  | some key => match s.oldLine e.stack n line key (s.versionOf n line) l with
    | .ok (x, _) => some x
    | .error _ => none
  | none => none

/-- PEEK_RETURN: the raw line and side-band, or, for the debug port on an open partition's enciphered seam, the verified plaintext. What
the data registers hold after a failed check no rule says: a free value (DESIGN CHOICE, log 53). -/
def peekReturn (ap : Aperture) (l : HubLine) (s : State) : State :=
  let a := apIdx ap
  match s.obs.peeks.find a with
  | none => s
  | some addr =>
    let line := addr / 64
    let owner := if stackWindow addr then s.stackOwner (addr / 2 ^ 36) else s.innerOwner addr 64
    let put (t : State) (w : List Word) (code : Nat) : State :=
      (t.modObs fun o => { o with peeks := o.peeks.erase a, data := o.data.put a w, dataOf := o.dataOf.put a owner }).cmdEnd .obs a 0 code
    if !stackWindow addr then put s (peekWords (bytesLine (s.innerBytes addr 64)) 0) 0
    else
      let raw := peekWords l.data (if (s.shaft (addr / 2 ^ 36)).narrow then l.side &&& 0xFFFFFFFFFFFFFFFF else l.side)
      match s.seamAt line with
      | some (n, e) =>
        if a = 8 ∧ s.debugFull ∧ s.openPart (s.stackOwner (addr / 2 ^ 36)) ∧ e.kind ≠ .plain then
          match s.peekPlain n e line l with
          | some x => put s (peekWords x 0) 0
          | none => put s.used (peekWords (bytesLine ((List.range 64).map (Config.freeByte s.fresh))) 0) 5
        else put s raw 0
      | none => put s raw 0

/-- PEEK_TIMEOUT: 10 µs without an answer: CODE 0x6 (R448). -/
def peekTimeout (ap : Aperture) (s : State) : State :=
  let a := apIdx ap
  if (s.obs.peeks.find a).isSome then (s.modObs fun o => { o with peeks := o.peeks.erase a }).cmdEnd .obs a 0 6 else s

/-! ### Rights (R441, R446) -/

/-- Units of a counter group, 0 for a reserved group (Table 17.1). -/
def counterUnits (g : Nat) : Nat :=
  if g = 1 ∨ g = 2 ∨ g = 0x10 ∨ g = 0x11 ∨ g = 0x12 then 12
  else if g = 3 ∨ g = 0x1A then 113
  else if g = 4 ∨ g = 5 ∨ g = 0x16 ∨ g = 0x17 then 24
  else if g = 6 ∨ g = 7 ∨ g = 0x15 then 8
  else if g = 0x13 ∨ g = 0x14 ∨ g = 0x19 then 4
  else if g = 0x18 then 255
  else 0

/-- A partition aperture may read the counter (Table 17.1). -/
def State.counterView (s : State) (p g u : Nat) : Bool :=
  if g = 1 ∨ g = 2 ∨ g = 0x10 ∨ g = 0x11 ∨ g = 0x12 then s.stackOwner u == p
  else if g = 3 ∨ g = 0x1A then
    decide (u < 112) && s.clusterOwner u == p && !(decide (88 ≤ u) && (s.port (u - 88)).slotted)
  else if g = 4 ∨ g = 5 ∨ g = 0x16 ∨ g = 0x17 then !(s.port u).slotted && (s.port u).owner == p
  else if g = 6 then s.faceOwner u == p
  else if g = 7 ∨ g = 0x15 then s.siteOwner u == p
  else false

/-- A counter, live or frozen; a frozen one reads zero while FROZEN = 0 (R440, R444). -/
def State.counterAt (s : State) (frozen : Bool) (g u : Nat) : Dword :=
  (if frozen then s.obs.frz else s.obs.cnt).getD (g * 256 + u) 0

end Sys2Proof.Machine
end

