-- ==== Sys2Proof/Machine/Orders.lean ====
section
/-!
DEFINITION. Machine/Orders.lean: shift orders (15, R416 to R418, Tables 15.5 and 15.6) and the rotation of flow keys that one of them calls for
(R202, R381).
-/

namespace Sys2Proof.Machine

/-- An order as the mailbox shows it (Table 15.5). -/
def Order.word (o : Order) : Block :=
  o.time ++ BitVec.ofNat 4 o.action ++ BitVec.ofBool o.basis ++ BitVec.ofNat 3 o.part ++ BitVec.ofBool o.rep ++ BitVec.ofNat 3 o.state
    ++ (0 : BitVec 4) ++ BitVec.ofNat 8 o.target ++ BitVec.ofNat 40 o.period

/-- Order k. -/
def State.order (s : State) (k : Nat) : Order := s.lse.orders.getD k {}

/-- Order k rewritten; the orders before it that the list does not hold are empty. -/
def State.setOrder (s : State) (k : Nat) (o : Order) : State :=
  { s with lse := { s.lse with orders := (s.lse.orders ++ List.replicate (k + 1 - s.lse.orders.length) ({} : Order)).set k o } }

/-- An order is marked late: counted, LSE_IRQ_STATUS.ORDER (R418, Table 15.13). -/
def State.lateOrder (s : State) : State := { s with lse := { s.lse with late := satInc s.lse.late } }.lseIrq 2

/-! ### Rotation of flow keys (R202, R381) -/

/-- The keys of the epoch or generation before the one in force are still there. -/
def State.rotating (s : State) (p : Nat) : Bool := s.fab.keys.any fun k => k.part == p && k.old

/-- The flow keys of a partition's next epoch derived (R417). -/
def State.prepareFlow (s : State) (p : Nat) : State :=
  if (s.lse.prepared.find p).isSome ∨ s.rotating p ∨ s.fab.dstate ≠ 3 then s
  else
    let e := s.flowEpoch p + 1
    let t := (s.partNodes p).foldl (fun (s : State) n => s.addFlows p n s.fab.gen e) s
    let t := if p = 0 then t.addFlow 0 t.lse.node 0xFF t.fab.gen e else t
    { t with lse := { t.lse with prepared := t.lse.prepared.put p e } }

/-- The next epoch of a partition's flows in force from a shift time on; the keys before it are kept for 16 µs (R202). -/
def State.rotateFlow (s : State) (p : Nat) (at_ : Dword) : State :=
  let t := s.prepareFlow p
  match t.lse.prepared.find p with
  | none => t
  | some e =>
    let mark (k : FlowKey) : FlowKey := if k.part = p ∧ k.epoch ≠ e then { k with old := true } else k
    { t with
      lse := { t.lse with prepared := t.lse.prepared.erase p }
      fab := { t.fab with keys := t.fab.keys.map mark, epoch := t.fab.epoch.put p e, oldEpoch := t.fab.oldEpoch.put p at_ } }

/-- ROTATE_FLOW_PREPARE: 1 ms before a ROTATE_FLOW order falls due, its keys are derived (R417). -/
def rotateFlowPrepare (k : Nat) (s : State) : State :=
  let o := s.order k
  if o.action = 2 ∧ (o.state = 1 ∨ o.state = 2) ∧ s.clk.valid then (s.reach (o.time - 1000000)).prepareFlow o.part else s

/-! ### Falling due (R417, R418) -/

/-- The work of an order still runs. -/
def State.orderBusy (s : State) (o : Order) : Bool :=
  match o.action with
  | 1 => (s.sweepOf o.target).isSome
  | 2 => s.rotating o.part
  | 3 => (s.fab.cand.any (·.mine)) || s.fab.nextGen.isSome || s.rotating 0
  | 4 => s.seams.any fun (n, e) => e.owner == o.part && e.kind != .plain && e.present && (s.sweepOf n).isSome
  | _ => false

/-- The effect of an order's action (Table 15.6). -/
def State.orderAct (s : State) (k : Nat) (o : Order) : State :=
  match o.action with
  | 1 => if (s.seam o.target).owner = o.part ∧ (s.seam o.target).present then s.wantDrift o.target 3 0 false else s
  | 2 => s.rotateFlow o.part o.time
  | 3 =>
    if s.fab.self ∧ s.fab.dstate = 3 then
      s.startFormation (s.fab.gen + 1) s.fab.frank (o.time + BitVec.ofNat 64 ((s.lease.topo.formWindow + 200) * 1000000))
    else s
  | 4 => (s.seams.filter fun (_, e) => e.owner == o.part && e.kind != .plain && e.present).foldl (fun (s : State) (n, _) =>
      s.wantDrift n 3 0 false) s
  | 5 => s.capture 3 (0x8000 + k) s.lse.node false
  | 6 => (s.logged 0x9040 o.part (.unit .order k 0)).lseIrq 2
  | 7 => { s with fab := { s.fab with compatOff := true } }
  | _ => s

/-- The value of a partition's step tally (R302). -/
def State.stepValue (s : State) (p : Nat) : Nat := (s.tally (s.shapeOf p).stepTally).value.toNat

/-- An order has fallen due, its time having come: its basis is readable and reaches WHEN, a step tally by a change from what it was when the
order was written (`base`); a shift time waits while the clock is not valid
or its offset exceeds 1 µs (R413, R418). A rotation waits for the zeroisation of the set before (R381). -/
def State.orderDue (s : State) (o : Order) : Bool :=
  (o.state == 1 || o.state == 2) && s.inRun
    && (if o.basis then (s.shapeOf o.part).stepValid && decide (o.time.toNat ≤ s.stepValue o.part) && s.stepValue o.part != o.base else s.clk.valid && !s.clk.alarm)
    && !((o.action == 2 && s.rotating o.part && o.state == 1) || (o.action == 3 && s.rotating 0 && o.state == 1))

/-- When an order that is due acts: at its shift time, or now. -/
def State.orderTime (s : State) (o : Order) : Nat := if o.basis then s.clk.shift.toNat else max o.time.toNat s.clk.shift.toNat

/-- No other order acts before order k: those that fall due in one cycle start in ascending order number (R418). -/
def State.orderNext (s : State) (k : Nat) : Bool :=
  let t := s.orderTime (s.order k)
  (List.range s.lse.orders.length).all fun j =>
    !(s.orderDue (s.order j) && (decide (s.orderTime (s.order j) < t) || s.orderTime (s.order j) == t && decide (j < k)))

/-- WHEN advanced until it lies above the clock or the step value (R418). -/
def Order.advance (o : Order) (now : Nat) : Order :=
  let per := if o.basis then o.period else o.period * 1000
  if o.rep ∧ per ≠ 0 ∧ o.time.toNat ≤ now then { o with time := BitVec.ofNat 64 (o.time.toNat + ((now - o.time.toNat) / per + 1) * per) } else o

/-- SHIFT_ORDER_DUE: the order's action starts; a repeating order whose work still runs is late instead, with 0x9031 (R418). PME is asked for
its partition in D3 (R360). -/
def shiftOrderDue (k : Nat) (s : State) : State :=
  let o := s.order k
  if !s.orderDue o ∨ !s.orderNext k then s
  else
    let t := if o.basis then s else s.reach o.time
    let now := if o.basis then t.stepValue o.part else t.clk.shift.toNat
    if o.state = 2 ∧ t.orderBusy o then
      if o.rep then ((t.logged 0x9031 o.part (.unit .order k 0)).lateOrder).setOrder k (o.advance now) else t
    else
      let u := t.orderAct k o
      let st := if u.orderBusy o then 2 else if o.rep then 1 else 3
      let u := u.setOrder k { o.advance now with state := st }
      if 1 ≤ o.part ∧ o.part ≤ 6 ∧ u.hst.power.getD (o.part * 32) 0 ≠ 0 then u.pme o.part 1 else u

/-- Orders whose work has ended: done, or armed again. -/
def State.ordersSettle (s : State) : State :=
  let ended (o : Order) : Order := if o.state = 2 ∧ !s.orderBusy o then { o with state := if o.rep then 1 else 3 } else o
  { s with lse := { s.lse with orders := s.lse.orders.map ended } }

/-- A shift order written through the mailbox: it must pass checks 0x9019 and 0x9022; STATE is the block's own (R416). -/
def orderWrite (s : State) (k : Nat) (w : Block) : Option State :=
  let b := leBytes 16 w.toNat
  let o := readOrder b
  let own := s.shapes
  let mine := o.part == 0 || own.any (·.part == o.part)
  let bad := orderBad s.lease o
    || (mine && o.action != 0 && o.period != 0 && decide (periodNs s.lease o < workNs s.lease own o))
  if bad then none else some (s.setOrder k { o.load with base := s.stepValue o.part })

end Sys2Proof.Machine
end

