-- ==== Sys2Proof/Machine/Moves.lean ====
section
/-!
DEFINITION. Machine/Moves.lean: LSE_CMD MOVE (15, R86, R412) and the powering of a gated quadrant that it may wait for (18, R459).
-/

namespace Sys2Proof.Machine

/-- A shape without a unit. A stack takes its mode, its RESERVE and its share's areas with it (DEDUCED, log 46). -/
def Shape.drop (x : Shape) (kind i : Nat) : Shape :=
  match kind with
  | 0 => { x with stackSet := x.stackSet &&& ~~~((1 : BitVec 16) <<< i), narrow := x.narrow &&& ~~~((1 : BitVec 16) <<< i), reserve := x.reserve.set i 0
                  areas := x.areas.set i (List.replicate 7 0) }
  | 1 => { x with sites := x.sites &&& ~~~((1 : BitVec 8) <<< i) }
  | 2 => { x with faces := x.faces &&& ~~~((1 : BitVec 8) <<< i) }
  | _ => { x with channels := x.channels &&& ~~~((1 : BitVec 32) <<< i), urgent := x.urgent &&& ~~~((1 : BitVec 32) <<< i) }

/-- A shape with a unit that another shape gives up. -/
def Shape.take (x from_ : Shape) (kind i : Nat) : Shape :=
  match kind with
  | 0 => { x with stackSet := x.stackSet ||| ((1 : BitVec 16) <<< i), narrow := x.narrow ||| (from_.narrow &&& ((1 : BitVec 16) <<< i))
                  reserve := x.reserve.set i (from_.reserve.getD i 0), areas := x.areas.set i (from_.areas.getD i (List.replicate 7 0)) }
  | 1 => { x with sites := x.sites ||| ((1 : BitVec 8) <<< i) }
  | 2 => { x with faces := x.faces ||| ((1 : BitVec 8) <<< i) }
  | _ => { x with channels := x.channels ||| ((1 : BitVec 32) <<< i), urgent := x.urgent ||| (from_.urgent &&& ((1 : BitVec 32) <<< i)) }

/-- The owner of a resource. -/
def State.ownerOf (s : State) (kind i : Nat) : Nat :=
  match kind with
  | 0 => s.stackOwner i
  | 1 => s.siteOwner i
  | 2 => s.faceOwner i
  | _ => s.chanOwner i

/-- Units of a kind. -/
def kindUnits (kind : Nat) : Nat := if kind = 0 then 12 else if kind = 3 then 32 else 8

/-- The quadrant of a unit (Table 2.1). -/
def unitQuad (kind i : Nat) : Nat := if kind = 0 then i / 3 else if kind = 3 then i / 8 else i / 2

/-- The MOVE mask of a resource (Table 15.2, section 0x05). -/
def State.moveMask (s : State) (kind i : Nat) : Nat :=
  let p := s.lease.policies
  match kind with
  | 0 => p.moveStack.getD i 0
  | 1 => p.moveSite.getD i 0
  | 2 => p.moveFace.getD i 0
  | _ => p.moveChannel.getD i 0

/-- The Lease with the assignment that a MOVE would give. -/
def State.movedLease (s : State) (m : MoveReq) : Lease :=
  let old := s.shapeOf (s.ownerOf m.kind m.idx)
  let go (x : Shape) : Shape :=
    if x.shape ≠ s.lse.shape then x
    else if x.part = m.owner then x.take old m.kind m.idx
    else x.drop m.kind m.idx
  { s.lease with shapes := s.lease.shapes.map go }

/-- A seam that goes with its stack: its owner and that of its four slots and of their expanded copies change, and a transfer drift is
queued at the head (R86). Its kind stays as it is, also where the receiving partition could not create it (DESIGN CHOICE, log 75). -/
def State.transferSeam (s : State) (n p : Nat) : State :=
  let e := s.seam n
  let sl := [e.pad, e.hash, e.nextPad, e.nextHash]
  let give (t : State) (k : Nat) : State := if (t.slot k).state = .empty then t else t.setSlot k { t.slot k with owner := p }
  let pass (k : Cluster) : Cluster :=
    { k with keys := k.keys.map fun (x : KeyCopy) => if sl.contains x.slot then { x with part := p } else x }
  let t := sl.foldl give (s.modSeam n fun e => { e with owner := p })
  { t with clus := t.clus.map fun (c, k) => (c, pass k) }.wantDrift n 3 0 true

/-- The seams of a stack that moves: transferred where the Lease and the request say so, else retired (R86, R412). Every such seam is
transferred, also when the receiving partition then owns more than 64 (DESIGN CHOICE, log 74). -/
def State.moveSeams (s : State) (k p : Nat) (xfer : Bool) : State :=
  (s.seams.filter fun (_, e) => e.present && e.stack == k && e.state != .dead && e.state != .retiring).foldl (fun (s : State) (n, e) =>
    if xfer && e.transferable then s.transferSeam n p else s.retireSeam n) s

/-- A channel without a queue (Table 12.7): its references go, what it had not committed is dropped. -/
def State.unbindChan (s : State) (c : Nat) : State :=
  let t := ((s.dropChanReqs c true).discardDescs c).modChan c fun k => { done := k.done, bytes := k.bytes }
  { t with tal := { t.tal with refs := t.tal.refs.filter fun r => r.2 != RefObj.queue c && (match r.1 with
    | .desc d _ => d != c
    | _ => true) } }

/-- An admitted MOVE takes effect in one step; the share of a stack is zeroed before the new owner can reach it (R146, R412). -/
def State.moveGo (s : State) (m : MoveReq) : State :=
  let old := s.ownerOf m.kind m.idx
  let t := match m.kind with
    | 0 =>
      let t := ((List.range 8).filter fun f => s.faceOwner f == old && old != 0).foldl State.emptyFace s
      (t.moveSeams m.idx m.owner m.xfer).zeroShare m.idx
    | 1 => ((s.zeroSite m.idx).abandonSite m.idx).modSite m.idx fun x => { x with state := .down }
    | 2 => s.emptyFace m.idx
    | _ => s.unbindChan m.idx
  let t := t.assign (s.movedLease m) s.lse.shape
  if m.kind = 1 ∧ (t.site m.idx).linkUp then t.startSite m.idx else t

/-- The quadrant of a MOVE is gated. -/
def State.gatedQuad (s : State) (q : Nat) : Bool := s.pins.qpwrOff.getLsbD q

/-- A gated quadrant that has power again: its slice gets a new masking key and is initialised, before the MOVE assigns any of its shares (R145, R459). -/
def State.repower (s : State) (q : Nat) : State := s.initSlices [q]

/-- The waiting MOVE completes. -/
def State.moveEnd (s : State) (m : MoveReq) : State :=
  { s.moveGo m with lse := { (s.moveGo m).lse with move := none } }.cmdEnd .lse 7 0 0

/-- LSE_CMD MOVE, from the Lamp-private aperture in RUN: the mask, then every admission check on the resulting assignment; a unit of a gated
quadrant waits for its power (R412, R425, R459). -/
def lseMove (ap : Aperture) (s : State) : State :=
  s.lseCmd ap fun a s =>
    let w := s.arg .lse a 0x18
    let m : MoveReq := {
      kind := (w.extractLsb' 8 2).toNat, idx := (w.extractLsb' 0 5).toNat, owner := (w.extractLsb' 12 3).toNat
      xfer := (s.arg .lse a 0x1C).getLsbD 0 }
    if a ≠ 7 ∨ !s.inRun then s.cmdEnd .lse a 0 2
    else if kindUnits m.kind ≤ m.idx ∨ !s.defined m.owner ∨ s.ownerOf m.kind m.idx = m.owner then s.cmdEnd .lse a 0 4
    else if !(s.moveMask m.kind m.idx).testBit (m.owner - 1) then s.cmdEnd .lse a 0 3
    else match admitLease (s.movedLease m) (s.admitEnv true (s.fuse.authOf 3)) with
      | some r => (s.showRefusal r).cmdEnd .lse a 0 5
      | none =>
        let q := unitQuad m.kind m.idx
        if s.gatedQuad q then
          let t := { s with pins := { s.pins with qpwrOff := s.pins.qpwrOff &&& ~~~((1 : BitVec 4) <<< q) } }
          if t.pins.qpwrOk.getLsbD q then (t.repower q).moveEnd m
          else { t with lse := { t.lse with move := some m } }.cmdBusy .lse a 0
        else s.moveEnd m

/-- QPWR_OK_RISE: dg_qpwr_ok[q] rises; a quadrant that a MOVE waits for is ramped and initialised, and the MOVE completes (R459). -/
def qpwrOkRise (q : Nat) (s : State) : State :=
  if q = 0 ∨ 4 ≤ q then s
  else
    let t := { s with pins := { s.pins with qpwrOk := s.pins.qpwrOk ||| ((1 : BitVec 4) <<< q) } }
    match t.lse.move with
    | some m => if s.alive ∧ unitQuad m.kind m.idx = q then (t.repower q).moveEnd m else t
    | none => t

/-- A quadrant fault: 0xA00C and the partition step for each partition with resources in the quadrant, else only logged (Table 16.9). -/
def State.quadFault (s : State) (q : Nat) : State :=
  let l := allParts.filter fun p => s.hasIn p q
  if l.isEmpty then s.logged 0xA00C 0 (.unit .home q 0) else l.foldl (fun (s : State) p => s.partFault 0xA00C p (.unit .home q 0)) s

/-- QPWR_OK_FALL: dg_qpwr_ok[q] falls; while dg_qpwr_off[q] is low that is a fault of the quadrant (R459), which a block held in reset has not. -/
def qpwrOkFall (q : Nat) (s : State) : State :=
  if q = 0 ∨ 4 ≤ q then s
  else
    let t := { s with pins := { s.pins with qpwrOk := s.pins.qpwrOk &&& ~~~((1 : BitVec 4) <<< q) } }
    if t.gatedQuad q ∨ !s.alive then t else t.quadFault q

end Sys2Proof.Machine
end

