-- ==== Sys2Proof/Machine/Faults.lean ====
section
/-!
DEFINITION. Machine/Faults.lean: canaries, the escalation ladder and the guilty-party replay (16, R429 to R438).
-/

namespace Sys2Proof.Machine

/-! ### Units (Tables 16.3 and 16.5) -/

/-- The partition of a unit. -/
def State.unitPart (s : State) : UnitRef → Nat
  | .shaft k => s.stackOwner k
  | .face f => s.faceOwner f
  | .channel c => s.chanOwner c
  | .task t => s.taskOwner t

/-- The block has that unit. -/
def unitExists : UnitRef → Bool
  | .shaft k => decide (k < 12)
  | .face f => decide (f < 8)
  | .channel c => decide (c < 32)
  | .task t => decide (t < 256)

/-- A unit as the OBJECT of a record, with the ring index or the step it was at. -/
def State.unitObj (s : State) : UnitRef → Obj
  | .shaft k => .unit .shaft k 0
  | .face f => .unit .face f 0
  | .channel c => match (s.chan c).act with
    | some a => descObj c a.d
    | none => .unit .channel c 0
  | .task t => .unit .task t (s.task t).step

/-- An atomic on ordinary memory in a quadrant, not yet applied: what a face keeps for replay (R279, R434). -/
def HomeEntry.atomicAt (e : HomeEntry) (q : Nat) : Bool :=
  e.q == q && e.op.kind == 0 && decide (3 ≤ e.op.opcode) && e.target.isNone && !e.answered

/-- The contexts with accepted work in a unit that a replay covers, oldest work first, each once, at most 16: of a face those of its
ordinary-memory atomics not yet applied, since it keeps nothing else (R434). -/
def State.suspects (s : State) (u : UnitRef) : List (BitVec 16) :=
  let p := s.unitPart u
  let l : List (BitVec 16) := match u with
    | .shaft k => (s.shaft k).track.filterMap (·.ctx)
    | .face f =>
      if s.quadFace (f / 2) p = some f then (s.home.entries.filter fun e => e.atomicAt (f / 2) && e.part == p).filterMap (·.op.ctx) else []
    | .channel c => (s.chan c).fetched.map fun x => x.1.ctx
    | .task t => [(s.task t).ctx]
  (l.foldl (fun acc c => if acc.contains c then acc else acc ++ [c]) []).take 16

/-- The unit holds accepted work that is not waiting on a tally: its busy canary runs (R430, Table 16.5). -/
def State.unitBusy (s : State) (u : UnitRef) : Bool :=
  match u with
  | .channel c => (s.chan c).state == .run && (match (s.chan c).act with
    | some a => a.phase != .waiting
    | none => !(s.chan c).queue.isEmpty)
  | .task t => (s.task t).state == .ready || (s.task t).state == .blocked && (s.task t).block != 1 && (s.task t).block != 2
  | .shaft k => !(s.shaft k).track.isEmpty
  | .face f => !(s.suspects (.face f)).isEmpty || s.face.gathers.any (fun g => g.target / 64 == f) || s.home.entries.any fun e => (match e.target with
    | some n => n / 64 == f && !e.answered
    | none => false)

/-! ### Steps of the ladder -/

/-- An engine step runs on the unit. -/
def State.inEngStep (s : State) (u : UnitRef) : Bool := s.flt.eng.any (·.unit == u)

/-- A partition step runs on the partition. -/
def State.inPartStep (s : State) (p : Nat) : Bool := s.flt.parts.any (·.part == p)

/-- A channel in RUN is HALTED with 0xA002, its requests to the hub abandoned, to be asked again from the first one not answered. -/
def State.resetChan (s : State) (c : Nat) : State :=
  if (s.chan c).state = .run then
    (s.modAct c fun a => {
      a with
      trans := a.trans.filter (·.at_.isSome)
      rd := ((a.hostRd.head?).map (·.1)).getD a.rd
      hostRd := [] }).haltChan c 0xA002
  else s

/-- The unit stops and its pipeline is reset (R434, steps 1 and 2): a channel or task is HALTED with 0xA002, its registration withdrawn
(R293), so that a descriptor that waits goes back to the head of the queue; a face resets as Table 10.12 states. -/
def State.resetUnit (s : State) : UnitRef → State
  | .shaft _ => s
  | .face f => s.resetFace f
  | .task t => s.haltTask t 0xA002
  | .channel c =>
    match (s.chan c).act with
    | some a =>
      if (s.chan c).state = .run ∧ a.phase = .waiting then
        let t := ((s.chanReqs c).filter fun r => r.extTag % 8 == 3).foldl (fun (s : State) r => s.withdrawWait r.tag) s
        (t.modChan c fun k => { k with act := none, queue := a.d :: k.queue }).haltChan c 0xA002
      else s.resetChan c
    | none => s.resetChan c

/-- An engine step's counts, and whether it is the third of the unit within a second (R432, Table 16.15). -/
def State.countEngStep (s : State) (u : UnitRef) : State × Bool :=
  let hist := (u, s.clk.cyc) :: s.flt.engHist
  let mine := (hist.filter (·.1 == u)).map (·.2)
  ({ s with flt := { s.flt with
      engHist := hist.take 256
      steps := s.flt.steps.modD (s.unitPart u) {} fun c => { c with engine := satInc c.engine } } },
    decide (3 ≤ recent s.clk.cyc cycPerSec mine))

/-- A command that started a step completes. -/
def State.stepCmdEnd (s : State) (byCmd : Option Nat) (unit : Nat) : State :=
  match byCmd with
  | some a => s.cmdEnd .flt a unit 0
  | none => s

/-- The number of a unit. -/
def unitNum : UnitRef → Nat
  | .shaft k => k
  | .face f => f
  | .channel c => c
  | .task t => t

/-- An engine step of a unit escalates to the step of its partition, for which the command that started it then waits; a unit of no
partition has none to escalate to, so that the fault is logged and the command completes (R432; DEDUCED, log 54). -/
def State.escalate (s : State) (u : UnitRef) (p : Nat) (byCmd : Option Nat) : State :=
  if p = 0 then (s.logged 0xA006 0 (s.unitObj u)).stepCmdEnd byCmd (unitNum u)
  else (s.raise 0xA006 5 p none (s.unitObj u)).partStep p byCmd

/-- The engine step of a unit for a fault already recorded; while one runs on it, a further cause is absorbed (R432, R434). -/
def State.engineStep (s : State) (u : UnitRef) (byCmd : Option Nat) : State :=
  if s.inEngStep u then s
  else
    let p := s.unitPart u
    let l := s.suspects u
    let (t, third) := s.countEngStep u
    if third then t.escalate u p byCmd
    else
      let t := t.resetUnit u
      let e : EngStep := { unit := u, part := p, suspects := l, alive := l.filter fun c => t.ctxOk p c, byCmd }
      { t with flt := { t.flt with eng := t.flt.eng ++ [e] } }

/-- An engine step is over. -/
def State.endEngStep (s : State) (u : UnitRef) : State :=
  { s with flt := { s.flt with eng := s.flt.eng.filter (·.unit != u) } }

/-! ### Canaries -/

/-- The period of a wait canary, none where it is disabled (R429). -/
def State.canaryPeriod (s : State) (own : Nat) : Option Nat :=
  let per := if own = 0 then s.flt.canWait else own
  if per = 0 ∨ per = 65535 then none else some per

/-- WAIT_CANARY_EXPIRE: the registration is withdrawn, the waiting context lost with 0xA001; a waiting task is HALTED with it (R429). -/
def waitCanaryExpire (h : WaitHead) (s : State) : State :=
  match h with
  | .channel c =>
    match (s.chan c).act, (s.chanReqs c).find? fun r => r.extTag % 8 == 3 && !r.discarded with
    | some a, some r =>
      if a.phase = .waiting ∧ (s.canaryPeriod 0).isSome then
        (s.withdrawWait r.tag).loseCtx (s.chan c).part a.d.ctx 0xA001 (descObj c a.d)
      else s
    | _, _ => s
  | .task t =>
    let k := s.task t
    if k.state = .blocked ∧ (k.block = 1 ∨ k.block = 2) ∧ (s.canaryPeriod k.canary.toNat).isSome then
      (((k.req.map s.withdrawWait).getD s).loseCtx k.part k.ctx 0xA001 (.unit .task t k.step)).haltTask t 0xA001
    else s
  | .front q =>
    match s.frontReq q with
    | some r =>
      match r.op.ctx with
      | some c => if (s.canaryPeriod 0).isSome then s.loseCtx r.op.part c 0xA001 .none else s
      | none => s
    | none => s

/-- BUSY_CANARY_EXPIRE: 0xA002 and the engine step (R430, R434). -/
def busyCanaryExpire (u : UnitRef) (s : State) : State :=
  if s.unitBusy u ∧ !s.inPartStep (s.unitPart u) then (s.raise 0xA002 3 (s.unitPart u) none (s.unitObj u)).engineStep u none else s

/-- The guilty suspect's work in the unit discarded (R434). -/
def State.dropGuilty (s : State) (u : UnitRef) (p : Nat) (c : BitVec 16) : State :=
  match u with
  | .channel _ | .task _ => s
  | .face f =>
    let l := (s.home.entries.filter fun e => e.atomicAt (f / 2) && e.part == p && e.op.ctx == some c).map (·.id)
    let mine (a : Acc) : Bool := match a.src with
      | .home id _ => l.contains id
      | _ => false
    let t := { s.discardReqs p c with shafts := s.shafts.map fun (k, x) => (k, { x with q := x.q.filter fun a => !mine a }) }
    l.foldl (fun (t : State) id => t.failEntry id 0xA003) t
  | .shaft k =>
    let mine (t : Track) : Bool := t.ctx == some c && t.stamp.isNone
    let l := (s.shaft k).track.filter mine
    let t := (s.discardReqs p c).modShaft k fun x => { x with track := x.track.filter fun t => !mine t }
    l.foldl (fun (t : State) (x : Track) => match x.src with
      | .home id _ => t.failEntry id 0xA003
      | _ => t) t

/-- The replay of a unit has ended with a suspect lost. -/
def State.replayOver (s : State) (u : UnitRef) : State :=
  { s with flt := { s.flt with eng := s.flt.eng.map fun x => if x.unit = u then { x with phase := 1 } else x } }

/-- A suspect lost since the engine step began by a fault of its own: its work in the unit is discarded and the replay ends as for a guilty
one, without 0xA003 (R434; DEDUCED, log 54). -/
def EngStep.gone (e : EngStep) (s : State) : Option (BitVec 16) :=
  if e.phase = 0 then e.alive.find? fun c => !s.ctxOk e.part c else none

/-- The replays that a fault has ended. -/
def State.settleReplays (s : State) : State :=
  s.flt.eng.foldl (fun (s : State) e => match e.gone s with
    | some c => (s.dropGuilty e.unit e.part c).replayOver e.unit
    | none => s) s

/-- REPLAY_CANARY_EXPIRE: a suspect replayed alone makes no progress: it is lost with 0xA003, its work in the unit discarded, and the replay
ends. Which of the suspects it is the rule leaves to what the unit does; it is a free value (DESIGN CHOICE, log 54). -/
def replayCanaryExpire (u : UnitRef) (s : State) : State :=
  match s.flt.eng.find? (·.unit == u) with
  | none => s
  | some e =>
    if e.phase ≠ 0 ∨ e.suspects.isEmpty then s
    else
      let c := e.suspects.getD (Config.freeNat s.fresh % e.suspects.length) 0
      ((s.used.loseCtx e.part c 0xA003 (s.unitObj u)).dropGuilty u e.part c).replayOver u

/-- The unit returns to service: a channel to RUN, a task whose context is not lost to READY, a shaft asks the hub again for what it
abandoned (R434, step 5). -/
def State.resumeUnit (s : State) (u : UnitRef) : State :=
  match u with
  | .face _ => s
  | .shaft k => ((s.shaft k).track.filter (·.raw.isNone)).foldl (fun (s : State) t => s.emit (.hubRead k t.tag t.line)) s
  | .task t =>
    let k := s.task t
    if k.state = .halted ∧ k.fault = 0xA002 ∧ s.ctxOk k.part k.ctx then
      s.modTask t fun k => { k with state := .ready, fault := 0, block := 0 }
    else s
  | .channel c =>
    if s.stepHeld c then
      let t := s.modChan c fun k => { k with state := .run, fault := 0 }
      match (t.chan c).act with
      | some a => if t.ctxOk (t.chan c).part a.d.ctx then t else t.movLost c
      | none => t
    else s

/-- ENGINE_STEP_DONE: the unit returns to service and the suspects resume; with none guilty 0xA005 is logged (R434). -/
def engineStepDone (u : UnitRef) (s : State) : State :=
  match s.flt.eng.find? (·.unit == u) with
  | none => s
  | some e =>
    let t := if e.phase = 0 then s.logged 0xA005 e.part (s.unitObj u) else s
    ((((t.endEngStep u).resumeUnit u).irqVis .flt e.part 2).stepCmdEnd e.byCmd (unitNum u))

/-- ENGINE_STEP_OVERRUN: 0xA006, the partition step (R432). -/
def engineStepOverrun (u : UnitRef) (s : State) : State :=
  match s.flt.eng.find? (·.unit == u) with
  | none => s
  | some e => (s.endEngStep u).escalate u e.part e.byCmd

/-- Every site of the partition has answered FLUSH (R183, R433). -/
def State.sitesFlushed (s : State) (p : Nat) : Bool :=
  s.own.site.all fun (t, o) => o != p || !(s.sIo t).flush || (s.site t).state != .run

/-- Partition recovery takes the partition's sites out of quarantine: they are down, and brought up where their link is up (Table 7.9;
DEDUCED, log 82). -/
def State.recoverSites (s : State) (p : Nat) : State :=
  (s.own.site.filter fun (k, o) => o == p && (s.site k).state == .quarantined).foldl (fun (s : State) (k, _) =>
    let t := s.modSite k fun x => { x with state := .down, cause := 0 }
    if (t.site k).linkUp then t.startSite k else t) s

/-- PARTITION_STEP_DONE: engines, sites and requester have acknowledged; the quotas return, quarantined sites recover, the step ends
(R181, R433). -/
def partitionStepDone (p : Nat) (s : State) : State :=
  match s.flt.parts.find? (·.part == p) with
  | none => s
  | some e =>
    if !e.begun ∨ !s.sitesFlushed p then s
    else
      (({ s with flt := { s.flt with parts := s.flt.parts.filter (·.part != p) } }.recoverSites p).irqVis .flt p 3).stepCmdEnd e.byCmd p

/-- PARTITION_STEP_OVERRUN: 0xA007, the chip step (R432). -/
def partitionStepOverrun (p : Nat) (s : State) : State :=
  if s.inPartStep p then (s.raise 0xA007 6 p none .none).chipStep 0xA007 else s

/-- CHIP_STEP_OVERRUN: 0xA009, the power cycle (R432, R436). -/
def chipStepOverrun (s : State) : State :=
  if s.flt.chip then (s.raise 0xA009 7 0 none .none).powerCycle else s

/-! ### The Lamp's watchdog (R431) -/

/-- LAMP_WATCHDOG_EXPIRE: 0xA008, the chip step. -/
def lampWatchdogExpire (s : State) : State :=
  if s.flt.watchdog then
    ({ s with flt := { s.flt with watchdog := false } }.raise 0xA008 6 0 none .none).chipStep 0xA008
  else s

/-- FLT_KICK: the watchdog restarts; only the Lamp has the register (R431, R438). -/
def fltKick (ap : Aperture) (s : State) : State :=
  match ap with
  | .lamp => { s with flt := { s.flt with kicks := s.flt.kicks + 1 } }
  | _ => s

/-! ### FLT_CMD (R438) -/

/-- FLT_CMD at an aperture that has it. -/
def State.fltCmd (s : State) (ap : Aperture) (f : Nat → State → State) : State :=
  match ap with
  | .operator => s.command .flt 0 (f 0)
  | .lamp => s.command .flt 7 (f 7)
  | .part p => s.command .flt p (f p)
  | .debug => s.command .flt 8 fun s => s.cmdEnd .flt 8 0 2
  | .vf _ _ => s

/-- FLT_CMD ENGINE: from the operator and the Lamp, and from a partition on its own units. -/
def fltEngine (ap : Aperture) (u : UnitRef) (s : State) : State :=
  s.fltCmd ap fun a s =>
    let p := s.unitPart u
    if !unitExists u then s.cmdEnd .flt a (unitNum u) 4
    else if a ≠ 0 ∧ a ≠ 7 ∧ a ≠ p then s.cmdEnd .flt a (unitNum u) 2
    else if s.inEngStep u ∨ s.inPartStep p then s.cmdEnd .flt a (unitNum u) 3
    else ((s.cmdBusy .flt a (unitNum u)).raise 0xA00A 3 p none (s.unitObj u)).engineStep u (some a)

/-- FLT_CMD PARTITION: from the operator and the Lamp, and from a partition on itself. -/
def fltPartition (ap : Aperture) (p : Nat) (s : State) : State :=
  s.fltCmd ap fun a s =>
    if a ≠ 0 ∧ a ≠ 7 ∧ a ≠ p then s.cmdEnd .flt a p 2
    else if !s.defined p then s.cmdEnd .flt a p 4
    else if s.inPartStep p then s.cmdEnd .flt a p 3
    else ((s.cmdBusy .flt a p).raise 0xA00A 5 p none .none).partStep p (some a)

/-- FLT_CMD CHIP, from the Lamp: DONE at once, then the chip step. -/
def fltChip (ap : Aperture) (s : State) : State :=
  s.fltCmd ap fun a s =>
    if a ≠ 7 then s.cmdEnd .flt a 0 2
    else if s.flt.chip then s.cmdEnd .flt a 0 3
    else ((s.cmdEnd .flt a 0 0).raise 0xA00A 6 0 none .none).chipStep 0xA00A

/-- FLT_CMD TRAY, from the Lamp: DONE at once, then the power cycle. -/
def fltTray (ap : Aperture) (s : State) : State :=
  s.fltCmd ap fun a s =>
    if a ≠ 7 then s.cmdEnd .flt a 0 2
    else ((s.cmdEnd .flt a 0 0).raise 0xA00A 7 0 none .none).powerCycle

end Sys2Proof.Machine
end

