-- ==== Sys2Proof/Machine/Warm.lean ====
section
/-!
DEFINITION. Machine/Warm.lean: the chip-level reset and the warm start (15, R422, R423; 18, R456, R457), and what the clock monitor finds.
-/

namespace Sys2Proof.Machine

/-! ### The pin and dg_rst_ready (R457) -/

/-- CHIP_RESET_ASSERT: from RUN no new work is taken at any port; during a warm start, that start begins again at step 1 (R457, DEDUCED, log 55). -/
def chipResetAssert (s : State) : State :=
  if s.alive ∧ s.glb.state = 3 then { s with pins := { s.pins with chipRst := true } }
  else if s.alive ∧ s.glb.state = 1 then
    { s with pins := { s.pins with chipRst := true }, glb := { s.glb with step := 1 }, lse := { s.lse with halted := false } }
  else s

/-- The work that R90, R129 and R246 protect is done: no page refresh runs, no write of a write buffer is unacknowledged, no cart commit has
writes to make. -/
def State.protectedDone (s : State) : Bool :=
  s.shafts.all fun (_, x) => x.refresh.isEmpty && x.wb.all (fun (_, w) => w.unacked == 0) && x.q.all fun a => match a.src with
    | .commit _ _ _ => false
    | _ => true

/-- RST_READY_ASSERT: dg_rst_ready rises (R457). -/
def rstReadyAssert (s : State) : State :=
  if s.quiesced ∧ s.protectedDone then { s with pins := { s.pins with rstReady := true } } else s

/-! ### What a warm start resets (R422, Tables 10.12, 11.5, 12.7) -/

/-- Every ACTIVE and RETIRING entry LOST with 0xA00F, no loss queued, a RETIRE abandoned; one record for each defined partition (R422). -/
def State.warmContexts (s : State) : State :=
  let lose (e : CtxEntry) : CtxEntry := if e.state = .active ∨ e.state = .retiring then { e with state := .lost, first := 0xA00F } else e
  let t := { s with ctx := { s.ctx with
    tab := s.ctx.tab.map fun ((k, e) : Nat × CtxEntry) => (k, lose e)
    loss := [], retired := [] } }
  (allParts.filter t.defined).foldl (fun (t : State) p => t.raise 0xA00F 6 p none .none) t

/-- A loaded task after a warm start: STOPPED at its beginning, its program kept (Table 11.5). -/
def Task.warm (k : Task) : Task :=
  if k.state = .empty then k
  else { state := .stopped, part := k.part, ctx := k.ctx, canary := k.canary, prog := k.prog }

/-- A bound channel after a warm start: STOPPED, its HEAD kept (Table 12.7). -/
def Chan.warm (k : Chan) : Chan :=
  let x := { k with act := none, queue := [], moves := [], fetchAt := k.head, cmdAp := none, awaitRec := none, destroying := false, abortTo := none }
  if k.state = .unbound ∨ k.state = .orphaned then x else { x with state := .stopped }

/-- An instance whose command in progress ends with the warm start. -/
def Inst.warm (i : Inst) : Inst := { i with busy := false }

/-- Blocks whose commands a warm start ends. -/
def warmBlk (b : Nat) : Bool := b != Blk.num .seam && b != Blk.num .hst && b != Blk.num .lse && b != Blk.num .vlt

/-- Command instances: those of the blocks reset are no longer busy, and FLT_CMD_STATUS is reset (R438, DEDUCED, log 55). -/
def State.warmInsts (s : State) : State :=
  let go (k : Nat) (i : Inst) : Inst :=
    let i := if warmBlk (k / 32) then i.warm else i
    if k / 32 = Blk.num .flt then { i with done := false, code := 0, unit := 0 } else i
  { s with cmds := s.cmds.map fun ((k, i) : Nat × Inst) => (k, go k i) }

/-- Requests and homes: a request of this node within it goes, one to another node is marked discarded; home trackers, tickets, locks and
staged values are lost (R247, R422). -/
def State.warmRequests (s : State) : State :=
  let keep (r : Req) : Bool := r.node != s.lse.node && !r.held
  let drop (r : Req) : Req := if r.op.kind = 4 then r else { r with discarded := true }
  { s with
    req := { s.req with out := (s.req.out.filter keep).map drop, answers := [], done := [], failed := [], fences := [] }
    home := { s.home with arr := [], entries := [], tickets := [], issued := [], served := [], breaks := [], vals := [], words := [], freed := [] }
    cart := { s.cart with staged := [] } }

/-- Shafts and slices: accesses not yet made are dropped; sweeps, write buffers and counter caches stay. -/
def State.warmShafts (s : State) : State :=
  let idle (x : Shaft) : Shaft := { x with q := [], track := [], fetch := [], corrQ := [], corrWait := [] }
  { s with shafts := s.shafts.map fun ((k, x) : Nat × Shaft) => (k, idle x), ins := { s.ins with reqs := [] } }

/-- Sites and carts: operations abandoned, FLUSH sent, undecided carts aborted, results discarded (R183, R357). -/
def State.warmSites (s : State) : State :=
  let t := s.own.site.foldl (fun (t : State) (k, _) => t.flushSite k) s
  let l := t.cart.carts.map fun c => (c.part, c.ctx)
  l.foldl (fun (t : State) (p, c) => t.endCarts p c) t

/-- Everything a warm start resets, at event W; dg_strobe_out is low after it (R453). -/
def State.warmReset (s : State) : State :=
  let t := (List.range 32).foldl State.discardDescs s
  let t := (List.range 8).foldl State.emptyFace t
  let t := allParts.foldl (fun (t : State) p => t.dropEgress p) t
  let t := t.warmSites.warmRequests.warmShafts.warmInsts
  let t := { t with
    wnd := { t.wnd with loads := [], tasks := t.wnd.tasks.map fun ((n, k) : Nat × Task) => (n, k.warm) }
    mov := { t.mov with chans := t.mov.chans.map fun ((c, k) : Nat × Chan) => (c, k.warm)
                        sealRes := [], units := [] }
    tal := { t.tal with regs := [] }
    fuse := t.fuse.interrupted
    flt := { t.flt with eng := [], parts := [], warmDue := false, watchdog := false }
    pins := { t.pins with chipRst := false, rstReady := false, strobeOut := false } }
  (t.release.modObs fun o => { o with peeks := [] }).warmContexts

/-! ### Steps (Table 15.7, warm column) -/

/-- A row queued in the soft repair map leaves it for a spare of its bank; without one it stays queued, with 0x220D (R150). Which bank a
row lies in is a free value, the same at every warm start (DESIGN CHOICE, log 9). -/
def State.spareRow (s : State) (q w : Nat) : State :=
  let e := s.slice q
  let b := Config.freeNat (q * 2 ^ 28 + w) % 32
  if e.banks.getD b 0 = 0 then s.logged 0x220D 0 (.unit .slice q 0)
  else s.modSlice q fun e => { e with
    queued := e.queued.erase w, soft := e.soft + 1, spares := e.spares - 1, banks := e.banks.set b (e.banks.getD b 0 - 1) }

/-- Step 3: the queued rows of every slice are spared (R150). -/
def State.softRepair (s : State) : State :=
  [0, 1, 2, 3].foldl (fun (s : State) q => (s.slice q).queued.foldl (fun (s : State) w => s.spareRow q w) s) s

/-- The slices that are initialised anew: failed ones, and all of them after a long loss of the clock (R422, R456). -/
def State.flaggedSlices (s : State) : List Nat :=
  [0, 1, 2, 3].filter fun q => (s.slice q).state == .failed || s.lse.flagged && (s.slice q).state == .ready

/-- A flagged slice initialised under a new masking key, with a partition fault for each partition that has a share in it (R422). -/
def State.renewSlice (s : State) (q : Nat) : State :=
  let t := s.initSlices [q]
  (allParts.filter fun p => t.own.stack.any fun (k, o) => k / 3 == q && o == p).foldl
    (fun (t : State) p => t.partFault 0xA00E p (.unit .slice q 0)) t

/-- Step 8 over the NOR at a warm start: its work in full, and the digest must be the one in force (R407, R423). -/
def State.warmNor (s : State) (nor : Option (List Byte)) (sigOk : Bool) : State × Option Refused :=
  match nor with
  | none => (s, some (0x9006, 0, 0, 0))
  | some b =>
    let same := configDigest b (readLease b) = s.fab.digest
    match Sys2Proof.Machine.admitImage b (s.admitEnv sigOk (leaseSigner b)) with
    | some r => if r.1 < 0x9007 then (s, some r) else if same then (s, none) else (s, some (0x9007, 0, 0, 0))
    | none =>
      if same then ({ s with ins := { s.ins with leaseOk := true }, lse := { s.lse with bytes := b } }, none)
      else (s, some (0x9007, 0, 0, 0))

/-- Step 8: the copy of the Lease is compared with the digest in force; an uncorrectable one sends the block to the NOR (R423). -/
def State.warmStep8 (s : State) (i : WarmInputs) : State × Option Refused :=
  let t := s.enterStep 8
  -- the copy lies in the block-reserved area of slice 0 (Table 6.1), at a place the spec does not state
  let (t, bad) := t.used.insWord 0 (0xF000000 + Config.freeNat t.fresh % 0x1000000) 7 i.leaseCopy
  let t := if bad then t.logged 0x220B 0 (.unit .slice 0 7) else t
  if bad ∨ !t.ins.leaseOk then { t with lse := { t.lse with full := true } }.warmNor i.nor i.sigOk
  else ({ t with lse := { t.lse with full := false } }, none)

/-- Steps 9 to 15: admission of the assignment in force, the hub's training, ANNOUNCE, RUN (R408, R420 to R422). -/
def State.warmFinish (s : State) (step11Ok : Bool) : State :=
  let t := s.lampStart.enterStep 9
  match admitLease t.lease (t.admitEnv true (t.fuse.authOf 3)) with
  | some r => t.enterHeld 9 r
  | none =>
    let t := t.enterStep 11
    if !step11Ok then (((t.logged 0x9033 0 .none).raise 0xA009 7 0 none .none).powerCycle).stopIn 11
    else
      (announceTimer (t.enterStep 13)).startAdvance

/-- Steps 3 to 8 (R150, R151, R384, R390, R421). -/
def State.warmTests (s : State) (i : WarmInputs) : State :=
  let t := (s.enterStep 3).softRepair
  let t := (t.flaggedSlices.filter fun q => !i.failedQuads.contains q).foldl State.renewSlice t
  let t := { t with lse := { t.lse with flagged := false } }.enterStep 4
  let t := i.failedQuads.foldl State.failQuad t
  if i.failedQuads.contains 0 then t.stopIn 4
  else
    let t := t.enterStep 5
    if !i.katOk then (t.logged 0x8002 0 .none).stopIn 5
    else
      let t := (t.modVlt fun v => { v with chkFailed := false }).enterStep 6
      let t := if i.entropyOk then t.used else (t.modVlt fun v => { v with entropy := 3 }).alarm 0x8004 .none
      let (t, r) := (t.enterStep 7).warmStep8 i
      match r with
      | some r => t.enterHeld 8 r
      | none => t.warmFinish i.step11Ok

/-- CHIP_RESET_RELEASE, event W: dg_rst_ready falls and the warm start runs. It waits for dg_clk_blk (R422, R456, R457). -/
def chipResetRelease (i : WarmInputs) (s : State) : State :=
  if s.glb.state = 1 ∧ s.pins.chipRst ∨ s.quiesced ∧ s.pins.rstReady then
    if s.clk.lost then s
    else
      let t := s.warmReset
      { t with
        glb := { t.glb with state := 1, step := 1 }
        lse := { t.lse with stepAt := t.clk.cyc, halted := false, steps := [] } }.warmTests i
  else s

/-! ### RELOAD (R410, R425) -/

/-- RELOAD in a HELD that a warm start entered: the NOR must hold the Lease in force, and the warm start goes on (R407, R423, DEDUCED, log 51). -/
def State.reloadWarm (s : State) (nor : Option (List Byte)) (sigOk : Bool) : State × Bool :=
  let (t, r) := (s.enterStep 8).warmNor nor sigOk
  match r with
  | some r => (t.enterHeld 8 r, false)
  | none =>
    let t := { t.assign t.lease t.lse.shape with glb := { (t.assign t.lease t.lse.shape).glb with state := 1 } }
    let t := t.warmFinish t.pins.memTrained
    (t, t.glb.state != 2)

/-- LSE_CMD RELOAD: in HELD, steps 8 and 9 run again over the NOR as it stands, whose signer the block finds in it (R406, R410, R425); CODE
0x5 when it is refused again (DEDUCED, log 51). -/
def lseReload (ap : Aperture) (nor : Option (List Byte)) (sigOk : Bool) (_signer : BitVec 384) (s : State) : State :=
  s.lseCmd ap fun a s =>
    if s.glb.state ≠ 2 then s.cmdEnd .lse a 0 2
    else
      let x := if s.lse.heldWarm then s.reloadWarm nor sigOk else s.readStart nor sigOk
      x.1.cmdEnd .lse a 0 (if x.2 then 0 else 5)

/-! ### The clock monitor (R456) -/

/-- CLOCK_MONITOR_FAULT: 0xA00C for every quadrant; after more than 32 ms without the clock every slice is flagged. -/
def clockMonitorFault (long : Bool) (s : State) : State :=
  let t := [0, 1, 2, 3].foldl State.quadFault s
  { t with clk := { t.clk with lost := true }, lse := { t.lse with flagged := t.lse.flagged || long } }

/-- CLOCK_RESTORED: dg_clk_blk is back within its range; a warm start that waits for it can begin. -/
def clockRestored (s : State) : State := { s with clk := { s.clk with lost := false } }

end Sys2Proof.Machine
end

