-- ==== Sys2Proof/Machine/Settle.lean ====
section
/-!
DEFINITION. Machine/Settle.lean: what a command leaves to the block's engines, done at its end: the resets of a partition step (R433), the
mover's reaction to results, BAR2 completions, tasks that waited for a TAG, orders whose work has ended, steps of a start that can go on.
Each part is the identity where nothing is due.
-/

namespace Sys2Proof.Machine

/-- Engine steps of a partition abandoned, a partition step having begun (R432). -/
def State.dropEngSteps (s : State) (p : Nat) : State :=
  (s.flt.eng.filter (·.part == p)).foldl (fun (s : State) e => (s.endEngStep e.unit).stepCmdEnd e.byCmd (unitNum e.unit)) s

/-- Step 2 of a partition step: channels aborted, faces and tasks reset, carts ended, staged values and locks lost with the entries of the
members, held egress dropped, sites flushed, requests discarded (R433, R236, R247). -/
def State.resetPart (s : State) (p : Nat) : State :=
  let t := s.dropEngSteps p
  let t := ((List.range 32).filter fun c => t.chanOwner c == p).foldl (fun (t : State) c => t.abortHalt c 0xA004) t
  let t := ((List.range 8).filter fun f => t.faceOwner f == p).foldl State.resetFace t
  let t := t.haltTasks p 0xA004
  let t := (t.own.site.filter fun (_, o) => o == p).foldl (fun (t : State) (k, _) => t.flushSite k) t
  let l := (t.cart.carts.filter (·.part == p)).map (·.ctx)
  let t := (l.foldl (fun (t : State) c => t.endCarts p c) t).dropEgress p
  let drop (r : Req) : Req := if r.op.part = p ∧ r.op.kind ≠ 4 then { r with discarded := true } else r
  let begun (x : PartStep) : PartStep := if x.part = p then { x with begun := true } else x
  let answer (e : HomeEntry) : HomeEntry := if e.part = p ∧ e.op.kind = 4 then { e with answered := true } else e
  let t := (t.cart.staged.filter fun m => m.part == p && m.phase != .done).foldl (fun (t : State) m => t.dropStaged m.key) t
  { t with
    req := { t.req with out := t.req.out.map drop }
    home := { t.home with entries := t.home.entries.map answer }
    flt := { t.flt with parts := t.flt.parts.map begun } }.pump

/-- The partition steps that have just been called for. -/
def State.settleParts (s : State) : State :=
  (s.flt.parts.filter fun x => !x.begun).foldl (fun (s : State) x => s.resetPart x.part) s

/-- Results that BAR2 accesses wait for. -/
def State.settleBar2 (s : State) : State :=
  s.req.done.foldl (fun (s : State) d => match d.eng with
    | .bar2 p => s.bar2Take p d
    | _ => s) s

/-- A task that waited for a TAG is READY again (BLOCK 7). -/
def State.settleTags (s : State) : State :=
  if s.wnd.tasks.any (fun (_, k) => k.state == .blocked && k.block == 7) && (s.freeTag).isSome then
    let go (k : Task) : Task := if k.state = .blocked ∧ k.block = 7 then { k with state := .ready, block := 0 } else k
    { s with wnd := { s.wnd with tasks := s.wnd.tasks.map fun ((n, k) : Nat × Task) => (n, go k) } }
  else s

/-- A host link whose cluster is offline is down (R22, R363). -/
def State.settleHost (s : State) : State := if (s.clus.getD 112 {}).offline ∧ s.hst.up then surpriseLinkDown s else s

/-- A decoded line waits at a shaft for room in its site's response buffer, which is there again (R172). -/
def State.mayOffer (s : State) (k : Nat) (t : Track) : Bool :=
  t.raw.isSome && t.old.isNone && t.stamp.isNone && t.pads && !(s.shaft k).corrWait.contains t.tag && !s.lineStays t

/-- Lines held for a response buffer are delivered (R172). -/
def State.settleLines (s : State) : State :=
  s.shafts.foldl (fun (s : State) (k, _) => ((s.shaft k).track.filter (s.mayOffer k)).foldl (fun (s : State) t => match t.raw with
    | some x => s.offerLine k { t with raw := none } (heldLine x)
    | none => s) s) s

/-- The flit of every site is completed (R160). -/
def State.settleFlits (s : State) : State := s.sio.foldl (fun (s : State) (t, _) => s.fillFlit t) s

/-- The entries of lead roles that became free are passed on (R239). -/
def State.settleFreed (s : State) : State :=
  s.home.freed.foldl (fun (s : State) (q, p) => s.passEntry q p) { s with home := { s.home with freed := [] } }

/-- A cart whose last vote has come goes on (R246). -/
def Cart.due (c : Cart) : Bool := c.phase == .voting && c.members.all fun m => m.vote != 0

/-- The start can go on from step 11 or step 13. -/
def State.startDue (s : State) : Bool :=
  !s.lse.halted && ((s.glb.state == 0 && s.glb.step == 11 && s.pins.memTrained) || ((s.glb.state == 0 || s.glb.state == 1) && s.glb.step == 13))

/-- Nothing is due: no LOAD is in progress, no wait of the front end or BAR2 access stalls, no lead role's entry has become free, no cart has its last vote, no flit is half full, no line waits for a response
buffer that has room, no replay has lost its suspect, the host link stands with its cluster, every partition step has begun, the mover has nothing to take up, no result
waits for BAR2, no task for a TAG that is there, no order's work has just ended, no start can go on. -/
def State.calm (s : State) : Bool :=
  s.wnd.loads.isEmpty && s.hst.fwaits.isEmpty && s.hst.bwaits.isEmpty && s.home.freed.isEmpty && s.cart.carts.all (fun c => !c.due) && s.sio.all (fun (_, io) => io.flit == 0) && s.shafts.all (fun (k, x) => x.track.all fun t => !s.mayOffer k t)
    && s.flt.eng.all (fun e => (e.gone s).isNone) && !((s.clus.getD 112 {}).offline && s.hst.up) && s.flt.parts.all (·.begun) && !s.movDue
    && s.req.done.all (fun d => match d.eng with
      | .bar2 _ => false
      | _ => true)
    && !(s.wnd.tasks.any (fun (_, k) => k.state == .blocked && k.block == 7) && s.freeTag.isSome)
    && s.lse.orders.all (fun o => o.state != 2 || s.orderBusy o) && !s.startDue

/-- All that is due at the end of a command. -/
def State.settle (s : State) : State :=
  if s.calm then s
  else
    let t := s.settleHost.settleParts.settleReplays
    let t := if t.movDue then t.movSettle else t
    (t.settleParts.settleBar2.settleTags.settleLoads.settleFront.settleBar2Waits.ordersSettle).startAdvance.settleLines.cartsAdvance.settleFreed.settleFlits

end Sys2Proof.Machine
end

