-- ==== Sys2Proof/Machine/Flags.lean ====
section
/-!
DEFINITION. Machine/Flags.lean: interrupt status as it is read: pending and enabled bits of each instance, the summary GLB_IRQ_STATUS (R69,
Table 3.19) and the partition function's interrupt.
-/

namespace Sys2Proof.Machine

/-- An instance has a pending bit that is also enabled. -/
def Inst.pends (i : Inst) : Bool := i.irqStat &&& i.irqEn != 0

/-- The instances of some blocks at one aperture have a pending and enabled bit. -/
def State.pends (s : State) (a : Nat) (l : List Blk) : Bool := l.any fun b => (s.inst b a).pends

/-- FLT: fault log, contexts, host side, vault (R370, R401, R438). -/
def State.sumFlt (s : State) : Bool := s.pends 0 [.flt, .ctx, .hst, .vlt]

/-- MOV; an undeliverable record interrupts whatever the enable is (Table 12.18). -/
def State.sumMov (s : State) : Bool := s.pends 0 [.mov] || (s.inst .mov 0).irqStat.getLsbD 3

/-- TAL: tallies, Winder and faces (R285, R311). -/
def State.sumTal (s : State) : Bool := s.pends 0 [.tal, .wnd, .face]

/-- TS: sites (R187). -/
def State.sumTs (s : State) : Bool := s.sio.any fun (_, x) => x.irqStat &&& x.irqEn != 0

/-- SHF: shafts, seams and the Inner Store (R102, R137, R156). -/
def State.sumShf (s : State) : Bool :=
  s.pends 0 [.seam] || s.shafts.any (fun (_, x) => x.irqStat &&& x.irqEn != 0) || (s.ins.irqStat &&& s.ins.irqEn != 0)

/-- GLB_IRQ_STATUS (Table 3.19). -/
def State.glbIrq (s : State) : Word :=
  let b (x : Bool) (k : Nat) : Word := if x then 1 <<< k else 0
  b s.sumFlt 0 ||| b s.sumMov 1 ||| b s.sumTal 2 ||| b (s.pends 0 [.lse]) 3 ||| b (s.pends 0 [.yf]) 4 ||| b s.sumTs 5 ||| b s.sumShf 6
    ||| b (s.pends 0 [.obs]) 7 ||| b (s.glb.errInfo.getLsbD 0) 8

/-- The operator function's interrupt (R69), held while PF0 is in D3hot (R360). -/
def State.operatorIrq (s : State) : Bool := s.glbIrq &&& s.glb.irqEn != 0 && s.hst.power.getD 0 0 == 0

/-- The interrupt of a partition function: any pending and enabled bit of its instances; its message waits while the function is not in D0
(R359). -/
def State.partIrq (s : State) (p : Nat) : Bool :=
  s.pends p [.seam, .face, .tal, .wnd, .mov, .ctx, .hst, .flt, .obs] && s.hst.power.getD (p * 32) 0 == 0

end Sys2Proof.Machine
end

