-- ==== Sys2Proof/Machine/RegRead.lean ====
section
/-!
DEFINITION. Machine/RegRead.lean: what a register reads as: the map of the apertures (R65 to R67, Tables 3.10 and 3.11) and the register tables
of every block. `a` is the instance of an aperture, `v` the partition whose resources it shows, 0 for all.
-/

namespace Sys2Proof.Machine

/-! ### Words -/

/-- A register word from its fields: low bit, width, value. -/
def word (l : List (Nat × Nat × Nat)) : Word :=
  BitVec.ofNat 32 (l.foldl (fun n (x : Nat × Nat × Nat) => n + x.2.2 % 2 ^ x.2.1 * 2 ^ x.1) 0)

/-- The index of an element of a register array. -/
def slotAt (o base stride n : Nat) : Option Nat :=
  if base ≤ o ∧ (o - base) % stride = 0 ∧ (o - base) / stride < n then some ((o - base) / stride) else none

/-- A register of a partition in an array of six, seen from a view. -/
def partAt (v o base : Nat) : Option Nat :=
  (slotAt o base 4 6).bind fun i => if v = 0 ∨ v = i + 1 then some (i + 1) else none

/-- The view shows what partition p owns. -/
def shows (v p : Nat) : Bool := v == 0 || v == p

/-- A command status word: its unit field and its CODE (Tables 4.12, 7.15, 10.13, 11.11, 11.19, 12.12, 13.10, 14.15 and their like). -/
def Inst.status (i : Inst) (unitLo unitW codeLo : Nat) : Word :=
  word [(unitLo, unitW, i.unit), (codeLo, 4, i.code), (1, 1, i.done.toNat), (0, 1, i.busy.toNat)]

/-- IRQ_STATUS and IRQ_ENABLE at 0x80 and 0x84. -/
def irqRegs (o : Nat) (st en : Word) : Option Word := if o = 0x80 then some st else if o = 0x84 then some en else none

/-- Registers that hold what was written. -/
def argRegs (i : Inst) (o lo hi : Nat) : Option Word := if lo ≤ o ∧ o ≤ hi then some (i.regs.getD o 0) else none

/-- A single register. -/
def reg (o base : Nat) (x : Word) : Option Word := if o = base then some x else none

/-- The first that is there, else zero: a reserved location reads zero (R42). -/
def pick (l : List (Option Word)) : Word := (l.findSome? id).getD 0

/-! ### Places -/

/-- The register blocks of the apertures. -/
inductive Place where
  | glb | glbPart | lse | shf (s : Nat) | seam | shfAll | yf | ts (t : Nat) | face | tal | wnd | mov | vlt | chk | pke | lcs | obs | mbx | upd
  | flt | ctx | hst | ins | aliasWin | doorbell | none
  deriving DecidableEq, Repr

/-- The block at a sub-block of the operator layout (Table 3.10). -/
def opPlace (n : Nat) : Place :=
  if n = 0 then .glb
  else if n = 0x10 then .lse
  else if 0x20 ≤ n ∧ n < 0x2C then .shf (n - 0x20)
  else if n = 0x2C then .seam
  else if n = 0x2D then .shfAll
  else if n = 0x30 then .yf
  else if 0x40 ≤ n ∧ n < 0x48 then .ts (n - 0x40)
  else if n = 0x50 then .face
  else if n = 0x60 then .tal
  else if n = 0x70 then .wnd
  else if n = 0x80 then .mov
  else if n = 0x90 then .vlt
  else if n = 0x91 then .chk
  else if n = 0x92 then .pke
  else if n = 0x93 then .lcs
  else if n = 0xA0 then .obs
  else if n = 0xB0 then .mbx
  else if n = 0xC0 then .upd
  else if n = 0xC1 then .flt
  else if n = 0xC2 then .ctx
  else if n = 0xC3 then .hst
  else if n = 0xC4 then .ins
  else if 0x200 ≤ n ∧ n < 0x400 then .aliasWin
  else .none

/-- The block at a sub-block of a partition aperture (Table 3.11). -/
def partPlace (n : Nat) : Place :=
  match n with
  | 0 => .glbPart | 1 => .mbx | 2 => .tal | 3 => .mov | 4 => .ctx | 5 => .hst | 6 => .flt | 7 => .seam | 8 => .wnd | 9 => .face | 10 => .obs
  | _ => .none

/-- The place of an offset in an aperture; the debug port has no aliased-bit window (R58). -/
def placeOf (ap : Aperture) (off : Nat) : Place :=
  match ap with
  | .part _ => partPlace (off / 65536)
  | .vf _ _ => if off < 128 then .doorbell else .none
  | .debug => if opPlace (off / 65536) = .aliasWin then .none else opPlace (off / 65536)
  | _ => opPlace (off / 65536)

/-- The view of an aperture. -/
def viewOf : Aperture → Nat
  | .part p => p
  | _ => 0

/-- Places that respond before RUN and in HELD (R68). -/
def Place.early : Place → Bool
  | .glb | .lse | .flt | .obs | .mbx | .lcs | .aliasWin => true
  | _ => false

/-! ### GLB_, UPD_ (03) -/

/-- GLB_ID (Table 3.13). -/
def glbId : Word := 0x5A7D63B0

/-- GLB_STATE (Table 3.15). -/
def State.glbState (s : State) : Word := word [(16, 8, s.glb.step), (0, 4, s.glb.state)]

/-- GLB_ registers of the operator layout (Table 3.12). -/
def State.readGlb (s : State) (o : Nat) : Word := pick [
  reg o 0x00 glbId, reg o 0x10 (word [(0, 1, s.glb.compat.toNat)]), reg o 0x20 s.glbState
  , reg o 0x24 (word [(8, 6, s.glb.conf.toNat), (0, 6, s.glb.present.toNat)])
  , reg o 0x30 s.glb.errAddr, reg o 0x34 s.glb.errInfo, reg o 0x38 s.glb.errCount, reg o 0x3C s.glb.dwFail, reg o 0x40 s.glb.denied
  , reg o 0x100 s.glbIrq, reg o 0x104 s.glb.irqEn, reg o 0x110 s.glb.scratch]

/-- GLB_ registers of a partition aperture (Tables 3.20 and 3.21). -/
def State.readGlbPart (s : State) (p o : Nat) : Word := pick [
  reg o 0x00 glbId, reg o 0x20 s.glbState
  , reg o 0x28 (if s.defined p then word [(3, 1, (s.confidential p).toNat), (0, 3, p)] else 0)]

/-- UPD_ registers (Tables 3.7 and 3.8). -/
def State.readUpd (s : State) (o : Nat) : Word := pick [
  reg o 0x04 (word [(0, 1, (!s.glb.buf.isEmpty).toNat)]), reg o 0x08 s.glb.updCount
  , reg o 0x40 (word [(12, 4, s.glb.outWidth.toNat), (1, 1, s.glb.fwdOut.toNat), (0, 1, s.glb.extEn.toNat)])]

/-! ### LSE_ (15, Tables 15.9 to 15.13) -/

/-- The port towards the parent of the time tree, 31 when none. -/
def State.parentPort (s : State) : Nat :=
  match s.timeParent with
  | none => 31
  | some n => ((s.fab.ports.find? fun (_, x) => x.peer == n && x.state == .up).map (·.1)).getD 31

/-- OFFSET: the last offset to the parent, saturating. -/
def State.offsetReg (s : State) : Nat := (BitVec.ofInt 16 (max (-32768) (min 32767 s.clk.target))).toNat

/-- LSE_ registers. -/
def State.readLse (s : State) (a o : Nat) : Word :=
  let i := s.inst .lse a
  pick [
    reg o 0x00 (word [(31, 1, s.lse.lease.isSome.toNat), (30, 1, s.lse.signed.toNat), (29, 1, (s.fab.compat != 0 && !s.fab.compatOff).toNat)
      , (28, 1, s.lse.full.toNat), (8, 8, s.lse.node), (0, 8, s.lse.shape)])
    , reg o 0x04 (word [(16, 16, s.lse.code), (8, 8, s.lse.section_), (0, 8, s.lse.index)])
    , reg o 0x08 (word [(0, 24, s.lse.offset)]), reg o 0x0C s.lease.digestEpoch
    , reg o 0x14 (i.status 0 0 4), argRegs i o 0x18 0x1C
    , reg o 0x20 (word [(31, 1, s.clk.valid.toNat), (30, 1, (s.fab.self && s.inDomain).toNat), (25, 5, s.parentPort), (0, 16, s.offsetReg)])
    , reg o 0x24 (word [(16, 8, s.lse.late.toNat), (0, 9, (s.lse.orders.filter fun x => x.state == 1).length)])
    , irqRegs o i.irqStat i.irqEn
    , (slotAt o 0x100 4 15).map fun k => BitVec.ofNat 32 (s.lse.steps.getD (k + 1) 0)]

/-! ### SEAM_ and SHF_ (04, 05) -/

/-- Whole seconds left in a seam's failure window (Table 4.15). -/
def State.windowLeft (s : State) (e : Seam) : Nat :=
  match e.winEnd with
  | some t => min 3600 ((t.toNat - s.clk.shift.toNat) / 1000000000)
  | none => 0

/-- SEAM_DRIFT_s, SEAM_DRIFT_START_s and SEAM_DRIFT_DONE_s (Table 4.14). -/
def State.readDrift (s : State) (k which : Nat) : Word :=
  let sh := s.shaft k
  match which, sh.run with
  | 0, some w => word [(31, 1, 1), (30, 1, w.fill.toNat), (28, 2, w.cls), (8, 8, sh.queue.length), (0, 8, w.seam)]
  | 0, none => word [(8, 8, sh.queue.length)]
  | 1, some w => word [(0, 24, w.start)]
  | _, some w => word [(0, 24, w.done)]
  | _, none => 0

/-- SEAM_ registers (Tables 4.9 to 4.17). -/
def State.readSeam (s : State) (a v o : Nat) : Word :=
  let i := s.inst .seam a
  let drift (base which : Nat) : Option Word :=
    (slotAt o base 4 12).bind fun k => if shows v (s.stackOwner k) then some (s.readDrift k which) else none
  let own (base : Nat) (f : Seam → Word) : Option Word :=
    (slotAt o base 4 256).bind fun n => if shows v (s.seam n).owner then some (f (s.seam n)) else none
  pick [
    reg o 0x04 (i.status 8 8 4), argRegs i o 0x10 0x1C
    , (partAt v o 0x40).map fun p => word [(0, 11, s.budget.getD p 16)]
    , irqRegs o i.irqStat i.irqEn
    , drift 0x100 0, drift 0x140 1, drift 0x180 2
    , own 0x400 fun e => word [(16, 12, s.windowLeft e), (0, 11, e.fails.toNat)]
    , own 0x800 fun e => word [(11, 1, e.frozen.toNat), (10, 1, e.busy.toNat), (7, 3, e.owner), (5, 2, e.kind.num), (2, 3, e.state.num)]]

/-- SHF_CLUSTER_c (Table 5.14). -/
def Cluster.word (c : Cluster) : Word :=
  Sys2Proof.Machine.word [
    (30, 2, if c.offline then 2 else if c.unchecked then 1 else 0), (29, 1, c.spareOut.toNat), (28, 1, c.laneOut.toNat)
    , (20, 4, if c.laneOut then c.retired else 0), (0, 4, c.sample)]

/-- SHF_ registers of a shaft (Tables 5.8 to 5.15). -/
def State.readShf (s : State) (k o : Nat) : Word :=
  let sh := s.shaft k
  let own := s.stackOwner k
  pick [
    reg o 0x00 (if own = 0 then 0 else word [(31, 1, 1), (30, 1, sh.narrow.toNat), (27, 3, own), (16, 5, sh.reserve)])
    , reg o 0x04 (word [(16, 12, max sh.high sh.track.length), (0, 12, sh.track.length)])
    , reg o 0x10 sh.corr, reg o 0x14 sh.uncorr, reg o 0x18 sh.macFail, reg o 0x1C sh.padStall, reg o 0x20 sh.ccMiss
    , reg o 0x30 (word [(6, 26, sh.cap.addr)])
    , reg o 0x34 (word [(31, 1, sh.cap.valid.toNat), (16, 12, sh.cap.code.toNat), (12, 4, sh.cap.code.toNat / 4096), (0, 12, sh.cap.addr / 2 ^ 26)])
    , (slotAt o 0x40 4 4).map fun c => (s.clus.getD (4 * k + c) {}).word
    , irqRegs o sh.irqStat sh.irqEn]

/-- The SHF_ registers common to all shafts (Tables 5.9 and 5.16). -/
def State.readShfAll (s : State) (o : Nat) : Word :=
  let hz (p : Nat) : Word :=
    let h := s.horizon p
    word [(31, 1, (!h.held.isEmpty).toNat), (16, 12, min 0xFFF h.held.length), (0, 16, min 0xFFFF h.maxLag)]
  pick [(partAt 0 o 0x00).map hz, (partAt 0 o 0x40).map fun p => (s.horizon p).dropped]

/-! ### INS_ (06) -/

/-- STATE_q (Table 6.6). -/
def SliceState.num : SliceState → Nat
  | .uninit => 0 | .ready => 1 | .gated => 2 | .failed => 3

/-- INS_ registers (Tables 6.5 to 6.13). -/
def State.readIns (s : State) (o : Nat) : Word :=
  let c := s.ins.cap
  pick [
    reg o 0x00 (word ((List.range 4).map fun q => (2 * q, 2, (s.slice q).state.num)))
    , (slotAt o 0x10 4 4).map fun q => (s.slice q).corr
    , (slotAt o 0x20 4 4).map fun q => (s.slice q).uncorr
    , (slotAt o 0x30 4 4).map fun q => word [(16, 16, (s.slice q).passes.toNat), (0, 10, (s.slice q).pos.toNat)]
    , (slotAt o 0x40 4 4).map fun q =>
        let e := s.slice q
        word [(24, 8, min 255 e.fused), (16, 8, min 255 e.soft), (8, 8, min 255 e.queued.length), (0, 8, e.spares)]
    , reg o 0x50 (word [(0, 28, c.addr)])
    , reg o 0x54 (word [(31, 1, c.valid.toNat), (8, 2, c.code.toNat), (4, 3, c.area), (0, 1, c.uncorr.toNat)])
    , (slotAt o 0x60 4 12).map fun k =>
        let n := (s.shaft k).lost.length
        word [(7, 1, (decide (64 ≤ n)).toNat), (0, 7, n)]
    , reg o 0x90 s.ins.irqStat, reg o 0x94 s.ins.irqEn
    , (slotAt o 0x100 4 84).map fun i => word [(16, 10, (s.ins.area.getD i (0, 0)).1), (0, 10, (s.ins.area.getD i (0, 0)).2)]]

/-! ### TS_ (07) -/

/-- TS_ registers of a site (Tables 7.12 to 7.20). -/
def State.readTs (s : State) (t o : Nat) : Word :=
  let x := s.site t
  let io := s.sIo t
  pick [
    reg o 0x00 (word [(28, 4, x.state.num), (25, 3, s.siteOwner t), (16, 8, x.cause), (8, 4, x.desc)])
    , reg o 0x08 (word [(4, 4, io.cmdCode), (1, 1, io.cmdDone.toNat), (0, 1, io.cmdBusy.toNat)])
    , reg o 0x10 (x.maker ++ x.part), reg o 0x14 (x.rev ++ x.svn), reg o 0x18 (x.txEp.setWidth 16 ++ x.rxEp.setWidth 16)
    , reg o 0x20 io.macFail, reg o 0x24 io.replay, reg o 0x28 io.replaySent, reg o 0x2C io.stale, reg o 0x30 io.resync
    , reg o 0x34 (word [(20, 12, io.rspHeld), (10, 10, io.dataOut), (0, 10, io.reqOut)])
    , reg o 0x38 (word [(16, 13, max io.high io.ops.length), (0, 13, io.ops.length)])
    , irqRegs o io.irqStat io.irqEn]

/-! ### YF_ (08, 09) -/

/-- YF_ROUTE_n (Table 8.17). -/
def Route.word (r : Route) : Word :=
  Sys2Proof.Machine.word [
    (31, 1, r.valid.toNat), (30, 1, r.direct.toNat), (25, 5, r.firstR), (20, 5, r.altR), (15, 5, r.firstC), (10, 5, r.altC)
    , (9, 1, r.rfail.toNat), (8, 1, r.cfail.toNat)]

/-- YF_PORT_p (Table 8.18). -/
def Port.word (x : Port) : Word :=
  Sys2Proof.Machine.word [
    (29, 3, x.state.num), (26, 3, x.reason), (25, 1, x.slotted.toNat), (22, 3, if x.slotted then 0 else x.owner), (8, 8, x.peer), (0, 5, x.peerPort)]

/-- YF_NODE_n (Table 8.19). -/
def NodeEnt.word (x : NodeEnt) : Word :=
  Sys2Proof.Machine.word [
    (31, 1, x.listed.toNat), (30, 1, x.member.toNat), (29, 1, x.dead.toNat), (27, 2, x.timeouts), (25, 2, x.cause), (8, 6, x.parts.toNat)
    , (0, 8, x.incarn.toNat)]

/-- Carts open at this node's sites: those whose CART_END has not come (R244, Table 9.16). -/
def State.openCarts (s : State) : Nat := (s.cart.carts.filter fun c => c.phase == .opened).length

/-- The home and cart registers (Tables 9.12 to 9.17). -/
def State.readHome (s : State) (o : Nat) : Option Word :=
  let inUse (q : Nat) : Nat := s.inUse q fun _ => true
  [ (slotAt o 0x1000 4 4).map fun q => word [(16, 12, max (s.home.high.getD q 0) (inUse q)), (0, 12, inUse q)]
    , (slotAt o 0x1010 4 4).map fun q =>
        let l := s.home.tickets.filter (·.q == q)
        word [(16, 7, (l.filter (·.held.isSome)).length), (0, 12, l.length)]
    , (slotAt o 0x1020 4 4).map fun q => s.home.nacks.getD q 0
    , (slotAt o 0x1100 4 24).map fun i =>
        let x := s.home.quota.getD (i % 4 * 8 + (i / 4 + 1)) (0, 0, 0)
        word [(16, 12, x.2.1), (0, 12, x.1)]
    , reg o 0x1200 (word [(16, 11, (s.cart.staged.filter (·.lead)).length), (0, 10, s.openCarts)])
    , reg o 0x1204 s.cart.commit, reg o 0x1208 s.cart.abort, reg o 0x120C s.cart.indet
    , reg o 0x1210 (word [
        (8, 6, (s.shapes.filter (·.carts)).foldl (fun n x => n + 2 ^ (x.part - 1)) 0), (0, 1, s.lease.policies.deadLose.toNat)])
  ].findSome? id

/-- YF_ registers (Tables 8.13 to 8.20). -/
def State.readYf (s : State) (o : Nat) : Word :=
  let i := s.inst .yf 0
  let t := s.lease.topo
  let me := s.nodeRec s.lse.node
  pick [
    reg o 0x00 (word [(24, 8, s.lse.node), (16, 8, s.fab.foreman), (11, 5, me.row), (6, 5, me.col), (3, 3, s.fab.dstate), (1, 2, s.fab.frank)
      , (0, 1, s.fab.self.toNat)])
    , reg o 0x04 s.fab.gen
    , reg o 0x08 (word [(24, 8, t.listed), (16, 8, t.minMembers), (14, 2, t.topo), (7, 7, t.deadBound)])
    , reg o 0x0C (word [(27, 5, if t.topo = 0 then 1 else t.rows), (22, 5, if t.topo = 0 then t.listed else t.cols), (0, 10, t.formWindow)])
    , irqRegs o i.irqStat i.irqEn
    , (slotAt o 0x100 4 24).map fun p => (s.port p).word
    , (slotAt o 0x200 16 24).map fun p => (s.pIo p).macFail
    , (slotAt o 0x204 16 24).map fun p => (s.pIo p).cwLost
    , (slotAt o 0x208 16 24).map fun p => (s.pIo p).replay
    , (slotAt o 0x20C 16 24).map fun p => (s.pIo p).drop
    , (slotAt o 0x400 4 256).map fun n => (s.route n).word
    , (slotAt o 0x800 4 256).map fun n => (s.node n).word
    , s.readHome o]

/-! ### FACE_ (10) -/

/-- The registers of a target (Tables 10.19 to 10.21). -/
def Target.reg (t : Target) (k : Nat) : Word :=
  match k with
  | 0 => BitVec.ofNat 32 t.win
  | 1 => word [(30, 2, t.op), (26, 4, t.fmt), (24, 2, t.share), (15, 6, t.win / 2 ^ 32), (0, 15, t.units)]
  | 2 => word [(0, 24, t.bufOff)]
  | 3 => word [(0, 24, t.expected)]
  | 4 => word [(0, 24, t.arrived)]
  | 5 => word [(29, 3, t.state.num), (21, 8, t.flags.toNat), (0, 16, t.tally)]
  | _ => 0

/-- FACE_ registers (Tables 10.13 to 10.22). -/
def State.readFace (s : State) (a v o : Nat) : Word :=
  let i := s.inst .face a
  let unit (f : Nat) : Word :=
    let own := s.faceOwner f
    word [(29, 3, own), (27, 2, if own = 0 then 0 else if s.inEngStep (.face f) then 2 else 1)
      , (16, 7, (s.face.targets.filter fun (n, t) => n / 64 == f && t.state != .empty).length), (0, 13, (s.face.cache.getD f []).length)]
  let mine (f : Nat) (x : Word) : Option Word := if shows v (s.faceOwner f) then some x else none
  pick [
    reg o 0x04 (i.status 7 9 3), argRegs i o 0x10 0x1C
    , (slotAt o 0x40 4 8).bind fun f => mine f (unit f)
    , (slotAt o 0x60 4 8).bind fun f => mine f (s.face.applied.getD f 0)
    , irqRegs o i.irqStat i.irqEn
    , (slotAt o 0x1000 4 4096).bind fun k => mine (k / 8 / 64) ((s.target (k / 8)).reg (k % 8))]

/-! ### TAL_ and WND_ (11) -/

/-- TAL_ registers (Tables 11.9 to 11.16). -/
def State.readTal (s : State) (a v o : Nat) : Word :=
  let i := s.inst .tal a
  let waits (q : Nat) : Word :=
    let here (g : Registration) : Bool := s.tallyQuad g.part == q && shows v g.part
    let local_ (g : Registration) : Bool := g.src == s.lse.node
    word [(16, 10, (s.tal.regs.filter fun g => here g && !local_ g).length), (0, 11, (s.tal.regs.filter fun g => here g && local_ g).length)]
  pick [
    reg o 0x04 (i.status 0 0 4), argRegs i o 0x10 0x1C, reg o 0x20 i.result
    , (partAt v o 0x40).map fun p => BitVec.ofNat 32 (s.shapeOf p).talBase
    , (partAt v o 0x60).map fun p => BitVec.ofNat 32 (s.shapeOf p).talCount
    , irqRegs o i.irqStat i.irqEn
    , (partAt v o 0xA0).map fun p => word [(31, 1, (s.shapeOf p).stepValid.toNat), (0, 16, (s.shapeOf p).stepTally)]
    , (partAt v o 0xC0).map fun p => s.tal.stale.getD p 0
    , (slotAt o 0x100 4 4).map waits]

/-- The registers of a task (Tables 11.21 and 11.22). -/
def State.taskReg (s : State) (t k : Nat) : Word :=
  let x := s.task t
  match k with
  | 0 => word [(29, 3, x.state.num), (26, 3, s.taskOwner t), (20, 6, x.step), (17, 3, if x.state = .blocked then x.block else 0), (0, 16, x.fault)]
  | 1 => x.canary ++ x.ctx
  | 2 => x.iter.setWidth 32
  | _ => x.loop

/-- WND_ registers (Tables 11.15 to 11.23). -/
def State.readWnd (s : State) (a v o : Nat) : Word :=
  let i := s.inst .wnd a
  pick [
    reg o 0x04 (i.status 8 8 4), argRegs i o 0x10 0x1C
    , (partAt v o 0x40).map fun p => word [(16, 9, (s.shapeOf p).wndCount), (0, 8, (s.shapeOf p).wndBase)]
    , irqRegs o i.irqStat i.irqEn
    , (slotAt o 0x1000 4 1024).bind fun k => if shows v (s.taskOwner (k / 4)) then some (s.taskReg (k / 4) (k % 4)) else none]

/-! ### MOV_ (12) -/

/-- The head descriptor is registered on a tally. -/
def Chan.waiting (k : Chan) : Bool := match k.act with
  | some a => a.phase == .waiting && k.state == .run
  | none => false

/-- The channel runs data. -/
def Chan.running (k : Chan) : Bool := match k.act with
  | some a => a.phase == .run && k.state == .run
  | none => false

/-- A bulk descriptor holds its position behind an urgent one of its partition in its quadrant (R331). -/
def State.preempted (s : State) (c : Nat) : Bool :=
  !s.urgent c && (s.chan c).running && (List.range 8).any fun i =>
    let d := c / 8 * 8 + i
    s.urgent d && s.chanOwner d == s.chanOwner c && (s.chan d).running

/-- The registers of a channel (Tables 12.9 and 12.15 to 12.17). -/
def State.chanReg (s : State) (c k : Nat) : Word :=
  let x := s.chan c
  match k with
  | 0 => word [(29, 3, s.chanOwner c), (28, 1, (s.urgent c).toNat), (27, 1, x.space.toNat), (22, 5, x.fn), (18, 4, x.log2)]
  | 1 => word [(29, 3, x.state.num), (28, 1, x.waiting.toNat), (27, 1, (s.preempted c).toNat), (24, 3, (x.queue.length - 1) / 2)
      , (16, 8, x.ignored.toNat), (0, 16, x.fault)]
  | 2 => x.base.setWidth 32
  | 3 => x.base.extractLsb' 32 32
  | 4 => word [(0, 12, x.head)]
  | 5 => word [(0, 12, x.tail)]
  | 6 => word [(16, 12, s.refsOn (.queue c)), (0, 16, x.ctx.toNat)]
  | 7 => x.done
  | 8 => x.bytes
  | _ => 0

/-- MOV_SHARE_q: the cycles of each partition (Table 12.14). -/
def State.movShare (s : State) (q : Nat) : Word := word (allParts.map fun p => (5 * (p - 1), 5, (s.shapeOf p).movCycles.getD q 0))

/-- MOV_ registers. -/
def State.readMov (s : State) (a v o : Nat) : Word :=
  let i := s.inst .mov a
  pick [
    reg o 0x04 (i.status 11 5 4), argRegs i o 0x10 0x1C, reg o 0x20 i.result
    , (slotAt o 0x40 4 4).map s.movShare
    , irqRegs o i.irqStat i.irqEn
    , (slotAt o 0x1000 4 512).bind fun k => if shows v (s.chanOwner (k / 16)) then some (s.chanReg (k / 16) (k % 16)) else none]

/-! ### CTX_ and HST_ (13) -/

/-- The partition whose table an instance shows (R370): its own, or the one that CTX_SEL names. -/
def State.ctxPart (s : State) (a v : Nat) : Nat :=
  if v ≠ 0 then v
  else
    let p := ((s.arg .ctx a 0x10).extractLsb' 16 3).toNat
    if s.defined p then p else 0

/-- CTX_INFO (Table 13.11). -/
def CtxEntry.word (e : CtxEntry) : Word :=
  let st : Nat := match e.state with
    | .free => 0 | .active => 1 | .lost => 2 | .retiring => 3
  Sys2Proof.Machine.word [(30, 2, st), (26, 4, e.gen.toNat), (21, 5, e.fn), (0, 16, e.first.toNat)]

/-- Entries of a partition in a state. -/
def State.ctxCount (s : State) (p : Nat) (st : CtxState) : Nat := (s.ctx.tab.filter fun (k, e) => k / 4096 == p && e.state == st).length

/-- CTX_LOSS_HI (Table 13.12): zero outside a partition's own instance. -/
def State.lossHi (s : State) (v : Nat) : Word :=
  if v = 0 then 0
  else
    let tag : Nat := match s.ctx.loss.getD v [] with
      | x :: _ => x.1.toNat
      | [] => 0
    word [(31, 1, (!(s.ctx.loss.getD v []).isEmpty).toNat), (16, 15, (s.ctx.overflow.getD v 0).toNat), (0, 16, tag)]

/-- CTX_LOSS_LO (Table 13.12). -/
def State.lossLo (s : State) (v : Nat) : Word :=
  match s.ctx.loss.getD v [] with
  | x :: _ => if v = 0 then 0 else x.2.setWidth 32
  | [] => 0

/-- CTX_ registers (Tables 13.8 to 13.13, 13.20). -/
def State.readCtx (s : State) (a v o : Nat) : Word :=
  let i := s.inst .ctx a
  let p := s.ctxPart a v
  pick [
    reg o 0x04 (i.status 16 16 4), argRegs i o 0x10 0x10
    , reg o 0x14 (if p = 0 then 0 else (s.ctxAt p ((s.arg .ctx a 0x10).extractLsb' 0 12).toNat).word)
    , reg o 0x20 (s.lossHi v), reg o 0x24 (s.lossLo v)
    , (partAt v o 0x40).map fun p =>
        word [(16, 13, s.ctxCount p .lost), (13, 3, (s.ctx.stale.getD p 0).toNat), (0, 13, s.ctxCount p .active)]
    , irqRegs o i.irqStat i.irqEn
    , (slotAt o 0x100 4 17).map fun f => if p = 0 then 0 else (s.hst.func.getD (p * 32 + f) 0).setWidth 32]

/-- HST_ registers (Tables 13.14 to 13.19). -/
def State.readHst (s : State) (a v o : Nat) : Word :=
  let i := s.inst .hst a
  let secure (p : Nat) : Nat := ((s.streamsOf p).filter fun k => (s.stream k).secure).length
  let stream (k : Nat) : Option Word :=
    let x := s.stream k
    if x.valid && shows v x.owner then
      some (word [(31, 1, 1), (30, 1, x.secure.toNat), (27, 3, x.owner), (26, 1, x.kset), (0, 8, k)])
    else none
  pick [
    reg o 0x04 (i.status 12 12 4), argRegs i o 0x10 0x1C, argRegs i o 0x40 0x5C
    , reg o 0x60 (word [(31, 1, s.hst.up.toNat), (0, 16, s.hst.downs.toNat)])
    , irqRegs o i.irqStat i.irqEn
    , (partAt v o 0x100).map fun p => word [(30, 2, s.hst.power.getD (p * 32) 0), (28, 2, s.hst.pme.getD p 0)]
    , (partAt v o 0x120).map fun p => word [(30, 2, s.tdi p), (16, 4, min 15 (secure p)), (0, 16, (s.hst.cause.getD p 0).toNat)]
    , (partAt v o 0x140).map fun p => (s.ins.dirtyEn.getD p 0).setWidth 32
    , (partAt v o 0x160).map fun p => (s.shapeOf p).loggable &&& 0x1FFFF
    , (slotAt o 0x200 4 16).bind stream]

/-! ### VLT_, CHK_, PKE_, LCS_ (14) -/

/-- VLT_ registers (Tables 14.14 to 14.17). -/
def State.readVlt (s : State) (a o : Nat) : Word :=
  let i := s.inst .vlt a
  let res := reservedSlots s.lease s.lse.shape s.lse.node
  pick [
    reg o 0x04 (i.status 20 12 4), argRegs i o 0x10 0x14, argRegs i o 0x20 0x3C, argRegs i o 0x40 0x40
    , reg o 0x44 (s.slot ((s.arg .vlt a 0x40).extractLsb' 0 12).toNat).word
    , reg o 0x48 (word [(16, 13, res - s.reservedUsed), (0, 13, s.freeSlots res)])
    , reg o 0x4C (word [(30, 2, s.vlt.entropy), (0, 16, s.vlt.restarts.toNat)])
    , irqRegs o i.irqStat i.irqEn]

/-- CHK_STATUS (Table 14.18): a job that has begun and is not on the cores is suspended. -/
def State.chkStatus (s : State) : Word :=
  let begun (p : Nat) : Bool := match s.jobsAt p with
    | j :: _ => decide (j.left < j.total)
    | [] => false
  let on (p : Nat) : Bool := s.vlt.running == some p
  word ([(31, 1, s.vlt.chkFailed.toNat)]
    ++ (List.range 4).map (fun p => (20 + p, 1, (begun p && !on p).toNat))
    ++ (List.range 4).map (fun p => (16 + p, 1, (on p).toNat))
    ++ (List.range 4).map fun p => (4 * p, 4, min 15 ((s.jobsAt p).length - (if begun p || on p then 1 else 0))))

/-- PKE_STATUS (Table 14.18). -/
def State.pkeStatus (s : State) : Word :=
  let u : List PkUnit := [.kem, .dsa, .ecdsa, .ecdh]
  word ((u.map fun x => (31 - pkNum x, 1, (s.pkUnit x).busy.toNat)) ++ [(0, 12, (u.map fun x => (s.pkUnit x).queue.length).sum)])

/-- LCS_STATUS (Table 14.20). -/
def State.lcsStatus (s : State) : Word :=
  let f := s.fuse
  word [(28, 4, f.lifecycle), (24, 4, f.next), (18, 6, f.counter), (14, 4, (f.records.filter (·.valid)).length), (13, 1, f.tamper.toNat)
    , (12, 1, f.unsigned.toNat), (8, 4, (f.records.filter (·.used)).length)]

/-- CHK_ registers (Table 14.19). -/
def State.readChk (s : State) (o : Nat) : Word := pick [reg o 0 s.chkStatus, reg o 4 s.vlt.chkJobs, reg o 8 s.vlt.mismatch]

/-- PKE_ registers (Table 14.19). -/
def State.readPke (s : State) (o : Nat) : Word := pick [reg o 0 s.pkeStatus, reg o 4 s.vlt.pkeOps, reg o 8 s.vlt.pkeRestart]

/-- LCS_ registers (Table 14.19). -/
def State.readLcs (s : State) (a o : Nat) : Word :=
  let i := s.inst .lcs a
  pick [reg o 0 s.lcsStatus, argRegs i o 4 4, reg o 8 (i.status 0 0 4), argRegs i o 0x10 0x18]

/-! ### FLT_ (16) -/

/-- FLT_LOG.NEXT: of a partition instance, one above its latest record (Table 16.13). -/
def State.logNext (s : State) (v : Nat) : Nat :=
  if v = 0 then s.flt.next.toNat
  else match s.flt.log.findIdx? fun r => (r.extractLsb' 49 3).toNat == v with
    | some k => (s.flt.next - BitVec.ofNat 24 k).toNat
    | none => 0

/-- FLT_STEPS_p (Table 16.15). -/
def State.fltSteps (s : State) (p : Nat) : Word :=
  let c := s.flt.steps.getD p {}
  let st : Nat := if s.inPartStep p then 2 else if s.flt.eng.any (·.part == p) then 1 else 0
  word [(16, 16, c.engine.toNat), (8, 8, c.part.toNat), (0, 2, st)]

/-- FLT_CANARY (Table 16.14). -/
def State.fltCanary (s : State) : Word := word [(16, 16, s.flt.canWait), (9, 7, s.flt.canEngine), (6, 3, s.flt.canReplay), (0, 6, s.flt.canLamp)]

/-- FLT_ registers (Tables 16.10 to 16.16). -/
def State.readFlt (s : State) (a v o : Nat) : Word :=
  let i := s.inst .flt a
  pick [
    reg o 0x04 (i.status 0 0 4), reg o 0x10 (word [(0, 24, s.logNext v)]), reg o 0x14 s.flt.lost, reg o 0x20 s.fltCanary
    , reg o 0x28 (if v = 0 then s.flt.chipCount ++ s.flt.chipCause else 0)
    , (partAt v o 0x40).map s.fltSteps
    , irqRegs o i.irqStat i.irqEn]

/-! ### OBS_ (17) -/

/-- A snapshot selection that an aperture may read: its word k, zero before READY, or none when it is not its own (R445, R446). -/
def State.snapWord (s : State) (a v k : Nat) : Option Word :=
  let sel := s.arg .obs a 0x44
  let n := (sel.extractLsb' 0 16).toNat
  if sel.getLsbD 31 then
    if v ≠ 0 ∧ !s.ownsTally v n then none else some (if s.obs.ready ∧ k < 2 then (s.obs.image.getD n 0).extractLsb' (32 * k) 32 else 0)
  else if !s.obs.ready then some 0
  else match s.obs.snap[n]? with
    | some r => if shows v (r.extractLsb' 119 3).toNat then some (r.extractLsb' (32 * k) 32) else none
    | none => some 0

/-- OBS_ registers (Tables 17.6 to 17.12). -/
def State.readObs (s : State) (a v o : Nat) : Word :=
  let i := s.inst .obs a
  let x := s.obs
  pick [
    reg o 0x04 (i.status 0 0 4), argRegs i o 0x10 0x14
    , reg o 0x20 (if v = 0 then word [(1, 1, x.strobe.toNat), (0, 1, x.accept.toNat)] else 0)
    , reg o 0x30 (word [(31, 1, x.frozen.toNat), (30, 1, x.ready.toNat), (29, 1, x.overflow.toNat), (28, 1, x.late.toNat), (25, 3, x.source)
      , (24, 1, x.tvalid.toNat), (16, 8, x.origin), (0, 16, x.id)])
    , reg o 0x34 (x.time.setWidth 32), reg o 0x38 (x.time.extractLsb' 32 32), reg o 0x3C x.missed, reg o 0x40 (BitVec.ofNat 32 x.snap.length)
    , argRegs i o 0x44 0x44
    , (slotAt o 0x50 4 4).map fun k => (s.snapWord a v k).getD 0
    , irqRegs o i.irqStat i.irqEn
    , (slotAt o 0x100 4 19).map fun k => (x.data.getD a []).getD k 0]

/-! ### MBX_ (03) -/

/-- The mailbox instance of an aperture (R53). -/
def State.mbxAt (s : State) (a : Nat) : Mbx := s.mbx.getD a {}

/-- MBX_ registers (Tables 3.3 to 3.5). -/
def State.readMbx (s : State) (a o : Nat) : Word :=
  let m := s.mbxAt a
  pick [
    reg o 0x00 m.sel
    , reg o 0x04 (word [(16, 4, m.words), (8, 4, m.err), (3, 1, m.fail.toNat), (2, 1, m.done.toNat), (1, 1, m.busy.toNat), (0, 1, m.valid.toNat)])
    , (slotAt o 0x20 4 8).map fun k => m.data.extractLsb' (32 * k) 32]

/-! ### All of them -/

/-- What the register at an offset of a place reads as. -/
def State.readPlace (s : State) (ap : Aperture) (pl : Place) (o : Nat) : Word :=
  let a := apIdx ap
  let v := viewOf ap
  match pl with
  | .glb => s.readGlb o
  | .glbPart => s.readGlbPart v o
  | .lse => s.readLse a o
  | .shf k => s.readShf k o
  | .seam => s.readSeam a v o
  | .shfAll => s.readShfAll o
  | .yf => s.readYf o
  | .ts t => s.readTs t o
  | .face => s.readFace a v o
  | .tal => s.readTal a v o
  | .wnd => s.readWnd a v o
  | .mov => s.readMov a v o
  | .vlt => s.readVlt a o
  | .chk => s.readChk o
  | .pke => s.readPke o
  | .lcs => s.readLcs a o
  | .obs => s.readObs a v o
  | .mbx => s.readMbx a o
  | .upd => s.readUpd o
  | .flt => s.readFlt a v o
  | .ctx => s.readCtx a v o
  | .hst => s.readHst a v o
  | .ins => s.readIns o
  | .aliasWin | .doorbell | .none => 0

/-- The bit that a word of the aliased-bit window shows (R58, R59); `x` counts the bytes of the window. -/
def State.readAlias (s : State) (x : Nat) : Word :=
  let A := x / 128
  if A < 65536 ∧ A % 4 = 0 ∧ A < 0x8000 then ((s.readGlb A).extractLsb' (x % 128 / 4) 1).setWidth 32 else 0

end Sys2Proof.Machine
end

