-- ==== Sys2Proof/Machine/Mailbox.lean ====
section
/-!
DEFINITION. Machine/Mailbox.lean: the mailbox (03, R53 to R57): selection, capture, the open write and its commit.
-/

namespace Sys2Proof.Machine

/-- The mailbox instance of an aperture rewritten. -/
def State.modMbx (s : State) (a : Nat) (f : Mbx → Mbx) : State := { s with mbx := s.mbx.modD a {} f }

/-- CLASS of a selection. -/
def mbxClass (sel : Word) : Nat := (sel.extractLsb' 24 7).toNat
/-- INDEX of a selection. -/
def mbxIndex (sel : Word) : Nat := (sel.extractLsb' 0 24).toNat

/-- Words of an object of a class, 0 for a reserved class (Table 3.2). -/
def classWords (c : Nat) : Nat :=
  match c with
  | 1 | 2 | 3 | 8 | 9 => 2
  | 4 | 5 => 8
  | 6 | 7 => 4
  | _ => 0

/-- The fault record of a sequence number, when it is among those held (R427). -/
def State.faultRecord (s : State) (seq : Nat) : Option Block := s.flt.log[(s.flt.next - 1 - BitVec.ofNat 24 seq).toNat]?

/-- The bits an index of a class may use, and its range (Table 3.2, R440, R441); class 4 is refused until the digest is there (R68). -/
def State.indexOk (s : State) (c i : Nat) : Bool :=
  match c with
  | 1 => decide (i < 65536)
  | 2 | 8 => i == 0
  | 3 => i / 2 ^ 16 % 2 ^ 7 == 0 && decide (i % 256 < counterUnits (i / 256 % 256))
  | 4 => decide (i < 2) && s.lse.digestOk
  | 5 | 6 => decide (i < 256)
  | 7 => (s.faultRecord i).isSome
  | 9 => decide (1 ≤ i % 2 ^ 23 ∧ i % 2 ^ 23 ≤ 6)
  | _ => false

/-- The object is one that the aperture of partition v may see; v is 0 for the operator layout (R57, R441, R427). -/
def State.objectOwn (s : State) (v c i : Nat) : Bool :=
  v == 0 ||
    match c with
    | 1 => s.ownsTally v i
    | 3 => s.counterView v (i / 256 % 256) (i % 256)
    | 5 => (s.seam i).owner == v
    | 6 => (s.order i).part == v
    | 7 => (((s.faultRecord i).getD 0).extractLsb' 49 3).toNat == v
    | 9 => i % 2 ^ 23 == v
    | _ => true

/-- The object's value, its word 0 in bits [31:0] (R54). -/
def State.object (s : State) (c i : Nat) : BitVec 256 :=
  match c with
  | 1 => (s.tally i).value.setWidth 256
  | 2 => s.clk.shift.setWidth 256
  | 3 => (s.counterAt (i.testBit 23) (i / 256 % 256) (i % 256)).setWidth 256
  | 4 => if i = 0 then s.fab.digest else s.fab.compat
  | 5 => (s.seam i).word
  | 6 => (s.order i).word.setWidth 256
  | 7 => ((s.faultRecord i).getD 0).setWidth 256
  | 8 => s.fuse.unitId.setWidth 256
  | 9 => ((if i.testBit 23 then s.obs.audit else s.tal.audit).getD (i % 2 ^ 23) 0).setWidth 256
  | _ => 0

/-- The class is served in the state the block is in (R68). -/
def State.classServed (s : State) (c : Nat) : Bool := s.inRun || c == 2 || c == 4 || c == 7 || c == 8

/-- Why an operation on an object is refused, 0 when it is not (Table 3.5, R57). Before RUN and in HELD too a reserved class is refused as
unknown (R57), and not as one that is not served (R68) (DESIGN CHOICE, log 79). -/
def State.mbxCheck (s : State) (ap : Aperture) (sel : Word) : Nat :=
  let c := mbxClass sel
  let i := mbxIndex sel
  if classWords c = 0 then 1
  else if !s.classServed c then 3
  else if !s.indexOk c i then 2
  else if !s.objectOwn (viewOf ap) c i then 3
  else if sel.getLsbD 31 ∧ c ≠ 1 ∧ c ≠ 5 ∧ c ≠ 6 then 4
  else if sel.getLsbD 31 ∧ (c = 5 ∨ c = 6) ∧ ap ≠ .lamp then 3
  else 0

/-- A write of MBX_SEL: ignored with ERR_CODE 0x5 while BUSY; else an open write is abandoned and the operation begins (R54 to R56).
MBX_DATA reads zero from here until the capture, and after a refusal (DESIGN CHOICE, log 77). -/
def State.mbxSelect (s : State) (ap : Aperture) (sel : Word) : State :=
  s.modMbx (apIdx ap) fun m =>
    if m.busy then { m with fail := true, err := 5 }
    else { m with
      sel := sel, words := classWords (mbxClass sel), err := 0, fail := false, done := false, busy := true, valid := false
      opened := false, data := 0 }

/-- MBX_SEL as a class, an index and WRITE make it up (Table 3.4). -/
def selWord (write : Bool) (cls : BitVec 7) (idx : BitVec 24) : Word := BitVec.ofBool write ++ cls ++ idx

/-- MBX_SEL_READ. -/
def mbxSelRead (ap : Aperture) (cls : BitVec 7) (idx : BitVec 24) (s : State) : State := s.mbxSelect ap (selWord false cls idx)

/-- MBX_SEL_WRITE. -/
def mbxSelWrite (ap : Aperture) (cls : BitVec 7) (idx : BitVec 24) (s : State) : State := s.mbxSelect ap (selWord true cls idx)

/-- The capture of a tally reads its record from the Inner Store, whose word answered with `ecc` (R147, R152). -/
def State.captureRead (s : State) (ap : Aperture) (ecc : Ecc) : State :=
  let m := s.mbxAt (apIdx ap)
  if m.busy ∧ mbxClass m.sel = 1 ∧ s.mbxCheck ap m.sel = 0 then
    s.readTally (s.tallyQuad (s.tallyOwner (mbxIndex m.sel))) (mbxIndex m.sel) ecc
  else s

/-- MBX_CAPTURE_DONE: the checks are made and every word is captured at once; a write is open from here on (R54, R55). -/
def mbxCaptureDone (ap : Aperture) (ecc : Ecc) (s : State) : State :=
  let s := s.captureRead ap ecc
  s.modMbx (apIdx ap) fun m =>
    let e := s.mbxCheck ap m.sel
    if !m.busy then m
    else if e ≠ 0 then { m with busy := false, fail := true, err := e }
    else { m with
      busy := false, valid := true, opened := m.sel.getLsbD 31, data := s.object (mbxClass m.sel) (mbxIndex m.sel) }

/-- An object written by its owning block, none when it refuses the value (R55). A tally write from the operator or the debug port is
a hand-setting (R299). -/
def State.writeObject (s : State) (ap : Aperture) (c i : Nat) (v : BitVec 256) : Option State :=
  match c with
  | 1 => tallyWrite s i (v.setWidth 64) (ap == .operator || ap == .debug)
  | 5 => seamEntryWrite s i v
  | 6 => orderWrite s i (v.setWidth 128)
  | _ => none

/-- MBX_DATA_WRITE: the word is stored while a write is open; the object's highest word commits it (R55, R56). A value that the owner
refuses closes the write (DESIGN CHOICE, log 78). -/
def mbxDataWrite (ap : Aperture) (k : Nat) (v : Word) (s : State) : State :=
  let a := apIdx ap
  let m := s.mbxAt a
  if !m.opened ∨ 8 ≤ k then s
  else
    let data := (m.data &&& ~~~ ((0xFFFFFFFF : BitVec 256) <<< (32 * k))) ||| (v.setWidth 256 <<< (32 * k))
    let t := s.modMbx a fun m => { m with data }
    if k + 1 ≠ m.words then t
    else
      match t.writeObject ap (mbxClass m.sel) (mbxIndex m.sel) data with
      | some t => t.modMbx a fun m => { m with opened := false, done := true }
      | none => t.modMbx a fun m => { m with opened := false, fail := true, err := 6 }

/-- MBX_DATA holds a tally value of a partition: its read is an egress of that partition (Table 5.4, R120). -/
def State.mbxTallyPart (s : State) (a : Nat) : Nat :=
  let m := s.mbxAt a
  if m.valid ∧ mbxClass m.sel = 1 then s.tallyOwner (mbxIndex m.sel) else 0

end Sys2Proof.Machine
end

