-- ==== Sys2Proof/Machine/Registers.lean ====
section
/-!
DEFINITION. Machine/Registers.lean: register accesses (03): errors and denials, reads with their read-to-clear effect, writes by access type,
dual writes, strobes, the aliased-bit window, and the command registers whose commands carry nothing from outside the block.
-/

namespace Sys2Proof.Machine

/-! ### Which accesses are answered (R41, R43, R65, R68) -/

/-- A place responds through an aperture (R67, R68, R399). -/
def State.responds (s : State) (ap : Aperture) (pl : Place) : Bool :=
  !s.pins.por &&
    (if s.fuse.lifecycle = 5 then ap == .debug
    else if s.inRun then true
    else match ap with
      | .part _ | .vf _ _ => false
      | _ => pl.early)

/-- The error of an access that is not one aligned 32-bit access with every byte enable set: the KIND of Table 3.18 (R41). Of several
that apply, misaligned is taken before wrong size, and that before a cleared byte enable (DESIGN CHOICE, log 76). -/
def accessKind (a : Access) : Option Nat :=
  if a.size ≠ 0 ∧ a.off % a.size ≠ 0 then some 0
  else if a.size ≠ 4 then some 1
  else if a.be ≠ 0xF then some 2
  else none

/-- GLB_ERR_ADDR of an access (Table 3.17). -/
def errAddrOf (ap : Aperture) (off : Nat) : Word :=
  match ap with
  | .part p => word [(29, 3, p), (0, 26, off)]
  | .vf p v => word [(29, 3, p), (28, 1, 1), (16, 5, v), (0, 16, off)]
  | .debug => word [(29, 3, 7), (0, 26, off)]
  | _ => word [(0, 26, off)]

/-- An access in error: answered with an error, counted, captured while no capture is held; a Lamp error is not captured, and the debug
port keeps a sticky bit (R41, Table 3.17). -/
def State.accessError (s : State) (a : Access) (kind : Nat) (write : Bool) : State :=
  let g := { s.glb with errCount := satInc s.glb.errCount, sticky := s.glb.sticky || a.ap == .debug }
  let g :=
    if a.ap = .lamp ∨ g.errInfo.getLsbD 0 then g
    else { g with
      errAddr := errAddrOf a.ap a.off, errInfo := word [(4, 4, a.be.toNat), (3, 1, write.toNat), (1, 2, kind), (0, 1, 1)] }
  { s with glb := g }.emit (.regError a.ap a.off)

/-- The debug port reads LCS_STATUS and nothing else (R399, R454). -/
def State.debugShut (s : State) : Bool := s.pins.strap.getLsbD 0 || s.fuse.lifecycle == 5

/-- The bits that a write sets of an argument register of an instance; 0 where there is none, or where the operator's instance is read-only
(R80, R285, R311, R342). -/
def Place.argMask (pl : Place) (ap : Aperture) (o : Nat) : Word :=
  let shared := ap != .operator
  match pl with
  | .seam => if !shared then 0 else if o = 0x10 then 0x7FFFFF else if o = 0x14 then 0x7F7FFF else if o = 0x18 then 0xFFFF
    else if o = 0x1C then 0xFFFFFFFF else 0
  | .face => if !shared then 0 else if o = 0x10 then 0xFFFFFFFF else if o = 0x14 then 0xFF1FFFFF
    else if o = 0x18 ∨ o = 0x1C then 0xFFFFFF else 0
  | .tal => if o = 0x10 ∨ o = 0x14 then 0xFFFFFFFF else if o = 0x18 ∨ o = 0x1C then 0xFFFF else 0
  | .wnd => if !shared then 0 else if o = 0x10 then 0xFFFFFFFF else if o = 0x14 then 0x7F3F else if o = 0x18 ∨ o = 0x1C then 0xFFFF else 0
  | .mov => if !shared then 0 else if o = 0x10 ∨ o = 0x14 then 0xFFFFFFFF else if o = 0x18 then 0x1F1FFFFF else 0
  | .ctx => if o = 0x10 then (if viewOf ap = 0 then 0x70FFF else 0xFFF) else 0
  | .hst => if o = 0x10 ∨ o = 0x14 ∨ (0x40 ≤ o ∧ o < 0x60 ∧ o % 4 = 0) then 0xFFFFFFFF else if o = 0x18 then 0x1FFFF else 0
  | .vlt => if o = 0x10 ∨ o = 0x14 ∨ (0x20 ≤ o ∧ o < 0x40 ∧ o % 4 = 0) then 0xFFFFFFFF else if o = 0x40 then 0xFFF else 0
  | .lcs => if o = 0x10 ∨ o = 0x14 then 0xFFFFFFFF else if o = 0x18 then 0x3F else 0
  | .lse => if o = 0x18 then 0x731F else if o = 0x1C then 1 else 0
  | .obs => if o = 0x10 ∨ o = 0x14 then 0xFFFFFFFF else if o = 0x44 then 0x8000FFFF else 0
  | _ => 0

/-- A register that another aperture writes and this one only reads: the arguments of the operator's read-only instances, and YF_ROUTE_n,
which the Lamp writes (R80, R224). -/
def Place.readOnly (pl : Place) (ap : Aperture) (o : Nat) : Bool :=
  (ap == .operator && pl.argMask ap o == 0 && pl.argMask .lamp o != 0)
    || (pl == .yf && ap != .lamp && (slotAt o 0x400 4 256).isSome)

/-- A command register that takes commands from the operator and the Lamp only: TS_CMD and YF_NODE_CMD (R187, R224). -/
def Place.notDebug (pl : Place) (o : Nat) : Bool :=
  match pl with
  | .ts _ => o == 4
  | .yf => o == 0x10
  | _ => false

/-- An access that R43 denies: the shut debug port, a debug write to the life-cycle registers (R401) or of TS_CMD or YF_NODE_CMD, a
write of FLT_CANARY or FLT_KICK from elsewhere than the Lamp, but that FLT_KICK is reserved in a partition aperture (R438), and a write of
a register that the aperture may only read. -/
def State.denies (s : State) (ap : Aperture) (pl : Place) (o : Nat) (write : Bool) : Bool :=
  (ap == .debug && s.debugShut && (write || pl != .lcs || o != 0)) ||
    (write && ((ap == .debug && (pl == .lcs || pl.notDebug o)) || pl.readOnly ap o
      || (ap != .lamp && pl == .flt && (o == 0x20 || o == 0x8020 || (o == 0x24 && viewOf ap == 0)))))

/-- A denied access counted (R43). -/
def State.deny (s : State) : State := { s with glb := { s.glb with denied := satInc s.glb.denied } }

/-- The places whose commands drive engines, which do not run after a tamper event (R394). -/
def Place.engine : Place → Bool
  | .seam | .face | .tal | .wnd | .mov | .ctx | .hst | .yf | .lse | .ts _ => true
  | _ => false

/-- The partition whose function an aperture belongs to. -/
def aperturePart : Aperture → Nat
  | .part p | .vf p _ => p
  | _ => 0

/-- A TLP of the partition at its aperture is refused: its TDI is in ERROR, it is confidential and no stream of it is Secure, or it is
removed or in D3cold (R346, R352, R359, R365). -/
def State.tlpRefused (s : State) (ap : Aperture) : Bool :=
  let p := aperturePart ap
  p != 0 && s.inRun && (s.tdi p == 3 || (s.confidential p && (s.secureStream p).isNone) || s.hostShut p)

/-- A refused TLP is logged with 0x5001, but for one of a function that is removed or in D3cold (R346, R352). -/
def State.logRefused (s : State) (ap : Aperture) : State :=
  let p := aperturePart ap
  if s.tdi p = 3 ∨ (s.confidential p ∧ (s.secureStream p).isNone) then s.logged 0x5001 p (.unit .function p 0) else s

/-- The Unsupported Request that a refused read gets. -/
def State.readRefused (s : State) (ap : Aperture) : State :=
  let fn : Nat := match ap with
    | .vf p v => p * 32 + v
    | _ => aperturePart ap * 32
  (s.logRefused ap).cpl fn 0 2 [] none

/-- A write of a register of a place: answered (R68), not denied (R43). -/
def State.atReg (s : State) (ap : Aperture) (pl : Place) (o : Nat) (f : State → State) : State :=
  if s.tlpRefused ap then s.logRefused ap
  else if !s.responds ap pl ∨ (s.pins.tamper ∧ pl.engine) then s else if s.denies ap pl o true then s.deny else f s

/-- A write at an offset: answered, not denied. -/
def State.gateWrite (s : State) (ap : Aperture) (off : Nat) (f : State → State) : State :=
  s.atReg ap (placeOf ap off) (off % 65536) f

/-! ### Reads (R44, R46, R48) -/

/-- An instance's tables of counters by partition, port or unit with one of them cleared. -/
def clearAt (t : Tab Word) (k : Option Nat) : Tab Word :=
  match k with
  | some k => t.put k 0
  | none => t

/-- GLB_ counters cleared by their read. -/
def Glb.readClear (g : Glb) (o : Nat) : Glb :=
  if o = 0x38 then { g with errCount := 0 } else if o = 0x3C then { g with dwFail := 0 } else if o = 0x40 then { g with denied := 0 } else g

/-- SHF_ fields cleared by their read (Table 5.8). -/
def Shaft.readClear (h : Shaft) (o : Nat) : Shaft :=
  if o = 0x04 then { h with high := 0 }
  else if o = 0x10 then { h with corr := 0 }
  else if o = 0x14 then { h with uncorr := 0 }
  else if o = 0x18 then { h with macFail := 0 }
  else if o = 0x1C then { h with padStall := 0 }
  else if o = 0x20 then { h with ccMiss := 0 }
  else h

/-- TS_ fields cleared by their read (Table 7.12). -/
def SiteIo.readClear (x : SiteIo) (o : Nat) : SiteIo :=
  if o = 0x20 then { x with macFail := 0 }
  else if o = 0x24 then { x with replay := 0 }
  else if o = 0x28 then { x with replaySent := 0 }
  else if o = 0x2C then { x with stale := 0 }
  else if o = 0x30 then { x with resync := 0 }
  else if o = 0x38 then { x with high := 0 }
  else x

/-- YF_ port counters cleared by their read (Table 8.13). -/
def PortIo.readClear (x : PortIo) (k : Nat) : PortIo :=
  match k with
  | 0 => { x with macFail := 0 }
  | 1 => { x with cwLost := 0 }
  | 2 => { x with replay := 0 }
  | _ => { x with drop := 0 }

/-- YF_ registers cleared by their read (Tables 8.13 and 9.12). -/
def State.yfClear (s : State) (o : Nat) : State :=
  if 0x200 ≤ o ∧ o < 0x380 ∧ o % 4 = 0 then s.modPio ((o - 0x200) / 16) fun x => x.readClear (o % 16 / 4)
  else
    { s with
      home := { s.home with
        high := match slotAt o 0x1000 4 4 with
          | some q => s.home.high.put q 0
          | none => s.home.high
        nacks := clearAt s.home.nacks (slotAt o 0x1020 4 4) }
      cart := if o = 0x1204 then { s.cart with commit := 0 }
        else if o = 0x1208 then { s.cart with abort := 0 }
        else if o = 0x120C then { s.cart with indet := 0 }
        else s.cart }

/-- MOV_DONE_c and MOV_BYTES_c cleared by their read (Table 12.9). -/
def State.movClear (s : State) (v o : Nat) : State :=
  match slotAt o 0x1000 4 512 with
  | none => s
  | some k =>
    if !shows v (s.chanOwner (k / 16)) then s
    else if k % 16 = 7 then s.modChan (k / 16) fun c => { c with done := 0 }
    else if k % 16 = 8 then s.modChan (k / 16) fun c => { c with bytes := 0 }
    else s

/-- The head of a partition's loss queue removed (R355). -/
def State.lossTaken (s : State) (v : Nat) : State :=
  if v = 0 then s else { s with ctx := { s.ctx with loss := s.ctx.loss.modD v [] List.tail } }

/-- The read-to-clear effect of a read of the register at an offset of a place (R48). -/
def State.readClear (s : State) (v : Nat) (pl : Place) (o : Nat) : State :=
  match pl with
  | .glb => { s with glb := s.glb.readClear o }
  | .upd => if o = 8 then { s with glb := { s.glb with updCount := 0 } } else s
  | .shf k => s.modShaft k fun h => h.readClear o
  | .shfAll =>
    match partAt 0 o 0x40 with
    | some p => s.modHz p fun h => { h with dropped := 0 }
    | none => s
  | .ins =>
    match slotAt o 0x10 4 8 with
    | some k => s.modSlice (k % 4) fun x => if k < 4 then { x with corr := 0 } else { x with uncorr := 0 }
    | none => s
  | .ts t => s.modSio t fun x => x.readClear o
  | .yf => s.yfClear o
  | .face =>
    let k := (slotAt o 0x60 4 8).bind fun f => if shows v (s.faceOwner f) then some f else none
    { s with face := { s.face with applied := clearAt s.face.applied k } }
  | .tal => { s with tal := { s.tal with stale := clearAt s.tal.stale (partAt v o 0xC0) } }
  | .mov => s.movClear v o
  | .chk => { s with vlt := if o = 4 then { s.vlt with chkJobs := 0 } else if o = 8 then { s.vlt with mismatch := 0 } else s.vlt }
  | .pke => { s with vlt := if o = 4 then { s.vlt with pkeOps := 0 } else if o = 8 then { s.vlt with pkeRestart := 0 } else s.vlt }
  | .flt => if o = 0x14 then { s with flt := { s.flt with lost := 0 } } else s
  | .obs => if o = 0x3C then { s with obs := { s.obs with missed := 0 } } else s
  | .ctx => if o = 0x24 then s.lossTaken v else s
  | _ => s

/-- The partition whose tally value or memory line a read returns, 0 for none: such a completion at the host port is an egress of the
partition (Table 5.4, DEDUCED, log 56). -/
def State.dataRead (s : State) (a : Nat) (pl : Place) (o : Nat) : Nat :=
  let sel := s.arg .obs a 0x44
  match pl with
  | .mbx => if 0x20 ≤ o then s.mbxTallyPart a else 0
  | .obs =>
    if 0x50 ≤ o ∧ o < 0x60 ∧ sel.getLsbD 31 then s.tallyOwner (sel.extractLsb' 0 16).toNat
    else if 0x100 ≤ o ∧ o < 0x14C then s.obs.dataOf.getD a 0
    else 0
  | _ => 0

/-- The answer to a read: at once, or held as an egress of the partition whose data it carries. -/
def State.answerRead (s : State) (ap : Aperture) (off : Nat) (w : Word) (owner : Nat) : State :=
  match ap with
  | .lamp | .debug => s.emit (.regRead ap off w)
  | _ => if owner = 0 then s.emit (.regRead ap off w) else s.hold owner .host none (.completion (viewOf ap * 32) 0 0 (leBytes 4 w.toNat) false)

/-- A selection of the snapshot that is not the aperture's own: it reads zero and is denied (R446). -/
def State.snapDenied (s : State) (a v : Nat) (pl : Place) (o : Nat) : Bool :=
  pl == .obs && decide (0x50 ≤ o ∧ o < 0x60) && s.snapWord a v 0 == none

/-- A well-formed read at an offset (R42, R43, R44, R48). -/
def State.readAt (s : State) (ap : Aperture) (off : Nat) : State :=
  let pl := placeOf ap off
  let o := off % 65536
  let a := apIdx ap
  let v := viewOf ap
  if !s.responds ap pl then s.emit (.regRead ap off 0)
  else if s.denies ap pl o false ∨ s.snapDenied a v pl o then s.deny.emit (.regRead ap off 0)
  else if pl = .aliasWin then s.emit (.regRead ap off (s.readAlias (off - 0x2000000)))
  else if pl = .doorbell ∨ 0x8000 ≤ o then s.emit (.regRead ap off 0)
  else (s.readClear v pl o).answerRead ap off (s.readPlace ap pl o) (s.dataRead a pl o)

/-- Nothing answers at the aperture: in reset, and in a Scrapped unit but for the debug port (R68, R399). -/
def State.silent (s : State) (ap : Aperture) : Bool := s.pins.por || (s.fuse.lifecycle == 5 && ap != .debug)

/-- RC_READ. -/
def rcRead (ap : Aperture) (off : Nat) (s : State) : State := 
  if s.silent ap ∨ off % 4 ≠ 0 then s else if s.tlpRefused ap then s.readRefused ap else s.readAt ap off

/-- REGISTER_READ: an error response, zero, or the register (R41 to R44). -/
def registerRead (a : Access) (s : State) : State :=
  if s.silent a.ap then s
  else if s.tlpRefused a.ap then s.readRefused a.ap
  else match accessKind a with
    | some k => s.accessError a k false
    | none => s.readAt a.ap a.off

/-! ### Writes by access type (R40, R46, R62) -/

/-- The command block of a place. -/
def Place.blk : Place → Option Blk
  | .seam => some .seam | .face => some .face | .tal => some .tal | .wnd => some .wnd | .mov => some .mov | .ctx => some .ctx | .hst => some .hst
  | .vlt => some .vlt | .lcs => some .lcs | .lse => some .lse | .flt => some .flt | .obs => some .obs | .yf => some .yf
  | _ => Option.none

/-- The bits of a block's interrupt registers (Tables 4.17, 5.15, 6.13, 7.20, 8.20, 10.22, 11.14, 11.23, 12.18, 13.19, 13.20, 14.17, 15.13,
16.16, 17.12). -/
def Place.irqMask : Place → Word
  | .yf => 0x3F
  | .hst | .flt => 0x1F
  | .wnd | .ctx | .vlt => 7
  | .lcs => 0
  | _ => 0xF

/-- Where a block has its interrupt status register; the enable register follows it. -/
def Place.irqOff : Place → Nat
  | .ins => 0x90
  | _ => 0x80

/-- Where a block has its command status register. -/
def Place.statusOff : Place → Nat
  | .lcs => 8
  | .lse => 0x14
  | .ts _ => 8
  | _ => 4

/-- The sub-block of a place in the operator layout: with an instance, the name of a strobed register. -/
def Place.base : Place → Nat
  | .lse => 0x10 | .shf k => 0x20 + k | .seam => 0x2C | .yf => 0x30 | .ts t => 0x40 + t | .face => 0x50 | .tal => 0x60 | .wnd => 0x70
  | .mov => 0x80 | .vlt => 0x90 | .lcs => 0x93 | .obs => 0xA0 | .flt => 0xC1 | .ctx => 0xC2 | .hst => 0xC3 | .ins => 0xC4
  | _ => 0

/-- A place whose registers all apertures share. -/
def Place.shared : Place → Bool
  | .glb | .shf _ | .ts _ | .yf | .ins => true
  | _ => false

/-- The name of the enable register of a place at an instance. -/
def enableKey (a : Nat) (pl : Place) : Nat := (if pl.shared then 0 else a) * 1024 + pl.base

/-- An interrupt enable register takes a value. -/
def State.setEnable (s : State) (a : Nat) (pl : Place) (v : Word) : State :=
  match pl with
  | .glb => { s with glb := { s.glb with irqEn := v &&& 0x1FF } }
  | .shf k => s.modShaft k fun h => { h with irqEn := v &&& pl.irqMask }
  | .ts t => s.modSio t fun x => { x with irqEn := v &&& pl.irqMask }
  | .ins => { s with ins := { s.ins with irqEn := v &&& pl.irqMask } }
  | _ =>
    match pl.blk with
    | some b => s.modInst b (if pl.shared then 0 else a) fun i => { i with irqEn := v &&& pl.irqMask }
    | none => s

/-- A write of an enable register, the strobed registers: in compatibility mode its value is buffered (R61, R62). -/
def State.writeEnable (s : State) (a : Nat) (pl : Place) (v : Word) : State :=
  if s.glb.compat then { s with glb := { s.glb with buf := s.glb.buf.put (enableKey a pl) v } } else s.setEnable a pl v

/-- A strobe: every buffered value in force, PENDING clear, counted (R63). -/
def State.strobe (s : State) : State :=
  let t := s.glb.buf.foldl (fun (t : State) ((k, v) : Nat × Word) => t.setEnable (k / 1024) (opPlace (k % 1024)) v) s
  { t with glb := { t.glb with buf := [], updCount := satInc t.glb.updCount } }

/-- A write of 1 to bits of an interrupt status register clears them (Table 0.3). -/
def State.clearIrq (s : State) (a : Nat) (pl : Place) (v : Word) : State :=
  match pl with
  | .shf k => s.modShaft k fun h => { h with irqStat := h.irqStat &&& ~~~v }
  | .ts t => s.modSio t fun x => { x with irqStat := x.irqStat &&& ~~~v }
  | .ins => { s with ins := { s.ins with irqStat := s.ins.irqStat &&& ~~~v } }
  | _ =>
    match pl.blk with
    | some b => s.modInst b (if pl.shared then 0 else a) fun i => { i with irqStat := i.irqStat &&& ~~~v }
    | none => s

/-- A write of 1 to DONE of a command status register clears it. -/
def State.clearDone (s : State) (a : Nat) (pl : Place) : State :=
  match pl with
  | .ts t => s.modSio t fun x => { x with cmdDone := false }
  | .yf => s
  | _ =>
    match pl.blk with
    | some b => s.modInst b a fun i => { i with done := false }
    | none => s

/-- The place has an interrupt status and an enable register. -/
def Place.hasIrq (pl : Place) : Bool :=
  match pl with
  | .shf _ | .ts _ | .ins => true
  | .lcs => false
  | _ => pl.blk.isSome

/-- A route entry from the word that the Lamp writes (Table 8.17, R224). -/
def routeOf (v : Word) : Route := {
  valid := v.getLsbD 31, direct := v.getLsbD 30, firstR := (v.extractLsb' 25 5).toNat, altR := (v.extractLsb' 20 5).toNat
  firstC := (v.extractLsb' 15 5).toNat, altC := (v.extractLsb' 10 5).toNat, rfail := v.getLsbD 9, cfail := v.getLsbD 8 }

/-- CTX_FUNC_f of a partition: a write that would change it while its TDI is locked is dropped (R351). -/
def State.writeFunc (s : State) (p f : Nat) (v : Word) : State :=
  let x : BitVec 16 := v.setWidth 16
  if (s.tdi p = 1 ∨ s.tdi p = 2) ∧ s.hst.func.getD (p * 32 + f) 0 ≠ x then configWriteLocked p s
  else { s with hst := { s.hst with func := s.hst.func.put (p * 32 + f) x } }

/-- A write to a GLB_ register (Table 3.12). -/
def State.writeGlb (s : State) (a o : Nat) (v : Word) : State :=
  if o = 0x34 then (if v.getLsbD 0 then { s with glb := { s.glb with errInfo := s.glb.errInfo &&& ~~~1 } } else s)
  else if o = 0x104 then s.writeEnable a .glb v
  else if o = 0x110 then { s with glb := { s.glb with scratch := v } }
  else s

/-- A write to a register that takes a value: arguments, W1C and RW registers of a place (R40). Every other location is read-only or
reserved, and ignores it. -/
def State.writeField (s : State) (ap : Aperture) (pl : Place) (o : Nat) (v : Word) : State :=
  let a := apIdx ap
  let m := pl.argMask ap o
  if pl = .glb then s.writeGlb a o v
  else if pl.hasIrq ∧ o = pl.irqOff then s.clearIrq a pl v
  else if pl.hasIrq ∧ o = pl.irqOff + 4 then s.writeEnable a pl v
  else if o = pl.statusOff ∧ v.getLsbD 1 then s.clearDone a pl
  else match pl with
    | .shf k => if o = 0x34 ∧ v.getLsbD 31 then s.modShaft k fun h => { h with cap := { h.cap with valid := false } } else s
    | .ins => if o = 0x54 ∧ v.getLsbD 31 then { s with ins := { s.ins with cap := { s.ins.cap with valid := false } } } else s
    | .yf =>
      match slotAt o 0x400 4 256 with
      | some n => if ap = .lamp then { s with fab := { s.fab with routes := s.fab.routes.put n (routeOf v) } } else s
      | none => s
    | _ =>
      match pl.blk, (if pl = .ctx ∧ viewOf ap ≠ 0 then slotAt o 0x100 4 17 else none) with
      | _, some f => s.writeFunc (viewOf ap) f v
      | some b, none => if m = 0 then s else s.modInst b a fun i => { i with regs := i.regs.put o (v &&& m) }
      | none, none => s

/-! ### The registers of commands (R80 and the command tables) -/

/-- The unit that FLT_CMD names by TYPE and INDEX; a TYPE with no engine step names a unit that does not exist (R438, Table 16.11). -/
def fltUnit (v : Word) : UnitRef :=
  let i := (v.extractLsb' 16 16).toNat
  match (v.extractLsb' 10 6).toNat with
  | 6 => .face i
  | 8 => .channel i
  | 9 => .task i
  | 1 => .shaft i
  | _ => .shaft 0xFFFF

/-- SEAM_CMD (Table 4.10). -/
def State.writeSeamCmd (s : State) (ap : Aperture) (v : Word) : State :=
  let n := (v.extractLsb' 12 8).toNat
  match (v.extractLsb' 0 4).toNat with
  | 1 => seamCreate ap n s | 2 => seamSeal ap n s | 3 => seamUnseal ap n s | 4 => seamRekey ap n s | 5 => seamRetire ap n s
  | 6 => seamFree ap n s | 7 => seamUnfreeze ap n s | _ => s.noAction .seam (apIdx ap)

/-- TAL_CMD (Table 11.10). -/
def State.writeTalCmd (s : State) (ap : Aperture) (v : Word) : State :=
  let n := (v.extractLsb' 16 16).toNat
  match (v.extractLsb' 0 4).toNat with
  | 1 => talSignalAdd ap n s | 2 => talSignalMax ap n s | 3 => talPair ap n s | 4 => talUnpair ap n s | 5 => talQuery ap n s | _ => s.noAction .tal (apIdx ap)

/-- FACE_CMD (Table 10.16). -/
def State.writeFaceCmd (s : State) (ap : Aperture) (v : Word) : State :=
  let n := (v.extractLsb' 7 9).toNat
  match (v.extractLsb' 0 4).toNat with
  | 1 => faceArm ap n (v.extractLsb' 16 16) s | 2 => faceDisarm ap n s | 3 => faceClear ap n s | _ => s.noAction .face (apIdx ap)

/-- WND_CMD (Table 11.16). -/
def State.writeWndCmd (s : State) (ap : Aperture) (v : Word) : State :=
  let t := (v.extractLsb' 24 8).toNat
  match (v.extractLsb' 0 4).toNat with
  | 1 => wndLoad ap t s
  | 2 => wndStart ap t s | 3 => wndResume ap t s | 4 => wndStop ap t s | 5 => wndUnload ap t s | _ => s.noAction .wnd (apIdx ap)

/-- MOV_CMD (Table 12.10). -/
def State.writeMovCmd (s : State) (ap : Aperture) (v : Word) : State :=
  let c := (v.extractLsb' 27 5).toNat
  match (v.extractLsb' 0 4).toNat with
  | 1 => movBind ap c s | 2 => movStart ap c s | 3 => movAbort ap c s | 4 => movDestroy ap c s | 5 => movRef ap s | 6 => movUnref ap s | _ => s.noAction .mov (apIdx ap)

/-- CTX_CMD (Table 13.9). -/
def State.writeCtxCmd (s : State) (ap : Aperture) (v : Word) : State :=
  match (v.extractLsb' 0 4).toNat with
  | 1 => ctxOpen ap (v.extractLsb' 11 5).toNat s | 2 => ctxRetire ap (v.extractLsb' 16 16) s | _ => s.noAction .ctx (apIdx ap)

/-- HST_CMD (Table 13.15). Of the migration commands, which read or write host memory, the refusals that need no answer of it (DEDUCED, log 57). -/
def State.writeHstCmd (s : State) (ap : Aperture) (v : Word) : State :=
  let mig (code : Nat → Nat) : State := s.hstCmd ap fun p s => if code p = 0 then s else s.cmdEnd .hst p 0 (code p)
  match (v.extractLsb' 0 4).toNat with
  | 4 => mig s.offerCheck | 5 => mig s.acceptCheck | 6 => mig s.finishCheck
  | 1 => hstRemove ap (v.extractLsb' 5 3).toNat s | 2 => hstDirtyEnable ap s | 3 => hstDirtyDisable ap s | _ => s.noAction .hst (apIdx ap)

/-- FLT_CMD (Table 16.11). -/
def State.writeFltCmd (s : State) (ap : Aperture) (v : Word) : State :=
  match (v.extractLsb' 0 4).toNat with
  | 1 => fltEngine ap (fltUnit v) s | 2 => fltPartition ap (v.extractLsb' 16 16).toNat s | 3 => fltChip ap s | 4 => fltTray ap s | _ => s.noAction .flt (apIdx ap)

/-- OBS_CMD (Table 17.7). -/
def State.writeObsCmd (s : State) (ap : Aperture) (v : Word) : State :=
  match (v.extractLsb' 0 4).toNat with
  | 1 => obsFreeze ap s | 2 => obsFreezeAt ap (v.getLsbD 4) s | 3 => obsRelease ap s | 4 => obsPeek ap s | _ => s.noAction .obs (apIdx ap)

/-- UPD_STROBE_GO: a strobe, and dg_strobe_out high when FWD_OUT = 1 (R63, R64). -/
def updStrobeGo (ap : Aperture) (s : State) : State :=
  if placeOf ap 0xC00000 = .upd then
    s.gateWrite ap 0xC00000 fun s =>
      let t := s.strobe
      if t.glb.fwdOut then { t with pins := { t.pins with strobeOut := true } } else t
  else s

/-- STROBE_OUT_PULSE_END (R64). -/
def strobeOutPulseEnd (s : State) : State := { s with pins := { s.pins with strobeOut := false } }

/-- STROBE_IN_EDGE: a strobe while EXT_EN = 1, a freeze while STROBE_FREEZE = 1 (R63, R442, R453). -/
def strobeInEdge (s : State) : State :=
  let t := if s.glb.extEn then s.strobe else s
  if t.obs.strobe then t.captureLocal 2 else t

/-- A write of a command register, a doorbell or a mailbox register: its command; none at any other register. -/
def State.writeCommand (s : State) (ap : Aperture) (pl : Place) (o : Nat) (v : Word) : Option State :=
  match pl, o with
  | .seam, 0 => some (s.writeSeamCmd ap v)
  | .tal, 0 => some (s.writeTalCmd ap v)
  | .face, 0 => some (s.writeFaceCmd ap v)
  | .wnd, 0 => some (s.writeWndCmd ap v)
  | .mov, 0 => some (s.writeMovCmd ap v)
  | .ctx, 0 => some (s.writeCtxCmd ap v)
  | .hst, 0 => some (s.writeHstCmd ap v)
  | .flt, 0 => some (s.writeFltCmd ap v)
  | .flt, 0x24 => some (if v.getLsbD 0 then fltKick ap s else s)
  | .obs, 0 => some (s.writeObsCmd ap v)
  | .upd, 0 => some (if v.getLsbD 0 then updStrobeGo ap s else s)
  | .vlt, 0 =>
    let n := (v.extractLsb' 20 12).toNat
    some (match (v.extractLsb' 0 4).toNat with
      | 1 => s.vltCmd ap n false fun a s => if s.originCheck n = 0 then s else s.cmdEnd .vlt a n (s.originCheck n)
      | 2 => vltRetire ap n s
      | 3 => vltZeroise ap n s
      | _ => s.noAction .vlt (apIdx ap))
  | .lse, 0x10 =>
    some (match (v.extractLsb' 0 4).toNat with
      | 1 => s.lseCmd ap fun a s => if s.glb.state ≠ 2 then s.cmdEnd .lse a 0 2 else s
      | 2 => lseMove ap s
      | _ => s.noAction .lse (apIdx ap))
  | .ts t, 4 =>
    some (match (v.extractLsb' 0 4).toNat with
      | 1 => tsRestart ap t s
      | 2 => tsRekey ap t s
      | _ => s)
  | .yf, 0x10 => some (if v.extractLsb' 28 4 = 1 then yfRevive ap (v.extractLsb' 0 8).toNat s else s)
  | .mbx, 0 => some (s.mbxSelect ap v)
  | .mbx, o => some (match slotAt o 0x20 4 8 with
      | some k => mbxDataWrite ap k v s
      | none => s)
  | .doorbell, o => some (movDoorbell ap (o / 4) (v.setWidth 12) s)
  | .mov, o => (slotAt o 0x2000 4 32).map fun c => movDoorbell ap c (v.setWidth 12) s
  | _, _ => none

/-! ### Dual writes (R50 to R52) -/

/-- The DW registers: GLB_MODE, UPD_CTRL, FLT_CANARY, LCS_CMD, OBS_CTRL, the last a reserved location in a partition aperture (R449). -/
def isDw (ap : Aperture) (pl : Place) (o : Nat) : Bool :=
  match pl with
  | .glb => o == 0x10
  | .upd => o == 0x40
  | .flt => o == 0x20
  | .lcs => o == 4
  | .obs => o == 0x20 && viewOf ap == 0
  | _ => false

/-- GLB_DW_FAIL counts one. -/
def State.dwFailed (s : State) : State := { s with glb := { s.glb with dwFail := satInc s.glb.dwFail } }

/-- The pending value of an aperture. -/
def State.dwPending (s : State) (a : Nat) : Option (Nat × Word) := s.glb.dwPend.find a

/-- The pending value of an aperture gone. -/
def State.dropDw (s : State) (a : Nat) : State := { s with glb := { s.glb with dwPend := s.glb.dwPend.erase a } }

/-- FLT_CANARY takes a value within its ranges; another is refused (R431, Table 16.14, DEDUCED, log 58). -/
def State.setCanary (s : State) (v : Word) : State :=
  let e := (v.extractLsb' 9 7).toNat
  let r := (v.extractLsb' 6 3).toNat
  let l := (v.extractLsb' 0 6).toNat
  if 10 ≤ e ∧ e ≤ 80 ∧ 1 ≤ r ∧ r ≤ 6 ∧ 1 ≤ l then { s with flt := { s.flt with canEngine := e, canReplay := r, canLamp := l } } else s.dwFailed

/-- GLB_MODE takes a value; COMPAT set to 0 strobes what is buffered (R63, DEDUCED, log 58). -/
def State.setMode (s : State) (v : Word) : State :=
  let t := { s with glb := { s.glb with compat := v.getLsbD 0 } }
  if s.glb.compat ∧ !v.getLsbD 0 then t.strobe else t

/-- A DW register takes its value (R50). -/
def State.dwApply (s : State) (ap : Aperture) (pl : Place) (v : Word) : State :=
  match pl with
  | .glb => s.setMode v
  | .upd => { s with glb := { s.glb with outWidth := v.extractLsb' 12 4, fwdOut := v.getLsbD 1, extEn := v.getLsbD 0 } }
  | .flt => s.setCanary v
  | .obs => s.modObs fun o => { o with strobe := v.getLsbD 1, accept := v.getLsbD 0 }
  | .lcs =>
    let t := s.modInst .lcs (apIdx ap) fun i => { i with regs := i.regs.put 4 (v &&& 0xF) }
    match (v.extractLsb' 0 4).toNat with
    | 1 => t.lcsCmd ap fun _ s => s
    | 2 => lcsScrap ap t
    | _ => t.noAction .lcs (apIdx ap)
  | _ => s

/-- A write at a DW register address: its value becomes the aperture's pending one, an earlier one being discarded and counted (R50, R51). -/
def State.dwFirst (s : State) (ap : Aperture) (off : Nat) (v : Word) : State :=
  let a := apIdx ap
  let t := if (s.dwPending a).isSome then s.dwFailed else s
  { t with glb := { t.glb with dwPend := t.glb.dwPend.put a (off, v) } }

/-- A write at a complement address: the pending value in force when it belongs to the register and this is its complement; else it is
discarded, and the failure counted once (R50). -/
def State.dwComplement (s : State) (ap : Aperture) (off : Nat) (v : Word) : State :=
  let a := apIdx ap
  let reg := off - 0x8000
  let t := s.dropDw a
  if s.dwPending a = some (reg, ~~~v) then t.dwApply ap (placeOf ap reg) (~~~v) else t.dwFailed

/-- DW_FIRST_WRITE. -/
def dwFirstWrite (ap : Aperture) (off : Nat) (v : Word) (s : State) : State :=
  if isDw ap (placeOf ap off) (off % 65536) then s.gateWrite ap off fun s => s.dwFirst ap off v else s

/-- DW_COMPLEMENT_WRITE. -/
def dwComplementWrite (ap : Aperture) (off : Nat) (v : Word) (s : State) : State :=
  if 0x8000 ≤ off % 65536 ∧ isDw ap (placeOf ap off) (off % 65536 - 0x8000) then s.gateWrite ap off fun s => s.dwComplement ap off v else s

/-- DW_WINDOW_EXPIRE: no complement within 256 control-clock cycles (R50). -/
def dwWindowExpire (ap : Aperture) (s : State) : State :=
  let a := apIdx ap
  if (s.dwPending a).isSome then (s.dropDw a).dwFailed else s

/-! ### The aliased-bit window (R58 to R60) -/

/-- A word with one bit given a value. -/
def putBit (w : Word) (b : Nat) (x : Bool) : Word := if x then setBit w b else w &&& ~~~((1 : Word) <<< b)

/-- An aliased write of a value to bit b of the GLB_ register at A (Table 3.6). -/
def State.aliasBit (s : State) (A b : Nat) (x : Bool) : State :=
  if A = 0x10 ∧ b = 0 then s.dwFailed
  else if A = 0x34 ∧ b = 0 ∧ x then s.writeGlb 0 0x34 1
  else if A = 0x104 ∧ b < 9 then
    let old := if s.glb.compat then s.glb.buf.getD (enableKey 0 .glb) s.glb.irqEn else s.glb.irqEn
    s.writeGlb 0 0x104 (putBit old b x)
  else if A = 0x110 then s.writeGlb 0 0x110 (putBit s.glb.scratch b x)
  else s

/-- The write of a word of the aliased-bit window x bytes into it: bit 0 of the value goes to its bit of its register (R58, R59). -/
def State.aliasAt (s : State) (x : Nat) (v : Word) : State :=
  if x / 128 < 0x8000 then s.aliasBit (x / 128) (x % 128 / 4) (v.getLsbD 0) else s

/-- ALIAS_WRITE at an offset of the aperture: a word of the window acts on its one bit (R59). -/
def aliasWrite (ap : Aperture) (off : Nat) (v : Word) (s : State) : State :=
  if placeOf ap off = .aliasWin ∧ off % 4 = 0 then s.gateWrite ap off fun s => s.aliasAt (off - 0x2000000) v else s

/-! ### Any write (R40 to R43) -/

/-- A well-formed write at an offset. -/
def State.writeAt (s : State) (ap : Aperture) (off : Nat) (v : Word) : State :=
  let pl := placeOf ap off
  let o := off % 65536
  if pl = .aliasWin then aliasWrite ap off v s
  else if 0x8000 ≤ o ∧ pl ≠ .doorbell then dwComplementWrite ap off v s
  else if isDw ap pl o then dwFirstWrite ap off v s
  else s.gateWrite ap off fun s => (s.writeCommand ap pl o v).getD (s.writeField ap pl o v)

/-- REGISTER_WRITE (R40, R41). -/
def registerWrite (a : Access) (v : Word) (s : State) : State :=
  if s.silent a.ap then s
  else if s.tlpRefused a.ap then s.logRefused a.ap
  else match accessKind a with
    | some k => s.accessError a k true
    | none => s.writeAt a.ap a.off v

end Sys2Proof.Machine
end

