-- ==== Sys2Proof/Machine/Exec.lean ====
section
/-!
DEFINITION. Machine/Exec.lean: the meaning of each command as `exec` calls it: what the command's family does, under the conditions in which
the block takes a command of that sort at all, followed by what the command leaves to the engines (`State.settle`) where it can leave
anything. A command that comes when it cannot happen leaves the block as it is (DESIGN CHOICE, log 3).
-/

namespace Sys2Proof.Machine

/-! ### When commands are taken -/

/-- Operands in range. -/
def State.given (s : State) (ok : Bool) (f : State → State) : State := if ok then f s else s

/-- The block runs: out of power-on reset, not Scrapped, not tampered with (R394, R399, R457). -/
def State.live (s : State) (ok : Bool) (f : State → State) : State := if s.alive && ok then f s else s

/-- New work at a port is taken: no chip-level reset asks for quiet (R457). -/
def State.open_ (s : State) (ok : Bool) (f : State → State) : State := s.live (!s.quiesced && ok) f

/-- A site or fabric link is active: in RUN, or from step 13 of a start on (R419). -/
def State.linksOn (s : State) : Bool := s.inRun || (s.glb.state != 2 && decide (13 ≤ s.glb.step))

/-- New work at a site or fabric port. -/
def State.portIn (s : State) (ok : Bool) (f : State → State) : State := s.open_ (s.linksOn && ok) f

/-- New work of a partition function at the host port, which needs RUN (R68). -/
def State.hostIn (s : State) (ok : Bool) (f : State → State) : State := s.open_ (s.inRun && ok) f

/-- Work of a shaft, which stands while its engine step runs (R434). -/
def State.shaftIn (s : State) (k : Nat) (f : State → State) : State := s.live (isShaft k && !s.inEngStep (.shaft k)) f

/-! ### Registers, mailbox, aliased-bit window, update timing (03) -/

/-- REGISTER_WRITE (R40). -/
def execRegisterWrite (a : Access) (v : Word) (s : State) : Host.Outcome State Fault Refusal :=
  .next (s.given (apOk a.ap) (registerWrite a v)).settle

/-- RC_READ (R48). -/
def execRcRead (ap : Aperture) (off : Nat) (s : State) : Host.Outcome State Fault Refusal :=
  .next (s.given (apOk ap) (rcRead ap off))

/-- DW_FIRST_WRITE (R50). -/
def execDwFirstWrite (ap : Aperture) (off : Nat) (v : Word) (s : State) : Host.Outcome State Fault Refusal :=
  .next (s.given (apOk ap) (dwFirstWrite ap off v))

/-- DW_COMPLEMENT_WRITE (R50). -/
def execDwComplementWrite (ap : Aperture) (off : Nat) (v : Word) (s : State) : Host.Outcome State Fault Refusal :=
  .next (s.given (apOk ap) (dwComplementWrite ap off v)).settle

/-- DW_WINDOW_EXPIRE (R50). -/
def execDwWindowExpire (ap : Aperture) (s : State) : Host.Outcome State Fault Refusal :=
  .next (s.given (apOk ap) (dwWindowExpire ap))

/-- MBX_SEL_READ (R54). -/
def execMbxSelRead (ap : Aperture) (cls : BitVec 7) (idx : BitVec 24) (s : State) : Host.Outcome State Fault Refusal :=
  .next (s.given (apOk ap && hasMbx ap) fun s => s.atReg ap .mbx 0 (mbxSelRead ap cls idx))

/-- MBX_SEL_WRITE (R55). -/
def execMbxSelWrite (ap : Aperture) (cls : BitVec 7) (idx : BitVec 24) (s : State) : Host.Outcome State Fault Refusal :=
  .next (s.given (apOk ap && hasMbx ap) fun s => s.atReg ap .mbx 0 (mbxSelWrite ap cls idx))

/-- MBX_CAPTURE_DONE (R54). -/
def execMbxCaptureDone (ap : Aperture) (ecc : Ecc) (s : State) : Host.Outcome State Fault Refusal :=
  .next (s.given (apOk ap && hasMbx ap) fun s => s.atReg ap .mbx 0 (mbxCaptureDone ap ecc))

/-- MBX_DATA_WRITE (R56). -/
def execMbxDataWrite (ap : Aperture) (k : Nat) (v : Word) (s : State) : Host.Outcome State Fault Refusal :=
  .next (s.given (apOk ap && hasMbx ap && isWord k) fun s => s.atReg ap .mbx 0 (mbxDataWrite ap k v)).settle

/-- ALIAS_WRITE (R59). -/
def execAliasWrite (ap : Aperture) (off : Nat) (v : Word) (s : State) : Host.Outcome State Fault Refusal :=
  .next (s.given (apOk ap) (aliasWrite ap off v))

/-- UPD_STROBE_GO (R63). -/
def execUpdStrobeGo (ap : Aperture) (s : State) : Host.Outcome State Fault Refusal :=
  .next (s.given (apOk ap) (updStrobeGo ap))

/-- STROBE_OUT_PULSE_END (R64). -/
def execStrobeOutPulseEnd (s : State) : Host.Outcome State Fault Refusal :=
  .next (strobeOutPulseEnd s)

/-- STROBE_IN_EDGE (R453). -/
def execStrobeInEdge (s : State) : Host.Outcome State Fault Refusal :=
  .next (s.live true strobeInEdge)

/-! ### Seams (04) -/

/-- SEAM_CREATE (R81). -/
def execSeamCreate (ap : Aperture) (n : Nat) (s : State) : Host.Outcome State Fault Refusal :=
  .next (s.given (apOk ap && isSeam n) fun s => s.atReg ap .seam 0 (seamCreate ap n)).settle

/-- SEAM_FILL_DONE (R82). -/
def execSeamFillDone (n : Nat) (s : State) : Host.Outcome State Fault Refusal :=
  .next (s.live (isSeam n) (seamFillDone n)).settle

/-- SEAM_SEAL (R83). -/
def execSeamSeal (ap : Aperture) (n : Nat) (s : State) : Host.Outcome State Fault Refusal :=
  .next (s.given (apOk ap && isSeam n) fun s => s.atReg ap .seam 0 (seamSeal ap n)).settle

/-- SEAL_POINT (R83). -/
def execSealPoint (n : Nat) (s : State) : Host.Outcome State Fault Refusal :=
  .next (s.live (isSeam n) (sealPoint n)).settle

/-- SEAM_UNSEAL (R84). -/
def execSeamUnseal (ap : Aperture) (n : Nat) (s : State) : Host.Outcome State Fault Refusal :=
  .next (s.given (apOk ap && isSeam n) fun s => s.atReg ap .seam 0 (seamUnseal ap n)).settle

/-- SEAM_REKEY (R95). -/
def execSeamRekey (ap : Aperture) (n : Nat) (s : State) : Host.Outcome State Fault Refusal :=
  .next (s.given (apOk ap && isSeam n) fun s => s.atReg ap .seam 0 (seamRekey ap n)).settle

/-- SEAM_RETIRE (R85). -/
def execSeamRetire (ap : Aperture) (n : Nat) (s : State) : Host.Outcome State Fault Refusal :=
  .next (s.given (apOk ap && isSeam n) fun s => s.atReg ap .seam 0 (seamRetire ap n)).settle

/-- SEAM_DEAD (R85). -/
def execSeamDead (n : Nat) (s : State) : Host.Outcome State Fault Refusal :=
  .next (s.live (isSeam n) (seamDead n)).settle

/-- SEAM_FREE (R85). -/
def execSeamFree (ap : Aperture) (n : Nat) (s : State) : Host.Outcome State Fault Refusal :=
  .next (s.given (apOk ap && isSeam n) fun s => s.atReg ap .seam 0 (seamFree ap n)).settle

/-- SEAM_UNFREEZE (R99). -/
def execSeamUnfreeze (ap : Aperture) (n : Nat) (s : State) : Host.Outcome State Fault Refusal :=
  .next (s.given (apOk ap && isSeam n) fun s => s.atReg ap .seam 0 (seamUnfreeze ap n)).settle

/-- DRIFT_START (R91). -/
def execDriftStart (k : Nat) (s : State) : Host.Outcome State Fault Refusal :=
  .next (s.live (isShaft k) (driftStart k)).settle

/-- SWEEP_PAGE (R93). -/
def execSweepPage (k : Nat) (lines : List HubLine) (ecc : Ecc) (s : State) : Host.Outcome State Fault Refusal :=
  .next (s.live (isShaft k) (sweepPage k lines ecc)).settle

/-- PERIODIC_DRIFT_DUE (R97). -/
def execPeriodicDriftDue (n : Nat) (s : State) : Host.Outcome State Fault Refusal :=
  .next (s.live (isSeam n) (periodicDriftDue n)).settle

/-- REKEY_OVERRUN (R97). -/
def execRekeyOverrun (n : Nat) (s : State) : Host.Outcome State Fault Refusal :=
  .next (s.live (isSeam n) (rekeyOverrun n)).settle

/-- BUDGET_WINDOW_CLOSE (R98). -/
def execBudgetWindowClose (n : Nat) (s : State) : Host.Outcome State Fault Refusal :=
  .next (s.live (isSeam n) (budgetWindowClose n)).settle

/-- WRITE_TOKEN_ARRIVE (R88). -/
def execWriteTokenArrive (n : Nat) (s : State) : Host.Outcome State Fault Refusal :=
  .next (s.live (isSeam n) (writeTokenArrive n)).settle

/-! ### The shaft path (05) -/

/-- SHAFT_READ (R116). -/
def execShaftRead (k : Nat) (s : State) : Host.Outcome State Fault Refusal :=
  .next (s.shaftIn k (shaftRead k)).settle

/-- COUNTER_FETCH_DONE (R108). -/
def execCounterFetchDone (k : Nat) (blk : Nat) (ecc : Ecc) (s : State) : Host.Outcome State Fault Refusal :=
  .next (s.live (isShaft k) (counterFetchDone k blk ecc)).settle

/-- PAD_READY (R35). -/
def execPadReady (k : Nat) (tag : Nat) (s : State) : Host.Outcome State Fault Refusal :=
  .next (s.shaftIn k (padReady k tag)).settle

/-- HUB_READ_RETURN (R117). -/
def execHubReadReturn (k : Nat) (tag : Nat) (l : HubLine) (s : State) : Host.Outcome State Fault Refusal :=
  .next (s.shaftIn k (hubReadReturn k tag l)).settle

/-- CORRECTION_VERDICT (R118). -/
def execCorrectionVerdict (k : Nat) (s : State) : Host.Outcome State Fault Refusal :=
  .next (s.shaftIn k (correctionVerdict k)).settle

/-- EGRESS_RELEASE (R122). -/
def execEgressRelease (p : Nat) (pt : EgressPoint) (s : State) : Host.Outcome State Fault Refusal :=
  .next (s.live (isPart p && isPoint pt) (egressRelease p pt)).settle

/-- SHAFT_WRITE (R126). -/
def execShaftWrite (k : Nat) (s : State) : Host.Outcome State Fault Refusal :=
  .next (s.shaftIn k (shaftWrite k)).settle

/-- REFRESH_DONE (R89). -/
def execRefreshDone (k : Nat) (lines : List HubLine) (s : State) : Host.Outcome State Fault Refusal :=
  .next (s.live (isShaft k) (refreshDone k lines)).settle

/-- PARTIAL_OLD_LINE_RETURN (R128). -/
def execPartialOldLineReturn (k : Nat) (tag : Nat) (l : HubLine) (s : State) : Host.Outcome State Fault Refusal :=
  .next (s.shaftIn k (partialOldLineReturn k tag l)).settle

/-- HUB_WRITE_ACK (R105). -/
def execHubWriteAck (k : Nat) (line : Nat) (s : State) : Host.Outcome State Fault Refusal :=
  .next (s.live (isShaft k) (hubWriteAck k line)).settle

/-- LANE_SAMPLE (R132). -/
def execLaneSample (c : Nat) (r : Sample) (s : State) : Host.Outcome State Fault Refusal :=
  .next (s.live (isCluster c) (laneSample c r)).settle

/-! ### The Inner Store (06) -/

/-- INNER_PAGE_ACCESS (R143). -/
def execInnerPageAccess (q : Nat) (key : Nat) (ecc : Ecc) (s : State) : Host.Outcome State Fault Refusal :=
  .next (s.live (isQuad q) (innerPageAccess q key ecc)).settle

/-- SCRUB_WORD_READ (R148). -/
def execScrubWordRead (q : Nat) (word : Nat) (ecc : Ecc) (s : State) : Host.Outcome State Fault Refusal :=
  .next (s.live (isQuad q && isScrubWord word) (scrubWordRead q word ecc)).settle

/-- SCRUB_PASS_END (R149). -/
def execScrubPassEnd (q : Nat) (s : State) : Host.Outcome State Fault Refusal :=
  .next (s.live (isQuad q) (scrubPassEnd q)).settle

/-- SHARE_ZERO_DONE (R146). -/
def execShareZeroDone (k : Nat) (s : State) : Host.Outcome State Fault Refusal :=
  .next (s.live (isShaft k) (shareZeroDone k)).settle

/-! ### Chiplet links (07) -/

/-- SITE_LINK_UP (R176). -/
def execSiteLinkUp (t : Nat) (cfgOk : Bool) (s : State) : Host.Outcome State Fault Refusal :=
  .next (s.portIn (isSite t) (siteLinkUp t cfgOk)).settle

/-- SITE_LINK_DOWN (R175). -/
def execSiteLinkDown (t : Nat) (s : State) : Host.Outcome State Fault Refusal :=
  .next (s.portIn (isSite t) (siteLinkDown t)).settle

/-- FRAME_RECEIVE (R173). -/
def execFrameReceive (t : Nat) (frame : List Byte) (s : State) : Host.Outcome State Fault Refusal :=
  .next (s.portIn (isSite t) (frameReceive t frame)).settle

/-- REQ_FRAME (R163). -/
def execReqFrame (t : Nat) (s : State) : Host.Outcome State Fault Refusal :=
  .next (s.live (isSite t) (reqFrame t)).settle

/-- DATA_FRAME (R163). -/
def execDataFrame (t : Nat) (s : State) : Host.Outcome State Fault Refusal :=
  .next (s.live (isSite t) (dataFrame t)).settle

/-- SITE_SLOT_ISSUE (R225). -/
def execSiteSlotIssue (t : Nat) (tag : Nat) (s : State) : Host.Outcome State Fault Refusal :=
  .next (s.live (isSite t) (siteSlotIssue t tag)).settle

/-- CTRL_HELLO (R183). -/
def execCtrlHello (t : Nat) (h : ShimHello) (s : State) : Host.Outcome State Fault Refusal :=
  .next (s.portIn (isSite t) (ctrlHello t h)).settle

/-- CTRL_RESPONSE (R176). -/
def execCtrlResponse (t : Nat) (r : ShimResponse) (s : State) : Host.Outcome State Fault Refusal :=
  .next (s.portIn (isSite t) (ctrlResponse t r)).settle

/-- CTRL_KEY_CONFIRM (R176). -/
def execCtrlKeyConfirm (t : Nat) (s : State) : Host.Outcome State Fault Refusal :=
  .next (s.live (isSite t) (ctrlKeyConfirm t)).settle

/-- CTRL_CREDIT (R171). -/
def execCtrlCredit (t : Nat) (s : State) : Host.Outcome State Fault Refusal :=
  .next (s.live (isSite t) (ctrlCredit t)).settle

/-- CTRL_REPLAY (R174). -/
def execCtrlReplay (t : Nat) (s : State) : Host.Outcome State Fault Refusal :=
  .next (s.live (isSite t) (ctrlReplay t)).settle

/-- CTRL_REPLAY_LOST (R174). -/
def execCtrlReplayLost (t : Nat) (s : State) : Host.Outcome State Fault Refusal :=
  .next (s.live (isSite t) (ctrlReplayLost t)).settle

/-- CTRL_REPLAY_FAILED (R174). -/
def execCtrlReplayFailed (t : Nat) (s : State) : Host.Outcome State Fault Refusal :=
  .next (s.live (isSite t) (ctrlReplayFailed t)).settle

/-- CTRL_RESYNC (R175). -/
def execCtrlResync (t : Nat) (s : State) : Host.Outcome State Fault Refusal :=
  .next (s.live (isSite t) (ctrlResync t)).settle

/-- CTRL_REKEY (R178). -/
def execCtrlRekey (t : Nat) (s : State) : Host.Outcome State Fault Refusal :=
  .next (s.live (isSite t) (ctrlRekey t)).settle

/-- CTRL_FLUSH_DONE (R183). -/
def execCtrlFlushDone (t : Nat) (s : State) : Host.Outcome State Fault Refusal :=
  .next (s.live (isSite t) (ctrlFlushDone t)).settle

/-- BRINGUP_TIMEOUT (R176). -/
def execBringupTimeout (t : Nat) (s : State) : Host.Outcome State Fault Refusal :=
  .next (s.live (isSite t) (bringupTimeout t)).settle

/-- RESYNC_TIMEOUT (R175). -/
def execResyncTimeout (t : Nat) (s : State) : Host.Outcome State Fault Refusal :=
  .next (s.live (isSite t) (resyncTimeout t)).settle

/-- TS_RESTART (R181). -/
def execTsRestart (ap : Aperture) (t : Nat) (s : State) : Host.Outcome State Fault Refusal :=
  .next (s.given (apOk ap && isSite t) fun s => s.atReg ap (.ts t) 4 (tsRestart ap t)).settle

/-- TS_REKEY (R178). -/
def execTsRekey (ap : Aperture) (t : Nat) (s : State) : Host.Outcome State Fault Refusal :=
  .next (s.given (apOk ap && isSite t) fun s => s.atReg ap (.ts t) 4 (tsRekey ap t)).settle

/-! ### The fabric (08) -/

/-- FABRIC_PORT_UP (R212). -/
def execFabricPortUp (p : Nat) (s : State) : Host.Outcome State Fault Refusal :=
  .next (s.portIn (isPort p) (fabricPortUp p)).settle

/-- FABRIC_PORT_DOWN (R204). -/
def execFabricPortDown (p : Nat) (s : State) : Host.Outcome State Fault Refusal :=
  .next (s.portIn (isPort p) (fabricPortDown p)).settle

/-- CODEWORD_RECEIVE (R189). -/
def execCodewordReceive (p : Nat) (hdr : BitVec 20) (units : List Block) (bad : Bool) (s : State) : Host.Outcome State Fault Refusal :=
  .next (s.portIn (isPort p) (codewordReceive p hdr units bad)).settle

/-- PACKET_TRANSIT (R206). -/
def execPacketTransit (p : Nat) (s : State) : Host.Outcome State Fault Refusal :=
  .next (s.live (isPort p) (packetTransit p)).settle

/-- PACKET_DELIVER (R201). -/
def execPacketDeliver (p : Nat) (s : State) : Host.Outcome State Fault Refusal :=
  .next (s.live (isPort p) (packetDeliver p)).settle

/-- PACKET_VERDICT (R201). -/
def execPacketVerdict (p : Nat) (s : State) : Host.Outcome State Fault Refusal :=
  .next (s.live (isPort p) (packetVerdict p)).settle

/-- HELLO_TIMER (R212). -/
def execHelloTimer (p : Nat) (s : State) : Host.Outcome State Fault Refusal :=
  .next (s.live (isPort p) (helloTimer p)).settle

/-- HELLO_RECEIVE (R213). -/
def execHelloReceive (p : Nat) (s : State) : Host.Outcome State Fault Refusal :=
  .next (s.live (isPort p) (helloReceive p)).settle

/-- ANNOUNCE_TIMER (R214). -/
def execAnnounceTimer (s : State) : Host.Outcome State Fault Refusal :=
  .next (s.live true announceTimer).settle

/-- ANNOUNCE_RECEIVE (R214). -/
def execAnnounceReceive (p : Nat) (s : State) : Host.Outcome State Fault Refusal :=
  .next (s.live (isPort p) (announceReceive p)).settle

/-- ANNOUNCE_SILENT (R214). -/
def execAnnounceSilent (p : Nat) (s : State) : Host.Outcome State Fault Refusal :=
  .next (s.live (isPort p) (announceSilent p)).settle

/-- DISPUTE_RECEIVE (R214). -/
def execDisputeReceive (p : Nat) (s : State) : Host.Outcome State Fault Refusal :=
  .next (s.live (isPort p) (disputeReceive p)).settle

/-- ROUTE_FAIL_RECEIVE (R207). -/
def execRouteFailReceive (p : Nat) (s : State) : Host.Outcome State Fault Refusal :=
  .next (s.live (isPort p) (routeFailReceive p)).settle

/-- ROUTE_OK_RECEIVE (R207). -/
def execRouteOkReceive (p : Nat) (s : State) : Host.Outcome State Fault Refusal :=
  .next (s.live (isPort p) (routeOkReceive p)).settle

/-- TIME_SYNC_TIMER (R414). -/
def execTimeSyncTimer (s : State) : Host.Outcome State Fault Refusal :=
  .next (s.live true timeSyncTimer).settle

/-- TIME_SYNC_RECEIVE (R414). -/
def execTimeSyncReceive (p : Nat) (s : State) : Host.Outcome State Fault Refusal :=
  .next (s.live (isPort p) (timeSyncReceive p)).settle

/-- SLOT_BOUNDARY (R209). -/
def execSlotBoundary (unit : Nat) (s : State) : Host.Outcome State Fault Refusal :=
  .next (s.live (isSlotUnit unit) (slotBoundary unit)).settle

/-- FORM_START_TIMER (R217). -/
def execFormStartTimer (s : State) : Host.Outcome State Fault Refusal :=
  .next (s.live true formStartTimer).settle

/-- FORM_START_RECEIVE (R216). -/
def execFormStartReceive (p : Nat) (v : PkVerdict) (s : State) : Host.Outcome State Fault Refusal :=
  .next (s.live (isPort p) (formStartReceive p v)).settle

/-- EVIDENCE_RECEIVE (R218). -/
def execEvidenceReceive (p : Nat) (v : PkVerdict) (s : State) : Host.Outcome State Fault Refusal :=
  .next (s.live (isPort p) (evidenceReceive p v)).settle

/-- KEYS_RECEIVE (R218). -/
def execKeysReceive (p : Nat) (v : PkVerdict) (s : State) : Host.Outcome State Fault Refusal :=
  .next (s.live (isPort p) (keysReceive p v)).settle

/-- CONFIRM_RECEIVE (R218). -/
def execConfirmReceive (p : Nat) (s : State) : Host.Outcome State Fault Refusal :=
  .next (s.live (isPort p) (confirmReceive p)).settle

/-- FORM_WINDOW_END (R218). -/
def execFormWindowEnd (s : State) : Host.Outcome State Fault Refusal :=
  .next (s.live true formWindowEnd).settle

/-- FORMED_RECEIVE (R218). -/
def execFormedReceive (p : Nat) (v : PkVerdict) (s : State) : Host.Outcome State Fault Refusal :=
  .next (s.live (isPort p) (formedReceive p v)).settle

/-- REJECT_RECEIVE (R218). -/
def execRejectReceive (p : Nat) (v : PkVerdict) (s : State) : Host.Outcome State Fault Refusal :=
  .next (s.live (isPort p) (rejectReceive p v)).settle

/-- JOINED_RECEIVE (R220). -/
def execJoinedReceive (p : Nat) (s : State) : Host.Outcome State Fault Refusal :=
  .next (s.live (isPort p) (joinedReceive p)).settle

/-- CANDIDATE_TIMEOUT (R216). -/
def execCandidateTimeout (s : State) : Host.Outcome State Fault Refusal :=
  .next (s.live true candidateTimeout).settle

/-- JOIN_TIMEOUT (R220). -/
def execJoinTimeout (s : State) : Host.Outcome State Fault Refusal :=
  .next (s.live true joinTimeout).settle

/-- JOIN_RETRY (R220). -/
def execJoinRetry (s : State) : Host.Outcome State Fault Refusal :=
  .next (s.live true joinRetry).settle

/-- LEAVE_DOMAIN (R221). -/
def execLeaveDomain (s : State) : Host.Outcome State Fault Refusal :=
  .next (s.live true leaveDomain).settle

/-- GENERATION_SWITCH (R221). -/
def execGenerationSwitch (s : State) : Host.Outcome State Fault Refusal :=
  .next (s.live true generationSwitch).settle

/-- FLOW_KEY_EXPIRE (R202). -/
def execFlowKeyExpire (part : Nat) (s : State) : Host.Outcome State Fault Refusal :=
  .next (s.live (isPartOrBlock part) (flowKeyExpire part)).settle

/-- REQUEST_TIMEOUT (R222). -/
def execRequestTimeout (tag : Nat) (s : State) : Host.Outcome State Fault Refusal :=
  .next (s.live (isTag tag) (requestTimeout tag)).settle

/-- YF_REVIVE (R222). -/
def execYfRevive (ap : Aperture) (node : Nat) (s : State) : Host.Outcome State Fault Refusal :=
  .next (s.given (apOk ap && isNode node) fun s => s.atReg ap .yf 0x10 (yfRevive ap node)).settle

/-! ### Operations across the fabric (09) -/

/-- HOME_REQUEST (R238). -/
def execHomeRequest (q : Nat) (src : Nat) (part : Nat) (tag : Nat) (s : State) : Host.Outcome State Fault Refusal :=
  .next (s.live (isQuad q && isNode src && isTag tag) (homeRequest q src part tag)).settle

/-- ENTRY_FREED (R239). -/
def execEntryFreed (q : Nat) (entry : Nat) (s : State) : Host.Outcome State Fault Refusal :=
  .next (s.live (isQuad q) (entryFreed q entry)).settle

/-- TICKET_LAPSE (R239). -/
def execTicketLapse (q : Nat) (part : Nat) (no : Nat) (s : State) : Host.Outcome State Fault Refusal :=
  .next (s.live (isQuad q && isPart part) (ticketLapse q part no)).settle

/-- LOCK_WAIT_TIMEOUT (R243). -/
def execLockWaitTimeout (q : Nat) (entry : Nat) (s : State) : Host.Outcome State Fault Refusal :=
  .next (s.live (isQuad q) (lockWaitTimeout q entry)).settle

/-- ANSWER_RECEIVE (R226). -/
def execAnswerReceive (tag : Nat) (s : State) : Host.Outcome State Fault Refusal :=
  .next (s.live (isTag tag) (answerReceive tag)).settle

/-- NACK_RECEIVE (R241). -/
def execNackReceive (tag : Nat) (s : State) : Host.Outcome State Fault Refusal :=
  .next (s.live (isTag tag) (nackReceive tag)).settle

/-- NACK_RETRY (R241). -/
def execNackRetry (tag : Nat) (s : State) : Host.Outcome State Fault Refusal :=
  .next (s.live (isTag tag) (nackRetry tag)).settle

/-- FENCE_COMPLETE (R234). -/
def execFenceComplete (e : Engine) (ctx : BitVec 16) (s : State) : Host.Outcome State Fault Refusal :=
  .next (s.live (isEngine e) (fenceComplete e ctx)).settle

/-- CART_END (R246). -/
def execCartEnd (t : Nat) (ctx : BitVec 16) (s : State) : Host.Outcome State Fault Refusal :=
  .next (s.live (isSite t) (cartEnd t ctx)).settle

/-- CART_END_TIMEOUT (R244). -/
def execCartEndTimeout (t : Nat) (ctx : BitVec 16) (s : State) : Host.Outcome State Fault Refusal :=
  .next (s.live (isSite t) (cartEndTimeout t ctx)).settle

/-- CART_PREPARE (R246). -/
def execCartPrepare (q : Nat) (src : Nat) (part : Nat) (tag : Nat) (s : State) : Host.Outcome State Fault Refusal :=
  .next (s.live (isQuad q && isNode src && isTag tag) (cartPrepare q src part tag)).settle

/-- CART_SOLO (R248). -/
def execCartSolo (q : Nat) (src : Nat) (part : Nat) (tag : Nat) (s : State) : Host.Outcome State Fault Refusal :=
  .next (s.live (isQuad q && isNode src && isTag tag) (cartSolo q src part tag)).settle

/-- SOLO_TIMEOUT (R248). -/
def execSoloTimeout (q : Nat) (issuer : Nat) (cart : Nat) (s : State) : Host.Outcome State Fault Refusal :=
  .next (s.live (isQuad q) (soloTimeout q issuer cart)).settle

/-- CART_VOTE (R246). -/
def execCartVote (tag : Nat) (s : State) : Host.Outcome State Fault Refusal :=
  .next (s.live (isTag tag) (cartVote tag)).settle

/-- CART_SOLO_VOTE (R248). -/
def execCartSoloVote (tag : Nat) (s : State) : Host.Outcome State Fault Refusal :=
  .next (s.live (isTag tag) (cartSoloVote tag)).settle

/-- CART_DECIDE (R246). -/
def execCartDecide (q : Nat) (src : Nat) (part : Nat) (tag : Nat) (s : State) : Host.Outcome State Fault Refusal :=
  .next (s.live (isQuad q && isNode src && isTag tag) (cartDecide q src part tag)).settle

/-- CART_DECIDED (R250). -/
def execCartDecided (tag : Nat) (s : State) : Host.Outcome State Fault Refusal :=
  .next (s.live (isTag tag) (cartDecided tag)).settle

/-- CART_DECIDED_WAIT_EXPIRE (R246). -/
def execCartDecidedWaitExpire (cart : Nat) (s : State) : Host.Outcome State Fault Refusal :=
  .next (s.live true (cartDecidedWaitExpire cart)).settle

/-- CART_COMMIT (R246). -/
def execCartCommit (q : Nat) (src : Nat) (part : Nat) (tag : Nat) (s : State) : Host.Outcome State Fault Refusal :=
  .next (s.live (isQuad q && isNode src && isTag tag) (cartCommit q src part tag)).settle

/-- CART_ABORT (R246). -/
def execCartAbort (q : Nat) (src : Nat) (part : Nat) (tag : Nat) (s : State) : Host.Outcome State Fault Refusal :=
  .next (s.live (isQuad q && isNode src && isTag tag) (cartAbort q src part tag)).settle

/-- CART_DONE (R246). -/
def execCartDone (tag : Nat) (s : State) : Host.Outcome State Fault Refusal :=
  .next (s.live (isTag tag) (cartDone tag)).settle

/-- CART_QUERY (R246). -/
def execCartQuery (q : Nat) (src : Nat) (part : Nat) (tag : Nat) (s : State) : Host.Outcome State Fault Refusal :=
  .next (s.live (isQuad q && isNode src && isTag tag) (cartQuery q src part tag)).settle

/-- CART_ANSWER (R246). -/
def execCartAnswer (tag : Nat) (s : State) : Host.Outcome State Fault Refusal :=
  .next (s.live (isTag tag) (cartAnswer tag)).settle

/-- CART_MEMBER_TIMEOUT (R246). -/
def execCartMemberTimeout (q : Nat) (issuer : Nat) (cart : Nat) (s : State) : Host.Outcome State Fault Refusal :=
  .next (s.live (isQuad q) (cartMemberTimeout q issuer cart)).settle

/-- CART_QUERY_REPEAT (R246). -/
def execCartQueryRepeat (q : Nat) (issuer : Nat) (cart : Nat) (s : State) : Host.Outcome State Fault Refusal :=
  .next (s.live (isQuad q) (cartQueryRepeat q issuer cart)).settle

/-- CART_LEAD_TIMEOUT (R246). -/
def execCartLeadTimeout (q : Nat) (issuer : Nat) (cart : Nat) (s : State) : Host.Outcome State Fault Refusal :=
  .next (s.live (isQuad q) (cartLeadTimeout q issuer cart)).settle

/-- CART_ABORT_ENTRY_EXPIRE (R246). -/
def execCartAbortEntryExpire (q : Nat) (issuer : Nat) (cart : Nat) (s : State) : Host.Outcome State Fault Refusal :=
  .next (s.live (isQuad q) (cartAbortEntryExpire q issuer cart)).settle

/-! ### Faces (10) -/

/-- FACE_ARM (R260). -/
def execFaceArm (ap : Aperture) (target : Nat) (tally : BitVec 16) (s : State) : Host.Outcome State Fault Refusal :=
  .next (s.given (apOk ap && isTarget target) fun s => s.atReg ap .face 0 (faceArm ap target tally)).settle

/-- FACE_DISARM (R262). -/
def execFaceDisarm (ap : Aperture) (target : Nat) (s : State) : Host.Outcome State Fault Refusal :=
  .next (s.given (apOk ap && isTarget target) fun s => s.atReg ap .face 0 (faceDisarm ap target)).settle

/-- FACE_CLEAR (R266). -/
def execFaceClear (ap : Aperture) (target : Nat) (s : State) : Host.Outcome State Fault Refusal :=
  .next (s.given (apOk ap && isTarget target) fun s => s.atReg ap .face 0 (faceClear ap target)).settle

/-- FACE_CLEAR_DONE (R281). -/
def execFaceClearDone (target : Nat) (s : State) : Host.Outcome State Fault Refusal :=
  .next (s.live (isTarget target) (faceClearDone target)).settle

/-- CONTRIBUTION_APPLY (R263). -/
def execContributionApply (target : Nat) (ecc : Ecc) (s : State) : Host.Outcome State Fault Refusal :=
  .next (s.live (isTarget target) (contributionApply target ecc)).settle

/-- CONTRIBUTION_HOLD_TIMEOUT (R264). -/
def execContributionHoldTimeout (target : Nat) (s : State) : Host.Outcome State Fault Refusal :=
  .next (s.live (isTarget target) (contributionHoldTimeout target)).settle

/-- FACE_CACHE_FILL (R254). -/
def execFaceCacheFill (f : Nat) (line : Nat) (ecc : Ecc) (s : State) : Host.Outcome State Fault Refusal :=
  .next (s.live (isFace f) (faceCacheFill f line ecc)).settle

/-- GATHER_COMPLETE (R277). -/
def execGatherComplete (task : Nat) (s : State) : Host.Outcome State Fault Refusal :=
  .next (s.live (isTask task) (gatherComplete task)).settle

/-! ### Tallies and the Winder (11) -/

/-- TALLY_SIGNAL (R289). -/
def execTallySignal (q : Nat) (src : Nat) (part : Nat) (tag : Nat) (ecc : Ecc) (s : State) : Host.Outcome State Fault Refusal :=
  .next (s.live (isQuad q && isNode src && isTag tag) (tallySignal q src part tag ecc)).settle

/-- TALLY_WAIT (R289). -/
def execTallyWait (q : Nat) (src : Nat) (part : Nat) (tag : Nat) (ecc : Ecc) (s : State) : Host.Outcome State Fault Refusal :=
  .next (s.live (isQuad q && isNode src && isTag tag) (tallyWait q src part tag ecc)).settle

/-- SIGNAL_RELEASE (R291). -/
def execSignalRelease (tag : Nat) (s : State) : Host.Outcome State Fault Refusal :=
  .next (s.live (isTag tag) (signalRelease tag)).settle

/-- WAIT_DONE_RECEIVE (R296). -/
def execWaitDoneReceive (tag : Nat) (s : State) : Host.Outcome State Fault Refusal :=
  .next (s.live (isTag tag) (waitDoneReceive tag)).settle

/-- TALLY_ACK_RECEIVE (R296). -/
def execTallyAckReceive (tag : Nat) (s : State) : Host.Outcome State Fault Refusal :=
  .next (s.live (isTag tag) (tallyAckReceive tag)).settle

/-- WAIT_REPEAT (R296). -/
def execWaitRepeat (tag : Nat) (s : State) : Host.Outcome State Fault Refusal :=
  .next (s.live (isTag tag) (waitRepeat tag)).settle

/-- TAL_SIGNAL_ADD (R311). -/
def execTalSignalAdd (ap : Aperture) (n : Nat) (s : State) : Host.Outcome State Fault Refusal :=
  .next (s.given (apOk ap && isTally n) fun s => s.atReg ap .tal 0 (talSignalAdd ap n)).settle

/-- TAL_SIGNAL_MAX (R311). -/
def execTalSignalMax (ap : Aperture) (n : Nat) (s : State) : Host.Outcome State Fault Refusal :=
  .next (s.given (apOk ap && isTally n) fun s => s.atReg ap .tal 0 (talSignalMax ap n)).settle

/-- TAL_PAIR (R290). -/
def execTalPair (ap : Aperture) (n : Nat) (s : State) : Host.Outcome State Fault Refusal :=
  .next (s.given (apOk ap && isTally n) fun s => s.atReg ap .tal 0 (talPair ap n)).settle

/-- TAL_UNPAIR (R290). -/
def execTalUnpair (ap : Aperture) (n : Nat) (s : State) : Host.Outcome State Fault Refusal :=
  .next (s.given (apOk ap && isTally n) fun s => s.atReg ap .tal 0 (talUnpair ap n)).settle

/-- TAL_QUERY (R311). -/
def execTalQuery (ap : Aperture) (n : Nat) (s : State) : Host.Outcome State Fault Refusal :=
  .next (s.given (apOk ap && isTally n) fun s => s.atReg ap .tal 0 (talQuery ap n)).settle

/-- WND_LOAD (R303). -/
def execWndLoad (ap : Aperture) (t : Nat) (_ : Option (List Block)) (s : State) : Host.Outcome State Fault Refusal :=
  .next (s.given (apOk ap && isTask t) fun s => s.atReg ap .wnd 0 (wndLoad ap t)).settle

/-- WND_START (R304). -/
def execWndStart (ap : Aperture) (t : Nat) (s : State) : Host.Outcome State Fault Refusal :=
  .next (s.given (apOk ap && isTask t) fun s => s.atReg ap .wnd 0 (wndStart ap t)).settle

/-- WND_RESUME (R304). -/
def execWndResume (ap : Aperture) (t : Nat) (s : State) : Host.Outcome State Fault Refusal :=
  .next (s.given (apOk ap && isTask t) fun s => s.atReg ap .wnd 0 (wndResume ap t)).settle

/-- WND_STOP (R304). -/
def execWndStop (ap : Aperture) (t : Nat) (s : State) : Host.Outcome State Fault Refusal :=
  .next (s.given (apOk ap && isTask t) fun s => s.atReg ap .wnd 0 (wndStop ap t)).settle

/-- WND_UNLOAD (R304). -/
def execWndUnload (ap : Aperture) (t : Nat) (s : State) : Host.Outcome State Fault Refusal :=
  .next (s.given (apOk ap && isTask t) fun s => s.atReg ap .wnd 0 (wndUnload ap t)).settle

/-- WINDER_STEP_ISSUE (R305). -/
def execWinderStepIssue (t : Nat) (ecc : Ecc) (s : State) : Host.Outcome State Fault Refusal :=
  .next (s.live (isTask t) (winderStepIssue t ecc)).settle

/-- IND_OPERAND_RETURN (R306). -/
def execIndOperandReturn (t : Nat) (s : State) : Host.Outcome State Fault Refusal :=
  .next (s.live (isTask t) (indOperandReturn t)).settle

/-! ### The mover (12) -/

/-- MOV_BIND (R315). -/
def execMovBind (ap : Aperture) (c : Nat) (s : State) : Host.Outcome State Fault Refusal :=
  .next (s.given (apOk ap && isChan c) fun s => s.atReg ap .mov 0 (movBind ap c)).settle

/-- MOV_START (R314). -/
def execMovStart (ap : Aperture) (c : Nat) (s : State) : Host.Outcome State Fault Refusal :=
  .next (s.given (apOk ap && isChan c) fun s => s.atReg ap .mov 0 (movStart ap c)).settle

/-- MOV_ABORT (R335). -/
def execMovAbort (ap : Aperture) (c : Nat) (s : State) : Host.Outcome State Fault Refusal :=
  .next (s.given (apOk ap && isChan c) fun s => s.atReg ap .mov 0 (movAbort ap c)).settle

/-- MOV_DESTROY (R339). -/
def execMovDestroy (ap : Aperture) (c : Nat) (s : State) : Host.Outcome State Fault Refusal :=
  .next (s.given (apOk ap && isChan c) fun s => s.atReg ap .mov 0 (movDestroy ap c)).settle

/-- MOV_REF (R337). -/
def execMovRef (ap : Aperture) (s : State) : Host.Outcome State Fault Refusal :=
  .next (s.given (apOk ap) fun s => s.atReg ap .mov 0 (movRef ap)).settle

/-- MOV_UNREF (R337). -/
def execMovUnref (ap : Aperture) (s : State) : Host.Outcome State Fault Refusal :=
  .next (s.given (apOk ap) fun s => s.atReg ap .mov 0 (movUnref ap)).settle

/-- MOV_DOORBELL (R316). -/
def execMovDoorbell (ap : Aperture) (c : Nat) (tail : BitVec 12) (s : State) : Host.Outcome State Fault Refusal :=
  .next (s.given (apOk ap && isChan c) fun s => s.atReg ap .mov 0x2000 (movDoorbell ap c tail)).settle

/-- DESCRIPTOR_FETCHED (R321). -/
def execDescriptorFetched (c : Nat) (words : List Dword) (s : State) : Host.Outcome State Fault Refusal :=
  .next (s.live (isChan c) (descriptorFetched c words)).settle

/-- DESCRIPTOR_ACTIVE (R321). -/
def execDescriptorActive (c : Nat) (s : State) : Host.Outcome State Fault Refusal :=
  .next (s.live (isChan c) (descriptorActive c)).settle

/-- TRANSLATION_ANSWER (R318). -/
def execTranslationAnswer (c : Nat) (dst : Bool) (page : Option (BitVec 52)) (s : State) : Host.Outcome State Fault Refusal :=
  .next (s.live (isChan c) (translationAnswer c dst page)).settle

/-- PARAM_BLOCK_RETURN (R322). -/
def execParamBlockReturn (c : Nat) (s : State) : Host.Outcome State Fault Refusal :=
  .next (s.live (isChan c) (paramBlockReturn c)).settle

/-- HOST_READ_COMPLETION (R325). -/
def execHostReadCompletion (c : Nat) (lines : List Line) (ideOk : Bool) (s : State) : Host.Outcome State Fault Refusal :=
  .next (s.live (isChan c) (hostReadCompletion c lines ideOk)).settle

/-- DESCRIPTOR_FINISH (R332). -/
def execDescriptorFinish (c : Nat) (s : State) : Host.Outcome State Fault Refusal :=
  .next (s.live (isChan c) (descriptorFinish c)).settle

/-- RECORD_UNDELIVERABLE (R334). -/
def execRecordUndeliverable (c : Nat) (s : State) : Host.Outcome State Fault Refusal :=
  .next (s.live (isChan c) (recordUndeliverable c)).settle

/-- DESTROY_COMPLETE (R339). -/
def execDestroyComplete (c : Nat) (s : State) : Host.Outcome State Fault Refusal :=
  .next (s.live (isChan c) (destroyComplete c)).settle

/-! ### The host side (13) -/

/-- HOST_TLP_RECEIVE (R346). -/
def execHostTlpReceive (x : Tlp) (s : State) : Host.Outcome State Fault Refusal :=
  .next (s.hostIn true (hostTlpReceive x)).settle

/-- BAR2_ACCESS (R344). -/
def execBar2Access (x : Bar2) (s : State) : Host.Outcome State Fault Refusal :=
  .next (s.hostIn (isPart x.part) (bar2Access x)).settle

/-- IDE_KM_QUERY (R345). -/
def execIdeKmQuery (fn : Nat) (session : Nat) (stream : Nat) (s : State) : Host.Outcome State Fault Refusal :=
  .next (s.hostIn (isDoe fn) (ideKmQuery fn session stream))

/-- IDE_KM_KEY_PROG (R345). -/
def execIdeKmKeyProg (fn : Nat) (session : Nat) (stream : Nat) (kset : Nat) (sub : Nat) (dir : Nat) (key : BitVec 256) (s : State) : Host.Outcome State Fault Refusal :=
  .next (s.hostIn (isDoe fn) (ideKmKeyProg fn session stream kset sub dir key)).settle

/-- IDE_KM_K_SET_GO (R345). -/
def execIdeKmKSetGo (fn : Nat) (session : Nat) (stream : Nat) (kset : Nat) (sub : Nat) (dir : Nat) (s : State) : Host.Outcome State Fault Refusal :=
  .next (s.hostIn (isDoe fn) (ideKmKSetGo fn session stream kset sub dir)).settle

/-- IDE_KM_K_SET_STOP (R345). -/
def execIdeKmKSetStop (fn : Nat) (session : Nat) (stream : Nat) (kset : Nat) (sub : Nat) (dir : Nat) (s : State) : Host.Outcome State Fault Refusal :=
  .next (s.hostIn (isDoe fn) (ideKmKSetStop fn session stream kset sub dir)).settle

/-- SPDM_MESSAGE (R348). -/
def execSpdmMessage (fn : Nat) (r : SpdmReq) (s : State) : Host.Outcome State Fault Refusal :=
  .next (s.open_ (isDoe fn) (spdmMessage fn r)).settle

/-- GET_TDISP_VERSION (R350). -/
def execGetTdispVersion (p : Nat) (session : Nat) (s : State) : Host.Outcome State Fault Refusal :=
  .next (s.hostIn (isPart p) (getTdispVersion p session))

/-- GET_TDISP_CAPABILITIES (R350). -/
def execGetTdispCapabilities (p : Nat) (session : Nat) (s : State) : Host.Outcome State Fault Refusal :=
  .next (s.hostIn (isPart p) (getTdispCapabilities p session))

/-- LOCK_INTERFACE_REQUEST (R350). -/
def execLockInterfaceRequest (p : Nat) (session : Nat) (s : State) : Host.Outcome State Fault Refusal :=
  .next (s.hostIn (isPart p) (lockInterfaceRequest p session)).settle

/-- GET_DEVICE_INTERFACE_REPORT (R350). -/
def execGetDeviceInterfaceReport (p : Nat) (session : Nat) (s : State) : Host.Outcome State Fault Refusal :=
  .next (s.hostIn (isPart p) (getDeviceInterfaceReport p session))

/-- GET_DEVICE_INTERFACE_STATE (R350). -/
def execGetDeviceInterfaceState (p : Nat) (session : Nat) (s : State) : Host.Outcome State Fault Refusal :=
  .next (s.hostIn (isPart p) (getDeviceInterfaceState p session))

/-- START_INTERFACE_REQUEST (R350). -/
def execStartInterfaceRequest (p : Nat) (session : Nat) (s : State) : Host.Outcome State Fault Refusal :=
  .next (s.hostIn (isPart p) (startInterfaceRequest p session)).settle

/-- STOP_INTERFACE_REQUEST (R352). -/
def execStopInterfaceRequest (p : Nat) (session : Nat) (s : State) : Host.Outcome State Fault Refusal :=
  .next (s.hostIn (isPart p) (stopInterfaceRequest p session)).settle

/-- CONFIG_WRITE_LOCKED (R351). -/
def execConfigWriteLocked (p : Nat) (s : State) : Host.Outcome State Fault Refusal :=
  .next (s.hostIn (isPart p) (configWriteLocked p)).settle

/-- CTX_OPEN (R353). -/
def execCtxOpen (ap : Aperture) (fn : Nat) (s : State) : Host.Outcome State Fault Refusal :=
  .next (s.given (apOk ap) fun s => s.atReg ap .ctx 0 (ctxOpen ap fn)).settle

/-- CTX_RETIRE (R357). -/
def execCtxRetire (ap : Aperture) (tag : BitVec 16) (s : State) : Host.Outcome State Fault Refusal :=
  .next (s.given (apOk ap) fun s => s.atReg ap .ctx 0 (ctxRetire ap tag)).settle

/-- CTX_RETIRE_COMPLETE (R357). -/
def execCtxRetireComplete (p : Nat) (idx : Nat) (s : State) : Host.Outcome State Fault Refusal :=
  .next (s.live (isPart p && isCtxIndex idx) (ctxRetireComplete p idx)).settle

/-- CTX_LOSS_LO_READ (R355). -/
def execCtxLossLoRead (ap : Aperture) (s : State) : Host.Outcome State Fault Refusal :=
  .next (s.given (apOk ap) fun s => s.atReg ap .ctx 0x24 (ctxLossLoRead ap))

/-- FRONT_END_WAIT (R356). -/
def execFrontEndWait (w : FrontWait) (s : State) : Host.Outcome State Fault Refusal :=
  .next (s.hostIn (isPart w.part) (frontEndWait w)).settle

/-- FRONT_END_WITHDRAW (R356). -/
def execFrontEndWithdraw (q : Nat) (s : State) : Host.Outcome State Fault Refusal :=
  .next (s.hostIn true (frontEndWithdraw q)).settle

/-- PF_D3HOT (R359). -/
def execPfD3hot (fn : Nat) (s : State) : Host.Outcome State Fault Refusal :=
  .next (s.live (isDoe fn) (pfD3hot fn)).settle

/-- PF_D0 (R360). -/
def execPfD0 (fn : Nat) (s : State) : Host.Outcome State Fault Refusal :=
  .next (s.live (isDoe fn) (pfD0 fn)).settle

/-- PF_D3COLD (R359). -/
def execPfD3cold (p : Nat) (s : State) : Host.Outcome State Fault Refusal :=
  .next (s.live (isPart p) (pfD3cold p)).settle

/-- FLR (R361). -/
def execFlr (fn : FlrFn) (s : State) : Host.Outcome State Fault Refusal :=
  .next (s.live (isFlr fn) (flr fn)).settle

/-- FLR_DONE (R361). -/
def execFlrDone (fn : FlrFn) (s : State) : Host.Outcome State Fault Refusal :=
  .next (s.live (isFlr fn) (flrDone fn))

/-- SURPRISE_LINK_DOWN (R363). -/
def execSurpriseLinkDown (s : State) : Host.Outcome State Fault Refusal :=
  .next (s.live true surpriseLinkDown).settle

/-- HOST_LINK_UP (R364). -/
def execHostLinkUp (s : State) : Host.Outcome State Fault Refusal :=
  .next (s.live true hostLinkUp).settle

/-- HST_REMOVE (R365). -/
def execHstRemove (ap : Aperture) (p : Nat) (s : State) : Host.Outcome State Fault Refusal :=
  .next (s.given (apOk ap && isPart p) fun s => s.atReg ap .hst 0 (hstRemove ap p)).settle

/-- REMOVE_COMPLETE (R365). -/
def execRemoveComplete (p : Nat) (s : State) : Host.Outcome State Fault Refusal :=
  .next (s.live (isPart p) (removeComplete p)).settle

/-- HST_DIRTY_ENABLE (R366). -/
def execHstDirtyEnable (ap : Aperture) (s : State) : Host.Outcome State Fault Refusal :=
  .next (s.given (apOk ap) fun s => s.atReg ap .hst 0 (hstDirtyEnable ap)).settle

/-- HST_DIRTY_DISABLE (R366). -/
def execHstDirtyDisable (ap : Aperture) (s : State) : Host.Outcome State Fault Refusal :=
  .next (s.given (apOk ap) fun s => s.atReg ap .hst 0 (hstDirtyDisable ap)).settle

/-- HST_MIG_OFFER (R368). -/
def execHstMigOffer (ap : Aperture) (hostOk : Bool) (s : State) : Host.Outcome State Fault Refusal :=
  .next (s.given (apOk ap) fun s => s.atReg ap .hst 0 (hstMigOffer ap hostOk)).settle

/-- HST_MIG_ACCEPT (R368). -/
def execHstMigAccept (ap : Aperture) (offer : Option MigBlob) (s : State) : Host.Outcome State Fault Refusal :=
  .next (s.given (apOk ap) fun s => s.atReg ap .hst 0 (hstMigAccept ap offer)).settle

/-- HST_MIG_FINISH (R368). -/
def execHstMigFinish (ap : Aperture) (accept : Option MigBlob) (s : State) : Host.Outcome State Fault Refusal :=
  .next (s.given (apOk ap) fun s => s.atReg ap .hst 0 (hstMigFinish ap accept)).settle

/-- MIG_OFFER_EXPIRE (R368). -/
def execMigOfferExpire (p : Nat) (s : State) : Host.Outcome State Fault Refusal :=
  .next (s.live (isPart p) (migOfferExpire p)).settle

/-! ### Keys, the Lamp and life-cycle (14) -/

/-- VLT_ORIGIN (R382). -/
def execVltOrigin (ap : Aperture) (slot : Nat) (hostOk : Bool) (s : State) : Host.Outcome State Fault Refusal :=
  .next (s.given (apOk ap && isSlot slot) fun s => s.atReg ap .vlt 0 (vltOrigin ap slot hostOk)).settle

/-- VLT_RETIRE (R379). -/
def execVltRetire (ap : Aperture) (slot : Nat) (s : State) : Host.Outcome State Fault Refusal :=
  .next (s.given (apOk ap && isSlot slot) fun s => s.atReg ap .vlt 0 (vltRetire ap slot)).settle

/-- VLT_ZEROISE (R379). -/
def execVltZeroise (ap : Aperture) (slot : Nat) (s : State) : Host.Outcome State Fault Refusal :=
  .next (s.given (apOk ap && isSlot slot) fun s => s.atReg ap .vlt 0 (vltZeroise ap slot)).settle

/-- SLOT_DEAD (R379). -/
def execSlotDead (slot : Nat) (s : State) : Host.Outcome State Fault Refusal :=
  .next (s.live (isSlot slot) (slotDead slot)).settle

/-- SLOT_EMPTY (R379). -/
def execSlotEmpty (slot : Nat) (s : State) : Host.Outcome State Fault Refusal :=
  .next (s.live (isSlot slot) (slotEmpty slot)).settle

/-- DRBG_GENERATE (R384). -/
def execDrbgGenerate (bits : Nat) (s : State) : Host.Outcome State Fault Refusal :=
  .next (s.live (isDraw bits) (drbgGenerate bits)).settle

/-- DRBG_RESEED (R384). -/
def execDrbgReseed (s : State) : Host.Outcome State Fault Refusal :=
  .next (s.live true drbgReseed).settle

/-- ENTROPY_HEALTH_FAIL (R385). -/
def execEntropyHealthFail (s : State) : Host.Outcome State Fault Refusal :=
  .next (s.live true entropyHealthFail).settle

/-- CHECK_JOB_SUBMIT (R386). -/
def execCheckJobSubmit (prio : Nat) (perms : Nat) (s : State) : Host.Outcome State Fault Refusal :=
  .next (s.live (isPrio prio) (checkJobSubmit prio perms)).settle

/-- CHECK_PERMUTATION (R387). -/
def execCheckPermutation (agree : Bool) (s : State) : Host.Outcome State Fault Refusal :=
  .next (s.live true (checkPermutation agree)).settle

/-- PKE_REQUEST (R389). -/
def execPkeRequest (u : PkUnit) (prio : Nat) (s : State) : Host.Outcome State Fault Refusal :=
  .next (s.live (isPrio prio) (pkeRequest u prio)).settle

/-- PKE_COMPLETE (R389). -/
def execPkeComplete (u : PkUnit) (s : State) : Host.Outcome State Fault Refusal :=
  .next (s.live true (pkeComplete u)).settle

/-- SIGN_WINDOW_END (R390). -/
def execSignWindowEnd (ok : Bool) (verifyFail : Bool) (s : State) : Host.Outcome State Fault Refusal :=
  .next (s.live true (signWindowEnd ok verifyFail)).settle

/-- STATE_ENCODING_ERROR (R393). -/
def execStateEncodingError (s : State) : Host.Outcome State Fault Refusal :=
  .next (s.live true stateEncodingError).settle

/-- TAMPER_EVENT (R394). -/
def execTamperEvent (s : State) : Host.Outcome State Fault Refusal :=
  .next (tamperEvent s).settle

/-- LAMP_SRAM_UNCORR (R391). -/
def execLampSramUncorr (retained : Bool) (s : State) : Host.Outcome State Fault Refusal :=
  .next (s.live true (lampSramUncorr retained)).settle

/-- LCS_TRANSITION (R397). -/
def execLcsTransition (ap : Aperture) (req : Option Transition) (s : State) : Host.Outcome State Fault Refusal :=
  .next (s.given (apOk ap) fun s => s.atReg ap .lcs 4 (lcsTransition ap req)).settle

/-- TRANSITION_PROGRAMMED (R398). -/
def execTransitionProgrammed (s : State) : Host.Outcome State Fault Refusal :=
  .next (s.live true transitionProgrammed).settle

/-- LCS_SCRAP (R399). -/
def execLcsScrap (ap : Aperture) (s : State) : Host.Outcome State Fault Refusal :=
  .next (s.given (apOk ap) fun s => s.atReg ap .lcs 4 (lcsScrap ap)).settle

/-! ### Resets and starts (15, 18) -/

/-- POR_ASSERT (R457). -/
def execPorAssert (s : State) : Host.Outcome State Fault Refusal :=
  .next (porAssert s)

/-- POR_RELEASE (R419). -/
def execPorRelease (x : StartInputs) (s : State) : Host.Outcome State Fault Refusal :=
  .next (porRelease x s).settle

/-- MEM_TRAINED (R421). -/
def execMemTrained (s : State) : Host.Outcome State Fault Refusal :=
  .next (memTrained s).settle

/-- HUB_TRAINING_TIMEOUT (R421). -/
def execHubTrainingTimeout (s : State) : Host.Outcome State Fault Refusal :=
  .next (s.live true hubTrainingTimeout).settle

/-- STEP13_TIMEOUT (R420). -/
def execStep13Timeout (s : State) : Host.Outcome State Fault Refusal :=
  .next (s.live true step13Timeout).settle

/-- LSE_RELOAD (R410). -/
def execLseReload (ap : Aperture) (nor : Option (List Byte)) (sigOk : Bool) (signer : BitVec 384) (s : State) : Host.Outcome State Fault Refusal :=
  .next (s.given (apOk ap) fun s => s.atReg ap .lse 0x10 (lseReload ap nor sigOk signer)).settle

/-- LSE_MOVE (R412). -/
def execLseMove (ap : Aperture) (s : State) : Host.Outcome State Fault Refusal :=
  .next (s.given (apOk ap) fun s => s.atReg ap .lse 0x10 (lseMove ap)).settle

/-- SHIFT_ORDER_DUE (R418). -/
def execShiftOrderDue (k : Nat) (s : State) : Host.Outcome State Fault Refusal :=
  .next (s.live (isOrder k) (shiftOrderDue k)).settle

/-- CHIP_RESET_ASSERT (R457). -/
def execChipResetAssert (s : State) : Host.Outcome State Fault Refusal :=
  .next (chipResetAssert s)

/-- RST_READY_ASSERT (R457). -/
def execRstReadyAssert (s : State) : Host.Outcome State Fault Refusal :=
  .next (s.live true rstReadyAssert)

/-- CHIP_RESET_RELEASE (R422). -/
def execChipResetRelease (x : WarmInputs) (s : State) : Host.Outcome State Fault Refusal :=
  .next (s.live true (chipResetRelease x)).settle

/-- QPWR_OK_RISE (R459). -/
def execQpwrOkRise (q : Nat) (s : State) : Host.Outcome State Fault Refusal :=
  .next (s.given (isQuad q) (qpwrOkRise q)).settle

/-- QPWR_OK_FALL (R459). -/
def execQpwrOkFall (q : Nat) (s : State) : Host.Outcome State Fault Refusal :=
  .next (s.given (isQuad q) (qpwrOkFall q)).settle

/-- CLOCK_MONITOR_FAULT (R456). -/
def execClockMonitorFault (long : Bool) (s : State) : Host.Outcome State Fault Refusal :=
  .next (s.live true (clockMonitorFault long)).settle

/-! ### Faults, hangs and recovery (16) -/

/-- WAIT_CANARY_EXPIRE (R429). -/
def execWaitCanaryExpire (h : WaitHead) (s : State) : Host.Outcome State Fault Refusal :=
  .next (s.live (isHead h) (waitCanaryExpire h)).settle

/-- BUSY_CANARY_EXPIRE (R430). -/
def execBusyCanaryExpire (u : UnitRef) (s : State) : Host.Outcome State Fault Refusal :=
  .next (s.live (isUnit u) (busyCanaryExpire u)).settle

/-- REPLAY_CANARY_EXPIRE (R434). -/
def execReplayCanaryExpire (u : UnitRef) (s : State) : Host.Outcome State Fault Refusal :=
  .next (s.live (isUnit u) (replayCanaryExpire u)).settle

/-- ENGINE_STEP_DONE (R434). -/
def execEngineStepDone (u : UnitRef) (s : State) : Host.Outcome State Fault Refusal :=
  .next (s.live (isUnit u) (engineStepDone u)).settle

/-- ENGINE_STEP_OVERRUN (R432). -/
def execEngineStepOverrun (u : UnitRef) (s : State) : Host.Outcome State Fault Refusal :=
  .next (s.live (isUnit u) (engineStepOverrun u)).settle

/-- PARTITION_STEP_DONE (R433). -/
def execPartitionStepDone (p : Nat) (s : State) : Host.Outcome State Fault Refusal :=
  .next (s.live (isPart p) (partitionStepDone p)).settle

/-- PARTITION_STEP_OVERRUN (R432). -/
def execPartitionStepOverrun (p : Nat) (s : State) : Host.Outcome State Fault Refusal :=
  .next (s.live (isPart p) (partitionStepOverrun p)).settle

/-- CHIP_STEP_OVERRUN (R432). -/
def execChipStepOverrun (s : State) : Host.Outcome State Fault Refusal :=
  .next (s.live true chipStepOverrun).settle

/-- LAMP_WATCHDOG_EXPIRE (R431). -/
def execLampWatchdogExpire (s : State) : Host.Outcome State Fault Refusal :=
  .next (s.live true lampWatchdogExpire).settle

/-- FLT_KICK (R431). -/
def execFltKick (ap : Aperture) (s : State) : Host.Outcome State Fault Refusal :=
  .next (s.given (apOk ap) fun s => s.atReg ap .flt 0x24 (fltKick ap))

/-- FLT_ENGINE (R438). -/
def execFltEngine (ap : Aperture) (u : UnitRef) (s : State) : Host.Outcome State Fault Refusal :=
  .next (s.given (apOk ap) fun s => s.atReg ap .flt 0 (fltEngine ap u)).settle

/-- FLT_PARTITION (R438). -/
def execFltPartition (ap : Aperture) (p : Nat) (s : State) : Host.Outcome State Fault Refusal :=
  .next (s.given (apOk ap) fun s => s.atReg ap .flt 0 (fltPartition ap p)).settle

/-- FLT_CHIP (R438). -/
def execFltChip (ap : Aperture) (s : State) : Host.Outcome State Fault Refusal :=
  .next (s.given (apOk ap) fun s => s.atReg ap .flt 0 (fltChip ap)).settle

/-- FLT_TRAY (R438). -/
def execFltTray (ap : Aperture) (s : State) : Host.Outcome State Fault Refusal :=
  .next (s.given (apOk ap) fun s => s.atReg ap .flt 0 (fltTray ap)).settle

/-! ### Observation (17) -/

/-- OBS_FREEZE (R442). -/
def execObsFreeze (ap : Aperture) (s : State) : Host.Outcome State Fault Refusal :=
  .next (s.given (apOk ap) fun s => s.atReg ap .obs 0 (obsFreeze ap))

/-- OBS_FREEZE_AT (R443). -/
def execObsFreezeAt (ap : Aperture) (bcast : Bool) (s : State) : Host.Outcome State Fault Refusal :=
  .next (s.given (apOk ap) fun s => s.atReg ap .obs 0 (obsFreezeAt ap bcast))

/-- OBS_RELEASE (R444). -/
def execObsRelease (ap : Aperture) (s : State) : Host.Outcome State Fault Refusal :=
  .next (s.given (apOk ap) fun s => s.atReg ap .obs 0 (obsRelease ap))

/-- OBS_PEEK (R448). -/
def execObsPeek (ap : Aperture) (s : State) : Host.Outcome State Fault Refusal :=
  .next (s.given (apOk ap) fun s => s.atReg ap .obs 0 (obsPeek ap))

/-- PEEK_RETURN (R448). -/
def execPeekReturn (ap : Aperture) (l : HubLine) (s : State) : Host.Outcome State Fault Refusal :=
  .next (s.live (apOk ap) (peekReturn ap l))

/-- PEEK_TIMEOUT (R448). -/
def execPeekTimeout (ap : Aperture) (s : State) : Host.Outcome State Fault Refusal :=
  .next (s.live (apOk ap) (peekTimeout ap))

/-- FREEZE_PACKET_RECEIVE (R443). -/
def execFreezePacketReceive (p : Nat) (s : State) : Host.Outcome State Fault Refusal :=
  .next (s.live (isPort p) (freezePacketReceive p))

/-- FREEZE_TIME_REACHED (R442). -/
def execFreezeTimeReached (s : State) : Host.Outcome State Fault Refusal :=
  .next (s.live true freezeTimeReached)

/-- SNAPSHOT_DRAINED (R445). -/
def execSnapshotDrained (s : State) : Host.Outcome State Fault Refusal :=
  .next (s.live true snapshotDrained)

/-! ### Completions and restored conditions (the table's last rows) -/

/-- SEAM_CREATE_DONE (R82). -/
def execSeamCreateDone (n : Nat) (s : State) : Host.Outcome State Fault Refusal :=
  .next (s.live (isSeam n) (seamCreateDone n)).settle

/-- MOV_ABORT_DRAINED (R336). -/
def execMovAbortDrained (c : Nat) (s : State) : Host.Outcome State Fault Refusal :=
  .next (s.live (isChan c) (movAbortDrained c)).settle

/-- DIRTY_ENABLE_DONE (R366). -/
def execDirtyEnableDone (p : Nat) (s : State) : Host.Outcome State Fault Refusal :=
  .next (s.live (isPart p) (dirtyEnableDone p)).settle

/-- ENTROPY_STARTUP_PASS (R385). -/
def execEntropyStartupPass (s : State) : Host.Outcome State Fault Refusal :=
  .next (s.live true entropyStartupPass).settle

/-- ROTATE_FLOW_PREPARE (R417). -/
def execRotateFlowPrepare (k : Nat) (s : State) : Host.Outcome State Fault Refusal :=
  .next (s.live (isOrder k) (rotateFlowPrepare k)).settle

/-- CLOCK_RESTORED (R456). -/
def execClockRestored (s : State) : Host.Outcome State Fault Refusal :=
  .next (s.live true clockRestored).settle

/-- REGISTER_READ (R43). -/
def execRegisterRead (a : Access) (s : State) : Host.Outcome State Fault Refusal :=
  .next (s.given (apOk a.ap) (registerRead a))

/-- VF_POWER_STATE (R359). -/
def execVfPowerState (p : Nat) (v : Nat) (d : Nat) (s : State) : Host.Outcome State Fault Refusal :=
  .next (s.live (isPart p && isVf v) (vfPowerState p v d)).settle

/-- D0_FROM_D3COLD (R359). -/
def execD0FromD3cold (p : Nat) (s : State) : Host.Outcome State Fault Refusal :=
  .next (s.live (isPart p) (d0FromD3cold p)).settle

end Sys2Proof.Machine
end

