-- ==== Sys2Proof/Machine/Dispatch.lean ====
section
/-!
DEFINITION. Machine/Dispatch.lean: one arm for each command, a direct call of its meaning.
-/

namespace Sys2Proof.Machine

/-- A command's effect. -/
def exec (i : Instr) (s : State) : Host.Outcome State Fault Refusal :=
  match i with
  | .registerWrite a v => Sys2Proof.Machine.execRegisterWrite a v s
  | .rcRead ap off => Sys2Proof.Machine.execRcRead ap off s
  | .dwFirstWrite ap off v => Sys2Proof.Machine.execDwFirstWrite ap off v s
  | .dwComplementWrite ap off v => Sys2Proof.Machine.execDwComplementWrite ap off v s
  | .dwWindowExpire ap => Sys2Proof.Machine.execDwWindowExpire ap s
  | .mbxSelRead ap cls idx => Sys2Proof.Machine.execMbxSelRead ap cls idx s
  | .mbxSelWrite ap cls idx => Sys2Proof.Machine.execMbxSelWrite ap cls idx s
  | .mbxCaptureDone ap ecc => Sys2Proof.Machine.execMbxCaptureDone ap ecc s
  | .mbxDataWrite ap k v => Sys2Proof.Machine.execMbxDataWrite ap k v s
  | .aliasWrite ap off v => Sys2Proof.Machine.execAliasWrite ap off v s
  | .updStrobeGo ap => Sys2Proof.Machine.execUpdStrobeGo ap s
  | .strobeOutPulseEnd => Sys2Proof.Machine.execStrobeOutPulseEnd s
  | .strobeInEdge => Sys2Proof.Machine.execStrobeInEdge s
  | .seamCreate ap n => Sys2Proof.Machine.execSeamCreate ap n s
  | .seamFillDone n => Sys2Proof.Machine.execSeamFillDone n s
  | .seamSeal ap n => Sys2Proof.Machine.execSeamSeal ap n s
  | .sealPoint n => Sys2Proof.Machine.execSealPoint n s
  | .seamUnseal ap n => Sys2Proof.Machine.execSeamUnseal ap n s
  | .seamRekey ap n => Sys2Proof.Machine.execSeamRekey ap n s
  | .seamRetire ap n => Sys2Proof.Machine.execSeamRetire ap n s
  | .seamDead n => Sys2Proof.Machine.execSeamDead n s
  | .seamFree ap n => Sys2Proof.Machine.execSeamFree ap n s
  | .seamUnfreeze ap n => Sys2Proof.Machine.execSeamUnfreeze ap n s
  | .driftStart k => Sys2Proof.Machine.execDriftStart k s
  | .sweepPage k lines ecc => Sys2Proof.Machine.execSweepPage k lines ecc s
  | .periodicDriftDue n => Sys2Proof.Machine.execPeriodicDriftDue n s
  | .rekeyOverrun n => Sys2Proof.Machine.execRekeyOverrun n s
  | .budgetWindowClose n => Sys2Proof.Machine.execBudgetWindowClose n s
  | .writeTokenArrive n => Sys2Proof.Machine.execWriteTokenArrive n s
  | .shaftRead k => Sys2Proof.Machine.execShaftRead k s
  | .counterFetchDone k blk ecc => Sys2Proof.Machine.execCounterFetchDone k blk ecc s
  | .padReady k tag => Sys2Proof.Machine.execPadReady k tag s
  | .hubReadReturn k tag l => Sys2Proof.Machine.execHubReadReturn k tag l s
  | .correctionVerdict k => Sys2Proof.Machine.execCorrectionVerdict k s
  | .egressRelease p pt => Sys2Proof.Machine.execEgressRelease p pt s
  | .shaftWrite k => Sys2Proof.Machine.execShaftWrite k s
  | .refreshDone k lines => Sys2Proof.Machine.execRefreshDone k lines s
  | .partialOldLineReturn k tag l => Sys2Proof.Machine.execPartialOldLineReturn k tag l s
  | .hubWriteAck k line => Sys2Proof.Machine.execHubWriteAck k line s
  | .laneSample c r => Sys2Proof.Machine.execLaneSample c r s
  | .innerPageAccess q key ecc => Sys2Proof.Machine.execInnerPageAccess q key ecc s
  | .scrubWordRead q word ecc => Sys2Proof.Machine.execScrubWordRead q word ecc s
  | .scrubPassEnd q => Sys2Proof.Machine.execScrubPassEnd q s
  | .shareZeroDone k => Sys2Proof.Machine.execShareZeroDone k s
  | .siteLinkUp t cfgOk => Sys2Proof.Machine.execSiteLinkUp t cfgOk s
  | .siteLinkDown t => Sys2Proof.Machine.execSiteLinkDown t s
  | .frameReceive t frame => Sys2Proof.Machine.execFrameReceive t frame s
  | .reqFrame t => Sys2Proof.Machine.execReqFrame t s
  | .dataFrame t => Sys2Proof.Machine.execDataFrame t s
  | .siteSlotIssue t tag => Sys2Proof.Machine.execSiteSlotIssue t tag s
  | .ctrlHello t h => Sys2Proof.Machine.execCtrlHello t h s
  | .ctrlResponse t r => Sys2Proof.Machine.execCtrlResponse t r s
  | .ctrlKeyConfirm t => Sys2Proof.Machine.execCtrlKeyConfirm t s
  | .ctrlCredit t => Sys2Proof.Machine.execCtrlCredit t s
  | .ctrlReplay t => Sys2Proof.Machine.execCtrlReplay t s
  | .ctrlReplayLost t => Sys2Proof.Machine.execCtrlReplayLost t s
  | .ctrlReplayFailed t => Sys2Proof.Machine.execCtrlReplayFailed t s
  | .ctrlResync t => Sys2Proof.Machine.execCtrlResync t s
  | .ctrlRekey t => Sys2Proof.Machine.execCtrlRekey t s
  | .ctrlFlushDone t => Sys2Proof.Machine.execCtrlFlushDone t s
  | .bringupTimeout t => Sys2Proof.Machine.execBringupTimeout t s
  | .resyncTimeout t => Sys2Proof.Machine.execResyncTimeout t s
  | .tsRestart ap t => Sys2Proof.Machine.execTsRestart ap t s
  | .tsRekey ap t => Sys2Proof.Machine.execTsRekey ap t s
  | .fabricPortUp p => Sys2Proof.Machine.execFabricPortUp p s
  | .fabricPortDown p => Sys2Proof.Machine.execFabricPortDown p s
  | .codewordReceive p hdr units bad => Sys2Proof.Machine.execCodewordReceive p hdr units bad s
  | .packetTransit p => Sys2Proof.Machine.execPacketTransit p s
  | .packetDeliver p => Sys2Proof.Machine.execPacketDeliver p s
  | .packetVerdict p => Sys2Proof.Machine.execPacketVerdict p s
  | .helloTimer p => Sys2Proof.Machine.execHelloTimer p s
  | .helloReceive p => Sys2Proof.Machine.execHelloReceive p s
  | .announceTimer => Sys2Proof.Machine.execAnnounceTimer s
  | .announceReceive p => Sys2Proof.Machine.execAnnounceReceive p s
  | .announceSilent p => Sys2Proof.Machine.execAnnounceSilent p s
  | .disputeReceive p => Sys2Proof.Machine.execDisputeReceive p s
  | .routeFailReceive p => Sys2Proof.Machine.execRouteFailReceive p s
  | .routeOkReceive p => Sys2Proof.Machine.execRouteOkReceive p s
  | .timeSyncTimer => Sys2Proof.Machine.execTimeSyncTimer s
  | .timeSyncReceive p => Sys2Proof.Machine.execTimeSyncReceive p s
  | .slotBoundary unit => Sys2Proof.Machine.execSlotBoundary unit s
  | .formStartTimer => Sys2Proof.Machine.execFormStartTimer s
  | .formStartReceive p v => Sys2Proof.Machine.execFormStartReceive p v s
  | .evidenceReceive p v => Sys2Proof.Machine.execEvidenceReceive p v s
  | .keysReceive p v => Sys2Proof.Machine.execKeysReceive p v s
  | .confirmReceive p => Sys2Proof.Machine.execConfirmReceive p s
  | .formWindowEnd => Sys2Proof.Machine.execFormWindowEnd s
  | .formedReceive p v => Sys2Proof.Machine.execFormedReceive p v s
  | .rejectReceive p v => Sys2Proof.Machine.execRejectReceive p v s
  | .joinedReceive p => Sys2Proof.Machine.execJoinedReceive p s
  | .candidateTimeout => Sys2Proof.Machine.execCandidateTimeout s
  | .joinTimeout => Sys2Proof.Machine.execJoinTimeout s
  | .joinRetry => Sys2Proof.Machine.execJoinRetry s
  | .leaveDomain => Sys2Proof.Machine.execLeaveDomain s
  | .generationSwitch => Sys2Proof.Machine.execGenerationSwitch s
  | .flowKeyExpire part => Sys2Proof.Machine.execFlowKeyExpire part s
  | .requestTimeout tag => Sys2Proof.Machine.execRequestTimeout tag s
  | .yfRevive ap node => Sys2Proof.Machine.execYfRevive ap node s
  | .homeRequest q src part tag => Sys2Proof.Machine.execHomeRequest q src part tag s
  | .entryFreed q entry => Sys2Proof.Machine.execEntryFreed q entry s
  | .ticketLapse q part no => Sys2Proof.Machine.execTicketLapse q part no s
  | .lockWaitTimeout q entry => Sys2Proof.Machine.execLockWaitTimeout q entry s
  | .answerReceive tag => Sys2Proof.Machine.execAnswerReceive tag s
  | .nackReceive tag => Sys2Proof.Machine.execNackReceive tag s
  | .nackRetry tag => Sys2Proof.Machine.execNackRetry tag s
  | .fenceComplete e ctx => Sys2Proof.Machine.execFenceComplete e ctx s
  | .cartEnd t ctx => Sys2Proof.Machine.execCartEnd t ctx s
  | .cartEndTimeout t ctx => Sys2Proof.Machine.execCartEndTimeout t ctx s
  | .cartPrepare q src part tag => Sys2Proof.Machine.execCartPrepare q src part tag s
  | .cartSolo q src part tag => Sys2Proof.Machine.execCartSolo q src part tag s
  | .soloTimeout q issuer cart => Sys2Proof.Machine.execSoloTimeout q issuer cart s
  | .cartVote tag => Sys2Proof.Machine.execCartVote tag s
  | .cartSoloVote tag => Sys2Proof.Machine.execCartSoloVote tag s
  | .cartDecide q src part tag => Sys2Proof.Machine.execCartDecide q src part tag s
  | .cartDecided tag => Sys2Proof.Machine.execCartDecided tag s
  | .cartDecidedWaitExpire cart => Sys2Proof.Machine.execCartDecidedWaitExpire cart s
  | .cartCommit q src part tag => Sys2Proof.Machine.execCartCommit q src part tag s
  | .cartAbort q src part tag => Sys2Proof.Machine.execCartAbort q src part tag s
  | .cartDone tag => Sys2Proof.Machine.execCartDone tag s
  | .cartQuery q src part tag => Sys2Proof.Machine.execCartQuery q src part tag s
  | .cartAnswer tag => Sys2Proof.Machine.execCartAnswer tag s
  | .cartMemberTimeout q issuer cart => Sys2Proof.Machine.execCartMemberTimeout q issuer cart s
  | .cartQueryRepeat q issuer cart => Sys2Proof.Machine.execCartQueryRepeat q issuer cart s
  | .cartLeadTimeout q issuer cart => Sys2Proof.Machine.execCartLeadTimeout q issuer cart s
  | .cartAbortEntryExpire q issuer cart => Sys2Proof.Machine.execCartAbortEntryExpire q issuer cart s
  | .faceArm ap target tally => Sys2Proof.Machine.execFaceArm ap target tally s
  | .faceDisarm ap target => Sys2Proof.Machine.execFaceDisarm ap target s
  | .faceClear ap target => Sys2Proof.Machine.execFaceClear ap target s
  | .faceClearDone target => Sys2Proof.Machine.execFaceClearDone target s
  | .contributionApply target ecc => Sys2Proof.Machine.execContributionApply target ecc s
  | .contributionHoldTimeout target => Sys2Proof.Machine.execContributionHoldTimeout target s
  | .faceCacheFill f line ecc => Sys2Proof.Machine.execFaceCacheFill f line ecc s
  | .gatherComplete task => Sys2Proof.Machine.execGatherComplete task s
  | .tallySignal q src part tag ecc => Sys2Proof.Machine.execTallySignal q src part tag ecc s
  | .tallyWait q src part tag ecc => Sys2Proof.Machine.execTallyWait q src part tag ecc s
  | .signalRelease tag => Sys2Proof.Machine.execSignalRelease tag s
  | .waitDoneReceive tag => Sys2Proof.Machine.execWaitDoneReceive tag s
  | .tallyAckReceive tag => Sys2Proof.Machine.execTallyAckReceive tag s
  | .waitRepeat tag => Sys2Proof.Machine.execWaitRepeat tag s
  | .talSignalAdd ap n => Sys2Proof.Machine.execTalSignalAdd ap n s
  | .talSignalMax ap n => Sys2Proof.Machine.execTalSignalMax ap n s
  | .talPair ap n => Sys2Proof.Machine.execTalPair ap n s
  | .talUnpair ap n => Sys2Proof.Machine.execTalUnpair ap n s
  | .talQuery ap n => Sys2Proof.Machine.execTalQuery ap n s
  | .wndLoad ap t prog => Sys2Proof.Machine.execWndLoad ap t prog s
  | .wndStart ap t => Sys2Proof.Machine.execWndStart ap t s
  | .wndResume ap t => Sys2Proof.Machine.execWndResume ap t s
  | .wndStop ap t => Sys2Proof.Machine.execWndStop ap t s
  | .wndUnload ap t => Sys2Proof.Machine.execWndUnload ap t s
  | .winderStepIssue t ecc => Sys2Proof.Machine.execWinderStepIssue t ecc s
  | .indOperandReturn t => Sys2Proof.Machine.execIndOperandReturn t s
  | .movBind ap c => Sys2Proof.Machine.execMovBind ap c s
  | .movStart ap c => Sys2Proof.Machine.execMovStart ap c s
  | .movAbort ap c => Sys2Proof.Machine.execMovAbort ap c s
  | .movDestroy ap c => Sys2Proof.Machine.execMovDestroy ap c s
  | .movRef ap => Sys2Proof.Machine.execMovRef ap s
  | .movUnref ap => Sys2Proof.Machine.execMovUnref ap s
  | .movDoorbell ap c tail => Sys2Proof.Machine.execMovDoorbell ap c tail s
  | .descriptorFetched c words => Sys2Proof.Machine.execDescriptorFetched c words s
  | .descriptorActive c => Sys2Proof.Machine.execDescriptorActive c s
  | .translationAnswer c dst page => Sys2Proof.Machine.execTranslationAnswer c dst page s
  | .paramBlockReturn c => Sys2Proof.Machine.execParamBlockReturn c s
  | .hostReadCompletion c lines ideOk => Sys2Proof.Machine.execHostReadCompletion c lines ideOk s
  | .descriptorFinish c => Sys2Proof.Machine.execDescriptorFinish c s
  | .recordUndeliverable c => Sys2Proof.Machine.execRecordUndeliverable c s
  | .destroyComplete c => Sys2Proof.Machine.execDestroyComplete c s
  | .hostTlpReceive x => Sys2Proof.Machine.execHostTlpReceive x s
  | .bar2Access x => Sys2Proof.Machine.execBar2Access x s
  | .ideKmQuery fn session stream => Sys2Proof.Machine.execIdeKmQuery fn session stream s
  | .ideKmKeyProg fn session stream kset sub dir key => Sys2Proof.Machine.execIdeKmKeyProg fn session stream kset sub dir key s
  | .ideKmKSetGo fn session stream kset sub dir => Sys2Proof.Machine.execIdeKmKSetGo fn session stream kset sub dir s
  | .ideKmKSetStop fn session stream kset sub dir => Sys2Proof.Machine.execIdeKmKSetStop fn session stream kset sub dir s
  | .spdmMessage fn r => Sys2Proof.Machine.execSpdmMessage fn r s
  | .getTdispVersion p session => Sys2Proof.Machine.execGetTdispVersion p session s
  | .getTdispCapabilities p session => Sys2Proof.Machine.execGetTdispCapabilities p session s
  | .lockInterfaceRequest p session => Sys2Proof.Machine.execLockInterfaceRequest p session s
  | .getDeviceInterfaceReport p session => Sys2Proof.Machine.execGetDeviceInterfaceReport p session s
  | .getDeviceInterfaceState p session => Sys2Proof.Machine.execGetDeviceInterfaceState p session s
  | .startInterfaceRequest p session => Sys2Proof.Machine.execStartInterfaceRequest p session s
  | .stopInterfaceRequest p session => Sys2Proof.Machine.execStopInterfaceRequest p session s
  | .configWriteLocked p => Sys2Proof.Machine.execConfigWriteLocked p s
  | .ctxOpen ap fn => Sys2Proof.Machine.execCtxOpen ap fn s
  | .ctxRetire ap tag => Sys2Proof.Machine.execCtxRetire ap tag s
  | .ctxRetireComplete p idx => Sys2Proof.Machine.execCtxRetireComplete p idx s
  | .ctxLossLoRead ap => Sys2Proof.Machine.execCtxLossLoRead ap s
  | .frontEndWait w => Sys2Proof.Machine.execFrontEndWait w s
  | .frontEndWithdraw q => Sys2Proof.Machine.execFrontEndWithdraw q s
  | .pfD3hot fn => Sys2Proof.Machine.execPfD3hot fn s
  | .pfD0 fn => Sys2Proof.Machine.execPfD0 fn s
  | .pfD3cold p => Sys2Proof.Machine.execPfD3cold p s
  | .flr fn => Sys2Proof.Machine.execFlr fn s
  | .flrDone fn => Sys2Proof.Machine.execFlrDone fn s
  | .surpriseLinkDown => Sys2Proof.Machine.execSurpriseLinkDown s
  | .hostLinkUp => Sys2Proof.Machine.execHostLinkUp s
  | .hstRemove ap p => Sys2Proof.Machine.execHstRemove ap p s
  | .removeComplete p => Sys2Proof.Machine.execRemoveComplete p s
  | .hstDirtyEnable ap => Sys2Proof.Machine.execHstDirtyEnable ap s
  | .hstDirtyDisable ap => Sys2Proof.Machine.execHstDirtyDisable ap s
  | .hstMigOffer ap hostOk => Sys2Proof.Machine.execHstMigOffer ap hostOk s
  | .hstMigAccept ap offer => Sys2Proof.Machine.execHstMigAccept ap offer s
  | .hstMigFinish ap accept => Sys2Proof.Machine.execHstMigFinish ap accept s
  | .migOfferExpire p => Sys2Proof.Machine.execMigOfferExpire p s
  | .vltOrigin ap slot hostOk => Sys2Proof.Machine.execVltOrigin ap slot hostOk s
  | .vltRetire ap slot => Sys2Proof.Machine.execVltRetire ap slot s
  | .vltZeroise ap slot => Sys2Proof.Machine.execVltZeroise ap slot s
  | .slotDead slot => Sys2Proof.Machine.execSlotDead slot s
  | .slotEmpty slot => Sys2Proof.Machine.execSlotEmpty slot s
  | .drbgGenerate bits => Sys2Proof.Machine.execDrbgGenerate bits s
  | .drbgReseed => Sys2Proof.Machine.execDrbgReseed s
  | .entropyHealthFail => Sys2Proof.Machine.execEntropyHealthFail s
  | .checkJobSubmit prio perms => Sys2Proof.Machine.execCheckJobSubmit prio perms s
  | .checkPermutation agree => Sys2Proof.Machine.execCheckPermutation agree s
  | .pkeRequest u prio => Sys2Proof.Machine.execPkeRequest u prio s
  | .pkeComplete u => Sys2Proof.Machine.execPkeComplete u s
  | .signWindowEnd ok verifyFail => Sys2Proof.Machine.execSignWindowEnd ok verifyFail s
  | .stateEncodingError => Sys2Proof.Machine.execStateEncodingError s
  | .tamperEvent => Sys2Proof.Machine.execTamperEvent s
  | .lampSramUncorr retained => Sys2Proof.Machine.execLampSramUncorr retained s
  | .lcsTransition ap req => Sys2Proof.Machine.execLcsTransition ap req s
  | .transitionProgrammed => Sys2Proof.Machine.execTransitionProgrammed s
  | .lcsScrap ap => Sys2Proof.Machine.execLcsScrap ap s
  | .porAssert => Sys2Proof.Machine.execPorAssert s
  | .porRelease x => Sys2Proof.Machine.execPorRelease x s
  | .memTrained => Sys2Proof.Machine.execMemTrained s
  | .hubTrainingTimeout => Sys2Proof.Machine.execHubTrainingTimeout s
  | .step13Timeout => Sys2Proof.Machine.execStep13Timeout s
  | .lseReload ap nor sigOk signer => Sys2Proof.Machine.execLseReload ap nor sigOk signer s
  | .lseMove ap => Sys2Proof.Machine.execLseMove ap s
  | .shiftOrderDue k => Sys2Proof.Machine.execShiftOrderDue k s
  | .chipResetAssert => Sys2Proof.Machine.execChipResetAssert s
  | .rstReadyAssert => Sys2Proof.Machine.execRstReadyAssert s
  | .chipResetRelease x => Sys2Proof.Machine.execChipResetRelease x s
  | .qpwrOkRise q => Sys2Proof.Machine.execQpwrOkRise q s
  | .qpwrOkFall q => Sys2Proof.Machine.execQpwrOkFall q s
  | .clockMonitorFault long => Sys2Proof.Machine.execClockMonitorFault long s
  | .waitCanaryExpire h => Sys2Proof.Machine.execWaitCanaryExpire h s
  | .busyCanaryExpire u => Sys2Proof.Machine.execBusyCanaryExpire u s
  | .replayCanaryExpire u => Sys2Proof.Machine.execReplayCanaryExpire u s
  | .engineStepDone u => Sys2Proof.Machine.execEngineStepDone u s
  | .engineStepOverrun u => Sys2Proof.Machine.execEngineStepOverrun u s
  | .partitionStepDone p => Sys2Proof.Machine.execPartitionStepDone p s
  | .partitionStepOverrun p => Sys2Proof.Machine.execPartitionStepOverrun p s
  | .chipStepOverrun => Sys2Proof.Machine.execChipStepOverrun s
  | .lampWatchdogExpire => Sys2Proof.Machine.execLampWatchdogExpire s
  | .fltKick ap => Sys2Proof.Machine.execFltKick ap s
  | .fltEngine ap u => Sys2Proof.Machine.execFltEngine ap u s
  | .fltPartition ap p => Sys2Proof.Machine.execFltPartition ap p s
  | .fltChip ap => Sys2Proof.Machine.execFltChip ap s
  | .fltTray ap => Sys2Proof.Machine.execFltTray ap s
  | .obsFreeze ap => Sys2Proof.Machine.execObsFreeze ap s
  | .obsFreezeAt ap bcast => Sys2Proof.Machine.execObsFreezeAt ap bcast s
  | .obsRelease ap => Sys2Proof.Machine.execObsRelease ap s
  | .obsPeek ap => Sys2Proof.Machine.execObsPeek ap s
  | .peekReturn ap l => Sys2Proof.Machine.execPeekReturn ap l s
  | .peekTimeout ap => Sys2Proof.Machine.execPeekTimeout ap s
  | .freezePacketReceive p => Sys2Proof.Machine.execFreezePacketReceive p s
  | .freezeTimeReached => Sys2Proof.Machine.execFreezeTimeReached s
  | .snapshotDrained => Sys2Proof.Machine.execSnapshotDrained s
  | .seamCreateDone n => Sys2Proof.Machine.execSeamCreateDone n s
  | .movAbortDrained c => Sys2Proof.Machine.execMovAbortDrained c s
  | .dirtyEnableDone p => Sys2Proof.Machine.execDirtyEnableDone p s
  | .entropyStartupPass => Sys2Proof.Machine.execEntropyStartupPass s
  | .rotateFlowPrepare k => Sys2Proof.Machine.execRotateFlowPrepare k s
  | .clockRestored => Sys2Proof.Machine.execClockRestored s
  | .registerRead a => Sys2Proof.Machine.execRegisterRead a s
  | .vfPowerState p v d => Sys2Proof.Machine.execVfPowerState p v d s
  | .d0FromD3cold p => Sys2Proof.Machine.execD0FromD3cold p s

end Sys2Proof.Machine
end

