-- ==== Sys2Proof/Machine/Tick.lean ====
section
/-!
DEFINITION. Machine/Tick.lean: what a control-clock cycle without a command does (DESIGN CHOICE, log 5): block time and the shift clock advance, the clock slews
towards its parent (R5, R6, R413), pad stalls are counted (R35).
-/

namespace Sys2Proof.Machine

/-- A shaft holds a returned line whose pad is not ready (R35). -/
def Shaft.stalls (h : Shaft) : Bool := h.track.any fun t => t.raw.isSome && !t.pads

/-- An eighth of a nanosecond of slew every 2,000 block-clock cycles: 100 ppm (R413). -/
def Clock.slewStep (c : Clock) : Int := if c.cyc / 2000 = (c.cyc + 4) / 2000 then 0 else c.slew.sign

/-- A control-clock cycle of 2.5 ns, four cycles of the block clock (R5). -/
def Clock.tick (c : Clock) : Clock :=
  let e : Nat := ((c.frac : Int) + 20 + c.slewStep).toNat
  { c with cyc := c.cyc + 4, frac := e % 8, shift := c.shift + BitVec.ofNat 64 (e / 8), slew := c.slew - c.slewStep }

/-- Four cycles of pad stall counted at each shaft that stalls (R35, Table 17.1). -/
def State.stalls (s : State) : State :=
  (s.shafts.filter fun (_, h) => h.stalls).foldl (fun (s : State) ((k, _) : Nat × Shaft) =>
    (s.bump 0x02 k 4).modShaft k fun h => { h with padStall := BitVec.ofNat 32 (min 0xFFFFFFFF (h.padStall.toNat + 4)) }) s

/-- A cycle in which no command comes. Without the block clock, and in power-on reset, nothing advances. -/
def State.tick (s : State) : State := if s.pins.por ∨ s.clk.lost then s else { s with clk := s.clk.tick }.stalls

end Sys2Proof.Machine
end

