-- ==== Sys2Proof/Safety.lean ====
section
/-!
DEFINITION. Safety.lean: the words that the statements use: when the block takes new work, and what holds of every state that a run can
reach: mailboxes in one of their phases, the Inner Store's pages in canonical form.
-/

namespace Sys2Proof.Machine

/-- In RUN and taking new work at every port: out of reset, not Scrapped, no tamper event, no warm start asked for (R68, R394, R399, R457). -/
def State.Ready (s : State) : Prop := s.alive = true ∧ s.inRun = true ∧ s.quiesced = false

/-- A fabric port or a chiplet site takes new work: out of reset, not Scrapped, no tamper event, no warm start asked for, in RUN or from step 13 of a
start on (R394, R399, R419, R457). -/
def State.PortsOn (s : State) : Prop := s.alive = true ∧ s.quiesced = false ∧ s.linksOn = true

/-- A shaft works: it exists, the block runs, and no engine step of the shaft is in progress (R434). -/
def State.ShaftOn (s : State) (k : Nat) : Prop := s.alive = true ∧ k < 12 ∧ s.inEngStep (.shaft k) = false

/-- A write of the register at offset o of a place reaches it through an aperture: the aperture exists, the function of a partition's aperture
is one whose TLPs the host port takes, and the write is not denied (R43, R68, R346, R352). -/
def State.Reaches (s : State) (ap : Aperture) (pl : Place) (o : Nat) : Prop :=
  s.Ready ∧ apOk ap = true ∧ s.tlpRefused ap = false ∧ s.denies ap pl o true = false

/-- A command register of block b takes a command from an aperture that exists, no earlier one of that instance being in progress, and the
function of a partition's aperture being one whose TLPs the host port takes (R68, R80, R346, R352). -/
def State.Takes (s : State) (b : Blk) (ap : Aperture) : Prop :=
  s.Ready ∧ apOk ap = true ∧ (s.inst b (apIdx ap)).busy = false ∧ s.tlpRefused ap = false

/-- A seam command for seam n is taken: from the Lamp for any seam, from a partition for a seam that it owns (R80). -/
def State.TakesSeam (s : State) (ap : Aperture) (n : Nat) : Prop :=
  s.Takes .seam ap ∧ n < 256 ∧ (ap = .lamp ∨ ∃ p, ap = .part p ∧ (s.seam n).owner = p ∧ (s.seam n).present = true)

/-- A mailbox instance is in one phase of its protocol: a capture in progress shows no value and no result, a write is open only on a
captured value and after a selection with WRITE = 1, WORDS is that of the selected class (R54 to R56). -/
def Mbx.ok (m : Mbx) : Bool :=
  !(m.busy && (m.valid || m.opened || m.done)) && (!m.opened || (m.valid && m.sel.getLsbD 31)) && m.words == classWords (mbxClass m.sel)

/-- Every mailbox instance is in one phase. -/
def State.MbxOk (s : State) : Prop := ∀ x ∈ s.mbx, x.2.ok = true

/-- The canonical form of inner pages: addresses strictly rising, no byte listed that an unlisted address reads as. -/
def pagesWf (t : Tab Byte) : Bool := t.wf && t.all fun x => x.2 != 0

/-- The inner pages are in canonical form. -/
def State.PagesOk (s : State) : Prop := pagesWf s.ins.pages = true

end Sys2Proof.Machine
end

