-- ==== Sys2Proof/Certificates/Slice0/Obligations.lean ====
section
/-!
DEFINITION. Certificates/Slice0/Obligations.lean: what is claimed of the block, chapter by chapter. Statements of the form `exec c s = .next t` say where a command
completes and with what. `State.settle` is what the engines do by themselves at the end of a command; it is nothing in a calm state (EmptyQueueTicks).
-/

open Sys2Proof Sys2Proof.Machine

/-! ### The queue (the form of a block; logs 5, 6) -/

/-- A step with a command in front is that command on the state with the rest of the queue. -/
def Obligations.StepRunsFront : Prop :=  ∀ (s : State) (c : Instr) (rest : List Instr), s.pending = c :: rest → step s = exec c { s with pending := rest }

/-- A step on an empty queue is a control-clock cycle of four block-clock cycles in which nothing is commanded (the model's choice, log 5); what a command
leaves to the engines is nothing when nothing is due. -/
def Obligations.EmptyQueueTicks : Prop :=
  (∀ s : State, s.pending = [] → s.pins.por = false → s.clk.lost = false →
     ∃ t, step s = .next t ∧ t.clk.cyc = s.clk.cyc + 4 ∧ t.pending = [] ∧ t.glb = s.glb ∧ t.seams = s.seams ∧ t.mbx = s.mbx) ∧
  (∀ s : State, s.calm = true → s.settle = s)

/-- Every command is answered by a next state, and none adds to the queue, takes from it or reorders it: commands are served first in, first
out. -/
def Obligations.QueueServedInOrder : Prop :=  (∀ (c : Instr) (s : State), ∃ t, exec c s = .next t ∧ t.pending = s.pending) ∧
    ∀ s t : State, step s = .next t → t.pending = s.pending.tail

/-! ### Registers, mailbox, aliased-bit window, update timing (03) -/

/-- An aligned 32-bit access with every byte enable set acts on its register: a write that reaches a command register, a doorbell or a mailbox
register is that command, any other acts by the register's access type, and one of the aliased-bit window, of a DW register or of its
complement address is that row's write; a read answers with the register's value, as it was before the read-to-clear effect. GLB_SCRATCH
takes and gives back all 32 bits; GLB_ERR_COUNT shows its value and is clear afterwards (R40 to R42, R48, R50, R59, R69).
The model's own choices and readings in it: logs 4, 56, 57. -/
def Obligations.RegisterAccessCompletes : Prop :=  ∀ (s : State) (ap : Aperture) (off : Nat), s.Ready → apOk ap = true → s.tlpRefused ap = false → off % 4 = 0 →
    let pl := placeOf ap off
    let o := off % 65536
    (∀ v, pl ≠ .aliasWin → (o < 0x8000 ∨ pl = .doorbell) → isDw ap pl o = false → s.denies ap pl o true = false →
      exec (.registerWrite ⟨ap, off, 4, 0xF⟩ v) s = .next ((s.writeCommand ap pl o v).getD (s.writeField ap pl o v)).settle) ∧
    (∀ v, pl = .aliasWin → exec (.registerWrite ⟨ap, off, 4, 0xF⟩ v) s = .next (aliasWrite ap off v s).settle) ∧
    (∀ v, pl ≠ .aliasWin → o < 0x8000 → isDw ap pl o = true →
      exec (.registerWrite ⟨ap, off, 4, 0xF⟩ v) s = .next (dwFirstWrite ap off v s).settle) ∧
    (∀ v, pl ≠ .aliasWin → pl ≠ .doorbell → 0x8000 ≤ o →
      exec (.registerWrite ⟨ap, off, 4, 0xF⟩ v) s = .next (dwComplementWrite ap off v s).settle) ∧
    (pl ≠ .aliasWin → pl ≠ .doorbell → o < 0x8000 → s.denies ap pl o false = false → s.snapDenied (apIdx ap) (viewOf ap) pl o = false →
      let t := (s.readClear (viewOf ap) pl o).answerRead ap off (s.readPlace ap pl o) (s.dataRead (apIdx ap) pl o)
      exec (.registerRead ⟨ap, off, 4, 0xF⟩) s = .next t ∧ exec (.rcRead ap off) s = .next t) ∧
    (pl = .aliasWin → let t := s.emit (.regRead ap off (s.readAlias (off - 0x200_0000)))
      exec (.registerRead ⟨ap, off, 4, 0xF⟩) s = .next t ∧ exec (.rcRead ap off) s = .next t) ∧
    (pl ≠ .aliasWin → (pl = .doorbell ∨ 0x8000 ≤ o) → s.denies ap pl o false = false → s.snapDenied (apIdx ap) (viewOf ap) pl o = false →
      exec (.registerRead ⟨ap, off, 4, 0xF⟩) s = .next (s.emit (.regRead ap off 0)) ∧ exec (.rcRead ap off) s = .next (s.emit (.regRead ap off 0))) ∧
    (∀ v, exec (.registerWrite ⟨.operator, 0x110, 4, 0xF⟩ v) s = .next { s with glb := { s.glb with scratch := v } }.settle) ∧
    exec (.registerRead ⟨.operator, 0x110, 4, 0xF⟩) s = .next (s.emit (.regRead .operator 0x110 s.glb.scratch)) ∧
    exec (.rcRead .operator 0x38) s =
      .next ({ s with glb := { s.glb with errCount := 0 } }.emit (.regRead .operator 0x38 s.glb.errCount))

/-- An access that is not one aligned 32-bit access with every byte enable set is answered with an error and none of it is performed: the
count rises, and, outside the Lamp's aperture, the first error is captured until it is cleared (R41, Tables 3.17 and 3.18).
Only the Lamp writes FLT_CANARY and FLT_KICK, and the debug port writes no life-cycle register: from any other aperture the write is
counted in GLB_DENIED and changes nothing else (R43, R401, R438).
The model's own choices and readings in it: log 76. -/
def Obligations.BadAccessesRefused : Prop :=
  (∀ (s : State) (a : Access) (v : Word), s.Ready → apOk a.ap = true → s.tlpRefused a.ap = false → (a.size ≠ 4 ∨ a.off % 4 ≠ 0 ∨ a.be ≠ 0xF) →
     ∃ g : Glb, g.errCount = satInc s.glb.errCount ∧ g.scratch = s.glb.scratch ∧ g.irqEn = s.glb.irqEn ∧ g.compat = s.glb.compat ∧
       g.dwPend = s.glb.dwPend ∧ g.buf = s.glb.buf ∧ g.denied = s.glb.denied ∧
       ((a.ap = .lamp ∨ s.glb.errInfo.getLsbD 0 = true) → g.errAddr = s.glb.errAddr ∧ g.errInfo = s.glb.errInfo) ∧
       ((a.ap ≠ .lamp ∧ s.glb.errInfo.getLsbD 0 = false) → g.errAddr = errAddrOf a.ap a.off ∧ g.errInfo.getLsbD 0 = true ∧
         g.errInfo.getLsbD 3 = true) ∧
       exec (.registerWrite a v) s = .next ({ s with glb := g }.emit (.regError a.ap a.off)).settle) ∧
  (∀ (s : State) (v : Word), s.Ready →
     exec (.registerWrite ⟨.operator, 0xC1_0024, 4, 0xF⟩ v) s = .next { s with glb := { s.glb with denied := satInc s.glb.denied } }.settle ∧
     exec (.registerWrite ⟨.debug, 0x93_0004, 4, 0xF⟩ v) s = .next { s with glb := { s.glb with denied := satInc s.glb.denied } }.settle)

/-- A dual write of any DW register: the first write is pending, one before it discarded and counted; its complement in time puts the value in
force; any other value at a complement address, or none in time, discards it and counts one failure. In force, GLB_MODE takes COMPAT,
UPD_CTRL its width and its two enables, FLT_CANARY its periods, OBS_CTRL its two enables (R50, R51, R63, Table 16.14).
The model's own choices and readings in it: logs 23, 58. -/
def Obligations.DualWriteCompletes : Prop :=  ∀ (s : State) (ap : Aperture) (off : Nat), s.Reaches ap (placeOf ap off) (off % 65536) →
    let a := apIdx ap
    let p := s.glb.dwPend.find a
    (isDw ap (placeOf ap off) (off % 65536) = true → p = none → ∀ v,
      exec (.dwFirstWrite ap off v) s = .next { s with glb := { s.glb with dwPend := s.glb.dwPend.put a (off, v) } }) ∧
    (isDw ap (placeOf ap off) (off % 65536) = true → p.isSome = true → ∀ v,
      exec (.dwFirstWrite ap off v) s =
        .next { s with glb := { s.glb with dwFail := satInc s.glb.dwFail, dwPend := s.glb.dwPend.put a (off, v) } }) ∧
    (0x8000 ≤ off % 65536 → isDw ap (placeOf ap off) (off % 65536 - 0x8000) = true →
      let t : State := { s with glb := { s.glb with dwPend := s.glb.dwPend.erase a } }
      (∀ v, p = some (off - 0x8000, v) → exec (.dwComplementWrite ap off (~~~v)) s = .next (t.dwApply ap (placeOf ap (off - 0x8000)) v).settle) ∧
      (∀ w, p ≠ some (off - 0x8000, ~~~w) →
        exec (.dwComplementWrite ap off w) s = .next { t with glb := { t.glb with dwFail := satInc s.glb.dwFail } }.settle)) ∧
    (p.isSome = true → exec (.dwWindowExpire ap) s =
      .next { s with glb := { s.glb with dwPend := s.glb.dwPend.erase a, dwFail := satInc s.glb.dwFail } }) ∧
    (∀ v, s.glb.compat = false → s.dwApply ap .glb v = { s with glb := { s.glb with compat := v.getLsbD 0 } }) ∧
    (∀ v, s.dwApply ap .upd v = { s with glb := { s.glb with outWidth := v.extractLsb' 12 4, fwdOut := v.getLsbD 1, extEn := v.getLsbD 0 } }) ∧
    (∀ v : Word, let e := (v.extractLsb' 9 7).toNat; let r := (v.extractLsb' 6 3).toNat; let l := (v.extractLsb' 0 6).toNat
      10 ≤ e → e ≤ 80 → 1 ≤ r → r ≤ 6 → 1 ≤ l →
        s.dwApply ap .flt v = { s with flt := { s.flt with canEngine := e, canReplay := r, canLamp := l } }) ∧
    (∀ v, s.dwApply ap .obs v = { s with obs := { s.obs with strobe := v.getLsbD 1, accept := v.getLsbD 0 } })

/-- The mailbox of every aperture that has one: a selection makes an idle instance busy and abandons an open write; the checks passed, every
word is captured at once, and a selection with WRITE = 1 opens the write; the capture of a tally reads its record from the Inner Store,
every other leaves all else as it is; a data register below the object's highest word only takes its word, the highest commits the object, which
its owner takes or refuses with ERR_CODE 0x6 (R54, R55, R56, R147).
A selection while the instance is busy is ignored, with ERR = 1 and ERR_CODE = 0x5; a word written where no write is open is ignored;
a selection that the checks refuse ends with ERR and its code, and captures nothing (R54 to R57).
The model's own choices and readings in it: logs 77, 78, 79. -/
def Obligations.MailboxCompletes : Prop :=
  (∀ (s : State) (ap : Aperture), s.Reaches ap .mbx 0 → hasMbx ap = true →
     let a := apIdx ap
     let m := s.mbxAt a
     let sel (w : Bool) (cls : BitVec 7) (idx : BitVec 24) : Mbx :=
       { sel := selWord w cls idx, words := classWords cls.toNat, busy := true }
     (∀ cls idx, m.busy = false → exec (.mbxSelRead ap cls idx) s = .next { s with mbx := s.mbx.put a (sel false cls idx) }) ∧
     (∀ cls idx, m.busy = false → exec (.mbxSelWrite ap cls idx) s = .next { s with mbx := s.mbx.put a (sel true cls idx) }) ∧
     (∀ ecc, let c := s.captureRead ap ecc
       m.busy = true → c.mbxCheck ap m.sel = 0 →
         (mbxClass m.sel ≠ 1 → c = s) ∧
         exec (.mbxCaptureDone ap ecc) s = .next { c with
           mbx := s.mbx.put a { m with
             busy := false, valid := true, opened := m.sel.getLsbD 31, data := c.object (mbxClass m.sel) (mbxIndex m.sel) } }) ∧
     (∀ k v, m.opened = true → k < 8 →
       ∃ d : BitVec 256, d.extractLsb' (32 * k) 32 = v ∧ (∀ j < 8, j ≠ k → d.extractLsb' (32 * j) 32 = m.data.extractLsb' (32 * j) 32) ∧
         let t : State := { s with mbx := s.mbx.put a { m with data := d } }
         (k + 1 ≠ m.words → exec (.mbxDataWrite ap k v) s = .next t.settle) ∧
         (∀ u, k + 1 = m.words → t.writeObject ap (mbxClass m.sel) (mbxIndex m.sel) d = some u →
           exec (.mbxDataWrite ap k v) s = .next (u.modMbx a fun m => { m with opened := false, done := true }).settle) ∧
         (k + 1 = m.words → t.writeObject ap (mbxClass m.sel) (mbxIndex m.sel) d = none →
           exec (.mbxDataWrite ap k v) s = .next (t.modMbx a fun m => { m with opened := false, fail := true, err := 6 }).settle))) ∧
  (∀ (s : State) (ap : Aperture), s.Reaches ap .mbx 0 → hasMbx ap = true →
     let a := apIdx ap
     let m := s.mbxAt a
     (∀ cls idx, m.busy = true → exec (.mbxSelRead ap cls idx) s = .next { s with mbx := s.mbx.put a { m with fail := true, err := 5 } }) ∧
     (∀ cls idx, m.busy = true → exec (.mbxSelWrite ap cls idx) s = .next { s with mbx := s.mbx.put a { m with fail := true, err := 5 } }) ∧
     (∀ k v, m.opened = false → exec (.mbxDataWrite ap k v) s = .next s.settle) ∧
     (∀ ecc, m.busy = true → s.mbxCheck ap m.sel ≠ 0 →
       exec (.mbxCaptureDone ap ecc) s =
         .next { s with mbx := s.mbx.put a { m with busy := false, fail := true, err := s.mbxCheck ap m.sel } }))

/-- A selection while an instance is idle abandons a write that is still open, its object unchanged, and starts the new operation; a selection while it is busy
is ignored, with ERR = 1 and ERR_CODE = 0x5, and the operation in progress completes with the object that it selected (R56). -/
def Obligations.MailboxReselects : Prop :=  ∀ (s : State) (ap : Aperture) (w : Bool) (cls : BitVec 7) (idx : BitVec 24), s.Reaches ap .mbx 0 → hasMbx ap = true →
    let a := apIdx ap
    let m := s.mbxAt a
    let c : Instr := if w = true then .mbxSelWrite ap cls idx else .mbxSelRead ap cls idx
    (m.busy = false → ∃ data, exec c s = .next { s with
      mbx := s.mbx.put a { sel := selWord w cls idx, words := classWords cls.toNat, busy := true, data } }) ∧
    (m.busy = true →
      let t : State := { s with mbx := s.mbx.put a { m with fail := true, err := 5 } }
      exec c s = .next t ∧ ∀ ecc, let u := t.captureRead ap ecc
        (mbxClass m.sel ≠ 1 → u = t) ∧ (u.mbxCheck ap m.sel = 0 →
          exec (.mbxCaptureDone ap ecc) t = .next { u with mbx := u.mbx.put a { m with
            fail := true, err := 5, busy := false, valid := true, opened := m.sel.getLsbD 31
            data := u.object (mbxClass m.sel) (mbxIndex m.sel) } }))

/-- Every step keeps every mailbox instance in one phase of its protocol (R54 to R56). -/
def Obligations.MailboxPhaseKept : Prop := ∀ s t : State, s.MbxOk → step s = .next t → t.MbxOk

/-- Commands that neither reach a mailbox nor reset one leave every mailbox instance as it was. -/
def Obligations.MailboxFrame : Prop :=  ∀ (c : Instr) (s t : State), (∀ a v, c ≠ .registerWrite a v) → (∀ ap w i, c ≠ .mbxSelRead ap w i) → (∀ ap w i, c ≠ .mbxSelWrite ap w i) →
    (∀ ap e, c ≠ .mbxCaptureDone ap e) → (∀ ap k v, c ≠ .mbxDataWrite ap k v) → (∀ f, c ≠ .flr f) → c ≠ .porAssert →
    exec c s = .next t → t.mbx = s.mbx

/-- A write of a word of the aliased-bit window, from the operator or the Lamp, acts on one bit of its register with bit 0 of its value: a bit of
GLB_SCRATCH takes it and every other bit stays; GLB_IRQ_ENABLE takes it in force, or in its buffer in compatibility mode; GLB_ERR_INFO.VALID
is cleared by a one; GLB_MODE, a DW register, counts a failed dual write; every other bit ignores it (R58, R59, R60, Table 3.6).
The model's own choices and readings in it: log 23. -/
def Obligations.AliasWriteActsOnOneBit : Prop :=  ∀ (s : State) (ap : Aperture) (v : Word), s.Ready → (ap = .operator ∨ ap = .lamp) →
    let at_ (A b : Nat) : Nat := 0x200_0000 + A * 128 + b * 4
    (∀ A b, A < 0x8000 → b < 32 → exec (.aliasWrite ap (at_ A b) v) s = .next (s.aliasBit A b (v.getLsbD 0))) ∧
    (∀ b, b < 32 → ∃ w : Word, w.getLsbD b = v.getLsbD 0 ∧ (∀ j, j ≠ b → w.getLsbD j = s.glb.scratch.getLsbD j) ∧
      exec (.aliasWrite ap (at_ 0x110 b) v) s = .next { s with glb := { s.glb with scratch := w } }) ∧
    (∀ b, b < 9 → s.glb.compat = false → ∃ w : Word, w.getLsbD b = v.getLsbD 0 ∧
      (∀ j, j ≠ b → j < 9 → w.getLsbD j = s.glb.irqEn.getLsbD j) ∧
      exec (.aliasWrite ap (at_ 0x104 b) v) s = .next { s with glb := { s.glb with irqEn := w } }) ∧
    (v.getLsbD 0 = true → exec (.aliasWrite ap (at_ 0x34 0) v) s = .next { s with glb := { s.glb with errInfo := s.glb.errInfo &&& ~~~1 } }) ∧
    exec (.aliasWrite ap (at_ 0x10 0) v) s = .next { s with glb := { s.glb with dwFail := satInc s.glb.dwFail } } ∧
    (∀ A b, A ≠ 0x10 → A ≠ 0x34 → A ≠ 0x104 → A ≠ 0x110 → s.aliasBit A b (v.getLsbD 0) = s)

/-- A strobe, from any aperture with the UPD registers, puts every buffered value in force in the order of the registers and leaves none buffered, and UPD_COUNT counts it; UPD_STROBE_GO sets
dg_strobe_out high when FWD_OUT = 1, and the pulse ends; an edge on dg_strobe_in strobes while EXT_EN = 1, and freezes while STROBE_FREEZE = 1
(R62, R63, R64, R442, R453). -/
def Obligations.StrobeCompletes : Prop :=  ∀ (s : State) (ap : Aperture), s.Ready →
    (s.strobe.glb.buf = [] ∧ s.strobe.glb.updCount = satInc s.glb.updCount ∧ s.strobe.pins = s.pins ∧
      (∀ v : Word, s.glb.buf = [(0, v)] → s.strobe.glb.irqEn = v &&& 0x1FF)) ∧
    (placeOf ap 0xC0_0000 = .upd → s.denies ap .upd 0 true = false →
      exec (.updStrobeGo ap) s = .next { s.strobe with pins := { s.pins with strobeOut := s.glb.fwdOut || s.pins.strobeOut } }) ∧
    exec .strobeOutPulseEnd s = .next { s with pins := { s.pins with strobeOut := false } } ∧
    (s.glb.extEn = true → s.obs.strobe = false → exec .strobeInEdge s = .next s.strobe) ∧
    (s.glb.extEn = true → s.obs.strobe = true → exec .strobeInEdge s = .next (s.strobe.captureLocal 2)) ∧
    (s.glb.extEn = false → s.obs.strobe = true → exec .strobeInEdge s = .next (s.captureLocal 2)) ∧
    (s.glb.extEn = false → s.obs.strobe = false → exec .strobeInEdge s = .next s)

/-! ### Seams (04) -/

/-- SEAM_CMD from the Lamp for any seam and from a partition for its own: CREATE begins when every check passes, SEAL on a loading seam becomes
an egress request of the partition, UNSEAL takes the next slots, at once when they are EMPTY, REKEY queues a class-3 drift, RETIRE retires, FREE empties a dead seam that no
reference names, UNFREEZE clears FROZEN (R81 to R85, R95, R99).
Where a seam command is refused: CREATE with the code of the first check that fails, UNSEAL with 0xC at the last SEAL_EPOCH and 0x8 while the DRBG
is stopped, any with CODE 0x3 in a state that does not take it, or while another command of the seam runs, and CODE 0x2 for a seam that
the partition does not own; CODE 0x1, with no other effect, while the instance is busy; nothing at all from the operator, the debug port and VFs,
where SEAM_CMD is reserved (R80 to R85, R385, Table 4.12).
The model's own choices and readings in it: logs 68, 69, 70, 80. -/
def Obligations.SeamCommandsComplete : Prop :=
  (∀ (s : State) (ap : Aperture) (n : Nat),
     let a := apIdx ap
     let e := s.seam n
     (∀ (r : Seam) (fill : Bool), s.Takes .seam ap → n < 256 → (ap = .lamp ∨ ∃ p, ap = .part p) → createReq s a = (r, fill) → s.createCheck n r = 0 →
       exec (.seamCreate ap n) s = .next (s.createBegin a n r fill).settle) ∧
     (s.TakesSeam ap n → e.state = .loading → e.busy = false →
       exec (.seamSeal ap n) s = .next (((s.modSeam n fun e =>
         { e with busy := true, job := .sealing, cmdAp := a, sealAt := (List.range 12).map fun k => (s.shaft k).arr }).hold e.owner (.sealPoint n) none
           (.seal n)).cmdBusy .seam a n).settle) ∧
     (s.TakesSeam ap n → e.state = .sealed → e.busy = false → e.sealEp ≠ BitVec.allOnes 36 → s.drbgOk = true →
       let fill := (s.arg .seam a 0x14).getLsbD 18
       let t := (s.modSeam n fun e => { e with busy := true, cmdAp := a, job := .unseal fill }).cmdBusy .seam a n
       exec (.seamUnseal ap n) s = .next (t.unsealGo n).settle ∧
       (s.nextEmpty e = false → t.unsealGo n = t) ∧
       (s.nextEmpty e = true → fill = false → t.unsealGo n =
         ((((t.nextKeys n).swapSlots n).modSeam n fun e => { e with sealEp := e.sealEp + 1 }).dropVals (e.start * 32768) (e.pages * 64)).seamReady n .loading)) ∧
     (s.TakesSeam ap n → (e.state = .loading ∨ e.state = .active ∨ e.state = .sealed ∨ e.state = .drifting) → e.busy = false →
       exec (.seamRekey ap n) s = .next ((s.wantDrift n 3 0 false).seamEnd a n 0).settle ∧
       exec (.seamRetire ap n) s = .next ((s.retireSeam n).seamEnd a n 0).settle) ∧
     (s.TakesSeam ap n → e.state = .dead → e.busy = false → s.refsOn (.seam n) = 0 →
       exec (.seamFree ap n) s = .next ({ s with seams := s.seams.erase n }.seamEnd a n 0).settle) ∧
     (s.TakesSeam ap n → e.state ≠ .empty → e.state ≠ .drifting → e.busy = false →
       exec (.seamUnfreeze ap n) s = .next ((s.modSeam n fun e => { e with frozen := false }).seamEnd a n 0).settle)) ∧
  (∀ (s : State) (ap : Aperture) (n : Nat),
     let a := apIdx ap
     let e := s.seam n
     (∀ (r : Seam) (fill : Bool), s.Takes .seam ap → n < 256 → (ap = .lamp ∨ ∃ p, ap = .part p) → createReq s a = (r, fill) →
       (s.createCheck n r ≠ 0 → s.createCheck n r ≠ 8 → exec (.seamCreate ap n) s = .next (s.seamEnd a n (s.createCheck n r)).settle) ∧
       (s.createCheck n r = 8 → exec (.seamCreate ap n) s = .next ((s.noKey r.owner).seamEnd a n 8).settle)) ∧
     (s.TakesSeam ap n → (e.state ≠ .loading ∨ e.busy = true) → exec (.seamSeal ap n) s = .next (s.seamEnd a n 3).settle) ∧
     (s.TakesSeam ap n → (e.state ≠ .sealed ∨ e.busy = true) → exec (.seamUnseal ap n) s = .next (s.seamEnd a n 3).settle) ∧
     (s.TakesSeam ap n → e.state = .sealed → e.busy = false →
       (e.sealEp = BitVec.allOnes 36 → exec (.seamUnseal ap n) s = .next (s.seamEnd a n 0xC).settle) ∧
       (e.sealEp ≠ BitVec.allOnes 36 → s.drbgOk = false → exec (.seamUnseal ap n) s = .next ((s.noKey e.owner).seamEnd a n 8).settle)) ∧
     (s.TakesSeam ap n → (e.state = .empty ∨ e.state = .retiring ∨ e.state = .dead ∨ e.busy = true) →
       exec (.seamRekey ap n) s = .next (s.seamEnd a n 3).settle ∧ exec (.seamRetire ap n) s = .next (s.seamEnd a n 3).settle) ∧
     (s.TakesSeam ap n → (e.state ≠ .dead ∨ e.busy = true ∨ s.refsOn (.seam n) ≠ 0) → exec (.seamFree ap n) s = .next (s.seamEnd a n 3).settle) ∧
     (s.TakesSeam ap n → (e.state = .empty ∨ e.state = .drifting ∨ e.busy = true) → exec (.seamUnfreeze ap n) s = .next (s.seamEnd a n 3).settle) ∧
     (∀ p, ap = .part p → s.Takes .seam ap → n < 256 → (e.owner ≠ p ∨ e.present = false) →
       exec (.seamSeal ap n) s = .next (s.cmdEnd .seam p n 2).settle ∧ exec (.seamUnseal ap n) s = .next (s.cmdEnd .seam p n 2).settle ∧
       exec (.seamRekey ap n) s = .next (s.cmdEnd .seam p n 2).settle ∧ exec (.seamRetire ap n) s = .next (s.cmdEnd .seam p n 2).settle ∧
       exec (.seamFree ap n) s = .next (s.cmdEnd .seam p n 2).settle ∧ exec (.seamUnfreeze ap n) s = .next (s.cmdEnd .seam p n 2).settle) ∧
     (∀ c : Instr, c ∈ [.seamCreate ap n, .seamSeal ap n, .seamUnseal ap n, .seamRekey ap n, .seamRetire ap n, .seamFree ap n, .seamUnfreeze ap n] →
       s.Reaches ap .seam 0 → n < 256 →
       ((ap = .lamp ∨ ∃ p, ap = .part p) → (s.inst .seam a).busy = true → exec c s = .next (s.modInst .seam a fun i => { i with code := 1 }).settle) ∧
       ((ap = .operator ∨ ap = .debug ∨ ∃ p v, ap = .vf p v) → exec c s = .next s.settle)))

/-- References on a seam never delay RETIRE: whatever their number, it retires the seam, which dies when no operation on it remains; FREE of a dead seam with
any reference on it is refused with CODE 0x3 (R338). -/
def Obligations.ReferencesHoldOnlyFree : Prop :=  ∀ (s : State) (ap : Aperture) (n : Nat),
    let a := apIdx ap
    let e := s.seam n
    (∀ refs, s.TakesSeam ap n → (e.state = .loading ∨ e.state = .active ∨ e.state = .sealed ∨ e.state = .drifting) → e.busy = false →
      let t : State := { s with tal := { s.tal with refs } }
      exec (.seamRetire ap n) t = .next ((t.retireSeam n).cmdEnd .seam a n 0).settle ∧ ((t.retireSeam n).seam n).state = .retiring) ∧
    (∀ refs, s.alive = true → n < 256 → e.state = .retiring → s.seamQuiet n = true →
      let t : State := { s with tal := { s.tal with refs } }
      ∃ u : State, exec (.seamDead n) t = .next u.settle ∧ (u.seam n).state = .dead) ∧
    (s.TakesSeam ap n → s.refsOn (.seam n) ≠ 0 → exec (.seamFree ap n) s = .next (s.cmdEnd .seam a n 3).settle)

/-- What happens to seams by themselves: a CREATE, a fill, and an UNSEAL with a fill complete; the seal point seals when every earlier read has its verdict
and every earlier write is committed; a retiring seam without operations dies after 16 µs with
its slots zeroised; the sweep engine takes the most urgent sweep, ahead of a less urgent one that runs, writes a page of a fill and re-enciphers a page of a
drift, whose last page ends it; the periodic drift is queued, an overrun is a partition fault, the integrity window closes, a write token arrives and a
write that waits for it goes on (R82 to R85, R88, R91, R93, R94, R97, R98).
The model's own choices and readings in it: logs 2, 3, 73. -/
def Obligations.SeamEventsComplete : Prop :=  ∀ (s : State) (n : Nat), s.alive = true → n < 256 →
    let e := s.seam n
    (e.job = .create false → exec (.seamCreateDone n) s = .next (s.seamReady n e.firstState).settle) ∧
    (∀ w, (s.shaft e.stack).run = some w → w.seam = n → w.fill = true → w.done = e.pages →
      let t := (s.modShaft e.stack fun sh => { sh with run := none }).irqVis .seam e.owner 1
      (e.job = .create true → exec (.seamFillDone n) s = .next (t.seamReady n e.firstState).settle) ∧
      (e.job = .refill → exec (.seamFillDone n) s = .next (t.seamReady n .loading).settle)) ∧
    (∀ g, (s.horizon e.owner).held.find? (fun g => g.cargo == .seal n) = some g → e.job = .sealing → (s.horizon e.owner).mayLeave g = true →
      s.writesOpen n = false → s.readsOpen n = false →
      let t := ((s.modHz e.owner fun h => { h with
        held := h.held.filter fun g => g.cargo != .seal n, maxLag := max h.maxLag (s.clk.cyc - g.at_) }).modSeam n fun e =>
          { e with held := none }).seamReady n .sealed
      (e.held = none → exec (.sealPoint n) s = .next t.settle) ∧
      (∀ c, e.held = some c → exec (.sealPoint n) s = .next (t.wantDrift n c 0 false).settle)) ∧
    (e.state = .retiring → s.seamQuiet n = true →
      exec (.seamDead n) s = .next (((s.reach (e.retireAt + 16000)).killSlots [e.pad, e.hash, e.nextPad, e.nextHash]).modSeam n fun e =>
        { e with state := .dead, busy := false, job := .none }).settle) ∧
    (∀ k w, k < 12 → s.nextSweep k = some w → (∀ r, (s.shaft k).run = some r → w.cls < r.cls) →
      exec (.driftStart k) s = .next (s.startSweep k w).settle) ∧
    (∀ k w lines ecc, k < 12 → (s.shaft k).run = some w → w.seam = n → w.done < e.pages →
      (s.shaft k).pageHeld n ((w.start + w.done) % e.pages) = false →
      (w.fill = true → ∃ u : State, exec (.sweepPage k lines ecc) s = .next u.settle ∧ (u.shaft k).run = some { w with done := w.done + 1 } ∧
        u.seams = s.seams ∧ u.out.length = s.out.length + 64) ∧
      (w.fill = false → w.done + 1 < e.pages → ∃ u : State, exec (.sweepPage k lines ecc) s = .next u.settle ∧
        (u.shaft k).run.map (·.done) = some (w.done + 1)) ∧
      (w.fill = false → w.done + 1 = e.pages → ∃ u : State, exec (.sweepPage k lines ecc) s = .next u.settle ∧ (u.shaft k).run = none ∧
        (u.seam n).state = (if (u.seam n).kind = .sealed then .sealed else .active) ∧ (u.seam n).fails = 0 ∧ (u.seam n).winEnd = none)) ∧
    (e.interval ≠ 0 → exec (.periodicDriftDue n) s = .next ((s.reach (e.since + BitVec.ofNat 64 (e.interval * 1000000 -
      driftSum (s.seamsOn e.stack) (s.shaft e.stack).reserve))).wantDrift n 3 0 false).settle) ∧
    ((e.state = .loading ∨ e.state = .active ∨ e.state = .sealed ∨ e.state = .drifting) → e.interval ≠ 0 → e.kind ≠ .plain →
      exec (.rekeyOverrun n) s = .next (((s.reach (e.since + BitVec.ofNat 64 (e.interval * 1000000))).irqVis .seam e.owner 3).partFault 0x110B
        e.owner (.unit .seam n 0)).settle) ∧
    (∀ w, e.winEnd = some w → exec (.budgetWindowClose n) s = .next ((s.reach w).modSeam n fun e => { e with fails := 0, winEnd := none }).settle) ∧
    (e.kind = .versioned → e.state ≠ .empty →
      let t := s.modSeam n fun e => { e with tokens := min 4096 (e.tokens + 1) }
      (e.tokens ≠ 0 → exec (.writeTokenArrive n) s = .next t.settle) ∧
      (e.tokens = 0 → exec (.writeTokenArrive n) s = .next (State.runWrites e.stack 1 t).settle))

/-! ### The shaft path (05) -/

/-- Reads at a shaft. The first read that is ready is refused or answered with the error value as its seam's state says, answered from the home's
tracker or the write buffer, answered with the error value and 0x2203 (a member to be staged refused with 0x2202) on a line of a lost page,
or tracked and sent to the hub, with its version when its counter block is in the cache and with the block asked for when it is not. A returned counter block
supplies its waiting reads and lets writes go on, whatever its decoder said; an uncorrectable one loses its page. A returned line is offered; an uncorrectable one is
delivered as the error value with fault 0x2101, or refuses the member to be staged with 0x2102; pads that are ready release a held line; a correction's verdict judges the oldest corrected line, and
the next one that waits is delivered. A line that is offered is held until its pads are ready, for room at its site, or for the correction queue, and else
delivered; a plain seam's line is only delivered (R35, R90, R104, R106, R108, R116 to R118, R129, R152, R172, R237).
Writes at a shaft: the first write that can start is refused as its seam's state says, or goes on under a token; when none can, the counter blocks that
writes wait for are asked for. A write that goes on is refused on a lost page, begins a page refresh at the last minor, waits for a forced drift at the last major,
commits a full line under the next version, merges its bytes into the line that the home's tracker or the write buffer holds, or reads its old line. A refresh
re-enciphers its page under the next major and performs its write, or refuses it for its old line; the old line of a partial write is merged, or refuses the write; an
acknowledgement frees its write-buffer line with the last one (R88, R89, R96, R105, R126, R128, R153).
The model's own choices and readings in it: logs 3, 9, 72, 81, 90. -/
def Obligations.ShaftAccessesComplete : Prop :=
  (∀ (s : State) (k : Nat), s.ShaftOn k →
     (∀ a t, s.takeAcc k (fun i a => s.readReady k i a) = some (a, t) →
       (∀ c, s.access a.line false a.kept = .refuse c → exec (.shaftRead k) s = .next (t.lineDone a.src [] false c).settle) ∧
       (s.access a.line false a.kept = .errorValue → exec (.shaftRead k) s = .next (t.lineDone a.src (errorValue 64) true 0).settle) ∧
       (∀ n e, s.access a.line false a.kept = .pass → s.seamAt a.line = some (n, e) →
         let lost := e.kind = .versioned ∧ s.lineLost k n (e.pageOf a.line) (a.line % 64) = true
         (∀ v, s.heldVal a = some v → exec (.shaftRead k) s = .next (t.lineDone a.src (lineBytes v) false 0).settle) ∧
         (s.heldVal a = none → lost → s.judgedFirst a.src = false → exec (.shaftRead k) s =
           .next ((t.keepOpt a.part a.ctx 0x2203 (lineObj a.line n)).lineDone a.src (errorValue 64) true 0).settle) ∧
         (s.heldVal a = none → lost → s.judgedFirst a.src = true → exec (.shaftRead k) s = .next (t.lineDone a.src [] false 0x2202).settle) ∧
         (∀ w, s.heldVal a = none → ¬ lost → (s.shaft k).wb.find a.line = some w →
           exec (.shaftRead k) s = .next (t.lineDone a.src (lineBytes (w.c ^^^ s.padOf e n w.padSlot a.line w.ver)) false 0).settle) ∧
         (∀ key, s.heldVal a = none → ¬ lost → (s.shaft k).wb.find a.line = none → s.driftKey n (e.pageOf a.line) = some key →
           let read (hit : Bool) : Track := {
             tag := (s.shaft k).freeTag, line := a.line, seam := n, part := a.part, ctx := a.ctx, src := a.src, site := a.site, padSlot := key.1
             hashSlot := key.2.1, kind := e.kind, ep := key.2.2, ver := if hit then some (s.versionOf n a.line) else none, pads := hit, no := a.no }
           ((e.kind ≠ .versioned ∨ (s.shaft k).cc.contains (cbKey e (e.pageOf a.line)) = true) → exec (.shaftRead k) s =
             .next ((t.shaftTurn k a.part 1 5 a.ctx (e.needs [key.1, key.2.1])).track k (read true)).settle) ∧
           (e.kind = .versioned → (s.shaft k).cc.contains (cbKey e (e.pageOf a.line)) = false → exec (.shaftRead k) s =
             .next (((t.missCb k (cbKey e (e.pageOf a.line))).shaftTurn k a.part 1 5 a.ctx (e.needs [key.1, key.2.1])).track k (read false)).settle)))) ∧
     (∀ blk ecc, let key := k * 2 ^ 23 + blk
       (s.shaft k).fetch.contains key = true →
       let t := s.modShaft k fun sh => { sh with fetch := sh.fetch.filter (· != key) }
       let owner := s.seams.find? fun (_, e) => e.kind == .versioned && e.state != .empty && e.stack == k && decide (e.base * 64 ≤ blk) &&
         decide (blk < e.base * 64 + e.pages)
       (owner = none → exec (.counterFetchDone k blk ecc) s = .next t.settle) ∧
       (∀ n e, owner = some (n, e) →
         let page := blk - e.base * 64
         let waits := (t.shaft k).track.filter fun x => x.seam == n && x.ver.isNone && e.pageOf x.line == page
         let u := t.used.loseCounter k n page (Config.freeNat t.fresh % 8)
         let u := waits.foldl (fun (s : State) x =>
           ((s.untrack k x.tag).keepOpt x.part x.ctx 0x2203 (lineObj x.line n)).lineDone x.src (errorValue 64) true 0) u
         let v := ((t.insWords (k / 3) (wordsFrom (t.areaStart k 0 / 8 + blk * 8) 8) 0 ecc).1).cacheCb k key
         let v := if v.pageBad n page then v.partFault 0x110A e.owner (.unit .seam n 0) else v
         let v := waits.foldl (fun (s : State) x => s.modTrack k x.tag fun y => { y with ver := some (s.versionOf n x.line) }) v
         (ecc = .uncorr → exec (.counterFetchDone k blk ecc) s = .next (State.runWrites k (u.shaft k).q.length u).settle) ∧
         (ecc ≠ .uncorr → exec (.counterFetchDone k blk ecc) s = .next (State.runWrites k (v.shaft k).q.length v).settle))) ∧
     (∀ tag t, (s.shaft k).track.find? (fun t => t.tag == tag && t.old.isNone && t.stamp.isNone && t.ver.isSome && !t.pads) = some t →
       let u := s.modTrack k tag fun t => { t with pads := true, raw := none }
       (t.raw = none → exec (.padReady k tag) s = .next u.settle) ∧
       (∀ x, t.raw = some x → exec (.padReady k tag) s = .next (u.offerLine k { t with pads := true, raw := none } (heldLine x)).settle)) ∧
     (∀ tag l t, (s.shaft k).track.find? (fun t => t.tag == tag && t.old.isNone && t.raw.isNone && t.stamp.isNone) = some t →
       (∀ d, decodeLine (s.shaft k).narrow l = some d → exec (.hubReadReturn k tag l) s = .next (s.offerLine k t d).settle) ∧
       (decodeLine (s.shaft k).narrow l = none → s.judgedFirst t.src = false →
         exec (.hubReadReturn k tag l) s = .next ((((s.untrack k tag).shfUncorr k 0x2101 t.line).toPart 0x2101 t.part (lineObj t.line t.seam)).lineDone
           t.src (errorValue 64) true 0).settle) ∧
       (decodeLine (s.shaft k).narrow l = none → s.judgedFirst t.src = true →
         exec (.hubReadReturn k tag l) s = .next (((s.untrack k tag).shfUncorr k 0x2102 t.line).lineDone t.src [] false 0x2102).settle)) ∧
     (∀ tag rest x r, (s.shaft k).corrQ = tag :: rest → (s.shaft k).track.find? (·.tag == tag) = some x → x.raw = some r →
       let t := (s.modShaft k fun sh => { sh with corrQ := rest }).judge k x (heldLine r)
       ((t.shaft k).corrWait = [] → exec (.correctionVerdict k) s = .next t.settle) ∧
       (∀ g w y z, (t.shaft k).corrWait = g :: w → (t.shaft k).track.find? (·.tag == g) = some y → y.raw = some z →
         exec (.correctionVerdict k) s =
           .next ((t.modShaft k fun sh => { sh with corrWait := w }).deliverLine k { y with raw := none } (heldLine z)).settle)) ∧
     (∀ (t : Track) (d : Decoded),
       let hold := s.modTrack k t.tag fun t => { t with raw := some (d.c, d.mac ++ BitVec.ofNat 16 d.meta_.toNat, d.fixed) }
       let queues := d.fixed = true ∧ t.kind ≠ .plain ∧ s.judgedFirst t.src = false
       ((t.pads = false ∨ s.lineStays t = true) → s.offerLine k t d = hold) ∧
       (t.pads = true → s.lineStays t = false → queues → 8 ≤ (s.shaft k).corrQ.length →
         s.offerLine k t d = hold.modShaft k fun sh => { sh with corrWait := sh.corrWait ++ [t.tag] }) ∧
       (t.pads = true → s.lineStays t = false → (¬ queues ∨ (s.shaft k).corrQ.length < 8) → s.offerLine k t d = s.deliverLine k t d) ∧
       (t.kind = .plain → d.fixed = false → s.deliverLine k t d =
         ((s.untrack k t.tag).keepVal t.src t.line (d.c ^^^ s.padOf (s.seam t.seam) t.seam t.padSlot t.line (t.ver.getD 0))).lineDone t.src
           (lineBytes (d.c ^^^ s.padOf (s.seam t.seam) t.seam t.padSlot t.line (t.ver.getD 0))) false 0))) ∧
  (∀ (s : State) (k : Nat), s.ShaftOn k →
     (∀ a t, s.takeAcc k (fun i a => s.writeReady k i a && (s.access a.line true a.kept != .pass
         || ((s.needsCb k a).isNone && !s.needsToken a && !s.waitsDrift a))) = some (a, t) →
       (∀ c, s.access a.line true a.kept = .refuse c → exec (.shaftWrite k) s = .next (t.lineDone a.src [] false c).settle) ∧
       (∀ n e, s.access a.line true a.kept = .pass → s.seamAt a.line = some (n, e) →
         exec (.shaftWrite k) s = .next ((t.takeToken n a).writeGo k n a).settle)) ∧
     (s.writeOne k = none → exec (.shaftWrite k) s = .next (s.askBlocks k).settle) ∧
     (∀ n a, let e := s.seam n
       let page := e.pageOf a.line
       let key := (s.driftKey n page).getD (0, 0, 0)
       let b := s.cb (cbKey e page)
       let lost := e.kind = .versioned ∧ (s.pageLost k n page = true ∨ (a.full = false ∧ s.lineLost k n page (a.line % 64) = true))
       let last := e.kind = .versioned ∧ cbMinor b (a.line % 64) = 127
       let merged (x : Line) : State :=
         s.commitLine k n a key (s.nextVersion n a.line) (a.merge (lineBytes x)).1 (a.merge (lineBytes x)).2
       (lost → s.writeGo k n a = s.lineDone a.src [] false 0x2202) ∧
       (¬ lost → last → cbMajor b = maxMajor →
         s.writeGo k n a = (s.modShaft k fun sh => { sh with q := { a with token := true } :: sh.q }).wantDrift n 1 page false) ∧
       (¬ lost → last → cbMajor b ≠ maxMajor → s.writeGo k n a = (s.putCb (cbKey e page) (setBits b 26 1 1)).modShaft k fun sh =>
         { sh with refresh := sh.refresh ++ [{ seam := n, page, i := a.line % 64, w := { a with token := true } }] }) ∧
       (¬ lost → ¬ last → a.full = true → s.writeGo k n a = s.commitLine k n a key (s.nextVersion n a.line) a.data []) ∧
       (∀ v, ¬ lost → ¬ last → a.full = false → s.heldVal a = some v → s.writeGo k n a = merged v) ∧
       (∀ w, ¬ lost → ¬ last → a.full = false → s.heldVal a = none → (s.shaft k).wb.find a.line = some w →
         s.writeGo k n a = merged (w.c ^^^ s.padOf e n w.padSlot a.line w.ver)) ∧
       (¬ lost → ¬ last → a.full = false → s.heldVal a = none → (s.shaft k).wb.find a.line = none →
         s.writeGo k n a = (s.shaftTurn k a.part 1 5 a.ctx (e.needs [key.1, key.2.1])).track k {
           tag := (s.shaft k).freeTag, line := a.line, seam := n, part := a.part, ctx := a.ctx, src := a.src, site := a.site, padSlot := key.1
           hashSlot := key.2.1, kind := e.kind, ep := key.2.2, ver := some (s.versionOf n a.line), old := some a, no := a.no })) ∧
     (∀ r rest key lines, (s.shaft k).refresh = r :: rest → s.driftKey r.seam r.page = some key →
       let e := s.seam r.seam
       let b := s.cb (cbKey e r.page)
       let nb := setBits (setBits (cbFresh (cbMajor b + 1).toNat true) 10 16 (cbWrites b).toNat) 27 1 (if cbDirty b then 1 else 0)
       let t := (List.range 64).foldl (fun (u : State) j => if j = r.i then u else u.reencipher k r.seam (e.lineAt r.page j) 0x1108 key
         (verOf (cbMajor b) (cbMinor b j)) key (verOf (cbMajor b + 1) 0) (hubLineAt lines j)) s
       let t := (t.putCb (cbKey e r.page) nb).modShaft k fun sh => { sh with refresh := rest }
       let line := e.lineAt r.page r.i
       let old := s.oldLine k r.seam line key (verOf (cbMajor b) (cbMinor b r.i)) (s.standing k line (hubLineAt lines r.i))
       (r.w.full = true → exec (.refreshDone k lines) s = .next (t.commitLine k r.seam r.w key (verOf (cbMajor b + 1) 1) r.w.data []).settle) ∧
       (∀ x fixed, r.w.full = false → old = .ok (x, fixed) → exec (.refreshDone k lines) s =
         .next ((if fixed then t.shfCorr k line else t).commitLine k r.seam r.w key (verOf (cbMajor b + 1) 1) (r.w.merge (lineBytes x)).1
           (r.w.merge (lineBytes x)).2).settle) ∧
       (∀ c, r.w.full = false → old = .error c → exec (.refreshDone k lines) s = .next (t.refuseOld k r.seam r.w c).settle)) ∧
     (∀ tag l t a, (s.shaft k).track.find? (·.tag == tag) = some t → t.old = some a →
       let old := s.oldLine k t.seam t.line (t.padSlot, t.hashSlot, t.ep) (t.ver.getD 0) l
       (∀ x fixed, old = .ok (x, fixed) → exec (.partialOldLineReturn k tag l) s =
         .next ((if fixed then (s.untrack k tag).shfCorr k t.line else s.untrack k tag).commitLine k t.seam a
           ((s.driftKey t.seam ((s.seam t.seam).pageOf t.line)).getD (t.padSlot, t.hashSlot, t.ep)) (s.nextVersion t.seam t.line)
           (a.merge (lineBytes x)).1 (a.merge (lineBytes x)).2).settle) ∧
       (∀ c, old = .error c → exec (.partialOldLineReturn k tag l) s = .next ((s.untrack k tag).refuseOld k t.seam a c).settle)) ∧
     (∀ line w, (s.shaft k).wb.find line = some w →
       exec (.hubWriteAck k line) s = .next (s.modShaft k fun sh =>
         { sh with wb := if w.unacked ≤ 1 then sh.wb.erase line else sh.wb.put line { w with unacked := w.unacked - 1 } }).settle))

/-- An egress leaves its point, oldest first, when every delivery with an earlier stamp has its verdict and the point can take it: a packet its port, which
must lead to its destination and hold credits; what goes to the host the host port, which must be open to the partition (for an MSI-X and a
record in D0, for a unit sent to host memory, for a register read only with its link up); a packet whose port no longer leads to its destination is routed anew
(R121, R122, R191, R199, R205, R346, R359).
Until then it stays: an egress that a delivery without a verdict precedes does not leave, and nothing at its point passes it (R121, R122).
The model's own choices and readings in it: logs 3, 66. -/
def Obligations.EgressLeavesAfterVerdicts : Prop :=
  (∀ (s : State) (p : Nat) (pt : EgressPoint) (e : Egress), s.alive = true → 1 ≤ p → p ≤ 6 → isPoint pt = true → (s.horizon p).first pt = some e →
     let t := (s.modHz p fun h => { h with held := h.held.erase e, maxLag := max h.maxLag (s.clk.cyc - e.at_) }).releaseCargo e
     (∀ q k, e.point = .port q → e.cargo = .packet k →
       (s.leadsTo q k = true → s.mayTransmit q k = true → (s.horizon p).mayLeave e = true → exec (.egressRelease p pt) s = .next t.settle) ∧
       (s.leadsTo q k = false → exec (.egressRelease p pt) s = .next (s.routeAgain e k).settle)) ∧
     ((s.horizon p).mayLeave e = true → e.point = .host →
       (∀ fn tag st l, e.cargo = .completion fn tag st l false → s.hostWay p = true → exec (.egressRelease p pt) s = .next t.settle) ∧
       (∀ fn tag st l, e.cargo = .completion fn tag st l true → s.hostOpen p = true → exec (.egressRelease p pt) s = .next t.settle) ∧
       (∀ fn addr l c, e.cargo = .hostWrite fn addr l c → s.hostOpen p = true → exec (.egressRelease p pt) s = .next t.settle) ∧
       (∀ c addr l, e.cargo = .record c addr l → s.hostOpen p = true → exec (.egressRelease p pt) s = .next t.settle) ∧
       (∀ fn, e.cargo = .msix fn → s.hostOpen p = true → s.hst.power.getD fn 0 = 0 → exec (.egressRelease p pt) s = .next t.settle) ∧
       (∀ c n l, e.cargo = .unit c n l → (∀ a, (s.mov.chans.getD c {}).act = some a → (a.d.words.getD 0 0).getLsbD 51 = true → s.hostOpen p = true) →
         exec (.egressRelease p pt) s = .next t.settle))) ∧
  (∀ (s : State) (p : Nat) (pt : EgressPoint) (e : Egress), s.alive = true → 1 ≤ p → p ≤ 6 → isPoint pt = true → (s.horizon p).first pt = some e →
     (∃ m ∈ (s.horizon p).opn, m < e.stamp) → (∀ q k, e.point = .port q → e.cargo = .packet k → s.leadsTo q k = true) →
     exec (.egressRelease p pt) s = .next s.settle)

/-- A sampled lane: agreement moves the sample on; a lane outvoted by the spare and the third computation is retired; an outvoted spare leaves
service; three different outputs, and any disagreement once the spare replaces a retired lane, take the cluster offline; without a spare and in a cluster that is offline
nothing is sampled (R21, R22, R132). -/
def Obligations.LaneSampleCompletes : Prop :=  ∀ (s : State) (c : Nat) (r : Sample), s.alive = true → isCluster c = true →
    let k := s.clus.getD c {}
    let lanes := clusterLanes c
    let since := k.n + 1 - min (k.n + 1) lanes
    let step (t : State) : State := { t with clus := t.clus.modD c {} fun k =>
      { k with sample := (k.sample + 1) % lanes, n := k.n + 1, ctxs := k.ctxs.filter fun x => decide (since ≤ x.1) } }
    let b := s.bump 0x1A c 1
    ((k.offline = true ∨ k.spareOut = true) → exec (.laneSample c r) s = .next s.settle) ∧
    (k.offline = false → k.spareOut = false →
      (r.lane = r.spare → exec (.laneSample c r) s = .next (step s).settle) ∧
      (r.lane ≠ r.spare → k.laneOut = true → (r.spare = r.third ∨ r.lane = r.third) →
        exec (.laneSample c r) s = .next (step (b.clusterOffline c since)).settle) ∧
      (r.lane ≠ r.spare → k.laneOut = false → r.spare = r.third →
        exec (.laneSample c r) s = .next (step (((({ b with clus := b.clus.modD c {} fun k =>
          { k with laneOut := true, retired := k.sample, unchecked := true } }).toPart 0x1301 (s.clusterOwner c) (.window (lanes * 64) c)).laneIrq
            c).exposure c since)).settle) ∧
      (r.lane ≠ r.spare → k.laneOut = false → r.lane = r.third →
        exec (.laneSample c r) s = .next (step (({ b with clus := b.clus.modD c {} fun k => { k with spareOut := true, unchecked := true } }.logged
          0x1304 (s.clusterOwner c) (.unit .cluster c 0)).laneIrq c)).settle) ∧
      (r.lane ≠ r.spare → r.spare ≠ r.third → r.lane ≠ r.third →
        exec (.laneSample c r) s = .next (step (b.clusterOffline c 0)).settle))

/-! ### The Inner Store (06) -/

/-- An inner-page request that no earlier one overlaps decodes every word it reads, and those it changes in part, but the words whose value the home's tracker keeps; a corrected word is
counted. A read answers with the bytes as they stand; a write puts its bytes, an atomic what its operation makes of the old ones, which it returns; an
uncorrectable word gives a read the error value with 0x2205 and refuses a write, and a member to be staged, with 0x2205 (R142, R143, R147, R152, R230, R237).
The model's own choices and readings in it: logs 3, 81. -/
def Obligations.InnerPageAccessCompletes : Prop :=  ∀ (s : State) (q key : Nat) (ecc : Ecc) (r : PageReq), s.alive = true → q < 4 →
    s.ins.reqs.find? (fun r => r.key == key && quadOf r.addr == q) = some r →
    let n := max r.len r.bytes.length
    (∀ x ∈ s.ins.reqs.takeWhile (·.key != key), r.addr + n ≤ x.addr ∨ x.addr + max x.len x.bytes.length ≤ r.addr) →
    let t := { s with ins := { s.ins with reqs := s.ins.reqs.filter (·.key != key) } }
    let line := r.addr % 2 ^ 44 / 8
    let all := (r.addr % 8 + n + 7) / 8
    let reads := (if r.write = false ∨ r.rmw.isSome = true then List.range all else partWords r.addr r.bytes).filter fun i =>
      !(r.src.isHome && s.home.words.contains (line + i))
    let u := t.insWords q (reads.map (innerWord r.addr + ·)) 6 ecc
    let v := (if reads = [] then t else u.1).keepWords r.src line all
    let fine := reads = [] ∨ ecc ≠ .uncorr
    let lost := (u.1.keepOpt r.part r.ctx 0x2205 (lineObj (r.addr % 2 ^ 44 / 64) 0xFF)).lineDone r.src (errorValue n) true 0
    (fine → r.write = false → exec (.innerPageAccess q key ecc) s = .next (v.lineDone r.src (v.innerBytes r.addr n) false 0).settle) ∧
    (fine → r.write = true → r.rmw = none →
      exec (.innerPageAccess q key ecc) s = .next ((v.writeInner r.part r.addr r.bytes).lineDone r.src [] false 0).settle) ∧
    (∀ b off x, fine → r.write = true → r.rmw = some (.atomic b off x) → exec (.innerPageAccess q key ecc) s =
      .next ((v.writeInner r.part r.addr ((rmwApply (.atomic b off x) 0 [] (v.innerBytes r.addr n)).map some)).lineDone r.src
        ((v.innerBytes r.addr n).take (atomicSize b)) false 0).settle) ∧
    (∀ m, fine → r.write = true → r.rmw = some m → (∀ b off x, m ≠ .atomic b off x) → exec (.innerPageAccess q key ecc) s =
      .next ((v.writeInner r.part r.addr ((rmwApply m 0 [] (v.innerBytes r.addr n)).map some)).lineDone r.src [] false 0).settle) ∧
    (¬ fine → (r.write = true ∨ s.judgedFirst r.src = true) →
      exec (.innerPageAccess q key ecc) s = .next (u.1.lineDone r.src [] false 0x2205).settle) ∧
    (¬ fine → r.write = false → s.judgedFirst r.src = false → exec (.innerPageAccess q key ecc) s = .next lost.settle) ∧
    (ecc = .clean → u.1 = t)

/-- Bytes written to inner pages read back; every other byte of every inner page reads as before, and the pages stay in canonical form. -/
def Obligations.InnerWriteReadsBack : Prop :=  ∀ (s : State) (p addr : Nat) (l : List (Option Byte)), s.PagesOk →
    (s.writeInner p addr l).PagesOk ∧
    (∀ i b, l[i]? = some (some b) → (s.writeInner p addr l).ins.pages.getD (addr % 2 ^ 44 + i) 0 = b) ∧
    ∀ x, (∀ i, x = addr % 2 ^ 44 + i → l[i]? = none ∨ l[i]? = some none) →
      (s.writeInner p addr l).ins.pages.getD x 0 = s.ins.pages.getD x 0

/-- Every step keeps the inner pages in canonical form: addresses strictly rising, no byte listed that reads as an unlisted one does. -/
def Obligations.InnerPagesKeptCanonical : Prop := ∀ s t : State, s.PagesOk → step s = .next t → t.PagesOk

/-- The scrubber: a clean word only moves the position, a corrected one is counted in the table, an uncorrectable one is handled as its area says; the end
of a pass queues for row sparing the words corrected three times and clears the table; a share's zeroing clears its counter blocks, inner pages and
dirty bits (R146 to R149, R152).
The model's own choices and readings in it: logs 3, 9, 60. -/
def Obligations.ScrubbingCompletes : Prop :=  ∀ (s : State) (q : Nat), s.alive = true → q < 4 →
    (∀ w, isScrubWord w = true →
      let t := s.modSlice q fun e => { e with pos := BitVec.ofNat 10 (w * 8 / 2097152) }
      exec (.scrubWordRead q w .clean) s = .next t.settle ∧
      exec (.scrubWordRead q w .corrected) s = .next (t.insCorr q w (min 7 (s.wordArea q w).2.1)).settle ∧
      exec (.scrubWordRead q w .uncorr) s = .next (t.wordLost q w).settle) ∧
    (∃ u : State, exec (.scrubPassEnd q) s = .next u.settle ∧ (u.slice q).table = [] ∧ (u.slice q).passes = satInc (s.slice q).passes ∧
      ∀ e ∈ (s.slice q).table, 3 ≤ e.count → e.word ∈ (u.slice q).queued) ∧
    (∀ k, k < 12 → s.ins.zeroing.contains k = true → exec (.shareZeroDone k) s = .next (s.zeroShare k).settle)

/-- The scrub correction table of a slice holds at most 256 entries. A word corrected, by the scrubber or by a demand read, that the table holds counts one more;
one that it does not hold enters it, in a full table in place of the entry with the smallest count, the oldest among equals. The end of a pass queues for row
sparing exactly the words counted at least three times, beside those already queued, and clears the table (R149). -/
def Obligations.ScrubTableKept : Prop :=  ∀ (s : State) (q w : Nat), s.alive = true → q < 4 → w < 2 ^ 28 →
    let tab := (s.slice q).table
    let noted (new : List ScrubEntry) (at_ : Nat) : Prop :=
      (tab.length ≤ 256 → new.length ≤ 256) ∧
      ((∃ e ∈ tab, e.word = at_) → new = tab.map fun e => if e.word = at_ then { e with count := e.count + 1 } else e) ∧
      ((∀ e ∈ tab, e.word ≠ at_) → tab.length < 256 → new = tab ++ [{ word := at_, count := 1 }]) ∧
      (∀ pre e post, (∀ e ∈ tab, e.word ≠ at_) → tab.length = 256 → tab = pre ++ e :: post → (∀ x ∈ pre, e.count < x.count) →
        (∀ x ∈ post, e.count ≤ x.count) → new = pre ++ post ++ [{ word := at_, count := 1 }])
    (∃ u : State, exec (.scrubWordRead q w .corrected) s = .next u.settle ∧ noted (u.slice q).table w) ∧
    (∀ key r, s.ins.reqs.find? (fun r => r.key == key && quadOf r.addr == q) = some r → s.ins.reqs.head? = some r → r.write = false →
      s.home.words = [] → 0 < max r.len r.bytes.length →
      ∃ (u : State) (i : Nat), i < (r.addr % 8 + max r.len r.bytes.length + 7) / 8 ∧ noted (u.slice q).table (innerWord r.addr + i) ∧
        exec (.innerPageAccess q key .corrected) s =
          .next (u.lineDone r.src (u.innerBytes r.addr (max r.len r.bytes.length)) false 0).settle) ∧
    ∃ u : State, exec (.scrubPassEnd q) s = .next u.settle ∧ (u.slice q).table = [] ∧
      ∀ x, x ∈ (u.slice q).queued ↔ x ∈ (s.slice q).queued ∨ ∃ e ∈ tab, e.word = x ∧ 3 ≤ e.count

/-! ### Chiplet sites (07) -/

/-- A site's bring-up. HELLO goes out at link up. The shim's whole HELLO shows its maker, part and revision: with a response credit outside 16 to 4,095
nothing else happens, a version or an identity that no descriptor can match is rejected with 0x4006, any other is answered with a CHALLENGE, under
the generator's gate. The shim's whole RESPONSE shows its SVN and brings KEY_CONFIRM under fresh keys, or REJECT with 0x4007; without a free link key slot
the site waits where it is. The shim's KEY_CONFIRM brings RUN when it agrees, and REJECT when not; bring-up that is not complete in time disables the site; RESTART, from
the operator's or the Lamp's aperture, makes a disabled or quarantined site ready for the next link up, and is refused with CODE 0x2 of any other
(R176, R177, R179, R187, R385, Table 7.14).
A site's link lost and found: a site in RUN enters resynchronisation; in resynchronisation it sends RESYNC when the link is up again, and is quarantined when it is
not in time; in any other state the link only comes and goes, and a configuration outside Table 7.1 is logged with 0x400B. A whole HELLO from a site in RUN or in
resynchronisation is a chiplet reset, which loses the contexts with operations outstanding and runs bring-up again; in another state it is
dropped (R157, R158, R175, R183).
The model's own choices and readings in it: logs 3, 30, 31, 64. -/
def Obligations.SiteLinkCompletes : Prop :=
  (∀ (s : State) (t : Nat), t < 8 →
     let x := s.site t
     (s.PortsOn → x.state = .down → x.linkUp = false →
       let hello := helloBytes s.fuse.unitId t
       exec (.siteLinkUp t true) s = .next ((s.modSite t fun x =>
         { x with state := .boot, step := 1, transcript := hello, nonce := 0, cause := 0, linkUp := true }).boot t 1
           hello).settle) ∧
     (∀ (h : ShimHello) u, s.PortsOn → s.takeBoot t 1 h.bytes = some u → x.state = .boot →
       let v := u.modSite t fun x => { x with maker := h.maker, part := h.part, rev := h.rev }
       let known := s.lease.descriptors.any fun d => d.hello t h.maker h.part h.rev
       (x.step = 1 → (h.credits < 16 ∨ 4095 < h.credits) → exec (.ctrlHello t h) s = .next v.settle) ∧
       (x.step = 1 → 16 ≤ h.credits → h.credits ≤ 4095 → (h.version ≠ 1 ∨ known = false) →
         exec (.ctrlHello t h) s = .next ((v.boot t 4 (leBytes 2 0x4006)).disableSite t 0x4006).settle) ∧
       (x.step = 1 → 16 ≤ h.credits → h.credits ≤ 4095 → h.version = 1 → known = true →
         let nonce : BitVec 256 := v.rand.setWidth 256
         let c := leBytes 32 nonce.toNat ++ v.used.freeBytes (1568 + 97)
         exec (.ctrlHello t h) s = .next (v.withDrbg (((v.used.used.modSio t fun io => { io with rspHeld := h.credits }).modSite t fun x =>
           { x with nonce, step := 3, transcript := x.transcript ++ h.bytes ++ c }).boot t 2 c)).settle) ∧
       (x.step ≠ 1 → exec (.ctrlHello t h) s = .next u.settle)) ∧
     (∀ (r : ShimResponse) u', s.PortsOn → x.state = .boot → x.step = 3 → s.takeBoot t 3 r.bytes = some u' →
       let v := u'.modSite t fun x => { x with svn := r.svn }
       let fits := (v.descOf t r).isSome = true ∧ r.chainOk = true ∧ r.sigsOk = true ∧ r.nonceEcho = x.nonce
       let th := kmac256 (ascii "TOLONE") (x.transcript ++ r.bytes) 64 "TOLONE-TRANSCRIPT"
       let z := kmac256 (r.ssKem ++ r.ssEcdh) th 32 "TOLONE-LINK-SECRET"
       (¬ fits → exec (.ctrlResponse t r) s = .next ((v.boot t 4 (leBytes 2 0x4007)).disableSite t 0x4007).settle) ∧
       (∀ i d nz nt nr u w y, fits → v.descOf t r = some (i, d) → v.putLink 0 (BitVec.ofNat 512 (ofLe z)) = some (nz, u) →
         u.putLink 0 (linkKey z "H2C" 0) = some (nt, w) → w.putLink 0 (linkKey z "C2H" 0) = some (nr, y) →
         exec (.ctrlResponse t r) s = .next ((((y.modSite t fun x => { x with
           step := 6, th, z := some nz, txK := some nt, rxK := some nr, rxPrev := none, txEp := 0, rxEp := 0, rxCount := 0
           txSeq := 0, rxSeq := 0, txBase := 0, desc := i, unitId := r.unitId, measurement := r.measurement }).modSio t fun io =>
             { io with reqOut := 256, dataOut := 512, sent := [] }).ctrl t 5 (leBytes 2 256 ++ leBytes 2 512 ++ th.take 32))).settle) ∧
       (fits → v.putLink 0 (BitVec.ofNat 512 (ofLe z)) = none → exec (.ctrlResponse t r) s = .next v.settle)) ∧
     (∀ f u, s.alive = true → x.state = .boot → x.step = 6 → s.takeCtrl t 5 = some (f, u) →
       (f.payload.take 32 = x.th.take 32 →
         exec (.ctrlKeyConfirm t) s = .next ((u.modSite t fun x => { x with state := .run, step := 7 }).tsIrq t 0).settle) ∧
       (f.payload.take 32 ≠ x.th.take 32 → exec (.ctrlKeyConfirm t) s =
         .next ((u.boot t 4 (leBytes 2 0x4007)).disableSite t 0x4007).settle)) ∧
     (s.alive = true → x.state = .boot → exec (.bringupTimeout t) s = .next (s.disableSite t 0x4008).settle) ∧
     (∀ ap, opAp ap = true → s.Reaches ap (.ts t) 4 →
       ((x.state = .disabled ∨ x.state = .quarantined) →
         exec (.tsRestart ap t) s = .next ((s.modSite t fun x => { x with state := .down, cause := 0 }).tsEnd t 0).settle) ∧
       (x.state ≠ .disabled → x.state ≠ .quarantined → exec (.tsRestart ap t) s = .next (s.tsEnd t 2).settle))) ∧
  (∀ (s : State) (t : Nat), s.PortsOn → t < 8 →
     let x := s.site t
     (x.linkUp = true →
       let u := s.modSite t fun x => { x with linkUp := false }
       (x.state = .run → exec (.siteLinkDown t) s =
         .next (((u.modSite t fun x => { x with state := .resync }).modSio t fun io => { io with resync := satInc io.resync }).tsIrq t 1).settle) ∧
       (x.state ≠ .run → exec (.siteLinkDown t) s = .next u.settle)) ∧
     (x.linkUp = false →
       let u := s.modSite t fun x => { x with linkUp := true }
       (x.state = .resync → exec (.siteLinkUp t true) s = .next (u.ctrl t 0x13 (leBytes 8 x.rxSeq.toNat)).settle ∧
         exec (.resyncTimeout t) s = .next (s.quarantine t 0x4004).settle) ∧
       (x.state ≠ .resync → x.state ≠ .down → exec (.siteLinkUp t true) s = .next u.settle) ∧
       exec (.siteLinkUp t false) s = .next (s.logged 0x400B (s.siteOwner t) (siteObj t)).settle) ∧
     (∀ (h : ShimHello) u, s.takeBoot t 1 h.bytes = some u →
       ((x.state = .run ∨ x.state = .resync) →
         let lost := (((u.sIo t).all (u.siteOwner t)).filterMap fun o => o.op.ctx).eraseDups
         let v := lost.foldl (fun u c => u.loseCtx (u.siteOwner t) c 0x400A (siteObj t)) ((u.zeroSite t).abandonSite t)
         exec (.ctrlHello t h) s = .next ((((v.modSio t fun io => { io with
           sent := [], rx := [], reqOut := 0, dataOut := 0, reqGot := 0, dataGot := 0, await_ := false, flush := false, rspHeld := 0 }).startSite
             t).siteHello t h)).settle) ∧
       (x.state ≠ .boot → x.state ≠ .run → x.state ≠ .resync → exec (.ctrlHello t h) s = .next u.settle)))

/-- A received frame of 80 bytes that is not empty. From a disabled or quarantined site it is counted and dropped. With the link up, an unencrypted CTRL frame with the
code of HELLO or RESPONSE is the next chunk of its message. Under keys, a SEQ already received is counted and dropped; the expected SEQ under its MAC is accepted;
the first failure at the expected SEQ, or a SEQ ahead of it while no REPLAY is unanswered, is logged with REPLAY sent, but for a RESYNC of a site that
resynchronises, which is taken; the failure of a retransmission quarantines the site, and a SEQ ahead of it then is dropped (R160, R162, R167, R173 to
R176).
An accepted frame at a site. It is counted, ends a REPLAY's wait, returns the response credits it carries, and the 2,048th of an epoch ends the epoch before. A REQ or DATA
frame without the credit for it, and a kind that may not come this way, quarantines the site; while FLUSH is unanswered a REQ or DATA frame is dropped and its credit
returned; any other REQ, DATA or CTRL frame waits for its own event (R161, R171 to R173, R178, R183).
Requests of a site in RUN. A REQ frame hands over its four slots; a DATA frame gives the next part of its operation's data, and quarantines the site when no operation
waits for it. A slot whose data is complete, with room for its answer, is refused for a context that is not ACTIVE, for an opcode that does not exist (0x3403) and for memory of this
node outside the site's partition (0x4009); a FENCE waits for what is before it, CART_END closes its context's cart, a member joins it, and any other operation is issued, a posted
one on this node completing at once; with no free TAG it waits. What a quarantine left to complete goes first and is performed with its result
dropped (R163 to R165, R172, R182, R225, R226, R234, R244, R354).
The model's own choices and readings in it: logs 3, 12, 31, 32. -/
def Obligations.SiteFramesComplete : Prop :=
  ((∀ (s : State) (t : Nat) (head wire mac : List Byte), s.PortsOn → t < 8 → head.length = 8 → wire.length = 64 → mac.length = 8 →
      let x := s.site t
      let hd : Dword := BitVec.ofNat 64 (ofLe head)
      let kind := (hd.extractLsb' 60 4).toNat
      let code := (hd.extractLsb' 32 8).toNat
      let seq := fullSeq x.rxSeq (hd.extractLsb' 40 16)
      let full : Dword := BitVec.ofNat 64 seq.toNat
      let key := x.rxKeyOf (hd.extractLsb' 58 2).toNat
      let sum : Dword := BitVec.ofNat 64 (ofLe mac.reverse)
      let mac' (n : Nat) : Dword := frameMac (s.keyBytes n) (s.hashKey n) head wire (linkBlock full true false 0 0)
      let plain (n : Nat) := xorBytes wire (linkPad (s.keyBytes n) (linkBlock full true false 0 0))
      let u := (s.modSio t fun io => { io with macFail := satInc io.macFail }).bump 0x15 t 1
      let failed := (((u.modSio t fun io => { io with await_ := true, replay := satInc io.replay }).bump 0x15 t 1).logged 0x4001 (s.siteOwner t)
        (siteObj t)).ctrl t 0x11 (leBytes 8 x.rxSeq.toNat)
      kind ≠ 0 →
      ((x.state = .disabled ∨ x.state = .quarantined) →
        exec (.frameReceive t (head ++ wire ++ mac)) s = .next (s.modSio t fun io => { io with stale := satInc io.stale }).settle) ∧
      (x.state ≠ .disabled → x.state ≠ .quarantined → x.linkUp = true →
        let chunk := kind = 5 ∧ sum = 0 ∧ (code = 1 ∨ code = 3)
        (chunk → exec (.frameReceive t (head ++ wire ++ mac)) s =
          .next (s.takeChunk t code (hd.extractLsb' 40 16).toNat (hd.getLsbD 16) wire).settle) ∧
        (¬ chunk → x.rxK ≠ none →
          (seq < (x.rxSeq.toNat : Int) →
            exec (.frameReceive t (head ++ wire ++ mac)) s = .next (s.modSio t fun io => { io with stale := satInc io.stale }).settle) ∧
          (seq = (x.rxSeq.toNat : Int) →
            (∀ n, key = some n → sum = mac' n → exec (.frameReceive t (head ++ wire ++ mac)) s = .next (s.acceptFrame t hd (plain n)).settle) ∧
            ((∀ n, key = some n → sum ≠ mac' n) →
              ((s.sIo t).await_ = true → exec (.frameReceive t (head ++ wire ++ mac)) s = .next (u.quarantine t 0x4002).settle) ∧
              ((s.sIo t).await_ = false → exec (.frameReceive t (head ++ wire ++ mac)) s = .next failed.settle))) ∧
          ((x.rxSeq.toNat : Int) < seq → full ≠ x.rxSeq →
            let early (n : Nat) := x.state = .resync ∧ kind = 5 ∧ code = 0x13 ∧ sum = mac' n
            (∀ n, key = some n → early n → exec (.frameReceive t (head ++ wire ++ mac)) s = .next (s.modSio t fun io =>
              { io with rx := io.rx ++ [{ kind, tag := (hd.extractLsb' 24 16).toNat, seq := full, payload := plain n }] }).settle) ∧
            ((∀ n, key = some n → ¬ early n) →
              ((s.sIo t).await_ = true → exec (.frameReceive t (head ++ wire ++ mac)) s = .next s.settle) ∧
              ((s.sIo t).await_ = false → exec (.frameReceive t (head ++ wire ++ mac)) s = .next failed.settle)))))) ∧
   (∀ (s : State) (t : Nat) (hd : Dword) (plain : List Byte), t < 8 →
      let x := s.site t
      let kind := (hd.extractLsb' 60 4).toNat
      let now := (hd.extractLsb' 58 2).toNat == x.rxEp.toNat % 4
      let a := (s.modSite t fun x => { x with rxSeq := x.rxSeq + 1, rxCount := if now then x.rxCount + 1 else x.rxCount }).bump 0x07 t 1
      let b := if 2048 ≤ (a.site t).rxCount then (a.killSlots (a.site t).rxPrev.toList).modSite t fun x => { x with rxPrev := none } else a
      let c := b.modSio t fun io => { io with await_ := false }
      let u := if (hd.extractLsb' 14 2).toNat = 2 then (c.gainCredits t (hd.extractLsb' 8 6).toNat).drainRsp t else c
      let f : RxFrame := { kind, tag := (hd.extractLsb' 24 16).toNat, part := (hd.extractLsb' 56 2).toNat, poison := hd.getLsbD 0
                           seq := x.rxSeq, payload := plain }
      (kind = 1 → (u.sIo t).reqOut = 0 → s.acceptFrame t hd plain = u.quarantine t 0x4005) ∧
      (kind = 1 → (u.sIo t).reqOut ≠ 0 → (u.sIo t).flush = true → s.acceptFrame t hd plain =
        (u.modSio t fun io => { io with reqOut := io.reqOut - 1, reqGot := io.reqGot + 1 }).returnCredits t) ∧
      (kind = 1 → (u.sIo t).reqOut ≠ 0 → (u.sIo t).flush = false → s.acceptFrame t hd plain =
        (u.modSio t fun io => { io with reqOut := io.reqOut - 1 }).modSio t fun io => { io with rx := io.rx ++ [f] }) ∧
      (kind = 2 → (u.sIo t).dataOut = 0 → s.acceptFrame t hd plain = u.quarantine t 0x4005) ∧
      (kind = 2 → (u.sIo t).dataOut ≠ 0 → (u.sIo t).flush = true → s.acceptFrame t hd plain =
        (u.modSio t fun io => { io with dataOut := io.dataOut - 1, dataGot := io.dataGot + 1 }).returnCredits t) ∧
      (kind = 2 → (u.sIo t).dataOut ≠ 0 → (u.sIo t).flush = false → s.acceptFrame t hd plain =
        (u.modSio t fun io => { io with dataOut := io.dataOut - 1 }).modSio t fun io => { io with rx := io.rx ++ [f] }) ∧
      (kind = 5 → s.acceptFrame t hd plain = u.modSio t fun io => { io with rx := io.rx ++ [f] }) ∧
      (kind ≠ 1 → kind ≠ 2 → kind ≠ 5 → s.acceptFrame t hd plain = u.quarantine t 0x4005))) ∧
  (∀ (s : State) (t : Nat), s.alive = true → t < 8 →
     ((s.site t).state = .run → ∀ f u, s.takeRx t (fun f => f.kind == 1) = some (f, u) →
       exec (.reqFrame t) s = .next ((((List.range 4).foldl (State.takeSlot t f.seq (reqWords f.payload))
         (u.modSio t fun io => { io with reqGot := io.reqGot + 1 }, false)).1.returnCredits t)).settle) ∧
     ((s.site t).state = .run → ∀ f u, s.takeRx t (fun f => f.kind == 2) = some (f, u) →
       let v := u.modSio t fun io => { io with dataGot := io.dataGot + 1 }
       let op := (v.sIo t).ops.find? (·.tag == f.tag)
       (∀ o, op = some o → o.data.length < o.need * 64 → f.part * 64 = o.data.length →
         exec (.dataFrame t) s = .next ((v.modSio t fun io => { io with ops := io.ops.map fun o => o.give f }).returnCredits t).settle) ∧
       ((∀ o, op = some o → o.need * 64 ≤ o.data.length ∨ f.part * 64 ≠ o.data.length) →
         exec (.dataFrame t) s = .next (v.quarantine t 0x4005).settle)) ∧
     (∀ tag o, tag < 16384 → (s.sIo t).kept.find? (·.tag == tag) = some o →
       exec (.siteSlotIssue t tag) s = .next (s.issueKept t o).settle) ∧
     (∀ tag o, tag < 16384 → (s.sIo t).kept.find? (·.tag == tag) = none → (s.site t).state = .run →
       (s.sIo t).ops.find? (·.tag == tag) = some o → o.ready (s.sIo t).ops = true → s.rspRoom t (rspParts o.whole.answerBytes) = true →
       let p := s.siteOwner t
       let op := o.whole
       let ctx := op.ctx.getD 0
       let known := op.known = true
       let fence := op.kind = 0 ∧ op.opcode = 0x38
       let end_ := op.kind = 0 ∧ op.opcode = 0x3C
       let out := op.kind = 0 ∧ nodeOf op.addr = s.lse.node ∧ s.placeCheck op = 0x3401
       let u := s.modOp t tag fun x => { x with issued := true }
       (s.ctxOk p ctx = false → exec (.siteSlotIssue t tag) s = .next ((s.stale p).endSlot t o 2).settle) ∧
       (s.ctxOk p ctx = true →
         (¬ known → exec (.siteSlotIssue t tag) s = .next ((s.opFault p op.ctx 0x3403 (siteObj t)).endSlot t o 1).settle) ∧
         (known → fence → exec (.siteSlotIssue t tag) s =
           .next { u with req := { u.req with fences := u.req.fences ++ [(Engine.site t, p, ctx, tag)] } }.settle) ∧
         (known → ¬ fence → end_ → exec (.siteSlotIssue t tag) s = .next (s.endCart t o ctx).settle) ∧
         (known → ¬ fence → ¬ end_ → op.cart = true → exec (.siteSlotIssue t tag) s = .next (s.joinCart t o ctx).settle) ∧
         (known → ¬ fence → ¬ end_ → op.cart = false →
           (out → exec (.siteSlotIssue t tag) s = .next ((s.opFault p op.ctx 0x4009 (siteObj t)).endSlot t o 1).settle) ∧
           (¬ out → u.issueReq (.site t) op tag o.seq (op.kind == 3 && op.opcode != 3) = none → exec (.siteSlotIssue t tag) s = .next s.settle) ∧
           (∀ v, ¬ out → u.issueReq (.site t) op tag o.seq (op.kind == 3 && op.opcode != 3) = some v →
             let here := op.posted = true ∧ nodeOf op.addr = s.lse.node
             (¬ here → exec (.siteSlotIssue t tag) s = .next v.settle) ∧
             (here → exec (.siteSlotIssue t tag) s = .next (v.cmpl t tag (v.opStatus p op.ctx true 0 false)).settle))))))

/-- CTRL messages of a site, each taken from its oldest accepted frame, and TS_CMD REKEY: credits gained release held responses; REPLAY retransmits what
is retained, or answers REPLAY_LOST and quarantines; REPLAY_LOST and REPLAY_FAILED quarantine; RESYNC of a site that resynchronises with its link up retransmits what is
retained and enters RUN, or quarantines, and is passed over otherwise; REKEY advances the epoch to the next, stands for the epoch in force, and quarantines for any
other; FLUSH_DONE ends the flush; TS_CMD REKEY, from the operator's or the Lamp's aperture, advances both epochs in RUN and is refused with CODE 0x2 otherwise (R171, R172, R174, R175,
R178, R183, R187).
The model's own choices and readings in it: logs 3, 31. -/
def Obligations.SiteControlCompletes : Prop :=  ∀ (s : State) (t : Nat), t < 8 →
    (s.alive = true →
      (∀ f u, s.takeCtrl t 0x10 = some (f, u) →
        exec (.ctrlCredit t) s = .next ((u.modSio t fun io => { io with
          rspHeld := min 4095 (io.rspHeld + ofLe ((f.payload.drop 2).take 2)) }).drainRsp t).settle) ∧
      (∀ f u, s.takeCtrl t 0x11 = some (f, u) →
        let seq : Dword := BitVec.ofNat 64 (ofLe (f.payload.take 8))
        (u.retained t seq = true →
          exec (.ctrlReplay t) s = .next ((u.modSio t fun io => { io with replaySent := satInc io.replaySent }).resend t seq).settle) ∧
        (u.retained t seq = false →
          exec (.ctrlReplay t) s = .next ((u.ctrl t 0x12 (leBytes 8 seq.toNat)).quarantine t 0x4003).settle)) ∧
      (∀ f u, s.takeCtrl t 0x12 = some (f, u) → exec (.ctrlReplayLost t) s = .next (u.quarantine t 0x4003).settle) ∧
      (∀ f u, s.takeCtrl t 0x19 = some (f, u) → exec (.ctrlReplayFailed t) s = .next (u.quarantine t 0x4002).settle) ∧
      (∀ f u, s.takeCtrl t 0x13 = some (f, u) →
        let seq : Dword := BitVec.ofNat 64 (ofLe (f.payload.take 8))
        let now := (s.site t).state = .resync ∧ (s.site t).linkUp = true
        (now → u.retained t seq = true →
          exec (.ctrlResync t) s = .next ((((u.modSite t fun x => { x with state := .run }).tsIrq t 0).resend t seq).drainRsp t).settle) ∧
        (now → u.retained t seq = false →
          exec (.ctrlResync t) s = .next ((u.ctrl t 0x12 (leBytes 8 seq.toNat)).quarantine t 0x4003).settle) ∧
        (¬ now → exec (.ctrlResync t) s = .next u.settle)) ∧
      (∀ f u, s.takeCtrl t 0x14 = some (f, u) →
        let e : BitVec 32 := BitVec.ofNat 32 (ofLe (f.payload.take 4))
        (e = (s.site t).rxEp + 1 → exec (.ctrlRekey t) s = .next (u.advanceRx t).settle) ∧
        (e = (s.site t).rxEp → exec (.ctrlRekey t) s = .next u.settle) ∧
        (e ≠ (s.site t).rxEp + 1 → e ≠ (s.site t).rxEp → exec (.ctrlRekey t) s = .next (u.quarantine t 0x4005).settle)) ∧
      (∀ f u, s.takeCtrl t 0x16 = some (f, u) →
        exec (.ctrlFlushDone t) s = .next (u.modSio t fun io => { io with flush := false }).settle)) ∧
    (∀ ap, opAp ap = true → s.Reaches ap (.ts t) 4 →
      ((s.site t).state = .run → exec (.tsRekey ap t) s = .next (((s.advanceTx t).advanceRx t).tsEnd t 0).settle) ∧
      ((s.site t).state ≠ .run → exec (.tsRekey ap t) s = .next (s.tsEnd t 2).settle))

/-! ### The fabric (08) -/

/-- A fabric port's link. Up, with its cluster online, it sends HELLO with its counts at 0; down, what waits on it leaves by another port or is lost. A codeword gives its credits
and its units, the units before its first packet passed over while framing is lost, and each malformed packet counted; an uncorrected one is counted and loses the packet in
progress. HELLO goes out again until an ANNOUNCE is accepted. At a slot boundary one cell leaves, of the slot's partition or of block traffic, else a PAD; at the host cluster
the next host slot begins (R189 to R191, R204, R205, R209, R212, Table 1.5).
Packets at a port. One for another node is forwarded on the usable direct port that its ordering or the credits choose, and discarded where its partition may not use that
port; one that has travelled a hop, or that has no direct port, is discarded with ROUTE_FAIL sent back. One for this node is delivered, that of a partition as a horizon member, a broadcast
going on to the column; what the port's state does not carry, or a dead node sends, is dropped. A delivered packet is judged: a clear one by its form, any other by its
MAC, then by its flow's replay window, before anything of it is used (R30, R119, R199 to R203, R206 to R208, R213, R214, R222).
The model's own choices and readings in it: logs 3, 33, 35, 84, 85, 86. -/
def Obligations.PortTrafficCompletes : Prop :=
  (∀ (s : State) (p : Nat), p < 24 →
     let q := s.port p
     (s.PortsOn → q.state = .down → (s.clus.getD (88 + p) {}).offline = false →
       exec (.fabricPortUp p) s = .next (((((s.modPort p fun q => { q with
         sent := [0, 0, 0], got := [0, 0, 0], limit := [2048, 2048, 64], partial_ := [], lost := true, lostUnits := 0, cellsTx := 0, cellsRx := 0 }).modPio p
           fun io => { io with annOk := false, fails := [] }).portState p .hello).sendHello p)).settle) ∧
     (q.state ≠ .unused → q.state ≠ .down →
       (s.PortsOn → exec (.fabricPortDown p) s = .next ((((s.modPort p fun q =>
         { q with partial_ := [], lost := true, reason := 0 }).portState p .down).clearTx p).checkRoutes).settle) ∧
       (∀ hdr us, s.PortsOn → exec (.codewordReceive p hdr us true) s = .next ((((s.modPort p fun q => q.lose 40).modPio p fun io =>
         { io with cwLost := satInc io.cwLost }).bump 0x17 p 1).logged 0x3004 0 (.unit .port p 0)).settle) ∧
       (∀ (hdr : BitVec 20) us, s.PortsOn →
         let first := (hdr.extractLsb' 14 6).toNat
         let vl := (hdr.extractLsb' 12 2).toNat
         let a := if vl < 3 then { q with limit := q.limit.set vl (hdr.setWidth 12) } else q
         let skip := if q.lost then (if first < 40 then first else us.length) else 0
         let b := if !q.lost then a else if first < 40 then a.resume first else { a with lostUnits := a.lostUnits + us.length }
         let part := q.slots.getD q.slotIdx 0
         let key := if q.slotted then some ((s.padSlot p part false).map s.keyBytes, part) else none
         let got := (us.drop skip).foldl (fun (x : Port × Nat) u => if x.1.lost then ({ x.1 with lostUnits := x.1.lostUnits + 1 }, x.2)
           else ((x.1.unit key u).1, if (x.1.unit key u).2 then x.2 + 1 else x.2)) (b, 0)
         exec (.codewordReceive p hdr us false) s = .next (((List.range got.2).foldl (fun u _ => u.dropAt p)
           ((s.modPort p fun _ => got.1).bump 0x05 p us.length)).drainTx p).settle) ∧
       (s.alive = true → (s.pIo p).annOk = false → exec (.helloTimer p) s = .next (s.sendHello p).settle)) ∧
     (s.alive = true → q.slotted = true → q.slots.length ≠ 0 →
       let i := (q.slotIdx + 1) % q.slots.length
       let part := q.slots.getD i 0
       let t := s.modPort p fun q => { q with slotIdx := i }
       let on := q.state ≠ .unused ∧ q.state ≠ .down
       let next := t.nextItem p fun x => x.part == part || x.part == 0
       let held := (s.flowKey part s.lse.node q.peer s.fab.gen ((s.flowEpoch part).toNat % 4)).isSome
       (∀ x, on → next = some x → exec (.slotBoundary p) s =
         .next ((t.modPort p fun q => { q with tx := q.tx.erase x }).sendItem p x).settle) ∧
       (q.state = .up → next = none → q.maySend 0 18 = true →
         exec (.slotBoundary p) s = .next (t.padCell p (if held then part else 0)).settle) ∧
       ((¬ on ∨ next = none ∧ (q.state ≠ .up ∨ q.maySend 0 18 = false)) → exec (.slotBoundary p) s = .next t.settle)) ∧
     (s.alive = true →
       let l := s.hostRotation
       let i := (s.fab.hostIdx + 1) % max 1 l.length
       exec (.slotBoundary 24) s = .next { s with fab := { s.fab with hostIdx := i, hostSlot := l.getD i 0 } }.settle)) ∧
  (∀ (s : State) (p : Nat), s.alive = true → p < 24 →
     (∀ x t, s.takePkt p (fun x => !x.delivered && hDst x.w0 != s.lse.node && hDst x.w0 != 0xFF) = some (x, t) →
       let d := hDst x.w0
       let stuck := hHops x.w0 = 1 ∨ s.directPorts d 0 = []
       (s.portTakes p x = false → exec (.packetTransit p) s = .next (t.dropAt p).settle) ∧
       (s.portTakes p x = true → stuck → exec (.packetTransit p) s =
         .next (((t.dropAt p).logged 0x300B (hPart x.w0) (.unit .node d 0)).routeFail p d).settle) ∧
       (∀ o, s.portTakes p x = true → ¬ stuck →
         (if x.w0.getLsbD 90 then (s.directPorts d 0).head? else s.mostCredits (s.directPorts d 0) 1) = some o →
         exec (.packetTransit p) s = .next (if (s.port o).carries (hPart x.w0) then t.forward o x else t.dropAt p).settle)) ∧
     (∀ x, (s.port p).rx.find? (fun x => !x.delivered && (hDst x.w0 == s.lse.node || hDst x.w0 == 0xFF)) = some x →
       let cut := s.portTakes p x = false ∨ ((s.node (hSrc x.w0)).dead = true ∧ (hKind x.w0 == 2 && clearOp (hOp x.w0)) = false)
       let mark (u : State) (stamp : Option Nat) : State :=
         let v := u.modPort p fun q => { q with rx := q.rx.map fun y => if y = x then { y with delivered := true, stamp } else y }
         if hDst x.w0 = 0xFF then v.rebroadcast x else v
       (cut → exec (.packetDeliver p) s = .next ((s.modPort p fun q => { q with rx := q.rx.erase x }).dropAt p).settle) ∧
       (¬ cut → hPart x.w0 ≠ 0 → exec (.packetDeliver p) s =
         .next (mark (s.deliverStamp (hPart x.w0)).1 (some (s.deliverStamp (hPart x.w0)).2)).settle) ∧
       (¬ cut → hPart x.w0 = 0 → exec (.packetDeliver p) s = .next (mark s none).settle)) ∧
     (∀ x t, s.takePkt p (·.delivered) = some (x, t) →
       let clear := (hKind x.w0 == 2 && clearOp (hOp x.w0)) = true
       let form := hPart x.w0 = 0 ∧ x.w1 = 0 ∧ x.mac = 0
       let key := (t.rxKeys x.w0 x.w1).find? fun k => t.pktOk x k
       (clear → form → exec (.packetVerdict p) s = .next (t.keepCtrl p x true x.payload).settle) ∧
       (clear → ¬ form → exec (.packetVerdict p) s = .next (t.dropAt p).settle) ∧
       (¬ clear → key = none → exec (.packetVerdict p) s = .next (t.pktFailed p x).settle) ∧
       (∀ k, ¬ clear → key = some k →
         let a := t.judgePacket p x true
         let ctx := if hKind x.w0 = 1 then (a.reqOf (hTag x.w0)).bind (·.op.ctx) else none
         let u := (a.passCluster (88 + p) (hPart x.w0) (x.payload.length / 16 + 1) ctx [k.slot]).modNode (hSrc x.w0) fun e => { e with timeouts := 0 }
         let won := (u.flowRx x.w0 k.gen).take (x.w1.extractLsb' 0 62).toNat
         let pad := flowPad (u.keyBytes k.slot) (flowBlock x.w1 (hSrc x.w0) (hDst x.w0) (hPart x.w0)) x.payload.length
         (won = none → exec (.packetVerdict p) s =
           .next ((u.modPio p fun io => { io with replay := satInc io.replay }).logged 0x3003 (hPart x.w0) (.unit .port p 0)).settle) ∧
         (∀ f, won = some f → exec (.packetVerdict p) s = .next ((u.putRx f).acceptPkt p x (xorBytes x.payload pad)).settle))))

/-- Messages between neighbours. A HELLO that disagrees with the Lease makes the port miswired; one that agrees restores credits, sets a new or miswired port up, disputes it
on a foreign digest, and, from a member, starts a join of a node that is in no domain. ANNOUNCE gives credits, disputes a port on a foreign digest and ends a dispute on an acceptable
one, after an integrity dispute only 1 ms later. Silence and DISPUTE dispute an up port; ROUTE_FAIL and ROUTE_OK mark routes. TIME_SYNC is sent on every up port and, from the node towards which the clock is
corrected, measures its offset (R191, R207, R212 to R214, R217, R220, R413, R414).
The model's own choices and readings in it: logs 3, 37. -/
def Obligations.NeighbourMessagesComplete : Prop :=  ∀ (s : State) (p : Nat), s.alive = true → p < 24 →
    (∀ m t, s.takeMsg p 1 = some (m, t) →
      let off := (t.port p).state = .unused ∨ (t.port p).state = .down
      let g : Word := BitVec.ofNat 32 (m.le 16 4)
      let a := t.restoreCredits p m 116
      let b := { a with fab := { a.fab with genSeen := if a.fab.genSeen.toNat < g.toNat then g else a.fab.genSeen } }
      let c := if (b.port p).state = .hello ∨ (b.port p).state = .miswired then b.portUp p else b
      let d := if (c.port p).state = .up ∧ c.digestOk (BitVec.ofNat 256 (m.le 20 32)) = false then c.disputePort p 1 else c
      let joins := (m.le 15 1) % 2 = 1 ∧ d.fab.cand = none ∧ (d.fab.dstate = 1 ∨ d.fab.dstate = 2 ∨ d.fab.dstate = 5) ∧ m.le 14 1 ≠ d.lse.node
      let rank := (List.range 4).find? fun r => d.lease.topo.foreman.getD r 0xFF == m.le 14 1
      (off → exec (.helloReceive p) s = .next t.settle) ∧
      (¬ off → t.helloAgrees p m = false → exec (.helloReceive p) s = .next ((((((t.portState p .miswired).clearTx p).irq .yf 0 3).logged 0x3006 0
        (.unit .port p 0)).checkRoutes)).settle) ∧
      (¬ off → t.helloAgrees p m = true →
        (∀ r, joins → rank = some r → exec (.helloReceive p) s = .next (d.joinVia r g).settle) ∧
        ((¬ joins ∨ rank = none) → exec (.helloReceive p) s = .next d.settle))) ∧
    (s.fab.dstate = 3 →
      exec .announceTimer s = .next (((List.range 24).filter fun p => (s.port p).state == .up || (s.port p).state == .disputed).foldl (fun u p =>
        u.sendHop p 2 (leBytes 32 u.fab.digest.toNat ++ leBytes 32 u.fab.compat.toNat ++ leBytes 4 u.fab.gen.toNat ++ (u.port p).sentBytes))
          s).settle ∧
      exec .timeSyncTimer s = .next (((List.range 24).filter fun p => (s.port p).state == .up).foldl (fun u p =>
        let y := (u.pIo p).sync
        (u.sendHop p 6 (leBytes 8 (y.seq + 1).toNat ++ leBytes 8 y.rxSeq.toNat ++ leBytes 8 y.rxTime.toNat ++ leBytes 8 y.lastTx.toNat)).modPio p
          fun io => { io with sync := { y with seq := y.seq + 1, prevTx := y.lastTx, lastTx := u.clk.shift } }) s).settle ∧
      ((s.port p).state = .up → exec (.announceSilent p) s = .next (s.disputePort p 2).settle)) ∧
    (∀ m t, s.takeMsg p 2 = some (m, t) →
      let u := (t.restoreCredits p m 68).modPio p fun io => { io with annOk := true }
      let ok := u.digestOk (BitVec.ofNat 256 (m.le 0 32))
      let early := ∃ x, (u.pIo p).integAt = some x ∧ u.clk.cyc < x + 1600000
      (ok = false → (u.port p).state = .up → exec (.announceReceive p) s = .next (u.disputePort p 1).settle) ∧
      (ok = true → (u.port p).state = .disputed → ¬ early → exec (.announceReceive p) s = .next (u.portUp p).settle) ∧
      ((ok = false ∧ (u.port p).state ≠ .up ∨ ok = true ∧ ((u.port p).state ≠ .disputed ∨ early)) →
        exec (.announceReceive p) s = .next u.settle)) ∧
    (∀ m t, s.takeMsg p 3 = some (m, t) →
      exec (.disputeReceive p) s = .next (if (t.port p).state = .up then t.disputePort p 4 else t).settle) ∧
    (∀ m t, s.takeMsg p 4 = some (m, t) → exec (.routeFailReceive p) s =
      .next ({ t with fab := { t.fab with routes := t.fab.routes.mod (m.le 0 1) fun r => r.mark p true } }.checkRoutes).settle) ∧
    (∀ m t, s.takeMsg p 5 = some (m, t) → exec (.routeOkReceive p) s =
      .next { t with fab := { t.fab with routes := t.fab.routes.mod (m.le 0 1) fun r => r.mark p false } }.settle) ∧
    (∀ m t, s.takeMsg p 6 = some (m, t) →
      let y := (t.pIo p).sync
      let seq : Dword := BitVec.ofNat 64 (m.le 0 8)
      let heard : Dword := BitVec.ofNat 64 (m.le 8 8)
      let u := t.modPio p fun io => { io with sync := { y with rxSeq := seq, rxTime := t.clk.shift } }
      let sentAt := if heard = 0 then none else if heard = y.seq then some y.lastTx.toNat else if heard + 1 = y.seq then some y.prevTx.toNat else none
      let pair := y.rxSeq + 1 = seq ∧ y.rxSeq ≠ 0 ∧ t.timeParent = some (t.port p).peer
      (∀ a, sentAt = some a → pair → exec (.timeSyncReceive p) s =
        .next (u.clockOffset ((((m.le 16 8 : Int) - a) - ((y.rxTime.toNat : Int) - (m.le 24 8 : Int))) / 2)).settle) ∧
      ((sentAt = none ∨ ¬ pair) → exec (.timeSyncReceive p) s = .next u.settle))

/-- The first half of a formation. A listed foreman or deputy that is in no domain starts one with the next generation, the foreman also over another's candidate that it has not
confirmed. An authentic FORM_START that is better than the candidate, and that this node may take, becomes the candidate and is answered with EVIDENCE; any other changes nothing. EVIDENCE
for this node's candidate, or for a join of its running generation, that fails a check is rejected, and else answered with KEYS, a joiner's under its next incarnation
(R215 to R221).
The second half of a formation. KEYS under its TAG brings CONFIRM and the keys, under another TAG 0x300D; a CONFIRM with the value computed counts, the last of a formation bringing
FORMED and a joiner's bringing JOINED; the window's end brings FORMED with a quorum, else 0x3008; FORMED of the candidate's generation makes a member or sets the switch; a REJECT of
this node's evidence is logged; a candidate that goes no further is dropped (R203, R216, R218 to R221).
The model's own choices and readings in it: logs 3, 30, 36, 37, 64, 94. -/
def Obligations.FormationCompletes : Prop :=
  (∀ (s : State) (p : Nat), s.alive = true → p < 24 →
     (∀ k, s.myRank = some k → 1 < s.lease.topo.listed → (s.fab.dstate = 1 ∨ s.fab.dstate = 2) →
       (s.fab.cand = none ∨ ∃ c, s.fab.cand = some c ∧ k = 0 ∧ c.mine = false ∧ c.confirmed = false) →
       exec .formStartTimer s = .next (s.startFormation (s.fab.genSeen + 1) k 0).settle) ∧
     (∀ (v : PkVerdict) m t, s.takeWhole p 0x10 = some (m, t) →
       let g : Word := BitVec.ofNat 32 (m.le 0 4)
       let rank := m.le 4 1
       let node := m.le 13 1
       let authentic := v.sigsOk = true ∧ t.namesNode m 5 13 = true ∧ t.lease.topo.foreman.getD rank 0xFF = node
       let u := { t with fab := { t.fab with genSeen := if t.fab.genSeen.toNat < g.toNat then g else t.fab.genSeen } }
       let better := ∀ c, t.fab.cand = some c → c.confirmed = false ∧ (c.gen.toNat < g.toNat ∨ c.gen = g ∧ rank < c.rank)
       let allowed := if t.fab.dstate = 3 then t.fab.gen.toNat < g.toNat ∧ node = t.fab.foreman else t.fab.dstate = 1 ∨ t.fab.dstate = 2
       let w := u.dropCandidate
       let w := { w with fab := { w.fab with dstate := if w.fab.dstate = 3 then 3 else 2 } }
       (¬ authentic → exec (.formStartReceive p v) s = .next t.settle) ∧
       (authentic → ¬ (better ∧ allowed) → exec (.formStartReceive p v) s = .next u.settle) ∧
       (authentic → better → allowed → exec (.formStartReceive p v) s =
         .next (w.answerCandidate { gen := g, rank, foreman := node, nonce := BitVec.ofNat 256 (m.le 14 32), start := m.payload.take (78 + sigLen) }).settle)) ∧
     (∀ (v : PkVerdict) m t, s.takeWhole p 0x11 = some (m, t) →
       let g : Word := BitVec.ofNat 32 (m.le 0 4)
       let n := m.le 44 1
       let join := t.myRank.isSome = true ∧ t.fab.dstate = 3 ∧ g = t.fab.gen
       let good (echoed : Bool) := v.sigsOk && t.namesNode m 36 44 && echoed && m.le 45 1 == t.fuse.lifecycle && t.digestOk (BitVec.ofNat 256 (m.le 46 32))
       let th (start : List Byte) := formTh start (m.payload.take (78 + t.packageEvidence.length + 1568 + 97 + 2592 + 97))
       let keys (u : State) (start : List Byte) (incarn : Word) : State :=
         let kek := formKek v (th start)
         let wrap := xorBytes (t.secretOf g) (formMask kek g)
         (u.routeClear n 0x12 (u.signed (leBytes 4 g.toNat ++ leBytes 8 (t.nodeRec n).unitId.toNat ++ leBytes 4 incarn.toNat ++
           t.freeBytes (1568 + 97) ++ wrap ++ formTag kek g wrap))).used
       (∀ c, t.fab.cand = some c → c.mine = true → c.gen = g →
         let u := { t.used with fab := { t.fab with cand := some { c with accepted := (n, th c.start, 0) :: c.accepted.filter (·.1 != n) } } }
         (good (m.le 4 32 == c.nonce.toNat) = false → exec (.evidenceReceive p v) s = .next (t.sendReject g n).settle) ∧
         (good (m.le 4 32 == c.nonce.toNat) = true → exec (.evidenceReceive p v) s = .next (keys u c.start 0).settle)) ∧
       ((∀ c, t.fab.cand = some c → c.mine = true → c.gen ≠ g) →
         let incarn : Word := if (t.node n).seen then (t.node n).incarn + 1 else 0
         let u := { t.used with fab := { t.fab with joins := (n, th [], incarn) :: t.fab.joins.filter (·.1 != n) } }
         (¬ join → exec (.evidenceReceive p v) s = .next t.settle) ∧
         (join → good true = false → exec (.evidenceReceive p v) s = .next (t.sendReject g n).settle) ∧
         (join → good true = true → exec (.evidenceReceive p v) s = .next (keys u [] incarn).settle)))) ∧
  (∀ (s : State) (p : Nat), s.alive = true → p < 24 →
     (∀ (v : PkVerdict) m t, s.takeWhole p 0x12 = some (m, t) →
       let g : Word := BitVec.ofNat 32 (m.le 0 4)
       (t.fab.cand = none → exec (.keysReceive p v) s = .next t.settle) ∧
       (∀ c, t.fab.cand = some c →
         let mine := v.sigsOk = true ∧ c.mine = false ∧ c.keysIn = false ∧ g = c.gen ∧ m.le 4 8 = t.fuse.unitId.toNat
         let th := formTh c.start c.evidence
         let kek := formKek v th
         let wrap := (m.payload.drop (16 + 1568 + 97)).take 32
         let tag := (m.payload.drop (16 + 1568 + 97 + 32)).take 16
         let ds := xorBytes wrap (formMask kek g)
         let incarn : Word := BitVec.ofNat 32 (m.le 12 4)
         let a := t.putKey 9 0xB 0 5 3 (g.setWidth 16) (BitVec.ofNat 512 (ofLe ds))
         let b := if c.join then a.modNode a.lse.node fun e => { e with incarn, seen := true } else a
         let w := { b with fab := { b.fab with cand := some { c with keysIn := true, confirmed := true, incarn } } }
         let x := w.routeClear c.foreman 0x13 (leBytes 4 g.toNat ++ leBytes 8 w.fuse.unitId.toNat ++ formConfirm ds th w.fuse.unitId)
         (¬ mine → exec (.keysReceive p v) s = .next t.settle) ∧
         (mine → formTag kek g wrap ≠ tag → exec (.keysReceive p v) s = .next (t.logged 0x300D 0 .none).settle) ∧
         (mine → formTag kek g wrap = tag → exec (.keysReceive p v) s =
           .next (x.deriveDomain g fun p => if c.join then x.reachedEpoch p else 0).settle))) ∧
     (∀ m t, s.takeWhole p 0x13 = some (m, t) →
       let named (a : Nat × List Byte × Word) : Bool := (t.nodeRec a.1).unitId.toNat == m.le 4 8
       let good (g : Word) (n : Nat) (th : List Byte) := m.le 0 4 = g.toNat ∧ (m.payload.drop 12).take 32 = formConfirm (t.secretOf g) th (t.nodeRec n).unitId
       let joiner := if t.fab.dstate = 3 ∧ m.le 0 4 = t.fab.gen.toNat then t.fab.joins.find? named else none
       (∀ n th incarn, joiner = some (n, th, incarn) →
         let u := { t with fab := { t.fab with joins := t.fab.joins.filter (·.1 != n) } }
         (good t.fab.gen n th → exec (.confirmReceive p) s =
           .next ((u.bcastFlow 0x16 (leBytes 4 u.fab.gen.toNat ++ [BitVec.ofNat 8 n] ++ leBytes 4 incarn.toNat)).acceptJoined n incarn).settle) ∧
         (¬ good t.fab.gen n th → exec (.confirmReceive p) s = .next t.settle)) ∧
       (∀ c n th x, joiner = none → t.fab.cand = some c → c.mine = true → c.accepted.find? named = some (n, th, x) →
         let c' := { c with confirms := insNat n c.confirms }
         let u := { t with fab := { t.fab with cand := some c' } }
         (good c.gen n th → exec (.confirmReceive p) s =
           .next (if t.lease.topo.listed ≤ c'.confirms.length then u.sendFormed c' else u).settle) ∧
         (¬ good c.gen n th → exec (.confirmReceive p) s = .next t.settle)) ∧
       (joiner = none → (∀ c, t.fab.cand = some c → c.mine = true → c.accepted.find? named = none) →
         exec (.confirmReceive p) s = .next t.settle)) ∧
     (∀ c, s.fab.cand = some c → c.mine = true →
       exec .formWindowEnd s = .next (if s.lease.topo.minMembers ≤ c.confirms.length then s.sendFormed c else s.formFail).settle) ∧
     (∀ (v : PkVerdict) m t, s.takeWhole p 0x14 = some (m, t) →
       let takes (c : Candidate) := v.sigsOk = true ∧ c.mine = false ∧ c.join = false ∧ c.keysIn = true ∧ m.le 0 4 = c.gen.toNat
       (∀ c, t.fab.cand = some c → takes c → exec (.formedReceive p v) s =
         .next (t.acceptFormed c (BitVec.ofNat 256 (m.le 4 32)) (BitVec.ofNat 64 (m.le 36 8))).settle) ∧
       ((∀ c, t.fab.cand = some c → ¬ takes c) → exec (.formedReceive p v) s = .next t.settle)) ∧
     (∀ (v : PkVerdict) m t, s.takeWhole p 0x15 = some (m, t) →
       let mine := v.sigsOk = true ∧ m.le 4 8 = t.fuse.unitId.toNat
       (mine → exec (.rejectReceive p v) s = .next ((t.logged 0x3009 0 (.unit .node m.src 0)).irq .yf 0 1).settle) ∧
       (¬ mine → exec (.rejectReceive p v) s = .next t.settle)) ∧
     (∀ c, s.fab.cand = some c → c.join = false →
       exec .candidateTimeout s = .next ((s.dropCandidate.logged 0x3008 0 .none).irq .yf 0 1).settle))

/-- A domain's life. JOINED makes the joiner a member and is taken by every other member of its generation; a join that nobody answers goes to the next foreman of the list, and fails with
0x3008 at its end; a node cut off leaves; a generation switches at its time; old flow keys are zeroised, with those of partition 0 the secret, slot pads and partition keys of the generation that ended,
unless another is under way; a request without an answer fails with 0x3101 and counts towards the death of its node; REVIVE, from the operator's or the Lamp's aperture, clears a dead
declaration (R202, R220 to R222, R224).
The model's own choices and readings in it: logs 3, 36, 64. -/
def Obligations.DomainLifeCompletes : Prop :=  ∀ s : State,
    (s.alive = true →
      (∀ p m t, p < 24 → s.takeMsg p 0x16 = some (m, t) →
        let n := m.le 4 1
        let joins (c : Candidate) := c.join = true ∧ t.fab.self = false ∧ c.keysIn = true ∧ n = t.lse.node ∧ m.le 0 4 = c.gen.toNat
        let told := t.fab.dstate = 3 ∧ m.le 0 4 = t.fab.gen.toNat ∧ n ≠ t.lse.node
        (∀ c, t.fab.cand = some c → joins c → exec (.joinedReceive p) s = .next (t.becomeMember c fun _ => true).settle) ∧
        ((∀ c, t.fab.cand = some c → ¬ joins c) →
          (told → exec (.joinedReceive p) s = .next (t.acceptJoined n (BitVec.ofNat 32 (m.le 5 4))).settle) ∧
          (¬ told → exec (.joinedReceive p) s = .next t.settle))) ∧
      (∀ c, s.fab.cand = some c → c.join = true → c.keysIn = false → s.fab.self = false →
        (∀ r, s.nextForeman (s.fab.joinPos + 1) = some r → exec .joinTimeout s = .next (s.joinVia r c.gen).settle) ∧
        (s.nextForeman (s.fab.joinPos + 1) = none → exec .joinTimeout s = .next (s.dropCandidate.formFail).settle)) ∧
      (∀ r, s.fab.dstate = 4 → s.fab.cand = none → s.nextForeman 0 = some r → exec .joinRetry s = .next (s.joinVia r s.fab.genSeen).settle) ∧
      (s.fab.dstate = 3 → 1 < s.lease.topo.listed →
        (∀ p < 24, (s.port p).state = .down ∨ (s.port p).state = .miswired ∨ (s.port p).state = .disputed ∨ (s.port p).state = .unused) →
        let t := ((((s.dropKeys fun _ => true).dropDomainKeys fun _ => true).dropPads fun _ => true).killSlot 8).killSlot 9
        let u := { t with fab := { t.fab with
          dstate := 5, cand := none, nextGen := none, joins := [], self := false, foreman := 0xFF, tx := [], rx := []
          nodes := t.fab.nodes.map fun (x : Nat × NodeEnt) => (x.1, { x.2 with member := false }) } }
        exec .leaveDomain s = .next ((allParts.filter u.defined).foldl (fun u p => u.partFault 0xA00D p (.unit .node u.lse.node 0)) u).settle) ∧
      (∀ g w, s.fab.nextGen = some (g, w) → exec .generationSwitch s = .next ((s.reach w).switchTo g).settle) ∧
      (∀ part, part ≤ 6 →
        let t := s.dropKeys fun k => k.part == part && k.old
        let u := { t with fab := { t.fab with oldEpoch := t.fab.oldEpoch.erase part } }
        let last := part = 0 ∧ s.fab.nextGen = none ∧ s.fab.cand = none
        (last → exec (.flowKeyExpire part) s = .next (((u.killSlot 9).dropDomainKeys fun k => k.2.1 != s.fab.gen).dropPads fun k =>
          k.gen != s.fab.gen).settle) ∧
        (¬ last → exec (.flowKeyExpire part) s = .next u.settle)) ∧
      (∀ tag r, s.reqOf tag = some r → tag < 16384 → r.sent = true → r.acked = false →
        let t := ((s.flowAnswered r).finishReq r 0x3101 false []).bump 0x18 r.node 1
        let n := (t.node r.node).timeouts + 1
        let u := t.modNode r.node fun e => { e with timeouts := min 3 n }
        exec (.requestTimeout tag) s = .next ((if 3 ≤ n then u.declareDead r.node 1 else u).cartsAdvance).settle)) ∧
    (∀ ap n, opAp ap = true → n < 255 → s.Reaches ap .yf 0x10 →
      exec (.yfRevive ap n) s = .next (s.modNode n fun e => { e with dead := false, timeouts := 0, cause := 0 }).settle)

/-! ### Operations across the fabric (09) -/

/-- A request at its home: it passes the checks of Table 9.6 in order, a failed one answered with ERROR, its code and, for a seam's code, the line that failed. One that
passes is admitted while no ticket is waiting and its partition has an entry free; else NACKed, with a ticket while tickets are free and with 0 ahead when none is; an ordered one
behind another's broken order is NACKed ORDER, one behind a lock held for half of DEAD_BOUND is NACKed LOCKED. The retry of a ticket is admitted when its ticket is
reserved, held while fewer than 64 are ahead of it and fewer than 64 are held at the quadrant, and NACKed with its ticket otherwise (R236 to R239, R243).
A home's entries and tickets: an answered entry is freed and passed to the next ticket; a reserved ticket that lapses is logged and passed on; a write
that has waited behind a lock for half of DEAD_BOUND is NACKed LOCKED and its entry released (R236, R239, R243).
The model's own choices and readings in it: logs 3, 11, 22, 26, 90. -/
def Obligations.HomeCompletes : Prop :=
  (∀ (s t : State) (q src part tag : Nat) (o : Op), s.alive = true → q < 4 → src < 255 → tag < 16384 →
     s.takeArrival q src part tag (fun o => o.kind == 0) = some (o, t) →
     let code := t.homeCheck o
     let broken := t.home.breaks.find? fun b => b.1 == q && b.2.1 == src && b.2.2.1 == part
     let behind := o.ordered = true ∧ broken.isSome = true ∧ broken ≠ some (q, src, part, tag)
     let ticket := t.home.tickets.find? fun x => x.q == q && x.part == part && x.src == src && x.tag == tag
     let no := t.issued q part
     let ahead (n : Nat) := ticketDiff n (t.served q part)
     let free := no = t.served q part ∧ t.inUse q (· == part) < (t.homeQuota q part).1
     (code ≠ 0 → exec (.homeRequest q src part tag) s =
       .next (t.answerErr src tag o code (if code / 4096 = 1 then (t.seamFail o).2 else 0)).settle) ∧
     (code = 0 → behind → exec (.homeRequest q src part tag) s = .next (t.answerNack q src tag o 4 0 0).settle) ∧
     (∀ x, code = 0 → ¬ behind → ticket = some x →
       let holds := ahead x.no < 64 ∧ (t.home.tickets.filter fun y => y.q == q && y.held.isSome).length < 64
       (x.reserved = true → exec (.homeRequest q src part tag) s =
         .next ({ t with home := { t.home with tickets := t.home.tickets.erase x } }.admitReq q part src tag o).settle) ∧
       (x.reserved = false → holds → exec (.homeRequest q src part tag) s = .next { t with home := { t.home with
         tickets := t.home.tickets.map fun (y : Ticket) => if y = x then { y with held := some o } else y } }.settle) ∧
       (x.reserved = false → ¬ holds → exec (.homeRequest q src part tag) s = .next (t.answerNack q src tag o 1 x.no (ahead x.no)).settle)) ∧
     (code = 0 → ¬ behind → ticket = none →
       (t.lockedLong o = true → exec (.homeRequest q src part tag) s = .next (t.answerNack q src tag o 3 0 0).settle) ∧
       (t.lockedLong o = false →
         (free → exec (.homeRequest q src part tag) s = .next (t.admitReq q part src tag o).settle) ∧
         (¬ free → ahead no < (t.homeQuota q part).2 →
           let u := { t with home := { t.home with
             tickets := t.home.tickets ++ [({ q, part, no, src, tag } : Ticket)]
             breaks := if o.ordered then t.home.breaks ++ [(q, src, part, tag)] else t.home.breaks
             issued := t.home.issued.put (qp q part) ((no + 1) % 65536) } }
           exec (.homeRequest q src part tag) s = .next (u.answerNack q src tag o 1 no (ahead no)).settle) ∧
         (¬ free → (t.homeQuota q part).2 ≤ ahead no →
           exec (.homeRequest q src part tag) s = .next (t.answerNack q src tag o 2 0 0).settle)))) ∧
  (∀ (s : State) (q : Nat), s.alive = true → q < 4 →
     (∀ id e, s.entry id = some e → e.answered = true → e.q = q →
       exec (.entryFreed q id) s = .next ({ s with home := { s.home with entries := s.home.entries.filter (·.id != id) } }.passEntry q e.part).settle) ∧
     (∀ part no k, 1 ≤ part → part ≤ 6 → (s.home.tickets.find? fun x => x.q == q && x.part == part && x.no == no && x.reserved) = some k →
       exec (.ticketLapse q part no) s =
         .next (({ s with home := { s.home with tickets := s.home.tickets.erase k } }.logged 0x3405 part (.unit .home q 0)).passEntry q part).settle) ∧
     (∀ id e, s.entry id = some e → e.q = q → e.started = false → e.op.writes = true → s.locked e.op = true →
       exec (.lockWaitTimeout q id) s = .next ((({ s with home := { s.home with entries := s.home.entries.filter (·.id != id) } }.answerNack q e.src e.tag
         e.op 3 0 0).passEntry q e.part).pump).settle))

/-- Answers at the requester: an answer matched by its TAG, ADDR, PART and node completes its request, with its fault when it is an ERROR; one for a chiplet waits for room in the
response buffer; a NACK is noted for its retry, the 64th ends the request with 0x3406; a stray answer or NACK is only counted at its port. A retry whose time has come sends the
request again, or fails it with 0x300B without a usable port, an ORDER retry once the order before it is clear. A FENCE ends when nothing before it is outstanding: at a site with a completion, for a task
with its next step, for a channel with a record (R172, R205, R222, R226, R234, R235, R238, R241).
The model's own choices and readings in it: logs 3, 10, 14, 24, 34, 87, 88. -/
def Obligations.RequesterCompletes : Prop :=  ∀ (s t : State) (tag : Nat) (a : Answer), s.alive = true → tag < 16384 →
    (s.takeAnswer tag (fun a => a.kind == 1 && a.opcode != 4) = some (a, t) →
      (∀ r, t.reqOf tag = some r → a.matches_ r = true →
        let u := t.flowAnswered r
        (s.answerRoom r a = false → exec (.answerReceive tag) s = .next s.settle) ∧
        (s.answerRoom r a = true → exec (.answerReceive tag) s = .next (if a.opcode = 5 then u.finishReq r (ofLe (a.payload.take 2)) a.poison [] a.at_
          else u.finishReq r 0 a.poison a.payload 0 (a.early && (engineSite r.eng).isSome)).settle)) ∧
      ((∀ r, t.reqOf tag = some r → a.matches_ r = false) → exec (.answerReceive tag) s = .next (t.strayAnswer a).settle)) ∧
    (s.takeAnswer tag (fun a => a.kind == 1 && a.opcode == 4) = some (a, t) →
      (∀ r, t.reqOf tag = some r → a.matches_ r = true →
        let reason := ofLe a.payload / 2 ^ 32 % 16
        (r.nacks < 63 → exec (.nackReceive tag) s = .next ((t.flowAnswered r).modReq tag fun r =>
          { r with nacks := r.nacks + 1, retry := reason, reason, sent := false }).settle) ∧
        (63 ≤ r.nacks → exec (.nackReceive tag) s = .next ((t.flowAnswered r).finishReq { r with sent := false } 0x3406 false []).settle)) ∧
      ((∀ r, t.reqOf tag = some r → a.matches_ r = false) → exec (.nackReceive tag) s = .next (t.strayAnswer a).settle)) ∧
    (∀ r, s.reqOf tag = some r → r.retry ≠ 0 → (r.retry = 4 → s.orderClear r = true) →
      let u := s.modReq tag fun r => { r with retry := 0 }
      exec (.nackRetry tag) s = .next ((u.sendReq r (u.opQuad r.op)).getD (u.finishReq r 0x300B false [])).settle) ∧
    (∀ e ctx part ext, isEngine e = true → (s.req.fences.find? fun f => f.1 == e && f.2.2.1 == ctx) = some (e, part, ctx, ext) →
      s.fenceClear e part ctx = true →
      let u := { s with req := { s.req with fences := s.req.fences.erase (e, part, ctx, ext) } }
      let v := (u.fenceResult e part ctx).1
      let st := (u.fenceResult e part ctx).2
      (∀ k, e = .site k → (((s.sIo k).ops.takeWhile fun o => o.tag != ext).all fun o => o.answered || o.op.ctx != some ctx) = true →
        exec (.fenceComplete e ctx) s = .next (v.cmpl k ext (if v.ctxOk part ctx then st else 2)).settle) ∧
      (∀ k, e = .task k → (∀ g ∈ s.face.gathers, g.task ≠ k) → (s.task k).moveSeqs = [] → exec (.fenceComplete e ctx) s =
        .next (if (v.task k).state = .blocked ∧ (v.task k).block = 3 then v.stepDone k (v.task k).nextPtr else v).settle) ∧
      (∀ c, e = .mover c → exec (.fenceComplete e ctx) s = .next { v with req := { v.req with done := v.req.done ++ [({
        eng := e, extTag := ext, ok := st == 0, code := if st = 0 then 0 else 0x3407 } : Done)] } }.settle) ∧
      ((∀ k, e ≠ .site k) → (∀ k, e ≠ .task k) → (∀ c, e ≠ .mover c) → exec (.fenceComplete e ctx) s = .next v.settle))

/-- A cart at its issuer: CART_END sends PREPARE to several homes, or SOLO to one, for every member, and waits while fewer TAGs are free than members; a vote is taken up, and with the last one a
cart of one home ends and another sends DECIDE; DECIDED ends the cart that waits for it and is passed over by any other; a third DECIDE without one, or a dead lead, leaves it indeterminate, and another is
sent until then; a cart without its CART_END in time fails with 0xB802; an answer that belongs to no cart packet is only counted at its port (R226, R244, R246, R248, R250).
The model's own choices and readings in it: logs 3, 24, 25. -/
def Obligations.CartIssuerCompletes : Prop :=  ∀ s : State, s.alive = true →
    (∀ t ctx c, t < 8 → s.cartOf t ctx = some c → c.phase = .closing →
      let home := c.homes.headD (0, 0)
      let send (u : State) (x : CartMember × Nat) : State :=
        let atHome := (c.members.filter fun y => (y.node, y.q) == (x.1.node, x.1.q)).length
        let w := cartWord c.id u.lse.node home.1 home.2 c.homes.length x.2 atHome 0 x.1.op.opcode x.1.op.len c.ctx
        u.sendCart (.site t) { x.1.op with kind := 4, opcode := if c.homes.length = 1 then 2 else 1, len := memberDataCode x.1.op, cartw := w }
          (c.id * 16 + x.2)
      (s.req.out.length + c.members.length ≤ 16384 → exec (.cartEnd t ctx) s =
        .next ((c.members.zip (List.range 16)).foldl send (s.modCart c.id fun c => { c with phase := .voting })).cartsAdvance.settle) ∧
      (16384 < s.req.out.length + c.members.length → exec (.cartEnd t ctx) s = .next s.settle)) ∧
    (∀ t ctx c, t < 8 → s.cartOf t ctx = some c → c.phase = .opened →
      exec (.cartEndTimeout t ctx) s = .next (s.failCart c 0xB802).settle) ∧
    (∀ tag a t op, tag < 16384 → (op = 0x81 ∨ op = 0x82 ∨ op = 0x83) → s.takeAnswer tag (fun a => a.kind == 4 && a.opcode == op) = some (a, t) →
      let taken (u : State) : Prop := (op = 0x81 → exec (.cartVote tag) s = .next u.settle) ∧ (op = 0x82 → exec (.cartSoloVote tag) s = .next u.settle)
      (∀ r, t.reqOf tag = some r → r.op.kind = 4 → a.matches_ r = true →
        let u := { t with req := { t.req with out := t.req.out.filter (·.tag != r.tag) } }.flowAnswered r
        taken (u.modCart (r.extTag / 16) fun c => { c with members := c.members.modify (r.extTag % 16) fun m =>
          { m with vote := cwCode a.cartw, fault := cwFault a.cartw, data := a.payload, poison := a.poison } }).cartsAdvance ∧
        (∀ c, op = 0x83 → (u.cart.carts.find? (·.id == r.extTag / 16)) = some c →
          exec (.cartDecided tag) s = .next (if c.phase = .deciding then u.finishCart c (cwCode a.cartw) else u).settle) ∧
        (op = 0x83 → (u.cart.carts.find? (·.id == r.extTag / 16)) = none → exec (.cartDecided tag) s = .next u.settle)) ∧
      ((∀ r, t.reqOf tag = some r → ¬ (r.op.kind = 4 ∧ a.matches_ r = true)) →
        taken (t.strayAnswer a) ∧ (op = 0x83 → exec (.cartDecided tag) s = .next (t.strayAnswer a).settle))) ∧
    (∀ cart c, (s.cart.carts.find? (·.id == cart)) = some c → c.phase = .deciding →
      exec (.cartDecidedWaitExpire cart) s =
        .next (if 3 ≤ c.tries ∨ (s.node (c.homes.headD (0, 0)).1).dead then s.finishCart c 7 else s.sendDecide c).settle)

/-- A cart at its homes: PREPARE and SOLO are admitted as requests are; COMMIT and ABORT apply or release the home's members and answer DONE, with CODE
0x7 where nothing is staged; a member home without an outcome asks the lead, and, when it has asked a dead one, releases its locks with 0xB804; the lead's ANSWER is applied and answered
DONE by every home of this node that asked; a SOLO cart not complete in time aborts (R226, R246 to R248).
A cart at its lead: the first decision is logged, applied and sent to the other homes, and every DECIDE and QUERY is answered with the logged one, QUERY logging ABORT when there
is none; no decision in time logs ABORT. DONE ends the COMMIT or ABORT that it answers and is only counted when it answers none and no decision is logged; the last home's ends a committed cart's
entry, and CODE 0x7 on a committed cart raises 0xB804, the lead of another node's cart counting it indeterminate once; an abort entry expires (R226, R246, R247,
R252).
The model's own choices and readings in it: logs 3, 25, 89. -/
def Obligations.CartMembersComplete : Prop :=
  (∀ (s : State) (q src part tag : Nat), s.alive = true → q < 4 → src < 255 → tag < 16384 →
     (∀ o t, s.takeArrival q src part tag (fun o => o.kind == 4 && o.opcode == 1) = some (o, t) →
       exec (.cartPrepare q src part tag) s = .next (t.homeAdmit q part src tag o).settle) ∧
     (∀ o t, s.takeArrival q src part tag (fun o => o.kind == 4 && o.opcode == 2) = some (o, t) →
       exec (.cartSolo q src part tag) s = .next (t.homeAdmit q part src tag o).settle) ∧
     (∀ o t, s.takeArrival q src part tag (fun o => o.kind == 4 && o.opcode == 4) = some (o, t) →
       let i := cwIssuer o.cartw
       let n := cwId o.cartw
       exec (.cartCommit q src part tag) s = .next ((t.outcome q i n 5).answerOp src tag { o with
         cartw := cwSet o.cartw (if t.stagedOf q i n = [] then 7 else 5) 0 } 4 0x84 0 false []).settle) ∧
     (∀ o t, s.takeArrival q src part tag (fun o => o.kind == 4 && o.opcode == 5) = some (o, t) →
       let i := cwIssuer o.cartw
       let n := cwId o.cartw
       exec (.cartAbort q src part tag) s = .next ((t.outcome q i n 6).answerOp src tag { o with
         cartw := cwSet o.cartw (if t.stagedOf q i n = [] then 7 else 6) 0 } 4 0x84 0 false []).settle) ∧
     (∀ i n m, s.memberHome q i n = some m →
       (m.asked = false → exec (.cartMemberTimeout q i n) s = .next (s.sendQuery m).settle) ∧
       (m.asked = true → exec (.cartQueryRepeat q i n) s = .next (if (s.node (cwLead m.op.cartw)).dead = true then
         (s.outcome q i n 6).toPart 0xB804 m.part (.unit .node (cwLead m.op.cartw) 0) else s.sendQuery m).settle)) ∧
     (∀ i n, exec (.soloTimeout q i n) s = .next ((((s.stagedOf q i n).filter fun m => m.solo && m.phase == .arrived).foldl (fun u m =>
       (u.vote m 6 0).dropStaged m.key) s).pump).settle) ∧
     (∀ a t, s.takeAnswer tag (fun a => a.kind == 4 && a.opcode == 0x86) = some (a, t) →
       (∀ r, t.reqOf tag = some r → r.op.kind = 4 → a.matches_ r = true →
         let u := { t with req := { t.req with out := t.req.out.filter (·.tag != r.tag) } }.flowAnswered r
         let homes := ((u.cart.staged.filter fun m => m.issuer == cwIssuer a.cartw && m.cart == cwId a.cartw &&
           !(cwLead a.cartw == u.lse.node && cwLeadQ a.cartw == m.q)).map (·.q)).eraseDups
         exec (.cartAnswer tag) s = .next (homes.foldl (fun u q => (u.outcome q (cwIssuer a.cartw) (cwId a.cartw) (cwCode a.cartw)).answerOp r.node r.tag
           { kind := 4, addr := quadAddr u.lse.node q, part := r.op.part, cartw := cwSet a.cartw (cwCode a.cartw) 0 } 4 0x84 0 false []) u).settle) ∧
       ((∀ r, t.reqOf tag = some r → ¬ (r.op.kind = 4 ∧ a.matches_ r = true)) →
         exec (.cartAnswer tag) s = .next (t.strayAnswer a).settle))) ∧
  (∀ (s : State) (q src part tag : Nat), s.alive = true → q < 4 → src < 255 → tag < 16384 →
     (∀ o t, s.takeArrival q src part tag (fun o => o.kind == 4 && o.opcode == 3) = some (o, t) →
       let code := ((t.decision (cwIssuer o.cartw) (cwId o.cartw)).map (·.code)).getD (cwCode o.cartw)
       exec (.cartDecide q src part tag) s = .next ((t.leadDecide q o code (otherHomes o.payload)).answerOp src tag
         { o with cartw := cwSet o.cartw code 0 } 4 0x83 0 false []).settle) ∧
     (∀ o t, s.takeArrival q src part tag (fun o => o.kind == 4 && o.opcode == 6) = some (o, t) →
       let code := ((t.decision (cwIssuer o.cartw) (cwId o.cartw)).map (·.code)).getD 6
       exec (.cartQuery q src part tag) s = .next ((t.leadDecide q o code []).answerOp src tag { o with cartw := cwSet o.cartw code 0 } 4 0x86 0 false
         []).settle) ∧
     (∀ i n m l, ((s.stagedOf q i n).filter fun m => cwLead m.op.cartw == s.lse.node && cwLeadQ m.op.cartw == q && !m.solo) = m :: l →
       exec (.cartLeadTimeout q i n) s = .next (s.leadDecide q m.op 6 []).settle) ∧
     (∀ a t, s.takeAnswer tag (fun a => a.kind == 4 && a.opcode == 0x84) = some (a, t) →
       let issuer := cwIssuer a.cartw
       let cart := cwId a.cartw
       let mine (r : Req) : Bool := r.op.kind == 4 && (r.op.opcode == 4 || r.op.opcode == 5) && a.matches_ r &&
         cwIssuer r.op.cartw == issuer && cwId r.op.cartw == cart
       let known := (t.reqOf tag).filter mine
       let u := (known.map fun r => (t.dropReq r).flowAnswered r).getD t
       (u.decision issuer cart = none → exec (.cartDone tag) s = .next (if known = none then u.strayAnswer a else u).settle) ∧
       (∀ d, u.decision issuer cart = some d →
         let gone := cwCode a.cartw = 7 ∧ d.code = 5
         let v := if gone then u.toPart 0xB804 d.part (.unit .node a.src 0) else u
         let w := if gone ∧ d.lost = false ∧ issuer ≠ s.lse.node then { v with cart := { v.cart with indet := satInc v.cart.indet } } else v
         let d' := { d with waits := d.waits.filter (· != (a.src, quadOf a.addr)), lost := d.lost || decide gone }
         let log := if d'.code = 5 ∧ d'.waits = [] then w.cart.log.erase d else w.cart.log.map fun x => if x = d then d' else x
         exec (.cartDone tag) s = .next { w with cart := { w.cart with log } }.settle)) ∧
     (∀ i n, exec (.cartAbortEntryExpire q i n) s = .next { s with cart := { s.cart with
       log := s.cart.log.filter fun d => !(d.q == q && d.issuer == i && d.cart == n && d.code == 6) } }.settle))

/-- The first decision of a cart at its lead stands: with one logged, neither DECIDE, QUERY nor a timeout changes the log or applies anything (R246,
R247). -/
def Obligations.CartDecisionStands : Prop :=  ∀ (s : State) (q code : Nat) (o : Op) (homes : List ((Nat × Nat) × Nat)) (d : Decision),
    s.decision (cwIssuer o.cartw) (cwId o.cartw) = some d → s.leadDecide q o code homes = s

/-! ### The faces (10) -/

/-- FACE_CMD on a target of a face in a partition, from that partition or from the Lamp: ARM opens an empty target whose tally, format, window, buffer and count pass their
checks, in that order, with CODE 0x2, 0x4, 0x5, 0x6 and 0x7 where one fails, or sets the count of an open one, which closes it when the units have already arrived and ends with 0x7 when more
have, and ends with 0x3 in any other state; DISARM empties it, refusing what waits and the gathers that have not read it; CLEAR of an armed target begins, and ends in an open
target with nothing arrived, and is refused with 0x3 of an empty one or while another clear runs. From another partition, and from the Lamp on a face in none, the commands end with CODE 0x2; while the instance is
busy they are ignored with CODE 0x1; from the operator, the debug port and VFs, where FACE_CMD is reserved, nothing happens (R80, R255, R259 to R262, R266, R281, R285).
Work of a target. The first operation that nothing holds, with its lines in the cache, is taken: a READ is answered with the stored units, poisoned with 0x2207 when a word cannot be
corrected; a contribution to a failed target, or beyond the count's range, is answered with 0xB003; any other is reduced into the accumulators, or stored, and counted, and the target closes and signals its tally when
the expected units have arrived, but an accumulator that cannot be corrected fails the target. With nothing to take, the lines that are missing are fetched. A contribution held too long at a closed
target is answered with 0xB003. A line fetched enters the cache, and gathers that waited for it read it; one that cannot be corrected sets POISON, poisons what waits for it, and fails the open target of a
contribution. A gather that has read its target issues what remains, and ends when its local writes are applied and its remote ones released (R147, R152, R254, R263 to R265, R269,
R275, R277, R278, R283).
The model's own choices and readings in it: logs 3, 9, 91. -/
def Obligations.FacesComplete : Prop :=
  (∀ (s : State) (ap : Aperture) (p n : Nat) (tally : BitVec 16), n < 512 → s.faceOwner (n / 64) = p →
     let a := apIdx ap
     let t := s.target n
     (s.Takes .face ap → (ap = .part p ∨ ap = .lamp ∧ p ≠ 0) →
       let x := armArgs s a tally
       let fmtOk := (x.op ≠ 3 ∨ x.fmt = 0) ∧ elems x.fmt ≠ 0
       let wins := s.windowOk (n / 64) p x = true
       let bufs := s.bufferOk (n / 64) p x = true
       let ends (code : Nat) : Prop := exec (.faceArm ap n tally) s = .next (s.cmdEnd .face a n code).settle
       let more := s.modTarget n fun t => { t with expected := x.expected, tally := x.tally }
       (s.ownsTally p x.tally = false → ends 2) ∧
       (s.ownsTally p x.tally = true → t.state = .empty →
         (¬ fmtOk → ends 4) ∧ (fmtOk → ¬ wins → ends 5) ∧ (fmtOk → wins → ¬ bufs → ends 6) ∧ (fmtOk → wins → bufs → x.expected = 0 → ends 7) ∧
         (fmtOk → wins → bufs → x.expected ≠ 0 →
           exec (.faceArm ap n tally) s = .next ((s.modTarget n fun t => { t with
             state := .opened, op := x.op, fmt := x.fmt, win := x.win, units := x.units, share := x.share, bufOff := x.bufOff
             expected := x.expected, arrived := 0, tally := x.tally, flags := 0, acc := [], wait := [], clearing := none }).cmdEnd .face a n 0).settle)) ∧
       (s.ownsTally p x.tally = true → t.state = .opened →
         ((x.expected = 0 ∨ x.expected < t.arrived) → ends 7) ∧
         (x.expected ≠ 0 → t.arrived ≤ x.expected → exec (.faceArm ap n tally) s =
           .next ((if x.expected = t.arrived then more.closeTarget n else more).cmdEnd .face a n 0).settle)) ∧
       (s.ownsTally p x.tally = true → t.state ≠ .empty → t.state ≠ .opened → ends 3) ∧
       (let u := ((s.endClear n).leaveBuffer n).modTarget n fun _ => {}
         let v := ((u.face.gathers.filter fun g => g.target == n && !g.read).foldl State.dropGather u).refuseWaits ((s.atTarget n).map (·.id))
         exec (.faceDisarm ap n) s = .next ((v.modTarget n fun t => { t with wait := [] }).cmdEnd .face a n 0).settle) ∧
       (t.state ≠ .empty → t.clearing = none →
         exec (.faceClear ap n) s = .next ((s.modTarget n fun t => { t with clearing := some a }).cmdBusy .face a n).settle) ∧
       ((t.state = .empty ∨ t.clearing ≠ none) → exec (.faceClear ap n) s = .next (s.cmdEnd .face a n 3).settle)) ∧
     (∀ b, s.alive = true → t.clearing = some b →
       exec (.faceClearDone n) s = .next ((s.modTarget n fun t =>
         { t with state := .opened, arrived := 0, flags := 0, acc := [], clearing := none }).cmdEnd .face b n 0).settle) ∧
     (∀ c : Instr, c ∈ [.faceArm ap n tally, .faceDisarm ap n, .faceClear ap n] →
       (s.Takes .face ap → (ap = .lamp ∧ p = 0 ∨ ∃ q, ap = .part q ∧ q ≠ p) → exec c s = .next (s.cmdEnd .face a n 2).settle) ∧
       (s.Reaches ap .face 0 → (ap = .lamp ∨ ∃ q, ap = .part q) → (s.inst .face a).busy = true →
         exec c s = .next (s.modInst .face a fun i => { i with code := 1 }).settle) ∧
       (s.Reaches ap .face 0 → (ap = .operator ∨ ap = .debug ∨ ∃ p v, ap = .vf p v) → exec c s = .next s.settle))) ∧
  (∀ (s : State) (n : Nat), s.alive = true → n < 512 →
     let t := s.target n
     let f := n / 64
     let es := t.wait.filterMap s.entry
     let next : Option HomeEntry := es.find? fun e => t.takes e && ((es.takeWhile (·.id != e.id)).all fun x => (entryLines n t x).all fun l =>
       !(entryLines n t e).contains l) && (t.state == .failed || s.cached f (entryLines n t e))
     let taken (e : HomeEntry) : State := s.modTarget n fun t => { t with wait := t.wait.filter (· != e.id) }
     let read (e : HomeEntry) (ecc : Ecc) : State × Bool := (taken e).insWords (f / 2) (s.lineWords n t (entryLines n t e)) 2 ecc
     let lost (u : State) (e : HomeEntry) : State :=
       (u.modTarget n fun t => { t with flags := t.flags ||| fPoison }).toPart 0x2207 e.part (.unit .target n 0)
     (∀ ecc, next = none → exec (.contributionApply n ecc) s =
       .next ((es.filter t.takes).foldl (fun u e => u.fetchLines f (entryLines n t e)) s).settle) ∧
     (∀ e ecc, next = some e →
       let first := (e.op.addr % 2 ^ 44 - t.win * 64) / 64
       let arrived := t.arrived + e.op.size / 64
       let bad := (read e ecc).2
       let data := ((List.range (e.op.size / 64)).map fun i => s.stored t n (first + i)).flatten
       let turned := t.state = .failed ∨ 0xFFFFFF < arrived
       let r : State × Bool := if t.op ≠ 3 ∧ t.state ≠ .failed then read e ecc else (taken e, false)
       let m : Target := if t.op = 3 then t.keep first e.op.payload else t.reduce first e.op.fmt e.op.payload
       let flags := if e.op.poison then m.flags ||| fPoison else m.flags
       let u := (r.1.modTarget n fun x => { x with acc := m.acc, store := m.store, flags, arrived }).bump 0x06 f (e.op.size / 64)
       let v := { u with face := { u.face with
         applied := u.face.applied.modD f 0 fun w => BitVec.ofNat 32 (min (2 ^ 32 - 1) (w.toNat + e.op.size / 64)) } }
       (e.op.opcode = 1 → exec (.contributionApply n ecc) s =
         .next ((if bad = true then lost (read e ecc).1 e else (read e ecc).1).endEntry e.id data bad 0).settle) ∧
       (e.op.opcode ≠ 1 → turned → exec (.contributionApply n ecc) s = .next (r.1.endEntry e.id [] false 0xB003).settle) ∧
       (e.op.opcode ≠ 1 → ¬ turned → r.2 = true → exec (.contributionApply n ecc) s =
         .next (((lost r.1 e).failTarget n).endEntry e.id [] false 0xB003).settle) ∧
       (e.op.opcode ≠ 1 → ¬ turned → r.2 = false → exec (.contributionApply n ecc) s =
         .next ((if arrived = t.expected then v.closeTarget n else v).endEntry e.id [] false 0).settle)) ∧
     (∀ e, t.state = .closed → es.find? (·.op.opcode != 1) = some e →
       exec (.contributionHoldTimeout n) s = .next ((taken e).endEntry e.id [] false 0xB003).settle) ∧
     (∀ line ecc, line / 32768 = n → (s.face.fetch.getD f []).contains line = true →
       let w := s.insWords (f / 2) (wordsFrom (s.areaStart (f / 2 * 3 + t.share) 2 / 8 + t.bufOff * 8 + line % 32768 * 8) 8) 2 ecc
       let u := w.1.cacheLine f line
       let mine (g : Gather) : Bool := g.target == n && !g.read && g.need.contains line
       let waits := es.filter fun e => t.takes e && (entryLines n t e).contains line
       let a := (u.modTarget n fun t => { t with flags := t.flags ||| fPoison }).toPart 0x2207 (s.faceOwner f) (.unit .target n 0)
       let b := (a.modGathers fun g => if mine g then { g with poison := true } else g).poisonReads n (waits.filter (·.op.opcode == 1))
       let c := if t.state == .opened && waits.any (·.op.opcode != 1) then b.failTarget n else b
       let out (u : State) : State :=
         let v := u.modGathers fun g => { g with need := g.need.filter (· != line) }
         (v.face.gathers.filter fun g => g.target == n).foldl State.gatherRead v
       ((w.2 = false ∨ t.state = .empty) → exec (.faceCacheFill f line ecc) s = .next (out u).settle) ∧
       (w.2 = true → t.state ≠ .empty → exec (.faceCacheFill f line ecc) s = .next (out c).settle)) ∧
     (∀ task g, task < 256 → s.face.gathers.find? (·.task == task) = some g → g.read = true →
       let x := State.gatherIssue g g.todo.length s
       let done := x.1.todo = [] ∧ ∀ i ∈ x.1.issued, ∀ r ∈ x.2.req.out, r.ordNo = i → r.node ≠ x.2.lse.node ∧ r.posted = true
       (done → exec (.gatherComplete task) s =
         .next { x.2 with face := { x.2.face with gathers := x.2.face.gathers.filter (·.task != task) } }.settle) ∧
       (¬ done → exec (.gatherComplete task) s = .next (x.2.putGather x.1).settle)))

/-- Two FORMAT codes match when they are equal; 0x8 and 0x9 also match each other, and so do 0xA and 0xB (R258). -/
def Obligations.FormatsMatch : Prop :=  ∀ f g : Nat, fmtMatch f g = true ↔
    f = g ∨ (f = 0x8 ∧ g = 0x9) ∨ (f = 0x9 ∧ g = 0x8) ∨ (f = 0xA ∧ g = 0xB) ∨ (f = 0xB ∧ g = 0xA)

/-! ### Tallies and the Winder (11) -/

/-- Tally packets at their home: the record is read, a corrected word counted and an uncorrectable one acted on, and the signal applied; it is acknowledged, or refused with ERROR. A signal is
refused with 0x7001 by a tally that its partition does not own and with 0x7003 by a spent or orphaned one; SIGNAL_ADD beyond 64 bits leaves the tally spent with 0x7002, its waiters released with 0x7004; a
SIGNAL_MAX below the value is only counted; a value that the pair does not admit is refused with 0x7005 or 0x7006; any other value is taken, and the waits that it satisfies are released. A wait is refused by the same
tallies, completes when it is satisfied, is acknowledged when it is registered already, is NACKed when its partition's registrations here are used up, stays where it is while no registration is left on this
node, and is else registered and acknowledged (R147, R152, R287 to R290, R292, R295, R296).
Tally operations at their requester: a held signal is sent when all before it is answered, or fails with 0x300B without a usable port, a descriptor's message following it and a task's step ending with it; WAIT_DONE
completes its wait with the value; an acknowledgement completes a signal and stops a wait's timer; an answer that matches neither is only counted at its port; a wait on another node is sent again with
its TAG, or fails with 0x300B (R205, R226, R291, R294 to R296, R332).
TAL_CMD from the owner of the tally, from the Lamp on a tally with an owner and, for SIGNAL_ADD, SIGNAL_MAX and QUERY of one, from the operator: a signal applies TAL_ARG1:TAL_ARG0, logs an overflow,
counts an operator's in the owner's audit counter and completes with the code of its refusal; PAIR makes a producer and a consumer of two free tallies of one owner whose values the bound admits, UNPAIR
frees both, each else refused with CODE 0x5; QUERY shows the record. A tally that the aperture may not command, and any from the debug port, gives CODE 0x2; a busy instance CODE 0x1 alone; VFs, where TAL_CMD is
reserved, nothing (R80, R290, R299, R311).
The model's own choices and readings in it: logs 3, 13, 61, 92. -/
def Obligations.TalliesComplete : Prop :=
  (((∀ (s t : State) (q src part tag : Nat) (o : Op) (ecc : Ecc), s.alive = true → q < 4 → src < 255 → tag < 16384 →
      let n := o.addr % 65536
      let x : Dword := BitVec.ofNat 64 (ofLe o.payload)
      let u := t.readTally q n ecc
      let r := u.tally n
      let ack (u : State) : State := u.answerOp src tag o 3 0x81 0 false []
      (s.takeArrival q src part tag (fun o => o.kind == 3 && (o.opcode == 1 || o.opcode == 2)) = some (o, t) →
        let y := u.signal part n (o.opcode == 2) x
        (y.2 = 0 → exec (.tallySignal q src part tag ecc) s = .next (ack y.1).settle) ∧
        (y.2 ≠ 0 → exec (.tallySignal q src part tag ecc) s = .next (y.1.answerErr src tag o y.2).settle)) ∧
      (s.takeArrival q src part tag (fun o => o.kind == 3 && o.opcode == 3) = some (o, t) →
        let gives (v : State) : Prop := exec (.tallyWait q src part tag ecc) s = .next v.settle
        let mine (g : Registration) : Bool := g.src == src && g.part == part && g.tag == tag
        let done := x.toNat ≤ r.value.toNat
        let own := ((u.req.out.find? (·.tag == tag)).map fun r => ownWaitSlot r.eng).getD false
        let put : State := ack { u with tal := { u.tal with regs := u.tal.regs ++ [{ tally := n, th := x, src, part, tag, ctx := o.ctx }] } }
        (u.ownsTally part n = false → gives (u.answerErr src tag o 0x7001)) ∧
        (u.ownsTally part n = true → (r.spent || r.orphan) = true → gives (u.answerErr src tag o 0x7003)) ∧
        (u.ownsTally part n = true → (r.spent || r.orphan) = false →
          (done → gives ({ u with tal := { u.tal with regs := u.tal.regs.filter fun g => !mine g } }.answerOp src tag o 3 0x83 1 false
            (leBytes 8 r.value.toNat))) ∧
          (¬ done → u.tal.regs.any mine = true → gives (ack u)) ∧
          (¬ done → u.tal.regs.any mine = false → src = s.lse.node →
            (own = false → 480 ≤ u.sharedWaits → gives s) ∧ ((own = true ∨ u.sharedWaits < 480) → gives put)) ∧
          (¬ done → u.tal.regs.any mine = false → src ≠ s.lse.node →
            (u.tal.quota.getD (q * 8 + part) 0 ≤ u.remoteRegs part → gives (u.answerNack q src tag o 2 0 0)) ∧
            (u.remoteRegs part < u.tal.quota.getD (q * 8 + part) 0 → gives put))))) ∧
    (∀ (s : State) (part n : Nat) (max : Bool) (x : Dword),
      let r := s.tally n
      let spent := s.putTally n { r with value := BitVec.allOnes 64, spent := true }
      let new := if max then x else r.value + x
      let past := max = false ∧ 2 ^ 64 ≤ x.toNat + r.value.toNat
      let low := max = true ∧ x.toNat < r.value.toNat
      (s.ownsTally part n = false → s.signal part n max x = (s, 0x7001)) ∧
      (s.ownsTally part n = true → (r.spent || r.orphan) = true → s.signal part n max x = (s, 0x7003)) ∧
      (s.ownsTally part n = true → (r.spent || r.orphan) = false →
        (past → s.signal part n max x = ((spent.releaseWaits n (fun _ => true) 0x7004 0).irqVis .tal part 3, 0x7002)) ∧
        (low → (s.signal part n max x).2 = 0 ∧ (s.signal part n max x).1.tally n = { r with stale := satInc r.stale }) ∧
        (¬ past → ¬ low → s.pairOk r new.toNat = true → s.signal part n max x =
          ((s.putTally n { r with value := new }).releaseWaits n (fun g => decide (g.th.toNat ≤ new.toNat)) 0 new, 0)) ∧
        (¬ past → ¬ low → s.pairOk r new.toNat = false →
          s.signal part n max x = (s.irqVis .tal part 2, if r.role = 1 then 0x7005 else 0x7006))))) ∧
   (∀ (s t : State) (tag : Nat), s.alive = true → tag < 16384 →
      (∀ r, s.reqOf tag = some r → r.held = true → s.earlierDone r = true →
        let u := s.modReq tag fun r => { r with held := false }
        let v := (u.sendReq r (u.opQuad r.op)).getD (u.finishReq r 0x300B false [])
        let w := (r.irq.map fun fn => v.hold r.op.part .host r.op.ctx (.msix fn)).getD v
        (∀ k, r.eng = .task k → exec (.signalRelease tag) s =
          .next (if (s.task k).state = .blocked ∧ (s.task k).block = 6 then w.stepDone k (s.task k).nextPtr else w).settle) ∧
        ((∀ k, r.eng ≠ .task k) → exec (.signalRelease tag) s = .next w.settle)) ∧
      (∀ a, s.takeAnswer tag (fun a => a.kind == 3 && a.opcode == 0x83) = some (a, t) →
        let mine (r : Req) : Prop := a.matches_ r = true ∧ r.op.kind = 3 ∧ r.op.opcode = 3
        (∀ r, t.reqOf tag = some r → mine r → exec (.waitDoneReceive tag) s = .next ((t.flowAnswered r).finishReq r 0 false a.payload).settle) ∧
        ((∀ r, t.reqOf tag = some r → ¬ mine r) → exec (.waitDoneReceive tag) s = .next (t.strayAnswer a).settle)) ∧
      (∀ a, s.takeAnswer tag (fun a => a.kind == 3 && a.opcode == 0x81) = some (a, t) →
        let mine (r : Req) : Prop := a.matches_ r = true ∧ r.op.kind = 3
        (∀ r, t.reqOf tag = some r → mine r →
          exec (.tallyAckReceive tag) s = .next (if r.op.opcode = 3 then (t.flowAnswered r).modReq tag fun r => { r with acked := true, sent := false }
            else (t.flowAnswered r).finishReq r 0 false []).settle) ∧
        ((∀ r, t.reqOf tag = some r → ¬ mine r) → exec (.tallyAckReceive tag) s = .next (t.strayAnswer a).settle)) ∧
      (∀ r, s.reqOf tag = some r → r.acked = true → r.node ≠ s.lse.node →
        let u := s.modReq tag fun r => { r with acked := false }
        exec (.waitRepeat tag) s = .next ((u.sendReq r (u.opQuad r.op)).getD (u.finishReq r 0x300B false [])).settle))) ∧
  (∀ (s : State) (ap : Aperture) (n : Nat), n < 65536 →
     let a := apIdx ap
     let own := s.tallyOwner n ≠ 0
     let mine := (∃ p, ap = .part p ∧ s.ownsTally p n = true) ∨ ap = .lamp ∧ own
     let v : Dword := s.arg .tal a 0x14 ++ s.arg .tal a 0x10
     let c := (s.arg .tal a 0x18).toNat % 65536
     let b := (s.arg .tal a 0x1C).toNat % 65536
     let signalled (max : Bool) : State :=
       let p := s.tallyOwner n
       let y := s.signal p n max v
       let z := if y.2 = 0x7002 then y.1.logged y.2 p (.unit .tally n 0) else y.1
       (if a = 0 ∧ (y.2 = 0 ∨ y.2 = 0x7002) then z.handSet p else z).cmdEnd .tal a n (talCode y.2)
     let pairs := c ≠ n ∧ b ≠ 0 ∧ s.tallyOwner c = s.tallyOwner n ∧ (s.tally n).role = 0 ∧ (s.tally c).role = 0 ∧
       (s.tally c).value.toNat ≤ (s.tally n).value.toNat ∧ (s.tally n).value.toNat ≤ (s.tally c).value.toNat + b
     let m := (s.tally n).partner.toNat
     (s.Takes .tal ap → (mine ∨ ap = .operator ∧ own) →
       exec (.talSignalAdd ap n) s = .next (signalled false).settle ∧ exec (.talSignalMax ap n) s = .next (signalled true).settle ∧
       exec (.talQuery ap n) s = .next ((s.modInst .tal a fun i => { i with result := (s.tally n).result }).cmdEnd .tal a n 0).settle) ∧
     (s.Takes .tal ap → mine →
       (pairs → exec (.talPair ap n) s =
         .next (((s.putTally n { s.tally n with role := 1, partner := BitVec.ofNat 16 c, bound := BitVec.ofNat 16 b }).putTally c
           { s.tally c with role := 2, partner := BitVec.ofNat 16 n, bound := 0 }).cmdEnd .tal a n 0).settle) ∧
       (¬ pairs → exec (.talPair ap n) s = .next (s.cmdEnd .tal a n 5).settle) ∧
       ((s.tally n).role ≠ 0 → exec (.talUnpair ap n) s = .next (((s.putTally n { s.tally n with role := 0, partner := 0, bound := 0 }).putTally m
         { s.tally m with role := 0, partner := 0, bound := 0 }).cmdEnd .tal a n 0).settle) ∧
       ((s.tally n).role = 0 → exec (.talUnpair ap n) s = .next (s.cmdEnd .tal a n 5).settle)) ∧
     (∀ i : Instr, i ∈ [.talSignalAdd ap n, .talSignalMax ap n, .talQuery ap n, .talPair ap n, .talUnpair ap n] →
       (s.Reaches ap .tal 0 → (s.inst .tal a).busy = false → (ap = .debug ∨ (∃ p, ap = .part p ∧ s.ownsTally p n = false) ∨ (ap = .lamp ∨ ap = .operator) ∧ ¬ own ∨
         ap = .operator ∧ (i = .talPair ap n ∨ i = .talUnpair ap n)) → exec i s = .next (s.cmdEnd .tal a n 2).settle) ∧
       (s.Reaches ap .tal 0 → (∀ p w, ap ≠ .vf p w) → (s.inst .tal a).busy = true →
         exec i s = .next (s.modInst .tal a fun i => { i with code := 1 }).settle) ∧
       (∀ p w, ap = .vf p w → s.Reaches ap .tal 0 → exec i s = .next s.settle)))

/-- WND_CMD from the partition that owns the task, or from the Lamp. LOAD of an idle task with 1 to 64 steps, a source in the partition and a context that is
not lost reads the program by ordinary reads; once every line has come the program is loaded, its tallies referred to; a line that fails ends it with CODE 0x4, a
task idle no more with 0x3, a lost context or a full reference count with 0x5. START and RESUME make a stopped or halted task READY, START also a done one, while
its context is not lost, else CODE 0x5; STOP stops a READY task, a waiting one with its wait withdrawn, any other at its step's end; UNLOAD empties an idle one;
CODE 0x3 in any other state. From another partition, and from the Lamp on a task of none, CODE 0x2; busy, CODE 0x1 alone; from the operator, the debug port and
VFs, where it is reserved, nothing (R80, R303, R304, R311, R337).
Steps. The READY task whose turn it is in its partition issues its step: an uncorrectable word halts it with 0x2208, one beyond the program with 0x7013, a
malformed one, or one whose IND operand address is malformed (log 98), with 0x7010, an operand outside the partition with 0x7011; IND reads its operand and waits,
or is blocked without a free TAG, and the step runs with what comes back, an error or poison halting it with 0x7011. Of a well-formed step END makes the task
DONE, WAIT and SIGNAL issue their tally operation, ARM arms its target, with the extension word or without, GATHER, MOVE, FENCE and LOOP act as theirs do (R147, R152,
R305 to R308, Table 11.4).
What steps do. A tally operation takes the lowest free TAG and the task waits for it, or, for a signal, for its release; with no TAG it is blocked for one. ARM is
refused with 0xB004 for a target or tally of another partition, an empty target without its extension word, one being cleared, and where the face refuses it; MOVE of
another partition's channel, and LOOP beyond the program, halt it with 0x7012 and 0x7013; FENCE waits among the fences; LOOP goes back while its count is not used
up, and on with the count at 0 (R260, R261, R284, R294, R305, R307, R317).
The model's own choices and readings in it: logs 3, 15, 57, 98. -/
def Obligations.WinderCompletes : Prop :=
  (((∀ (s : State) (ap : Aperture) (p t : Nat) (prog : List Block), t < 256 → s.taskOwner t = p →
      let a := apIdx ap
      let k := s.task t
      let src := s.loadAddr a
      let len := ((s.arg .wnd a 0x14).extractLsb' 8 7).toNat
      let ctx : BitVec 16 := (s.arg .wnd a 0x18).extractLsb' 0 16
      let canary : BitVec 16 := (s.arg .wnd a 0x1C).extractLsb' 0 16
      let shape := len ≠ 0 ∧ len ≤ 64 ∧ s.loadOk p src len = true
      let refused (c : Instr) (code : Nat) : Prop := exec c s = .next (s.cmdEnd .wnd a t code).settle
      let stops (u : State) : Prop := exec (.wndStop ap t) s =
        .next ((u.modTask t fun k => { k with state := .stopped, block := 0, req := none }).cmdEnd .wnd a t 0).settle
      let started := k.state = .stopped ∨ k.state = .done ∨ k.state = .halted
      let resumed := k.state = .stopped ∨ k.state = .halted
      (s.Takes .wnd ap → (ap = .part p ∨ ap = .lamp ∧ p ≠ 0) →
        (k.state.idle = false → refused (.wndLoad ap t prog) 3) ∧
        (k.state.idle = true → ¬ shape → refused (.wndLoad ap t prog) 4) ∧
        (k.state.idle = true → shape → s.ctxOk p ctx = false → exec (.wndLoad ap t prog) s = .next ((s.stale p).cmdEnd .wnd a t 5).settle) ∧
        (k.state.idle = true → shape → s.ctxOk p ctx = true →
          let l : Load := { task := t, part := p, ctx, canary, src, n := len, todo := List.range ((len + 3) / 4) }
          exec (.wndLoad ap t prog) s =
            .next (State.loadIssue a 16 ({ s with wnd := { s.wnd with loads := s.wnd.loads.put a l } }.cmdBusy .wnd a t)).settle) ∧
        (started → s.ctxOk p k.ctx = true → exec (.wndStart ap t) s = .next ((s.modTask t fun k =>
          { k with step := 0, iter := 0, loop := 0, state := .ready, fault := 0, block := 0, stopReq := false }).cmdEnd .wnd a t 0).settle) ∧
        (resumed → s.ctxOk p k.ctx = true → exec (.wndResume ap t) s = .next ((s.modTask t fun k =>
          { k with state := .ready, fault := 0, block := 0, stopReq := false }).cmdEnd .wnd a t 0).settle) ∧
        (s.ctxOk p k.ctx = false → (started → refused (.wndStart ap t) 5) ∧ (resumed → refused (.wndResume ap t) 5)) ∧
        (¬ started → refused (.wndStart ap t) 3) ∧ (¬ resumed → refused (.wndResume ap t) 3) ∧
        (k.state = .ready → stops s) ∧
        (k.state = .blocked →
          ((k.block = 1 ∨ k.block = 2) → stops ((k.req.map s.withdrawWait).getD s)) ∧
          (k.block = 3 → stops { s with req := { s.req with fences := s.req.fences.filter fun f => f.1 != Engine.task t } }) ∧
          (k.block = 7 → stops s) ∧
          (k.block ≠ 1 → k.block ≠ 2 → k.block ≠ 3 → k.block ≠ 7 →
            exec (.wndStop ap t) s = .next ((s.modTask t fun k => { k with stopReq := true }).cmdEnd .wnd a t 0).settle)) ∧
        (k.state ≠ .ready → k.state ≠ .blocked → refused (.wndStop ap t) 3) ∧
        (k.state.idle = true → exec (.wndUnload ap t) s = .next (((s.dropRefs (.task t) false).modTask t fun _ => {}).cmdEnd .wnd a t 0).settle) ∧
        (k.state.idle = false → refused (.wndUnload ap t) 3)) ∧
      (∀ c : Instr, c ∈ [.wndLoad ap t prog, .wndStart ap t, .wndResume ap t, .wndStop ap t, .wndUnload ap t] →
        (s.Takes .wnd ap → (ap = .lamp ∧ p = 0 ∨ ∃ q, ap = .part q ∧ q ≠ p) → refused c 2) ∧
        (s.Reaches ap .wnd 0 → (ap = .lamp ∨ ∃ q, ap = .part q) → (s.inst .wnd a).busy = true →
          exec c s = .next (s.modInst .wnd a fun i => { i with code := 1 }).settle) ∧
        (s.Reaches ap .wnd 0 → (ap = .operator ∨ ap = .debug ∨ ∃ p v, ap = .vf p v) → exec c s = .next s.settle))) ∧
    (∀ (s : State) (a : Nat) (l x : Load), s.wnd.loads.find a = some l → (s.inst .wnd a).busy = true →
      let t := State.loadIssue a 16 (s.loadTake a l)
      let u : State := { t with wnd := { t.wnd with loads := t.wnd.loads.erase a } }
      let come := x.todo = [] ∧ (x.n + 3) / 4 ≤ x.got.length
      let v := u.dropRefs (.task x.task) false
      t.wnd.loads.find a = some x →
      (x.bad = true → s.loadStep a = u.cmdEnd .wnd a x.task 4) ∧
      (x.bad = false → ¬ come → s.loadStep a = t) ∧
      (x.bad = false → come → (t.task x.task).state.idle = false → s.loadStep a = u.cmdEnd .wnd a x.task 3) ∧
      (x.bad = false → come → (t.task x.task).state.idle = true →
        (u.ctxOk x.part x.ctx = false → s.loadStep a = (u.stale x.part).cmdEnd .wnd a x.task 5) ∧
        (u.ctxOk x.part x.ctx = true → v.taskRefs x.part x.task (v.progTallies x.steps) = none →
          s.loadStep a = (v.loseCtx x.part x.ctx 0x7001 (.unit .task x.task 0)).cmdEnd .wnd a x.task 5) ∧
        (∀ w, u.ctxOk x.part x.ctx = true → v.taskRefs x.part x.task (v.progTallies x.steps) = some w →
          s.loadStep a = (w.modTask x.task fun _ =>
            { state := .stopped, part := x.part, ctx := x.ctx, canary := x.canary, prog := x.steps }).cmdEnd .wnd a x.task 0)))) ∧
   (∀ (s : State) (t : Nat), s.alive = true → t < 256 →
      let k := s.task t
      let w := k.prog.getD k.step 0
      (k.state = .ready → s.nextTask k.part = some t →
        let u := { s with wnd := { s.wnd with lane := s.wnd.lane.put k.part t } }
        let share := u.progShare k.part
        let word (ecc : Ecc) : State × Bool :=
          u.insWords (share / 3) (wordsFrom (u.areaStart share 3 / 8 + ((t - (u.shapeOf k.part).wndBase) * 1024 + k.step * 16) / 8) 2) 3 ecc
        let addr := (w.extractLsb' 0 44).toNat
        let code := (w.extractLsb' 124 4).toNat
        let halts (v : State) (c : Nat) : State := (v.keepCtx k.part k.ctx c (.unit .task t k.step)).haltTask t c
        (∀ ecc, k.prog.length ≤ k.step → exec (.winderStepIssue t ecc) s = .next (halts u 0x7013).settle) ∧
        (∀ ecc, k.step < k.prog.length → (word ecc).2 = true →
          exec (.winderStepIssue t ecc) s = .next (((word ecc).1.toPart 0x2208 k.part (.unit .task t k.step)).haltTask t 0x2208).settle) ∧
        (∀ ecc, k.step < k.prog.length → (word ecc).2 = false → w.getLsbD 123 = false →
          exec (.winderStepIssue t ecc) s = .next ((word ecc).1.runStep t w (w.setWidth 120)).settle) ∧
        (∀ ecc, k.step < k.prog.length → (word ecc).2 = false → w.getLsbD 123 = true →
          let v := (word ecc).1
          let shaped := 1 ≤ code ∧ code ≤ 5 ∧ addr % 16 = 0 ∧ w.extractLsb' 44 76 = 0
          let kk := v.task t
          let stuck := v.modTask t fun k => { k with state := .blocked, block := 7 }
          (¬ shaped → exec (.winderStepIssue t ecc) s = .next (v.stepBad t 0x7010).settle) ∧
          (shaped → v.memOwner addr 16 ≠ kk.part → exec (.winderStepIssue t ecc) s = .next (v.stepBad t 0x7011).settle) ∧
          (shaped → v.memOwner addr 16 = kk.part → v.freeTag = none → exec (.winderStepIssue t ecc) s = .next stuck.settle) ∧
          (∀ tag, shaped → v.memOwner addr 16 = kk.part → v.freeTag = some tag →
            let op : Op := { kind := 0, opcode := 1, len := 4, addr := v.lse.node * 2 ^ 44 + addr / 64 * 64, part := kk.part, ctx := some kk.ctx }
            exec (.winderStepIssue t ecc) s = .next (((v.modTask t fun k => { k with state := .blocked, block := 5, ind := some tag }).issueReq
              (.task t) op 1 0 false).getD stuck).settle))) ∧
      (∀ o : BitVec 120,
        let code := (w.extractLsb' 124 4).toNat
        let f : BitVec 3 := w.extractLsb' 120 3
        let formed := stepFormed code f o = true
        let node := if f.getLsbD 2 then (o.extractLsb' 96 8).toNat else s.lse.node
        let scaled : Dword := o.extractLsb' 0 64 + k.iter * (o.extractLsb' 80 16).setWidth 64
        let tally := (o.extractLsb' 104 16).toNat
        let next := k.prog[k.step + 1]?
        let ext := ∃ x, next = some x ∧ (x.extractLsb' 124 4).toNat = 15 ∧ zeroBits (x.setWidth 120) 0 35 = true ∧ x.extractLsb' 120 4 = 0
        (¬ formed → s.runStep t w o = (s.keepCtx k.part k.ctx 0x7010 (.unit .task t k.step)).haltTask t 0x7010) ∧
        (formed →
          (code = 0 → s.runStep t w o = (s.modTask t fun k => { k with state := .done, block := 0 }).irqVis .wnd k.part 1) ∧
          (code = 1 → s.runStep t w o = s.taskTally t 3 node tally scaled) ∧
          (code = 2 → f.getLsbD 1 = false → s.runStep t w o = s.taskArm t (f.getLsbD 2) none o) ∧
          (code = 2 → f.getLsbD 1 = true → ext → s.runStep t w o = s.taskArm t (f.getLsbD 2) next o) ∧
          (code = 2 → f.getLsbD 1 = true → ¬ ext → s.runStep t w o = s.stepBad t 0x7010) ∧
          (code = 3 → s.runStep t w o = s.taskGather t o) ∧
          (code = 4 → s.runStep t w o = s.taskMove t (f.getLsbD 2) o) ∧
          (code = 5 → f.getLsbD 1 = true → s.runStep t w o = s.taskTally t 2 node tally scaled) ∧
          (code = 5 → f.getLsbD 1 = false → s.runStep t w o = s.taskTally t 1 node tally (o.extractLsb' 0 64)) ∧
          (code = 6 → s.runStep t w o = s.taskFence t) ∧
          (code = 7 → s.runStep t w o = s.taskLoop t (f.getLsbD 2) o))) ∧
      (∀ d, s.req.done.find? (fun d => d.eng == .task t && k.ind == some d.extTag) = some d →
        let u := { s with req := { s.req with done := s.req.done.erase d } }
        let v := u.modTask t fun k => { k with ind := none, state := .ready, block := 0 }
        (k.state ≠ .blocked → exec (.indOperandReturn t) s = .next u.settle) ∧
        (k.state = .blocked → (d.ok = false ∨ d.poison = true) → exec (.indOperandReturn t) s = .next (v.stepBad t 0x7011).settle) ∧
        (k.state = .blocked → d.ok = true → d.poison = false →
          exec (.indOperandReturn t) s =
            .next (v.runStep t w (BitVec.ofNat 120 (ofLe ((d.data.drop (w.extractLsb' 0 6).toNat).take 16)))).settle)))) ∧
  (∀ (s : State) (t : Nat) (o : BitVec 120),
     let k := s.task t
     (∀ opcode node tally (v : Dword),
       let op : Op := { kind := 3, opcode, len := 1, addr := node * 2 ^ 44 + tally, part := k.part, ctx := some k.ctx, payload := leBytes 8 v.toNat }
       let full := s.modTask t fun k => { k with state := .blocked, block := 7 }
       (s.freeTag = none → s.taskTally t opcode node tally v = full) ∧
       (∀ tag, s.freeTag = some tag →
         let waits (req : Option Nat) (block : Nat) : State :=
           s.modTask t fun k => { k with state := .blocked, block, req, nextPtr := k.step + 1, since := s.clk.cyc }
         (opcode = 3 → s.taskTally t opcode node tally v =
           ((waits (some tag) (if node = s.lse.node then 1 else 2)).issueReq (.task t) op 0 0 false).getD full) ∧
         (opcode ≠ 3 → (waits none 6).issueReq (.task t) op 0 0 true = none → s.taskTally t opcode node tally v = full) ∧
         (∀ u, opcode ≠ 3 → (waits none 6).issueReq (.task t) op 0 0 true = some u → s.taskTally t opcode node tally v =
           if u.req.out.any (·.tag == tag) ∨ (u.task t).state ≠ .blocked then u else u.stepDone t (k.step + 1)))) ∧
     (∀ clr ext,
       let n := (o.extractLsb' 111 9).toNat
       let e : Block := (ext : Option Block).getD 0
       let arm : Arm := {
         op := (e.extractLsb' 118 2).toNat, fmt := (e.extractLsb' 114 4).toNat, win := (e.extractLsb' 76 38).toNat
         units := (e.extractLsb' 61 15).toNat, share := (e.extractLsb' 59 2).toNat, bufOff := (e.extractLsb' 35 24).toNat
         expected := (o.extractLsb' 87 24).toNat, tally := (o.extractLsb' 71 16).toNat }
       let bad := s.faceOwner (n / 64) ≠ k.part ∨ s.ownsTally k.part arm.tally = false ∨ ((s.target n).state = .empty ∧ ext = none) ∨
         (s.target n).clearing ≠ none
       let u := if clr = true ∧ (s.target n).state ≠ .empty then s.clearTarget n else s
       let r := u.armTarget k.part n arm
       (bad → s.taskArm t clr ext o = s.stepFault t 0xB004 (.unit .target n 0)) ∧
       (¬ bad → r.2 = 0 → s.taskArm t clr ext o = r.1.stepDone t (k.step + (if ext.isSome then 2 else 1))) ∧
       (¬ bad → r.2 ≠ 0 → s.taskArm t clr ext o = r.1.stepFault t 0xB004 (.unit .target n 0))) ∧
     (∀ complete,
       let c := (o.extractLsb' 115 5).toNat
       let n := (o.extractLsb' 111 4).toNat + 1
       let m : MoveStep := { task := t, left := n, undone := n, complete, addr := (o.extractLsb' 0 44).toNat }
       let u := { s with mov := { s.mov with chans := s.mov.chans.modD c {} fun h => { h with moves := h.moves ++ [m] } } }
       (s.chanOwner c ≠ k.part → s.taskMove t complete o = s.stepBad t 0x7012) ∧
       (s.chanOwner c = k.part → s.taskMove t complete o = u.modTask t fun k => { k with state := .blocked, block := 4, nextPtr := k.step + 1 })) ∧
     (∀ iter,
       let target := (o.extractLsb' 114 6).toNat
       let count : Word := o.extractLsb' 0 32
       let again := count = 0 ∨ k.loop.toNat < count.toNat
       (k.prog.length ≤ target → s.taskLoop t iter o = s.stepBad t 0x7013) ∧
       (target < k.prog.length → again → s.taskLoop t iter o = s.modTask t fun k =>
         { k with step := target, loop := if count = 0 then k.loop else k.loop + 1, iter := if iter then k.iter + 1 else k.iter }) ∧
       (target < k.prog.length → ¬ again → s.taskLoop t iter o = (s.modTask t fun k => { k with loop := 0 }).stepDone t (k.step + 1))) ∧
     s.taskFence t = { (s.modTask t fun k => { k with state := .blocked, block := 3, nextPtr := k.step + 1 }) with
       req := { s.req with fences := s.req.fences ++ [(Engine.task t, k.part, k.ctx, 0)] } })

/-- A tally only rises: no signal, whatever its sender, kind and value, lowers the value of the tally that it names (R287, R289). -/
def Obligations.SignalNeverLowers : Prop :=  ∀ (s : State) (part n : Nat) (max : Bool) (x : Dword), (s.tally n).value.toNat ≤ ((s.signal part n max x).1.tally n).value.toNat

/-! ### The mover (12) -/

/-- MOV_CMD from the partition that owns the channel, or from the Lamp on a channel with an owner. BIND gives an unbound channel its ring, context and function and stops it; a bound channel gives CODE 0x3, a base off
a page, a size outside 2^4 to 2^12 or a function that the partition has not CODE 0x4, a lost context 0x2, a full reference count 0x6. START runs a stopped or halted channel, else CODE 0x3. ABORT of
the active descriptor or of a ring index stops the data path and drains the channel; CODE 0x3 when it does not run, 0x4 when none is active or the index lies outside the ring, 0x5 for an index that is consumed, once
its record is no longer held. From another partition, and from the Lamp on a channel of none, the commands end with CODE 0x2, while the instance is busy with CODE 0x1 alone; from the operator, the debug port and VFs
nothing happens. MOV_DB_c from the owning partition, or from the bound function in D0, sets TAIL of a running or stopped channel and is counted as ignored in another state; from anyone else it does nothing (R80, R315,
R316, R335, R342, Table 12.1).
The model's own choices and readings in it: log 40. -/
def Obligations.ChannelCommandsComplete : Prop :=  (∀ (s : State) (ap : Aperture) (p c : Nat), c < 32 → s.chanOwner c = p →
    let a := apIdx ap
    let k := s.chan c
    let a2 := s.arg .mov a 0x18
    let base : Dword := s.arg .mov a 0x14 ++ s.arg .mov a 0x10
    let size := (a2.extractLsb' 16 4).toNat
    let ctx : BitVec 16 := a2.extractLsb' 0 16
    let fn := (a2.extractLsb' 24 5).toNat
    let i := ((s.arg .mov a 0x10).extractLsb' 0 12).toNat
    let active := (s.arg .mov a 0x10).getLsbD 31 = true
    let shaped := base.toNat % 4096 = 0 ∧ 4 ≤ size ∧ size ≤ 12 ∧ fn ≤ (s.shapeOf p).vfs
    let gives (c' : Instr) (t : State) : Prop := exec c' s = .next t.settle
    let ends (c' : Instr) (code : Nat) : Prop := gives c' (s.cmdEnd .mov a c code)
    let drains (n : Option Nat) : Prop := gives (.movAbort ap c)
      (((s.movHaltPath c).modChan c fun k => { k with state := .draining, cmdAp := some a, abortTo := n }).cmdBusy .mov a c)
    (s.Takes .mov ap → (ap = .part p ∨ ap = .lamp ∧ p ≠ 0) →
      (k.state ≠ .unbound → ends (.movBind ap c) 3) ∧
      (k.state = .unbound → ¬ shaped → ends (.movBind ap c) 4) ∧
      (k.state = .unbound → shaped → s.ctxOk p ctx = false → gives (.movBind ap c) ((s.stale p).cmdEnd .mov a c 2)) ∧
      (k.state = .unbound → shaped → s.ctxOk p ctx = true →
        (s.addRef (.owner p ctx) (.queue c) = none → ends (.movBind ap c) 6) ∧
        (∀ t, s.addRef (.owner p ctx) (.queue c) = some t → gives (.movBind ap c) ((t.modChan c fun h => {
          state := .stopped, part := p, ctx, space := a2.getLsbD 20, fn, log2 := size, base, done := h.done, bytes := h.bytes
          moves := h.moves }).cmdEnd .mov a c 0))) ∧
      ((k.state = .stopped ∨ k.state = .halted) →
        gives (.movStart ap c) ((s.modChan c fun k => { k with state := .run, fault := 0 }).cmdEnd .mov a c 0)) ∧
      (¬ (k.state = .stopped ∨ k.state = .halted) → ends (.movStart ap c) 3) ∧
      (active → k.state ≠ .run → ends (.movAbort ap c) 3) ∧
      (active → k.state = .run → k.act = none → ends (.movAbort ap c) 4) ∧
      (active → k.state = .run → k.act ≠ none → drains none) ∧
      (¬ active → k.wasDone i = true → s.recordHeld c i = true →
        gives (.movAbort ap c) ((s.modChan c fun k => { k with cmdAp := some a, awaitRec := some i }).cmdBusy .mov a c)) ∧
      (¬ active → k.wasDone i = true → s.recordHeld c i = false → ends (.movAbort ap c) 5) ∧
      (¬ active → k.wasDone i = false → k.inRing i = false → ends (.movAbort ap c) 4) ∧
      (¬ active → k.inRing i = true → k.state ≠ .run → ends (.movAbort ap c) 3) ∧
      (¬ active → k.inRing i = true → k.state = .run → drains (some i))) ∧
    (∀ c' : Instr, c' ∈ [.movBind ap c, .movStart ap c, .movAbort ap c] →
      (s.Takes .mov ap → (ap = .lamp ∧ p = 0 ∨ ∃ q, ap = .part q ∧ q ≠ p) → ends c' 2) ∧
      (s.Reaches ap .mov 0 → (ap = .lamp ∨ ∃ q, ap = .part q) → (s.inst .mov a).busy = true →
        gives c' (s.modInst .mov a fun i => { i with code := 1 })) ∧
      (s.Reaches ap .mov 0 → (ap = .operator ∨ ap = .debug ∨ ∃ q v, ap = .vf q v) → gives c' s)) ∧
    (∀ tail : BitVec 12, s.Reaches ap .mov 0x2000 →
      let may := ap = .part p ∨ ∃ v, ap = .vf p v ∧ k.fn = v ∧ k.state ≠ .unbound ∧ s.hst.power.getD (p * 32 + v) 0 = 0
      (may → (k.state = .run ∨ k.state = .stopped) → gives (.movDoorbell ap c tail) (s.modChan c fun k => { k with tail := tail.toNat % k.slots })) ∧
      (may → ¬ (k.state = .run ∨ k.state = .stopped) →
        gives (.movDoorbell ap c tail) (s.modChan c fun k => { k with ignored := satInc k.ignored })) ∧
      (¬ may → gives (.movDoorbell ap c tail) s)))

/-- References, by the partition that owns the object that ARG0 names, or by the Lamp on an object with an owner. REF takes one for the acting context: CODE 0x2 for a lost context, 0x3 for an object that no longer lives,
0x6 for a full count. UNREF drops one that the context holds, the last one of an orphaned queue unbinding it, else CODE 0x2. DESTROY of the channel's own queue by a context that holds it begins its forced
destruction, else CODE 0x2, and 0x3 in a state that does not take it; of a tally that the context holds drops that reference and completes, or leaves it an orphan with CODE 0x7 while others hold it; of another queue or a
seam CODE 0x4. When a destruction is acknowledged the channel is unbound, or orphaned with an interrupt while others hold it. An object kind that Table 12.11 does not have gives CODE 0x4, an object of another partition 0x2;
a busy instance CODE 0x1 alone; from the operator, the debug port and VFs nothing happens (R80, R337 to R339, R342).
The model's own choices and readings in it: log 40. -/
def Obligations.ReferencesComplete : Prop :=  (∀ (s : State) (ap : Aperture),
    let a := apIdx ap
    let ctx : BitVec 16 := (s.arg .mov a 0x18).extractLsb' 0 16
    let gives (c' : Instr) (t : State) : Prop := exec c' s = .next t.settle
    (∀ (p c : Nat) (o : RefObj), s.Takes .mov ap → c < 32 → p ≠ 0 → refObj s a = some o → s.refOwner o = p → (ap = .part p ∨ ap = .lamp) →
      (s.ctxOk p ctx = false → gives (.movRef ap) ((s.stale p).cmdEnd .mov a 0 2)) ∧
      (s.ctxOk p ctx = true → s.refLive o = false → gives (.movRef ap) (s.cmdEnd .mov a 0 3)) ∧
      (s.ctxOk p ctx = true → s.refLive o = true →
        (s.addRef (.ctx p ctx) o = none → gives (.movRef ap) (s.refEnd a o 0 6)) ∧
        (∀ t, s.addRef (.ctx p ctx) o = some t → gives (.movRef ap) (t.refEnd a o 0 0))) ∧
      (s.tal.refs.contains (.ctx p ctx, o) = true →
        gives (.movUnref ap) (((s.dropRef (.ctx p ctx) o false).freeOrphan o).refEnd a o 0 0)) ∧
      (s.tal.refs.contains (.ctx p ctx, o) = false → gives (.movUnref ap) (s.cmdEnd .mov a 0 2)) ∧
      (o = .queue c →
        let takes := (s.chan c).state = .stopped ∨ (s.chan c).state = .run ∨ (s.chan c).state = .halted
        let held := s.tal.refs.contains (.owner p ctx, o) = true ∨ s.tal.refs.contains (.ctx p ctx, o) = true
        (¬ takes → gives (.movDestroy ap c) (s.cmdEnd .mov a c 3)) ∧
        (takes → ¬ held → gives (.movDestroy ap c) (s.cmdEnd .mov a c 2)) ∧
        (takes → held → gives (.movDestroy ap c) ((s.forceDestroy c (some a)).cmdBusy .mov a c))) ∧
      (((∃ q, o = .queue q ∧ q ≠ c) ∨ ∃ n, o = .seam n) → gives (.movDestroy ap c) (s.cmdEnd .mov a c 4)) ∧
      (∀ n, o = .tally n →
        let t := s.dropRef (.ctx p ctx) o true
        (s.tal.refs.contains (.ctx p ctx, o) = false → gives (.movDestroy ap c) (s.cmdEnd .mov a c 2)) ∧
        (s.tal.refs.contains (.ctx p ctx, o) = true → (t.tally n).refs = 0 → gives (.movDestroy ap c) (t.refEnd a o c 0)) ∧
        (s.tal.refs.contains (.ctx p ctx, o) = true → (t.tally n).refs ≠ 0 →
          gives (.movDestroy ap c) (((t.orphanTally n).irqVis .mov p 2).refEnd a o c 7)))) ∧
    (∀ (c : Nat) (c' : Instr), c < 32 → c' ∈ [.movRef ap, .movUnref ap, .movDestroy ap c] →
      (s.Takes .mov ap → (ap = .lamp ∨ ∃ q, ap = .part q) → refObj s a = none → gives c' (s.cmdEnd .mov a 0 4)) ∧
      (∀ o, s.Takes .mov ap → refObj s a = some o → (ap = .lamp ∧ s.refOwner o = 0 ∨ ∃ q, ap = .part q ∧ s.refOwner o ≠ q) →
        gives c' (s.cmdEnd .mov a 0 2)) ∧
      (s.Reaches ap .mov 0 → (ap = .lamp ∨ ∃ q, ap = .part q) → (s.inst .mov a).busy = true →
        gives c' (s.modInst .mov a fun i => { i with code := 1 })) ∧
      (s.Reaches ap .mov 0 → (ap = .operator ∨ ap = .debug ∨ ∃ q v, ap = .vf q v) → gives c' s))) ∧
  (∀ (s : State) (c : Nat), s.alive = true → c < 32 → (s.chan c).state = .draining → (s.chan c).destroying = true →
    let k := s.chan c
    let t := (s.dropRef (.owner k.part k.ctx) (.queue c) false).logged 0x600D k.part (.unit .channel c 0)
    let free := t.modChan c fun k => { done := k.done, bytes := k.bytes, moves := k.moves }
    let orphan := (t.modChan c fun k => { k with state := .orphaned, destroying := false, cmdAp := none, fetchAt := k.head, tail := k.head }).irqVis
      .mov k.part 2
    (t.refsOn (.queue c) = 0 → exec (.destroyComplete c) s =
      .next (match k.cmdAp with | some x => free.refEnd x (.queue c) c 0 | none => free).settle) ∧
    (t.refsOn (.queue c) ≠ 0 → exec (.destroyComplete c) s =
      .next (match k.cmdAp with | some x => orphan.refEnd x (.queue c) c 7 | none => orphan).settle))

/-- Descriptors. The next one is read while the channel runs and holds fewer than 16: of a MOVE step, 0x6004 outside the partition's memory, and of a ring in device memory, whose page is first translated, the
command issues the read and takes the line once it has come; of a ring in host memory its words come with the command. The next descriptor in its turn becomes active: over at once when its context is lost, refused
with its fault, waiting on its tally, or begun. A translation gives the ring's page or the descriptor's its address, checked, or ends it with a fault. The parameter block starts the data path with its
parameters, or fails it with 0x6007. The host's completions are passed on; a failed one ends the descriptor with 0x6006 and takes its stream down. A finished descriptor gets its record, signal and message and the
channel goes on. A record that the host refuses halts the channel with 0x6005 (R291, R315 to R318, R320 to R323, R325, R331, R332, R334, R346).
The end of an ABORT: the records of the descriptors that it ends are written with STATUS 0x03, in ring order, and they leave the channel with their references; ring descriptors behind them
return unconsumed, a Winder's stay queued; HEAD is left after the named index, and the channel is STOPPED. The command that began it completes (R335).
The model's own choices and readings in it: logs 3, 40, 93. -/
def Obligations.DescriptorsComplete : Prop :=
  (∀ (s : State) (c : Nat), s.alive = true → c < 32 →
     let k := s.chan c
     let gives (c' : Instr) (t : State) : Prop := exec c' s = .next t.settle
     let taken (d : Done) : State := { s with req := { s.req with done := s.req.done.erase d } }
     (∀ words, k.state = .run → k.holds < 16 → s.chanAwake c = true →
       let at_ := k.base + BitVec.ofNat 64 (64 * k.fetchAt)
       let ring := k.moves = [] ∧ k.fetchAt ≠ k.tail
       let v := at_.toNat
       let ask := (s.modChan c fun k => { k with ring := some (v / 4096, none) }).emit (.translate c false (v / 4096))
       (∀ m, k.moves.find? (·.left != 0) = some m → k.holds + m.left ≤ 16 →
         let ctx := (s.task m.task).ctx
         (s.memOwner m.addr 64 ≠ k.part → gives (.descriptorFetched c words) (s.moveDesc c m (noWords ctx) 0x6004)) ∧
         (∀ d, s.memOwner m.addr 64 = k.part → s.descLine c = some d →
           gives (.descriptorFetched c words) ((taken d).moveDesc c m (d.desc ctx).1 (d.desc ctx).2)) ∧
         (s.memOwner m.addr 64 = k.part → s.descLine c = none →
           gives (.descriptorFetched c words) (s.readDesc c (s.lse.node * 2 ^ 44 + m.addr) ctx))) ∧
       (ring → k.space = true →
         (∀ d, s.descLine c = some d → gives (.descriptorFetched c words) ((taken d).ringDesc c (d.desc k.ctx).1 (d.desc k.ctx).2)) ∧
         (s.descLine c = none →
           (k.ring = none → gives (.descriptorFetched c words) ask) ∧
           (∀ page g, k.ring = some (page, some g) → page = v / 4096 →
             gives (.descriptorFetched c words) (s.readDesc c (g + v % 4096) k.ctx)) ∧
           (∀ page g, k.ring = some (page, some g) → page ≠ v / 4096 → gives (.descriptorFetched c words) ask))) ∧
       (ring → k.space = false → words.length = 8 → s.hostOpen k.part = true →
         gives (.descriptorFetched c words) ((s.ringDesc c words 0).toHost k.part 1 none [] fun x _ => .descRead c x at_))) ∧
     (∀ d rest, k.queue = d :: rest → k.state = .run → k.act = none → s.movTurn c s.mov.next = true → s.chanAwake c = true →
       let t := { s with mov := { s.mov with next := s.mov.next + 1 } }.modChan c fun k => { k with act := some { d, order := s.mov.next }, queue := rest }
       let op : Op := {
         kind := 3, opcode := 3, len := 1, addr := d.field 4 40 8 * 2 ^ 44 + d.field 4 48 16, part := k.part, ctx := some d.ctx
         payload := leBytes 8 (d.field 5 0 64) }
       let own := d.bad / 4096 = 6 ∨ d.bad = 0x7001
       (s.ctxOk k.part d.ctx = false → gives (.descriptorActive c) (t.movLost c)) ∧
       (s.ctxOk k.part d.ctx = true →
         (d.bad ≠ 0 → ¬ own → gives (.descriptorActive c) (t.movStop c d.bad)) ∧
         (d.bad ≠ 0 → own → gives (.descriptorActive c) (t.movFail c d.bad (d.bad == 0x7001 || d.bad == 0x6004))) ∧
         (d.bad = 0 → d.flag 58 = true →
           gives (.descriptorActive c) (((t.modAct c fun a => { a with phase := .waiting }).issueReq (.mover c) op 3 0 false).getD s)) ∧
         (d.bad = 0 → d.flag 58 = false → gives (.descriptorActive c) (t.movBegin c)))) ∧
     (∀ v, s.ringAsks c = some v →
       let fail (code : Nat) : State :=
         ((s.modChan c fun k => { k with ring := none }).loseCtx k.part k.ctx code (.unit .channel c k.fetchAt)).haltChan c code
       gives (.translationAnswer c false none) (fail 0x6003) ∧
       (∀ page : BitVec 52,
         let g := page.toNat / 4096 * 4096
         let node := g / 2 ^ 44 % 256
         let ok := if node = s.lse.node then s.memOwner (g % 2 ^ 44) 4096 = k.part else s.remoteOk node k.part = true
         (ok → gives (.translationAnswer c false (some page)) (s.modChan c fun k => { k with ring := some (v, some g) })) ∧
         (¬ ok → gives (.translationAnswer c false (some page)) (fail 0x6004)))) ∧
     (∀ a dst x, (dst = true ∨ s.ringAsks c = none) → k.act = some a → a.trans.find? (fun x => x.dst == dst && x.at_.isNone) = some x →
       gives (.translationAnswer c dst none) (s.movFail c 0x6003 true) ∧
       (∀ page : BitVec 52,
         let g := page.toNat / 4096 * 4096
         let code := s.pageCheck c a dst g
         (code = 0 → gives (.translationAnswer c dst (some page)) (State.movPump c 1024 (s.modAct c fun a =>
           { a with trans := a.trans.map fun y => if y = x then { y with at_ := some g } else y }))) ∧
         (code ≠ 0 → gives (.translationAnswer c dst (some page)) (s.movFail c code (code != 0x6002))))) ∧
     (∀ d, s.req.done.find? (fun d => d.eng == .mover c && d.extTag == 4 && !s.stepHeld c) = some d →
       let w (i : Nat) : Nat := ofLe ((d.data.drop (8 * i)).take 8)
       let good := d.ok = true ∧ d.poison = false ∧ w 0 < 2 ^ 32 ∧ (d.data.drop 24).any (· != 0) = false
       (k.act = none → gives (.paramBlockReturn c) (taken d)) ∧
       (∀ a, k.act = some a → a.phase ≠ .param → gives (.paramBlockReturn c) (taken d)) ∧
       (∀ a, k.act = some a → a.phase = .param → good → gives (.paramBlockReturn c) ((taken d).movRun c (w 0) (w 1) (w 2))) ∧
       (∀ a, k.act = some a → a.phase = .param → ¬ good → gives (.paramBlockReturn c) ((taken d).movFail c 0x6007 false))) ∧
     (∀ a lines off n st rest, k.act = some a → a.hostRd = (off, n, st) :: rest →
       let bad := s.movFail c 0x6006 true
       gives (.hostReadCompletion c lines false) (match st with | some x => bad.ideFail x | none => bad) ∧
       (lines.length * 64 = n → gives (.hostReadCompletion c lines true) (State.movPump c 1024 ((lines.zip (List.range lines.length)).foldl
         (fun t x => t.movGot c (off + 64 * x.2) (lineBytes x.1) false) (s.modAct c fun a => { a with hostRd := rest }))))) ∧
     (∀ a, k.act = some a → a.phase = .finished → k.state = .run →
       let t := s.putRecord c a.d a.done 0 a.status
       let signal := a.d.flag 57 = true ∧ a.status ≠ 2
       let tag := t.freeTag.getD 0
       let past (u : State) : State := (u.modChan c fun k => { k with act := none, done := satInc k.done }).descOver c a.d
       let held (u : State) : Prop := u.req.out.any (fun r => r.tag == tag && r.held) = true
       let told (u : State) : State := if a.d.flag 54 = true then u.hold k.part .host (some a.d.ctx) (.msix k.hostFn) else u
       let sent := t.issueReq (.mover c) (a.d.signalOp k.part) 5 0 true
       (¬ signal → gives (.descriptorFinish c) (past (told t))) ∧
       (signal → sent = none → gives (.descriptorFinish c) s) ∧
       (∀ u, signal → sent = some u →
         (held u → gives (.descriptorFinish c)
           (past (if a.d.flag 54 = true then u.modReq tag fun r => { r with irq := some k.hostFn } else u))) ∧
         (¬ held u → gives (.descriptorFinish c) (past (told u))))) ∧
     (k.state ≠ .unbound →
       let t := (s.loseCtx k.part k.lastCtx 0x6005 (.unit .channel c 0)).irq .mov 0 3
       ((k.state = .draining ∨ k.state = .orphaned) → gives (.recordUndeliverable c) t) ∧
       (¬ (k.state = .draining ∨ k.state = .orphaned) → gives (.recordUndeliverable c) ((t.haltChan c 0x6005).endFailed c true)))) ∧
  (∀ (s : State) (c : Nat), s.alive = true → c < 32 → (s.chan c).state = .draining → (s.chan c).destroying = false →
     let k := s.chan c
     let fetched := (match k.act with | some a => [(a.d, a.done)] | none => []) ++ k.queue.map fun d => (d, 0)
     let ends := abortEnds fetched k.abortTo
     let rest := (fetched.drop ends.length).map (·.1)
     let t0 := s.modChan c fun k => { k with act := none, queue := rest.filter (·.idx.isNone) }
     let t1 := (rest.filter (·.idx.isSome)).foldl (fun (t : State) d => t.dropRefs (.desc c d.seq) false) t0
     let t2 := ends.foldl (fun (t : State) x => (t.putRecord c x.1 x.2 0 3).descOver c x.1) t1
     let stops (k : Chan) (n : Nat) : Chan := { k with state := .stopped, head := n, fetchAt := n, cmdAp := none, abortTo := none }
     let u := t2.modChan c fun k => match k.abortTo with
       | some i => { stops k ((i + 1) % k.slots) with consumed := k.consumed + ((i + 1 + k.slots - k.head) % k.slots) }
       | none => stops k k.head
     exec (.movAbortDrained c) s = .next (match k.cmdAp with | some x => u.cmdEnd .mov x c 0 | none => u).settle)

/-! ### The host side (13) -/

/-- Host traffic. A TLP that fails its IDE check makes its stream Insecure; one to a partition in ERROR, under a stream of another owner, or to a confidential partition from another function or outside a Secure stream of
its own is refused with 0x5001, one to a partition that is removed or in D3cold or from another function without a record, non-posted ones with Unsupported Request; any other passes. A BAR2 access is refused in
the same way, for a stale MMIO context, and, losing its context with 0x5003 and with Completer Abort, for an untranslated or foreign address; any other is issued as an operation of that context, full line or masked, or
waits for a TAG. A front-end queue registers one wait under its context, or waits to, a stale context's being refused, and withdraws it (R226, R292, R344, R346, R347, R352, R354, R356, R359).
The model's own choices and readings in it: logs 3, 29, 66, 95. -/
def Obligations.HostTrafficCompletes : Prop :=  ∀ s : State, s.Ready →
    let gives (c : Instr) (t : State) : Prop := exec c s = .next t.settle
    (∀ x : Tlp,
      let p := x.toPart
      let fn := x.fn * 32 + x.vf
      let foreign := x.fn ≠ 0 ∧ p ≠ 0 ∧ x.fn ≠ p
      let wrong := ∃ k, x.stream = some k ∧ (if k < 16 then (s.stream k).owner ≠ p else p ≠ 0)
      let refused := p ≠ 0 ∧ (s.tdi p = 3 ∨ wrong ∨ (s.confidential p = true ∧ (foreign ∨ s.underSecure p x.stream = false)))
      let shut := p ≠ 0 ∧ (s.hostShut p = true ∨ foreign)
      (x.ideOk = false → gives (.hostTlpReceive x) (match x.stream with | some k => s.ideFail k | none => s)) ∧
      (x.ideOk = true →
        (refused → gives (.hostTlpReceive x) ((s.logged 0x5001 p (.unit .function p 0)).urTo fn x.tag x.posted)) ∧
        (¬ refused → shut → gives (.hostTlpReceive x) (s.urTo fn x.tag x.posted)) ∧
        (¬ refused → ¬ shut → gives (.hostTlpReceive x) s))) ∧
    (∀ x : Bar2, 1 ≤ x.part → x.part ≤ 6 →
      let p := x.part
      let fn := p * 32 + x.vf
      let ctx := s.hst.func.getD fn 0
      let waits := s.hst.bwaits.any (fun y => y.tag == x.tag && y.part == p && y.vf == x.vf) = true
      let refused := s.tdi p = 3 ∨ (s.confidential p = true ∧ (s.tdi p ≠ 2 ∨ s.underSecure p x.stream = false))
      let shut := s.hostShut p = true ∨ s.hst.power.getD (p * 32) 0 ≠ 0
      let stale := s.ctxOk p ctx = false ∨ (s.ctxOf p ctx).fn ≠ x.vf
      let t := s.loseCtx p ctx 0x5003 (.unit .function p x.vf)
      let bad := if x.write then t else t.cpl fn x.tag 1 [] (some ctx)
      (waits → gives (.bar2Access x) s) ∧
      (¬ waits → refused → gives (.bar2Access x) ((s.logged 0x5001 p (.unit .function p x.vf)).urTo fn x.tag x.write)) ∧
      (¬ waits → ¬ refused → shut → gives (.bar2Access x) (s.urTo fn x.tag x.write)) ∧
      (¬ waits → ¬ refused → ¬ shut → stale → gives (.bar2Access x) ((s.stale p).urTo fn x.tag x.write)) ∧
      (¬ waits → ¬ refused → ¬ shut → ¬ stale → x.xlate = none → gives (.bar2Access x) bad) ∧
      (∀ g, ¬ waits → ¬ refused → ¬ shut → ¬ stale → x.xlate = some g →
        let line := g.toNat / 64 * 64
        let node := line / 2 ^ 44
        let mine := if node = s.lse.node then s.memOwner (line % 2 ^ 44) 64 = p else (s.node node).member = true ∧ (s.nodeRec node).parts.getLsbD p = true
        let read : Op := { kind := 0, opcode := 1, len := 4, addr := line, part := p, ctx := some ctx }
        let full : Op := { kind := 0, opcode := 2, len := 4, addr := line, part := p, ctx := some ctx, payload := x.bytes }
        let masked : Op := { kind := 0, opcode := 3, len := 7, addr := line, part := p, ctx := some ctx, payload := leBytes 8 x.mask.toNat ++ x.bytes }
        let issued (op : Op) : Prop :=
          gives (.bar2Access x) ((s.issueReq (.bar2 p) op (bar2Ext x) 0 false).getD { s with hst := { s.hst with bwaits := s.hst.bwaits ++ [x] } })
        (¬ mine → gives (.bar2Access x) bad) ∧
        (mine → x.write = false → issued read) ∧
        (mine → x.write = true → x.bytes.length = 64 → x.mask = BitVec.allOnes 64 → issued full) ∧
        (mine → x.write = true → x.bytes.length = 64 → x.mask ≠ BitVec.allOnes 64 → issued masked))) ∧
    (∀ w : FrontWait, 1 ≤ w.part → w.part ≤ 6 → w.queue < 256 →
      let held := (s.frontReq w.queue).isSome = true ∨ s.hst.fwaits.any (·.queue == w.queue) = true
      let stale := s.ctxOk w.part w.ctx = false ∨ (s.ctxOf w.part w.ctx).fn ≠ w.fn
      let op : Op := { kind := 3, opcode := 3, len := 1, addr := w.node * 2 ^ 44 + w.tally, part := w.part, ctx := some w.ctx, payload := leBytes 8 w.th.toNat }
      (held → gives (.frontEndWait w) s) ∧
      (¬ held → stale → gives (.frontEndWait w) ((s.stale w.part).cpl (w.part * 32 + w.fn) w.queue 2 [] none)) ∧
      (¬ held → ¬ stale → gives (.frontEndWait w)
        ((s.issueReq (.front w.queue) op 0 0 false).getD { s with hst := { s.hst with fwaits := s.hst.fwaits ++ [w] } }))) ∧
    (∀ q, gives (.frontEndWithdraw q) (match s.frontReq q with
      | some r => s.withdrawWait r.tag
      | none => { s with hst := { s.hst with fwaits := s.hst.fwaits.filter (·.queue != q) } }))

/-- Secure sessions. IDE_KM, inside an open session of a DOE instance and on a stream of its function, shows a stream, programs a key of a set, sub-stream and direction that is not in use into a slot of the stream's
partition, puts key sets in and out of use, and is answered with ERROR for a key set in use, a missing key or slot, and outside of that. SPDM answers its requests; KEY_EXCHANGE opens one of at most two sessions with
its four keys, FINISH establishes it, KEY_UPDATE renews its keys, END_SESSION ends it, anything else is answered with ERROR. TDISP, inside an open session, moves a TDI from CONFIG_UNLOCKED to
CONFIG_LOCKED, with a Secure stream, to RUN, and STOP has the effects of an FLR; a request out of its state is answered with TDISP_ERROR, one outside a session dropped. A write of a locked item puts the TDI in ERROR with
0x5008, where there is nothing locked nothing happens (R345, R348 to R352).
The model's own choices and readings in it: logs 38, 41. -/
def Obligations.SecureSessionsComplete : Prop :=  ∀ (s : State) (fn session k : Nat), fn ≤ 6 →
    let x := s.stream k
    let sends (code : Nat) (bytes : List Byte) : State := s.emit (.doe fn code bytes)
    let own := if fn = 0 then k = 16 else k < 16 ∧ x.valid = true ∧ x.owner = fn
    let taken := s.sessOpen fn session = true ∧ own
    (∀ kset sub dir key, s.Ready →
      let id := (kset, sub, dir)
      let gone := (x.keys.filter (·.1 == id)).map (·.2)
      let err := sends 0x7F []
      let on : IdeStream := ({ x with go := id :: x.go.filter fun y => y != (1 - kset, sub, dir) && y != id } : IdeStream).settled
      let off : IdeStream := ({ x with go := x.go.filter (· != id), keys := x.keys.filter (·.1 != id) } : IdeStream).settled
      let takes := ideSub kset sub dir = true ∧ x.go.contains id = false
      (¬ taken →
        exec (.ideKmQuery fn session k) s = .next err ∧ exec (.ideKmKeyProg fn session k kset sub dir key) s = .next err.settle ∧
        exec (.ideKmKSetGo fn session k kset sub dir) s = .next err.settle ∧ exec (.ideKmKSetStop fn session k kset sub dir) s = .next err.settle) ∧
      (taken →
        exec (.ideKmQuery fn session k) s = .next (sends 1 [BitVec.ofNat 8 k, if x.secure then 1 else 0, BitVec.ofNat 8 x.kset]) ∧
        (¬ takes → exec (.ideKmKeyProg fn session k kset sub dir key) s = .next err.settle) ∧
        (takes → s.freeSlot [] = none → exec (.ideKmKeyProg fn session k kset sub dir key) s = .next err.settle) ∧
        (∀ n, takes → s.freeSlot [] = some n → exec (.ideKmKeyProg fn session k kset sub dir key) s =
          .next ((((s.killSlots gone).putKey n 9 (if k = 16 then 0 else fn) 4 3 (BitVec.ofNat 16 kset) (key.setWidth 512)).modStream k fun x =>
            { x with keys := x.keys.filter (·.1 != id) ++ [(id, n)] }).emit (.doe fn 3 [])).settle) ∧
        (x.keys.any (·.1 == id) = false → exec (.ideKmKSetGo fn session k kset sub dir) s = .next err.settle) ∧
        (x.keys.any (·.1 == id) = true → exec (.ideKmKSetGo fn session k kset sub dir) s =
          .next ((s.modStream k fun _ => if x.secure then { on with secure := true } else on).emit (.doe fn 4 [])).settle) ∧
        exec (.ideKmKSetStop fn session k kset sub dir) s =
          .next (((gone.foldl State.retireSlot s).modStream k fun _ => off).emit (.doe fn 5 [])).settle)) ∧
    (s.alive = true → s.quiesced = false →
      let answers (r : SpdmReq) (t : State) : Prop := exec (.spdmMessage fn r) s = .next t.settle
      let err := sends 0x7F []
      let many := 2 ≤ (s.hst.sess.filter (·.doe == fn)).length
      let t := s.sessionKeys fn
      answers .getVersion (sends 0x04 []) ∧ answers .getCapabilities (sends 0x61 []) ∧ answers .negotiateAlgorithms (sends 0x63 []) ∧
      answers .getDigests (sends 0x01 []) ∧ (∀ slot, answers (.getCertificate slot) (if slot = 0 then sends 0x02 [] else err)) ∧
      (∀ n, answers (.challenge n) (sends 0x03 (leBytes 32 n.toNat))) ∧
      (∀ i n, answers (.getMeasurements i n) (if 1 ≤ i ∧ i ≤ 8 then (sends 0x60 (leBytes 32 n.toNat ++ s.measurement fn i)).used else err)) ∧
      answers (.keyExchange false) err ∧
      (many → answers (.keyExchange true) err) ∧
      (¬ many → s.drbgOk = false → answers (.keyExchange true) ((s.logged 0x8005 fn .none).emit (.doe fn 0x7F []))) ∧
      (¬ many → s.drbgOk = true → t.2.length < 4 → answers (.keyExchange true) err) ∧
      (¬ many → s.drbgOk = true → 4 ≤ t.2.length →
        let opened : HstSt := { t.1.hst with
          sess := t.1.hst.sess ++ [({ doe := fn, id := s.hst.nextSess, slots := t.2 } : Session)], nextSess := t.1.hst.nextSess + 1 }
        answers (.keyExchange true) ({ t.1 with hst := opened }.emit (.doe fn 0x64 (leBytes 4 s.hst.nextSess)))) ∧
      (∀ id ok, s.session fn id = none →
        answers (.finish id ok) err ∧ answers (.heartbeat id) err ∧ answers (.keyUpdate id) err ∧ answers (.endSession id) err) ∧
      (∀ id y, s.session fn id = some y →
        answers (.finish id false) ((s.endSession y).emit (.doe fn 0x7F [])) ∧
        answers (.finish id true) ({ s with hst := { s.hst with
          sess := s.hst.sess.map fun z => if z = y then { z with open_ := true } else z } }.emit (.doe fn 0x65 [])) ∧
        answers (.heartbeat id) (if y.open_ then sends 0x68 [] else err) ∧
        answers (.keyUpdate id) (if y.open_ then (s.renewKeys y.slots).emit (.doe fn 0x69 []) else err) ∧
        answers (.endSession id) ((s.endSession y).emit (.doe fn 0x6C []))) ∧
      (∀ code, answers (.other code) err)) ∧
    (s.Ready → 1 ≤ fn →
      let tdi := s.tdi fn
      let err := sends 0x87F []
      let lock := tdi = 0 ∧ (s.secureStream fn).isSome = true
      let report := [BitVec.ofNat 8 fn, BitVec.ofNat 8 (s.shapeOf fn).vfs] ++ leBytes 8 0 ++ leBytes 8 (2 ^ 36) ++
        (64 :: List.replicate (s.shapeOf fn).vfs 8) ++ s.measurement fn 5
      (s.sessOpen fn session = true →
        exec (.getTdispVersion fn session) s = .next (sends 0x801 [0x10]) ∧ exec (.getTdispCapabilities fn session) s = .next (sends 0x802 []) ∧
        exec (.getDeviceInterfaceState fn session) s = .next (sends 0x805 [BitVec.ofNat 8 tdi]) ∧
        exec (.stopInterfaceRequest fn session) s = .next (((s.flrPart fn).setTdi fn 0 0).emit (.doe fn 0x807 [])).settle ∧
        (lock → exec (.lockInterfaceRequest fn session) s = .next ((s.setTdi fn 1 0).emit (.doe fn 0x803 [])).settle) ∧
        (¬ lock → exec (.lockInterfaceRequest fn session) s = .next err.settle) ∧
        (tdi = 1 → exec (.startInterfaceRequest fn session) s = .next ((s.setTdi fn 2 0).emit (.doe fn 0x806 [])).settle) ∧
        (tdi ≠ 1 → exec (.startInterfaceRequest fn session) s = .next err.settle) ∧
        (tdi = 1 ∨ tdi = 2 → exec (.getDeviceInterfaceReport fn session) s = .next (sends 0x804 report)) ∧
        (¬ (tdi = 1 ∨ tdi = 2) → exec (.getDeviceInterfaceReport fn session) s = .next err)) ∧
      (s.sessOpen fn session = false →
        (∀ c : Instr, c ∈ [.getTdispVersion fn session, .getTdispCapabilities fn session, .getDeviceInterfaceState fn session,
          .getDeviceInterfaceReport fn session] → exec c s = .next s) ∧
        (∀ c : Instr, c ∈ [.stopInterfaceRequest fn session, .lockInterfaceRequest fn session, .startInterfaceRequest fn session] →
          exec c s = .next s.settle)) ∧
      (tdi = 1 ∨ tdi = 2 → exec (.configWriteLocked fn) s = .next ((s.tdiError fn 0x5008).toPart 0x5008 fn (.unit .function fn 0)).settle) ∧
      (¬ (tdi = 1 ∨ tdi = 2) → exec (.configWriteLocked fn) s = .next s.settle))

/-- Contexts, from a partition's instance. OPEN binds the lowest free entry to a function of the partition, CODE 0x2 for another function and 0x4 when none is free. RETIRE of an active or lost one discards its work and
stays BUSY, else CODE 0x3; when no channel still drains for it the entry is free with the next generation, the command is complete, and 0x500B is recorded if work was discarded. A read of CTX_LOSS_LO shows and removes the head
of the loss queue, 0 where there is none and at another instance. A busy instance gives CODE 0x1 alone; from the operator, the Lamp, the debug port and VFs, where CTX_CMD is reserved, nothing happens (R80, R353, R355, R357,
R370).
The model's own choices and readings in it: log 3. -/
def Obligations.ContextsComplete : Prop :=  ∀ (s : State) (p : Nat),
    let gives (c : Instr) (t : State) : Prop := exec c s = .next t.settle
    let free := firstFrom (fun i => (s.ctxAt p i).state == .free) 4096 0
    (s.Takes .ctx (.part p) →
      (∀ fn, (s.shapeOf p).vfs < fn → gives (.ctxOpen (.part p) fn) (s.cmdEnd .ctx p 0 2)) ∧
      (∀ fn, fn ≤ (s.shapeOf p).vfs → free = none → gives (.ctxOpen (.part p) fn) (s.cmdEnd .ctx p 0 4)) ∧
      (∀ fn i, fn ≤ (s.shapeOf p).vfs → free = some i →
        let e : CtxEntry := { state := .active, gen := (s.ctxAt p i).gen, fn, first := 0 }
        gives (.ctxOpen (.part p) fn) ((s.putCtx p i e).cmdEnd .ctx p (ctxTag (s.ctxAt p i).gen i).toNat 0)) ∧
      (∀ tag : BitVec 16,
        let i := tag.toNat % 4096
        let w := (s.putCtx p i { s.ctxOf p tag with state := .retiring }).retireWork p tag
        let may := s.ctxIs .active p tag = true ∨ s.ctxIs .lost p tag = true
        (may → gives (.ctxRetire (.part p) tag)
          ({ w.1 with ctx := { w.1.ctx with retired := w.1.ctx.retired ++ [(p, i, w.2)] } }.cmdBusy .ctx p tag.toNat)) ∧
        (¬ may → gives (.ctxRetire (.part p) tag) (s.cmdEnd .ctx p tag.toNat 3)))) ∧
    (∀ (ap : Aperture) (fn : Nat) (tag : BitVec 16) (c : Instr), c ∈ [.ctxOpen ap fn, .ctxRetire ap tag] → s.Reaches ap .ctx 0 →
      (ap = .part p → (s.inst .ctx p).busy = true → gives c (s.modInst .ctx p fun i => { i with code := 1 })) ∧
      ((∀ q, ap ≠ .part q) → gives c s)) ∧
    (∀ i r, s.alive = true → 1 ≤ p → p ≤ 6 → i < 4096 → s.ctx.retired.find? (fun r => r.1 == p && r.2.1 == i) = some r →
      (s.ctxAt p i).state = .retiring →
      let e := s.ctxAt p i
      let tag := ctxTag e.gen i
      let t := { s with ctx := { s.ctx with retired := s.ctx.retired.erase r } }.putCtx p i { state := .free, gen := e.gen + 1 }
      (∀ c < 32, (s.chan c).state = .draining → (s.chan c).part = p → (s.chan c).ctx ≠ tag ∧ ∀ a, (s.chan c).act = some a → a.d.ctx ≠ tag) →
      gives (.ctxRetireComplete p i) ((if r.2.2 then t.raise 0x500B 0 p (some tag) .none else t).cmdEnd .ctx p tag.toNat 0)) ∧
    (∀ ap : Aperture, s.Reaches ap .ctx 0x24 →
      (∀ c f rest, ap = .part p → s.ctx.loss.getD p [] = (c, f) :: rest → exec (.ctxLossLoRead ap) s =
        .next ({ s with ctx := { s.ctx with loss := s.ctx.loss.put p rest } }.emit (.regRead ap 0x40024 (f.setWidth 32)))) ∧
      (ap = .part p → s.ctx.loss.getD p [] = [] → exec (.ctxLossLoRead ap) s = .next (s.emit (.regRead ap 0x40024 0))) ∧
      ((∀ q, ap ≠ .part q) → exec (.ctxLossLoRead ap) s = .next (s.emit (.regRead ap 0xC20024 0))))

/-- Resets and power of host functions. An FLR of PF0, PFn or a VF has the effects of Table 13.5 for that function, and FLR_DONE reports it when it is over. A surprise link-down loses streams, sessions and host transfers, and
is counted and told at every instance; the link comes up again unless its cluster is offline. PF0 and a PFn go to D3hot and back, a VF to each of its states; D3cold of a PFn removes its tenant's keys, channels, contexts
and share contents, and D0 follows. REMOVE from the operator or the Lamp begins a removal: CODE 0x4 for a partition that is not defined, 0x3 for one in removal; from a partition or the debug port CODE 0x2, busy CODE 0x1
alone, from a VF nothing. It ends with the keys dead, the engines clear, the shares zero and its command complete (R80, R146, R359 to R361, R363 to R365, R370).
The model's own choices and readings in it: logs 3, 42, 43, 65. -/
def Obligations.HostResetsComplete : Prop :=  ∀ (s : State) (p : Nat), 1 ≤ p → p ≤ 6 →
    let gives (c : Instr) (t : State) : Prop := exec c s = .next t.settle
    let power (fn d : Nat) : State := { s with hst := { s.hst with power := s.hst.power.put fn d } }
    let at_ (fn : Nat) : Nat := s.hst.power.getD (fn * 32) 0
    let awake (fn : Nat) : State := { s with hst := { s.hst with power := s.hst.power.erase (fn * 32), pme := s.hst.pme.erase fn } }
    let flrs (fn : FlrFn) : State := { s with hst := { s.hst with flr := s.hst.flr ++ [fn] } }
    (s.alive = true →
      gives (.flr .pf0) (let t := (flrs .pf0).insecure 16 true; { t with glb := { t.glb with irqEn := 0, buf := [], dwPend := [] }, mbx := t.mbx.erase 0 }) ∧
      gives (.flr (.pf p)) ((flrs (.pf p)).flrPart p) ∧
      (∀ v, 1 ≤ v → v ≤ 16 → gives (.flr (.vf p v)) ((flrs (.vf p v)).flrVf p v)) ∧
      (∀ fn, isFlr fn = true → s.hst.flr.contains fn = true →
        exec (.flrDone fn) s = .next ({ s with hst := { s.hst with flr := s.hst.flr.erase fn } }.emit (.flrDone (FlrFn_num fn)))) ∧
      gives .surpriseLinkDown (([0, 7, 8] ++ allParts.filter s.defined).foldl (fun (t : State) a => t.irq .hst a 4)
        { s.linkDown with hst := { s.linkDown.hst with downs := satInc s.linkDown.hst.downs } }) ∧
      gives .hostLinkUp (if (s.clus.getD 112 {}).offline then s else { s with hst := { s.hst with up := true } }) ∧
      (∀ fn, fn ≤ 6 → gives (.pfD3hot fn) (if at_ fn = 0 then power (fn * 32) 1 else s)) ∧
      (∀ fn, fn ≤ 6 → gives (.pfD0 fn) (if at_ fn = 1 then awake fn else s)) ∧
      (at_ p ≠ 2 →
        let t := ((power (p * 32) 2).removeBegin p).clearEngines p
        gives (.pfD3cold p) ((((List.range 12).filter fun k => t.stackOwner k == p).foldl State.beginZero t).dropDomainKeys fun k => k.1 == p)) ∧
      (at_ p = 2 → gives (.pfD3cold p) s) ∧
      gives (.d0FromD3cold p) (if at_ p = 2 then awake p else s) ∧
      (∀ v d, 1 ≤ v → v ≤ 16 → v ≤ (s.shapeOf p).vfs → d ≤ 2 →
        let put := if d = 0 then s.hst.power.erase (p * 32 + v) else s.hst.power.put (p * 32 + v) d
        gives (.vfPowerState p v d) { s with hst := { s.hst with power := put } }) ∧
      (∀ a x, s.hst.removing.find? (·.1 == p) = some (p, a, x) →
        let t := ((s.reach (x + 16000)).killKeys p).clearEngines p
        let u := ((List.range 12).filter fun k => t.stackOwner k == p).foldl State.zeroShare t
        gives (.removeComplete p) (({ u with hst := { u.hst with removing := u.hst.removing.filter (·.1 != p) } }.irqVis .hst p 2).cmdEnd .hst a 0 0))) ∧
    (∀ ap : Aperture,
      let a := apIdx ap
      let t := s.removeBegin p
      let removing := s.hst.removing.any (·.1 == p) = true
      (s.Takes .hst ap → (ap = .operator ∨ ap = .lamp) →
        (s.defined p = false → gives (.hstRemove ap p) (s.cmdEnd .hst a 0 4)) ∧
        (s.defined p = true → removing → gives (.hstRemove ap p) (s.cmdEnd .hst a 0 3)) ∧
        (s.defined p = true → ¬ removing →
          gives (.hstRemove ap p) ({ t with hst := { t.hst with removing := t.hst.removing ++ [(p, a, t.clk.shift)] } }.cmdBusy .hst a 0))) ∧
      (s.Reaches ap .hst 0 → (s.inst .hst a).busy = false → (ap = .debug ∨ ∃ q, ap = .part q) → gives (.hstRemove ap p) (s.cmdEnd .hst a 0 2)) ∧
      (s.Reaches ap .hst 0 → (∀ q v, ap ≠ .vf q v) → (s.inst .hst a).busy = true →
        gives (.hstRemove ap p) (s.modInst .hst a fun i => { i with code := 1 })) ∧
      (∀ q v, s.Reaches ap .hst 0 → ap = .vf q v → gives (.hstRemove ap p) s))

/-- Dirty logging and migration keys, from a partition's instance of HST_CMD. DIRTY_ENABLE clears the logs of the masked functions, which log when it is done, CODE 0x4 for a function that may not log; DIRTY_DISABLE stops them.
MIG_OFFER writes one OFFER, which expires; MIG_ACCEPT and MIG_FINISH read a blob, and install the migration key of one that passes its checks, MIG_ACCEPT writing its ACCEPT. They are refused with CODE 0x3 when an OFFER is
pending or, for MIG_FINISH, none is, 0x4 for a misaligned address, 0x7 without entropy, 0x8 when the host cannot be reached or read, and with the CODE of the check that fails, logged with 0x5009. From the operator, the
Lamp and the debug port the commands end with CODE 0x2, busy with CODE 0x1 alone, from a VF nothing happens (R80, R366, R368, R370).
The model's own choices and readings in it: logs 3, 44, 64, 96. -/
def Obligations.MigrationCompletes : Prop :=  ∀ (s : State) (p : Nat),
    let gives (c : Instr) (t : State) : Prop := exec c s = .next t.settle
    (s.Takes .hst (.part p) →
      let mask : BitVec 17 := (s.arg .hst p 0x18).extractLsb' 0 17
      let may := mask &&& ~~~((s.shapeOf p).loggable.setWidth 17) = 0
      let ends (t : State) (code : Nat) : State := t.cmdEnd .hst p 0 code
      let refused (t : State) (code : Nat) : State := (t.logged 0x5009 p (.unit .function p 0)).cmdEnd .hst p 0 code
      let keyless : State := if s.drbgOk then s else s.toPart 0x8005 p .none
      let read := s.readBlob p
      (¬ may → gives (.hstDirtyEnable (.part p)) (ends s 4)) ∧
      (may → gives (.hstDirtyEnable (.part p)) ({ s with
        ins := { s.ins with dirty := s.ins.dirty.filter fun k => !(s.stackOwner (k / 2 ^ 29) == p && mask.getLsbD (k / 2 ^ 24 % 32)) }
        hst := { s.hst with dirtyPend := s.hst.dirtyPend.put p mask } }.cmdBusy .hst p 0)) ∧
      gives (.hstDirtyDisable (.part p)) (ends { s with ins := { s.ins with dirtyEn := s.ins.dirtyEn.modD p 0 (· &&& ~~~mask) } } 0) ∧
      (∀ ok, s.offerCheck p ≠ 0 → gives (.hstMigOffer (.part p) ok) (ends (if s.offerCheck p = 7 then keyless else s) (s.offerCheck p))) ∧
      (∀ ok, s.offerCheck p = 0 → (ok = false ∨ s.hostReach p = false) → gives (.hstMigOffer (.part p) ok) (ends s 8)) ∧
      (s.offerCheck p = 0 → s.hostReach p = true →
        let head := s.used.blobHead 2 p (s.rand.setWidth 256)
        let t := s.used.used.used.writeBlob p head
        let o : Offer := { nonce := s.rand.setWidth 256, head := head, at_ := s.clk.cyc }
        gives (.hstMigOffer (.part p) true) (ends { t with hst := { t.hst with offers := t.hst.offers.put p o } } 0)) ∧
      (∀ b, s.acceptCheck p ≠ 0 → gives (.hstMigAccept (.part p) b) (ends (if s.acceptCheck p = 7 then keyless else s) (s.acceptCheck p))) ∧
      (∀ b, s.acceptCheck p = 0 → s.hostReach p = false → gives (.hstMigAccept (.part p) b) (ends s 8)) ∧
      (s.acceptCheck p = 0 → s.hostReach p = true →
        gives (.hstMigAccept (.part p) none) (ends read 8) ∧
        (∀ b, read.blobCheck p 2 b ≠ 0 → gives (.hstMigAccept (.part p) (some b)) (refused read (read.blobCheck p 2 b))) ∧
        (∀ b, read.blobCheck p 2 b = 0 →
          let head := read.blobHead 3 p (blobNonce b)
          let k := read.used.used.installMig p (b.ssKem ++ b.ssEcdh) b.head head
          (k = none → gives (.hstMigAccept (.part p) (some b)) (refused read 7)) ∧
          (∀ t n, k = some (t, n) → gives (.hstMigAccept (.part p) (some b)) ((t.writeBlob p head).cmdEnd .hst p n 0)))) ∧
      (∀ b, s.hst.offers.find p = none → gives (.hstMigFinish (.part p) b) (ends s 3)) ∧
      (∀ o, s.hst.offers.find p = some o →
        (∀ b, s.blobAddrOk p = false → gives (.hstMigFinish (.part p) b) (ends s 4)) ∧
        (∀ b, s.blobAddrOk p = true → s.hostReach p = false → gives (.hstMigFinish (.part p) b) (ends s 8)) ∧
        (s.blobAddrOk p = true → s.hostReach p = true →
          gives (.hstMigFinish (.part p) none) (ends read 8) ∧
          (∀ b, read.blobCheck p 3 b ≠ 0 → gives (.hstMigFinish (.part p) (some b)) (refused read (read.blobCheck p 3 b))) ∧
          (∀ b, read.blobCheck p 3 b = 0 → blobNonce b ≠ o.nonce → gives (.hstMigFinish (.part p) (some b)) (refused read 5)) ∧
          (∀ b, read.blobCheck p 3 b = 0 → blobNonce b = o.nonce →
            let k := read.installMig p (b.ssKem ++ b.ssEcdh) o.head b.head
            (k = none → gives (.hstMigFinish (.part p) (some b)) (refused read 7)) ∧
            (∀ t n, k = some (t, n) → gives (.hstMigFinish (.part p) (some b))
              ({ t with hst := { t.hst with offers := t.hst.offers.erase p } }.cmdEnd .hst p n 0)))))) ∧
    (∀ (ap : Aperture) (ok : Bool) (b : Option MigBlob) (c : Instr),
      c ∈ [.hstDirtyEnable ap, .hstDirtyDisable ap, .hstMigOffer ap ok, .hstMigAccept ap b, .hstMigFinish ap b] → s.Reaches ap .hst 0 →
      let a := apIdx ap
      ((ap = .operator ∨ ap = .lamp ∨ ap = .debug) → (s.inst .hst a).busy = false → gives c (s.cmdEnd .hst a 0 2)) ∧
      ((∀ q v, ap ≠ .vf q v) → (s.inst .hst a).busy = true → gives c (s.modInst .hst a fun i => { i with code := 1 })) ∧
      (∀ q v, ap = .vf q v → gives c s)) ∧
    (s.alive = true → 1 ≤ p → p ≤ 6 →
      (∀ m, s.hst.dirtyPend.find p = some m → gives (.dirtyEnableDone p) ({ s with
        ins := { s.ins with dirtyEn := s.ins.dirtyEn.modD p 0 (· ||| m) }
        hst := { s.hst with dirtyPend := s.hst.dirtyPend.erase p } }.cmdEnd .hst p 0 0)) ∧
      gives (.migOfferExpire p) { s with hst := { s.hst with offers := s.hst.offers.erase p } })

/-! ### Keys, entropy, check and public-key engines, life-cycle (14) -/

/-- The vault. RETIRE and ZEROISE from the Lamp act on slots that hold a key: an active one becomes RETIRING, an active or RETIRING one DEAD with its key zero, CODE 0x3 in another state and 0x4 for the package slots; to
the operator both are refused with CODE 0x2. ORIGIN from either writes the statement of a slot that holds a key to host memory; CODE 0x3 for a slot that holds none, 0x4 for a package slot, 0x5 with 0x800D when the host is not
reached. The debug port gets CODE 0x2, a busy instance CODE 0x1 alone, partitions and VFs, which have no such register, nothing. A RETIRING slot under whose key nothing is in flight dies, a flow's after its 16 µs, one in use
stays; a DEAD slot becomes empty, and an UNSEAL that waited for it goes on (R80, R84, R202, R376, R379, R382, R401).
The vault's engines. A generate request and a reseed of a healthy DRBG use one output of it; requests wait for the start-up test, which lets them proceed, and are refused with 0x8005 once the source has failed. A
health-test failure restarts the source, the third within 1 s fails it. A job joins its priority unless the engine has failed; at a permutation that agrees the job counts down or is released, at a mismatch it
restarts, and a second one within it or a third within 1 s fails the engine; the most urgent job runs next. A public-key unit takes operations by priority and completes them; a signature window ends with its release or
with a new window, a failed verification with 0x8008 (R384 to R387, R389, R390).
The model's own choices and readings in it: logs 3, 9, 27, 96. -/
def Obligations.VaultCompletes : Prop :=
  ((∀ (s : State) (ap : Aperture) (n : Nat), n < 4096 →
     let a := apIdx ap
     let st := (s.slot n).state
     let gives (c : Instr) (t : State) : Prop := exec c s = .next t.settle
     let ends (c : Instr) (code : Nat) : Prop := gives c (s.cmdEnd .vlt a n code)
     let dead : State := { s.setSlot n { s.slot n with state := .dead, key := 0 } with clus := s.clus.map fun ((c, k) : Nat × Cluster) => (c, k.forget n) }
     (s.Takes .vlt ap → ap = .lamp →
       (n < 4 → ends (.vltRetire ap n) 4 ∧ ends (.vltZeroise ap n) 4) ∧
       (4 ≤ n → st = .active → gives (.vltRetire ap n)
         ((s.setSlot n { s.slot n with state := .retiring, since := s.clk.shift }).cmdEnd .vlt a n 0)) ∧
       (4 ≤ n → st ≠ .active → ends (.vltRetire ap n) 3) ∧
       (4 ≤ n → (st = .active ∨ st = .retiring) → gives (.vltZeroise ap n) (dead.cmdEnd .vlt a n 0)) ∧
       (4 ≤ n → ¬ (st = .active ∨ st = .retiring) → ends (.vltZeroise ap n) 3)) ∧
     (s.Takes .vlt ap → ap = .operator → ends (.vltRetire ap n) 2 ∧ ends (.vltZeroise ap n) 2) ∧
     (s.Takes .vlt ap → (ap = .operator ∨ ap = .lamp) → ∀ ok,
       ((st = .empty ∨ st = .dead) → ends (.vltOrigin ap n ok) 3) ∧
       (¬ (st = .empty ∨ st = .dead) → n < 4 → ends (.vltOrigin ap n ok) 4) ∧
       (¬ (st = .empty ∨ st = .dead) → 4 ≤ n → (ok = false ∨ s.hst.up = false) →
         gives (.vltOrigin ap n ok) ((s.logged 0x800D 0 (.unit .slot n 0)).cmdEnd .vlt a n 5)) ∧
       (¬ (st = .empty ∨ st = .dead) → 4 ≤ n → ok = true → s.hst.up = true →
         gives (.vltOrigin ap n ok) ((s.toHost 0 0 none (s.originStatement a n) fun k b =>
           .hostWrite 0 k (s.arg .vlt a 0x14 ++ s.arg .vlt a 0x10) b).used.cmdEnd .vlt a n 0))) ∧
     (∀ (ok : Bool) (c : Instr), c ∈ [.vltRetire ap n, .vltZeroise ap n, .vltOrigin ap n ok] → s.Reaches ap .vlt 0 →
       (ap = .debug → (s.inst .vlt a).busy = false → ends c 2) ∧
       ((ap = .operator ∨ ap = .lamp ∨ ap = .debug) → (s.inst .vlt a).busy = true → gives c (s.modInst .vlt a fun i => { i with code := 1 })) ∧
       (((∃ p, ap = .part p) ∨ ∃ p v, ap = .vf p v) → gives c s))) ∧
   (∀ (s : State) (n : Nat), s.alive = true → n < 4096 →
     let k := s.slot n
     let t := if k.usage = 0xD then s.reach (k.since + 16000) else s
     (k.state = .retiring → s.slotBusy n = false →
       exec (.slotDead n) s = .next { t.setSlot n { k with state := .dead, key := 0 } with clus := t.clus.map fun ((c, k) : Nat × Cluster) => (c, k.forget n) }.settle) ∧
     (k.state = .retiring → s.slotBusy n = true → exec (.slotDead n) s = .next s.settle) ∧
     (k.state = .dead →
       let t := { s with slots := s.slots.erase n }
       let waits := s.seams.find? fun x => x.2.busy && (x.2.nextPad == n || x.2.nextHash == n)
       (waits = none → exec (.slotEmpty n) s = .next t.settle) ∧
       (∀ m e, waits = some (m, e) → exec (.slotEmpty n) s = .next (t.unsealGo m).settle)))) ∧
  (∀ s : State, s.alive = true →
     let vlt (v : VltSt) : State := { s with vlt := v }
     let gives (c : Instr) (t : State) : Prop := exec c s = .next t.settle
     (∀ n, 1 ≤ n → n ≤ 512 →
       (s.vlt.entropy = 1 → gives (.drbgGenerate n) { s with fresh := s.fresh + 1, vlt := { s.vlt with reqs := s.vlt.reqs + 1 } }) ∧
       (s.vlt.entropy ≠ 1 → s.vlt.entropy ≠ 3 → gives (.drbgGenerate n) (vlt { s.vlt with waiting := s.vlt.waiting + 1 })) ∧
       (s.vlt.entropy = 3 → gives (.drbgGenerate n) (s.logged 0x8005 0 .none))) ∧
     (s.vlt.entropy = 1 → gives .drbgReseed { s with fresh := s.fresh + 1, vlt := { s.vlt with reqs := 0 } }) ∧
     (s.vlt.entropy ≠ 3 →
       let fails := (s.clk.cyc :: s.vlt.fails).take 3
       let t := ((vlt { s.vlt with fails := fails, restarts := satInc s.vlt.restarts, entropy := 2 }).logged 0x8003 0 .none).irqVis .vlt 0 2
       gives .entropyHealthFail (if 3 ≤ recent s.clk.cyc 1600000000 fails
         then ({ t with vlt := { t.vlt with entropy := 3, waiting := 0 } }).alarm 0x8004 .none else t)) ∧
     ((s.vlt.entropy = 0 ∨ s.vlt.entropy = 2) →
       gives .entropyStartupPass { s with
         fresh := s.fresh + s.vlt.waiting
         vlt := { s.vlt with entropy := 1, reqs := s.vlt.reqs + s.vlt.waiting, waiting := 0 } }) ∧
     (∀ prio perms, prio < 4 → 0 < perms →
       let job : ChkJob := { left := perms, total := perms }
       (s.vlt.chkFailed = true → gives (.checkJobSubmit prio perms) s) ∧
       (s.vlt.chkFailed = false → gives (.checkJobSubmit prio perms) (vlt { s.vlt with
         jobs := s.vlt.jobs.put prio (s.jobsAt prio ++ [job]), running := some (s.vlt.running.getD prio) }))) ∧
     (∀ p j rest, s.vlt.running = some p → s.jobsAt p = j :: rest →
       let put (l : List ChkJob) (t : State) : State :=
         let jobs := if l.isEmpty then t.vlt.jobs.erase p else t.vlt.jobs.put p l
         let u : State := { t with vlt := { t.vlt with jobs } }
         { u with vlt := { u.vlt with running := u.nextJob } }
       let hist := (s.clk.cyc :: s.vlt.chkHist).take 3
       let t := ((vlt { s.vlt with mismatch := satInc s.vlt.mismatch, chkHist := hist }).logged 0x8006 0 .none).irqVis .vlt 0 1
       let fails := 1 ≤ j.bad ∨ 3 ≤ recent s.clk.cyc 1600000000 hist
       (j.left ≤ 1 → gives (.checkPermutation true) (put rest (vlt { s.vlt with chkJobs := satInc s.vlt.chkJobs }))) ∧
       (1 < j.left → gives (.checkPermutation true) (put ({ j with left := j.left - 1 } :: rest) s)) ∧
       (fails → gives (.checkPermutation false)
         (({ t with vlt := { t.vlt with chkFailed := true, jobs := [], running := none } }.raise 0x8007 6 0 none .none).chipStep 0x8007)) ∧
       (¬ fails → gives (.checkPermutation false) (put ({ j with left := j.total, bad := j.bad + 1 } :: rest) t))) ∧
     (∀ u prio, prio < 4 →
       let x := s.pkUnit u
       gives (.pkeRequest u prio) (s.setPk u (if x.busy then { x with queue := x.queue ++ [prio] } else { x with busy := true, prio := prio }))) ∧
     (∀ u, (s.pkUnit u).busy = true →
       let t := s.setPk u (s.pkUnit u).next
       gives (.pkeComplete u) { t with vlt := { t.vlt with pkeOps := satInc t.vlt.pkeOps } }) ∧
     ((s.pkUnit .dsa).busy = true →
       let t := s.setPk .dsa (s.pkUnit .dsa).next
       let again : State := { s with fresh := s.fresh + 1, vlt := { s.vlt with pkeRestart := satInc s.vlt.pkeRestart } }
       (∀ f, gives (.signWindowEnd true f) { t with vlt := { t.vlt with pkeOps := satInc t.vlt.pkeOps } }) ∧
       gives (.signWindowEnd false false) again ∧ gives (.signWindowEnd false true) ((again.logged 0x8008 0 .none).irqVis .vlt 0 1)))

/-- Life-cycle, tamper and checked state. A state-encoding error and a tamper event, watched in every state and counted once, zeroise every slot and ask for the power cycle; an uncorrectable word of the Lamp's memory takes
the chip step, one of its retained part with the soft repair map lost. From the operator or the Lamp, the strap not set: a transition request is read from the host and checked, an accepted one starts the programming of its
record, which ends with NEXT showing the new state; a misaligned address, a host that cannot be read and a failed check are logged with 0x800E and their CODE. SCRAP for this unit and count sets SCRAP, zeroises every slot
and asks for the power cycle, else CODE 0x5. With the strap both end with CODE 0x2, while the instance is busy with CODE 0x1 alone; partitions and VFs, which have no such register, get nothing (R80, R391, R393, R394,
R397 to R399, R401, R454).
The model's own choices and readings in it: logs 3, 28, 38, 96, 97. -/
def Obligations.LifeCycleCompletes : Prop :=  ∀ s : State,
    let gives (c : Instr) (t : State) : Prop := exec c s = .next t.settle
    (s.alive = true →
      (let t := (s.raise 0x8009 7 0 none .none).killAll;
        gives .stateEncodingError { t with pins := { t.pins with trayReq := true } }) ∧
      gives (.lampSramUncorr false) ((s.raise 0x800F 6 0 none .none).chipStep 0x800F) ∧
      (let t : State := { s with ins := { s.ins with
          slices := s.ins.slices.map fun x => (x.1, { x.2 with spares := x.2.spares + x.2.soft, soft := 0 }) } };
        gives (.lampSramUncorr true) ((t.raise 0x800F 6 0 none .none).chipStep 0x800F)) ∧
      (∀ r a, s.fuse.prog = some (r, a) → gives .transitionProgrammed ({ s with
        fuse := { (s.fuse.blow r) with prog := none, progDone := true, next := r.state } }.cmdEnd .lcs a 0 0))) ∧
    (s.pins.tamper = true → gives .tamperEvent s) ∧
    (s.pins.tamper = false →
      let k := s.killAll
      let t : State := { k with
        vlt := { k.vlt with entropy := 3, waiting := 0 }, fuse := { k.fuse with tamper := true }, pins := { k.pins with tamper := true } }
      gives .tamperEvent (t.raise 0x800A 7 0 none .none).powerCycle) ∧
    (∀ (ap : Aperture) (req : Option Transition), (ap = .operator ∨ ap = .lamp) →
      let a := apIdx ap
      let addr : Dword := s.arg .lcs a 0x14 ++ s.arg .lcs a 0x10
      let refused (t : State) (code : Nat) : State := (t.logged 0x800E 0 .none).cmdEnd .lcs a 0 code
      let read := s.toHost 0 1 none [] fun k _ => .blobRead 0 k addr
      let mine := addr = s.fuse.unitId ∧ ((s.arg .lcs a 0x18).extractLsb' 0 6).toNat = s.fuse.counter
      let both (t : State) : Prop := gives (.lcsTransition ap req) t ∧ gives (.lcsScrap ap) t
      (s.Takes .lcs ap → s.pins.strap.getLsbD 1 = true → both (s.cmdEnd .lcs a 0 2)) ∧
      (s.Reaches ap .lcs 4 → (s.inst .lcs a).busy = true → both (s.modInst .lcs a fun i => { i with code := 1 })) ∧
      (s.Takes .lcs ap → s.pins.strap.getLsbD 1 = false →
        (addr.toNat % 64 ≠ 0 → gives (.lcsTransition ap req) (refused s 4)) ∧
        (addr.toNat % 64 = 0 → s.hst.up = false → gives (.lcsTransition ap req) (refused s 8)) ∧
        (addr.toNat % 64 = 0 → s.hst.up = true →
          (req = none → gives (.lcsTransition ap req) (refused read 8)) ∧
          (∀ x, req = some x → read.transitionCheck x ≠ 0 → gives (.lcsTransition ap req) (refused read (read.transitionCheck x))) ∧
          (∀ x, req = some x → read.transitionCheck x = 0 →
            let r : LcRecord := { used := true, valid := true, state := reqTo x, counter := reqCounter x + 1, auth := reqAuth x }
            gives (.lcsTransition ap req)
              ({ read with fuse := { read.fuse with prog := some (r, a), counter := read.fuse.counter + 1 } }.cmdBusy .lcs a 0))) ∧
        (mine → gives (.lcsScrap ap) (({ s with fuse := { s.fuse with scrap := true, next := 5 } } : State).killAll.powerCycle.cmdEnd .lcs a 0 0)) ∧
        (¬ mine → gives (.lcsScrap ap) (s.cmdEnd .lcs a 0 5)))) ∧
    (∀ (ap : Aperture) (req : Option Transition), s.Reaches ap .lcs 4 → ((∃ p, ap = .part p) ∨ ∃ p v, ap = .vf p v) →
      gives (.lcsTransition ap req) s ∧ gives (.lcsScrap ap) s)

/-! ### Start, Lease, orders, moves, warm start (15, 18) -/

/-- Power-on reset and the cold start. POR_ASSERT resets the block but for its fuses and the levels at its pins. POR_RELEASE runs the steps until the Lease is read and admitted; the fuses, self-tests, known answers and the
entropy test can each stop it, a scrapped unit halts, and after a tamper event nothing runs. With the hub's memory trained step 11 goes on to step 13, and the start to RUN when sites and domain are settled; the hub's
timeout stops step 11 with 0x9033, the domain's ends step 13. RELOAD from the operator or the Lamp, in a HELD that a cold start entered, runs steps 8 and 9 again, in one that a warm start entered it needs the Lease
in force and goes on with that start; CODE 0x5 when it is refused again, 0x2 outside HELD (R374, R398, R402, R407, R410, R419 to R421, R423, R425, R457).
The model's own choices and readings in it: logs 3, 17, 18, 21, 49, 50, 51. -/
def Obligations.ColdStartCompletes : Prop :=  ∀ s : State,
    let gives (c : Instr) (t : State) : Prop := exec c s = .next t.settle
    (exec .porAssert s = .next { State.reset with
      pending := s.pending
      out := s.out
      fresh := s.fresh
      fuse := { s.fuse.interrupted with lifecycle := 0, next := 0, progDone := false, tamper := false, unsigned := false }
      pins := { State.reset.pins with trayReq := s.pins.trayReq, qpwrOk := s.pins.qpwrOk, memTrained := s.pins.memTrained } }) ∧
    (∀ i : StartInputs,
      let a : State := { s with
        pins := { s.pins with por := false, trayReq := false }
        clk := { s.clk with cycP := s.clk.cyc }
        lse := { s.lse with stepAt := s.clk.cyc } }
      let b := a.enterStep 2
      let c := i.bist.foldl State.bistRepair ({ b with fuse := { b.fuse with
        unitId := i.unitId, identity := i.identity, scrap := b.fuse.scrap || i.scrapped } }).fuseSecret
      let d := i.failedQuads.foldl State.failQuad ((c.enterStep 3).enterStep 4)
      let e := d.enterStep 5
      let f := e.enterStep 6
      let g := ({ f with fresh := f.fresh + 1, vlt := { f.vlt with entropy := 1 } }).enterStep 7
      let h : State := { g with fuse := { g.fuse with lifecycle := g.fuse.evaluate }, pins := { g.pins with strap := i.strap } }
      (s.pins.por = false → gives (.porRelease i) s) ∧
      (s.pins.por = true → s.pins.tamper = true → gives (.porRelease i) { s with pins := { s.pins with por := false } }) ∧
      (s.pins.por = true → s.pins.tamper = false →
        (i.fuseOk = false → gives (.porRelease i) ((b.logged 0x8001 0 .none).stopIn 2)) ∧
        (i.fuseOk = true → i.failedQuads.contains 0 = true → gives (.porRelease i) (d.stopIn 4)) ∧
        (i.fuseOk = true → i.failedQuads.contains 0 = false →
          (i.katOk = false → gives (.porRelease i) ((e.logged 0x8002 0 .none).stopIn 5)) ∧
          (i.katOk = true → i.entropyOk = false →
            gives (.porRelease i) ((({ f with vlt := { f.vlt with entropy := 3 } }).alarm 0x8004 .none).stopIn 6)) ∧
          (i.katOk = true → i.entropyOk = true → g.fuse.evaluate ≠ 5 → gives (.porRelease i) (h.readStart i.nor i.sigOk).1) ∧
          (i.katOk = true → i.entropyOk = true → g.fuse.evaluate = 5 → gives (.porRelease i) { h with lse := { h.lse with halted := true } })))) ∧
    (let a : State := { s with pins := { s.pins with memTrained := true } }
      let t := if s.glb.state = 0 ∧ s.glb.step = 11 then ((a.enterStep 12).initSlices a.goodSlices).enterStep13 else a
      let ready := (t.glb.state = 0 ∨ t.glb.state = 1) ∧ t.glb.step = 13 ∧ t.sitesSettled = true ∧ (t.inDomain = false ∨ t.fab.dstate = 3)
      (s.lse.halted = true → gives .memTrained a) ∧ (s.lse.halted = false → ready → gives .memTrained t.enterRun) ∧
      (s.lse.halted = false → ¬ ready → gives .memTrained t)) ∧
    (s.alive = true →
      let waits := s.glb.state = 0 ∧ s.glb.step = 11 ∧ s.pins.memTrained = false ∧ s.lse.halted = false
      let late := (s.glb.state = 0 ∨ s.glb.state = 1) ∧ s.glb.step = 13 ∧ s.inDomain = true ∧ s.fab.dstate ≠ 3
      (waits → gives .hubTrainingTimeout ((s.logged 0x9033 0 .none).stopIn 11)) ∧ (¬ waits → gives .hubTrainingTimeout s) ∧
      (late → gives .step13Timeout s.enterRun) ∧ (¬ late → gives .step13Timeout s)) ∧
    (∀ (ap : Aperture) (nor : Option (List Byte)) (sig : Bool) (who : BitVec 384),
      let a := apIdx ap
      let ends (t : State) (code : Nat) : Prop := gives (.lseReload ap nor sig who) (t.cmdEnd .lse a 0 code)
      (s.alive = true → (ap = .operator ∨ ap = .lamp) → (s.inst .lse a).busy = false →
        (s.glb.state ≠ 2 → ends s 2) ∧
        (s.glb.state = 2 → s.lse.heldWarm = false →
          (nor = none → ends ((s.enterStep 8).enterHeld 8 (0x9006, 0, 0, 0)) 5) ∧
          (∀ b, nor = some b →
            let t := (s.enterStep 8).digestOf b
            let u := (((t.lampStart.enterStep 9).applyLease (readLease b)).enterStep 10).identityKeys
            let verdict := admitImage b (t.admitEnv sig (leaseSigner b))
            (verdict = none → ends ((({ u with glb := { u.glb with state := 0 } } : State).enterStep 11).startAdvance) 0) ∧
            (∀ r, verdict = some r → ends (t.enterHeld (if r.1 ≤ 0x9007 then 8 else 9) r) 5))) ∧
        (s.glb.state = 2 → s.lse.heldWarm = true →
          let y := (s.enterStep 8).warmNor nor sig
          let t := y.1.assign y.1.lease y.1.lse.shape
          let u := ({ t with glb := { t.glb with state := 1 } } : State).warmFinish t.pins.memTrained
          (∀ r, y.2 = some r → ends (y.1.enterHeld 8 r) 5) ∧ (y.2 = none → ends u (if u.glb.state = 2 then 5 else 0)))) ∧
      (s.Reaches ap .lse 0x10 → ap = .debug → (s.inst .lse a).busy = false → ends s 2) ∧
      (s.Reaches ap .lse 0x10 → (∀ p, ap ≠ .part p) → (∀ p v, ap ≠ .vf p v) → (s.inst .lse a).busy = true →
        gives (.lseReload ap nor sig who) (s.modInst .lse a fun i => { i with code := 1 })) ∧
      (s.Reaches ap .lse 0x10 → ((∃ p, ap = .part p) ∨ ∃ p v, ap = .vf p v) → gives (.lseReload ap nor sig who) s))

/-- The warm start and the package's pins. dg_chip_rst_n in RUN stops new work, in a warm start it begins that start again; dg_rst_ready rises when the protected work is done; at the release of the pin, with dg_rst_ready or
in a warm start, the warm start resets what R422 names and runs its steps, and waits for the block clock. dg_qpwr_ok completes a MOVE that waits for its quadrant, and its fall in a powered quadrant is a quadrant fault, as is
a fault of the clock monitor in every quadrant; quadrant 0 has no such pin (R422, R456, R457, R459; log 55).
The model's own choices and readings in it: logs 3, 20, 55. -/
def Obligations.WarmStartCompletes : Prop :=  ∀ s : State,
    (s.alive = true →
      (exec .chipResetAssert s = .next (if s.glb.state = 3 then { s with pins := { s.pins with chipRst := true } }
        else if s.glb.state = 1 then
          { s with pins := { s.pins with chipRst := true }, glb := { s.glb with step := 1 }, lse := { s.lse with halted := false } }
        else s)) ∧
      (s.quiesced = true → s.protectedDone = true → exec .rstReadyAssert s = .next { s with pins := { s.pins with rstReady := true } }) ∧
      ((s.quiesced = false ∨ s.protectedDone = false) → exec .rstReadyAssert s = .next s) ∧
      (∀ i,
        let w := s.warmReset
        let starts := (s.glb.state = 1 ∧ s.pins.chipRst = true) ∨ (s.quiesced = true ∧ s.pins.rstReady = true)
        (starts → s.clk.lost = false → exec (.chipResetRelease i) s = .next ({ w with
          glb := { w.glb with state := 1, step := 1 }
          lse := { w.lse with stepAt := w.clk.cyc, halted := false, steps := [] } }.warmTests i).settle) ∧
        (starts → s.clk.lost = true → exec (.chipResetRelease i) s = .next s.settle) ∧
        (¬ starts → exec (.chipResetRelease i) s = .next s.settle)) ∧
      (∀ long, let t := (((s.quadFault 0).quadFault 1).quadFault 2).quadFault 3
        exec (.clockMonitorFault long) s = .next { t with
          clk := { t.clk with lost := true }
          lse := { t.lse with flagged := t.lse.flagged || long } }.settle) ∧
      exec .clockRestored s = .next { s with clk := { s.clk with lost := false } }.settle) ∧
    (exec (.qpwrOkRise 0) s = .next s.settle ∧ exec (.qpwrOkFall 0) s = .next s.settle) ∧
    (∀ q, 1 ≤ q → q ≤ 3 →
      let up : State := { s with pins := { s.pins with qpwrOk := s.pins.qpwrOk ||| ((1 : BitVec 4) <<< q) } }
      let down : State := { s with pins := { s.pins with qpwrOk := s.pins.qpwrOk &&& ~~~((1 : BitVec 4) <<< q) } }
      (s.lse.move = none → exec (.qpwrOkRise q) s = .next up.settle) ∧
      (∀ m, s.lse.move = some m →
        let t := up.initSlices [q]
        let go := s.alive = true ∧ unitQuad m.kind m.idx = q
        (go → exec (.qpwrOkRise q) s = .next ({ t.moveGo m with lse := { (t.moveGo m).lse with move := none } }.cmdEnd .lse 7 0 0).settle) ∧
        (¬ go → exec (.qpwrOkRise q) s = .next up.settle)) ∧
      ((s.pins.qpwrOff.getLsbD q = true ∨ s.alive = false) → exec (.qpwrOkFall q) s = .next down.settle) ∧
      (s.pins.qpwrOff.getLsbD q = false → s.alive = true → exec (.qpwrOkFall q) s = .next (down.quadFault q).settle))

/-- Orders and moves. The order that falls due first acts at its time and is marked by whether its work still runs, a repeating one with its next time; a repeating one whose work still runs is late with 0x9031; its
partition in D3 is woken. An order that is not due, or not the first, does nothing. The keys of a ROTATE_FLOW order are derived before it falls due. MOVE from the Lamp in RUN takes effect after the mask and every
admission check, in a gated quadrant after its power; CODE 0x4 for what is no resource, owner or change, 0x3 for the mask, 0x5 for admission; elsewhere CODE 0x2, busy CODE 0x1 alone, partitions and VFs, which have no such
register, nothing (R80, R360, R412, R417, R418, R425, R459).
The model's own choices and readings in it: logs 2, 3, 46, 74, 75. -/
def Obligations.OrdersAndMovesComplete : Prop :=  ∀ s : State,
    let gives (c : Instr) (t : State) : Prop := exec c s = .next t.settle
    (∀ k, s.alive = true → k < 256 →
      let o := s.order k
      let t := if o.basis = true then s else s.reach o.time
      let now := if o.basis = true then t.stepValue o.part else t.clk.shift.toNat
      let per := if o.basis = true then o.period else o.period * 1000
      let next := if o.rep = true ∧ per ≠ 0 ∧ o.time.toNat ≤ now then
        { o with time := BitVec.ofNat 64 (o.time.toNat + ((now - o.time.toNat) / per + 1) * per) } else o
      let due := s.orderDue o = true ∧ s.orderNext k = true
      let runs := o.state = 2 ∧ t.orderBusy o = true
      let u := t.orderAct k o
      let v := u.setOrder k { next with state := if u.orderBusy o = true then 2 else if o.rep = true then 1 else 3 }
      (¬ due → gives (.shiftOrderDue k) s) ∧
      (due → runs → o.rep = true → gives (.shiftOrderDue k) (((t.logged 0x9031 o.part (.unit .order k 0)).lateOrder).setOrder k next)) ∧
      (due → runs → o.rep = false → gives (.shiftOrderDue k) t) ∧
      (due → ¬ runs → gives (.shiftOrderDue k) (if 1 ≤ o.part ∧ o.part ≤ 6 ∧ v.hst.power.getD (o.part * 32) 0 ≠ 0 then v.pme o.part 1 else v)) ∧
      (o.action = 2 → (o.state = 1 ∨ o.state = 2) → s.clk.valid = true →
        gives (.rotateFlowPrepare k) ((s.reach (o.time - 1000000)).prepareFlow o.part))) ∧
    (∀ ap : Aperture,
      let a := apIdx ap
      let ends (t : State) (code : Nat) : Prop := gives (.lseMove ap) (t.cmdEnd .lse a 0 code)
      (s.Reaches ap .lse 0x10 → (s.inst .lse a).busy = false → (ap = .operator ∨ ap = .debug) → ends s 2) ∧
      (s.Reaches ap .lse 0x10 → (∀ p, ap ≠ .part p) → (∀ p v, ap ≠ .vf p v) → (s.inst .lse a).busy = true →
        gives (.lseMove ap) (s.modInst .lse a fun i => { i with code := 1 })) ∧
      (s.Reaches ap .lse 0x10 → ((∃ p, ap = .part p) ∨ ∃ p v, ap = .vf p v) → gives (.lseMove ap) s) ∧
      (s.alive = true → s.inRun = false → ap = .lamp → (s.inst .lse a).busy = false → ends s 2) ∧
      (s.Takes .lse ap → ap = .lamp →
        let w := s.arg .lse a 0x18
        let m : MoveReq := {
          kind := (w.extractLsb' 8 2).toNat, idx := (w.extractLsb' 0 5).toNat, owner := (w.extractLsb' 12 3).toNat
          xfer := (s.arg .lse a 0x1C).getLsbD 0 }
        let q := unitQuad m.kind m.idx
        let named := m.idx < kindUnits m.kind ∧ s.defined m.owner = true ∧ s.ownerOf m.kind m.idx ≠ m.owner
        let verdict := admitLease (s.movedLease m) (s.admitEnv true (s.fuse.authOf 3))
        let may := named ∧ (s.moveMask m.kind m.idx).testBit (m.owner - 1) = true
        let on : State := { s with pins := { s.pins with qpwrOff := s.pins.qpwrOff &&& ~~~((1 : BitVec 4) <<< q) } }
        let done (t : State) : Prop := ends { t.moveGo m with lse := { (t.moveGo m).lse with move := none } } 0
        (¬ named → ends s 4) ∧
        (named → (s.moveMask m.kind m.idx).testBit (m.owner - 1) = false → ends s 3) ∧
        (∀ r, may → verdict = some r → ends (s.showRefusal r) 5) ∧
        (may → verdict = none → s.pins.qpwrOff.getLsbD q = false → done s) ∧
        (may → verdict = none → s.pins.qpwrOff.getLsbD q = true → s.pins.qpwrOk.getLsbD q = true → done (on.initSlices [q])) ∧
        (may → verdict = none → s.pins.qpwrOff.getLsbD q = true → s.pins.qpwrOk.getLsbD q = false →
          gives (.lseMove ap) ({ on with lse := { on.lse with move := some m } }.cmdBusy .lse a 0))))

/-! ### Faults: canaries and the escalation ladder (16) -/

/-- Canaries. A wait of a front-end queue, a channel or a task that outlasts its canary is withdrawn and its context lost with 0xA001, a waiting task HALTED with it; a disabled canary does nothing. A busy unit that
makes no progress gets 0xA002 and the engine step, an idle one or one whose partition is in a step nothing. A suspect replayed alone without progress, which of them being free (log 54), is lost with 0xA003, its work in the
unit discarded and the replay over. The watchdog takes the chip step unless it is kicked, which only the Lamp can do: from the operator and the debug port the write is denied, for partitions and VFs the register is
reserved (R429 to R431, R434, R438).
The model's own choices and readings in it: logs 3, 54. -/
def Obligations.CanariesComplete : Prop :=  ∀ s : State, s.alive = true →
    let gives (c : Instr) (t : State) : Prop := exec c s = .next t.settle
    let on (own : Nat) : Prop := (s.canaryPeriod own).isSome = true
    (∀ q r c, s.frontReq q = some r → r.op.ctx = some c →
      (on 0 → gives (.waitCanaryExpire (.front q)) (s.loseCtx r.op.part c 0xA001 .none)) ∧ (¬ on 0 → gives (.waitCanaryExpire (.front q)) s)) ∧
    (∀ c a r, c < 32 → (s.chan c).act = some a → ((s.chanReqs c).find? fun r => r.extTag % 8 == 3 && !r.discarded) = some r → a.phase = .waiting →
      (on 0 → gives (.waitCanaryExpire (.channel c)) ((s.withdrawWait r.tag).loseCtx (s.chan c).part a.d.ctx 0xA001 (descObj c a.d))) ∧
      (¬ on 0 → gives (.waitCanaryExpire (.channel c)) s)) ∧
    (∀ n, let k := s.task n
      n < 256 → k.state = .blocked → (k.block = 1 ∨ k.block = 2) →
      (on k.canary.toNat → gives (.waitCanaryExpire (.task n))
        ((((k.req.map s.withdrawWait).getD s).loseCtx k.part k.ctx 0xA001 (.unit .task n k.step)).haltTask n 0xA001)) ∧
      (¬ on k.canary.toNat → gives (.waitCanaryExpire (.task n)) s)) ∧
    (∀ u, unitExists u = true →
      let stuck := s.unitBusy u = true ∧ s.inPartStep (s.unitPart u) = false
      (stuck → gives (.busyCanaryExpire u) ((s.raise 0xA002 3 (s.unitPart u) none (s.unitObj u)).engineStep u none)) ∧
      (¬ stuck → gives (.busyCanaryExpire u) s)) ∧
    (∀ u e, unitExists u = true → s.flt.eng.find? (·.unit == u) = some e →
      let replays := e.phase = 0 ∧ e.suspects ≠ []
      (replays → ∃ c ∈ e.suspects, let t := (s.used.loseCtx e.part c 0xA003 (s.unitObj u)).dropGuilty u e.part c
        gives (.replayCanaryExpire u) { t with flt := { t.flt with
          eng := t.flt.eng.map fun (x : EngStep) => if x.unit = u then { x with phase := 1 } else x } }) ∧
      (¬ replays → gives (.replayCanaryExpire u) s)) ∧
    (s.flt.watchdog = true →
      gives .lampWatchdogExpire (({ s with flt := { s.flt with watchdog := false } }.raise 0xA008 6 0 none .none).chipStep 0xA008)) ∧
    (s.flt.watchdog = false → gives .lampWatchdogExpire s) ∧
    exec (.fltKick .lamp) s = .next { s with flt := { s.flt with kicks := s.flt.kicks + 1 } } ∧
    (∀ ap : Aperture, (ap = .operator ∨ ap = .debug) →
      exec (.fltKick ap) s = .next { s with glb := { s.glb with denied := satInc s.glb.denied } }) ∧
    (∀ ap : Aperture, s.Reaches ap .flt 0x24 → ((∃ p, ap = .part p) ∨ ∃ p v, ap = .vf p v) → exec (.fltKick ap) s = .next s)

/-- The ladder. An engine step ends with its unit back in service, 0xA005 logged when no suspect was guilty, or overruns with 0xA006 into the partition step, of a unit of no partition only logged. A partition step ends when
its sites have answered, quarantined ones recovering, or overruns with 0xA007 into the chip step; a chip step that overruns asks for the power cycle. FLT_CMD from the operator, the Lamp or the partition itself starts
the engine and the partition step, from the Lamp the chip step and the power cycle: CODE 0x4 for what does not exist, 0x3 while such a step runs, 0x2 from elsewhere, 0x1 alone while the instance is busy; from a
VF nothing (R80, R181, R432 to R436, R438).
The model's own choices and readings in it: logs 3, 54, 82. -/
def Obligations.LadderCompletes : Prop :=  ∀ s : State,
    let gives (c : Instr) (t : State) : Prop := exec c s = .next t.settle
    let ends (t : State) (byCmd : Option Nat) (unit : Nat) : State := match byCmd with
      | some a => t.cmdEnd .flt a unit 0
      | none => t
    (∀ u e, s.alive = true → unitExists u = true → s.flt.eng.find? (·.unit == u) = some e →
      let past (t : State) : State := { t with flt := { t.flt with eng := t.flt.eng.filter (·.unit != u) } }
      let t := past s
      let done (t : State) : State := ends (((past t).resumeUnit u).irqVis .flt e.part 2) e.byCmd (unitNum u)
      (e.phase = 0 → gives (.engineStepDone u) (done (s.logged 0xA005 e.part (s.unitObj u)))) ∧
      (e.phase ≠ 0 → gives (.engineStepDone u) (done s)) ∧
      (e.part = 0 → gives (.engineStepOverrun u) (ends (t.logged 0xA006 0 (t.unitObj u)) e.byCmd (unitNum u))) ∧
      (e.part ≠ 0 → gives (.engineStepOverrun u) ((t.raise 0xA006 5 e.part none (t.unitObj u)).partStep e.part e.byCmd))) ∧
    (∀ p, s.alive = true → 1 ≤ p → p ≤ 6 →
      (∀ e, s.flt.parts.find? (·.part == p) = some e →
        let t := ({ s with flt := { s.flt with parts := s.flt.parts.filter (·.part != p) } }.recoverSites p).irqVis .flt p 3
        let past := e.begun = true ∧ s.sitesFlushed p = true
        (past → gives (.partitionStepDone p) (ends t e.byCmd p)) ∧ (¬ past → gives (.partitionStepDone p) s)) ∧
      (s.inPartStep p = true → gives (.partitionStepOverrun p) ((s.raise 0xA007 6 p none .none).chipStep 0xA007)) ∧
      (s.inPartStep p = false → gives (.partitionStepDone p) s ∧ gives (.partitionStepOverrun p) s)) ∧
    (s.alive = true →
      let t := s.raise 0xA009 7 0 none .none
      (s.flt.chip = true → gives .chipStepOverrun { t with pins := { t.pins with trayReq := true } }) ∧
      (s.flt.chip = false → gives .chipStepOverrun s)) ∧
    (∀ (ap : Aperture), s.Takes .flt ap → (ap = .operator ∨ ap = .lamp ∨ ∃ p, ap = .part p) →
      let a := apIdx ap
      let refused (c : Instr) (unit code : Nat) : Prop := gives c (s.cmdEnd .flt a unit code)
      (∀ u,
        let p := s.unitPart u
        let mine := a = 0 ∨ a = 7 ∨ a = p
        let runs := s.inEngStep u = true ∨ s.inPartStep p = true
        (unitExists u = false → refused (.fltEngine ap u) (unitNum u) 4) ∧
        (unitExists u = true → ¬ mine → refused (.fltEngine ap u) (unitNum u) 2) ∧
        (unitExists u = true → mine → runs → refused (.fltEngine ap u) (unitNum u) 3) ∧
        (unitExists u = true → mine → ¬ runs →
          gives (.fltEngine ap u) (((s.cmdBusy .flt a (unitNum u)).raise 0xA00A 3 p none (s.unitObj u)).engineStep u (some a)))) ∧
      (∀ p,
        let mine := a = 0 ∨ a = 7 ∨ a = p
        (¬ mine → refused (.fltPartition ap p) p 2) ∧
        (mine → s.defined p = false → refused (.fltPartition ap p) p 4) ∧
        (mine → s.defined p = true → s.inPartStep p = true → refused (.fltPartition ap p) p 3) ∧
        (mine → s.defined p = true → s.inPartStep p = false →
          gives (.fltPartition ap p) (((s.cmdBusy .flt a p).raise 0xA00A 5 p none .none).partStep p (some a)))) ∧
      (ap ≠ .lamp → refused (.fltChip ap) 0 2 ∧ refused (.fltTray ap) 0 2) ∧
      (ap = .lamp → s.flt.chip = true → refused (.fltChip ap) 0 3) ∧
      (ap = .lamp → s.flt.chip = false → gives (.fltChip ap) (((s.cmdEnd .flt 7 0 0).raise 0xA00A 6 0 none .none).chipStep 0xA00A)) ∧
      (ap = .lamp →
        let t := (s.cmdEnd .flt 7 0 0).raise 0xA00A 7 0 none .none
        gives (.fltTray ap) { t with pins := { t.pins with trayReq := true } })) ∧
    (∀ (ap : Aperture) (u : UnitRef) (p : Nat) (c : Instr), c ∈ [.fltEngine ap u, .fltPartition ap p, .fltChip ap, .fltTray ap] → s.Reaches ap .flt 0 →
      let a := apIdx ap
      (ap = .debug → (s.inst .flt a).busy = false → gives c (s.cmdEnd .flt a 0 2)) ∧
      ((∀ q v, ap ≠ .vf q v) → (s.inst .flt a).busy = true → gives c (s.modInst .flt a fun i => { i with code := 1 })) ∧
      (∀ q v, ap = .vf q v → gives c s))

/-! ### Observation (17) -/

/-- Freezes. FREEZE captures once under a new FREEZE_ID and is counted as missed while FROZEN = 1; FREEZE_AT arms its time, broadcast to the members or not, CODE 0x4 when a broadcast lies less than 5 µs ahead; a time that
has passed is captured at once, late unless it has just come, another replaces the armed one, which is missed. RELEASE clears the flags and the copies. From a partition these end with CODE 0x2, a busy instance gives CODE 0x1
alone, from a VF nothing happens. The armed time captures once the shift clock is valid; the drained snapshot is READY; a FREEZE message is taken, and acted on once and only when accepted (R80, R442 to R445, R449).
The model's own choices and readings in it: logs 2, 3, 19. -/
def Obligations.FreezeCompletes : Prop :=  ∀ s : State,
    let obs (o : ObsSt) : State := { s with obs := o }
    let now (c : Instr) (t : State) : Prop := exec c s = .next t
    let missed (t : State) : State := { t with obs := { t.obs with missed := satInc t.obs.missed } }.obsIrq 3
    (∀ (ap : Aperture) (bcast : Bool), s.Takes .obs ap →
      let a := apIdx ap
      let T := s.obsArg a
      let id := s.obs.made
      let t := obs { s.obs with made := (id + 1) % 32768 }
      let msg := leBytes 8 T.toNat ++ leBytes 2 id ++ [BitVec.ofNat 8 s.lse.node] ++ List.replicate 5 0
      let u := if bcast = true then t.bcastFlow 7 msg else t
      let noted : State := { u with obs := { u.obs with seen := ((id, s.lse.node) :: u.obs.seen).take 1024 } }
      let soon := bcast = true ∧ T.toNat < s.clk.shift.toNat + 5000
      ((ap = .operator ∨ ap = .lamp ∨ ap = .debug) →
        (s.obs.frozen = false → now (.obsFreeze ap) ((t.capture 0 id s.lse.node false).cmdEnd .obs a 0 0)) ∧
        (s.obs.frozen = true → now (.obsFreeze ap) ((missed s).cmdEnd .obs a 0 0)) ∧
        (soon → now (.obsFreezeAt ap bcast) (s.cmdEnd .obs a 0 4)) ∧
        (¬ soon → now (.obsFreezeAt ap bcast) ((noted.armFreeze 1 T id s.lse.node).cmdEnd .obs a 0 0)) ∧
        now (.obsRelease ap) ((obs { s.obs with
          frozen := false, ready := false, late := false, overflow := false, frz := [], audit := [], snap := [], image := [], time := 0 }).cmdEnd
            .obs a 0 0)) ∧
      ((∃ p, ap = .part p) → ∀ c ∈ ([.obsFreeze ap, .obsFreezeAt ap bcast, .obsRelease ap] : List Instr), now c (s.cmdEnd .obs a 0 2))) ∧
    (∀ (ap : Aperture) (bcast : Bool) (c : Instr), c ∈ [.obsFreeze ap, .obsFreezeAt ap bcast, .obsRelease ap] → s.Reaches ap .obs 0 →
      ((∀ p v, ap ≠ .vf p v) → (s.inst .obs (apIdx ap)).busy = true → now c (s.modInst .obs (apIdx ap) fun i => { i with code := 1 })) ∧
      (∀ p v, ap = .vf p v → now c s)) ∧
    (∀ src (T : Dword) id origin,
      let passed := s.clk.valid = true ∧ T.toNat ≤ s.clk.shift.toNat
      let t := if s.obs.armed.isSome then missed s else s
      (passed → s.armFreeze src T id origin = s.capture src id origin (T.toNat != s.clk.shift.toNat)) ∧
      (¬ passed → s.armFreeze src T id origin = { t with obs := { t.obs with armed := some (src, T, id, origin) } })) ∧
    (∀ p m t, s.alive = true → p < 24 → s.takeMsg p 7 = some (m, t) →
      let id := m.le 8 2
      let origin := m.le 10 1
      ((t.obs.accept = false ∨ t.obs.seen.contains (id, origin) = true) → now (.freezePacketReceive p) t) ∧
      (t.obs.accept = true → t.obs.seen.contains (id, origin) = false →
        now (.freezePacketReceive p) (({ t with obs := { t.obs with seen := ((id, origin) :: t.obs.seen).take 1024 } } : State).armFreeze 4
          (BitVec.ofNat 64 (m.le 0 8)) id origin))) ∧
    (s.alive = true →
      (∀ src at_ id origin, s.obs.armed = some (src, at_, id, origin) →
        let t := s.reach at_
        (s.clk.valid = true → now .freezeTimeReached (({ t with obs := { t.obs with armed := none } } : State).capture src id origin false)) ∧
        (s.clk.valid = false → now .freezeTimeReached s)) ∧
      (s.obs.armed = none → now .freezeTimeReached s) ∧
      (s.obs.frozen = true → s.obs.ready = false → now .snapshotDrained ((obs { s.obs with ready := true }).obsIrq 2)) ∧
      ((s.obs.frozen = false ∨ s.obs.ready = true) → now .snapshotDrained s))

/-- The peek. A line of a stack window is asked for under a tag of the aperture's own, from a partition for its own stacks; an inner page is peeked by the debug port where it may; CODE 0x2 for what the aperture may not peek,
0x3 for a misaligned address and one that is neither; busy CODE 0x1 alone, from a VF nothing. The answer shows the raw line and side-band, in a narrow stack without its upper third, an inner page's bytes, or, for
the debug port on an open partition's enciphered seam, the verified plaintext; what the data registers hold after a failed check, which ends with CODE 0x5, is free (log 53). 10 µs without an answer end it with CODE 0x6 (R80,
R447, R448; log 53).
The model's own choices and readings in it: logs 3, 53, 56. -/
def Obligations.PeekCompletes : Prop :=  ∀ s : State,
    let peek (o : ObsSt) : State := { s with obs := o }
    let now (c : Instr) (t : State) : Prop := exec c s = .next t
    (∀ ap : Aperture, s.Takes .obs ap → (ap = .operator ∨ ap = .lamp ∨ ap = .debug ∨ ∃ p, ap = .part p) →
      let a := apIdx ap
      let addr := (s.obsArg a).toNat
      let mine := ∀ p, ap = .part p → stackWindow addr = true ∧ s.stackOwner (addr / 2 ^ 36) = p
      let waits := (peek { s.obs with peeks := s.obs.peeks.put a addr }).cmdBusy .obs a 0
      (¬ mine → now (.obsPeek ap) (s.cmdEnd .obs a 0 2)) ∧
      (mine → addr % 64 ≠ 0 → now (.obsPeek ap) (s.cmdEnd .obs a 0 3)) ∧
      (mine → addr % 64 = 0 → stackWindow addr = true → now (.obsPeek ap) (waits.emit (.hubRead (addr / 2 ^ 36) (0xFF0 + a) (addr / 64)))) ∧
      (mine → addr % 64 = 0 → stackWindow addr = false → s.peekInner a addr = true → now (.obsPeek ap) waits) ∧
      (mine → addr % 64 = 0 → stackWindow addr = false → s.peekInner a addr = false →
        now (.obsPeek ap) (s.cmdEnd .obs a 0 (if (innerShare addr).isSome then 2 else 3)))) ∧
    (∀ ap : Aperture, s.Reaches ap .obs 0 →
      ((∀ p v, ap ≠ .vf p v) → (s.inst .obs (apIdx ap)).busy = true →
        now (.obsPeek ap) (s.modInst .obs (apIdx ap) fun i => { i with code := 1 })) ∧
      (∀ p v, ap = .vf p v → now (.obsPeek ap) s)) ∧
    (∀ (ap : Aperture) (addr : Nat) (l : HubLine), s.alive = true → apOk ap = true → s.obs.peeks.find (apIdx ap) = some addr →
      let a := apIdx ap
      let owner := if stackWindow addr then s.stackOwner (addr / 2 ^ 36) else s.innerOwner addr 64
      let put (t : State) (w : List Word) (code : Nat) : State := { t with obs := { t.obs with
        peeks := t.obs.peeks.erase a, data := t.obs.data.put a w, dataOf := t.obs.dataOf.put a owner } }.cmdEnd .obs a 0 code
      let raw := peekWords l.data (if (s.shaft (addr / 2 ^ 36)).narrow then l.side &&& 0xFFFFFFFFFFFFFFFF else l.side)
      let free : State := { s with fresh := s.fresh + 1 }
      let plain (e : Seam) : Prop := a = 8 ∧ s.debugFull = true ∧ s.openPart (s.stackOwner (addr / 2 ^ 36)) = true ∧ e.kind ≠ .plain
      (stackWindow addr = false → now (.peekReturn ap l) (put s (peekWords (bytesLine (s.innerBytes addr 64)) 0) 0)) ∧
      (stackWindow addr = true → (∀ n e, s.seamAt (addr / 64) = some (n, e) → ¬ plain e) → now (.peekReturn ap l) (put s raw 0)) ∧
      (∀ n e x, stackWindow addr = true → s.seamAt (addr / 64) = some (n, e) → plain e → s.peekPlain n e (addr / 64) l = some x →
        now (.peekReturn ap l) (put s (peekWords x 0) 0)) ∧
      (∀ n e, stackWindow addr = true → s.seamAt (addr / 64) = some (n, e) → plain e → s.peekPlain n e (addr / 64) l = none →
        ∃ w, now (.peekReturn ap l) (put free w 5))) ∧
    (∀ ap : Aperture, s.alive = true → apOk ap = true →
      let a := apIdx ap
      (∀ addr, s.obs.peeks.find a = some addr → now (.peekTimeout ap) ((peek { s.obs with peeks := s.obs.peeks.erase a }).cmdEnd .obs a 0 6)) ∧
      (s.obs.peeks.find a = none → now (.peekTimeout ap) s ∧ ∀ l, now (.peekReturn ap l) s))

/-! ### The whole block -/

/-- The life-cycle state in force stays: no command but power-on reset and its release, which runs the cold start, changes it (R395). -/
def Obligations.LifeCycleLatched : Prop :=  ∀ (c : Instr) (s t : State), c ≠ .porAssert → (∀ i, c ≠ .porRelease i) → exec c s = .next t → t.fuse.lifecycle = s.fuse.lifecycle

/-- The state right after reset: in power-on reset, in step 1 of a start, nothing waiting or shown, every register of GLB_ and UPD_ as its table gives it, the
canary periods and BCAST_ACCEPT as theirs do, mailboxes idle, the inner pages blank; memory and tables hold nothing (R41, R69, R430, R431, R434, R444; the
rest is the model's choice, logs 1 and 8). -/
def Obligations.ResetValues : Prop :=  let s := State.reset
  s.pins.por = true ∧ s.glb.state = 0 ∧ s.glb.step = 1 ∧ s.glb.compat = false ∧ s.glb.scratch = 0 ∧ s.glb.irqEn = 0 ∧ s.glb.errCount = 0 ∧
    s.glb.errInfo = 0 ∧ s.glb.denied = 0 ∧ s.glb.dwFail = 0 ∧ s.glb.updCount = 0 ∧ s.glb.outWidth = 3 ∧ s.glb.fwdOut = false ∧ s.glb.extEn = true ∧
    s.flt.canEngine = 50 ∧ s.flt.canReplay = 4 ∧ s.flt.canLamp = 10 ∧ s.obs.accept = true ∧ s.obs.frozen = false ∧ s.clk.valid = false ∧
    s.pending = [] ∧ s.out = [] ∧ s.seams = [] ∧ s.slots = [] ∧ s.MbxOk ∧ s.PagesOk ∧ s.calm = true
end

