-- ==== Sys2Proof/Laws/Bytes.lean ====
section
/-!
SUPPORT. Laws/Bytes.lean: the lengths of what the byte and Keccak functions give, and that little-endian bytes read back as the value they spell.
-/

open Sys2Proof
namespace Sys2Proof.Machine

theorem keccakRound_length (a : List Dword) (rc : Dword) : (keccakRound a rc).length = 25 := by
  simp [keccakRound, List.range_succ_eq_map]
theorem keccakF_length (a : List Dword) : (keccakF a).length = 25 := by
  simp only [keccakF]
  have h : ∀ (l : List Dword) (a : List Dword), a.length = 25 ∨ l ≠ [] → (l.foldl keccakRound a).length = 25 := by
    intro l
    induction l with
    | nil => simp
    | cons r l ih => intro a _; exact ih _ (.inl (keccakRound_length a r))
  exact h keccakRC a (.inr (by simp [keccakRC]))
theorem absorb_length (n : Nat) (a : List Dword) (m : List Byte) : (absorb (n + 1) a m).length = 25 := by
  induction n generalizing a m with
  | zero => rw [absorb, absorb]; exact keccakF_length _
  | succ n ih => rw [absorb]; exact ih _ _
theorem leBytes_length (n x : Nat) : (leBytes n x).length = n := by
  induction n generalizing x with
  | zero => rfl
  | succ n ih => simp [leBytes, ih]
theorem squeeze_length (n : Nat) (a : List Dword) (h : a.length = 25) : (squeeze n a).length = 136 * n := by
  induction n generalizing a with
  | zero => rfl
  | succ n ih =>
    have e : ((a.take 17).map fun l => leBytes 8 l.toNat).flatten.length = 136 := by
      simp [List.length_flatten, Function.comp_def, leBytes_length, List.map_const', h]
    rw [squeeze, List.length_append, e, ih _ (keccakF_length a)]; omega
/-- A KMAC256 of n bytes has n bytes. -/
theorem kmac256_length (key x : List Byte) (n : Nat) (s : String) : (kmac256 key x n s).length = n := by
  simp only [kmac256, cshakeSponge, List.length_take, squeeze_length _ _ (absorb_length _ _ _)]; omega
theorem ofLe_leBytes (n x : Nat) : ofLe (leBytes n x) = x % 256 ^ n := by
  induction n generalizing x with
  | zero => simp [leBytes, ofLe, Nat.mod_one]
  | succ n ih =>
    have e : 256 ^ (n + 1) = 256 * 256 ^ n := by rw [Nat.pow_succ, Nat.mul_comm]
    rw [leBytes, ofLe, ih, BitVec.toNat_ofNat, e, Nat.mod_mul]

end Sys2Proof.Machine
end

