-- ==== Sys2Proof/Laws/Gates.lean ====
section
/-!
SUPPORT. Laws/Gates.lean: what the gates in front of a meaning leave when the block is in RUN and calm (`State.Ready`): the register responds, the
access is not denied, the instance is not busy (`State.Takes`), and the command is the function behind the gate. A proof that a command completes
rewrites by these and unfolds no gate. The lemmas are elaborated one after the other, which bounds the memory of the package's compile.
-/

namespace Sys2Proof.Machine

set_option Elab.async false

/-! ### A ready block -/

theorem State.Ready.alive_eq {s : State} (h : s.Ready) : s.alive = true := h.1
theorem State.Ready.por {s : State} (h : s.Ready) : s.pins.por = false := by have := h.1; simp [State.alive] at this; exact this.1.1
theorem State.Ready.tamper {s : State} (h : s.Ready) : s.pins.tamper = false := by have := h.1; simp [State.alive] at this; exact this.2
theorem State.Ready.life {s : State} (h : s.Ready) : s.fuse.lifecycle ≠ 5 := by have := h.1; simp [State.alive] at this; exact this.1.2
theorem State.Ready.run_state {s : State} (h : s.Ready) : s.glb.state = 3 := by have := h.2.1; simpa [State.inRun] using this
theorem State.Ready.live {s : State} (h : s.Ready) (ok : Bool) (f : State → State) : s.live ok f = if ok then f s else s := by
  simp [State.live, h.1]
theorem State.Ready.open_ {s : State} (h : s.Ready) (ok : Bool) (f : State → State) : s.open_ ok f = if ok then f s else s := by
  simp [State.open_, h.live, h.2.2]
theorem State.Ready.portIn {s : State} (h : s.Ready) (ok : Bool) (f : State → State) : s.portIn ok f = if ok then f s else s := by
  simp [State.portIn, h.open_, State.linksOn, h.2.1]
theorem State.Ready.hostIn {s : State} (h : s.Ready) (ok : Bool) (f : State → State) : s.hostIn ok f = if ok then f s else s := by
  simp [State.hostIn, h.open_, h.2.1]
theorem State.Ready.responds {s : State} (h : s.Ready) (ap : Aperture) (pl : Place) : s.responds ap pl = true := by
  simp [State.responds, h.por, h.life, h.2.1]
theorem State.Ready.atReg {s : State} (h : s.Ready) (ap : Aperture) (pl : Place) (o : Nat) (f : State → State) (ht : s.tlpRefused ap = false) :
    s.atReg ap pl o f = if s.denies ap pl o true then s.deny else f s := by
  simp [State.atReg, h.responds, h.tamper, ht]

/-! ### No TLP of a partition -/

@[simp] theorem State.tlpRefused_lamp (s : State) : s.tlpRefused .lamp = false := by simp [State.tlpRefused, aperturePart]
@[simp] theorem State.tlpRefused_operator (s : State) : s.tlpRefused .operator = false := by simp [State.tlpRefused, aperturePart]
@[simp] theorem State.tlpRefused_debug (s : State) : s.tlpRefused .debug = false := by simp [State.tlpRefused, aperturePart]

/-! ### Command registers -/

/-- A seam command reaches its meaning. -/
theorem State.TakesSeam.eq {s : State} {ap : Aperture} {n : Nat} (h : s.TakesSeam ap n) (f : Nat → State → State) :
    (s.given (apOk ap && isSeam n) fun s => s.atReg ap .seam 0 fun s => s.seamCmd ap n f) = f (apIdx ap) s := by
  obtain ⟨⟨hr, ho, hb, ht⟩, hn, hl | ⟨p, rfl, hp, hq⟩⟩ := h
  · subst hl
    have hb' : (s.inst .seam 7).busy = false := hb
    simp [State.given, isSeam, hn, hr.atReg _ _ _ _ ht, State.denies, Place.readOnly, Place.argMask, Place.notDebug, slotAt, State.seamCmd, State.command, hb', apIdx, apOk]
  · have hb' : (s.inst .seam p).busy = false := hb
    have e : (apOk (.part p) && isSeam n) = true := by simp [ho, isSeam, hn]
    simp only [State.given, e, hr.atReg _ _ _ _ ht, if_true]
    simp [State.denies, Place.readOnly, Place.argMask, Place.notDebug, slotAt, State.seamCmd, State.command, hb', apIdx, hp, hq]

/-- A face command reaches its meaning. -/
theorem takes_faceCmd {s : State} {ap : Aperture} {p n : Nat} (h : s.Takes .face ap) (hn : n < 512) (ha : ap = .part p ∨ ap = .lamp) (ho : s.faceOwner (n / 64) = p) (hp : p ≠ 0) (f : Nat → Nat → State → State) :
    (s.given (apOk ap && isTarget n) fun s => s.atReg ap .face 0 fun s => s.faceCmd ap n f) = f (apIdx ap) p s := by
  obtain ⟨hr, hk, hb, ht⟩ := h
  rcases ha with rfl | rfl
  · simp only [apIdx] at hb; simp [State.given, hk, isTarget, hn, hr.atReg _ _ _ _ ht, State.denies, Place.readOnly, Place.argMask, Place.notDebug, slotAt, State.faceCmd, State.command, hb, apIdx, ho, show ¬ 512 ≤ n by omega]
  · simp only [apIdx] at hb; simp [State.given, hk, isTarget, hn, hr.atReg _ _ _ _ ht, State.denies, Place.readOnly, Place.argMask, Place.notDebug, slotAt, State.faceCmd, State.command, hb, apIdx, ho, show ¬ 512 ≤ n by omega, hp]

/-- A tally command reaches its meaning. -/
theorem takes_tallyCmd {s : State} {ap : Aperture} {p n : Nat} (h : s.Takes .tal ap) (hn : n < 65536) (ha : ap = .part p ∨ ap = .lamp) (ho : s.tallyOwner n = p) (hp : p ≠ 0) (b : Bool) (f : Nat → State → State) :
    (s.given (apOk ap && isTally n) fun s => s.atReg ap .tal 0 fun s => s.tallyCmd ap n b f) = f (apIdx ap) s := by
  obtain ⟨hr, hk, hb, ht⟩ := h
  rcases ha with rfl | rfl
  · have ow : s.ownsTally p n = true := by
      simp only [State.tallyOwner] at ho
      cases e : (allParts.find? fun p => s.ownsTally p n) with
      | none => simp [e] at ho; omega
      | some q => simp [e] at ho; subst ho; simpa using List.find?_some e
    simp only [apIdx] at hb; simp [State.given, hk, isTally, hn, hr.atReg _ _ _ _ ht, State.denies, Place.readOnly, Place.argMask, Place.notDebug, slotAt, State.tallyCmd, State.command, hb, apIdx, ow]
  · simp only [apIdx] at hb; simp [State.given, hk, isTally, hn, hr.atReg _ _ _ _ ht, State.denies, Place.readOnly, Place.argMask, Place.notDebug, slotAt, State.tallyCmd, State.command, hb, apIdx, ho, hp]

/-- A Winder command reaches its meaning. -/
theorem takes_wndCmd {s : State} {ap : Aperture} {p t : Nat} (h : s.Takes .wnd ap) (hn : t < 256) (ha : ap = .part p ∨ ap = .lamp) (ho : s.taskOwner t = p) (hp : p ≠ 0) (f : Nat → Nat → State → State) :
    (s.given (apOk ap && isTask t) fun s => s.atReg ap .wnd 0 fun s => s.wndCmd ap t f) = f (apIdx ap) p s := by
  obtain ⟨hr, hk, hb, ht⟩ := h
  rcases ha with rfl | rfl
  · simp only [apIdx] at hb; simp [State.given, hk, isTask, hn, hr.atReg _ _ _ _ ht, State.denies, Place.readOnly, Place.argMask, Place.notDebug, slotAt, State.wndCmd, State.command, hb, apIdx, ho]
  · simp only [apIdx] at hb; simp [State.given, hk, isTask, hn, hr.atReg _ _ _ _ ht, State.denies, Place.readOnly, Place.argMask, Place.notDebug, slotAt, State.wndCmd, State.command, hb, apIdx, ho, hp]

/-- A channel command reaches its meaning. -/
theorem takes_movCmd {s : State} {ap : Aperture} {p n : Nat} (h : s.Takes .mov ap) (hn : n < 32) (ha : ap = .part p ∨ ap = .lamp) (ho : s.chanOwner n = p) (hp : p ≠ 0) (f : Nat → Nat → State → State) :
    (s.given (apOk ap && isChan n) fun s => s.atReg ap .mov 0 fun s => s.movCmd ap n f) = f (apIdx ap) p s := by
  obtain ⟨hr, hk, hb, ht⟩ := h
  rcases ha with rfl | rfl
  · simp only [apIdx] at hb; simp [State.given, hk, isChan, hn, hr.atReg _ _ _ _ ht, State.denies, Place.readOnly, Place.argMask, Place.notDebug, slotAt, State.movCmd, State.command, hb, apIdx, ho, hp]
  · simp only [apIdx] at hb; simp [State.given, hk, isChan, hn, hr.atReg _ _ _ _ ht, State.denies, Place.readOnly, Place.argMask, Place.notDebug, slotAt, State.movCmd, State.command, hb, apIdx, ho, hp]

/-- A reference command reaches its meaning. -/
theorem takes_refCmd {s : State} {ap : Aperture} {p : Nat} {o : RefObj} (h : s.Takes .mov ap) (ha : ap = .part p ∨ ap = .lamp) (ho : refObj s (apIdx ap) = some o) (hq : s.refOwner o = p) (hp : p ≠ 0) (b : Bool) (hb' : b = true) (f : Nat → Nat → RefObj → BitVec 16 → State → State) :
    (s.given (apOk ap && b) fun s => s.atReg ap .mov 0 fun s => s.refCmd ap f) = f (apIdx ap) p o ((s.arg .mov (apIdx ap) 0x18).extractLsb' 0 16) s := by
  obtain ⟨hr, hk, hb, ht⟩ := h
  subst hb'
  rcases ha with rfl | rfl
  · simp only [apIdx] at hb ho ⊢; simp [State.given, hk, hr.atReg _ _ _ _ ht, State.denies, Place.readOnly, Place.argMask, Place.notDebug, slotAt, State.refCmd, State.command, hb, ho, hq, hp]
  · simp only [apIdx] at hb ho ⊢; simp [State.given, hk, hr.atReg _ _ _ _ ht, State.denies, Place.readOnly, Place.argMask, Place.notDebug, slotAt, State.refCmd, State.command, hb, ho, hq, hp]

/-- A context command of a partition reaches its meaning. -/
theorem takes_ctxCmd {s : State} {p : Nat} (h : s.Takes .ctx (.part p)) (f : State → State) : (s.atReg (.part p) .ctx 0 fun s => s.command .ctx p f) = f s := by
  have hb := h.2.2.1; have ht := h.2.2.2; simp only [apIdx] at hb; simp [h.1.atReg _ _ _ _ ht, State.denies, Place.readOnly, Place.argMask, Place.notDebug, slotAt, State.command, hb]

/-- A host command of a partition reaches its meaning. -/
theorem takes_hstCmd {s : State} {p : Nat} (h : s.Takes .hst (.part p)) (f : Nat → State → State) : (s.given (apOk (.part p)) fun s => s.atReg (.part p) .hst 0 fun s => s.hstCmd (.part p) f) = f p s := by
  have hb := h.2.2.1; have ht := h.2.2.2; simp only [apIdx] at hb; simp [State.given, h.2.1, h.1.atReg _ _ _ _ ht, State.denies, Place.readOnly, Place.argMask, Place.notDebug, slotAt, State.hstCmd, State.command, hb]

/-- A vault command of the Lamp reaches its meaning. -/
theorem takes_vltCmd_lamp {s : State} (n : Nat) (h : s.Takes .vlt .lamp) (lo : Bool) (f : Nat → State → State) : (s.given true fun s => s.atReg .lamp .vlt 0 fun s => s.vltCmd .lamp n lo f) = f 7 s := by
  have hb := h.2.2.1; have ht := h.2.2.2; simp only [apIdx] at hb; simp [State.given, h.1.atReg _ _ _ _ ht, State.denies, Place.readOnly, Place.argMask, Place.notDebug, slotAt, State.vltCmd, State.command, hb]

/-- A vault command of the operator reaches its meaning, or ends with code 2 where only the Lamp may give it. -/
theorem takes_vltCmd_operator {s : State} (n : Nat) (h : s.Takes .vlt .operator) (lo : Bool) (f : Nat → State → State) : (s.given true fun s => s.atReg .operator .vlt 0 fun s => s.vltCmd .operator n lo f) = if lo then s.cmdEnd .vlt 0 n 2 else f 0 s := by
  have hb := h.2.2.1; have ht := h.2.2.2; simp only [apIdx] at hb; simp [State.given, h.1.atReg _ _ _ _ ht, State.denies, Place.readOnly, Place.argMask, Place.notDebug, slotAt, State.vltCmd, State.command, hb]

/-- A life-cycle command of the operator reaches its meaning. -/
theorem takes_lcsCmd {s : State} (h : s.Takes .lcs .operator) (hs : s.pins.strap.getLsbD 1 = false) (f : Nat → State → State) : (s.given (apOk .operator) fun s => s.atReg .operator .lcs 4 fun s => s.lcsCmd .operator f) = f 0 s := by
  have hb := h.2.2.1; have ht := h.2.2.2; simp only [apIdx] at hb; simp [State.given, apOk, h.1.atReg _ _ _ _ ht, State.denies, Place.readOnly, Place.argMask, Place.notDebug, slotAt, State.lcsCmd, State.command, hb]; intro h; simp [h] at hs

/-- A fault command of the operator reaches its meaning. -/
theorem takes_fltCmd_operator {s : State} (h : s.Takes .flt .operator) (f : Nat → State → State) : (s.given (apOk .operator) fun s => s.atReg .operator .flt 0 fun s => s.fltCmd .operator f) = f 0 s := by
  have hb := h.2.2.1; have ht := h.2.2.2; simp only [apIdx] at hb; simp [State.given, apOk, h.1.atReg _ _ _ _ ht, State.denies, Place.readOnly, Place.argMask, Place.notDebug, slotAt, State.fltCmd, State.command, hb]

/-- A fault command of the Lamp reaches its meaning. -/
theorem takes_fltCmd_lamp {s : State} (h : s.Takes .flt .lamp) (f : Nat → State → State) : (s.given (apOk .lamp) fun s => s.atReg .lamp .flt 0 fun s => s.fltCmd .lamp f) = f 7 s := by
  have hb := h.2.2.1; have ht := h.2.2.2; simp only [apIdx] at hb; simp [State.given, apOk, h.1.atReg _ _ _ _ ht, State.denies, Place.readOnly, Place.argMask, Place.notDebug, slotAt, State.fltCmd, State.command, hb]

/-- An observation command of the operator reaches its meaning. -/
theorem takes_obsCmd {s : State} (h : s.Takes .obs .operator) (f : Nat → State → State) : (s.given (apOk .operator) fun s => s.atReg .operator .obs 0 fun s => s.obsCmd .operator f) = f 0 s := by
  have hb := h.2.2.1; have ht := h.2.2.2; simp only [apIdx] at hb; simp [State.given, apOk, h.1.atReg _ _ _ _ ht, State.denies, Place.readOnly, Place.argMask, Place.notDebug, slotAt, State.obsCmd, State.command, hb]

/-- A peek of the operator reaches its meaning. -/
theorem takes_obsPeek {s : State} (h : s.Takes .obs .operator) : (s.given (apOk .operator) fun s => s.atReg .operator .obs 0 (obsPeek .operator)) = obsPeek .operator s := by
  have ht := h.2.2.2; simp [State.given, apOk, h.1.atReg _ _ _ _ ht, State.denies, Place.readOnly, Place.argMask, Place.notDebug, slotAt]

/-- A unit that exists is a unit of the package. -/
theorem isUnit_of_unitExists {u : UnitRef} (h : unitExists u = true) : isUnit u = true := by
  cases u <;> exact h

/-- The release of dg_por_n with the fuses read well goes on to the tests. -/
theorem porRelease_fuse_good (s : State) (i : StartInputs) (hp : s.pins.por = true) (h0 : s.pins.tamper = false) (h1 : i.fuseOk = true) :
      let a : State := { s with
        pins := { s.pins with por := false, trayReq := false }
        clk := { s.clk with cycP := s.clk.cyc }
        lse := { s.lse with stepAt := s.clk.cyc } }
      let b := a.enterStep 2
      porRelease i s = (i.bist.foldl State.bistRepair ({ b with fuse := { b.fuse with
        unitId := i.unitId, identity := i.identity, scrap := b.fuse.scrap || i.scrapped } }).fuseSecret).coldTests i := by
  intro a b; unfold porRelease
  rw [if_neg (by simp [hp]), if_neg (by simp [h0])]; dsimp only; rw [if_neg (by simp [h1])]

/-- A cold start whose tests pass goes on to the Lease read. -/
theorem coldTests_good (c : State) (i : StartInputs) (h2 : i.failedQuads.contains 0 = false) (h3 : i.katOk = true) (h4 : i.entropyOk = true) :
    let f := (((i.failedQuads.foldl State.failQuad ((c.enterStep 3).enterStep 4)).enterStep 5).enterStep 6)
    let g := ({ f with fresh := f.fresh + 1, vlt := { f.vlt with entropy := 1 } }).enterStep 7
    let h : State := { g with fuse := { g.fuse with lifecycle := g.fuse.evaluate }, pins := { g.pins with strap := i.strap } }
    c.coldTests i = if g.fuse.evaluate = 5 then { h with lse := { h.lse with halted := true } } else (h.readStart i.nor i.sigOk).1 := by
  intro f g h; simp only [State.coldTests, h2, h3, h4, Bool.not_true, Bool.false_eq_true, if_false]; rfl

end Sys2Proof.Machine
end

