-- ==== Sys2Proof/Laws/Kept.lean ====
section
/-!
SUPPORT. Laws/Kept.lean: what no command's meaning touches: for each function of the model that answers a state, its lemma `_kept` says that the
queue of waiting commands and the mailbox instances are as they were (for the few that work on mailboxes, the queue alone). Proofs about
commands cite these and unfold nothing.
-/

namespace Sys2Proof.Machine

@[simp] theorem foldl_pending {α : Type} (f : State → α → State) (h : ∀ s x, (f s x).pending = s.pending) (l : List α) (s : State) :
    (l.foldl f s).pending = s.pending := by induction l generalizing s with | nil => rfl | cons a l ih => simp [ih, h]
@[simp] theorem foldl_mbx {α : Type} (f : State → α → State) (h : ∀ s x, (f s x).mbx = s.mbx) (l : List α) (s : State) :
    (l.foldl f s).mbx = s.mbx := by induction l generalizing s with | nil => rfl | cons a l ih => simp [ih, h]
@[simp] theorem ite_pending (c : Prop) [Decidable c] (a b : State) :
    (if c then a else b).pending = if c then a.pending else b.pending := by split <;> rfl
@[simp] theorem ite_mbx (c : Prop) [Decidable c] (a b : State) : (if c then a else b).mbx = if c then a.mbx else b.mbx := by split <;> rfl
theorem foldl_kept {α : Type} (f : State → α → State) (h : ∀ s x, (f s x).pending = s.pending ∧ (f s x).mbx = s.mbx) (l : List α) (t s : State)
    (ht : t.pending = s.pending ∧ t.mbx = s.mbx) : (l.foldl f t).pending = s.pending ∧ (l.foldl f t).mbx = s.mbx := by
  induction l generalizing t with
  | nil => exact ht
  | cons a l ih => exact ih _ ⟨(h t a).1.trans ht.1, (h t a).2.trans ht.2⟩
theorem kept_trans {a b c : State} (h : a.pending = b.pending ∧ a.mbx = b.mbx) (h' : b.pending = c.pending ∧ b.mbx = c.mbx) :
    a.pending = c.pending ∧ a.mbx = c.mbx := ⟨h.1.trans h'.1, h.2.trans h'.2⟩

@[simp] theorem State.emit_kept (s : State) (o : Output) : (State.emit s o).pending = s.pending ∧ (State.emit s o).mbx = s.mbx := by
  simp [State.emit]
@[simp] theorem State.used_kept (s : State) : (State.used s).pending = s.pending ∧ (State.used s).mbx = s.mbx := by
  simp [State.used]
@[simp] theorem State.reach_kept (s : State) (t : Dword) : (State.reach s t).pending = s.pending ∧ (State.reach s t).mbx = s.mbx := by
  simp [State.reach]
@[simp] theorem State.bump_kept (s : State) (group unit n : Nat) :
    (State.bump s group unit n).pending = s.pending ∧ (State.bump s group unit n).mbx = s.mbx := by
  simp [State.bump]
@[simp] theorem State.modInst_kept (s : State) (b : Blk) (a : Nat) (f : Inst → Inst) :
    (State.modInst s b a f).pending = s.pending ∧ (State.modInst s b a f).mbx = s.mbx := by
  simp [State.modInst]
@[simp] theorem State.irq_kept (s : State) (b : Blk) (a bit : Nat) :
    (State.irq s b a bit).pending = s.pending ∧ (State.irq s b a bit).mbx = s.mbx := by
  simp [State.irq]
@[simp] theorem State.irqVis_kept (s : State) (b : Blk) (p bit : Nat) :
    (State.irqVis s b p bit).pending = s.pending ∧ (State.irqVis s b p bit).mbx = s.mbx := by
  simp [State.irqVis]
@[simp] theorem State.cmdBusy_kept (s : State) (b : Blk) (a unit : Nat) :
    (State.cmdBusy s b a unit).pending = s.pending ∧ (State.cmdBusy s b a unit).mbx = s.mbx := by
  simp [State.cmdBusy]
@[simp] theorem State.cmdEnd_kept (s : State) (b : Blk) (a unit code : Nat) :
    (State.cmdEnd s b a unit code).pending = s.pending ∧ (State.cmdEnd s b a unit code).mbx = s.mbx := by
  simp [State.cmdEnd]
@[simp] theorem State.cmdIgnored_kept (s : State) (b : Blk) (a : Nat) :
    (State.cmdIgnored s b a).pending = s.pending ∧ (State.cmdIgnored s b a).mbx = s.mbx := by
  simp [State.cmdIgnored]
@[simp] theorem State.noAction_kept (s : State) (b : Blk) (a : Nat) :
    (State.noAction s b a).pending = s.pending ∧ (State.noAction s b a).mbx = s.mbx := by
  simp [State.noAction]
@[simp] theorem State.command_kept (s : State) (b : Blk) (a : Nat) (f : State → State) (h_f : ∀ y0, (f y0).pending = y0.pending ∧ (f y0).mbx = y0.mbx) :
    (State.command s b a f).pending = s.pending ∧ (State.command s b a f).mbx = s.mbx := by
  simp [State.command, h_f]
@[simp] theorem State.raise_kept (s : State) (code scope part : Nat) (ctx : Option (BitVec 16)) (o : Obj) :
    (State.raise s code scope part ctx o).pending = s.pending ∧ (State.raise s code scope part ctx o).mbx = s.mbx := by
  simp [State.raise]
@[simp] theorem State.logged_kept (s : State) (code part : Nat) (o : Obj) :
    (State.logged s code part o).pending = s.pending ∧ (State.logged s code part o).mbx = s.mbx := by
  simp [State.logged]
@[simp] theorem State.withDrbg_kept (s t : State) (h : t.pending = s.pending ∧ t.mbx = s.mbx) :
    (State.withDrbg s t).pending = s.pending ∧ (State.withDrbg s t).mbx = s.mbx := by
  unfold State.withDrbg; split
  · exact h
  · simp
@[simp] theorem State.toPart_kept (s : State) (code part : Nat) (o : Obj) :
    (State.toPart s code part o).pending = s.pending ∧ (State.toPart s code part o).mbx = s.mbx := by
  simp [State.toPart]
@[simp] theorem State.alarm_kept (s : State) (code : Nat) (o : Obj) :
    (State.alarm s code o).pending = s.pending ∧ (State.alarm s code o).mbx = s.mbx := by
  simp [State.alarm]
@[simp] theorem State.stale_kept (s : State) (p : Nat) : (State.stale s p).pending = s.pending ∧ (State.stale s p).mbx = s.mbx := by
  simp [State.stale]
@[simp] theorem State.pushLoss_kept (s : State) (p : Nat) (tag : BitVec 16) (code : BitVec 16) :
    (State.pushLoss s p tag code).pending = s.pending ∧ (State.pushLoss s p tag code).mbx = s.mbx := by
  simp [State.pushLoss]
@[simp] theorem State.unregister_kept (s : State) (tag : Nat) :
    (State.unregister s tag).pending = s.pending ∧ (State.unregister s tag).mbx = s.mbx := by
  simp [State.unregister]
@[simp] theorem State.withdrawWait_kept (s : State) (tag : Nat) :
    (State.withdrawWait s tag).pending = s.pending ∧ (State.withdrawWait s tag).mbx = s.mbx := by
  unfold State.withdrawWait; (try dsimp only); (repeat' (first | (simp [*]; done) | (refine foldl_kept _ ?_ _ _ _ ?_ <;> intros <;> (try dsimp only)) | split | (apply And.intro)))
@[simp] theorem State.haltTask_kept (s : State) (t code : Nat) :
    (State.haltTask s t code).pending = s.pending ∧ (State.haltTask s t code).mbx = s.mbx := by
  unfold State.haltTask
  extract_lets k t k'
  have e : t.pending = s.pending ∧ t.mbx = s.mbx := by
    simp only [t]; cases k.req with
    | none => exact ⟨rfl, rfl⟩
    | some r => exact State.withdrawWait_kept s r
  clear_value t
  split <;> simp [e]
@[simp] theorem State.ctxEnds_kept (s : State) (p : Nat) (tag : BitVec 16) (code : Nat) :
    (State.ctxEnds s p tag code).pending = s.pending ∧ (State.ctxEnds s p tag code).mbx = s.mbx := by
  simp [State.ctxEnds]
@[simp] theorem State.loseCtx_kept (s : State) (p : Nat) (tag : BitVec 16) (code : Nat) (o : Obj) :
    (State.loseCtx s p tag code o).pending = s.pending ∧ (State.loseCtx s p tag code o).mbx = s.mbx := by
  simp [State.loseCtx]
@[simp] theorem State.keepCtx_kept (s : State) (p : Nat) (tag : BitVec 16) (code : Nat) (o : Obj) :
    (State.keepCtx s p tag code o).pending = s.pending ∧ (State.keepCtx s p tag code o).mbx = s.mbx := by
  simp [State.keepCtx]
@[simp] theorem State.loseOpt_kept (s : State) (p : Nat) (tag : Option (BitVec 16)) (code : Nat) (o : Obj) :
    (State.loseOpt s p tag code o).pending = s.pending ∧ (State.loseOpt s p tag code o).mbx = s.mbx := by
  unfold State.loseOpt; (try dsimp only); (repeat' (first | (simp [*]; done) | (refine foldl_kept _ ?_ _ _ _ ?_ <;> intros <;> (try dsimp only)) | split | (apply And.intro)))
@[simp] theorem State.keepOpt_kept (s : State) (p : Nat) (tag : Option (BitVec 16)) (code : Nat) (o : Obj) :
    (State.keepOpt s p tag code o).pending = s.pending ∧ (State.keepOpt s p tag code o).mbx = s.mbx := by
  unfold State.keepOpt; (try dsimp only); (repeat' (first | (simp [*]; done) | (refine foldl_kept _ ?_ _ _ _ ?_ <;> intros <;> (try dsimp only)) | split | (apply And.intro)))
@[simp] theorem State.setSlot_kept (s : State) (n : Nat) (k : Slot) :
    (State.setSlot s n k).pending = s.pending ∧ (State.setSlot s n k).mbx = s.mbx := by
  simp [State.setSlot]
@[simp] theorem State.putKey_kept (s : State) (n : Nat) (usage : BitVec 5) (owner : Nat) (level : BitVec 3) (origin : BitVec 2)
    (epoch : BitVec 16) (key : BitVec 512) : (State.putKey s n usage owner level origin epoch key).pending = s.pending ∧ (State.putKey s n usage owner level origin epoch key).mbx = s.mbx := by
  simp [State.putKey]
@[simp] theorem State.genKey_kept (s : State) (n : Nat) (usage : BitVec 5) (owner : Nat) (level : BitVec 3) (epoch : BitVec 16) :
    (State.genKey s n usage owner level epoch).pending = s.pending ∧ (State.genKey s n usage owner level epoch).mbx = s.mbx := by
  simp [State.genKey]
@[simp] theorem State.retireSlot_kept (s : State) (n : Nat) : (State.retireSlot s n).pending = s.pending ∧ (State.retireSlot s n).mbx = s.mbx := by
  simp [State.retireSlot]
@[simp] theorem State.killSlot_kept (s : State) (n : Nat) : (State.killSlot s n).pending = s.pending ∧ (State.killSlot s n).mbx = s.mbx := by
  simp [State.killSlot]
@[simp] theorem State.killSlots_kept (s : State) (l : List Nat) : (State.killSlots s l).pending = s.pending ∧ (State.killSlots s l).mbx = s.mbx := by
  simp [State.killSlots]
@[simp] theorem State.cacheKey_kept (s : State) (c n : Nat) : (State.cacheKey s c n).pending = s.pending ∧ (State.cacheKey s c n).mbx = s.mbx := by
  simp [State.cacheKey]
@[simp] theorem State.passCluster_kept (s : State) (c part cycles : Nat) (ctx : Option (BitVec 16)) (slots : List Nat) :
    (State.passCluster s c part cycles ctx slots).pending = s.pending ∧ (State.passCluster s c part cycles ctx slots).mbx = s.mbx := by
  unfold State.passCluster; (try dsimp only); (repeat' (first | (simp [*]; done) | (refine foldl_kept _ ?_ _ _ _ ?_ <;> intros <;> (try dsimp only)) | split | (apply And.intro)))
@[simp] theorem State.toHost_kept (s : State) (p sub : Nat) (ctx : Option (BitVec 16)) (bytes : List Byte) (o : Option Nat → List Byte → Output) :
    (State.toHost s p sub ctx bytes o).pending = s.pending ∧ (State.toHost s p sub ctx bytes o).mbx = s.mbx := by
  unfold State.toHost; (try dsimp only); (repeat' (first | (simp [*]; done) | (refine foldl_kept _ ?_ _ _ _ ?_ <;> intros <;> (try dsimp only)) | split | (apply And.intro)))
@[simp] theorem State.cpl_kept (s : State) (fn tag status : Nat) (bytes : List Byte) (ctx : Option (BitVec 16)) :
    (State.cpl s fn tag status bytes ctx).pending = s.pending ∧ (State.cpl s fn tag status bytes ctx).mbx = s.mbx := by
  simp [State.cpl]
@[simp] theorem State.pme_kept (s : State) (p cause : Nat) : (State.pme s p cause).pending = s.pending ∧ (State.pme s p cause).mbx = s.mbx := by
  simp [State.pme]
@[simp] theorem State.modSeam_kept (s : State) (n : Nat) (f : Seam → Seam) :
    (State.modSeam s n f).pending = s.pending ∧ (State.modSeam s n f).mbx = s.mbx := by
  simp [State.modSeam]
@[simp] theorem State.seamEnd_kept (s : State) (a n code : Nat) :
    (State.seamEnd s a n code).pending = s.pending ∧ (State.seamEnd s a n code).mbx = s.mbx := by
  simp [State.seamEnd]
@[simp] theorem State.sealDropped_kept (s : State) (n : Nat) : (State.sealDropped s n).pending = s.pending ∧ (State.sealDropped s n).mbx = s.mbx := by
  simp [State.sealDropped]
@[simp] theorem State.modHz_kept (s : State) (p : Nat) (f : Horizon → Horizon) :
    (State.modHz s p f).pending = s.pending ∧ (State.modHz s p f).mbx = s.mbx := by
  simp [State.modHz]
@[simp] theorem State.dropQuiet_kept (s : State) (e : Egress) : (State.dropQuiet s e).pending = s.pending ∧ (State.dropQuiet s e).mbx = s.mbx := by
  unfold State.dropQuiet; (try dsimp only); (repeat' (first | (simp [*]; done) | (refine foldl_kept _ ?_ _ _ _ ?_ <;> intros <;> (try dsimp only)) | split | (apply And.intro)))
@[simp] theorem State.dropEgress_kept (s : State) (p : Nat) : (State.dropEgress s p).pending = s.pending ∧ (State.dropEgress s p).mbx = s.mbx := by
  simp [State.dropEgress]
@[simp] theorem State.powerCycle_kept (s : State) : (State.powerCycle s).pending = s.pending ∧ (State.powerCycle s).mbx = s.mbx := by
  simp [State.powerCycle]
@[simp] theorem State.warmDue_kept (s : State) : (State.warmDue s).pending = s.pending ∧ (State.warmDue s).mbx = s.mbx := by
  simp [State.warmDue]
@[simp] theorem State.chipStep_kept (s : State) (code : Nat) : (State.chipStep s code).pending = s.pending ∧ (State.chipStep s code).mbx = s.mbx := by
  simp [State.chipStep]
@[simp] theorem State.loseAll_kept (s : State) (p : Nat) (code : Nat) :
    (State.loseAll s p code).pending = s.pending ∧ (State.loseAll s p code).mbx = s.mbx := by
  simp [State.loseAll]
@[simp] theorem State.partStep_kept (s : State) (p : Nat) (byCmd : Option Nat) :
    (State.partStep s p byCmd).pending = s.pending ∧ (State.partStep s p byCmd).mbx = s.mbx := by
  simp [State.partStep]
@[simp] theorem State.partFault_kept (s : State) (code p : Nat) (o : Obj) :
    (State.partFault s code p o).pending = s.pending ∧ (State.partFault s code p o).mbx = s.mbx := by
  simp [State.partFault]
@[simp] theorem State.modShaft_kept (s : State) (k : Nat) (f : Shaft → Shaft) :
    (State.modShaft s k f).pending = s.pending ∧ (State.modShaft s k f).mbx = s.mbx := by
  simp [State.modShaft]
@[simp] theorem State.wantDrift_kept (s : State) (n cls : Nat) (start : Nat) (front : Bool) :
    (State.wantDrift s n cls start front).pending = s.pending ∧ (State.wantDrift s n cls start front).mbx = s.mbx := by
  unfold State.wantDrift; (try dsimp only); (repeat' (first | (simp [*]; done) | (refine foldl_kept _ ?_ _ _ _ ?_ <;> intros <;> (try dsimp only)) | split | (apply And.intro)))
@[simp] theorem State.endSweeps_kept (s : State) (n : Nat) : (State.endSweeps s n).pending = s.pending ∧ (State.endSweeps s n).mbx = s.mbx := by
  simp [State.endSweeps]
@[simp] theorem State.freezeSeam_kept (s : State) (n code : Nat) (o : Obj) :
    (State.freezeSeam s n code o).pending = s.pending ∧ (State.freezeSeam s n code o).mbx = s.mbx := by
  simp [State.freezeSeam]
@[simp] theorem State.countIntegrity_kept (s : State) (n : Nat) (o : Obj) :
    (State.countIntegrity s n o).pending = s.pending ∧ (State.countIntegrity s n o).mbx = s.mbx := by
  simp [State.countIntegrity]
@[simp] theorem State.seamCmd_kept (s : State) (ap : Aperture) (n : Nat) (f : Nat → State → State) (h_f : ∀ y0 y1, (f y0 y1).pending = y1.pending ∧ (f y0 y1).mbx = y1.mbx) :
    (State.seamCmd s ap n f).pending = s.pending ∧ (State.seamCmd s ap n f).mbx = s.mbx := by
  unfold State.seamCmd; (try dsimp only); (repeat' (first | (simp [*]; done) | (refine foldl_kept _ ?_ _ _ _ ?_ <;> intros <;> (try dsimp only)) | (refine kept_trans (State.command_kept _ _ _ _ ?_ ) ?_ <;> intros <;> (try dsimp only)) | split | (apply And.intro)))
@[simp] theorem State.noKey_kept (s : State) (p : Nat) : (State.noKey s p).pending = s.pending ∧ (State.noKey s p).mbx = s.mbx := by
  simp [State.noKey]
@[simp] theorem State.zeroCounters_kept (s : State) (e : Seam) :
    (State.zeroCounters s e).pending = s.pending ∧ (State.zeroCounters s e).mbx = s.mbx := by
  simp [State.zeroCounters]
@[simp] theorem State.dropVals_kept (s : State) (line n : Nat) :
    (State.dropVals s line n).pending = s.pending ∧ (State.dropVals s line n).mbx = s.mbx := by
  simp [State.dropVals]
@[simp] theorem State.createBegin_kept (s : State) (a n : Nat) (e : Seam) (fill : Bool) :
    (State.createBegin s a n e fill).pending = s.pending ∧ (State.createBegin s a n e fill).mbx = s.mbx := by
  simp [State.createBegin]
@[simp] theorem seamCreate_kept (ap : Aperture) (n : Nat) (s : State) :
    (seamCreate ap n s).pending = s.pending ∧ (seamCreate ap n s).mbx = s.mbx := by
  unfold seamCreate; (try dsimp only); (repeat' (first | (simp [*]; done) | (refine foldl_kept _ ?_ _ _ _ ?_ <;> intros <;> (try dsimp only)) | (refine kept_trans (State.command_kept _ _ _ _ ?_ ) ?_ <;> intros <;> (try dsimp only)) | split | (apply And.intro)))
@[simp] theorem State.seamReady_kept (s : State) (n : Nat) (st : SeamState) :
    (State.seamReady s n st).pending = s.pending ∧ (State.seamReady s n st).mbx = s.mbx := by
  simp [State.seamReady]
@[simp] theorem seamCreateDone_kept (n : Nat) (s : State) : (seamCreateDone n s).pending = s.pending ∧ (seamCreateDone n s).mbx = s.mbx := by
  simp [seamCreateDone]
@[simp] theorem seamFillDone_kept (n : Nat) (s : State) : (seamFillDone n s).pending = s.pending ∧ (seamFillDone n s).mbx = s.mbx := by
  unfold seamFillDone; (try dsimp only); (repeat' (first | (simp [*]; done) | (refine foldl_kept _ ?_ _ _ _ ?_ <;> intros <;> (try dsimp only)) | split | (apply And.intro)))
@[simp] theorem State.hold_kept (s : State) (p : Nat) (pt : EgressPoint) (ctx : Option (BitVec 16)) (c : Cargo) :
    (State.hold s p pt ctx c).pending = s.pending ∧ (State.hold s p pt ctx c).mbx = s.mbx := by
  simp [State.hold]
@[simp] theorem State.sealBy_kept (s : State) (a n : Nat) (ctx : Option (BitVec 16)) :
    (State.sealBy s a n ctx).pending = s.pending ∧ (State.sealBy s a n ctx).mbx = s.mbx := by
  simp [State.sealBy]
@[simp] theorem seamSeal_kept (ap : Aperture) (n : Nat) (s : State) : (seamSeal ap n s).pending = s.pending ∧ (seamSeal ap n s).mbx = s.mbx := by
  simp [seamSeal]
@[simp] theorem sealPoint_kept (n : Nat) (s : State) : (sealPoint n s).pending = s.pending ∧ (sealPoint n s).mbx = s.mbx := by
  unfold sealPoint; (try dsimp only); (repeat' (first | (simp [*]; done) | (refine foldl_kept _ ?_ _ _ _ ?_ <;> intros <;> (try dsimp only)) | split | (apply And.intro)))
@[simp] theorem State.nextKeys_kept (s : State) (n : Nat) : (State.nextKeys s n).pending = s.pending ∧ (State.nextKeys s n).mbx = s.mbx := by
  simp [State.nextKeys]
@[simp] theorem State.swapSlots_kept (s : State) (n : Nat) : (State.swapSlots s n).pending = s.pending ∧ (State.swapSlots s n).mbx = s.mbx := by
  simp [State.swapSlots]
@[simp] theorem State.unsealGo_kept (s : State) (n : Nat) : (State.unsealGo s n).pending = s.pending ∧ (State.unsealGo s n).mbx = s.mbx := by
  unfold State.unsealGo; (try dsimp only); (repeat' (first | (simp [*]; done) | (refine foldl_kept _ ?_ _ _ _ ?_ <;> intros <;> (try dsimp only)) | split | (apply And.intro)))
@[simp] theorem seamUnseal_kept (ap : Aperture) (n : Nat) (s : State) :
    (seamUnseal ap n s).pending = s.pending ∧ (seamUnseal ap n s).mbx = s.mbx := by
  simp [seamUnseal]
@[simp] theorem seamRekey_kept (ap : Aperture) (n : Nat) (s : State) : (seamRekey ap n s).pending = s.pending ∧ (seamRekey ap n s).mbx = s.mbx := by
  unfold seamRekey; (try dsimp only); (repeat' (first | (simp [*]; done) | (refine foldl_kept _ ?_ _ _ _ ?_ <;> intros <;> (try dsimp only)) | (refine kept_trans (State.seamCmd_kept _ _ _ _ ?_ ) ?_ <;> intros <;> (try dsimp only)) | split | (apply And.intro)))
@[simp] theorem State.endCommand_kept (s : State) (n : Nat) : (State.endCommand s n).pending = s.pending ∧ (State.endCommand s n).mbx = s.mbx := by
  unfold State.endCommand; (try dsimp only); (repeat' (first | (simp [*]; done) | (refine foldl_kept _ ?_ _ _ _ ?_ <;> intros <;> (try dsimp only)) | split | (apply And.intro)))
@[simp] theorem State.retireSeam_kept (s : State) (n : Nat) : (State.retireSeam s n).pending = s.pending ∧ (State.retireSeam s n).mbx = s.mbx := by
  unfold State.retireSeam; (try dsimp only); (repeat' (first | (simp [*]; done) | (refine foldl_kept _ ?_ _ _ _ ?_ <;> intros <;> (try dsimp only)) | split | (apply And.intro)))
@[simp] theorem seamRetire_kept (ap : Aperture) (n : Nat) (s : State) :
    (seamRetire ap n s).pending = s.pending ∧ (seamRetire ap n s).mbx = s.mbx := by
  unfold seamRetire; (try dsimp only); (repeat' (first | (simp [*]; done) | (refine foldl_kept _ ?_ _ _ _ ?_ <;> intros <;> (try dsimp only)) | (refine kept_trans (State.seamCmd_kept _ _ _ _ ?_ ) ?_ <;> intros <;> (try dsimp only)) | split | (apply And.intro)))
@[simp] theorem seamDead_kept (n : Nat) (s : State) : (seamDead n s).pending = s.pending ∧ (seamDead n s).mbx = s.mbx := by
  simp [seamDead]
@[simp] theorem seamUnfreeze_kept (ap : Aperture) (n : Nat) (s : State) :
    (seamUnfreeze ap n s).pending = s.pending ∧ (seamUnfreeze ap n s).mbx = s.mbx := by
  unfold seamUnfreeze; (try dsimp only); (repeat' (first | (simp [*]; done) | (refine foldl_kept _ ?_ _ _ _ ?_ <;> intros <;> (try dsimp only)) | (refine kept_trans (State.seamCmd_kept _ _ _ _ ?_ ) ?_ <;> intros <;> (try dsimp only)) | split | (apply And.intro)))
@[simp] theorem State.startSweep_kept (s : State) (k : Nat) (w : Sweep) :
    (State.startSweep s k w).pending = s.pending ∧ (State.startSweep s k w).mbx = s.mbx := by
  simp [State.startSweep]
@[simp] theorem driftStart_kept (k : Nat) (s : State) : (driftStart k s).pending = s.pending ∧ (driftStart k s).mbx = s.mbx := by
  unfold driftStart; (try dsimp only); (repeat' (first | (simp [*]; done) | (refine foldl_kept _ ?_ _ _ _ ?_ <;> intros <;> (try dsimp only)) | split | (apply And.intro)))
@[simp] theorem State.driftDone_kept (s : State) (k n : Nat) : (State.driftDone s k n).pending = s.pending ∧ (State.driftDone s k n).mbx = s.mbx := by
  simp [State.driftDone]
@[simp] theorem periodicDriftDue_kept (n : Nat) (s : State) : (periodicDriftDue n s).pending = s.pending ∧ (periodicDriftDue n s).mbx = s.mbx := by
  simp [periodicDriftDue]
@[simp] theorem rekeyOverrun_kept (n : Nat) (s : State) : (rekeyOverrun n s).pending = s.pending ∧ (rekeyOverrun n s).mbx = s.mbx := by
  unfold rekeyOverrun; (try dsimp only); (repeat' (first | (simp [*]; done) | (refine foldl_kept _ ?_ _ _ _ ?_ <;> intros <;> (try dsimp only)) | split | (apply And.intro)))
@[simp] theorem budgetWindowClose_kept (n : Nat) (s : State) : (budgetWindowClose n s).pending = s.pending ∧ (budgetWindowClose n s).mbx = s.mbx := by
  unfold budgetWindowClose; (try dsimp only); (repeat' (first | (simp [*]; done) | (refine foldl_kept _ ?_ _ _ _ ?_ <;> intros <;> (try dsimp only)) | split | (apply And.intro)))
theorem seamEntryWrite_kept (s : State) (n : Nat) (w : BitVec 256) {t_ : State} (e_ : seamEntryWrite s n w = some t_) : t_.pending = s.pending ∧ t_.mbx = s.mbx := by
  first | (unfold seamEntryWrite at e_; (try dsimp only at e_); (repeat' (first | contradiction | (simp only [Option.map_eq_some_iff, Option.bind_eq_some_iff, Option.some.injEq, Prod.mk.injEq] at e_; simp_all; done) | (cases e_; simp; done) | split at e_)); done) | (simp only [seamEntryWrite, Option.map_eq_some_iff, Prod.mk.injEq] at e_; obtain ⟨_, _, rfl, rfl⟩ := e_; simp; done) | (simp only [seamEntryWrite, Option.map_eq_some_iff] at e_; obtain ⟨_, _, rfl⟩ := e_; simp; done) | (grind [seamEntryWrite])
@[simp] theorem seamEntryWrite_getD (s : State) (n : Nat) (w : BitVec 256) (u_ : State) (h_ : u_.pending = s.pending ∧ u_.mbx = s.mbx) :
    ((seamEntryWrite s n w).getD u_).pending = s.pending ∧ ((seamEntryWrite s n w).getD u_).mbx = s.mbx := by
  cases e_ : seamEntryWrite s n w with
  | none => exact h_
  | some t_ => exact seamEntryWrite_kept _ _ _ e_
@[simp] theorem State.modSite_kept (s : State) (t : Nat) (f : Site → Site) :
    (State.modSite s t f).pending = s.pending ∧ (State.modSite s t f).mbx = s.mbx := by
  simp [State.modSite]
@[simp] theorem State.modSio_kept (s : State) (t : Nat) (f : SiteIo → SiteIo) :
    (State.modSio s t f).pending = s.pending ∧ (State.modSio s t f).mbx = s.mbx := by
  simp [State.modSio]
theorem State.putLink_kept (s : State) (epoch : BitVec 16) (key : BitVec 512) {a_ : Nat} {t_ : State} (e_ : State.putLink s epoch key = some (a_, t_)) : t_.pending = s.pending ∧ t_.mbx = s.mbx := by
  first | (unfold State.putLink at e_; (try dsimp only at e_); (repeat' (first | contradiction | (simp only [Option.map_eq_some_iff, Option.bind_eq_some_iff, Option.some.injEq, Prod.mk.injEq] at e_; simp_all; done) | (cases e_; simp; done) | split at e_)); done) | (simp only [State.putLink, Option.map_eq_some_iff, Prod.mk.injEq] at e_; obtain ⟨_, _, rfl, rfl⟩ := e_; simp; done) | (simp only [State.putLink, Option.map_eq_some_iff] at e_; obtain ⟨_, _, rfl⟩ := e_; simp; done) | (grind [State.putLink, State.putKey_kept])
@[simp] theorem State.putFrame_kept (s : State) (t : Nat) (b : List Byte) :
    (State.putFrame s t b).pending = s.pending ∧ (State.putFrame s t b).mbx = s.mbx := by
  simp [State.putFrame]
@[simp] theorem State.fillFlit_kept (s : State) (t : Nat) : (State.fillFlit s t).pending = s.pending ∧ (State.fillFlit s t).mbx = s.mbx := by
  simp [State.fillFlit]
@[simp] theorem State.sendFrame_kept (s : State) (t : Nat) (f : OutFrame) :
    (State.sendFrame s t f).pending = s.pending ∧ (State.sendFrame s t f).mbx = s.mbx := by
  simp [State.sendFrame]
@[simp] theorem State.advanceTx_kept (s : State) (t : Nat) : (State.advanceTx s t).pending = s.pending ∧ (State.advanceTx s t).mbx = s.mbx := by
  unfold State.advanceTx; (try dsimp only); (repeat' (first | (simp [*]; done) | (have e_1 := State.putLink_kept _ _ _ (by assumption); simp [*]; done) | (refine foldl_kept _ ?_ _ _ _ ?_ <;> intros <;> (try dsimp only)) | split | (apply And.intro)))
@[simp] theorem State.txFrame_kept (s : State) (t : Nat) (f : OutFrame) :
    (State.txFrame s t f).pending = s.pending ∧ (State.txFrame s t f).mbx = s.mbx := by
  simp [State.txFrame]
@[simp] theorem State.ctrl_kept (s : State) (t code : Nat) (payload : List Byte) :
    (State.ctrl s t code payload).pending = s.pending ∧ (State.ctrl s t code payload).mbx = s.mbx := by
  simp [State.ctrl]
@[simp] theorem State.boot_kept (s : State) (t code : Nat) (msg : List Byte) :
    (State.boot s t code msg).pending = s.pending ∧ (State.boot s t code msg).mbx = s.mbx := by
  simp [State.boot]
@[simp] theorem State.endSlotOp_kept (s : State) (t tag : Nat) :
    (State.endSlotOp s t tag).pending = s.pending ∧ (State.endSlotOp s t tag).mbx = s.mbx := by
  simp [State.endSlotOp]
@[simp] theorem State.sendRsp_kept (s : State) (t : Nat) (f : OutFrame) :
    (State.sendRsp s t f).pending = s.pending ∧ (State.sendRsp s t f).mbx = s.mbx := by
  unfold State.sendRsp; (try dsimp only); (repeat' (first | (simp [*]; done) | (refine foldl_kept _ ?_ _ _ _ ?_ <;> intros <;> (try dsimp only)) | split | (apply And.intro)))
@[simp] theorem State.respond_kept (s : State) (t : Nat) (f : OutFrame) :
    (State.respond s t f).pending = s.pending ∧ (State.respond s t f).mbx = s.mbx := by
  simp [State.respond]
@[simp] theorem State.answered_kept (s : State) (t tag : Nat) :
    (State.answered s t tag).pending = s.pending ∧ (State.answered s t tag).mbx = s.mbx := by
  simp [State.answered]
@[simp] theorem State.cmpl_kept (s : State) (t tag status : Nat) :
    (State.cmpl s t tag status).pending = s.pending ∧ (State.cmpl s t tag status).mbx = s.mbx := by
  simp [State.cmpl]
@[simp] theorem State.rsp_kept (s : State) (t : Nat) (o : SlotOp) (status : Nat) (poison : Bool) (data : List Byte) :
    (State.rsp s t o status poison data).pending = s.pending ∧ (State.rsp s t o status poison data).mbx = s.mbx := by
  simp [State.rsp]
@[simp] theorem State.modPort_kept (s : State) (p : Nat) (f : Port → Port) :
    (State.modPort s p f).pending = s.pending ∧ (State.modPort s p f).mbx = s.mbx := by
  simp [State.modPort]
@[simp] theorem State.modPio_kept (s : State) (p : Nat) (f : PortIo → PortIo) :
    (State.modPio s p f).pending = s.pending ∧ (State.modPio s p f).mbx = s.mbx := by
  simp [State.modPio]
@[simp] theorem State.dropAt_kept (s : State) (p : Nat) : (State.dropAt s p).pending = s.pending ∧ (State.dropAt s p).mbx = s.mbx := by
  simp [State.dropAt]
@[simp] theorem State.modNode_kept (s : State) (n : Nat) (f : NodeEnt → NodeEnt) :
    (State.modNode s n f).pending = s.pending ∧ (State.modNode s n f).mbx = s.mbx := by
  simp [State.modNode]
@[simp] theorem State.putTx_kept (s : State) (f : FlowTx) : (State.putTx s f).pending = s.pending ∧ (State.putTx s f).mbx = s.mbx := by
  simp [State.putTx]
@[simp] theorem State.codeword_kept (s : State) (port : Nat) (b : List Byte) :
    (State.codeword s port b).pending = s.pending ∧ (State.codeword s port b).mbx = s.mbx := by
  simp [State.codeword]
@[simp] theorem State.putOnWire_kept (s : State) (port payload : Nat) (b : List Byte) (vl : Nat) :
    (State.putOnWire s port payload b vl).pending = s.pending ∧ (State.putOnWire s port payload b vl).mbx = s.mbx := by
  unfold State.putOnWire; (try dsimp only); (repeat' (first | (simp [*]; done) | (refine foldl_kept _ ?_ _ _ _ ?_ <;> intros <;> (try dsimp only)) | split | (apply And.intro)))
@[simp] theorem State.transmit_kept (s : State) (port : Nat) (p : Packet) :
    (State.transmit s port p).pending = s.pending ∧ (State.transmit s port p).mbx = s.mbx := by
  unfold State.transmit; (try dsimp only); (repeat' (first | (simp [*]; done) | (refine foldl_kept _ ?_ _ _ _ ?_ <;> intros <;> (try dsimp only)) | split | (apply And.intro)))
@[simp] theorem State.sendItem_kept (s : State) (port : Nat) (x : Queued) :
    (State.sendItem s port x).pending = s.pending ∧ (State.sendItem s port x).mbx = s.mbx := by
  unfold State.sendItem; (try dsimp only); (repeat' (first | (simp [*]; done) | (refine foldl_kept _ ?_ _ _ _ ?_ <;> intros <;> (try dsimp only)) | split | (apply And.intro)))
@[simp] theorem State.drainTx_kept (s : State) (port : Nat) : (State.drainTx s port).pending = s.pending ∧ (State.drainTx s port).mbx = s.mbx := by
  unfold State.drainTx; (try dsimp only); (repeat' (first | (simp [*]; done) | (refine foldl_kept _ ?_ _ _ _ ?_ <;> intros <;> (try dsimp only)) | split | (apply And.intro)))
@[simp] theorem State.present_kept (s : State) (port : Nat) (x : Queued) :
    (State.present s port x).pending = s.pending ∧ (State.present s port x).mbx = s.mbx := by
  simp [State.present]
@[simp] theorem State.sendClear_kept (s : State) (port : Nat) (p : Packet) :
    (State.sendClear s port p).pending = s.pending ∧ (State.sendClear s port p).mbx = s.mbx := by
  simp [State.sendClear]
@[simp] theorem State.answerTo_kept (s : State) (a : Answer) (dst : Nat) (fmt : Nat) (ctx : Option (BitVec 16)) :
    (State.answerTo s a dst fmt ctx).pending = s.pending ∧ (State.answerTo s a dst fmt ctx).mbx = s.mbx := by
  unfold State.answerTo; (try dsimp only); (repeat' (first | (simp [*]; done) | (refine foldl_kept _ ?_ _ _ _ ?_ <;> intros <;> (try dsimp only)) | split | (apply And.intro)))
@[simp] theorem State.modTarget_kept (s : State) (t : Nat) (f : Target → Target) :
    (State.modTarget s t f).pending = s.pending ∧ (State.modTarget s t f).mbx = s.mbx := by
  simp [State.modTarget]
@[simp] theorem State.faceRefused_kept (s : State) (part code : Nat) :
    (State.faceRefused s part code).pending = s.pending ∧ (State.faceRefused s part code).mbx = s.mbx := by
  simp [State.faceRefused]
@[simp] theorem State.opFault_kept (s : State) (part : Nat) (ctx : Option (BitVec 16)) (code : Nat) (o : Obj) :
    (State.opFault s part ctx code o).pending = s.pending ∧ (State.opFault s part ctx code o).mbx = s.mbx := by
  simp [State.opFault]
@[simp] theorem State.markFailed_kept (s : State) (e : Engine) (part : Nat) (ctx : Option (BitVec 16)) :
    (State.markFailed s e part ctx).pending = s.pending ∧ (State.markFailed s e part ctx).mbx = s.mbx := by
  unfold State.markFailed; (try dsimp only); (repeat' (first | (simp [*]; done) | (refine foldl_kept _ ?_ _ _ _ ?_ <;> intros <;> (try dsimp only)) | split | (apply And.intro)))
@[simp] theorem State.dropHome_kept (s : State) (n : Nat) : (State.dropHome s n).pending = s.pending ∧ (State.dropHome s n).mbx = s.mbx := by
  simp [State.dropHome]
@[simp] theorem State.cartFailed_kept (s : State) (r : Req) : (State.cartFailed s r).pending = s.pending ∧ (State.cartFailed s r).mbx = s.mbx := by
  simp [State.cartFailed]
@[simp] theorem State.modTask_kept (s : State) (t : Nat) (f : Task → Task) :
    (State.modTask s t f).pending = s.pending ∧ (State.modTask s t f).mbx = s.mbx := by
  simp [State.modTask]
@[simp] theorem State.stepDone_kept (s : State) (t : Nat) (next : Nat) :
    (State.stepDone s t next).pending = s.pending ∧ (State.stepDone s t next).mbx = s.mbx := by
  simp [State.stepDone]
@[simp] theorem State.wakePme_kept (s : State) (r : Req) (code : Nat) :
    (State.wakePme s r code).pending = s.pending ∧ (State.wakePme s r code).mbx = s.mbx := by
  simp [State.wakePme]
@[simp] theorem State.giveResult_kept (s : State) (r : Req) (status : Nat) (code : Nat) (poison : Bool) (data : List Byte) :
    (State.giveResult s r status code poison data).pending = s.pending ∧ (State.giveResult s r status code poison data).mbx = s.mbx := by
  unfold State.giveResult; (try dsimp only); (repeat' (first | (simp [*]; done) | (refine foldl_kept _ ?_ _ _ _ ?_ <;> intros <;> (try dsimp only)) | split | (apply And.intro)))
@[simp] theorem State.dropReq_kept (s : State) (r : Req) : (State.dropReq s r).pending = s.pending ∧ (State.dropReq s r).mbx = s.mbx := by
  simp [State.dropReq]
@[simp] theorem State.endReq_kept (s : State) (r : Req) (code : Nat) (poison : Bool) (data : List Byte) (early : Bool := false) :
    (State.endReq s r code poison data early).pending = s.pending ∧ (State.endReq s r code poison data early).mbx = s.mbx := by
  simp [State.endReq]
@[simp] theorem State.finishReq_kept (s : State) (r : Req) (code : Nat) (poison : Bool) (data : List Byte) (k : Nat := 0) (early : Bool := false) :
    (State.finishReq s r code poison data k early).pending = s.pending ∧ (State.finishReq s r code poison data k early).mbx = s.mbx := by
  simp [State.finishReq]
theorem State.sendReq_kept (s : State) (r : Req) (q : Nat) {t_ : State} (e_ : State.sendReq s r q = some t_) : t_.pending = s.pending ∧ t_.mbx = s.mbx := by
  unfold State.sendReq at e_
  split at e_
  · cases e_; exact ⟨rfl, rfl⟩
  · simp only [Option.map_eq_some_iff] at e_
    obtain ⟨_, _, rfl⟩ := e_
    simp
@[simp] theorem State.sendReq_getD (s : State) (r : Req) (q : Nat) (u_ : State) (h_ : u_.pending = s.pending ∧ u_.mbx = s.mbx) :
    ((State.sendReq s r q).getD u_).pending = s.pending ∧ ((State.sendReq s r q).getD u_).mbx = s.mbx := by
  cases e_ : State.sendReq s r q with
  | none => exact h_
  | some t_ => exact State.sendReq_kept _ _ _ e_
theorem State.issueReq_kept (s : State) (eng : Engine) (op : Op) (ext : Nat) (seq : Dword) (held : Bool) {t_ : State} (e_ : State.issueReq s eng op ext seq held = some t_) : t_.pending = s.pending ∧ t_.mbx = s.mbx := by
  unfold State.issueReq at e_
  split at e_
  · contradiction
  · simp only [Option.map_eq_some_iff] at e_
    obtain ⟨_, _, rfl⟩ := e_
    (repeat' split) <;> simp
@[simp] theorem State.issueReq_getD (s : State) (eng : Engine) (op : Op) (ext : Nat) (seq : Dword) (held : Bool) (u_ : State) (h_ : u_.pending = s.pending ∧ u_.mbx = s.mbx) :
    ((State.issueReq s eng op ext seq held).getD u_).pending = s.pending ∧ ((State.issueReq s eng op ext seq held).getD u_).mbx = s.mbx := by
  cases e_ : State.issueReq s eng op ext seq held with
  | none => exact h_
  | some t_ => exact State.issueReq_kept _ _ _ _ _ _ e_
@[simp] theorem State.modReq_kept (s : State) (tag : Nat) (f : Req → Req) :
    (State.modReq s tag f).pending = s.pending ∧ (State.modReq s tag f).mbx = s.mbx := by
  simp [State.modReq]
theorem State.takeAnswer_kept (s : State) (tag : Nat) (p : Answer → Bool) {a_ : Answer} {t_ : State} (e_ : State.takeAnswer s tag p = some (a_, t_)) : t_.pending = s.pending ∧ t_.mbx = s.mbx := by
  first | (unfold State.takeAnswer at e_; (try dsimp only at e_); (repeat' (first | contradiction | (simp only [Option.map_eq_some_iff, Option.bind_eq_some_iff, Option.some.injEq, Prod.mk.injEq] at e_; simp_all; done) | (cases e_; simp; done) | split at e_)); done) | (simp only [State.takeAnswer, Option.map_eq_some_iff, Prod.mk.injEq] at e_; obtain ⟨_, _, rfl, rfl⟩ := e_; simp; done) | (simp only [State.takeAnswer, Option.map_eq_some_iff] at e_; obtain ⟨_, _, rfl⟩ := e_; simp; done) | (grind [State.takeAnswer])
@[simp] theorem State.strayAnswer_kept (s : State) (a : Answer) :
    (State.strayAnswer s a).pending = s.pending ∧ (State.strayAnswer s a).mbx = s.mbx := by
  unfold State.strayAnswer; (try dsimp only); (repeat' (first | (simp [*]; done) | (refine foldl_kept _ ?_ _ _ _ ?_ <;> intros <;> (try dsimp only)) | split | (apply And.intro)))
@[simp] theorem State.flowAnswered_kept (s : State) (r : Req) :
    (State.flowAnswered s r).pending = s.pending ∧ (State.flowAnswered s r).mbx = s.mbx := by
  simp [State.flowAnswered]
@[simp] theorem answerReceive_kept (tag : Nat) (s : State) : (answerReceive tag s).pending = s.pending ∧ (answerReceive tag s).mbx = s.mbx := by
  unfold answerReceive; (try dsimp only); (repeat' (first | (simp [*]; done) | (have e_1 := State.takeAnswer_kept _ _ _ (by assumption); simp [*]; done) | (refine foldl_kept _ ?_ _ _ _ ?_ <;> intros <;> (try dsimp only)) | split | (apply And.intro)))
@[simp] theorem State.failAll_kept (s : State) (node code : Nat) :
    (State.failAll s node code).pending = s.pending ∧ (State.failAll s node code).mbx = s.mbx := by
  simp [State.failAll]
@[simp] theorem State.declareDead_kept (s : State) (n cause : Nat) :
    (State.declareDead s n cause).pending = s.pending ∧ (State.declareDead s n cause).mbx = s.mbx := by
  simp [State.declareDead]
@[simp] theorem State.fenceResult_kept (s : State) (e : Engine) (part : Nat) (ctx : BitVec 16) :
    (State.fenceResult s e part ctx).1.pending = s.pending ∧ (State.fenceResult s e part ctx).1.mbx = s.mbx := by
  unfold State.fenceResult; (try dsimp only); (repeat' (first | (simp [*]; done) | (refine foldl_kept _ ?_ _ _ _ ?_ <;> intros <;> (try dsimp only)) | split | (apply And.intro)))
@[simp] theorem State.modSlice_kept (s : State) (q : Nat) (f : Slice → Slice) :
    (State.modSlice s q f).pending = s.pending ∧ (State.modSlice s q f).mbx = s.mbx := by
  simp [State.modSlice]
@[simp] theorem State.insCapture_kept (s : State) (q word area : Nat) (uncorr : Bool) :
    (State.insCapture s q word area uncorr).pending = s.pending ∧ (State.insCapture s q word area uncorr).mbx = s.mbx := by
  simp [State.insCapture]
@[simp] theorem State.insCorr_kept (s : State) (q word area : Nat) :
    (State.insCorr s q word area).pending = s.pending ∧ (State.insCorr s q word area).mbx = s.mbx := by
  simp [State.insCorr]
@[simp] theorem State.insUncorr_kept (s : State) (q word area : Nat) :
    (State.insUncorr s q word area).pending = s.pending ∧ (State.insUncorr s q word area).mbx = s.mbx := by
  simp [State.insUncorr]
@[simp] theorem State.insWord_kept (s : State) (q word area : Nat) (e : Ecc) :
    (State.insWord s q word area e).1.pending = s.pending ∧ (State.insWord s q word area e).1.mbx = s.mbx := by
  unfold State.insWord; (try dsimp only); (repeat' (first | (simp [*]; done) | (refine foldl_kept _ ?_ _ _ _ ?_ <;> intros <;> (try dsimp only)) | split | (apply And.intro)))
@[simp] theorem State.insWords_kept (s : State) (q : Nat) (words : List Nat) (area : Nat) (e : Ecc) :
    (State.insWords s q words area e).1.pending = s.pending ∧ (State.insWords s q words area e).1.mbx = s.mbx := by
  unfold State.insWords; (try dsimp only); (repeat' (first | (simp [*]; done) | (refine foldl_kept _ ?_ _ _ _ ?_ <;> intros <;> (try dsimp only)) | split | (apply And.intro)))
@[simp] theorem State.putCb_kept (s : State) (key : Nat) (b : Line) :
    (State.putCb s key b).pending = s.pending ∧ (State.putCb s key b).mbx = s.mbx := by
  simp [State.putCb]
@[simp] theorem State.loseCounter_kept (s : State) (k n page w : Nat) :
    (State.loseCounter s k n page w).pending = s.pending ∧ (State.loseCounter s k n page w).mbx = s.mbx := by
  simp [State.loseCounter]
@[simp] theorem State.lineRewritten_kept (s : State) (k n page i : Nat) :
    (State.lineRewritten s k n page i).pending = s.pending ∧ (State.lineRewritten s k n page i).mbx = s.mbx := by
  simp [State.lineRewritten]
@[simp] theorem State.markDirty_kept (s : State) (k p bit : Nat) :
    (State.markDirty s k p bit).pending = s.pending ∧ (State.markDirty s k p bit).mbx = s.mbx := by
  simp [State.markDirty]
@[simp] theorem State.writeInner_kept (s : State) (p addr : Nat) (l : List (Option Byte)) :
    (State.writeInner s p addr l).pending = s.pending ∧ (State.writeInner s p addr l).mbx = s.mbx := by
  unfold State.writeInner; (try dsimp only); (repeat' (first | (simp [*]; done) | (refine foldl_kept _ ?_ _ _ _ ?_ <;> intros <;> (try dsimp only)) | split | (apply And.intro)))
@[simp] theorem State.putTally_kept (s : State) (n : Nat) (r : TallyRec) :
    (State.putTally s n r).pending = s.pending ∧ (State.putTally s n r).mbx = s.mbx := by
  simp [State.putTally]
@[simp] theorem State.answerWait_kept (s : State) (g : Registration) (code : Nat) (v : Dword) :
    (State.answerWait s g code v).pending = s.pending ∧ (State.answerWait s g code v).mbx = s.mbx := by
  simp [State.answerWait]
@[simp] theorem State.releaseWaits_kept (s : State) (n : Nat) (p : Registration → Bool) (code : Nat) (v : Dword) :
    (State.releaseWaits s n p code v).pending = s.pending ∧ (State.releaseWaits s n p code v).mbx = s.mbx := by
  simp [State.releaseWaits]
@[simp] theorem State.signal_kept (s : State) (part n : Nat) (max : Bool) (x : Dword) :
    (State.signal s part n max x).1.pending = s.pending ∧ (State.signal s part n max x).1.mbx = s.mbx := by
  unfold State.signal; (try dsimp only); (repeat' (first | (simp [*]; done) | (refine foldl_kept _ ?_ _ _ _ ?_ <;> intros <;> (try dsimp only)) | split | (apply And.intro)))
@[simp] theorem State.signalLocal_kept (s : State) (part n : Nat) :
    (State.signalLocal s part n).pending = s.pending ∧ (State.signalLocal s part n).mbx = s.mbx := by
  simp [State.signalLocal]
@[simp] theorem State.tallyLost_kept (s : State) (n : Nat) : (State.tallyLost s n).pending = s.pending ∧ (State.tallyLost s n).mbx = s.mbx := by
  simp [State.tallyLost]
@[simp] theorem State.readTally_kept (s : State) (q n : Nat) (ecc : Ecc) :
    (State.readTally s q n ecc).pending = s.pending ∧ (State.readTally s q n ecc).mbx = s.mbx := by
  simp [State.readTally]
theorem State.takeArrival_kept (s : State) (q src part tag : Nat) (p : Op → Bool) {a_ : Op} {t_ : State} (e_ : State.takeArrival s q src part tag p = some (a_, t_)) : t_.pending = s.pending ∧ t_.mbx = s.mbx := by
  first | (unfold State.takeArrival at e_; (try dsimp only at e_); (repeat' (first | contradiction | (simp only [Option.map_eq_some_iff, Option.bind_eq_some_iff, Option.some.injEq, Prod.mk.injEq] at e_; simp_all; done) | (cases e_; simp; done) | split at e_)); done) | (simp only [State.takeArrival, Option.map_eq_some_iff, Prod.mk.injEq] at e_; obtain ⟨_, _, rfl, rfl⟩ := e_; simp; done) | (simp only [State.takeArrival, Option.map_eq_some_iff] at e_; obtain ⟨_, _, rfl⟩ := e_; simp; done) | (grind [State.takeArrival])
@[simp] theorem State.answerOp_kept (s : State) (src tag : Nat) (o : Op) (kind opcode len : Nat) (poison : Bool) (payload : List Byte) (k : Nat := 0) :
    (State.answerOp s src tag o kind opcode len poison payload k).pending = s.pending ∧ (State.answerOp s src tag o kind opcode len poison payload k).mbx = s.mbx := by
  simp [State.answerOp]
@[simp] theorem State.answerErr_kept (s : State) (src tag : Nat) (o : Op) (code : Nat) (k : Nat := 0) :
    (State.answerErr s src tag o code k).pending = s.pending ∧ (State.answerErr s src tag o code k).mbx = s.mbx := by
  simp [State.answerErr]
@[simp] theorem State.answerNack_kept (s : State) (q src tag : Nat) (o : Op) (reason ticket ahead : Nat) :
    (State.answerNack s q src tag o reason ticket ahead).pending = s.pending ∧ (State.answerNack s q src tag o reason ticket ahead).mbx = s.mbx := by
  simp [State.answerNack]
@[simp] theorem tallySignal_kept (q src part tag : Nat) (ecc : Ecc) (s : State) :
    (tallySignal q src part tag ecc s).pending = s.pending ∧ (tallySignal q src part tag ecc s).mbx = s.mbx := by
  unfold tallySignal; (try dsimp only); (repeat' (first | (simp [*]; done) | (have e_1 := State.takeArrival_kept _ _ _ _ _ _ (by assumption); simp [*]; done) | (refine foldl_kept _ ?_ _ _ _ ?_ <;> intros <;> (try dsimp only)) | split | (apply And.intro)))
@[simp] theorem State.register_kept (s : State) (g : Registration) : (State.register s g).pending = s.pending ∧ (State.register s g).mbx = s.mbx := by
  simp [State.register]
@[simp] theorem tallyWait_kept (q src part tag : Nat) (ecc : Ecc) (s : State) :
    (tallyWait q src part tag ecc s).pending = s.pending ∧ (tallyWait q src part tag ecc s).mbx = s.mbx := by
  unfold tallyWait; (try dsimp only); (repeat' (first | (simp [*]; done) | (have e_1 := State.takeArrival_kept _ _ _ _ _ _ (by assumption); simp [*]; done) | (refine foldl_kept _ ?_ _ _ _ ?_ <;> intros <;> (try dsimp only)) | split | (apply And.intro)))
@[simp] theorem signalRelease_kept (tag : Nat) (s : State) : (signalRelease tag s).pending = s.pending ∧ (signalRelease tag s).mbx = s.mbx := by
  unfold signalRelease; (try dsimp only); (repeat' (first | (simp [*]; done) | (have e_1 := State.sendReq_kept _ _ _ (by assumption); simp [*]; done) | (refine foldl_kept _ ?_ _ _ _ ?_ <;> intros <;> (try dsimp only)) | split | (apply And.intro)))
@[simp] theorem waitDoneReceive_kept (tag : Nat) (s : State) : (waitDoneReceive tag s).pending = s.pending ∧ (waitDoneReceive tag s).mbx = s.mbx := by
  unfold waitDoneReceive; (try dsimp only); (repeat' (first | (simp [*]; done) | (have e_1 := State.takeAnswer_kept _ _ _ (by assumption); simp [*]; done) | (refine foldl_kept _ ?_ _ _ _ ?_ <;> intros <;> (try dsimp only)) | split | (apply And.intro)))
@[simp] theorem tallyAckReceive_kept (tag : Nat) (s : State) : (tallyAckReceive tag s).pending = s.pending ∧ (tallyAckReceive tag s).mbx = s.mbx := by
  unfold tallyAckReceive; (try dsimp only); (repeat' (first | (simp [*]; done) | (have e_1 := State.takeAnswer_kept _ _ _ (by assumption); simp [*]; done) | (refine foldl_kept _ ?_ _ _ _ ?_ <;> intros <;> (try dsimp only)) | split | (apply And.intro)))
@[simp] theorem waitRepeat_kept (tag : Nat) (s : State) : (waitRepeat tag s).pending = s.pending ∧ (waitRepeat tag s).mbx = s.mbx := by
  unfold waitRepeat; (try dsimp only); (repeat' (first | (simp [*]; done) | (have e_1 := State.sendReq_kept _ _ _ (by assumption); simp [*]; done) | (refine foldl_kept _ ?_ _ _ _ ?_ <;> intros <;> (try dsimp only)) | split | (apply And.intro)))
theorem State.addRef_kept (s : State) (h : RefHolder) (o : RefObj) {t_ : State} (e_ : State.addRef s h o = some t_) : t_.pending = s.pending ∧ t_.mbx = s.mbx := by
  first | (unfold State.addRef at e_; (try dsimp only at e_); (repeat' (first | contradiction | (simp only [Option.map_eq_some_iff, Option.bind_eq_some_iff, Option.some.injEq, Prod.mk.injEq] at e_; simp_all; done) | (cases e_; simp; done) | split at e_)); done) | (simp only [State.addRef, Option.map_eq_some_iff, Prod.mk.injEq] at e_; obtain ⟨_, _, rfl, rfl⟩ := e_; simp; done) | (simp only [State.addRef, Option.map_eq_some_iff] at e_; obtain ⟨_, _, rfl⟩ := e_; simp; done) | (grind [State.addRef, State.putTally_kept])
@[simp] theorem State.addRef_getD (s : State) (h : RefHolder) (o : RefObj) (u_ : State) (h_ : u_.pending = s.pending ∧ u_.mbx = s.mbx) :
    ((State.addRef s h o).getD u_).pending = s.pending ∧ ((State.addRef s h o).getD u_).mbx = s.mbx := by
  cases e_ : State.addRef s h o with
  | none => exact h_
  | some t_ => exact State.addRef_kept _ _ _ e_
@[simp] theorem State.unrefTally_kept (s : State) (n : Nat) (reset : Bool) :
    (State.unrefTally s n reset).pending = s.pending ∧ (State.unrefTally s n reset).mbx = s.mbx := by
  simp [State.unrefTally]
@[simp] theorem State.dropRef_kept (s : State) (h : RefHolder) (o : RefObj) (reset : Bool) :
    (State.dropRef s h o reset).pending = s.pending ∧ (State.dropRef s h o reset).mbx = s.mbx := by
  unfold State.dropRef; (try dsimp only); (repeat' (first | (simp [*]; done) | (refine foldl_kept _ ?_ _ _ _ ?_ <;> intros <;> (try dsimp only)) | split | (apply And.intro)))
@[simp] theorem State.dropRefs_kept (s : State) (h : RefHolder) (reset : Bool) :
    (State.dropRefs s h reset).pending = s.pending ∧ (State.dropRefs s h reset).mbx = s.mbx := by
  simp [State.dropRefs]
@[simp] theorem State.orphanTally_kept (s : State) (n : Nat) : (State.orphanTally s n).pending = s.pending ∧ (State.orphanTally s n).mbx = s.mbx := by
  simp [State.orphanTally]
@[simp] theorem State.tallyCmd_kept (s : State) (ap : Aperture) (n : Nat) (operatorMay : Bool) (f : Nat → State → State) (h_f : ∀ y0 y1, (f y0 y1).pending = y1.pending ∧ (f y0 y1).mbx = y1.mbx) :
    (State.tallyCmd s ap n operatorMay f).pending = s.pending ∧ (State.tallyCmd s ap n operatorMay f).mbx = s.mbx := by
  unfold State.tallyCmd; (try dsimp only); (repeat' (first | (simp [*]; done) | (refine foldl_kept _ ?_ _ _ _ ?_ <;> intros <;> (try dsimp only)) | (refine kept_trans (State.command_kept _ _ _ _ ?_ ) ?_ <;> intros <;> (try dsimp only)) | split | (apply And.intro)))
@[simp] theorem State.handSet_kept (s : State) (p : Nat) : (State.handSet s p).pending = s.pending ∧ (State.handSet s p).mbx = s.mbx := by
  simp [State.handSet]
@[simp] theorem State.talSignal_kept (s : State) (ap : Aperture) (n : Nat) (max : Bool) :
    (State.talSignal s ap n max).pending = s.pending ∧ (State.talSignal s ap n max).mbx = s.mbx := by
  simp [State.talSignal]
@[simp] theorem talSignalAdd_kept (ap : Aperture) (n : Nat) (s : State) :
    (talSignalAdd ap n s).pending = s.pending ∧ (talSignalAdd ap n s).mbx = s.mbx := by
  simp [talSignalAdd]
@[simp] theorem talSignalMax_kept (ap : Aperture) (n : Nat) (s : State) :
    (talSignalMax ap n s).pending = s.pending ∧ (talSignalMax ap n s).mbx = s.mbx := by
  simp [talSignalMax]
@[simp] theorem talPair_kept (ap : Aperture) (n : Nat) (s : State) : (talPair ap n s).pending = s.pending ∧ (talPair ap n s).mbx = s.mbx := by
  simp [talPair]
@[simp] theorem talUnpair_kept (ap : Aperture) (n : Nat) (s : State) : (talUnpair ap n s).pending = s.pending ∧ (talUnpair ap n s).mbx = s.mbx := by
  simp [talUnpair]
@[simp] theorem talQuery_kept (ap : Aperture) (n : Nat) (s : State) : (talQuery ap n s).pending = s.pending ∧ (talQuery ap n s).mbx = s.mbx := by
  simp [talQuery]
theorem tallyWrite_kept (s : State) (n : Nat) (v : Dword) (hand : Bool) {t_ : State} (e_ : tallyWrite s n v hand = some t_) : t_.pending = s.pending ∧ t_.mbx = s.mbx := by
  first | (unfold tallyWrite at e_; (try dsimp only at e_); (repeat' (first | contradiction | (simp only [Option.map_eq_some_iff, Option.bind_eq_some_iff, Option.some.injEq, Prod.mk.injEq] at e_; simp_all; done) | (cases e_; simp; done) | split at e_)); done) | (simp only [tallyWrite, Option.map_eq_some_iff, Prod.mk.injEq] at e_; obtain ⟨_, _, rfl, rfl⟩ := e_; simp; done) | (simp only [tallyWrite, Option.map_eq_some_iff] at e_; obtain ⟨_, _, rfl⟩ := e_; simp; done) | (grind [tallyWrite, State.handSet_kept, State.putTally_kept, State.releaseWaits_kept])
@[simp] theorem tallyWrite_getD (s : State) (n : Nat) (v : Dword) (hand : Bool) (u_ : State) (h_ : u_.pending = s.pending ∧ u_.mbx = s.mbx) :
    ((tallyWrite s n v hand).getD u_).pending = s.pending ∧ ((tallyWrite s n v hand).getD u_).mbx = s.mbx := by
  cases e_ : tallyWrite s n v hand with
  | none => exact h_
  | some t_ => exact tallyWrite_kept _ _ _ _ e_
@[simp] theorem State.modEntry_kept (s : State) (id : Nat) (f : HomeEntry → HomeEntry) :
    (State.modEntry s id f).pending = s.pending ∧ (State.modEntry s id f).mbx = s.mbx := by
  simp [State.modEntry]
@[simp] theorem State.pushLine_kept (s : State) (o : Op) (src : Src) (site : Option Nat) (k : Nat) :
    (State.pushLine s o src site k).pending = s.pending ∧ (State.pushLine s o src site k).mbx = s.mbx := by
  simp [State.pushLine]
@[simp] theorem State.startEntry_kept (s : State) (e : HomeEntry) :
    (State.startEntry s e).pending = s.pending ∧ (State.startEntry s e).mbx = s.mbx := by
  unfold State.startEntry; (try dsimp only); (repeat' (first | (simp [*]; done) | (refine foldl_kept _ ?_ _ _ _ ?_ <;> intros <;> (try dsimp only)) | split | (apply And.intro)))
@[simp] theorem State.pump_kept (s : State) : (State.pump s).pending = s.pending ∧ (State.pump s).mbx = s.mbx := by
  simp [State.pump]
@[simp] theorem State.keepVal_kept (s : State) (src : Src) (line : Nat) (v : Line) :
    (State.keepVal s src line v).pending = s.pending ∧ (State.keepVal s src line v).mbx = s.mbx := by
  simp [State.keepVal]
@[simp] theorem State.forget_kept (s : State) : (State.forget s).pending = s.pending ∧ (State.forget s).mbx = s.mbx := by
  simp [State.forget]
@[simp] theorem State.answerEntry_kept (s : State) (e : HomeEntry) :
    (State.answerEntry s e).pending = s.pending ∧ (State.answerEntry s e).mbx = s.mbx := by
  simp [State.answerEntry]
@[simp] theorem State.gotLine_kept (s : State) (id k : Nat) (bytes : List Byte) (poison : Bool) (err : Nat) :
    (State.gotLine s id k bytes poison err).pending = s.pending ∧ (State.gotLine s id k bytes poison err).mbx = s.mbx := by
  unfold State.gotLine; (try dsimp only); (repeat' (first | (simp [*]; done) | (refine foldl_kept _ ?_ _ _ _ ?_ <;> intros <;> (try dsimp only)) | split | (apply And.intro)))
@[simp] theorem State.failEntry_kept (s : State) (id code : Nat) :
    (State.failEntry s id code).pending = s.pending ∧ (State.failEntry s id code).mbx = s.mbx := by
  unfold State.failEntry; (try dsimp only); (repeat' (first | (simp [*]; done) | (refine foldl_kept _ ?_ _ _ _ ?_ <;> intros <;> (try dsimp only)) | split | (apply And.intro)))
@[simp] theorem State.tellSite_kept (s : State) (site : Option Nat) (ctx : Option (BitVec 16)) (code : Nat) :
    (State.tellSite s site ctx code).pending = s.pending ∧ (State.tellSite s site ctx code).mbx = s.mbx := by
  unfold State.tellSite; (try dsimp only); (repeat' (first | (simp [*]; done) | (refine foldl_kept _ ?_ _ _ _ ?_ <;> intros <;> (try dsimp only)) | split | (apply And.intro)))
@[simp] theorem State.deliverStamp_kept (s : State) (p : Nat) :
    (State.deliverStamp s p).1.pending = s.pending ∧ (State.deliverStamp s p).1.mbx = s.mbx := by
  simp [State.deliverStamp]
@[simp] theorem State.haltChan_kept (s : State) (c code : Nat) :
    (State.haltChan s c code).pending = s.pending ∧ (State.haltChan s c code).mbx = s.mbx := by
  simp [State.haltChan]
@[simp] theorem State.recordGone_kept (s : State) (c : Nat) (bytes : List Byte) (code : Nat) :
    (State.recordGone s c bytes code).pending = s.pending ∧ (State.recordGone s c bytes code).mbx = s.mbx := by
  unfold State.recordGone; (try dsimp only); (repeat' (first | (simp [*]; done) | (refine foldl_kept _ ?_ _ _ _ ?_ <;> intros <;> (try dsimp only)) | split | (apply And.intro)))
@[simp] theorem State.lose1204_kept (s : State) (p : Nat) (ctx : Option (BitVec 16)) (o : Obj) :
    (State.lose1204 s p ctx o).pending = s.pending ∧ (State.lose1204 s p ctx o).mbx = s.mbx := by
  unfold State.lose1204; (try dsimp only); (repeat' (first | (simp [*]; done) | (refine foldl_kept _ ?_ _ _ _ ?_ <;> intros <;> (try dsimp only)) | split | (apply And.intro)))
@[simp] theorem State.dropBad_kept (s : State) (p : Nat) (o : Obj) (e : Egress) :
    (State.dropBad s p o e).pending = s.pending ∧ (State.dropBad s p o e).mbx = s.mbx := by
  unfold State.dropBad; (try dsimp only); (repeat' (first | (simp [*]; done) | (refine foldl_kept _ ?_ _ _ _ ?_ <;> intros <;> (try dsimp only)) | split | (apply And.intro)))
@[simp] theorem State.verdict_kept (s : State) (p st : Nat) (ok : Bool) (o : Obj) :
    (State.verdict s p st ok o).pending = s.pending ∧ (State.verdict s p st ok o).mbx = s.mbx := by
  simp [State.verdict]
@[simp] theorem State.routeAgain_kept (s : State) (e : Egress) (k : Packet) :
    (State.routeAgain s e k).pending = s.pending ∧ (State.routeAgain s e k).mbx = s.mbx := by
  unfold State.routeAgain; (try dsimp only); (repeat' (first | (simp [*]; done) | (refine foldl_kept _ ?_ _ _ _ ?_ <;> intros <;> (try dsimp only)) | split | (apply And.intro)))
@[simp] theorem State.releaseCargo_kept (s : State) (e : Egress) :
    (State.releaseCargo s e).pending = s.pending ∧ (State.releaseCargo s e).mbx = s.mbx := by
  unfold State.releaseCargo; (try dsimp only); (repeat' (first | (simp [*]; done) | (refine foldl_kept _ ?_ _ _ _ ?_ <;> intros <;> (try dsimp only)) | split | (apply And.intro)))
@[simp] theorem egressRelease_kept (p : Nat) (pt : EgressPoint) (s : State) :
    (egressRelease p pt s).pending = s.pending ∧ (egressRelease p pt s).mbx = s.mbx := by
  unfold egressRelease; (try dsimp only); (repeat' (first | (simp [*]; done) | (refine foldl_kept _ ?_ _ _ _ ?_ <;> intros <;> (try dsimp only)) | split | (apply And.intro)))
@[simp] theorem State.modCart_kept (s : State) (id : Nat) (f : Cart → Cart) :
    (State.modCart s id f).pending = s.pending ∧ (State.modCart s id f).mbx = s.mbx := by
  simp [State.modCart]
@[simp] theorem State.endMember_kept (s : State) (site tag status : Nat) (data : List Byte) (poison : Bool) :
    (State.endMember s site tag status data poison).pending = s.pending ∧ (State.endMember s site tag status data poison).mbx = s.mbx := by
  unfold State.endMember; (try dsimp only); (repeat' (first | (simp [*]; done) | (refine foldl_kept _ ?_ _ _ _ ?_ <;> intros <;> (try dsimp only)) | split | (apply And.intro)))
@[simp] theorem State.closeCart_kept (s : State) (c : Cart) (st : Nat) :
    (State.closeCart s c st).pending = s.pending ∧ (State.closeCart s c st).mbx = s.mbx := by
  unfold State.closeCart; (try dsimp only); (repeat' (first | (simp [*]; done) | (refine foldl_kept _ ?_ _ _ _ ?_ <;> intros <;> (try dsimp only)) | split | (apply And.intro)))
@[simp] theorem State.finishCart_kept (s : State) (c : Cart) (code : Nat) :
    (State.finishCart s c code).pending = s.pending ∧ (State.finishCart s c code).mbx = s.mbx := by
  simp [State.finishCart]
@[simp] theorem State.failCart_kept (s : State) (c : Cart) (code : Nat) :
    (State.failCart s c code).pending = s.pending ∧ (State.failCart s c code).mbx = s.mbx := by
  unfold State.failCart; (try dsimp only); (repeat' (first | (simp [*]; done) | (refine foldl_kept _ ?_ _ _ _ ?_ <;> intros <;> (try dsimp only)) | split | (apply And.intro)))
@[simp] theorem State.sendCart_kept (s : State) (eng : Engine) (op : Op) (ext : Nat) :
    (State.sendCart s eng op ext).pending = s.pending ∧ (State.sendCart s eng op ext).mbx = s.mbx := by
  simp [State.sendCart]
@[simp] theorem State.sendDecide_kept (s : State) (c : Cart) : (State.sendDecide s c).pending = s.pending ∧ (State.sendDecide s c).mbx = s.mbx := by
  simp [State.sendDecide]
@[simp] theorem State.cartAdvance_kept (s : State) (c : Cart) :
    (State.cartAdvance s c).pending = s.pending ∧ (State.cartAdvance s c).mbx = s.mbx := by
  simp [State.cartAdvance]
@[simp] theorem State.cartsAdvance_kept (s : State) : (State.cartsAdvance s).pending = s.pending ∧ (State.cartsAdvance s).mbx = s.mbx := by
  simp [State.cartsAdvance]
@[simp] theorem cartEnd_kept (t : Nat) (ctx : BitVec 16) (s : State) : (cartEnd t ctx s).pending = s.pending ∧ (cartEnd t ctx s).mbx = s.mbx := by
  unfold cartEnd; (try dsimp only); (repeat' (first | (simp [*]; done) | (refine foldl_kept _ ?_ _ _ _ ?_ <;> intros <;> (try dsimp only)) | split | (apply And.intro)))
@[simp] theorem cartEndTimeout_kept (t : Nat) (ctx : BitVec 16) (s : State) :
    (cartEndTimeout t ctx s).pending = s.pending ∧ (cartEndTimeout t ctx s).mbx = s.mbx := by
  unfold cartEndTimeout; (try dsimp only); (repeat' (first | (simp [*]; done) | (refine foldl_kept _ ?_ _ _ _ ?_ <;> intros <;> (try dsimp only)) | split | (apply And.intro)))
@[simp] theorem State.takeVote_kept (s : State) (r : Req) (a : Answer) :
    (State.takeVote s r a).pending = s.pending ∧ (State.takeVote s r a).mbx = s.mbx := by
  simp [State.takeVote]
@[simp] theorem State.cartReply_kept (s : State) (tag opcode : Nat) (f : State → Req → Answer → State) (h_f : ∀ y0 y1 y2, (f y0 y1 y2).pending = y0.pending ∧ (f y0 y1 y2).mbx = y0.mbx) :
    (State.cartReply s tag opcode f).pending = s.pending ∧ (State.cartReply s tag opcode f).mbx = s.mbx := by
  unfold State.cartReply; (try dsimp only); (repeat' (first | (simp [*]; done) | (have e_1 := State.takeAnswer_kept _ _ _ (by assumption); simp [*]; done) | (refine foldl_kept _ ?_ _ _ _ ?_ <;> intros <;> (try dsimp only)) | split | (apply And.intro)))
@[simp] theorem cartVote_kept (tag : Nat) (s : State) : (cartVote tag s).pending = s.pending ∧ (cartVote tag s).mbx = s.mbx := by
  simp [cartVote]
@[simp] theorem cartSoloVote_kept (tag : Nat) (s : State) : (cartSoloVote tag s).pending = s.pending ∧ (cartSoloVote tag s).mbx = s.mbx := by
  simp [cartSoloVote]
@[simp] theorem cartDecided_kept (tag : Nat) (s : State) : (cartDecided tag s).pending = s.pending ∧ (cartDecided tag s).mbx = s.mbx := by
  unfold cartDecided; (try dsimp only); (repeat' (first | (simp [*]; done) | (refine foldl_kept _ ?_ _ _ _ ?_ <;> intros <;> (try dsimp only)) | (refine kept_trans (State.cartReply_kept _ _ _ _ ?_ ) ?_ <;> intros <;> (try dsimp only)) | split | (apply And.intro)))
@[simp] theorem cartDecidedWaitExpire_kept (cart : Nat) (s : State) :
    (cartDecidedWaitExpire cart s).pending = s.pending ∧ (cartDecidedWaitExpire cart s).mbx = s.mbx := by
  unfold cartDecidedWaitExpire; (try dsimp only); (repeat' (first | (simp [*]; done) | (refine foldl_kept _ ?_ _ _ _ ?_ <;> intros <;> (try dsimp only)) | split | (apply And.intro)))
@[simp] theorem State.vote_kept (s : State) (m : Staged) (code fault : Nat) :
    (State.vote s m code fault).pending = s.pending ∧ (State.vote s m code fault).mbx = s.mbx := by
  simp [State.vote]
@[simp] theorem State.modStaged_kept (s : State) (key : Nat) (f : Staged → Staged) :
    (State.modStaged s key f).pending = s.pending ∧ (State.modStaged s key f).mbx = s.mbx := by
  simp [State.modStaged]
@[simp] theorem State.dropStaged_kept (s : State) (key : Nat) :
    (State.dropStaged s key).pending = s.pending ∧ (State.dropStaged s key).mbx = s.mbx := by
  simp [State.dropStaged]
@[simp] theorem State.commitRefused_kept (s : State) (part : Nat) (ctx : BitVec 16) (code line : Nat) :
    (State.commitRefused s part ctx code line).pending = s.pending ∧ (State.commitRefused s part ctx code line).mbx = s.mbx := by
  simp [State.commitRefused]
@[simp] theorem State.commitMember_kept (s : State) (m : Staged) :
    (State.commitMember s m).pending = s.pending ∧ (State.commitMember s m).mbx = s.mbx := by
  unfold State.commitMember; (try dsimp only); (repeat' (first | (simp [*]; done) | (refine foldl_kept _ ?_ _ _ _ ?_ <;> intros <;> (try dsimp only)) | split | (apply And.intro)))
@[simp] theorem State.outcome_kept (s : State) (q issuer cart code : Nat) :
    (State.outcome s q issuer cart code).pending = s.pending ∧ (State.outcome s q issuer cart code).mbx = s.mbx := by
  simp [State.outcome]
@[simp] theorem State.stageDone_kept (s : State) (m : Staged) (err : Nat) :
    (State.stageDone s m err).pending = s.pending ∧ (State.stageDone s m err).mbx = s.mbx := by
  simp [State.stageDone]
@[simp] theorem State.stageBegin_kept (s : State) (m : Staged) :
    (State.stageBegin s m).1.pending = s.pending ∧ (State.stageBegin s m).1.mbx = s.mbx := by
  unfold State.stageBegin; (try dsimp only); (repeat' (first | (simp [*]; done) | (refine foldl_kept _ ?_ _ _ _ ?_ <;> intros <;> (try dsimp only)) | split | (apply And.intro)))
@[simp] theorem State.soloFinish_kept (s : State) (m : Staged) : (State.soloFinish s m).pending = s.pending ∧ (State.soloFinish s m).mbx = s.mbx := by
  simp [State.soloFinish]
@[simp] theorem State.soloRefuse_kept (s : State) (m : Staged) (code fault : Nat) :
    (State.soloRefuse s m code fault).pending = s.pending ∧ (State.soloRefuse s m code fault).mbx = s.mbx := by
  simp [State.soloRefuse]
@[simp] theorem State.memberRead_kept (s : State) (key : Nat) (bytes : List Byte) (poison : Bool) (err : Nat) :
    (State.memberRead s key bytes poison err).pending = s.pending ∧ (State.memberRead s key bytes poison err).mbx = s.mbx := by
  unfold State.memberRead; (try dsimp only); (repeat' (first | (simp [*]; done) | (refine foldl_kept _ ?_ _ _ _ ?_ <;> intros <;> (try dsimp only)) | split | (apply And.intro)))
@[simp] theorem State.noteUse_kept (s : State) (q : Nat) : (State.noteUse s q).pending = s.pending ∧ (State.noteUse s q).mbx = s.mbx := by
  simp [State.noteUse]
@[simp] theorem State.memberArrives_kept (s : State) (q src part tag : Nat) (o : Op) :
    (State.memberArrives s q src part tag o).pending = s.pending ∧ (State.memberArrives s q src part tag o).mbx = s.mbx := by
  unfold State.memberArrives; (try dsimp only); (repeat' (first | (simp [*]; done) | (refine foldl_kept _ ?_ _ _ _ ?_ <;> intros <;> (try dsimp only)) | split | (apply And.intro)))
@[simp] theorem soloTimeout_kept (q issuer cart : Nat) (s : State) :
    (soloTimeout q issuer cart s).pending = s.pending ∧ (soloTimeout q issuer cart s).mbx = s.mbx := by
  simp [soloTimeout]
@[simp] theorem State.cartOutcome_kept (s : State) (q src part tag opcode code : Nat) :
    (State.cartOutcome s q src part tag opcode code).pending = s.pending ∧ (State.cartOutcome s q src part tag opcode code).mbx = s.mbx := by
  unfold State.cartOutcome; (try dsimp only); (repeat' (first | (simp [*]; done) | (have e_1 := State.takeArrival_kept _ _ _ _ _ _ (by assumption); simp [*]; done) | (refine foldl_kept _ ?_ _ _ _ ?_ <;> intros <;> (try dsimp only)) | split | (apply And.intro)))
@[simp] theorem cartCommit_kept (q src part tag : Nat) (s : State) :
    (cartCommit q src part tag s).pending = s.pending ∧ (cartCommit q src part tag s).mbx = s.mbx := by
  simp [cartCommit]
@[simp] theorem cartAbort_kept (q src part tag : Nat) (s : State) :
    (cartAbort q src part tag s).pending = s.pending ∧ (cartAbort q src part tag s).mbx = s.mbx := by
  simp [cartAbort]
@[simp] theorem State.sendQuery_kept (s : State) (m : Staged) : (State.sendQuery s m).pending = s.pending ∧ (State.sendQuery s m).mbx = s.mbx := by
  simp [State.sendQuery]
@[simp] theorem cartMemberTimeout_kept (q issuer cart : Nat) (s : State) :
    (cartMemberTimeout q issuer cart s).pending = s.pending ∧ (cartMemberTimeout q issuer cart s).mbx = s.mbx := by
  unfold cartMemberTimeout; (try dsimp only); (repeat' (first | (simp [*]; done) | (refine foldl_kept _ ?_ _ _ _ ?_ <;> intros <;> (try dsimp only)) | split | (apply And.intro)))
@[simp] theorem cartQueryRepeat_kept (q issuer cart : Nat) (s : State) :
    (cartQueryRepeat q issuer cart s).pending = s.pending ∧ (cartQueryRepeat q issuer cart s).mbx = s.mbx := by
  unfold cartQueryRepeat; (try dsimp only); (repeat' (first | (simp [*]; done) | (refine foldl_kept _ ?_ _ _ _ ?_ <;> intros <;> (try dsimp only)) | split | (apply And.intro)))
@[simp] theorem cartAnswer_kept (tag : Nat) (s : State) : (cartAnswer tag s).pending = s.pending ∧ (cartAnswer tag s).mbx = s.mbx := by
  simp [cartAnswer]
@[simp] theorem State.leadDecide_kept (s : State) (q : Nat) (o : Op) (code : Nat) (others : List ((Nat × Nat) × Nat)) :
    (State.leadDecide s q o code others).pending = s.pending ∧ (State.leadDecide s q o code others).mbx = s.mbx := by
  simp [State.leadDecide]
@[simp] theorem cartDecide_kept (q src part tag : Nat) (s : State) :
    (cartDecide q src part tag s).pending = s.pending ∧ (cartDecide q src part tag s).mbx = s.mbx := by
  unfold cartDecide; (try dsimp only); (repeat' (first | (simp [*]; done) | (have e_1 := State.takeArrival_kept _ _ _ _ _ _ (by assumption); simp [*]; done) | (refine foldl_kept _ ?_ _ _ _ ?_ <;> intros <;> (try dsimp only)) | split | (apply And.intro)))
@[simp] theorem cartQuery_kept (q src part tag : Nat) (s : State) :
    (cartQuery q src part tag s).pending = s.pending ∧ (cartQuery q src part tag s).mbx = s.mbx := by
  unfold cartQuery; (try dsimp only); (repeat' (first | (simp [*]; done) | (have e_1 := State.takeArrival_kept _ _ _ _ _ _ (by assumption); simp [*]; done) | (refine foldl_kept _ ?_ _ _ _ ?_ <;> intros <;> (try dsimp only)) | split | (apply And.intro)))
@[simp] theorem cartLeadTimeout_kept (q issuer cart : Nat) (s : State) :
    (cartLeadTimeout q issuer cart s).pending = s.pending ∧ (cartLeadTimeout q issuer cart s).mbx = s.mbx := by
  unfold cartLeadTimeout; (try dsimp only); (repeat' (first | (simp [*]; done) | (refine foldl_kept _ ?_ _ _ _ ?_ <;> intros <;> (try dsimp only)) | split | (apply And.intro)))
@[simp] theorem cartDone_kept (tag : Nat) (s : State) : (cartDone tag s).pending = s.pending ∧ (cartDone tag s).mbx = s.mbx := by
  unfold cartDone; (try dsimp only); (repeat' (first | (simp [*]; done) | (have e_1 := State.takeAnswer_kept _ _ _ (by assumption); simp [*]; done) | (refine foldl_kept _ ?_ _ _ _ ?_ <;> intros <;> (try dsimp only)) | split | (apply And.intro)))
@[simp] theorem cartAbortEntryExpire_kept (q issuer cart : Nat) (s : State) :
    (cartAbortEntryExpire q issuer cart s).pending = s.pending ∧ (cartAbortEntryExpire q issuer cart s).mbx = s.mbx := by
  simp [cartAbortEntryExpire]
@[simp] theorem State.admitReq_kept (s : State) (q part src tag : Nat) (o : Op) :
    (State.admitReq s q part src tag o).pending = s.pending ∧ (State.admitReq s q part src tag o).mbx = s.mbx := by
  simp [State.admitReq]
@[simp] theorem State.homeAdmit_kept (s : State) (q part src tag : Nat) (o : Op) :
    (State.homeAdmit s q part src tag o).pending = s.pending ∧ (State.homeAdmit s q part src tag o).mbx = s.mbx := by
  unfold State.homeAdmit; (try dsimp only); (repeat' (first | (simp [*]; done) | (refine foldl_kept _ ?_ _ _ _ ?_ <;> intros <;> (try dsimp only)) | split | (apply And.intro)))
@[simp] theorem homeRequest_kept (q src part tag : Nat) (s : State) :
    (homeRequest q src part tag s).pending = s.pending ∧ (homeRequest q src part tag s).mbx = s.mbx := by
  unfold homeRequest; (try dsimp only); (repeat' (first | (simp [*]; done) | (have e_1 := State.takeArrival_kept _ _ _ _ _ _ (by assumption); simp [*]; done) | (refine foldl_kept _ ?_ _ _ _ ?_ <;> intros <;> (try dsimp only)) | split | (apply And.intro)))
@[simp] theorem cartPrepare_kept (q src part tag : Nat) (s : State) :
    (cartPrepare q src part tag s).pending = s.pending ∧ (cartPrepare q src part tag s).mbx = s.mbx := by
  unfold cartPrepare; (try dsimp only); (repeat' (first | (simp [*]; done) | (have e_1 := State.takeArrival_kept _ _ _ _ _ _ (by assumption); simp [*]; done) | (refine foldl_kept _ ?_ _ _ _ ?_ <;> intros <;> (try dsimp only)) | split | (apply And.intro)))
@[simp] theorem cartSolo_kept (q src part tag : Nat) (s : State) :
    (cartSolo q src part tag s).pending = s.pending ∧ (cartSolo q src part tag s).mbx = s.mbx := by
  unfold cartSolo; (try dsimp only); (repeat' (first | (simp [*]; done) | (have e_1 := State.takeArrival_kept _ _ _ _ _ _ (by assumption); simp [*]; done) | (refine foldl_kept _ ?_ _ _ _ ?_ <;> intros <;> (try dsimp only)) | split | (apply And.intro)))
@[simp] theorem State.passEntry_kept (s : State) (q part : Nat) :
    (State.passEntry s q part).pending = s.pending ∧ (State.passEntry s q part).mbx = s.mbx := by
  unfold State.passEntry; (try dsimp only); (repeat' (first | (simp [*]; done) | (refine foldl_kept _ ?_ _ _ _ ?_ <;> intros <;> (try dsimp only)) | split | (apply And.intro)))
@[simp] theorem entryFreed_kept (q entry : Nat) (s : State) : (entryFreed q entry s).pending = s.pending ∧ (entryFreed q entry s).mbx = s.mbx := by
  unfold entryFreed; (try dsimp only); (repeat' (first | (simp [*]; done) | (refine foldl_kept _ ?_ _ _ _ ?_ <;> intros <;> (try dsimp only)) | split | (apply And.intro)))
@[simp] theorem ticketLapse_kept (q part no : Nat) (s : State) :
    (ticketLapse q part no s).pending = s.pending ∧ (ticketLapse q part no s).mbx = s.mbx := by
  unfold ticketLapse; (try dsimp only); (repeat' (first | (simp [*]; done) | (refine foldl_kept _ ?_ _ _ _ ?_ <;> intros <;> (try dsimp only)) | split | (apply And.intro)))
@[simp] theorem lockWaitTimeout_kept (q entry : Nat) (s : State) :
    (lockWaitTimeout q entry s).pending = s.pending ∧ (lockWaitTimeout q entry s).mbx = s.mbx := by
  unfold lockWaitTimeout; (try dsimp only); (repeat' (first | (simp [*]; done) | (refine foldl_kept _ ?_ _ _ _ ?_ <;> intros <;> (try dsimp only)) | split | (apply And.intro)))
@[simp] theorem nackReceive_kept (tag : Nat) (s : State) : (nackReceive tag s).pending = s.pending ∧ (nackReceive tag s).mbx = s.mbx := by
  unfold nackReceive; (try dsimp only); (repeat' (first | (simp [*]; done) | (have e_1 := State.takeAnswer_kept _ _ _ (by assumption); simp [*]; done) | (refine foldl_kept _ ?_ _ _ _ ?_ <;> intros <;> (try dsimp only)) | split | (apply And.intro)))
@[simp] theorem nackRetry_kept (tag : Nat) (s : State) : (nackRetry tag s).pending = s.pending ∧ (nackRetry tag s).mbx = s.mbx := by
  unfold nackRetry; (try dsimp only); (repeat' (first | (simp [*]; done) | (have e_1 := State.sendReq_kept _ _ _ (by assumption); simp [*]; done) | (refine foldl_kept _ ?_ _ _ _ ?_ <;> intros <;> (try dsimp only)) | split | (apply And.intro)))
@[simp] theorem fenceComplete_kept (e : Engine) (ctx : BitVec 16) (s : State) :
    (fenceComplete e ctx s).pending = s.pending ∧ (fenceComplete e ctx s).mbx = s.mbx := by
  unfold fenceComplete; (try dsimp only); (repeat' (first | (simp [*]; done) | (refine foldl_kept _ ?_ _ _ _ ?_ <;> intros <;> (try dsimp only)) | split | (apply And.intro)))
@[simp] theorem State.lineDone_kept (s : State) (src : Src) (bytes : List Byte) (poison : Bool) (err : Nat) :
    (State.lineDone s src bytes poison err).pending = s.pending ∧ (State.lineDone s src bytes poison err).mbx = s.mbx := by
  unfold State.lineDone; (try dsimp only); (repeat' (first | (simp [*]; done) | (refine foldl_kept _ ?_ _ _ _ ?_ <;> intros <;> (try dsimp only)) | split | (apply And.intro)))
@[simp] theorem State.shfCapture_kept (s : State) (k code line : Nat) :
    (State.shfCapture s k code line).pending = s.pending ∧ (State.shfCapture s k code line).mbx = s.mbx := by
  simp [State.shfCapture]
@[simp] theorem State.shfIrq_kept (s : State) (k bit : Nat) : (State.shfIrq s k bit).pending = s.pending ∧ (State.shfIrq s k bit).mbx = s.mbx := by
  simp [State.shfIrq]
@[simp] theorem State.shfUncorr_kept (s : State) (k code line : Nat) :
    (State.shfUncorr s k code line).pending = s.pending ∧ (State.shfUncorr s k code line).mbx = s.mbx := by
  simp [State.shfUncorr]
@[simp] theorem State.shfMacFail_kept (s : State) (k n code line : Nat) :
    (State.shfMacFail s k n code line).pending = s.pending ∧ (State.shfMacFail s k n code line).mbx = s.mbx := by
  simp [State.shfMacFail]
@[simp] theorem State.shfCorr_kept (s : State) (k line : Nat) :
    (State.shfCorr s k line).pending = s.pending ∧ (State.shfCorr s k line).mbx = s.mbx := by
  simp [State.shfCorr]
@[simp] theorem State.shaftTurn_kept (s : State) (k part transfers cycles : Nat) (ctx : Option (BitVec 16)) (slots : List Nat) :
    (State.shaftTurn s k part transfers cycles ctx slots).pending = s.pending ∧ (State.shaftTurn s k part transfers cycles ctx slots).mbx = s.mbx := by
  simp [State.shaftTurn]
@[simp] theorem State.cacheCb_kept (s : State) (k key : Nat) : (State.cacheCb s k key).pending = s.pending ∧ (State.cacheCb s k key).mbx = s.mbx := by
  simp [State.cacheCb]
@[simp] theorem State.missCb_kept (s : State) (k key : Nat) : (State.missCb s k key).pending = s.pending ∧ (State.missCb s k key).mbx = s.mbx := by
  simp [State.missCb]
theorem State.takeAcc_kept (s : State) (k : Nat) (p : Nat → Acc → Bool) {a_ : Acc} {t_ : State} (e_ : State.takeAcc s k p = some (a_, t_)) : t_.pending = s.pending ∧ t_.mbx = s.mbx := by
  first | (unfold State.takeAcc at e_; (try dsimp only at e_); (repeat' (first | contradiction | (simp only [Option.map_eq_some_iff, Option.bind_eq_some_iff, Option.some.injEq, Prod.mk.injEq] at e_; simp_all; done) | (cases e_; simp; done) | split at e_)); done) | (simp only [State.takeAcc, Option.map_eq_some_iff, Prod.mk.injEq] at e_; obtain ⟨_, _, rfl, rfl⟩ := e_; simp; done) | (simp only [State.takeAcc, Option.map_eq_some_iff] at e_; obtain ⟨_, _, rfl⟩ := e_; simp; done) | (grind [State.takeAcc, State.modShaft_kept])
@[simp] theorem State.track_kept (s : State) (k : Nat) (t : Track) : (State.track s k t).pending = s.pending ∧ (State.track s k t).mbx = s.mbx := by
  simp [State.track]
@[simp] theorem State.untrack_kept (s : State) (k tag : Nat) : (State.untrack s k tag).pending = s.pending ∧ (State.untrack s k tag).mbx = s.mbx := by
  simp [State.untrack]
@[simp] theorem State.modTrack_kept (s : State) (k tag : Nat) (f : Track → Track) :
    (State.modTrack s k tag f).pending = s.pending ∧ (State.modTrack s k tag f).mbx = s.mbx := by
  simp [State.modTrack]
@[simp] theorem shaftRead_kept (k : Nat) (s : State) : (shaftRead k s).pending = s.pending ∧ (shaftRead k s).mbx = s.mbx := by
  unfold shaftRead; (try dsimp only); (repeat' (first | (simp [*]; done) | (have e_1 := State.takeAcc_kept _ _ _ (by assumption); simp [*]; done) | (refine foldl_kept _ ?_ _ _ _ ?_ <;> intros <;> (try dsimp only)) | split | (apply And.intro)))
@[simp] theorem State.judge_kept (s : State) (k : Nat) (t : Track) (d : Decoded) :
    (State.judge s k t d).pending = s.pending ∧ (State.judge s k t d).mbx = s.mbx := by
  simp [State.judge]
@[simp] theorem State.deliverLine_kept (s : State) (k : Nat) (t : Track) (d : Decoded) :
    (State.deliverLine s k t d).pending = s.pending ∧ (State.deliverLine s k t d).mbx = s.mbx := by
  simp [State.deliverLine]
@[simp] theorem State.offerLine_kept (s : State) (k : Nat) (t : Track) (d : Decoded) :
    (State.offerLine s k t d).pending = s.pending ∧ (State.offerLine s k t d).mbx = s.mbx := by
  simp [State.offerLine]
@[simp] theorem hubReadReturn_kept (k tag : Nat) (l : HubLine) (s : State) :
    (hubReadReturn k tag l s).pending = s.pending ∧ (hubReadReturn k tag l s).mbx = s.mbx := by
  unfold hubReadReturn; (try dsimp only); (repeat' (first | (simp [*]; done) | (refine foldl_kept _ ?_ _ _ _ ?_ <;> intros <;> (try dsimp only)) | split | (apply And.intro)))
@[simp] theorem padReady_kept (k tag : Nat) (s : State) : (padReady k tag s).pending = s.pending ∧ (padReady k tag s).mbx = s.mbx := by
  unfold padReady; (try dsimp only); (repeat' (first | (simp [*]; done) | (refine foldl_kept _ ?_ _ _ _ ?_ <;> intros <;> (try dsimp only)) | split | (apply And.intro)))
@[simp] theorem correctionVerdict_kept (k : Nat) (s : State) : (correctionVerdict k s).pending = s.pending ∧ (correctionVerdict k s).mbx = s.mbx := by
  unfold correctionVerdict; (try dsimp only); (repeat' (first | (simp [*]; done) | (refine foldl_kept _ ?_ _ _ _ ?_ <;> intros <;> (try dsimp only)) | split | (apply And.intro)))
@[simp] theorem State.putLine_kept (s : State) (k n line : Nat) (c : Line) (key : Nat × Nat × BitVec 4) (ver : BitVec 44) :
    (State.putLine s k n line c key ver).pending = s.pending ∧ (State.putLine s k n line c key ver).mbx = s.mbx := by
  simp [State.putLine]
@[simp] theorem State.commitLine_kept (s : State) (k n : Nat) (a : Acc) (key : Nat × Nat × BitVec 4) (ver : BitVec 44) (plain : Line) (old : List Byte) :
    (State.commitLine s k n a key ver plain old).pending = s.pending ∧ (State.commitLine s k n a key ver plain old).mbx = s.mbx := by
  simp [State.commitLine]
@[simp] theorem State.takeToken_kept (s : State) (n : Nat) (a : Acc) :
    (State.takeToken s n a).pending = s.pending ∧ (State.takeToken s n a).mbx = s.mbx := by
  simp [State.takeToken]
@[simp] theorem State.writeGo_kept (s : State) (k n : Nat) (a : Acc) :
    (State.writeGo s k n a).pending = s.pending ∧ (State.writeGo s k n a).mbx = s.mbx := by
  unfold State.writeGo; (try dsimp only); (repeat' (first | (simp [*]; done) | (refine foldl_kept _ ?_ _ _ _ ?_ <;> intros <;> (try dsimp only)) | split | (apply And.intro)))
theorem State.writeOne_kept (s : State) (k : Nat) {t_ : State} (e_ : State.writeOne s k = some t_) : t_.pending = s.pending ∧ t_.mbx = s.mbx := by
  unfold State.writeOne at e_
  simp only [Option.map_eq_some_iff] at e_
  obtain ⟨⟨a, t⟩, h, rfl⟩ := e_
  have e := State.takeAcc_kept _ _ _ h
  dsimp only
  (repeat' split) <;> simp [*]
@[simp] theorem State.writeOne_getD (s : State) (k : Nat) (u_ : State) (h_ : u_.pending = s.pending ∧ u_.mbx = s.mbx) :
    ((State.writeOne s k).getD u_).pending = s.pending ∧ ((State.writeOne s k).getD u_).mbx = s.mbx := by
  cases e_ : State.writeOne s k with
  | none => exact h_
  | some t_ => exact State.writeOne_kept _ _ e_
@[simp] theorem State.runWrites_kept (k n : Nat) (s : State) : (State.runWrites k n s).pending = s.pending ∧ (State.runWrites k n s).mbx = s.mbx := by
  induction n generalizing s with
  | zero => exact ⟨rfl, rfl⟩
  | succ n ih =>
    unfold State.runWrites
    split
    · exact kept_trans (ih _) (State.writeOne_kept _ _ (by assumption))
    · exact ⟨rfl, rfl⟩
@[simp] theorem State.askBlocks_kept (s : State) (k : Nat) : (State.askBlocks s k).pending = s.pending ∧ (State.askBlocks s k).mbx = s.mbx := by
  unfold State.askBlocks; (try dsimp only); (repeat' (first | (simp [*]; done) | (refine foldl_kept _ ?_ _ _ _ ?_ <;> intros <;> (try dsimp only)) | split | (apply And.intro)))
@[simp] theorem shaftWrite_kept (k : Nat) (s : State) : (shaftWrite k s).pending = s.pending ∧ (shaftWrite k s).mbx = s.mbx := by
  unfold shaftWrite; (try dsimp only); (repeat' (first | (simp [*]; done) | (have e_1 := State.writeOne_kept _ _ (by assumption); simp [*]; done) | (refine foldl_kept _ ?_ _ _ _ ?_ <;> intros <;> (try dsimp only)) | split | (apply And.intro)))
@[simp] theorem counterFetchDone_kept (k blk : Nat) (ecc : Ecc) (s : State) :
    (counterFetchDone k blk ecc s).pending = s.pending ∧ (counterFetchDone k blk ecc s).mbx = s.mbx := by
  unfold counterFetchDone; (try dsimp only); (repeat' (first | (simp [*]; done) | (refine foldl_kept _ ?_ _ _ _ ?_ <;> intros <;> (try dsimp only)) | split | (apply And.intro)))
@[simp] theorem writeTokenArrive_kept (n : Nat) (s : State) : (writeTokenArrive n s).pending = s.pending ∧ (writeTokenArrive n s).mbx = s.mbx := by
  simp [writeTokenArrive]
@[simp] theorem State.refuseOld_kept (s : State) (k n : Nat) (a : Acc) (code : Nat) :
    (State.refuseOld s k n a code).pending = s.pending ∧ (State.refuseOld s k n a code).mbx = s.mbx := by
  simp [State.refuseOld]
@[simp] theorem partialOldLineReturn_kept (k tag : Nat) (l : HubLine) (s : State) :
    (partialOldLineReturn k tag l s).pending = s.pending ∧ (partialOldLineReturn k tag l s).mbx = s.mbx := by
  unfold partialOldLineReturn; (try dsimp only); (repeat' (first | (simp [*]; done) | (refine foldl_kept _ ?_ _ _ _ ?_ <;> intros <;> (try dsimp only)) | split | (apply And.intro)))
@[simp] theorem hubWriteAck_kept (k line : Nat) (s : State) : (hubWriteAck k line s).pending = s.pending ∧ (hubWriteAck k line s).mbx = s.mbx := by
  unfold hubWriteAck; (try dsimp only); (repeat' (first | (simp [*]; done) | (refine foldl_kept _ ?_ _ _ _ ?_ <;> intros <;> (try dsimp only)) | split | (apply And.intro)))
@[simp] theorem State.leftInPlace_kept (s : State) (k n line code : Nat) :
    (State.leftInPlace s k n line code).pending = s.pending ∧ (State.leftInPlace s k n line code).mbx = s.mbx := by
  simp [State.leftInPlace]
@[simp] theorem State.reencipher_kept (s : State) (k n line code : Nat) (kOld : Nat × Nat × BitVec 4) (vOld : BitVec 44) (kNew : Nat × Nat × BitVec 4)
    (vNew : BitVec 44) (l : HubLine) : (State.reencipher s k n line code kOld vOld kNew vNew l).pending = s.pending ∧ (State.reencipher s k n line code kOld vOld kNew vNew l).mbx = s.mbx := by
  unfold State.reencipher; (try dsimp only); (repeat' (first | (simp [*]; done) | (refine foldl_kept _ ?_ _ _ _ ?_ <;> intros <;> (try dsimp only)) | split | (apply And.intro)))
@[simp] theorem refreshDone_kept (k : Nat) (lines : List HubLine) (s : State) :
    (refreshDone k lines s).pending = s.pending ∧ (refreshDone k lines s).mbx = s.mbx := by
  unfold refreshDone; (try dsimp only); (repeat' (first | (simp [*]; done) | (refine foldl_kept _ ?_ _ _ _ ?_ <;> intros <;> (try dsimp only)) | split | (apply And.intro)))
@[simp] theorem sweepPage_kept (k : Nat) (lines : List HubLine) (ecc : Ecc) (s : State) :
    (sweepPage k lines ecc s).pending = s.pending ∧ (sweepPage k lines ecc s).mbx = s.mbx := by
  unfold sweepPage; (try dsimp only); (repeat' (first | (simp [*]; done) | (refine foldl_kept _ ?_ _ _ _ ?_ <;> intros <;> (try dsimp only)) | split | (apply And.intro)))
@[simp] theorem State.keepWords_kept (s : State) (src : Src) (w n : Nat) :
    (State.keepWords s src w n).pending = s.pending ∧ (State.keepWords s src w n).mbx = s.mbx := by
  simp [State.keepWords]
@[simp] theorem innerPageAccess_kept (q key : Nat) (ecc : Ecc) (s : State) :
    (innerPageAccess q key ecc s).pending = s.pending ∧ (innerPageAccess q key ecc s).mbx = s.mbx := by
  unfold innerPageAccess
  split
  · exact ⟨rfl, rfl⟩
  · rename_i r _
    extract_lets before n t0 t reads line0 kept reads'
    split
    · exact ⟨rfl, rfl⟩
    · have e1 : (if reads'.isEmpty then (t, false) else t.insWords q (reads'.map (innerWord r.addr + ·)) 6 ecc).1.pending = s.pending ∧
          (if reads'.isEmpty then (t, false) else t.insWords q (reads'.map (innerWord r.addr + ·)) 6 ecc).1.mbx = s.mbx := by
        split <;> simp [t]
      generalize (if reads'.isEmpty then (t, false) else t.insWords q (reads'.map (innerWord r.addr + ·)) 6 ecc) = w at e1
      obtain ⟨u, bad⟩ := w
      dsimp only at e1 ⊢
      cases bad
      · simp only [Bool.false_eq_true, if_false]
        (repeat' split) <;> simp [e1]
      · simp only [if_true]
        (repeat' split) <;> simp [e1]
@[simp] theorem State.decisionLost_kept (s : State) (k p : Nat) :
    (State.decisionLost s k p).pending = s.pending ∧ (State.decisionLost s k p).mbx = s.mbx := by
  unfold State.decisionLost; (try dsimp only); (repeat' (first | (simp [*]; done) | (refine foldl_kept _ ?_ _ _ _ ?_ <;> intros <;> (try dsimp only)) | split | (apply And.intro)))
@[simp] theorem State.wordLost_kept (s : State) (q word : Nat) :
    (State.wordLost s q word).pending = s.pending ∧ (State.wordLost s q word).mbx = s.mbx := by
  unfold State.wordLost; (try dsimp only); (repeat' (first | (simp [*]; done) | (refine foldl_kept _ ?_ _ _ _ ?_ <;> intros <;> (try dsimp only)) | split | (apply And.intro)))
@[simp] theorem scrubWordRead_kept (q word : Nat) (ecc : Ecc) (s : State) :
    (scrubWordRead q word ecc s).pending = s.pending ∧ (scrubWordRead q word ecc s).mbx = s.mbx := by
  unfold scrubWordRead; (try dsimp only); (repeat' (first | (simp [*]; done) | (refine foldl_kept _ ?_ _ _ _ ?_ <;> intros <;> (try dsimp only)) | split | (apply And.intro)))
@[simp] theorem scrubPassEnd_kept (q : Nat) (s : State) : (scrubPassEnd q s).pending = s.pending ∧ (scrubPassEnd q s).mbx = s.mbx := by
  simp [scrubPassEnd]
@[simp] theorem State.zeroShare_kept (s : State) (k : Nat) : (State.zeroShare s k).pending = s.pending ∧ (State.zeroShare s k).mbx = s.mbx := by
  simp [State.zeroShare]
@[simp] theorem State.beginZero_kept (s : State) (k : Nat) : (State.beginZero s k).pending = s.pending ∧ (State.beginZero s k).mbx = s.mbx := by
  simp [State.beginZero]
@[simp] theorem shareZeroDone_kept (k : Nat) (s : State) : (shareZeroDone k s).pending = s.pending ∧ (shareZeroDone k s).mbx = s.mbx := by
  simp [shareZeroDone]
@[simp] theorem State.tsIrq_kept (s : State) (t bit : Nat) : (State.tsIrq s t bit).pending = s.pending ∧ (State.tsIrq s t bit).mbx = s.mbx := by
  simp [State.tsIrq]
@[simp] theorem State.zeroSite_kept (s : State) (t : Nat) : (State.zeroSite s t).pending = s.pending ∧ (State.zeroSite s t).mbx = s.mbx := by
  simp [State.zeroSite]
@[simp] theorem State.abandonSite_kept (s : State) (t : Nat) : (State.abandonSite s t).pending = s.pending ∧ (State.abandonSite s t).mbx = s.mbx := by
  simp [State.abandonSite]
@[simp] theorem State.disableSite_kept (s : State) (t code : Nat) :
    (State.disableSite s t code).pending = s.pending ∧ (State.disableSite s t code).mbx = s.mbx := by
  simp [State.disableSite]
@[simp] theorem State.rejectSite_kept (s : State) (t code : Nat) :
    (State.rejectSite s t code).pending = s.pending ∧ (State.rejectSite s t code).mbx = s.mbx := by
  simp [State.rejectSite]
@[simp] theorem State.quarantine_kept (s : State) (t code : Nat) :
    (State.quarantine s t code).pending = s.pending ∧ (State.quarantine s t code).mbx = s.mbx := by
  simp [State.quarantine]
@[simp] theorem State.flushSite_kept (s : State) (t : Nat) : (State.flushSite s t).pending = s.pending ∧ (State.flushSite s t).mbx = s.mbx := by
  simp [State.flushSite]
@[simp] theorem State.startSite_kept (s : State) (t : Nat) : (State.startSite s t).pending = s.pending ∧ (State.startSite s t).mbx = s.mbx := by
  simp [State.startSite]
@[simp] theorem State.takeChunk_kept (s : State) (t code idx : Nat) (last : Bool) (b : List Byte) :
    (State.takeChunk s t code idx last b).pending = s.pending ∧ (State.takeChunk s t code idx last b).mbx = s.mbx := by
  simp [State.takeChunk]
theorem State.takeBoot_kept (s : State) (t code : Nat) (b : List Byte) {t_ : State} (e_ : State.takeBoot s t code b = some t_) : t_.pending = s.pending ∧ t_.mbx = s.mbx := by
  first | (unfold State.takeBoot at e_; (try dsimp only at e_); (repeat' (first | contradiction | (simp only [Option.map_eq_some_iff, Option.bind_eq_some_iff, Option.some.injEq, Prod.mk.injEq] at e_; simp_all; done) | (cases e_; simp; done) | split at e_)); done) | (simp only [State.takeBoot, Option.map_eq_some_iff, Prod.mk.injEq] at e_; obtain ⟨_, _, rfl, rfl⟩ := e_; simp; done) | (simp only [State.takeBoot, Option.map_eq_some_iff] at e_; obtain ⟨_, _, rfl⟩ := e_; simp; done) | (grind [State.takeBoot, State.modSio_kept])
@[simp] theorem State.takeBoot_getD (s : State) (t code : Nat) (b : List Byte) (u_ : State) (h_ : u_.pending = s.pending ∧ u_.mbx = s.mbx) :
    ((State.takeBoot s t code b).getD u_).pending = s.pending ∧ ((State.takeBoot s t code b).getD u_).mbx = s.mbx := by
  cases e_ : State.takeBoot s t code b with
  | none => exact h_
  | some t_ => exact State.takeBoot_kept _ _ _ _ e_
@[simp] theorem siteLinkUp_kept (t : Nat) (cfgOk : Bool) (s : State) :
    (siteLinkUp t cfgOk s).pending = s.pending ∧ (siteLinkUp t cfgOk s).mbx = s.mbx := by
  unfold siteLinkUp; (try dsimp only); (repeat' (first | (simp [*]; done) | (refine foldl_kept _ ?_ _ _ _ ?_ <;> intros <;> (try dsimp only)) | split | (apply And.intro)))
@[simp] theorem siteLinkDown_kept (t : Nat) (s : State) : (siteLinkDown t s).pending = s.pending ∧ (siteLinkDown t s).mbx = s.mbx := by
  simp [siteLinkDown]
@[simp] theorem State.siteHello_kept (s : State) (t : Nat) (h : ShimHello) :
    (State.siteHello s t h).pending = s.pending ∧ (State.siteHello s t h).mbx = s.mbx := by
  simp [State.siteHello]
@[simp] theorem ctrlHello_kept (t : Nat) (h : ShimHello) (s : State) : (ctrlHello t h s).pending = s.pending ∧ (ctrlHello t h s).mbx = s.mbx := by
  unfold ctrlHello; (try dsimp only); (repeat' (first | (simp [*]; done) | (have e_1 := State.takeBoot_kept _ _ _ _ (by assumption); simp [*]; done) | (refine foldl_kept _ ?_ _ _ _ ?_ <;> intros <;> (try dsimp only)) | split | (apply And.intro)))
@[simp] theorem ctrlResponse_kept (t : Nat) (r : ShimResponse) (s : State) :
    (ctrlResponse t r s).pending = s.pending ∧ (ctrlResponse t r s).mbx = s.mbx := by
  unfold ctrlResponse; dsimp only
  split
  · simp
  · split
    · simp
    · rename_i s0 h0
      have e0 := State.takeBoot_kept _ _ _ _ h0
      split
      · simp [e0]
      · split
        · simp [e0]
        · split
          · simp [e0]
          · rename_i h1
            split
            · simp [e0]
            · rename_i h2
              split
              · simp [e0]
              · rename_i h3
                exact kept_trans (State.ctrl_kept _ _ _ _) (kept_trans (State.modSio_kept _ _ _) (kept_trans (State.modSite_kept _ _ _)
                  (kept_trans (State.putLink_kept _ _ _ h3) (kept_trans (State.putLink_kept _ _ _ h2) (kept_trans (State.putLink_kept _ _ _ h1)
                    (kept_trans (State.modSite_kept _ _ _) e0))))))
@[simp] theorem State.gainCredits_kept (s : State) (t n : Nat) :
    (State.gainCredits s t n).pending = s.pending ∧ (State.gainCredits s t n).mbx = s.mbx := by
  simp [State.gainCredits]
@[simp] theorem State.drainRsp_kept (s : State) (t : Nat) : (State.drainRsp s t).pending = s.pending ∧ (State.drainRsp s t).mbx = s.mbx := by
  unfold State.drainRsp; (try dsimp only); (repeat' (first | (simp [*]; done) | (refine foldl_kept _ ?_ _ _ _ ?_ <;> intros <;> (try dsimp only)) | split | (apply And.intro)))
@[simp] theorem State.returnCredits_kept (s : State) (t : Nat) :
    (State.returnCredits s t).pending = s.pending ∧ (State.returnCredits s t).mbx = s.mbx := by
  simp [State.returnCredits]
@[simp] theorem State.frameFailed_kept (s : State) (t : Nat) : (State.frameFailed s t).pending = s.pending ∧ (State.frameFailed s t).mbx = s.mbx := by
  simp [State.frameFailed]
@[simp] theorem State.acceptFrame_kept (s : State) (t : Nat) (hd : Dword) (plain : List Byte) :
    (State.acceptFrame s t hd plain).pending = s.pending ∧ (State.acceptFrame s t hd plain).mbx = s.mbx := by
  simp [State.acceptFrame]
@[simp] theorem frameReceive_kept (t : Nat) (frame : List Byte) (s : State) :
    (frameReceive t frame s).pending = s.pending ∧ (frameReceive t frame s).mbx = s.mbx := by
  unfold frameReceive; (try dsimp only); (repeat' (first | (simp [*]; done) | (refine foldl_kept _ ?_ _ _ _ ?_ <;> intros <;> (try dsimp only)) | split | (apply And.intro)))
theorem State.takeRx_kept (s : State) (t : Nat) (p : RxFrame → Bool) {a_ : RxFrame} {t_ : State} (e_ : State.takeRx s t p = some (a_, t_)) : t_.pending = s.pending ∧ t_.mbx = s.mbx := by
  first | (unfold State.takeRx at e_; (try dsimp only at e_); (repeat' (first | contradiction | (simp only [Option.map_eq_some_iff, Option.bind_eq_some_iff, Option.some.injEq, Prod.mk.injEq] at e_; simp_all; done) | (cases e_; simp; done) | split at e_)); done) | (simp only [State.takeRx, Option.map_eq_some_iff, Prod.mk.injEq] at e_; obtain ⟨_, _, rfl, rfl⟩ := e_; simp; done) | (simp only [State.takeRx, Option.map_eq_some_iff] at e_; obtain ⟨_, _, rfl⟩ := e_; simp; done) | (grind [State.takeRx, State.modSio_kept])
theorem State.takeCtrl_kept (s : State) (t code : Nat) {a_ : RxFrame} {t_ : State} (e_ : State.takeCtrl s t code = some (a_, t_)) : t_.pending = s.pending ∧ t_.mbx = s.mbx := by
  first | (unfold State.takeCtrl at e_; (try dsimp only at e_); (repeat' (first | contradiction | (simp only [Option.map_eq_some_iff, Option.bind_eq_some_iff, Option.some.injEq, Prod.mk.injEq] at e_; simp_all; done) | (cases e_; simp; done) | (have e_1 := State.takeRx_kept _ _ _ (by assumption); simp [*]; done) | split at e_)); done) | (simp only [State.takeCtrl, Option.map_eq_some_iff, Prod.mk.injEq] at e_; obtain ⟨_, _, rfl, rfl⟩ := e_; simp; done) | (simp only [State.takeCtrl, Option.map_eq_some_iff] at e_; obtain ⟨_, _, rfl⟩ := e_; simp; done) | (grind [State.takeCtrl, State.takeRx_kept])
@[simp] theorem State.takeSlot_kept (t : Nat) (seq : Dword) (words : List Block) (x : State × Bool) (i : Nat) :
    (State.takeSlot t seq words x i).1.pending = x.1.pending ∧ (State.takeSlot t seq words x i).1.mbx = x.1.mbx := by
  obtain ⟨s, b⟩ := x
  unfold State.takeSlot
  dsimp only
  (repeat' split) <;> simp
theorem State.takeSlots_kept (t : Nat) (seq : Dword) (words : List Block) (l : List Nat) (x : State × Bool) :
    (l.foldl (State.takeSlot t seq words) x).1.pending = x.1.pending ∧ (l.foldl (State.takeSlot t seq words) x).1.mbx = x.1.mbx := by
  induction l generalizing x with
  | nil => exact ⟨rfl, rfl⟩
  | cons a l ih => exact kept_trans (ih _) (State.takeSlot_kept _ _ _ _ _)
@[simp] theorem reqFrame_kept (t : Nat) (s : State) : (reqFrame t s).pending = s.pending ∧ (reqFrame t s).mbx = s.mbx := by
  unfold reqFrame
  split
  · simp
  · split
    · simp
    · rename_i h
      exact kept_trans (State.returnCredits_kept _ _) (kept_trans (State.takeSlots_kept _ _ _ _ _) (kept_trans (State.modSio_kept _ _ _) (State.takeRx_kept _ _ _ h)))
@[simp] theorem dataFrame_kept (t : Nat) (s : State) : (dataFrame t s).pending = s.pending ∧ (dataFrame t s).mbx = s.mbx := by
  unfold dataFrame; (try dsimp only); (repeat' (first | (simp [*]; done) | (have e_1 := State.takeRx_kept _ _ _ (by assumption); simp [*]; done) | (refine foldl_kept _ ?_ _ _ _ ?_ <;> intros <;> (try dsimp only)) | split | (apply And.intro)))
@[simp] theorem State.modOp_kept (s : State) (t tag : Nat) (f : SlotOp → SlotOp) :
    (State.modOp s t tag f).pending = s.pending ∧ (State.modOp s t tag f).mbx = s.mbx := by
  simp [State.modOp]
@[simp] theorem State.endSlot_kept (s : State) (t : Nat) (o : SlotOp) (status : Nat) :
    (State.endSlot s t o status).pending = s.pending ∧ (State.endSlot s t o status).mbx = s.mbx := by
  simp [State.endSlot]
@[simp] theorem State.joinCart_kept (s : State) (t : Nat) (o : SlotOp) (ctx : BitVec 16) :
    (State.joinCart s t o ctx).pending = s.pending ∧ (State.joinCart s t o ctx).mbx = s.mbx := by
  unfold State.joinCart; (try dsimp only); (repeat' (first | (simp [*]; done) | (refine foldl_kept _ ?_ _ _ _ ?_ <;> intros <;> (try dsimp only)) | split | (apply And.intro)))
@[simp] theorem State.endCart_kept (s : State) (t : Nat) (o : SlotOp) (ctx : BitVec 16) :
    (State.endCart s t o ctx).pending = s.pending ∧ (State.endCart s t o ctx).mbx = s.mbx := by
  unfold State.endCart; (try dsimp only); (repeat' (first | (simp [*]; done) | (refine foldl_kept _ ?_ _ _ _ ?_ <;> intros <;> (try dsimp only)) | split | (apply And.intro)))
@[simp] theorem State.issueKept_kept (s : State) (t : Nat) (o : SlotOp) :
    (State.issueKept s t o).pending = s.pending ∧ (State.issueKept s t o).mbx = s.mbx := by
  unfold State.issueKept; (try dsimp only); (repeat' (first | (simp [*]; done) | (have e_1 := State.issueReq_kept _ _ _ _ _ _ (by assumption); simp [*]; done) | (refine foldl_kept _ ?_ _ _ _ ?_ <;> intros <;> (try dsimp only)) | split | (apply And.intro)))
@[simp] theorem siteSlotIssue_kept (t : Nat) (tag : Nat) (s : State) :
    (siteSlotIssue t tag s).pending = s.pending ∧ (siteSlotIssue t tag s).mbx = s.mbx := by
  unfold siteSlotIssue; (try dsimp only); (repeat' (first | (simp [*]; done) | (have e_1 := State.issueReq_kept _ _ _ _ _ _ (by assumption); simp [*]; done) | (refine foldl_kept _ ?_ _ _ _ ?_ <;> intros <;> (try dsimp only)) | split | (apply And.intro)))
@[simp] theorem ctrlKeyConfirm_kept (t : Nat) (s : State) : (ctrlKeyConfirm t s).pending = s.pending ∧ (ctrlKeyConfirm t s).mbx = s.mbx := by
  unfold ctrlKeyConfirm; (try dsimp only); (repeat' (first | (simp [*]; done) | (have e_1 := State.takeCtrl_kept _ _ _ (by assumption); simp [*]; done) | (refine foldl_kept _ ?_ _ _ _ ?_ <;> intros <;> (try dsimp only)) | split | (apply And.intro)))
@[simp] theorem ctrlCredit_kept (t : Nat) (s : State) : (ctrlCredit t s).pending = s.pending ∧ (ctrlCredit t s).mbx = s.mbx := by
  unfold ctrlCredit; (try dsimp only); (repeat' (first | (simp [*]; done) | (have e_1 := State.takeCtrl_kept _ _ _ (by assumption); simp [*]; done) | (refine foldl_kept _ ?_ _ _ _ ?_ <;> intros <;> (try dsimp only)) | split | (apply And.intro)))
@[simp] theorem State.resend_kept (s : State) (t : Nat) (seq : Dword) :
    (State.resend s t seq).pending = s.pending ∧ (State.resend s t seq).mbx = s.mbx := by
  unfold State.resend; (try dsimp only); (repeat' (first | (simp [*]; done) | (refine foldl_kept _ ?_ _ _ _ ?_ <;> intros <;> (try dsimp only)) | split | (apply And.intro)))
@[simp] theorem ctrlReplay_kept (t : Nat) (s : State) : (ctrlReplay t s).pending = s.pending ∧ (ctrlReplay t s).mbx = s.mbx := by
  unfold ctrlReplay; (try dsimp only); (repeat' (first | (simp [*]; done) | (have e_1 := State.takeCtrl_kept _ _ _ (by assumption); simp [*]; done) | (refine foldl_kept _ ?_ _ _ _ ?_ <;> intros <;> (try dsimp only)) | split | (apply And.intro)))
@[simp] theorem ctrlReplayLost_kept (t : Nat) (s : State) : (ctrlReplayLost t s).pending = s.pending ∧ (ctrlReplayLost t s).mbx = s.mbx := by
  unfold ctrlReplayLost; (try dsimp only); (repeat' (first | (simp [*]; done) | (have e_1 := State.takeCtrl_kept _ _ _ (by assumption); simp [*]; done) | (refine foldl_kept _ ?_ _ _ _ ?_ <;> intros <;> (try dsimp only)) | split | (apply And.intro)))
@[simp] theorem ctrlReplayFailed_kept (t : Nat) (s : State) : (ctrlReplayFailed t s).pending = s.pending ∧ (ctrlReplayFailed t s).mbx = s.mbx := by
  unfold ctrlReplayFailed; (try dsimp only); (repeat' (first | (simp [*]; done) | (have e_1 := State.takeCtrl_kept _ _ _ (by assumption); simp [*]; done) | (refine foldl_kept _ ?_ _ _ _ ?_ <;> intros <;> (try dsimp only)) | split | (apply And.intro)))
@[simp] theorem ctrlResync_kept (t : Nat) (s : State) : (ctrlResync t s).pending = s.pending ∧ (ctrlResync t s).mbx = s.mbx := by
  unfold ctrlResync; (try dsimp only); (repeat' (first | (simp [*]; done) | (have e_1 := State.takeCtrl_kept _ _ _ (by assumption); simp [*]; done) | (refine foldl_kept _ ?_ _ _ _ ?_ <;> intros <;> (try dsimp only)) | split | (apply And.intro)))
@[simp] theorem State.advanceRx_kept (s : State) (t : Nat) : (State.advanceRx s t).pending = s.pending ∧ (State.advanceRx s t).mbx = s.mbx := by
  unfold State.advanceRx; (try dsimp only); (repeat' (first | (simp [*]; done) | (have e_1 := State.putLink_kept _ _ _ (by assumption); simp [*]; done) | (refine foldl_kept _ ?_ _ _ _ ?_ <;> intros <;> (try dsimp only)) | split | (apply And.intro)))
@[simp] theorem ctrlRekey_kept (t : Nat) (s : State) : (ctrlRekey t s).pending = s.pending ∧ (ctrlRekey t s).mbx = s.mbx := by
  unfold ctrlRekey; (try dsimp only); (repeat' (first | (simp [*]; done) | (have e_1 := State.takeCtrl_kept _ _ _ (by assumption); simp [*]; done) | (refine foldl_kept _ ?_ _ _ _ ?_ <;> intros <;> (try dsimp only)) | split | (apply And.intro)))
@[simp] theorem ctrlFlushDone_kept (t : Nat) (s : State) : (ctrlFlushDone t s).pending = s.pending ∧ (ctrlFlushDone t s).mbx = s.mbx := by
  unfold ctrlFlushDone; (try dsimp only); (repeat' (first | (simp [*]; done) | (have e_1 := State.takeCtrl_kept _ _ _ (by assumption); simp [*]; done) | (refine foldl_kept _ ?_ _ _ _ ?_ <;> intros <;> (try dsimp only)) | split | (apply And.intro)))
@[simp] theorem bringupTimeout_kept (t : Nat) (s : State) : (bringupTimeout t s).pending = s.pending ∧ (bringupTimeout t s).mbx = s.mbx := by
  simp [bringupTimeout]
@[simp] theorem resyncTimeout_kept (t : Nat) (s : State) : (resyncTimeout t s).pending = s.pending ∧ (resyncTimeout t s).mbx = s.mbx := by
  simp [resyncTimeout]
@[simp] theorem State.tsEnd_kept (s : State) (t code : Nat) : (State.tsEnd s t code).pending = s.pending ∧ (State.tsEnd s t code).mbx = s.mbx := by
  simp [State.tsEnd]
@[simp] theorem tsRestart_kept (ap : Aperture) (t : Nat) (s : State) : (tsRestart ap t s).pending = s.pending ∧ (tsRestart ap t s).mbx = s.mbx := by
  simp [tsRestart]
@[simp] theorem tsRekey_kept (ap : Aperture) (t : Nat) (s : State) : (tsRekey ap t s).pending = s.pending ∧ (tsRekey ap t s).mbx = s.mbx := by
  simp [tsRekey]
@[simp] theorem codewordReceive_kept (p : Nat) (hdr : BitVec 20) (us : List Block) (bad : Bool) (s : State) :
    (codewordReceive p hdr us bad s).pending = s.pending ∧ (codewordReceive p hdr us bad s).mbx = s.mbx := by
  simp [codewordReceive]
theorem State.takePkt_kept (s : State) (p : Nat) (f : RxPkt → Bool) {a_ : RxPkt} {t_ : State} (e_ : State.takePkt s p f = some (a_, t_)) : t_.pending = s.pending ∧ t_.mbx = s.mbx := by
  first | (unfold State.takePkt at e_; (try dsimp only at e_); (repeat' (first | contradiction | (simp only [Option.map_eq_some_iff, Option.bind_eq_some_iff, Option.some.injEq, Prod.mk.injEq] at e_; simp_all; done) | (cases e_; simp; done) | split at e_)); done) | (simp only [State.takePkt, Option.map_eq_some_iff, Prod.mk.injEq] at e_; obtain ⟨_, _, rfl, rfl⟩ := e_; simp; done) | (simp only [State.takePkt, Option.map_eq_some_iff] at e_; obtain ⟨_, _, rfl⟩ := e_; simp; done) | (grind [State.takePkt, State.modPort_kept])
@[simp] theorem State.sendHop_kept (s : State) (p opcode : Nat) (b : List Byte) :
    (State.sendHop s p opcode b).pending = s.pending ∧ (State.sendHop s p opcode b).mbx = s.mbx := by
  simp [State.sendHop]
@[simp] theorem State.bcastClear_kept (s : State) (opcode : Nat) (b : List Byte) :
    (State.bcastClear s opcode b).pending = s.pending ∧ (State.bcastClear s opcode b).mbx = s.mbx := by
  simp [State.bcastClear]
@[simp] theorem State.routeClear_kept (s : State) (dst opcode : Nat) (b : List Byte) :
    (State.routeClear s dst opcode b).pending = s.pending ∧ (State.routeClear s dst opcode b).mbx = s.mbx := by
  unfold State.routeClear; (try dsimp only); (repeat' (first | (simp [*]; done) | (refine foldl_kept _ ?_ _ _ _ ?_ <;> intros <;> (try dsimp only)) | split | (apply And.intro)))
@[simp] theorem State.bcastFlow_kept (s : State) (opcode : Nat) (b : List Byte) :
    (State.bcastFlow s opcode b).pending = s.pending ∧ (State.bcastFlow s opcode b).mbx = s.mbx := by
  unfold State.bcastFlow; (try dsimp only); (repeat' (first | (simp [*]; done) | (refine foldl_kept _ ?_ _ _ _ ?_ <;> intros <;> (try dsimp only)) | split | (apply And.intro)))
@[simp] theorem State.portState_kept (s : State) (p : Nat) (x : PortState) :
    (State.portState s p x).pending = s.pending ∧ (State.portState s p x).mbx = s.mbx := by
  simp [State.portState]
@[simp] theorem State.checkRoutes_kept (s : State) : (State.checkRoutes s).pending = s.pending ∧ (State.checkRoutes s).mbx = s.mbx := by
  simp [State.checkRoutes]
@[simp] theorem State.routeOks_kept (s : State) : (State.routeOks s).pending = s.pending ∧ (State.routeOks s).mbx = s.mbx := by
  simp [State.routeOks]
@[simp] theorem State.clearTx_kept (s : State) (p : Nat) : (State.clearTx s p).pending = s.pending ∧ (State.clearTx s p).mbx = s.mbx := by
  unfold State.clearTx; (try dsimp only); (repeat' (first | (simp [*]; done) | (refine foldl_kept _ ?_ _ _ _ ?_ <;> intros <;> (try dsimp only)) | split | (apply And.intro)))
@[simp] theorem State.disputePort_kept (s : State) (p reason : Nat) :
    (State.disputePort s p reason).pending = s.pending ∧ (State.disputePort s p reason).mbx = s.mbx := by
  simp [State.disputePort]
@[simp] theorem State.portUp_kept (s : State) (p : Nat) : (State.portUp s p).pending = s.pending ∧ (State.portUp s p).mbx = s.mbx := by
  simp [State.portUp]
@[simp] theorem State.sendHello_kept (s : State) (p : Nat) : (State.sendHello s p).pending = s.pending ∧ (State.sendHello s p).mbx = s.mbx := by
  simp [State.sendHello]
@[simp] theorem fabricPortUp_kept (p : Nat) (s : State) : (fabricPortUp p s).pending = s.pending ∧ (fabricPortUp p s).mbx = s.mbx := by
  simp [fabricPortUp]
@[simp] theorem fabricPortDown_kept (p : Nat) (s : State) : (fabricPortDown p s).pending = s.pending ∧ (fabricPortDown p s).mbx = s.mbx := by
  simp [fabricPortDown]
@[simp] theorem helloTimer_kept (p : Nat) (s : State) : (helloTimer p s).pending = s.pending ∧ (helloTimer p s).mbx = s.mbx := by
  simp [helloTimer]
@[simp] theorem State.routeFail_kept (s : State) (p d : Nat) : (State.routeFail s p d).pending = s.pending ∧ (State.routeFail s p d).mbx = s.mbx := by
  simp [State.routeFail]
@[simp] theorem State.forward_kept (s : State) (out : Nat) (x : RxPkt) :
    (State.forward s out x).pending = s.pending ∧ (State.forward s out x).mbx = s.mbx := by
  simp [State.forward]
@[simp] theorem packetTransit_kept (p : Nat) (s : State) : (packetTransit p s).pending = s.pending ∧ (packetTransit p s).mbx = s.mbx := by
  unfold packetTransit; (try dsimp only); (repeat' (first | (simp [*]; done) | (have e_1 := State.takePkt_kept _ _ _ (by assumption); simp [*]; done) | (refine foldl_kept _ ?_ _ _ _ ?_ <;> intros <;> (try dsimp only)) | split | (apply And.intro)))
@[simp] theorem State.rebroadcast_kept (s : State) (x : RxPkt) :
    (State.rebroadcast s x).pending = s.pending ∧ (State.rebroadcast s x).mbx = s.mbx := by
  simp [State.rebroadcast]
@[simp] theorem packetDeliver_kept (p : Nat) (s : State) : (packetDeliver p s).pending = s.pending ∧ (packetDeliver p s).mbx = s.mbx := by
  unfold packetDeliver; (try dsimp only); (repeat' (first | (simp [*]; done) | (refine foldl_kept _ ?_ _ _ _ ?_ <;> intros <;> (try dsimp only)) | split | (apply And.intro)))
@[simp] theorem State.keepCtrl_kept (s : State) (p : Nat) (x : RxPkt) (clear : Bool) (plain : List Byte) :
    (State.keepCtrl s p x clear plain).pending = s.pending ∧ (State.keepCtrl s p x clear plain).mbx = s.mbx := by
  simp [State.keepCtrl]
@[simp] theorem State.putRx_kept (s : State) (f : FlowRx) : (State.putRx s f).pending = s.pending ∧ (State.putRx s f).mbx = s.mbx := by
  simp [State.putRx]
@[simp] theorem State.judgePacket_kept (s : State) (p : Nat) (x : RxPkt) (ok : Bool) :
    (State.judgePacket s p x ok).pending = s.pending ∧ (State.judgePacket s p x ok).mbx = s.mbx := by
  unfold State.judgePacket; (try dsimp only); (repeat' (first | (simp [*]; done) | (refine foldl_kept _ ?_ _ _ _ ?_ <;> intros <;> (try dsimp only)) | split | (apply And.intro)))
@[simp] theorem State.pktFailed_kept (s : State) (p : Nat) (x : RxPkt) :
    (State.pktFailed s p x).pending = s.pending ∧ (State.pktFailed s p x).mbx = s.mbx := by
  unfold State.pktFailed
  extract_lets fails t1 t2 t3 t4
  have e1 : t1.pending = s.pending ∧ t1.mbx = s.mbx := by simp [t1]
  have e2 : t2.pending = s.pending ∧ t2.mbx = s.mbx := by simp [t2, e1]
  have e3 : t3.pending = s.pending ∧ t3.mbx = s.mbx := by simp only [t3]; (repeat' split) <;> simp [e2]
  have e4 : t4.pending = s.pending ∧ t4.mbx = s.mbx := by simp [t4, e3]
  clear_value t1 t2 t3 t4 fails
  split <;> simp [*]
@[simp] theorem State.acceptPkt_kept (s : State) (p : Nat) (x : RxPkt) (plain : List Byte) :
    (State.acceptPkt s p x plain).pending = s.pending ∧ (State.acceptPkt s p x plain).mbx = s.mbx := by
  simp [State.acceptPkt]
@[simp] theorem packetVerdict_kept (p : Nat) (s : State) : (packetVerdict p s).pending = s.pending ∧ (packetVerdict p s).mbx = s.mbx := by
  unfold packetVerdict; (try dsimp only); (repeat' (first | (simp [*]; done) | (have e_1 := State.takePkt_kept _ _ _ (by assumption); simp [*]; done) | (refine foldl_kept _ ?_ _ _ _ ?_ <;> intros <;> (try dsimp only)) | split | (apply And.intro)))
theorem State.takeMsg_kept (s : State) (p opcode : Nat) {a_ : CtrlMsg} {t_ : State} (e_ : State.takeMsg s p opcode = some (a_, t_)) : t_.pending = s.pending ∧ t_.mbx = s.mbx := by
  first | (unfold State.takeMsg at e_; (try dsimp only at e_); (repeat' (first | contradiction | (simp only [Option.map_eq_some_iff, Option.bind_eq_some_iff, Option.some.injEq, Prod.mk.injEq] at e_; simp_all; done) | (cases e_; simp; done) | split at e_)); done) | (simp only [State.takeMsg, Option.map_eq_some_iff, Prod.mk.injEq] at e_; obtain ⟨_, _, rfl, rfl⟩ := e_; simp; done) | (simp only [State.takeMsg, Option.map_eq_some_iff] at e_; obtain ⟨_, _, rfl⟩ := e_; simp; done) | (grind [State.takeMsg, State.ctrl_kept, State.modPort_kept])
@[simp] theorem State.restoreCredits_kept (s : State) (p : Nat) (m : CtrlMsg) (off : Nat) :
    (State.restoreCredits s p m off).pending = s.pending ∧ (State.restoreCredits s p m off).mbx = s.mbx := by
  simp [State.restoreCredits]
@[simp] theorem announceTimer_kept (s : State) : (announceTimer s).pending = s.pending ∧ (announceTimer s).mbx = s.mbx := by
  simp [announceTimer]
@[simp] theorem announceReceive_kept (p : Nat) (s : State) : (announceReceive p s).pending = s.pending ∧ (announceReceive p s).mbx = s.mbx := by
  unfold announceReceive; (try dsimp only); (repeat' (first | (simp [*]; done) | (have e_1 := State.takeMsg_kept _ _ _ (by assumption); simp [*]; done) | (refine foldl_kept _ ?_ _ _ _ ?_ <;> intros <;> (try dsimp only)) | split | (apply And.intro)))
@[simp] theorem announceSilent_kept (p : Nat) (s : State) : (announceSilent p s).pending = s.pending ∧ (announceSilent p s).mbx = s.mbx := by
  simp [announceSilent]
@[simp] theorem disputeReceive_kept (p : Nat) (s : State) : (disputeReceive p s).pending = s.pending ∧ (disputeReceive p s).mbx = s.mbx := by
  unfold disputeReceive; (try dsimp only); (repeat' (first | (simp [*]; done) | (have e_1 := State.takeMsg_kept _ _ _ (by assumption); simp [*]; done) | (refine foldl_kept _ ?_ _ _ _ ?_ <;> intros <;> (try dsimp only)) | split | (apply And.intro)))
@[simp] theorem routeFailReceive_kept (p : Nat) (s : State) : (routeFailReceive p s).pending = s.pending ∧ (routeFailReceive p s).mbx = s.mbx := by
  unfold routeFailReceive; (try dsimp only); (repeat' (first | (simp [*]; done) | (have e_1 := State.takeMsg_kept _ _ _ (by assumption); simp [*]; done) | (refine foldl_kept _ ?_ _ _ _ ?_ <;> intros <;> (try dsimp only)) | split | (apply And.intro)))
@[simp] theorem routeOkReceive_kept (p : Nat) (s : State) : (routeOkReceive p s).pending = s.pending ∧ (routeOkReceive p s).mbx = s.mbx := by
  unfold routeOkReceive; (try dsimp only); (repeat' (first | (simp [*]; done) | (have e_1 := State.takeMsg_kept _ _ _ (by assumption); simp [*]; done) | (refine foldl_kept _ ?_ _ _ _ ?_ <;> intros <;> (try dsimp only)) | split | (apply And.intro)))
@[simp] theorem timeSyncTimer_kept (s : State) : (timeSyncTimer s).pending = s.pending ∧ (timeSyncTimer s).mbx = s.mbx := by
  simp [timeSyncTimer]
@[simp] theorem State.clockOffset_kept (s : State) (off : Int) :
    (State.clockOffset s off).pending = s.pending ∧ (State.clockOffset s off).mbx = s.mbx := by
  simp [State.clockOffset]
@[simp] theorem timeSyncReceive_kept (p : Nat) (s : State) : (timeSyncReceive p s).pending = s.pending ∧ (timeSyncReceive p s).mbx = s.mbx := by
  unfold timeSyncReceive; (try dsimp only); (repeat' (first | (simp [*]; done) | (have e_1 := State.takeMsg_kept _ _ _ (by assumption); simp [*]; done) | (refine foldl_kept _ ?_ _ _ _ ?_ <;> intros <;> (try dsimp only)) | split | (apply And.intro)))
@[simp] theorem State.padCell_kept (s : State) (port part : Nat) :
    (State.padCell s port part).pending = s.pending ∧ (State.padCell s port part).mbx = s.mbx := by
  unfold State.padCell
  exact State.transmit_kept _ _ _
@[simp] theorem slotBoundary_kept (unit : Nat) (s : State) : (slotBoundary unit s).pending = s.pending ∧ (slotBoundary unit s).mbx = s.mbx := by
  unfold slotBoundary
  by_cases h : unit = 24
  · rw [if_pos h]; exact ⟨rfl, rfl⟩
  · rw [if_neg h]
    extract_lets q i part t
    have e : t.pending = s.pending ∧ t.mbx = s.mbx := by simp only [t]; simp
    clear_value t part
    split
    · simp
    · split
      · exact e
      · split
        · exact kept_trans (State.sendItem_kept _ _ _) (kept_trans (State.modPort_kept _ _ _) e)
        · split
          · exact e
          · exact kept_trans (State.padCell_kept _ _ _) e
@[simp] theorem State.ordersEntry_kept (s : State) : (State.ordersEntry s).pending = s.pending ∧ (State.ordersEntry s).mbx = s.mbx := by
  simp [State.ordersEntry]
@[simp] theorem State.addFlow_kept (s : State) (part src dst : Nat) (gen epoch : Word) :
    (State.addFlow s part src dst gen epoch).pending = s.pending ∧ (State.addFlow s part src dst gen epoch).mbx = s.mbx := by
  unfold State.addFlow; (try dsimp only); (repeat' (first | (simp [*]; done) | (refine foldl_kept _ ?_ _ _ _ ?_ <;> intros <;> (try dsimp only)) | split | (apply And.intro)))
@[simp] theorem State.addFlows_kept (s : State) (part n : Nat) (gen epoch : Word) :
    (State.addFlows s part n gen epoch).pending = s.pending ∧ (State.addFlows s part n gen epoch).mbx = s.mbx := by
  simp [State.addFlows]
@[simp] theorem State.addPad_kept (s : State) (port : Nat) (tx : Bool) (part : Nat) (gen : Word) :
    (State.addPad s port tx part gen).pending = s.pending ∧ (State.addPad s port tx part gen).mbx = s.mbx := by
  unfold State.addPad; (try dsimp only); (repeat' (first | (simp [*]; done) | (refine foldl_kept _ ?_ _ _ _ ?_ <;> intros <;> (try dsimp only)) | split | (apply And.intro)))
@[simp] theorem State.derivePads_kept (s : State) (gen : Word) :
    (State.derivePads s gen).pending = s.pending ∧ (State.derivePads s gen).mbx = s.mbx := by
  simp [State.derivePads]
@[simp] theorem State.deriveDomain_kept (s : State) (gen : Word) (epoch : Nat → Word) :
    (State.deriveDomain s gen epoch).pending = s.pending ∧ (State.deriveDomain s gen epoch).mbx = s.mbx := by
  unfold State.deriveDomain; (try dsimp only); (repeat' (first | (simp [*]; done) | (refine foldl_kept _ ?_ _ _ _ ?_ <;> intros <;> (try dsimp only)) | split | (apply And.intro)))
@[simp] theorem State.dropKeys_kept (s : State) (f : FlowKey → Bool) :
    (State.dropKeys s f).pending = s.pending ∧ (State.dropKeys s f).mbx = s.mbx := by
  simp [State.dropKeys]
@[simp] theorem State.dropDomainKeys_kept (s : State) (f : Nat × Word × Nat → Bool) :
    (State.dropDomainKeys s f).pending = s.pending ∧ (State.dropDomainKeys s f).mbx = s.mbx := by
  simp [State.dropDomainKeys]
@[simp] theorem State.dropPads_kept (s : State) (f : PadKey → Bool) :
    (State.dropPads s f).pending = s.pending ∧ (State.dropPads s f).mbx = s.mbx := by
  simp [State.dropPads]
@[simp] theorem State.dropGen_kept (s : State) (g : Word) : (State.dropGen s g).pending = s.pending ∧ (State.dropGen s g).mbx = s.mbx := by
  simp [State.dropGen]
@[simp] theorem flowKeyExpire_kept (part : Nat) (s : State) : (flowKeyExpire part s).pending = s.pending ∧ (flowKeyExpire part s).mbx = s.mbx := by
  simp [flowKeyExpire]
theorem State.takeWhole_kept (s : State) (p opcode : Nat) {a_ : CtrlMsg} {t_ : State} (e_ : State.takeWhole s p opcode = some (a_, t_)) : t_.pending = s.pending ∧ t_.mbx = s.mbx := by
  first | (unfold State.takeWhole at e_; (try dsimp only at e_); (repeat' (first | contradiction | (simp only [Option.map_eq_some_iff, Option.bind_eq_some_iff, Option.some.injEq, Prod.mk.injEq] at e_; simp_all; done) | (cases e_; simp; done) | split at e_)); done) | (simp only [State.takeWhole, Option.map_eq_some_iff, Prod.mk.injEq] at e_; obtain ⟨_, _, rfl, rfl⟩ := e_; simp; done) | (simp only [State.takeWhole, Option.map_eq_some_iff] at e_; obtain ⟨_, _, rfl⟩ := e_; simp; done) | (grind [State.takeWhole, State.ctrl_kept, State.modPort_kept])
@[simp] theorem State.answerCandidate_kept (s : State) (c : Candidate) :
    (State.answerCandidate s c).pending = s.pending ∧ (State.answerCandidate s c).mbx = s.mbx := by
  simp [State.answerCandidate]
@[simp] theorem State.dropCandidate_kept (s : State) : (State.dropCandidate s).pending = s.pending ∧ (State.dropCandidate s).mbx = s.mbx := by
  unfold State.dropCandidate; (try dsimp only); (repeat' (first | (simp [*]; done) | (refine foldl_kept _ ?_ _ _ _ ?_ <;> intros <;> (try dsimp only)) | split | (apply And.intro)))
@[simp] theorem State.formFail_kept (s : State) : (State.formFail s).pending = s.pending ∧ (State.formFail s).mbx = s.mbx := by
  simp [State.formFail]
@[simp] theorem State.startFormation_kept (s : State) (g : Word) (rank : Nat) (switch : Dword) :
    (State.startFormation s g rank switch).pending = s.pending ∧ (State.startFormation s g rank switch).mbx = s.mbx := by
  simp [State.startFormation]
@[simp] theorem formStartTimer_kept (s : State) : (formStartTimer s).pending = s.pending ∧ (formStartTimer s).mbx = s.mbx := by
  unfold formStartTimer; (try dsimp only); (repeat' (first | (simp [*]; done) | (refine foldl_kept _ ?_ _ _ _ ?_ <;> intros <;> (try dsimp only)) | split | (apply And.intro)))
@[simp] theorem formStartReceive_kept (p : Nat) (v : PkVerdict) (s : State) :
    (formStartReceive p v s).pending = s.pending ∧ (formStartReceive p v s).mbx = s.mbx := by
  unfold formStartReceive; (try dsimp only); (repeat' (first | (simp [*]; done) | (have e_1 := State.takeWhole_kept _ _ _ (by assumption); simp [*]; done) | (refine foldl_kept _ ?_ _ _ _ ?_ <;> intros <;> (try dsimp only)) | split | (apply And.intro)))
@[simp] theorem State.sendReject_kept (s : State) (g : Word) (n : Nat) :
    (State.sendReject s g n).pending = s.pending ∧ (State.sendReject s g n).mbx = s.mbx := by
  simp [State.sendReject]
@[simp] theorem evidenceReceive_kept (p : Nat) (v : PkVerdict) (s : State) :
    (evidenceReceive p v s).pending = s.pending ∧ (evidenceReceive p v s).mbx = s.mbx := by
  unfold evidenceReceive; (try dsimp only); (repeat' (first | (simp [*]; done) | (have e_1 := State.takeWhole_kept _ _ _ (by assumption); simp [*]; done) | (refine foldl_kept _ ?_ _ _ _ ?_ <;> intros <;> (try dsimp only)) | split | (apply And.intro)))
@[simp] theorem keysReceive_kept (p : Nat) (v : PkVerdict) (s : State) :
    (keysReceive p v s).pending = s.pending ∧ (keysReceive p v s).mbx = s.mbx := by
  unfold keysReceive; (try dsimp only); (repeat' (first | (simp [*]; done) | (have e_1 := State.takeWhole_kept _ _ _ (by assumption); simp [*]; done) | (refine foldl_kept _ ?_ _ _ _ ?_ <;> intros <;> (try dsimp only)) | split | (apply And.intro)))
@[simp] theorem State.switchTo_kept (s : State) (g : Word) : (State.switchTo s g).pending = s.pending ∧ (State.switchTo s g).mbx = s.mbx := by
  simp [State.switchTo]
@[simp] theorem State.becomeMember_kept (s : State) (c : Candidate) (member : Nat → Bool) :
    (State.becomeMember s c member).pending = s.pending ∧ (State.becomeMember s c member).mbx = s.mbx := by
  simp [State.becomeMember]
@[simp] theorem State.acceptFormed_kept (s : State) (c : Candidate) (bitmap : BitVec 256) (switch : Dword) :
    (State.acceptFormed s c bitmap switch).pending = s.pending ∧ (State.acceptFormed s c bitmap switch).mbx = s.mbx := by
  simp [State.acceptFormed]
@[simp] theorem State.sendFormed_kept (s : State) (c : Candidate) :
    (State.sendFormed s c).pending = s.pending ∧ (State.sendFormed s c).mbx = s.mbx := by
  simp [State.sendFormed]
@[simp] theorem State.acceptJoined_kept (s : State) (n : Nat) (incarn : Word) :
    (State.acceptJoined s n incarn).pending = s.pending ∧ (State.acceptJoined s n incarn).mbx = s.mbx := by
  simp [State.acceptJoined]
@[simp] theorem confirmReceive_kept (p : Nat) (s : State) : (confirmReceive p s).pending = s.pending ∧ (confirmReceive p s).mbx = s.mbx := by
  unfold confirmReceive; (try dsimp only); (repeat' (first | (simp [*]; done) | (have e_1 := State.takeWhole_kept _ _ _ (by assumption); simp [*]; done) | (refine foldl_kept _ ?_ _ _ _ ?_ <;> intros <;> (try dsimp only)) | split | (apply And.intro)))
@[simp] theorem formWindowEnd_kept (s : State) : (formWindowEnd s).pending = s.pending ∧ (formWindowEnd s).mbx = s.mbx := by
  unfold formWindowEnd; (try dsimp only); (repeat' (first | (simp [*]; done) | (refine foldl_kept _ ?_ _ _ _ ?_ <;> intros <;> (try dsimp only)) | split | (apply And.intro)))
@[simp] theorem formedReceive_kept (p : Nat) (v : PkVerdict) (s : State) :
    (formedReceive p v s).pending = s.pending ∧ (formedReceive p v s).mbx = s.mbx := by
  unfold formedReceive; (try dsimp only); (repeat' (first | (simp [*]; done) | (have e_1 := State.takeWhole_kept _ _ _ (by assumption); simp [*]; done) | (refine foldl_kept _ ?_ _ _ _ ?_ <;> intros <;> (try dsimp only)) | split | (apply And.intro)))
@[simp] theorem rejectReceive_kept (p : Nat) (v : PkVerdict) (s : State) :
    (rejectReceive p v s).pending = s.pending ∧ (rejectReceive p v s).mbx = s.mbx := by
  unfold rejectReceive; (try dsimp only); (repeat' (first | (simp [*]; done) | (have e_1 := State.takeWhole_kept _ _ _ (by assumption); simp [*]; done) | (refine foldl_kept _ ?_ _ _ _ ?_ <;> intros <;> (try dsimp only)) | split | (apply And.intro)))
@[simp] theorem joinedReceive_kept (p : Nat) (s : State) : (joinedReceive p s).pending = s.pending ∧ (joinedReceive p s).mbx = s.mbx := by
  unfold joinedReceive; (try dsimp only); (repeat' (first | (simp [*]; done) | (have e_1 := State.takeMsg_kept _ _ _ (by assumption); simp [*]; done) | (refine foldl_kept _ ?_ _ _ _ ?_ <;> intros <;> (try dsimp only)) | split | (apply And.intro)))
@[simp] theorem candidateTimeout_kept (s : State) : (candidateTimeout s).pending = s.pending ∧ (candidateTimeout s).mbx = s.mbx := by
  unfold candidateTimeout; (try dsimp only); (repeat' (first | (simp [*]; done) | (refine foldl_kept _ ?_ _ _ _ ?_ <;> intros <;> (try dsimp only)) | split | (apply And.intro)))
@[simp] theorem State.joinVia_kept (s : State) (rank : Nat) (g : Word) :
    (State.joinVia s rank g).pending = s.pending ∧ (State.joinVia s rank g).mbx = s.mbx := by
  simp [State.joinVia]
@[simp] theorem helloReceive_kept (p : Nat) (s : State) : (helloReceive p s).pending = s.pending ∧ (helloReceive p s).mbx = s.mbx := by
  unfold helloReceive
  split
  · simp
  · rename_i m t h
    have e := State.takeMsg_kept _ _ _ h
    rw [← e.1, ← e.2]
    clear h e
    split
    · simp
    · split
      · simp
      · extract_lets g member t1 f t2 t3 t4
        have e1 : t1.pending = t.pending ∧ t1.mbx = t.mbx := by simp [t1]
        have e2 : t2.pending = t.pending ∧ t2.mbx = t.mbx := e1
        have e3 : t3.pending = t.pending ∧ t3.mbx = t.mbx := by simp [t3, e2]
        have e4 : t4.pending = t.pending ∧ t4.mbx = t.mbx := by simp [t4, e3]
        clear_value t1 t2 t3 t4
        (repeat' split) <;> simp [*]
@[simp] theorem joinTimeout_kept (s : State) : (joinTimeout s).pending = s.pending ∧ (joinTimeout s).mbx = s.mbx := by
  unfold joinTimeout; (try dsimp only); (repeat' (first | (simp [*]; done) | (refine foldl_kept _ ?_ _ _ _ ?_ <;> intros <;> (try dsimp only)) | split | (apply And.intro)))
@[simp] theorem joinRetry_kept (s : State) : (joinRetry s).pending = s.pending ∧ (joinRetry s).mbx = s.mbx := by
  unfold joinRetry; (try dsimp only); (repeat' (first | (simp [*]; done) | (refine foldl_kept _ ?_ _ _ _ ?_ <;> intros <;> (try dsimp only)) | split | (apply And.intro)))
@[simp] theorem leaveDomain_kept (s : State) : (leaveDomain s).pending = s.pending ∧ (leaveDomain s).mbx = s.mbx := by
  simp [leaveDomain]
@[simp] theorem generationSwitch_kept (s : State) : (generationSwitch s).pending = s.pending ∧ (generationSwitch s).mbx = s.mbx := by
  unfold generationSwitch; (try dsimp only); (repeat' (first | (simp [*]; done) | (refine foldl_kept _ ?_ _ _ _ ?_ <;> intros <;> (try dsimp only)) | split | (apply And.intro)))
@[simp] theorem requestTimeout_kept (tag : Nat) (s : State) : (requestTimeout tag s).pending = s.pending ∧ (requestTimeout tag s).mbx = s.mbx := by
  unfold requestTimeout; (try dsimp only); (repeat' (first | (simp [*]; done) | (refine foldl_kept _ ?_ _ _ _ ?_ <;> intros <;> (try dsimp only)) | split | (apply And.intro)))
@[simp] theorem yfRevive_kept (ap : Aperture) (n : Nat) (s : State) : (yfRevive ap n s).pending = s.pending ∧ (yfRevive ap n s).mbx = s.mbx := by
  simp [yfRevive]
@[simp] theorem State.closeTarget_kept (s : State) (n : Nat) : (State.closeTarget s n).pending = s.pending ∧ (State.closeTarget s n).mbx = s.mbx := by
  simp [State.closeTarget]
@[simp] theorem State.armTarget_kept (s : State) (p n : Nat) (a : Arm) :
    (State.armTarget s p n a).1.pending = s.pending ∧ (State.armTarget s p n a).1.mbx = s.mbx := by
  unfold State.armTarget; (try dsimp only); (repeat' (first | (simp [*]; done) | (refine foldl_kept _ ?_ _ _ _ ?_ <;> intros <;> (try dsimp only)) | split | (apply And.intro)))
@[simp] theorem State.faceCmd_kept (s : State) (ap : Aperture) (n : Nat) (f : Nat → Nat → State → State) (h_f : ∀ y0 y1 y2, (f y0 y1 y2).pending = y2.pending ∧ (f y0 y1 y2).mbx = y2.mbx) :
    (State.faceCmd s ap n f).pending = s.pending ∧ (State.faceCmd s ap n f).mbx = s.mbx := by
  unfold State.faceCmd; (try dsimp only); (repeat' (first | (simp [*]; done) | (refine foldl_kept _ ?_ _ _ _ ?_ <;> intros <;> (try dsimp only)) | (refine kept_trans (State.command_kept _ _ _ _ ?_ ) ?_ <;> intros <;> (try dsimp only)) | split | (apply And.intro)))
@[simp] theorem faceArm_kept (ap : Aperture) (target : Nat) (tally : BitVec 16) (s : State) :
    (faceArm ap target tally s).pending = s.pending ∧ (faceArm ap target tally s).mbx = s.mbx := by
  simp [faceArm]
@[simp] theorem State.refuseWaits_kept (s : State) (l : List Nat) :
    (State.refuseWaits s l).pending = s.pending ∧ (State.refuseWaits s l).mbx = s.mbx := by
  simp [State.refuseWaits]
@[simp] theorem State.endClear_kept (s : State) (n : Nat) : (State.endClear s n).pending = s.pending ∧ (State.endClear s n).mbx = s.mbx := by
  unfold State.endClear; (try dsimp only); (repeat' (first | (simp [*]; done) | (refine foldl_kept _ ?_ _ _ _ ?_ <;> intros <;> (try dsimp only)) | split | (apply And.intro)))
@[simp] theorem State.dropGather_kept (s : State) (g : Gather) : (State.dropGather s g).pending = s.pending ∧ (State.dropGather s g).mbx = s.mbx := by
  simp [State.dropGather]
@[simp] theorem State.leaveBuffer_kept (s : State) (n : Nat) : (State.leaveBuffer s n).pending = s.pending ∧ (State.leaveBuffer s n).mbx = s.mbx := by
  simp [State.leaveBuffer]
@[simp] theorem State.disarm_kept (s : State) (n : Nat) : (State.disarm s n).pending = s.pending ∧ (State.disarm s n).mbx = s.mbx := by
  simp [State.disarm]
@[simp] theorem faceDisarm_kept (ap : Aperture) (target : Nat) (s : State) :
    (faceDisarm ap target s).pending = s.pending ∧ (faceDisarm ap target s).mbx = s.mbx := by
  simp [faceDisarm]
@[simp] theorem State.clearTarget_kept (s : State) (n : Nat) : (State.clearTarget s n).pending = s.pending ∧ (State.clearTarget s n).mbx = s.mbx := by
  simp [State.clearTarget]
@[simp] theorem faceClear_kept (ap : Aperture) (target : Nat) (s : State) :
    (faceClear ap target s).pending = s.pending ∧ (faceClear ap target s).mbx = s.mbx := by
  simp [faceClear]
@[simp] theorem faceClearDone_kept (target : Nat) (s : State) :
    (faceClearDone target s).pending = s.pending ∧ (faceClearDone target s).mbx = s.mbx := by
  unfold faceClearDone; (try dsimp only); (repeat' (first | (simp [*]; done) | (refine foldl_kept _ ?_ _ _ _ ?_ <;> intros <;> (try dsimp only)) | split | (apply And.intro)))
@[simp] theorem State.failTarget_kept (s : State) (n : Nat) : (State.failTarget s n).pending = s.pending ∧ (State.failTarget s n).mbx = s.mbx := by
  simp [State.failTarget]
@[simp] theorem State.resetFace_kept (s : State) (f : Nat) : (State.resetFace s f).pending = s.pending ∧ (State.resetFace s f).mbx = s.mbx := by
  simp [State.resetFace]
@[simp] theorem State.dropEntry_kept (s : State) (id : Nat) : (State.dropEntry s id).pending = s.pending ∧ (State.dropEntry s id).mbx = s.mbx := by
  unfold State.dropEntry; (try dsimp only); (repeat' (first | (simp [*]; done) | (refine foldl_kept _ ?_ _ _ _ ?_ <;> intros <;> (try dsimp only)) | split | (apply And.intro)))
@[simp] theorem State.emptyFace_kept (s : State) (f : Nat) : (State.emptyFace s f).pending = s.pending ∧ (State.emptyFace s f).mbx = s.mbx := by
  simp [State.emptyFace]
@[simp] theorem State.fetchLines_kept (s : State) (f : Nat) (l : List Nat) :
    (State.fetchLines s f l).pending = s.pending ∧ (State.fetchLines s f l).mbx = s.mbx := by
  simp [State.fetchLines]
@[simp] theorem State.cacheLine_kept (s : State) (f line : Nat) :
    (State.cacheLine s f line).pending = s.pending ∧ (State.cacheLine s f line).mbx = s.mbx := by
  simp [State.cacheLine]
@[simp] theorem State.endEntry_kept (s : State) (id : Nat) (data : List Byte) (poison : Bool) (err : Nat) :
    (State.endEntry s id data poison err).pending = s.pending ∧ (State.endEntry s id data poison err).mbx = s.mbx := by
  unfold State.endEntry; (try dsimp only); (repeat' (first | (simp [*]; done) | (refine foldl_kept _ ?_ _ _ _ ?_ <;> intros <;> (try dsimp only)) | split | (apply And.intro)))
@[simp] theorem contributionApply_kept (target : Nat) (ecc : Ecc) (s : State) :
    (contributionApply target ecc s).pending = s.pending ∧ (contributionApply target ecc s).mbx = s.mbx := by
  unfold contributionApply; (try dsimp only); (repeat' (first | (simp [*]; done) | (refine foldl_kept _ ?_ _ _ _ ?_ <;> intros <;> (try dsimp only)) | split | (apply And.intro)))
@[simp] theorem contributionHoldTimeout_kept (target : Nat) (s : State) :
    (contributionHoldTimeout target s).pending = s.pending ∧ (contributionHoldTimeout target s).mbx = s.mbx := by
  unfold contributionHoldTimeout; (try dsimp only); (repeat' (first | (simp [*]; done) | (refine foldl_kept _ ?_ _ _ _ ?_ <;> intros <;> (try dsimp only)) | split | (apply And.intro)))
@[simp] theorem State.putGather_kept (s : State) (g : Gather) : (State.putGather s g).pending = s.pending ∧ (State.putGather s g).mbx = s.mbx := by
  simp [State.putGather]
@[simp] theorem State.modGathers_kept (s : State) (f : Gather → Gather) :
    (State.modGathers s f).pending = s.pending ∧ (State.modGathers s f).mbx = s.mbx := by
  simp [State.modGathers]
@[simp] theorem State.gatherIssue_kept (g : Gather) (n : Nat) (s : State) :
    (State.gatherIssue g n s).2.pending = s.pending ∧ (State.gatherIssue g n s).2.mbx = s.mbx := by
  induction n generalizing g s with
  | zero => exact ⟨rfl, rfl⟩
  | succ n ih =>
    unfold State.gatherIssue
    split
    · exact ⟨rfl, rfl⟩
    · dsimp only
      split
      · exact ⟨rfl, rfl⟩
      · exact kept_trans (ih _ _) (State.issueReq_kept _ _ _ _ _ _ (by assumption))
@[simp] theorem State.gatherRead_kept (s : State) (g : Gather) : (State.gatherRead s g).pending = s.pending ∧ (State.gatherRead s g).mbx = s.mbx := by
  simp [State.gatherRead]
theorem State.gatherStart_kept (s : State) (g : Gather) {t_ : State} (e_ : State.gatherStart s g = some t_) : t_.pending = s.pending ∧ t_.mbx = s.mbx := by
  first | (unfold State.gatherStart at e_; (try dsimp only at e_); (repeat' (first | contradiction | (simp only [Option.map_eq_some_iff, Option.bind_eq_some_iff, Option.some.injEq, Prod.mk.injEq] at e_; simp_all; done) | (cases e_; simp; done) | split at e_)); done) | (simp only [State.gatherStart, Option.map_eq_some_iff, Prod.mk.injEq] at e_; obtain ⟨_, _, rfl, rfl⟩ := e_; simp; done) | (simp only [State.gatherStart, Option.map_eq_some_iff] at e_; obtain ⟨_, _, rfl⟩ := e_; simp; done) | (grind [State.gatherStart, State.putGather_kept, State.fetchLines_kept, State.gatherRead_kept])
@[simp] theorem State.gatherStart_getD (s : State) (g : Gather) (u_ : State) (h_ : u_.pending = s.pending ∧ u_.mbx = s.mbx) :
    ((State.gatherStart s g).getD u_).pending = s.pending ∧ ((State.gatherStart s g).getD u_).mbx = s.mbx := by
  cases e_ : State.gatherStart s g with
  | none => exact h_
  | some t_ => exact State.gatherStart_kept _ _ e_
@[simp] theorem gatherComplete_kept (task : Nat) (s : State) : (gatherComplete task s).pending = s.pending ∧ (gatherComplete task s).mbx = s.mbx := by
  unfold gatherComplete; (try dsimp only); (repeat' (first | (simp [*]; done) | (refine foldl_kept _ ?_ _ _ _ ?_ <;> intros <;> (try dsimp only)) | split | (apply And.intro)))
@[simp] theorem State.poisonReads_kept (s : State) (n : Nat) (l : List HomeEntry) :
    (State.poisonReads s n l).pending = s.pending ∧ (State.poisonReads s n l).mbx = s.mbx := by
  simp [State.poisonReads]
@[simp] theorem faceCacheFill_kept (f line : Nat) (ecc : Ecc) (s : State) :
    (faceCacheFill f line ecc s).pending = s.pending ∧ (faceCacheFill f line ecc s).mbx = s.mbx := by
  simp [faceCacheFill]
@[simp] theorem State.wndCmd_kept (s : State) (ap : Aperture) (t : Nat) (f : Nat → Nat → State → State) (h_f : ∀ y0 y1 y2, (f y0 y1 y2).pending = y2.pending ∧ (f y0 y1 y2).mbx = y2.mbx) :
    (State.wndCmd s ap t f).pending = s.pending ∧ (State.wndCmd s ap t f).mbx = s.mbx := by
  unfold State.wndCmd; (try dsimp only); (repeat' (first | (simp [*]; done) | (refine foldl_kept _ ?_ _ _ _ ?_ <;> intros <;> (try dsimp only)) | (refine kept_trans (State.command_kept _ _ _ _ ?_ ) ?_ <;> intros <;> (try dsimp only)) | split | (apply And.intro)))
theorem State.taskRefs_kept (s : State) (p t : Nat) (l : List Nat) {t_ : State} (e_ : State.taskRefs s p t l = some t_) : t_.pending = s.pending ∧ t_.mbx = s.mbx := by
  unfold State.taskRefs at e_
  revert e_
  generalize l.filter (fun n => s.ownsTally p n) = l
  intro e_
  induction l generalizing s with
  | nil => cases e_; exact ⟨rfl, rfl⟩
  | cons n l ih =>
    simp only [List.foldl_cons, Option.bind_some] at e_
    cases h : s.addRef (.task t) (.tally n) with
    | none => rw [h] at e_; exfalso; clear ih h; induction l with | nil => contradiction | cons m l ih => exact ih e_
    | some u => rw [h] at e_; exact kept_trans (ih u e_) (State.addRef_kept _ _ _ h)
@[simp] theorem State.taskRefs_getD (s : State) (p t : Nat) (l : List Nat) (u_ : State) (h_ : u_.pending = s.pending ∧ u_.mbx = s.mbx) :
    ((State.taskRefs s p t l).getD u_).pending = s.pending ∧ ((State.taskRefs s p t l).getD u_).mbx = s.mbx := by
  cases e_ : State.taskRefs s p t l with
  | none => exact h_
  | some t_ => exact State.taskRefs_kept _ _ _ _ e_
@[simp] theorem State.loadProg_kept (s : State) (a t p : Nat) (ctx can : BitVec 16) (l : List Block) :
    (State.loadProg s a t p ctx can l).pending = s.pending ∧ (State.loadProg s a t p ctx can l).mbx = s.mbx := by
  unfold State.loadProg; (try dsimp only); (repeat' (first | (simp [*]; done) | (have e_1 := State.taskRefs_kept _ _ _ _ (by assumption); simp [*]; done) | (refine foldl_kept _ ?_ _ _ _ ?_ <;> intros <;> (try dsimp only)) | split | (apply And.intro)))
@[simp] theorem State.loadIssue_kept (a n : Nat) (s : State) : (State.loadIssue a n s).pending = s.pending ∧ (State.loadIssue a n s).mbx = s.mbx := by
  induction n generalizing s with
  | zero => exact ⟨rfl, rfl⟩
  | succ n ih =>
    unfold State.loadIssue
    split
    · exact ⟨rfl, rfl⟩
    · split
      · exact ⟨rfl, rfl⟩
      · dsimp only
        split
        · exact ⟨rfl, rfl⟩
        · rename_i t h
          have e := State.issueReq_kept _ _ _ _ _ _ h
          exact kept_trans (ih _) e
@[simp] theorem wndLoad_kept (ap : Aperture) (t : Nat) (s : State) : (wndLoad ap t s).pending = s.pending ∧ (wndLoad ap t s).mbx = s.mbx := by
  unfold wndLoad
  refine State.wndCmd_kept _ _ _ _ ?_
  intro a p s
  extract_lets a1 src n ctx
  split
  · exact State.cmdEnd_kept _ _ _ _ _
  · split
    · exact State.cmdEnd_kept _ _ _ _ _
    · split
      · simp
      · exact kept_trans (State.loadIssue_kept _ _ _) (kept_trans (State.cmdBusy_kept _ _ _ _) ⟨rfl, rfl⟩)
@[simp] theorem State.loadTake_kept (s : State) (a : Nat) (l : Load) :
    (State.loadTake s a l).pending = s.pending ∧ (State.loadTake s a l).mbx = s.mbx := by
  simp [State.loadTake]
@[simp] theorem State.loadStep_kept (s : State) (a : Nat) : (State.loadStep s a).pending = s.pending ∧ (State.loadStep s a).mbx = s.mbx := by
  unfold State.loadStep
  split
  · exact ⟨rfl, rfl⟩
  · rename_i l _
    have e : (State.loadIssue a 16 (s.loadTake a l)).pending = s.pending ∧ (State.loadIssue a 16 (s.loadTake a l)).mbx = s.mbx :=
      kept_trans (State.loadIssue_kept _ _ _) (State.loadTake_kept _ _ _)
    generalize State.loadIssue a 16 (s.loadTake a l) = t at e
    dsimp only
    split
    · exact e
    · (repeat' split) <;> first | exact e | simp [e]
@[simp] theorem State.settleLoads_kept (s : State) : (State.settleLoads s).pending = s.pending ∧ (State.settleLoads s).mbx = s.mbx := by
  simp [State.settleLoads]
@[simp] theorem State.goTask_kept (s : State) (a p t : Nat) (f : Task → Task) :
    (State.goTask s a p t f).pending = s.pending ∧ (State.goTask s a p t f).mbx = s.mbx := by
  simp [State.goTask]
@[simp] theorem wndStart_kept (ap : Aperture) (t : Nat) (s : State) : (wndStart ap t s).pending = s.pending ∧ (wndStart ap t s).mbx = s.mbx := by
  unfold wndStart; (try dsimp only); (repeat' (first | (simp [*]; done) | (refine foldl_kept _ ?_ _ _ _ ?_ <;> intros <;> (try dsimp only)) | (refine kept_trans (State.wndCmd_kept _ _ _ _ ?_ ) ?_ <;> intros <;> (try dsimp only)) | split | (apply And.intro)))
@[simp] theorem wndResume_kept (ap : Aperture) (t : Nat) (s : State) : (wndResume ap t s).pending = s.pending ∧ (wndResume ap t s).mbx = s.mbx := by
  unfold wndResume; (try dsimp only); (repeat' (first | (simp [*]; done) | (refine foldl_kept _ ?_ _ _ _ ?_ <;> intros <;> (try dsimp only)) | (refine kept_trans (State.wndCmd_kept _ _ _ _ ?_ ) ?_ <;> intros <;> (try dsimp only)) | split | (apply And.intro)))
@[simp] theorem wndStop_kept (ap : Aperture) (t : Nat) (s : State) : (wndStop ap t s).pending = s.pending ∧ (wndStop ap t s).mbx = s.mbx := by
  unfold wndStop
  refine State.wndCmd_kept _ _ _ _ ?_
  intro a p s
  dsimp only
  split
  · simp
  · cases (s.task t).req <;> (repeat' split) <;> simp
  · simp
@[simp] theorem State.unloadTask_kept (s : State) (t : Nat) : (State.unloadTask s t).pending = s.pending ∧ (State.unloadTask s t).mbx = s.mbx := by
  simp [State.unloadTask]
@[simp] theorem wndUnload_kept (ap : Aperture) (t : Nat) (s : State) : (wndUnload ap t s).pending = s.pending ∧ (wndUnload ap t s).mbx = s.mbx := by
  simp [wndUnload]
@[simp] theorem State.stepFault_kept (s : State) (t code : Nat) (o : Obj) :
    (State.stepFault s t code o).pending = s.pending ∧ (State.stepFault s t code o).mbx = s.mbx := by
  simp [State.stepFault]
@[simp] theorem State.stepBad_kept (s : State) (t code : Nat) :
    (State.stepBad s t code).pending = s.pending ∧ (State.stepBad s t code).mbx = s.mbx := by
  simp [State.stepBad]
@[simp] theorem State.taskTally_kept (s : State) (t : Nat) (opcode node tally : Nat) (v : Dword) :
    (State.taskTally s t opcode node tally v).pending = s.pending ∧ (State.taskTally s t opcode node tally v).mbx = s.mbx := by
  unfold State.taskTally; (try dsimp only); (repeat' (first | (simp [*]; done) | (have e_1 := State.issueReq_kept _ _ _ _ _ _ (by assumption); simp [*]; done) | (refine foldl_kept _ ?_ _ _ _ ?_ <;> intros <;> (try dsimp only)) | split | (apply And.intro)))
@[simp] theorem State.taskArm_kept (s : State) (t : Nat) (clr : Bool) (ext : Option Block) (o : BitVec 120) :
    (State.taskArm s t clr ext o).pending = s.pending ∧ (State.taskArm s t clr ext o).mbx = s.mbx := by
  simp [State.taskArm]
@[simp] theorem State.taskGather_kept (s : State) (t : Nat) (o : BitVec 120) :
    (State.taskGather s t o).pending = s.pending ∧ (State.taskGather s t o).mbx = s.mbx := by
  unfold State.taskGather; (try dsimp only); (repeat' (first | (simp [*]; done) | (have e_1 := State.gatherStart_kept _ _ (by assumption); simp [*]; done) | (refine foldl_kept _ ?_ _ _ _ ?_ <;> intros <;> (try dsimp only)) | split | (apply And.intro)))
@[simp] theorem State.taskMove_kept (s : State) (t : Nat) (complete : Bool) (o : BitVec 120) :
    (State.taskMove s t complete o).pending = s.pending ∧ (State.taskMove s t complete o).mbx = s.mbx := by
  simp [State.taskMove]
@[simp] theorem State.taskLoop_kept (s : State) (t : Nat) (iter : Bool) (o : BitVec 120) :
    (State.taskLoop s t iter o).pending = s.pending ∧ (State.taskLoop s t iter o).mbx = s.mbx := by
  simp [State.taskLoop]
@[simp] theorem State.taskFence_kept (s : State) (t : Nat) : (State.taskFence s t).pending = s.pending ∧ (State.taskFence s t).mbx = s.mbx := by
  simp [State.taskFence]
@[simp] theorem State.runStep_kept (s : State) (t : Nat) (w : Block) (o : BitVec 120) :
    (State.runStep s t w o).pending = s.pending ∧ (State.runStep s t w o).mbx = s.mbx := by
  unfold State.runStep; (try dsimp only); (repeat' (first | (simp [*]; done) | (refine foldl_kept _ ?_ _ _ _ ?_ <;> intros <;> (try dsimp only)) | split | (apply And.intro)))
@[simp] theorem State.readOperand_kept (s : State) (t : Nat) (w : Block) :
    (State.readOperand s t w).pending = s.pending ∧ (State.readOperand s t w).mbx = s.mbx := by
  unfold State.readOperand; (try dsimp only); (repeat' (first | (simp [*]; done) | (have e_1 := State.issueReq_kept _ _ _ _ _ _ (by assumption); simp [*]; done) | (refine foldl_kept _ ?_ _ _ _ ?_ <;> intros <;> (try dsimp only)) | split | (apply And.intro)))
@[simp] theorem winderStepIssue_kept (t : Nat) (ecc : Ecc) (s : State) :
    (winderStepIssue t ecc s).pending = s.pending ∧ (winderStepIssue t ecc s).mbx = s.mbx := by
  simp [winderStepIssue]
@[simp] theorem indOperandReturn_kept (t : Nat) (s : State) : (indOperandReturn t s).pending = s.pending ∧ (indOperandReturn t s).mbx = s.mbx := by
  unfold indOperandReturn; (try dsimp only); (repeat' (first | (simp [*]; done) | (refine foldl_kept _ ?_ _ _ _ ?_ <;> intros <;> (try dsimp only)) | split | (apply And.intro)))
@[simp] theorem State.modChan_kept (s : State) (c : Nat) (f : Chan → Chan) :
    (State.modChan s c f).pending = s.pending ∧ (State.modChan s c f).mbx = s.mbx := by
  simp [State.modChan]
@[simp] theorem State.modAct_kept (s : State) (c : Nat) (f : MovAct → MovAct) :
    (State.modAct s c f).pending = s.pending ∧ (State.modAct s c f).mbx = s.mbx := by
  simp [State.modAct]
@[simp] theorem State.movCmd_kept (s : State) (ap : Aperture) (c : Nat) (f : Nat → Nat → State → State) (h_f : ∀ y0 y1 y2, (f y0 y1 y2).pending = y2.pending ∧ (f y0 y1 y2).mbx = y2.mbx) :
    (State.movCmd s ap c f).pending = s.pending ∧ (State.movCmd s ap c f).mbx = s.mbx := by
  unfold State.movCmd; (try dsimp only); (repeat' (first | (simp [*]; done) | (refine foldl_kept _ ?_ _ _ _ ?_ <;> intros <;> (try dsimp only)) | (refine kept_trans (State.command_kept _ _ _ _ ?_ ) ?_ <;> intros <;> (try dsimp only)) | split | (apply And.intro)))
@[simp] theorem movBind_kept (ap : Aperture) (c : Nat) (s : State) : (movBind ap c s).pending = s.pending ∧ (movBind ap c s).mbx = s.mbx := by
  unfold movBind; (try dsimp only); (repeat' (first | (simp [*]; done) | (have e_1 := State.addRef_kept _ _ _ (by assumption); simp [*]; done) | (refine foldl_kept _ ?_ _ _ _ ?_ <;> intros <;> (try dsimp only)) | (refine kept_trans (State.movCmd_kept _ _ _ _ ?_ ) ?_ <;> intros <;> (try dsimp only)) | split | (apply And.intro)))
@[simp] theorem movStart_kept (ap : Aperture) (c : Nat) (s : State) : (movStart ap c s).pending = s.pending ∧ (movStart ap c s).mbx = s.mbx := by
  unfold movStart; (try dsimp only); (repeat' (first | (simp [*]; done) | (refine foldl_kept _ ?_ _ _ _ ?_ <;> intros <;> (try dsimp only)) | (refine kept_trans (State.movCmd_kept _ _ _ _ ?_ ) ?_ <;> intros <;> (try dsimp only)) | split | (apply And.intro)))
@[simp] theorem State.refEnd_kept (s : State) (a : Nat) (o : RefObj) (c code : Nat) :
    (State.refEnd s a o c code).pending = s.pending ∧ (State.refEnd s a o c code).mbx = s.mbx := by
  simp [State.refEnd]
@[simp] theorem State.refCmd_kept (s : State) (ap : Aperture) (f : Nat → Nat → RefObj → BitVec 16 → State → State) (h_f : ∀ y0 y1 y2 y3 y4, (f y0 y1 y2 y3 y4).pending = y4.pending ∧ (f y0 y1 y2 y3 y4).mbx = y4.mbx) :
    (State.refCmd s ap f).pending = s.pending ∧ (State.refCmd s ap f).mbx = s.mbx := by
  unfold State.refCmd; (try dsimp only); (repeat' (first | (simp [*]; done) | (refine foldl_kept _ ?_ _ _ _ ?_ <;> intros <;> (try dsimp only)) | (refine kept_trans (State.command_kept _ _ _ _ ?_ ) ?_ <;> intros <;> (try dsimp only)) | split | (apply And.intro)))
@[simp] theorem movRef_kept (ap : Aperture) (s : State) : (movRef ap s).pending = s.pending ∧ (movRef ap s).mbx = s.mbx := by
  unfold movRef; (try dsimp only); (repeat' (first | (simp [*]; done) | (have e_1 := State.addRef_kept _ _ _ (by assumption); simp [*]; done) | (refine foldl_kept _ ?_ _ _ _ ?_ <;> intros <;> (try dsimp only)) | (refine kept_trans (State.refCmd_kept _ _ _ ?_ ) ?_ <;> intros <;> (try dsimp only)) | split | (apply And.intro)))
@[simp] theorem seamFree_kept (ap : Aperture) (n : Nat) (s : State) : (seamFree ap n s).pending = s.pending ∧ (seamFree ap n s).mbx = s.mbx := by
  simp [seamFree]
@[simp] theorem State.freeOrphan_kept (s : State) (o : RefObj) : (State.freeOrphan s o).pending = s.pending ∧ (State.freeOrphan s o).mbx = s.mbx := by
  unfold State.freeOrphan; (try dsimp only); (repeat' (first | (simp [*]; done) | (refine foldl_kept _ ?_ _ _ _ ?_ <;> intros <;> (try dsimp only)) | split | (apply And.intro)))
@[simp] theorem movUnref_kept (ap : Aperture) (s : State) : (movUnref ap s).pending = s.pending ∧ (movUnref ap s).mbx = s.mbx := by
  simp [movUnref]
@[simp] theorem movDoorbell_kept (ap : Aperture) (c : Nat) (tail : BitVec 12) (s : State) :
    (movDoorbell ap c tail s).pending = s.pending ∧ (movDoorbell ap c tail s).mbx = s.mbx := by
  simp [movDoorbell]
@[simp] theorem State.dropChanReqs_kept (s : State) (c : Nat) (signals : Bool) :
    (State.dropChanReqs s c signals).pending = s.pending ∧ (State.dropChanReqs s c signals).mbx = s.mbx := by
  simp [State.dropChanReqs]
@[simp] theorem State.putRecord_kept (s : State) (c : Nat) (d : Desc) (done fault status : Nat) :
    (State.putRecord s c d done fault status).pending = s.pending ∧ (State.putRecord s c d done fault status).mbx = s.mbx := by
  simp [State.putRecord]
@[simp] theorem State.moveOver_kept (s : State) (c : Nat) (d : Desc) :
    (State.moveOver s c d).pending = s.pending ∧ (State.moveOver s c d).mbx = s.mbx := by
  unfold State.moveOver; (try dsimp only); (repeat' (first | (simp [*]; done) | (refine foldl_kept _ ?_ _ _ _ ?_ <;> intros <;> (try dsimp only)) | split | (apply And.intro)))
@[simp] theorem State.descOver_kept (s : State) (c : Nat) (d : Desc) :
    (State.descOver s c d).pending = s.pending ∧ (State.descOver s c d).mbx = s.mbx := by
  simp [State.descOver]
@[simp] theorem State.endFailed_kept (s : State) (c : Nat) (record : Bool) :
    (State.endFailed s c record).pending = s.pending ∧ (State.endFailed s c record).mbx = s.mbx := by
  unfold State.endFailed; (try dsimp only); (repeat' (first | (simp [*]; done) | (refine foldl_kept _ ?_ _ _ _ ?_ <;> intros <;> (try dsimp only)) | split | (apply And.intro)))
@[simp] theorem State.movFail_kept (s : State) (c code : Nat) (lose : Bool) :
    (State.movFail s c code lose).pending = s.pending ∧ (State.movFail s c code lose).mbx = s.mbx := by
  unfold State.movFail; (try dsimp only); (repeat' (first | (simp [*]; done) | (refine foldl_kept _ ?_ _ _ _ ?_ <;> intros <;> (try dsimp only)) | split | (apply And.intro)))
@[simp] theorem State.movStop_kept (s : State) (c code : Nat) :
    (State.movStop s c code).pending = s.pending ∧ (State.movStop s c code).mbx = s.mbx := by
  simp [State.movStop]
@[simp] theorem State.movLost_kept (s : State) (c : Nat) : (State.movLost s c).pending = s.pending ∧ (State.movLost s c).mbx = s.mbx := by
  simp [State.movLost]
@[simp] theorem State.cleanPage_kept (s : State) (addr : Nat) :
    (State.cleanPage s addr).pending = s.pending ∧ (State.cleanPage s addr).mbx = s.mbx := by
  unfold State.cleanPage; (try dsimp only); (repeat' (first | (simp [*]; done) | (refine foldl_kept _ ?_ _ _ _ ?_ <;> intros <;> (try dsimp only)) | split | (apply And.intro)))
@[simp] theorem State.askPage_kept (s : State) (c : Nat) (dst : Bool) (v : Nat) :
    (State.askPage s c dst v).pending = s.pending ∧ (State.askPage s c dst v).mbx = s.mbx := by
  unfold State.askPage; (try dsimp only); (repeat' (first | (simp [*]; done) | (refine foldl_kept _ ?_ _ _ _ ?_ <;> intros <;> (try dsimp only)) | split | (apply And.intro)))
@[simp] theorem State.movAck_kept (s : State) (c n : Nat) : (State.movAck s c n).pending = s.pending ∧ (State.movAck s c n).mbx = s.mbx := by
  simp [State.movAck]
@[simp] theorem State.movGot_kept (s : State) (c off : Nat) (bytes : List Byte) (poison : Bool) :
    (State.movGot s c off bytes poison).pending = s.pending ∧ (State.movGot s c off bytes poison).mbx = s.mbx := by
  simp [State.movGot]
theorem State.movReq_kept (s : State) (c : Nat) (a : MovAct) (opcode g : Nat) (poison : Bool) (payload : List Byte) (ext : Nat) {t_ : State} (e_ : State.movReq s c a opcode g poison payload ext = some t_) : t_.pending = s.pending ∧ t_.mbx = s.mbx := by
  first | (unfold State.movReq at e_; (try dsimp only at e_); (repeat' (first | contradiction | (simp only [Option.map_eq_some_iff, Option.bind_eq_some_iff, Option.some.injEq, Prod.mk.injEq] at e_; simp_all; done) | (cases e_; simp; done) | (have e_1 := State.issueReq_kept _ _ _ _ _ _ (by assumption); simp [*]; done) | split at e_)); done) | (simp only [State.movReq, Option.map_eq_some_iff, Prod.mk.injEq] at e_; obtain ⟨_, _, rfl, rfl⟩ := e_; simp; done) | (simp only [State.movReq, Option.map_eq_some_iff] at e_; obtain ⟨_, _, rfl⟩ := e_; simp; done) | (grind [State.movReq, State.issueReq_kept])
@[simp] theorem State.movReq_getD (s : State) (c : Nat) (a : MovAct) (opcode g : Nat) (poison : Bool) (payload : List Byte) (ext : Nat) (u_ : State) (h_ : u_.pending = s.pending ∧ u_.mbx = s.mbx) :
    ((State.movReq s c a opcode g poison payload ext).getD u_).pending = s.pending ∧ ((State.movReq s c a opcode g poison payload ext).getD u_).mbx = s.mbx := by
  cases e_ : State.movReq s c a opcode g poison payload ext with
  | none => exact h_
  | some t_ => exact State.movReq_kept _ _ _ _ _ _ _ _ e_
@[simp] theorem State.harvestLine_kept (s : State) (share fn off : Nat) :
    (State.harvestLine s share fn off).1.pending = s.pending ∧ (State.harvestLine s share fn off).1.mbx = s.mbx := by
  simp [State.harvestLine]
theorem State.movPull_kept (s : State) (c : Nat) {t_ : State} (e_ : State.movPull s c = some t_) : t_.pending = s.pending ∧ t_.mbx = s.mbx := by
  first | (unfold State.movPull at e_; (try dsimp only at e_); (repeat' (first | contradiction | (simp only [Option.map_eq_some_iff, Option.bind_eq_some_iff, Option.some.injEq, Prod.mk.injEq] at e_; simp_all; done) | (cases e_; simp; done) | (have e_1 := State.movReq_kept _ _ _ _ _ _ _ _ (by assumption); simp [*]; done) | split at e_)); done) | (simp only [State.movPull, Option.map_eq_some_iff, Prod.mk.injEq] at e_; obtain ⟨_, _, rfl, rfl⟩ := e_; simp; done) | (simp only [State.movPull, Option.map_eq_some_iff] at e_; obtain ⟨_, _, rfl⟩ := e_; simp; done) | (grind [State.movPull, State.harvestLine_kept, State.modAct_kept, State.toHost_kept, State.askPage_kept, State.movReq_kept])
@[simp] theorem State.movPull_getD (s : State) (c : Nat) (u_ : State) (h_ : u_.pending = s.pending ∧ u_.mbx = s.mbx) :
    ((State.movPull s c).getD u_).pending = s.pending ∧ ((State.movPull s c).getD u_).mbx = s.mbx := by
  cases e_ : State.movPull s c with
  | none => exact h_
  | some t_ => exact State.movPull_kept _ _ e_
theorem State.movPush_kept (s : State) (c : Nat) {t_ : State} (e_ : State.movPush s c = some t_) : t_.pending = s.pending ∧ t_.mbx = s.mbx := by
  first | (unfold State.movPush at e_; (try dsimp only at e_); (repeat' (first | contradiction | (simp only [Option.map_eq_some_iff, Option.bind_eq_some_iff, Option.some.injEq, Prod.mk.injEq] at e_; simp_all; done) | (cases e_; simp; done) | (have e_1 := State.movReq_kept _ _ _ _ _ _ _ _ (by assumption); simp [*]; done) | split at e_)); done) | (simp only [State.movPush, Option.map_eq_some_iff, Prod.mk.injEq] at e_; obtain ⟨_, _, rfl, rfl⟩ := e_; simp; done) | (simp only [State.movPush, Option.map_eq_some_iff] at e_; obtain ⟨_, _, rfl⟩ := e_; simp; done) | (grind [State.movPush, State.modAct_kept, State.hold_kept, State.movAck_kept, State.movReq_kept, State.askPage_kept])
@[simp] theorem State.movPush_getD (s : State) (c : Nat) (u_ : State) (h_ : u_.pending = s.pending ∧ u_.mbx = s.mbx) :
    ((State.movPush s c).getD u_).pending = s.pending ∧ ((State.movPush s c).getD u_).mbx = s.mbx := by
  cases e_ : State.movPush s c with
  | none => exact h_
  | some t_ => exact State.movPush_kept _ _ e_
theorem State.movWrap_kept (s : State) (c : Nat) {t_ : State} (e_ : State.movWrap s c = some t_) : t_.pending = s.pending ∧ t_.mbx = s.mbx := by
  first | (unfold State.movWrap at e_; (try dsimp only at e_); (repeat' (first | contradiction | (simp only [Option.map_eq_some_iff, Option.bind_eq_some_iff, Option.some.injEq, Prod.mk.injEq] at e_; simp_all; done) | (cases e_; simp; done) | split at e_)); done) | (simp only [State.movWrap, Option.map_eq_some_iff, Prod.mk.injEq] at e_; obtain ⟨_, _, rfl, rfl⟩ := e_; simp; done) | (simp only [State.movWrap, Option.map_eq_some_iff] at e_; obtain ⟨_, _, rfl⟩ := e_; simp; done) | (grind [State.movWrap, State.movFail_kept, State.keepCtx_kept, State.modAct_kept, State.hold_kept])
@[simp] theorem State.movWrap_getD (s : State) (c : Nat) (u_ : State) (h_ : u_.pending = s.pending ∧ u_.mbx = s.mbx) :
    ((State.movWrap s c).getD u_).pending = s.pending ∧ ((State.movWrap s c).getD u_).mbx = s.mbx := by
  cases e_ : State.movWrap s c with
  | none => exact h_
  | some t_ => exact State.movWrap_kept _ _ e_
theorem State.movUnwrap_kept (s : State) (c : Nat) {t_ : State} (e_ : State.movUnwrap s c = some t_) : t_.pending = s.pending ∧ t_.mbx = s.mbx := by
  first | (unfold State.movUnwrap at e_; (try dsimp only at e_); (repeat' (first | contradiction | (simp only [Option.map_eq_some_iff, Option.bind_eq_some_iff, Option.some.injEq, Prod.mk.injEq] at e_; simp_all; done) | (cases e_; simp; done) | split at e_)); done) | (simp only [State.movUnwrap, Option.map_eq_some_iff, Prod.mk.injEq] at e_; obtain ⟨_, _, rfl, rfl⟩ := e_; simp; done) | (simp only [State.movUnwrap, Option.map_eq_some_iff] at e_; obtain ⟨_, _, rfl⟩ := e_; simp; done) | (grind [State.movUnwrap, State.movFail_kept, State.keepCtx_kept, State.modAct_kept])
@[simp] theorem State.movUnwrap_getD (s : State) (c : Nat) (u_ : State) (h_ : u_.pending = s.pending ∧ u_.mbx = s.mbx) :
    ((State.movUnwrap s c).getD u_).pending = s.pending ∧ ((State.movUnwrap s c).getD u_).mbx = s.mbx := by
  cases e_ : State.movUnwrap s c with
  | none => exact h_
  | some t_ => exact State.movUnwrap_kept _ _ e_
@[simp] theorem State.movUnit_kept (s : State) (c : Nat) (bytes : List Byte) :
    (State.movUnit s c bytes).pending = s.pending ∧ (State.movUnit s c bytes).mbx = s.mbx := by
  unfold State.movUnit; (try dsimp only); (repeat' (first | (simp [*]; done) | (refine foldl_kept _ ?_ _ _ _ ?_ <;> intros <;> (try dsimp only)) | split | (apply And.intro)))
theorem State.movEnd_kept (s : State) (c : Nat) {t_ : State} (e_ : State.movEnd s c = some t_) : t_.pending = s.pending ∧ t_.mbx = s.mbx := by
  first | (unfold State.movEnd at e_; (try dsimp only at e_); (repeat' (first | contradiction | (simp only [Option.map_eq_some_iff, Option.bind_eq_some_iff, Option.some.injEq, Prod.mk.injEq] at e_; simp_all; done) | (cases e_; simp; done) | split at e_)); done) | (simp only [State.movEnd, Option.map_eq_some_iff, Prod.mk.injEq] at e_; obtain ⟨_, _, rfl, rfl⟩ := e_; simp; done) | (simp only [State.movEnd, Option.map_eq_some_iff] at e_; obtain ⟨_, _, rfl⟩ := e_; simp; done) | (grind [State.movEnd, State.modAct_kept, State.sealBy_kept, State.movFail_kept])
@[simp] theorem State.movEnd_getD (s : State) (c : Nat) (u_ : State) (h_ : u_.pending = s.pending ∧ u_.mbx = s.mbx) :
    ((State.movEnd s c).getD u_).pending = s.pending ∧ ((State.movEnd s c).getD u_).mbx = s.mbx := by
  cases e_ : State.movEnd s c with
  | none => exact h_
  | some t_ => exact State.movEnd_kept _ _ e_
theorem State.movMove_kept (s : State) (c : Nat) {t_ : State} (e_ : State.movMove s c = some t_) : t_.pending = s.pending ∧ t_.mbx = s.mbx := by
  have key : ∀ a b : Option State, (∀ t, a = some t → t.pending = s.pending ∧ t.mbx = s.mbx) →
      (∀ t, b = some t → t.pending = s.pending ∧ t.mbx = s.mbx) → ∀ t, a.or b = some t → t.pending = s.pending ∧ t.mbx = s.mbx := by
    intro a b ha hb t h
    cases a with
    | none => exact hb t h
    | some a => exact ha t h
  unfold State.movMove at e_
  split at e_
  · contradiction
  · split at e_
    · contradiction
    · split at e_
      · cases e_; simp
      · exact key _ _ (fun _ => State.movPush_kept _ _) (key _ _ (fun _ => State.movWrap_kept _ _) (key _ _ (fun _ => State.movUnwrap_kept _ _)
          (key _ _ (fun _ => State.movPull_kept _ _) (fun _ => State.movEnd_kept _ _)))) _ e_
@[simp] theorem State.movMove_getD (s : State) (c : Nat) (u_ : State) (h_ : u_.pending = s.pending ∧ u_.mbx = s.mbx) :
    ((State.movMove s c).getD u_).pending = s.pending ∧ ((State.movMove s c).getD u_).mbx = s.mbx := by
  cases e_ : State.movMove s c with
  | none => exact h_
  | some t_ => exact State.movMove_kept _ _ e_
@[simp] theorem State.movPump_kept (c n : Nat) (s : State) : (State.movPump c n s).pending = s.pending ∧ (State.movPump c n s).mbx = s.mbx := by
  induction n generalizing s with
  | zero => exact ⟨rfl, rfl⟩
  | succ n ih =>
    unfold State.movPump
    split
    · exact kept_trans (ih _) (State.movMove_kept _ _ (by assumption))
    · exact ⟨rfl, rfl⟩
@[simp] theorem State.movRun_kept (s : State) (c len src dst : Nat) :
    (State.movRun s c len src dst).pending = s.pending ∧ (State.movRun s c len src dst).mbx = s.mbx := by
  unfold State.movRun; (try dsimp only); (repeat' (first | (simp [*]; done) | (refine foldl_kept _ ?_ _ _ _ ?_ <;> intros <;> (try dsimp only)) | split | (apply And.intro)))
@[simp] theorem State.movBegin_kept (s : State) (c : Nat) : (State.movBegin s c).pending = s.pending ∧ (State.movBegin s c).mbx = s.mbx := by
  unfold State.movBegin; (try dsimp only); (repeat' (first | (simp [*]; done) | (have e_1 := State.movReq_kept _ _ _ _ _ _ _ _ (by assumption); simp [*]; done) | (refine foldl_kept _ ?_ _ _ _ ?_ <;> intros <;> (try dsimp only)) | split | (apply And.intro)))
theorem State.descRefs_kept (c : Nat) (seq : Nat) (l : List Nat) (s t : State) (h : l.foldl (fun (o : Option State) n => o.bind fun s => s.addRef (.desc c seq) (.tally n)) (some s) = some t) :
    t.pending = s.pending ∧ t.mbx = s.mbx := by
  induction l generalizing s with
  | nil => cases h; exact ⟨rfl, rfl⟩
  | cons n l ih =>
    simp only [List.foldl_cons, Option.bind_some] at h
    cases e : s.addRef (.desc c seq) (.tally n) with
    | none => rw [e] at h; exfalso; clear ih e; induction l with | nil => contradiction | cons m l ih => exact ih h
    | some u => rw [e] at h; exact kept_trans (ih u h) (State.addRef_kept _ _ _ e)
@[simp] theorem State.takeDesc_kept (s : State) (c : Nat) (d : Desc) (place : Nat) :
    (State.takeDesc s c d place).pending = s.pending ∧ (State.takeDesc s c d place).mbx = s.mbx := by
  unfold State.takeDesc
  dsimp only
  split
  · rename_i h
    have e := State.descRefs_kept c s.mov.next _ _ _ h
    exact kept_trans (State.modChan_kept _ _ _) e
  · simp
@[simp] theorem State.readDesc_kept (s : State) (c g : Nat) (ctx : BitVec 16) :
    (State.readDesc s c g ctx).pending = s.pending ∧ (State.readDesc s c g ctx).mbx = s.mbx := by
  simp [State.readDesc]
@[simp] theorem State.moveDesc_kept (s : State) (c : Nat) (m : MoveStep) (words : List Dword) (bad : Nat) :
    (State.moveDesc s c m words bad).pending = s.pending ∧ (State.moveDesc s c m words bad).mbx = s.mbx := by
  simp [State.moveDesc]
@[simp] theorem State.ringDesc_kept (s : State) (c : Nat) (words : List Dword) (bad : Nat) :
    (State.ringDesc s c words bad).pending = s.pending ∧ (State.ringDesc s c words bad).mbx = s.mbx := by
  simp [State.ringDesc]
@[simp] theorem State.deviceRing_kept (s : State) (c : Nat) : (State.deviceRing s c).pending = s.pending ∧ (State.deviceRing s c).mbx = s.mbx := by
  unfold State.deviceRing; (try dsimp only); (repeat' (first | (simp [*]; done) | (refine foldl_kept _ ?_ _ _ _ ?_ <;> intros <;> (try dsimp only)) | split | (apply And.intro)))
@[simp] theorem descriptorFetched_kept (c : Nat) (words : List Dword) (s : State) :
    (descriptorFetched c words s).pending = s.pending ∧ (descriptorFetched c words s).mbx = s.mbx := by
  unfold descriptorFetched; (try dsimp only); (repeat' (first | (simp [*]; done) | (refine foldl_kept _ ?_ _ _ _ ?_ <;> intros <;> (try dsimp only)) | split | (apply And.intro)))
@[simp] theorem descriptorActive_kept (c : Nat) (s : State) : (descriptorActive c s).pending = s.pending ∧ (descriptorActive c s).mbx = s.mbx := by
  unfold descriptorActive; (try dsimp only); (repeat' (first | (simp [*]; done) | (have e_1 := State.issueReq_kept _ _ _ _ _ _ (by assumption); simp [*]; done) | (refine foldl_kept _ ?_ _ _ _ ?_ <;> intros <;> (try dsimp only)) | split | (apply And.intro)))
@[simp] theorem State.ringAnswer_kept (s : State) (c v : Nat) (page : Option (BitVec 52)) :
    (State.ringAnswer s c v page).pending = s.pending ∧ (State.ringAnswer s c v page).mbx = s.mbx := by
  unfold State.ringAnswer; (try dsimp only); (repeat' (first | (simp [*]; done) | (refine foldl_kept _ ?_ _ _ _ ?_ <;> intros <;> (try dsimp only)) | split | (apply And.intro)))
@[simp] theorem translationAnswer_kept (c : Nat) (dst : Bool) (page : Option (BitVec 52)) (s : State) :
    (translationAnswer c dst page s).pending = s.pending ∧ (translationAnswer c dst page s).mbx = s.mbx := by
  unfold translationAnswer; (try dsimp only); (repeat' (first | (simp [*]; done) | (refine foldl_kept _ ?_ _ _ _ ?_ <;> intros <;> (try dsimp only)) | split | (apply And.intro)))
@[simp] theorem paramBlockReturn_kept (c : Nat) (s : State) : (paramBlockReturn c s).pending = s.pending ∧ (paramBlockReturn c s).mbx = s.mbx := by
  unfold paramBlockReturn; (try dsimp only); (repeat' (first | (simp [*]; done) | (refine foldl_kept _ ?_ _ _ _ ?_ <;> intros <;> (try dsimp only)) | split | (apply And.intro)))
@[simp] theorem descriptorFinish_kept (c : Nat) (s : State) : (descriptorFinish c s).pending = s.pending ∧ (descriptorFinish c s).mbx = s.mbx := by
  unfold descriptorFinish
  dsimp only
  split
  · simp
  · split
    · simp
    · split
      · simp
      · rename_i h
        split at h
        · have e := State.issueReq_kept _ _ _ _ _ _ h
          split <;> simp [e]
        · cases h
          split <;> simp
@[simp] theorem recordUndeliverable_kept (c : Nat) (s : State) :
    (recordUndeliverable c s).pending = s.pending ∧ (recordUndeliverable c s).mbx = s.mbx := by
  simp [recordUndeliverable]
@[simp] theorem State.movHaltPath_kept (s : State) (c : Nat) : (State.movHaltPath s c).pending = s.pending ∧ (State.movHaltPath s c).mbx = s.mbx := by
  simp [State.movHaltPath]
@[simp] theorem movAbort_kept (ap : Aperture) (c : Nat) (s : State) : (movAbort ap c s).pending = s.pending ∧ (movAbort ap c s).mbx = s.mbx := by
  simp [movAbort]
@[simp] theorem movAbortDrained_kept (c : Nat) (s : State) : (movAbortDrained c s).pending = s.pending ∧ (movAbortDrained c s).mbx = s.mbx := by
  unfold movAbortDrained; (try dsimp only); (repeat' (first | (simp [*]; done) | (refine foldl_kept _ ?_ _ _ _ ?_ <;> intros <;> (try dsimp only)) | split | (apply And.intro)))
@[simp] theorem State.dropHeldContribs_kept (s : State) (c : Nat) :
    (State.dropHeldContribs s c).pending = s.pending ∧ (State.dropHeldContribs s c).mbx = s.mbx := by
  simp [State.dropHeldContribs]
@[simp] theorem State.discardDescs_kept (s : State) (c : Nat) :
    (State.discardDescs s c).pending = s.pending ∧ (State.discardDescs s c).mbx = s.mbx := by
  simp [State.discardDescs]
@[simp] theorem State.forceDestroy_kept (s : State) (c : Nat) (ap : Option Nat) :
    (State.forceDestroy s c ap).pending = s.pending ∧ (State.forceDestroy s c ap).mbx = s.mbx := by
  simp [State.forceDestroy]
@[simp] theorem State.destroyQueue_kept (s : State) (a p c : Nat) (ctx : BitVec 16) :
    (State.destroyQueue s a p c ctx).pending = s.pending ∧ (State.destroyQueue s a p c ctx).mbx = s.mbx := by
  unfold State.destroyQueue; (try dsimp only); (repeat' (first | (simp [*]; done) | (refine foldl_kept _ ?_ _ _ _ ?_ <;> intros <;> (try dsimp only)) | split | (apply And.intro)))
@[simp] theorem movDestroy_kept (ap : Aperture) (c : Nat) (s : State) :
    (movDestroy ap c s).pending = s.pending ∧ (movDestroy ap c s).mbx = s.mbx := by
  unfold movDestroy; (try dsimp only); (repeat' (first | (simp [*]; done) | (refine foldl_kept _ ?_ _ _ _ ?_ <;> intros <;> (try dsimp only)) | (refine kept_trans (State.refCmd_kept _ _ _ ?_ ) ?_ <;> intros <;> (try dsimp only)) | split | (apply And.intro)))
@[simp] theorem destroyComplete_kept (c : Nat) (s : State) : (destroyComplete c s).pending = s.pending ∧ (destroyComplete c s).mbx = s.mbx := by
  unfold destroyComplete; (try dsimp only); (repeat' (first | (simp [*]; done) | (refine foldl_kept _ ?_ _ _ _ ?_ <;> intros <;> (try dsimp only)) | split | (apply And.intro)))
@[simp] theorem State.movTake_kept (s : State) (c : Nat) (d : Done) :
    (State.movTake s c d).pending = s.pending ∧ (State.movTake s c d).mbx = s.mbx := by
  unfold State.movTake; (try dsimp only); (repeat' (first | (simp [*]; done) | (refine foldl_kept _ ?_ _ _ _ ?_ <;> intros <;> (try dsimp only)) | split | (apply And.intro)))
@[simp] theorem State.movSealed_kept (s : State) (c code : Nat) :
    (State.movSealed s c code).pending = s.pending ∧ (State.movSealed s c code).mbx = s.mbx := by
  unfold State.movSealed; (try dsimp only); (repeat' (first | (simp [*]; done) | (refine foldl_kept _ ?_ _ _ _ ?_ <;> intros <;> (try dsimp only)) | split | (apply And.intro)))
@[simp] theorem State.movSettle_kept (s : State) : (State.movSettle s).pending = s.pending ∧ (State.movSettle s).mbx = s.mbx := by
  unfold State.movSettle; (try dsimp only); (repeat' (first | (simp [*]; done) | (refine foldl_kept _ ?_ _ _ _ ?_ <;> intros <;> (try dsimp only)) | split | (apply And.intro)))
@[simp] theorem State.putCtx_kept (s : State) (p i : Nat) (e : CtxEntry) :
    (State.putCtx s p i e).pending = s.pending ∧ (State.putCtx s p i e).mbx = s.mbx := by
  simp [State.putCtx]
@[simp] theorem ctxOpen_kept (ap : Aperture) (fn : Nat) (s : State) : (ctxOpen ap fn s).pending = s.pending ∧ (ctxOpen ap fn s).mbx = s.mbx := by
  unfold ctxOpen; (try dsimp only); (repeat' (first | (simp [*]; done) | (refine foldl_kept _ ?_ _ _ _ ?_ <;> intros <;> (try dsimp only)) | (refine kept_trans (State.command_kept _ _ _ _ ?_ ) ?_ <;> intros <;> (try dsimp only)) | split | (apply And.intro)))
@[simp] theorem State.endCarts_kept (s : State) (p : Nat) (ctx : BitVec 16) :
    (State.endCarts s p ctx).pending = s.pending ∧ (State.endCarts s p ctx).mbx = s.mbx := by
  unfold State.endCarts; (try dsimp only); (repeat' (first | (simp [*]; done) | (refine foldl_kept _ ?_ _ _ _ ?_ <;> intros <;> (try dsimp only)) | split | (apply And.intro)))
@[simp] theorem State.discardReqs_kept (s : State) (p : Nat) (ctx : BitVec 16) :
    (State.discardReqs s p ctx).pending = s.pending ∧ (State.discardReqs s p ctx).mbx = s.mbx := by
  simp [State.discardReqs]
@[simp] theorem State.retireWork_kept (s : State) (p : Nat) (ctx : BitVec 16) :
    (State.retireWork s p ctx).1.pending = s.pending ∧ (State.retireWork s p ctx).1.mbx = s.mbx := by
  simp [State.retireWork]
@[simp] theorem ctxRetire_kept (ap : Aperture) (tag : BitVec 16) (s : State) :
    (ctxRetire ap tag s).pending = s.pending ∧ (ctxRetire ap tag s).mbx = s.mbx := by
  unfold ctxRetire; (try dsimp only); (repeat' (first | (simp [*]; done) | (refine foldl_kept _ ?_ _ _ _ ?_ <;> intros <;> (try dsimp only)) | (refine kept_trans (State.command_kept _ _ _ _ ?_ ) ?_ <;> intros <;> (try dsimp only)) | split | (apply And.intro)))
@[simp] theorem ctxRetireComplete_kept (p idx : Nat) (s : State) :
    (ctxRetireComplete p idx s).pending = s.pending ∧ (ctxRetireComplete p idx s).mbx = s.mbx := by
  unfold ctxRetireComplete; (try dsimp only); (repeat' (first | (simp [*]; done) | (refine foldl_kept _ ?_ _ _ _ ?_ <;> intros <;> (try dsimp only)) | split | (apply And.intro)))
@[simp] theorem ctxLossLoRead_kept (ap : Aperture) (s : State) : (ctxLossLoRead ap s).pending = s.pending ∧ (ctxLossLoRead ap s).mbx = s.mbx := by
  unfold ctxLossLoRead; (try dsimp only); (repeat' (first | (simp [*]; done) | (refine foldl_kept _ ?_ _ _ _ ?_ <;> intros <;> (try dsimp only)) | split | (apply And.intro)))
@[simp] theorem frontEndWait_kept (w : FrontWait) (s : State) : (frontEndWait w s).pending = s.pending ∧ (frontEndWait w s).mbx = s.mbx := by
  simp [frontEndWait]
@[simp] theorem State.settleFront_kept (s : State) : (State.settleFront s).pending = s.pending ∧ (State.settleFront s).mbx = s.mbx := by
  simp [State.settleFront]
@[simp] theorem frontEndWithdraw_kept (q : Nat) (s : State) : (frontEndWithdraw q s).pending = s.pending ∧ (frontEndWithdraw q s).mbx = s.mbx := by
  unfold frontEndWithdraw; (try dsimp only); (repeat' (first | (simp [*]; done) | (refine foldl_kept _ ?_ _ _ _ ?_ <;> intros <;> (try dsimp only)) | split | (apply And.intro)))
@[simp] theorem State.modStream_kept (s : State) (k : Nat) (f : IdeStream → IdeStream) :
    (State.modStream s k f).pending = s.pending ∧ (State.modStream s k f).mbx = s.mbx := by
  simp [State.modStream]
@[simp] theorem State.insecure_kept (s : State) (k : Nat) (now : Bool) :
    (State.insecure s k now).pending = s.pending ∧ (State.insecure s k now).mbx = s.mbx := by
  simp [State.insecure]
@[simp] theorem State.setTdi_kept (s : State) (p v : Nat) (cause : BitVec 16) :
    (State.setTdi s p v cause).pending = s.pending ∧ (State.setTdi s p v cause).mbx = s.mbx := by
  simp [State.setTdi]
@[simp] theorem State.tdiError_kept (s : State) (p cause : Nat) :
    (State.tdiError s p cause).pending = s.pending ∧ (State.tdiError s p cause).mbx = s.mbx := by
  simp [State.tdiError]
@[simp] theorem State.ideFail_kept (s : State) (k : Nat) : (State.ideFail s k).pending = s.pending ∧ (State.ideFail s k).mbx = s.mbx := by
  simp [State.ideFail]
@[simp] theorem hostReadCompletion_kept (c : Nat) (lines : List Line) (ideOk : Bool) (s : State) :
    (hostReadCompletion c lines ideOk s).pending = s.pending ∧ (hostReadCompletion c lines ideOk s).mbx = s.mbx := by
  unfold hostReadCompletion; (try dsimp only); (repeat' (first | (simp [*]; done) | (refine foldl_kept _ ?_ _ _ _ ?_ <;> intros <;> (try dsimp only)) | split | (apply And.intro)))
@[simp] theorem State.urTo_kept (s : State) (fn tag : Nat) (posted : Bool) :
    (State.urTo s fn tag posted).pending = s.pending ∧ (State.urTo s fn tag posted).mbx = s.mbx := by
  simp [State.urTo]
@[simp] theorem hostTlpReceive_kept (x : Tlp) (s : State) : (hostTlpReceive x s).pending = s.pending ∧ (hostTlpReceive x s).mbx = s.mbx := by
  unfold hostTlpReceive; (try dsimp only); (repeat' (first | (simp [*]; done) | (refine foldl_kept _ ?_ _ _ _ ?_ <;> intros <;> (try dsimp only)) | split | (apply And.intro)))
@[simp] theorem State.holdCpl_kept (s : State) (p fn tag status : Nat) (bytes : List Byte) (ctx : Option (BitVec 16)) :
    (State.holdCpl s p fn tag status bytes ctx).pending = s.pending ∧ (State.holdCpl s p fn tag status bytes ctx).mbx = s.mbx := by
  simp [State.holdCpl]
@[simp] theorem bar2Access_kept (x : Bar2) (s : State) : (bar2Access x s).pending = s.pending ∧ (bar2Access x s).mbx = s.mbx := by
  unfold bar2Access; (try dsimp only); (repeat' (first | (simp [*]; done) | (have e_1 := State.issueReq_kept _ _ _ _ _ _ (by assumption); simp [*]; done) | (refine foldl_kept _ ?_ _ _ _ ?_ <;> intros <;> (try dsimp only)) | split | (apply And.intro)))
@[simp] theorem State.settleBar2Waits_kept (s : State) : (State.settleBar2Waits s).pending = s.pending ∧ (State.settleBar2Waits s).mbx = s.mbx := by
  simp [State.settleBar2Waits]
@[simp] theorem State.bar2Take_kept (s : State) (p : Nat) (d : Done) :
    (State.bar2Take s p d).pending = s.pending ∧ (State.bar2Take s p d).mbx = s.mbx := by
  simp [State.bar2Take]
@[simp] theorem State.endSession_kept (s : State) (x : Session) :
    (State.endSession s x).pending = s.pending ∧ (State.endSession s x).mbx = s.mbx := by
  simp [State.endSession]
@[simp] theorem State.endSessions_kept (s : State) (f : Session → Bool) :
    (State.endSessions s f).pending = s.pending ∧ (State.endSessions s f).mbx = s.mbx := by
  simp [State.endSessions]
@[simp] theorem State.sessionKeys_kept (s : State) (fn : Nat) :
    (State.sessionKeys s fn).1.pending = s.pending ∧ (State.sessionKeys s fn).1.mbx = s.mbx := by
  unfold State.sessionKeys
  generalize List.range 4 = l
  suffices h : ∀ (x : State × List Nat), (l.foldl (fun (x : State × List Nat) _ => match x.1.freeSlot [] with
      | none => x
      | some k => ((x.1.putKey k 0xA fn 4 2 0 x.1.rand).used, x.2 ++ [k])) x).1.pending = x.1.pending ∧
      (l.foldl (fun (x : State × List Nat) _ => match x.1.freeSlot [] with
      | none => x
      | some k => ((x.1.putKey k 0xA fn 4 2 0 x.1.rand).used, x.2 ++ [k])) x).1.mbx = x.1.mbx from h _
  induction l with
  | nil => intro x; exact ⟨rfl, rfl⟩
  | cons a l ih =>
    intro x
    rw [List.foldl_cons]
    refine kept_trans (ih _) ?_
    cases x.1.freeSlot [] with
    | none => exact ⟨rfl, rfl⟩
    | some k => simp
@[simp] theorem State.renewKeys_kept (s : State) (l : List Nat) : (State.renewKeys s l).pending = s.pending ∧ (State.renewKeys s l).mbx = s.mbx := by
  simp [State.renewKeys]
@[simp] theorem spdmMessage_kept (fn : Nat) (r : SpdmReq) (s : State) :
    (spdmMessage fn r s).pending = s.pending ∧ (spdmMessage fn r s).mbx = s.mbx := by
  unfold spdmMessage; (try dsimp only); (repeat' (first | (simp [*]; done) | (refine foldl_kept _ ?_ _ _ _ ?_ <;> intros <;> (try dsimp only)) | split | (apply And.intro)))
@[simp] theorem State.ideKm_kept (s : State) (fn session stream : Nat) (f : State → State) (h_f : ∀ y0, (f y0).pending = y0.pending ∧ (f y0).mbx = y0.mbx) :
    (State.ideKm s fn session stream f).pending = s.pending ∧ (State.ideKm s fn session stream f).mbx = s.mbx := by
  simp [State.ideKm, h_f]
@[simp] theorem ideKmQuery_kept (fn session stream : Nat) (s : State) :
    (ideKmQuery fn session stream s).pending = s.pending ∧ (ideKmQuery fn session stream s).mbx = s.mbx := by
  simp [ideKmQuery]
@[simp] theorem ideKmKeyProg_kept (fn session stream kset sub dir : Nat) (key : BitVec 256) (s : State) :
    (ideKmKeyProg fn session stream kset sub dir key s).pending = s.pending ∧ (ideKmKeyProg fn session stream kset sub dir key s).mbx = s.mbx := by
  unfold ideKmKeyProg; (try dsimp only); (repeat' (first | (simp [*]; done) | (refine foldl_kept _ ?_ _ _ _ ?_ <;> intros <;> (try dsimp only)) | (refine kept_trans (State.ideKm_kept _ _ _ _ _ ?_ ) ?_ <;> intros <;> (try dsimp only)) | split | (apply And.intro)))
@[simp] theorem ideKmKSetGo_kept (fn session stream kset sub dir : Nat) (s : State) :
    (ideKmKSetGo fn session stream kset sub dir s).pending = s.pending ∧ (ideKmKSetGo fn session stream kset sub dir s).mbx = s.mbx := by
  simp [ideKmKSetGo]
@[simp] theorem ideKmKSetStop_kept (fn session stream kset sub dir : Nat) (s : State) :
    (ideKmKSetStop fn session stream kset sub dir s).pending = s.pending ∧ (ideKmKSetStop fn session stream kset sub dir s).mbx = s.mbx := by
  simp [ideKmKSetStop]
@[simp] theorem State.abortHalt_kept (s : State) (c code : Nat) :
    (State.abortHalt s c code).pending = s.pending ∧ (State.abortHalt s c code).mbx = s.mbx := by
  unfold State.abortHalt
  extract_lets k
  split
  · simp
  · simp
  · split
    · simp
    · rename_i act t1 t2 t3 t4 t5 _ _ _ _
      have e1 : t1.pending = s.pending ∧ t1.mbx = s.mbx := by simp only [t1]; simp
      have e2 : t2.pending = s.pending ∧ t2.mbx = s.mbx := by simp only [t2]; simp [e1]
      have e3 : t3.pending = s.pending ∧ t3.mbx = s.mbx := by simp only [t3]; cases act <;> simp [e2]
      have e4 : t4.pending = s.pending ∧ t4.mbx = s.mbx := by simp only [t4]; simp [e3]
      have e5 : t5.pending = s.pending ∧ t5.mbx = s.mbx := by simp only [t5]; simp [e4]
      clear_value t5
      split <;> simp [e5]
@[simp] theorem State.loseWhere_kept (s : State) (p code : Nat) (f : CtxEntry → Bool) :
    (State.loseWhere s p code f).pending = s.pending ∧ (State.loseWhere s p code f).mbx = s.mbx := by
  simp [State.loseWhere]
@[simp] theorem State.dropLost_kept (s : State) (p v : Nat) : (State.dropLost s p v).pending = s.pending ∧ (State.dropLost s p v).mbx = s.mbx := by
  simp [State.dropLost]
@[simp] theorem State.resetInsts_kept (s : State) (p : Nat) : (State.resetInsts s p).pending = s.pending ∧ (State.resetInsts s p).mbx = s.mbx := by
  simp [State.resetInsts]
@[simp] theorem State.haltTasks_kept (s : State) (p code : Nat) :
    (State.haltTasks s p code).pending = s.pending ∧ (State.haltTasks s p code).mbx = s.mbx := by
  simp [State.haltTasks]
@[simp] theorem State.flrPart_kept (s : State) (p : Nat) : (State.flrPart s p).pending = s.pending ∧ (State.flrPart s p).mbx = s.mbx := by
  simp [State.flrPart]
@[simp] theorem State.flrVf_kept (s : State) (p v : Nat) : (State.flrVf s p v).pending = s.pending ∧ (State.flrVf s p v).mbx = s.mbx := by
  simp [State.flrVf]
@[simp] theorem flr_kept (fn : FlrFn) (s : State) : (flr fn s).pending = s.pending := by
  unfold flr; (try dsimp only); (repeat' (first | (simp [*]; done) | (refine foldl_kept _ ?_ _ _ _ ?_ <;> intros <;> (try dsimp only)) | split | (apply And.intro)))
@[simp] theorem flrDone_kept (fn : FlrFn) (s : State) : (flrDone fn s).pending = s.pending ∧ (flrDone fn s).mbx = s.mbx := by
  simp [flrDone]
@[simp] theorem State.tdisp_kept (s : State) (p session : Nat) (f : State → State) (h_f : ∀ y0, (f y0).pending = y0.pending ∧ (f y0).mbx = y0.mbx) :
    (State.tdisp s p session f).pending = s.pending ∧ (State.tdisp s p session f).mbx = s.mbx := by
  simp [State.tdisp, h_f]
@[simp] theorem State.tdispError_kept (s : State) (p : Nat) : (State.tdispError s p).pending = s.pending ∧ (State.tdispError s p).mbx = s.mbx := by
  simp [State.tdispError]
@[simp] theorem getTdispVersion_kept (p session : Nat) (s : State) :
    (getTdispVersion p session s).pending = s.pending ∧ (getTdispVersion p session s).mbx = s.mbx := by
  simp [getTdispVersion]
@[simp] theorem getTdispCapabilities_kept (p session : Nat) (s : State) :
    (getTdispCapabilities p session s).pending = s.pending ∧ (getTdispCapabilities p session s).mbx = s.mbx := by
  simp [getTdispCapabilities]
@[simp] theorem lockInterfaceRequest_kept (p session : Nat) (s : State) :
    (lockInterfaceRequest p session s).pending = s.pending ∧ (lockInterfaceRequest p session s).mbx = s.mbx := by
  simp [lockInterfaceRequest]
@[simp] theorem getDeviceInterfaceReport_kept (p session : Nat) (s : State) :
    (getDeviceInterfaceReport p session s).pending = s.pending ∧ (getDeviceInterfaceReport p session s).mbx = s.mbx := by
  simp [getDeviceInterfaceReport]
@[simp] theorem getDeviceInterfaceState_kept (p session : Nat) (s : State) :
    (getDeviceInterfaceState p session s).pending = s.pending ∧ (getDeviceInterfaceState p session s).mbx = s.mbx := by
  simp [getDeviceInterfaceState]
@[simp] theorem startInterfaceRequest_kept (p session : Nat) (s : State) :
    (startInterfaceRequest p session s).pending = s.pending ∧ (startInterfaceRequest p session s).mbx = s.mbx := by
  simp [startInterfaceRequest]
@[simp] theorem stopInterfaceRequest_kept (p session : Nat) (s : State) :
    (stopInterfaceRequest p session s).pending = s.pending ∧ (stopInterfaceRequest p session s).mbx = s.mbx := by
  simp [stopInterfaceRequest]
@[simp] theorem configWriteLocked_kept (p : Nat) (s : State) : (configWriteLocked p s).pending = s.pending ∧ (configWriteLocked p s).mbx = s.mbx := by
  simp [configWriteLocked]
@[simp] theorem State.removeBegin_kept (s : State) (p : Nat) : (State.removeBegin s p).pending = s.pending ∧ (State.removeBegin s p).mbx = s.mbx := by
  simp [State.removeBegin]
@[simp] theorem State.clearEngines_kept (s : State) (p : Nat) :
    (State.clearEngines s p).pending = s.pending ∧ (State.clearEngines s p).mbx = s.mbx := by
  simp [State.clearEngines]
@[simp] theorem State.hstCmd_kept (s : State) (ap : Aperture) (f : Nat → State → State) (h_f : ∀ y0 y1, (f y0 y1).pending = y1.pending ∧ (f y0 y1).mbx = y1.mbx) :
    (State.hstCmd s ap f).pending = s.pending ∧ (State.hstCmd s ap f).mbx = s.mbx := by
  unfold State.hstCmd; (try dsimp only); (repeat' (first | (simp [*]; done) | (refine foldl_kept _ ?_ _ _ _ ?_ <;> intros <;> (try dsimp only)) | (refine kept_trans (State.command_kept _ _ _ _ ?_ ) ?_ <;> intros <;> (try dsimp only)) | split | (apply And.intro)))
@[simp] theorem hstRemove_kept (ap : Aperture) (p : Nat) (s : State) : (hstRemove ap p s).pending = s.pending ∧ (hstRemove ap p s).mbx = s.mbx := by
  unfold hstRemove; (try dsimp only); (repeat' (first | (simp [*]; done) | (refine foldl_kept _ ?_ _ _ _ ?_ <;> intros <;> (try dsimp only)) | (refine kept_trans (State.command_kept _ _ _ _ ?_ ) ?_ <;> intros <;> (try dsimp only)) | split | (apply And.intro)))
@[simp] theorem State.killKeys_kept (s : State) (p : Nat) : (State.killKeys s p).pending = s.pending ∧ (State.killKeys s p).mbx = s.mbx := by
  simp [State.killKeys]
@[simp] theorem removeComplete_kept (p : Nat) (s : State) : (removeComplete p s).pending = s.pending ∧ (removeComplete p s).mbx = s.mbx := by
  unfold removeComplete; (try dsimp only); (repeat' (first | (simp [*]; done) | (refine foldl_kept _ ?_ _ _ _ ?_ <;> intros <;> (try dsimp only)) | split | (apply And.intro)))
@[simp] theorem pfD3hot_kept (fn : Nat) (s : State) : (pfD3hot fn s).pending = s.pending ∧ (pfD3hot fn s).mbx = s.mbx := by
  simp [pfD3hot]
@[simp] theorem pfD0_kept (fn : Nat) (s : State) : (pfD0 fn s).pending = s.pending ∧ (pfD0 fn s).mbx = s.mbx := by
  simp [pfD0]
@[simp] theorem pfD3cold_kept (p : Nat) (s : State) : (pfD3cold p s).pending = s.pending ∧ (pfD3cold p s).mbx = s.mbx := by
  simp [pfD3cold]
@[simp] theorem d0FromD3cold_kept (p : Nat) (s : State) : (d0FromD3cold p s).pending = s.pending ∧ (d0FromD3cold p s).mbx = s.mbx := by
  simp [d0FromD3cold]
@[simp] theorem vfPowerState_kept (p v d : Nat) (s : State) : (vfPowerState p v d s).pending = s.pending ∧ (vfPowerState p v d s).mbx = s.mbx := by
  simp [vfPowerState]
@[simp] theorem State.dropHostBound_kept (s : State) (p : Nat) :
    (State.dropHostBound s p).pending = s.pending ∧ (State.dropHostBound s p).mbx = s.mbx := by
  simp [State.dropHostBound]
@[simp] theorem State.endAwait_kept (s : State) (c : Nat) : (State.endAwait s c).pending = s.pending ∧ (State.endAwait s c).mbx = s.mbx := by
  unfold State.endAwait; (try dsimp only); (repeat' (first | (simp [*]; done) | (refine foldl_kept _ ?_ _ _ _ ?_ <;> intros <;> (try dsimp only)) | split | (apply And.intro)))
@[simp] theorem State.linkDown_kept (s : State) : (State.linkDown s).pending = s.pending ∧ (State.linkDown s).mbx = s.mbx := by
  simp [State.linkDown]
@[simp] theorem surpriseLinkDown_kept (s : State) : (surpriseLinkDown s).pending = s.pending ∧ (surpriseLinkDown s).mbx = s.mbx := by
  simp [surpriseLinkDown]
@[simp] theorem hostLinkUp_kept (s : State) : (hostLinkUp s).pending = s.pending ∧ (hostLinkUp s).mbx = s.mbx := by
  simp [hostLinkUp]
@[simp] theorem hstDirtyEnable_kept (ap : Aperture) (s : State) : (hstDirtyEnable ap s).pending = s.pending ∧ (hstDirtyEnable ap s).mbx = s.mbx := by
  simp [hstDirtyEnable]
@[simp] theorem dirtyEnableDone_kept (p : Nat) (s : State) : (dirtyEnableDone p s).pending = s.pending ∧ (dirtyEnableDone p s).mbx = s.mbx := by
  unfold dirtyEnableDone; (try dsimp only); (repeat' (first | (simp [*]; done) | (refine foldl_kept _ ?_ _ _ _ ?_ <;> intros <;> (try dsimp only)) | split | (apply And.intro)))
@[simp] theorem hstDirtyDisable_kept (ap : Aperture) (s : State) :
    (hstDirtyDisable ap s).pending = s.pending ∧ (hstDirtyDisable ap s).mbx = s.mbx := by
  simp [hstDirtyDisable]
@[simp] theorem State.writeBlob_kept (s : State) (p : Nat) (head : List Byte) :
    (State.writeBlob s p head).pending = s.pending ∧ (State.writeBlob s p head).mbx = s.mbx := by
  unfold State.writeBlob
  exact kept_trans (State.used_kept _) (State.hold_kept _ _ _ _ _)
@[simp] theorem State.migRefuse_kept (s : State) (p code : Nat) :
    (State.migRefuse s p code).pending = s.pending ∧ (State.migRefuse s p code).mbx = s.mbx := by
  simp [State.migRefuse]
theorem State.installMig_kept (s : State) (p : Nat) (ss offer accept : List Byte) {a_ : Nat} {t_ : State} (e_ : State.installMig s p ss offer accept = some (t_, a_)) : t_.pending = s.pending ∧ t_.mbx = s.mbx := by
  first | (unfold State.installMig at e_; (try dsimp only at e_); (repeat' (first | contradiction | (simp only [Option.map_eq_some_iff, Option.bind_eq_some_iff, Option.some.injEq, Prod.mk.injEq] at e_; simp_all; done) | (cases e_; simp; done) | split at e_)); done) | (simp only [State.installMig, Option.map_eq_some_iff, Prod.mk.injEq] at e_; obtain ⟨_, _, rfl, rfl⟩ := e_; simp; done) | (simp only [State.installMig, Option.map_eq_some_iff] at e_; obtain ⟨_, _, rfl⟩ := e_; simp; done) | (grind [State.installMig, State.putKey_kept])
@[simp] theorem State.readBlob_kept (s : State) (p : Nat) : (State.readBlob s p).pending = s.pending ∧ (State.readBlob s p).mbx = s.mbx := by
  simp [State.readBlob]
@[simp] theorem hstMigOffer_kept (ap : Aperture) (hostOk : Bool) (s : State) :
    (hstMigOffer ap hostOk s).pending = s.pending ∧ (hstMigOffer ap hostOk s).mbx = s.mbx := by
  simp [hstMigOffer]
@[simp] theorem hstMigAccept_kept (ap : Aperture) (offer : Option MigBlob) (s : State) :
    (hstMigAccept ap offer s).pending = s.pending ∧ (hstMigAccept ap offer s).mbx = s.mbx := by
  unfold hstMigAccept; (try dsimp only); (repeat' (first | (simp [*]; done) | (have e_1 := State.installMig_kept _ _ _ _ _ (by assumption); simp [*]; done) | (refine foldl_kept _ ?_ _ _ _ ?_ <;> intros <;> (try dsimp only)) | (refine kept_trans (State.hstCmd_kept _ _ _ ?_ ) ?_ <;> intros <;> (try dsimp only)) | split | (apply And.intro)))
@[simp] theorem hstMigFinish_kept (ap : Aperture) (accept : Option MigBlob) (s : State) :
    (hstMigFinish ap accept s).pending = s.pending ∧ (hstMigFinish ap accept s).mbx = s.mbx := by
  unfold hstMigFinish; (try dsimp only); (repeat' (first | (simp [*]; done) | (have e_1 := State.installMig_kept _ _ _ _ _ (by assumption); simp [*]; done) | (refine foldl_kept _ ?_ _ _ _ ?_ <;> intros <;> (try dsimp only)) | (refine kept_trans (State.hstCmd_kept _ _ _ ?_ ) ?_ <;> intros <;> (try dsimp only)) | split | (apply And.intro)))
@[simp] theorem migOfferExpire_kept (p : Nat) (s : State) : (migOfferExpire p s).pending = s.pending ∧ (migOfferExpire p s).mbx = s.mbx := by
  simp [migOfferExpire]
@[simp] theorem State.vltCmd_kept (s : State) (ap : Aperture) (slot : Nat) (lampOnly : Bool) (f : Nat → State → State) (h_f : ∀ y0 y1, (f y0 y1).pending = y1.pending ∧ (f y0 y1).mbx = y1.mbx) :
    (State.vltCmd s ap slot lampOnly f).pending = s.pending ∧ (State.vltCmd s ap slot lampOnly f).mbx = s.mbx := by
  unfold State.vltCmd; (try dsimp only); (repeat' (first | (simp [*]; done) | (refine foldl_kept _ ?_ _ _ _ ?_ <;> intros <;> (try dsimp only)) | (refine kept_trans (State.command_kept _ _ _ _ ?_ ) ?_ <;> intros <;> (try dsimp only)) | split | (apply And.intro)))
@[simp] theorem vltOrigin_kept (ap : Aperture) (slot : Nat) (hostOk : Bool) (s : State) :
    (vltOrigin ap slot hostOk s).pending = s.pending ∧ (vltOrigin ap slot hostOk s).mbx = s.mbx := by
  simp [vltOrigin]
@[simp] theorem vltRetire_kept (ap : Aperture) (slot : Nat) (s : State) :
    (vltRetire ap slot s).pending = s.pending ∧ (vltRetire ap slot s).mbx = s.mbx := by
  simp [vltRetire]
@[simp] theorem vltZeroise_kept (ap : Aperture) (slot : Nat) (s : State) :
    (vltZeroise ap slot s).pending = s.pending ∧ (vltZeroise ap slot s).mbx = s.mbx := by
  unfold vltZeroise; (try dsimp only); (repeat' (first | (simp [*]; done) | (refine foldl_kept _ ?_ _ _ _ ?_ <;> intros <;> (try dsimp only)) | (refine kept_trans (State.vltCmd_kept _ _ _ _ _ ?_ ) ?_ <;> intros <;> (try dsimp only)) | split | (apply And.intro)))
@[simp] theorem slotDead_kept (slot : Nat) (s : State) : (slotDead slot s).pending = s.pending ∧ (slotDead slot s).mbx = s.mbx := by
  simp [slotDead]
@[simp] theorem slotEmpty_kept (slot : Nat) (s : State) : (slotEmpty slot s).pending = s.pending ∧ (slotEmpty slot s).mbx = s.mbx := by
  unfold slotEmpty; (try dsimp only); (repeat' (first | (simp [*]; done) | (refine foldl_kept _ ?_ _ _ _ ?_ <;> intros <;> (try dsimp only)) | split | (apply And.intro)))
@[simp] theorem State.killAll_kept (s : State) : (State.killAll s).pending = s.pending ∧ (State.killAll s).mbx = s.mbx := by
  simp [State.killAll]
@[simp] theorem State.modVlt_kept (s : State) (f : VltSt → VltSt) : (State.modVlt s f).pending = s.pending ∧ (State.modVlt s f).mbx = s.mbx := by
  simp [State.modVlt]
@[simp] theorem State.vltIrq_kept (s : State) (bit : Nat) : (State.vltIrq s bit).pending = s.pending ∧ (State.vltIrq s bit).mbx = s.mbx := by
  simp [State.vltIrq]
@[simp] theorem drbgGenerate_kept (bits : Nat) (s : State) : (drbgGenerate bits s).pending = s.pending ∧ (drbgGenerate bits s).mbx = s.mbx := by
  simp [drbgGenerate]
@[simp] theorem drbgReseed_kept (s : State) : (drbgReseed s).pending = s.pending ∧ (drbgReseed s).mbx = s.mbx := by
  simp [drbgReseed]
@[simp] theorem entropyHealthFail_kept (s : State) : (entropyHealthFail s).pending = s.pending ∧ (entropyHealthFail s).mbx = s.mbx := by
  unfold entropyHealthFail; (try dsimp only); (repeat' (first | (simp [*]; done) | (refine foldl_kept _ ?_ _ _ _ ?_ <;> intros <;> (try dsimp only)) | split | (apply And.intro)))
@[simp] theorem entropyStartupPass_kept (s : State) : (entropyStartupPass s).pending = s.pending ∧ (entropyStartupPass s).mbx = s.mbx := by
  simp [entropyStartupPass]
@[simp] theorem checkJobSubmit_kept (prio perms : Nat) (s : State) :
    (checkJobSubmit prio perms s).pending = s.pending ∧ (checkJobSubmit prio perms s).mbx = s.mbx := by
  simp [checkJobSubmit]
@[simp] theorem checkPermutation_kept (agree : Bool) (s : State) :
    (checkPermutation agree s).pending = s.pending ∧ (checkPermutation agree s).mbx = s.mbx := by
  unfold checkPermutation; (try dsimp only); (repeat' (first | (simp [*]; done) | (refine foldl_kept _ ?_ _ _ _ ?_ <;> intros <;> (try dsimp only)) | split | (apply And.intro)))
@[simp] theorem State.setPk_kept (s : State) (u : PkUnit) (x : PkeUnit) :
    (State.setPk s u x).pending = s.pending ∧ (State.setPk s u x).mbx = s.mbx := by
  simp [State.setPk]
@[simp] theorem pkeRequest_kept (u : PkUnit) (prio : Nat) (s : State) :
    (pkeRequest u prio s).pending = s.pending ∧ (pkeRequest u prio s).mbx = s.mbx := by
  simp [pkeRequest]
@[simp] theorem pkeComplete_kept (u : PkUnit) (s : State) : (pkeComplete u s).pending = s.pending ∧ (pkeComplete u s).mbx = s.mbx := by
  simp [pkeComplete]
@[simp] theorem signWindowEnd_kept (ok verifyFail : Bool) (s : State) :
    (signWindowEnd ok verifyFail s).pending = s.pending ∧ (signWindowEnd ok verifyFail s).mbx = s.mbx := by
  simp [signWindowEnd]
@[simp] theorem stateEncodingError_kept (s : State) : (stateEncodingError s).pending = s.pending ∧ (stateEncodingError s).mbx = s.mbx := by
  simp [stateEncodingError]
@[simp] theorem tamperEvent_kept (s : State) : (tamperEvent s).pending = s.pending ∧ (tamperEvent s).mbx = s.mbx := by
  simp [tamperEvent]
@[simp] theorem lampSramUncorr_kept (retained : Bool) (s : State) :
    (lampSramUncorr retained s).pending = s.pending ∧ (lampSramUncorr retained s).mbx = s.mbx := by
  simp [lampSramUncorr]
@[simp] theorem State.lcsCmd_kept (s : State) (ap : Aperture) (f : Nat → State → State) (h_f : ∀ y0 y1, (f y0 y1).pending = y1.pending ∧ (f y0 y1).mbx = y1.mbx) :
    (State.lcsCmd s ap f).pending = s.pending ∧ (State.lcsCmd s ap f).mbx = s.mbx := by
  unfold State.lcsCmd; (try dsimp only); (repeat' (first | (simp [*]; done) | (refine foldl_kept _ ?_ _ _ _ ?_ <;> intros <;> (try dsimp only)) | (refine kept_trans (State.command_kept _ _ _ _ ?_ ) ?_ <;> intros <;> (try dsimp only)) | split | (apply And.intro)))
@[simp] theorem lcsTransition_kept (ap : Aperture) (req : Option Transition) (s : State) :
    (lcsTransition ap req s).pending = s.pending ∧ (lcsTransition ap req s).mbx = s.mbx := by
  unfold lcsTransition; (try dsimp only); (repeat' (first | (simp [*]; done) | (refine foldl_kept _ ?_ _ _ _ ?_ <;> intros <;> (try dsimp only)) | (refine kept_trans (State.lcsCmd_kept _ _ _ ?_ ) ?_ <;> intros <;> (try dsimp only)) | split | (apply And.intro)))
@[simp] theorem transitionProgrammed_kept (s : State) : (transitionProgrammed s).pending = s.pending ∧ (transitionProgrammed s).mbx = s.mbx := by
  unfold transitionProgrammed; (try dsimp only); (repeat' (first | (simp [*]; done) | (refine foldl_kept _ ?_ _ _ _ ?_ <;> intros <;> (try dsimp only)) | split | (apply And.intro)))
@[simp] theorem lcsScrap_kept (ap : Aperture) (s : State) : (lcsScrap ap s).pending = s.pending ∧ (lcsScrap ap s).mbx = s.mbx := by
  simp [lcsScrap]
@[simp] theorem State.exposure_kept (s : State) (c since : Nat) :
    (State.exposure s c since).pending = s.pending ∧ (State.exposure s c since).mbx = s.mbx := by
  simp [State.exposure]
@[simp] theorem State.laneIrq_kept (s : State) (c : Nat) : (State.laneIrq s c).pending = s.pending ∧ (State.laneIrq s c).mbx = s.mbx := by
  simp [State.laneIrq]
@[simp] theorem State.clusterOffline_kept (s : State) (c since : Nat) :
    (State.clusterOffline s c since).pending = s.pending ∧ (State.clusterOffline s c since).mbx = s.mbx := by
  simp [State.clusterOffline]
@[simp] theorem laneSample_kept (c : Nat) (r : Sample) (s : State) : (laneSample c r s).pending = s.pending ∧ (laneSample c r s).mbx = s.mbx := by
  simp [laneSample]
@[simp] theorem State.enterStep_kept (s : State) (n : Nat) : (State.enterStep s n).pending = s.pending ∧ (State.enterStep s n).mbx = s.mbx := by
  simp [State.enterStep]
@[simp] theorem State.stopIn_kept (s : State) (n : Nat) : (State.stopIn s n).pending = s.pending ∧ (State.stopIn s n).mbx = s.mbx := by
  simp [State.stopIn]
@[simp] theorem State.showRefusal_kept (s : State) (r : Refused) :
    (State.showRefusal s r).pending = s.pending ∧ (State.showRefusal s r).mbx = s.mbx := by
  simp [State.showRefusal]
@[simp] theorem State.lseIrq_kept (s : State) (bit : Nat) : (State.lseIrq s bit).pending = s.pending ∧ (State.lseIrq s bit).mbx = s.mbx := by
  simp [State.lseIrq]
@[simp] theorem State.enterHeld_kept (s : State) (step : Nat) (r : Refused) :
    (State.enterHeld s step r).pending = s.pending ∧ (State.enterHeld s step r).mbx = s.mbx := by
  simp [State.enterHeld]
@[simp] theorem State.assign_kept (s : State) (l : Lease) (shape : Nat) :
    (State.assign s l shape).pending = s.pending ∧ (State.assign s l shape).mbx = s.mbx := by
  simp [State.assign]
@[simp] theorem State.applyLease_kept (s : State) (l : Lease) : (State.applyLease s l).pending = s.pending ∧ (State.applyLease s l).mbx = s.mbx := by
  simp [State.applyLease]
@[simp] theorem State.digestOf_kept (s : State) (b : List Byte) : (State.digestOf s b).pending = s.pending ∧ (State.digestOf s b).mbx = s.mbx := by
  simp [State.digestOf]
@[simp] theorem State.lampStart_kept (s : State) : (State.lampStart s).pending = s.pending ∧ (State.lampStart s).mbx = s.mbx := by
  simp [State.lampStart]
@[simp] theorem State.zeroUsers_kept (s : State) (q : Nat) : (State.zeroUsers s q).pending = s.pending ∧ (State.zeroUsers s q).mbx = s.mbx := by
  simp [State.zeroUsers]
@[simp] theorem State.initSlices_kept (s : State) (l : List Nat) :
    (State.initSlices s l).pending = s.pending ∧ (State.initSlices s l).mbx = s.mbx := by
  simp [State.initSlices]
@[simp] theorem State.gate_kept (s : State) (q : Nat) : (State.gate s q).pending = s.pending ∧ (State.gate s q).mbx = s.mbx := by
  simp [State.gate]
@[simp] theorem State.enterRun_kept (s : State) : (State.enterRun s).pending = s.pending ∧ (State.enterRun s).mbx = s.mbx := by
  simp [State.enterRun]
@[simp] theorem State.enterStep13_kept (s : State) : (State.enterStep13 s).pending = s.pending ∧ (State.enterStep13 s).mbx = s.mbx := by
  simp [State.enterStep13]
@[simp] theorem State.startAdvance_kept (s : State) : (State.startAdvance s).pending = s.pending ∧ (State.startAdvance s).mbx = s.mbx := by
  simp [State.startAdvance]
@[simp] theorem State.fuseSecret_kept (s : State) : (State.fuseSecret s).pending = s.pending ∧ (State.fuseSecret s).mbx = s.mbx := by
  simp [State.fuseSecret]
@[simp] theorem State.identityKeys_kept (s : State) : (State.identityKeys s).pending = s.pending ∧ (State.identityKeys s).mbx = s.mbx := by
  simp [State.identityKeys]
@[simp] theorem State.admitStart_kept (s : State) (b : List Byte) (sigOk : Bool) :
    (State.admitStart s b sigOk).1.pending = s.pending ∧ (State.admitStart s b sigOk).1.mbx = s.mbx := by
  unfold State.admitStart
  split
  · dsimp only; split <;> simp
  · extract_lets t1 t2 t3 t4
    have e1 : t1.pending = s.pending ∧ t1.mbx = s.mbx := by simp only [t1]; simp
    have e2 : t2.pending = s.pending ∧ t2.mbx = s.mbx := by simp only [t2]; simp [e1]
    have e3 : t4.pending = s.pending ∧ t4.mbx = s.mbx := e2
    clear_value t4
    simp [e3]
@[simp] theorem State.readStart_kept (s : State) (nor : Option (List Byte)) (sigOk : Bool) :
    (State.readStart s nor sigOk).1.pending = s.pending ∧ (State.readStart s nor sigOk).1.mbx = s.mbx := by
  unfold State.readStart; (try dsimp only); (repeat' (first | (simp [*]; done) | (refine foldl_kept _ ?_ _ _ _ ?_ <;> intros <;> (try dsimp only)) | split | (apply And.intro)))
@[simp] theorem State.bistRepair_kept (s : State) (q : Nat) : (State.bistRepair s q).pending = s.pending ∧ (State.bistRepair s q).mbx = s.mbx := by
  simp [State.bistRepair]
@[simp] theorem State.failQuad_kept (s : State) (q : Nat) : (State.failQuad s q).pending = s.pending ∧ (State.failQuad s q).mbx = s.mbx := by
  simp [State.failQuad]
@[simp] theorem State.coldTests_kept (s : State) (i : StartInputs) :
    (State.coldTests s i).pending = s.pending ∧ (State.coldTests s i).mbx = s.mbx := by
  simp [State.coldTests]
@[simp] theorem porRelease_kept (i : StartInputs) (s : State) : (porRelease i s).pending = s.pending ∧ (porRelease i s).mbx = s.mbx := by
  simp [porRelease]
@[simp] theorem porAssert_kept (s : State) : (porAssert s).pending = s.pending := by
  simp [porAssert]
@[simp] theorem memTrained_kept (s : State) : (memTrained s).pending = s.pending ∧ (memTrained s).mbx = s.mbx := by
  simp [memTrained]
@[simp] theorem hubTrainingTimeout_kept (s : State) : (hubTrainingTimeout s).pending = s.pending ∧ (hubTrainingTimeout s).mbx = s.mbx := by
  simp [hubTrainingTimeout]
@[simp] theorem step13Timeout_kept (s : State) : (step13Timeout s).pending = s.pending ∧ (step13Timeout s).mbx = s.mbx := by
  simp [step13Timeout]
@[simp] theorem State.lseCmd_kept (s : State) (ap : Aperture) (f : Nat → State → State) (h_f : ∀ y0 y1, (f y0 y1).pending = y1.pending ∧ (f y0 y1).mbx = y1.mbx) :
    (State.lseCmd s ap f).pending = s.pending ∧ (State.lseCmd s ap f).mbx = s.mbx := by
  unfold State.lseCmd; (try dsimp only); (repeat' (first | (simp [*]; done) | (refine foldl_kept _ ?_ _ _ _ ?_ <;> intros <;> (try dsimp only)) | (refine kept_trans (State.command_kept _ _ _ _ ?_ ) ?_ <;> intros <;> (try dsimp only)) | split | (apply And.intro)))
@[simp] theorem State.modObs_kept (s : State) (f : ObsSt → ObsSt) : (State.modObs s f).pending = s.pending ∧ (State.modObs s f).mbx = s.mbx := by
  simp [State.modObs]
@[simp] theorem State.obsIrq_kept (s : State) (bit : Nat) : (State.obsIrq s bit).pending = s.pending ∧ (State.obsIrq s bit).mbx = s.mbx := by
  simp [State.obsIrq]
@[simp] theorem State.obsMiss_kept (s : State) : (State.obsMiss s).pending = s.pending ∧ (State.obsMiss s).mbx = s.mbx := by
  simp [State.obsMiss]
@[simp] theorem State.capture_kept (s : State) (source id origin : Nat) (late : Bool) :
    (State.capture s source id origin late).pending = s.pending ∧ (State.capture s source id origin late).mbx = s.mbx := by
  simp [State.capture]
@[simp] theorem State.freezeId_kept (s : State) : (State.freezeId s).2.pending = s.pending ∧ (State.freezeId s).2.mbx = s.mbx := by
  simp [State.freezeId]
@[simp] theorem State.captureLocal_kept (s : State) (source : Nat) :
    (State.captureLocal s source).pending = s.pending ∧ (State.captureLocal s source).mbx = s.mbx := by
  simp [State.captureLocal]
@[simp] theorem State.armFreeze_kept (s : State) (source : Nat) (t : Dword) (id origin : Nat) :
    (State.armFreeze s source t id origin).pending = s.pending ∧ (State.armFreeze s source t id origin).mbx = s.mbx := by
  simp [State.armFreeze]
@[simp] theorem State.obsCmd_kept (s : State) (ap : Aperture) (f : Nat → State → State) (h_f : ∀ y0 y1, (f y0 y1).pending = y1.pending ∧ (f y0 y1).mbx = y1.mbx) :
    (State.obsCmd s ap f).pending = s.pending ∧ (State.obsCmd s ap f).mbx = s.mbx := by
  unfold State.obsCmd; (try dsimp only); (repeat' (first | (simp [*]; done) | (refine foldl_kept _ ?_ _ _ _ ?_ <;> intros <;> (try dsimp only)) | (refine kept_trans (State.command_kept _ _ _ _ ?_ ) ?_ <;> intros <;> (try dsimp only)) | split | (apply And.intro)))
@[simp] theorem obsFreeze_kept (ap : Aperture) (s : State) : (obsFreeze ap s).pending = s.pending ∧ (obsFreeze ap s).mbx = s.mbx := by
  simp [obsFreeze]
@[simp] theorem State.noteFreeze_kept (s : State) (id origin : Nat) :
    (State.noteFreeze s id origin).pending = s.pending ∧ (State.noteFreeze s id origin).mbx = s.mbx := by
  simp [State.noteFreeze]
@[simp] theorem obsFreezeAt_kept (ap : Aperture) (bcast : Bool) (s : State) :
    (obsFreezeAt ap bcast s).pending = s.pending ∧ (obsFreezeAt ap bcast s).mbx = s.mbx := by
  simp [obsFreezeAt]
@[simp] theorem State.release_kept (s : State) : (State.release s).pending = s.pending ∧ (State.release s).mbx = s.mbx := by
  simp [State.release]
@[simp] theorem obsRelease_kept (ap : Aperture) (s : State) : (obsRelease ap s).pending = s.pending ∧ (obsRelease ap s).mbx = s.mbx := by
  simp [obsRelease]
@[simp] theorem freezePacketReceive_kept (p : Nat) (s : State) :
    (freezePacketReceive p s).pending = s.pending ∧ (freezePacketReceive p s).mbx = s.mbx := by
  unfold freezePacketReceive; (try dsimp only); (repeat' (first | (simp [*]; done) | (have e_1 := State.takeMsg_kept _ _ _ (by assumption); simp [*]; done) | (refine foldl_kept _ ?_ _ _ _ ?_ <;> intros <;> (try dsimp only)) | split | (apply And.intro)))
@[simp] theorem freezeTimeReached_kept (s : State) : (freezeTimeReached s).pending = s.pending ∧ (freezeTimeReached s).mbx = s.mbx := by
  unfold freezeTimeReached; (try dsimp only); (repeat' (first | (simp [*]; done) | (refine foldl_kept _ ?_ _ _ _ ?_ <;> intros <;> (try dsimp only)) | split | (apply And.intro)))
@[simp] theorem snapshotDrained_kept (s : State) : (snapshotDrained s).pending = s.pending ∧ (snapshotDrained s).mbx = s.mbx := by
  simp [snapshotDrained]
@[simp] theorem obsPeek_kept (ap : Aperture) (s : State) : (obsPeek ap s).pending = s.pending ∧ (obsPeek ap s).mbx = s.mbx := by
  unfold obsPeek; (try dsimp only); (repeat' (first | (simp [*]; done) | (refine foldl_kept _ ?_ _ _ _ ?_ <;> intros <;> (try dsimp only)) | (refine kept_trans (State.command_kept _ _ _ _ ?_ ) ?_ <;> intros <;> (try dsimp only)) | split | (apply And.intro)))
@[simp] theorem peekReturn_kept (ap : Aperture) (l : HubLine) (s : State) :
    (peekReturn ap l s).pending = s.pending ∧ (peekReturn ap l s).mbx = s.mbx := by
  unfold peekReturn; (try dsimp only); (repeat' (first | (simp [*]; done) | (refine foldl_kept _ ?_ _ _ _ ?_ <;> intros <;> (try dsimp only)) | split | (apply And.intro)))
@[simp] theorem peekTimeout_kept (ap : Aperture) (s : State) : (peekTimeout ap s).pending = s.pending ∧ (peekTimeout ap s).mbx = s.mbx := by
  simp [peekTimeout]
@[simp] theorem State.setOrder_kept (s : State) (k : Nat) (o : Order) :
    (State.setOrder s k o).pending = s.pending ∧ (State.setOrder s k o).mbx = s.mbx := by
  simp [State.setOrder]
@[simp] theorem State.lateOrder_kept (s : State) : (State.lateOrder s).pending = s.pending ∧ (State.lateOrder s).mbx = s.mbx := by
  simp [State.lateOrder]
@[simp] theorem State.prepareFlow_kept (s : State) (p : Nat) : (State.prepareFlow s p).pending = s.pending ∧ (State.prepareFlow s p).mbx = s.mbx := by
  simp [State.prepareFlow]
@[simp] theorem State.rotateFlow_kept (s : State) (p : Nat) (at_ : Dword) :
    (State.rotateFlow s p at_).pending = s.pending ∧ (State.rotateFlow s p at_).mbx = s.mbx := by
  unfold State.rotateFlow; (try dsimp only); (repeat' (first | (simp [*]; done) | (refine foldl_kept _ ?_ _ _ _ ?_ <;> intros <;> (try dsimp only)) | split | (apply And.intro)))
@[simp] theorem rotateFlowPrepare_kept (k : Nat) (s : State) : (rotateFlowPrepare k s).pending = s.pending ∧ (rotateFlowPrepare k s).mbx = s.mbx := by
  simp [rotateFlowPrepare]
@[simp] theorem State.orderAct_kept (s : State) (k : Nat) (o : Order) :
    (State.orderAct s k o).pending = s.pending ∧ (State.orderAct s k o).mbx = s.mbx := by
  unfold State.orderAct; (try dsimp only); (repeat' (first | (simp [*]; done) | (refine foldl_kept _ ?_ _ _ _ ?_ <;> intros <;> (try dsimp only)) | split | (apply And.intro)))
@[simp] theorem shiftOrderDue_kept (k : Nat) (s : State) : (shiftOrderDue k s).pending = s.pending ∧ (shiftOrderDue k s).mbx = s.mbx := by
  simp [shiftOrderDue]
@[simp] theorem State.ordersSettle_kept (s : State) : (State.ordersSettle s).pending = s.pending ∧ (State.ordersSettle s).mbx = s.mbx := by
  simp [State.ordersSettle]
theorem orderWrite_kept (s : State) (k : Nat) (w : Block) {t_ : State} (e_ : orderWrite s k w = some t_) : t_.pending = s.pending ∧ t_.mbx = s.mbx := by
  first | (unfold orderWrite at e_; (try dsimp only at e_); (repeat' (first | contradiction | (simp only [Option.map_eq_some_iff, Option.bind_eq_some_iff, Option.some.injEq, Prod.mk.injEq] at e_; simp_all; done) | (cases e_; simp; done) | split at e_)); done) | (simp only [orderWrite, Option.map_eq_some_iff, Prod.mk.injEq] at e_; obtain ⟨_, _, rfl, rfl⟩ := e_; simp; done) | (simp only [orderWrite, Option.map_eq_some_iff] at e_; obtain ⟨_, _, rfl⟩ := e_; simp; done) | (grind [orderWrite, State.setOrder_kept])
@[simp] theorem orderWrite_getD (s : State) (k : Nat) (w : Block) (u_ : State) (h_ : u_.pending = s.pending ∧ u_.mbx = s.mbx) :
    ((orderWrite s k w).getD u_).pending = s.pending ∧ ((orderWrite s k w).getD u_).mbx = s.mbx := by
  cases e_ : orderWrite s k w with
  | none => exact h_
  | some t_ => exact orderWrite_kept _ _ _ e_
@[simp] theorem State.transferSeam_kept (s : State) (n p : Nat) :
    (State.transferSeam s n p).pending = s.pending ∧ (State.transferSeam s n p).mbx = s.mbx := by
  simp [State.transferSeam]
@[simp] theorem State.moveSeams_kept (s : State) (k p : Nat) (xfer : Bool) :
    (State.moveSeams s k p xfer).pending = s.pending ∧ (State.moveSeams s k p xfer).mbx = s.mbx := by
  simp [State.moveSeams]
@[simp] theorem State.unbindChan_kept (s : State) (c : Nat) : (State.unbindChan s c).pending = s.pending ∧ (State.unbindChan s c).mbx = s.mbx := by
  simp [State.unbindChan]
@[simp] theorem State.moveGo_kept (s : State) (m : MoveReq) : (State.moveGo s m).pending = s.pending ∧ (State.moveGo s m).mbx = s.mbx := by
  unfold State.moveGo; (try dsimp only); (repeat' (first | (simp [*]; done) | (refine foldl_kept _ ?_ _ _ _ ?_ <;> intros <;> (try dsimp only)) | split | (apply And.intro)))
@[simp] theorem State.repower_kept (s : State) (q : Nat) : (State.repower s q).pending = s.pending ∧ (State.repower s q).mbx = s.mbx := by
  simp [State.repower]
@[simp] theorem State.moveEnd_kept (s : State) (m : MoveReq) : (State.moveEnd s m).pending = s.pending ∧ (State.moveEnd s m).mbx = s.mbx := by
  simp [State.moveEnd]
@[simp] theorem lseMove_kept (ap : Aperture) (s : State) : (lseMove ap s).pending = s.pending ∧ (lseMove ap s).mbx = s.mbx := by
  unfold lseMove; (try dsimp only); (repeat' (first | (simp [*]; done) | (refine foldl_kept _ ?_ _ _ _ ?_ <;> intros <;> (try dsimp only)) | (refine kept_trans (State.lseCmd_kept _ _ _ ?_ ) ?_ <;> intros <;> (try dsimp only)) | split | (apply And.intro)))
@[simp] theorem qpwrOkRise_kept (q : Nat) (s : State) : (qpwrOkRise q s).pending = s.pending ∧ (qpwrOkRise q s).mbx = s.mbx := by
  unfold qpwrOkRise; (try dsimp only); (repeat' (first | (simp [*]; done) | (refine foldl_kept _ ?_ _ _ _ ?_ <;> intros <;> (try dsimp only)) | split | (apply And.intro)))
@[simp] theorem State.quadFault_kept (s : State) (q : Nat) : (State.quadFault s q).pending = s.pending ∧ (State.quadFault s q).mbx = s.mbx := by
  simp [State.quadFault]
@[simp] theorem qpwrOkFall_kept (q : Nat) (s : State) : (qpwrOkFall q s).pending = s.pending ∧ (qpwrOkFall q s).mbx = s.mbx := by
  simp [qpwrOkFall]
@[simp] theorem State.resetChan_kept (s : State) (c : Nat) : (State.resetChan s c).pending = s.pending ∧ (State.resetChan s c).mbx = s.mbx := by
  simp [State.resetChan]
@[simp] theorem State.resetUnit_kept (s : State) (u : UnitRef) : (s.resetUnit u).pending = s.pending ∧ (s.resetUnit u).mbx = s.mbx := by
  cases u <;> simp only [State.resetUnit] <;> (try split) <;> simp
@[simp] theorem State.countEngStep_kept (s : State) (u : UnitRef) :
    (State.countEngStep s u).1.pending = s.pending ∧ (State.countEngStep s u).1.mbx = s.mbx := by
  simp [State.countEngStep]
@[simp] theorem State.stepCmdEnd_kept (s : State) (byCmd : Option Nat) (unit : Nat) :
    (State.stepCmdEnd s byCmd unit).pending = s.pending ∧ (State.stepCmdEnd s byCmd unit).mbx = s.mbx := by
  unfold State.stepCmdEnd; (try dsimp only); (repeat' (first | (simp [*]; done) | (refine foldl_kept _ ?_ _ _ _ ?_ <;> intros <;> (try dsimp only)) | split | (apply And.intro)))
@[simp] theorem State.escalate_kept (s : State) (u : UnitRef) (p : Nat) (byCmd : Option Nat) :
    (State.escalate s u p byCmd).pending = s.pending ∧ (State.escalate s u p byCmd).mbx = s.mbx := by
  simp [State.escalate]
@[simp] theorem State.engineStep_kept (s : State) (u : UnitRef) (byCmd : Option Nat) :
    (State.engineStep s u byCmd).pending = s.pending ∧ (State.engineStep s u byCmd).mbx = s.mbx := by
  simp [State.engineStep]
@[simp] theorem State.endEngStep_kept (s : State) (u : UnitRef) :
    (State.endEngStep s u).pending = s.pending ∧ (State.endEngStep s u).mbx = s.mbx := by
  simp [State.endEngStep]
@[simp] theorem waitCanaryExpire_kept (h : WaitHead) (s : State) :
    (waitCanaryExpire h s).pending = s.pending ∧ (waitCanaryExpire h s).mbx = s.mbx := by
  unfold waitCanaryExpire
  cases h with
  | channel c => dsimp only; (repeat' split) <;> simp
  | front q => dsimp only; (repeat' split) <;> simp
  | task t => dsimp only; cases (s.task t).req <;> (repeat' split) <;> simp
@[simp] theorem busyCanaryExpire_kept (u : UnitRef) (s : State) :
    (busyCanaryExpire u s).pending = s.pending ∧ (busyCanaryExpire u s).mbx = s.mbx := by
  simp [busyCanaryExpire]
@[simp] theorem State.dropGuilty_kept (s : State) (u : UnitRef) (p : Nat) (c : BitVec 16) :
    (State.dropGuilty s u p c).pending = s.pending ∧ (State.dropGuilty s u p c).mbx = s.mbx := by
  unfold State.dropGuilty; (try dsimp only); (repeat' (first | (simp [*]; done) | (refine foldl_kept _ ?_ _ _ _ ?_ <;> intros <;> (try dsimp only)) | split | (apply And.intro)))
@[simp] theorem State.replayOver_kept (s : State) (u : UnitRef) :
    (State.replayOver s u).pending = s.pending ∧ (State.replayOver s u).mbx = s.mbx := by
  simp [State.replayOver]
@[simp] theorem State.settleReplays_kept (s : State) : (State.settleReplays s).pending = s.pending ∧ (State.settleReplays s).mbx = s.mbx := by
  unfold State.settleReplays; (try dsimp only); (repeat' (first | (simp [*]; done) | (refine foldl_kept _ ?_ _ _ _ ?_ <;> intros <;> (try dsimp only)) | split | (apply And.intro)))
@[simp] theorem replayCanaryExpire_kept (u : UnitRef) (s : State) :
    (replayCanaryExpire u s).pending = s.pending ∧ (replayCanaryExpire u s).mbx = s.mbx := by
  unfold replayCanaryExpire; (try dsimp only); (repeat' (first | (simp [*]; done) | (refine foldl_kept _ ?_ _ _ _ ?_ <;> intros <;> (try dsimp only)) | split | (apply And.intro)))
@[simp] theorem State.resumeUnit_kept (s : State) (u : UnitRef) :
    (State.resumeUnit s u).pending = s.pending ∧ (State.resumeUnit s u).mbx = s.mbx := by
  unfold State.resumeUnit; (try dsimp only); (repeat' (first | (simp [*]; done) | (refine foldl_kept _ ?_ _ _ _ ?_ <;> intros <;> (try dsimp only)) | split | (apply And.intro)))
@[simp] theorem engineStepDone_kept (u : UnitRef) (s : State) : (engineStepDone u s).pending = s.pending ∧ (engineStepDone u s).mbx = s.mbx := by
  unfold engineStepDone; (try dsimp only); (repeat' (first | (simp [*]; done) | (refine foldl_kept _ ?_ _ _ _ ?_ <;> intros <;> (try dsimp only)) | split | (apply And.intro)))
@[simp] theorem engineStepOverrun_kept (u : UnitRef) (s : State) :
    (engineStepOverrun u s).pending = s.pending ∧ (engineStepOverrun u s).mbx = s.mbx := by
  unfold engineStepOverrun; (try dsimp only); (repeat' (first | (simp [*]; done) | (refine foldl_kept _ ?_ _ _ _ ?_ <;> intros <;> (try dsimp only)) | split | (apply And.intro)))
@[simp] theorem State.recoverSites_kept (s : State) (p : Nat) :
    (State.recoverSites s p).pending = s.pending ∧ (State.recoverSites s p).mbx = s.mbx := by
  simp [State.recoverSites]
@[simp] theorem partitionStepDone_kept (p : Nat) (s : State) : (partitionStepDone p s).pending = s.pending ∧ (partitionStepDone p s).mbx = s.mbx := by
  unfold partitionStepDone; (try dsimp only); (repeat' (first | (simp [*]; done) | (refine foldl_kept _ ?_ _ _ _ ?_ <;> intros <;> (try dsimp only)) | split | (apply And.intro)))
@[simp] theorem partitionStepOverrun_kept (p : Nat) (s : State) :
    (partitionStepOverrun p s).pending = s.pending ∧ (partitionStepOverrun p s).mbx = s.mbx := by
  simp [partitionStepOverrun]
@[simp] theorem chipStepOverrun_kept (s : State) : (chipStepOverrun s).pending = s.pending ∧ (chipStepOverrun s).mbx = s.mbx := by
  simp [chipStepOverrun]
@[simp] theorem lampWatchdogExpire_kept (s : State) : (lampWatchdogExpire s).pending = s.pending ∧ (lampWatchdogExpire s).mbx = s.mbx := by
  simp [lampWatchdogExpire]
@[simp] theorem fltKick_kept (ap : Aperture) (s : State) : (fltKick ap s).pending = s.pending ∧ (fltKick ap s).mbx = s.mbx := by
  unfold fltKick; (try dsimp only); (repeat' (first | (simp [*]; done) | (refine foldl_kept _ ?_ _ _ _ ?_ <;> intros <;> (try dsimp only)) | split | (apply And.intro)))
@[simp] theorem State.fltCmd_kept (s : State) (ap : Aperture) (f : Nat → State → State) (h_f : ∀ y0 y1, (f y0 y1).pending = y1.pending ∧ (f y0 y1).mbx = y1.mbx) :
    (State.fltCmd s ap f).pending = s.pending ∧ (State.fltCmd s ap f).mbx = s.mbx := by
  unfold State.fltCmd; (try dsimp only); (repeat' (first | (simp [*]; done) | (refine foldl_kept _ ?_ _ _ _ ?_ <;> intros <;> (try dsimp only)) | (refine kept_trans (State.command_kept _ _ _ _ ?_ ) ?_ <;> intros <;> (try dsimp only)) | split | (apply And.intro)))
@[simp] theorem fltEngine_kept (ap : Aperture) (u : UnitRef) (s : State) :
    (fltEngine ap u s).pending = s.pending ∧ (fltEngine ap u s).mbx = s.mbx := by
  simp [fltEngine]
@[simp] theorem fltPartition_kept (ap : Aperture) (p : Nat) (s : State) :
    (fltPartition ap p s).pending = s.pending ∧ (fltPartition ap p s).mbx = s.mbx := by
  simp [fltPartition]
@[simp] theorem fltChip_kept (ap : Aperture) (s : State) : (fltChip ap s).pending = s.pending ∧ (fltChip ap s).mbx = s.mbx := by
  simp [fltChip]
@[simp] theorem fltTray_kept (ap : Aperture) (s : State) : (fltTray ap s).pending = s.pending ∧ (fltTray ap s).mbx = s.mbx := by
  simp [fltTray]
@[simp] theorem chipResetAssert_kept (s : State) : (chipResetAssert s).pending = s.pending ∧ (chipResetAssert s).mbx = s.mbx := by
  simp [chipResetAssert]
@[simp] theorem rstReadyAssert_kept (s : State) : (rstReadyAssert s).pending = s.pending ∧ (rstReadyAssert s).mbx = s.mbx := by
  simp [rstReadyAssert]
@[simp] theorem State.warmContexts_kept (s : State) : (State.warmContexts s).pending = s.pending ∧ (State.warmContexts s).mbx = s.mbx := by
  simp [State.warmContexts]
@[simp] theorem State.warmInsts_kept (s : State) : (State.warmInsts s).pending = s.pending ∧ (State.warmInsts s).mbx = s.mbx := by
  simp [State.warmInsts]
@[simp] theorem State.warmRequests_kept (s : State) : (State.warmRequests s).pending = s.pending ∧ (State.warmRequests s).mbx = s.mbx := by
  simp [State.warmRequests]
@[simp] theorem State.warmShafts_kept (s : State) : (State.warmShafts s).pending = s.pending ∧ (State.warmShafts s).mbx = s.mbx := by
  simp [State.warmShafts]
@[simp] theorem State.warmSites_kept (s : State) : (State.warmSites s).pending = s.pending ∧ (State.warmSites s).mbx = s.mbx := by
  simp [State.warmSites]
@[simp] theorem State.warmReset_kept (s : State) : (State.warmReset s).pending = s.pending ∧ (State.warmReset s).mbx = s.mbx := by
  simp [State.warmReset]
@[simp] theorem State.spareRow_kept (s : State) (q w : Nat) : (State.spareRow s q w).pending = s.pending ∧ (State.spareRow s q w).mbx = s.mbx := by
  simp [State.spareRow]
@[simp] theorem State.softRepair_kept (s : State) : (State.softRepair s).pending = s.pending ∧ (State.softRepair s).mbx = s.mbx := by
  simp [State.softRepair]
@[simp] theorem State.renewSlice_kept (s : State) (q : Nat) : (State.renewSlice s q).pending = s.pending ∧ (State.renewSlice s q).mbx = s.mbx := by
  simp [State.renewSlice]
@[simp] theorem State.warmNor_kept (s : State) (nor : Option (List Byte)) (sigOk : Bool) :
    (State.warmNor s nor sigOk).1.pending = s.pending ∧ (State.warmNor s nor sigOk).1.mbx = s.mbx := by
  unfold State.warmNor
  cases nor with
  | none => exact ⟨rfl, rfl⟩
  | some b =>
    simp only []
    split
    · (repeat' split) <;> exact ⟨rfl, rfl⟩
    · split <;> exact ⟨rfl, rfl⟩
@[simp] theorem State.warmStep8_kept (s : State) (i : WarmInputs) :
    (State.warmStep8 s i).1.pending = s.pending ∧ (State.warmStep8 s i).1.mbx = s.mbx := by
  unfold State.warmStep8; (try dsimp only); (repeat' (first | (simp [*]; done) | (refine foldl_kept _ ?_ _ _ _ ?_ <;> intros <;> (try dsimp only)) | split | (apply And.intro)))
@[simp] theorem State.warmFinish_kept (s : State) (step11Ok : Bool) :
    (State.warmFinish s step11Ok).pending = s.pending ∧ (State.warmFinish s step11Ok).mbx = s.mbx := by
  unfold State.warmFinish; (try dsimp only); (repeat' (first | (simp [*]; done) | (refine foldl_kept _ ?_ _ _ _ ?_ <;> intros <;> (try dsimp only)) | split | (apply And.intro)))
@[simp] theorem State.warmTests_kept (s : State) (i : WarmInputs) :
    (State.warmTests s i).pending = s.pending ∧ (State.warmTests s i).mbx = s.mbx := by
  unfold State.warmTests; (try dsimp only); (repeat' (first | (simp [*]; done) | (refine foldl_kept _ ?_ _ _ _ ?_ <;> intros <;> (try dsimp only)) | split | (apply And.intro)))
@[simp] theorem chipResetRelease_kept (i : WarmInputs) (s : State) :
    (chipResetRelease i s).pending = s.pending ∧ (chipResetRelease i s).mbx = s.mbx := by
  simp [chipResetRelease]
@[simp] theorem State.reloadWarm_kept (s : State) (nor : Option (List Byte)) (sigOk : Bool) :
    (State.reloadWarm s nor sigOk).1.pending = s.pending ∧ (State.reloadWarm s nor sigOk).1.mbx = s.mbx := by
  unfold State.reloadWarm; (try dsimp only); (repeat' (first | (simp [*]; done) | (refine foldl_kept _ ?_ _ _ _ ?_ <;> intros <;> (try dsimp only)) | split | (apply And.intro)))
@[simp] theorem lseReload_kept (ap : Aperture) (nor : Option (List Byte)) (sigOk : Bool) (_signer : BitVec 384) (s : State) :
    (lseReload ap nor sigOk _signer s).pending = s.pending ∧ (lseReload ap nor sigOk _signer s).mbx = s.mbx := by
  unfold lseReload; (try dsimp only); (repeat' (first | (simp [*]; done) | (refine foldl_kept _ ?_ _ _ _ ?_ <;> intros <;> (try dsimp only)) | (refine kept_trans (State.lseCmd_kept _ _ _ ?_ ) ?_ <;> intros <;> (try dsimp only)) | split | (apply And.intro)))
@[simp] theorem clockMonitorFault_kept (long : Bool) (s : State) :
    (clockMonitorFault long s).pending = s.pending ∧ (clockMonitorFault long s).mbx = s.mbx := by
  simp [clockMonitorFault]
@[simp] theorem clockRestored_kept (s : State) : (clockRestored s).pending = s.pending ∧ (clockRestored s).mbx = s.mbx := by
  simp [clockRestored]
@[simp] theorem State.dropEngSteps_kept (s : State) (p : Nat) :
    (State.dropEngSteps s p).pending = s.pending ∧ (State.dropEngSteps s p).mbx = s.mbx := by
  simp [State.dropEngSteps]
@[simp] theorem State.resetPart_kept (s : State) (p : Nat) : (State.resetPart s p).pending = s.pending ∧ (State.resetPart s p).mbx = s.mbx := by
  simp [State.resetPart]
@[simp] theorem State.settleParts_kept (s : State) : (State.settleParts s).pending = s.pending ∧ (State.settleParts s).mbx = s.mbx := by
  simp [State.settleParts]
@[simp] theorem State.settleBar2_kept (s : State) : (State.settleBar2 s).pending = s.pending ∧ (State.settleBar2 s).mbx = s.mbx := by
  unfold State.settleBar2; (try dsimp only); (repeat' (first | (simp [*]; done) | (refine foldl_kept _ ?_ _ _ _ ?_ <;> intros <;> (try dsimp only)) | split | (apply And.intro)))
@[simp] theorem State.settleTags_kept (s : State) : (State.settleTags s).pending = s.pending ∧ (State.settleTags s).mbx = s.mbx := by
  simp [State.settleTags]
@[simp] theorem State.settleHost_kept (s : State) : (State.settleHost s).pending = s.pending ∧ (State.settleHost s).mbx = s.mbx := by
  simp [State.settleHost]
@[simp] theorem State.settleLines_kept (s : State) : (State.settleLines s).pending = s.pending ∧ (State.settleLines s).mbx = s.mbx := by
  unfold State.settleLines; (try dsimp only); (repeat' (first | (simp [*]; done) | (refine foldl_kept _ ?_ _ _ _ ?_ <;> intros <;> (try dsimp only)) | split | (apply And.intro)))
@[simp] theorem State.settleFlits_kept (s : State) : (State.settleFlits s).pending = s.pending ∧ (State.settleFlits s).mbx = s.mbx := by
  simp [State.settleFlits]
@[simp] theorem State.settleFreed_kept (s : State) : (State.settleFreed s).pending = s.pending ∧ (State.settleFreed s).mbx = s.mbx := by
  simp [State.settleFreed]
@[simp] theorem State.settle_kept (s : State) : (State.settle s).pending = s.pending ∧ (State.settle s).mbx = s.mbx := by
  simp [State.settle]
@[simp] theorem State.modMbx_kept (s : State) (a : Nat) (f : Mbx → Mbx) : (State.modMbx s a f).pending = s.pending := by
  simp [State.modMbx]
@[simp] theorem State.mbxSelect_kept (s : State) (ap : Aperture) (sel : Word) : (State.mbxSelect s ap sel).pending = s.pending := by
  simp [State.mbxSelect]
@[simp] theorem mbxSelRead_kept (ap : Aperture) (cls : BitVec 7) (idx : BitVec 24) (s : State) : (mbxSelRead ap cls idx s).pending = s.pending := by
  simp [mbxSelRead]
@[simp] theorem mbxSelWrite_kept (ap : Aperture) (cls : BitVec 7) (idx : BitVec 24) (s : State) : (mbxSelWrite ap cls idx s).pending = s.pending := by
  simp [mbxSelWrite]
@[simp] theorem State.captureRead_kept (s : State) (ap : Aperture) (ecc : Ecc) :
    (State.captureRead s ap ecc).pending = s.pending ∧ (State.captureRead s ap ecc).mbx = s.mbx := by
  simp [State.captureRead]
@[simp] theorem mbxCaptureDone_kept (ap : Aperture) (ecc : Ecc) (s : State) : (mbxCaptureDone ap ecc s).pending = s.pending := by
  simp [mbxCaptureDone]
theorem State.writeObject_kept (s : State) (ap : Aperture) (c i : Nat) (v : BitVec 256) {t_ : State} (e_ : State.writeObject s ap c i v = some t_) : t_.pending = s.pending ∧ t_.mbx = s.mbx := by
  first | (unfold State.writeObject at e_; (try dsimp only at e_); (repeat' (first | contradiction | (simp only [Option.map_eq_some_iff, Option.bind_eq_some_iff, Option.some.injEq, Prod.mk.injEq] at e_; simp_all; done) | (cases e_; simp; done) | (have e_1 := tallyWrite_kept _ _ _ _ (by assumption); simp [*]; done) | (have e_1 := seamEntryWrite_kept _ _ _ (by assumption); simp [*]; done) | (have e_1 := orderWrite_kept _ _ _ (by assumption); simp [*]; done) | split at e_)); done) | (simp only [State.writeObject, Option.map_eq_some_iff, Prod.mk.injEq] at e_; obtain ⟨_, _, rfl, rfl⟩ := e_; simp; done) | (simp only [State.writeObject, Option.map_eq_some_iff] at e_; obtain ⟨_, _, rfl⟩ := e_; simp; done) | (grind [State.writeObject, tallyWrite_kept, seamEntryWrite_kept, orderWrite_kept])
@[simp] theorem State.writeObject_getD (s : State) (ap : Aperture) (c i : Nat) (v : BitVec 256) (u_ : State) (h_ : u_.pending = s.pending ∧ u_.mbx = s.mbx) :
    ((State.writeObject s ap c i v).getD u_).pending = s.pending ∧ ((State.writeObject s ap c i v).getD u_).mbx = s.mbx := by
  cases e_ : State.writeObject s ap c i v with
  | none => exact h_
  | some t_ => exact State.writeObject_kept _ _ _ _ _ e_
@[simp] theorem mbxDataWrite_kept (ap : Aperture) (k : Nat) (v : Word) (s : State) : (mbxDataWrite ap k v s).pending = s.pending := by
  unfold mbxDataWrite; (try dsimp only); (repeat' (first | (simp [*]; done) | (have e_1 := State.writeObject_kept _ _ _ _ _ (by assumption); simp [*]; done) | (refine foldl_kept _ ?_ _ _ _ ?_ <;> intros <;> (try dsimp only)) | split | (apply And.intro)))
@[simp] theorem State.accessError_kept (s : State) (a : Access) (kind : Nat) (write : Bool) :
    (State.accessError s a kind write).pending = s.pending ∧ (State.accessError s a kind write).mbx = s.mbx := by
  simp [State.accessError]
@[simp] theorem State.deny_kept (s : State) : (State.deny s).pending = s.pending ∧ (State.deny s).mbx = s.mbx := by
  simp [State.deny]
@[simp] theorem State.logRefused_kept (s : State) (ap : Aperture) :
    (State.logRefused s ap).pending = s.pending ∧ (State.logRefused s ap).mbx = s.mbx := by
  simp [State.logRefused]
@[simp] theorem State.readRefused_kept (s : State) (ap : Aperture) :
    (State.readRefused s ap).pending = s.pending ∧ (State.readRefused s ap).mbx = s.mbx := by
  simp [State.readRefused]
@[simp] theorem State.atReg_kept (s : State) (ap : Aperture) (pl : Place) (o : Nat) (f : State → State) (h_f : ∀ y0, (f y0).pending = y0.pending ∧ (f y0).mbx = y0.mbx) :
    (State.atReg s ap pl o f).pending = s.pending ∧ (State.atReg s ap pl o f).mbx = s.mbx := by
  simp [State.atReg, h_f]
@[simp] theorem State.atReg_queue (s : State) (ap : Aperture) (pl : Place) (o : Nat) (f : State → State) (h_f : ∀ y0, (f y0).pending = y0.pending) :
    (State.atReg s ap pl o f).pending = s.pending := by
  simp [State.atReg, h_f]
@[simp] theorem State.gateWrite_kept (s : State) (ap : Aperture) (off : Nat) (f : State → State) (h_f : ∀ y0, (f y0).pending = y0.pending ∧ (f y0).mbx = y0.mbx) :
    (State.gateWrite s ap off f).pending = s.pending ∧ (State.gateWrite s ap off f).mbx = s.mbx := by
  simp [State.gateWrite, h_f]
@[simp] theorem State.gateWrite_queue (s : State) (ap : Aperture) (off : Nat) (f : State → State) (h_f : ∀ y0, (f y0).pending = y0.pending) :
    (State.gateWrite s ap off f).pending = s.pending := by
  simp [State.gateWrite, h_f]
@[simp] theorem State.yfClear_kept (s : State) (o : Nat) : (State.yfClear s o).pending = s.pending ∧ (State.yfClear s o).mbx = s.mbx := by
  simp [State.yfClear]
@[simp] theorem State.movClear_kept (s : State) (v o : Nat) : (State.movClear s v o).pending = s.pending ∧ (State.movClear s v o).mbx = s.mbx := by
  unfold State.movClear; (try dsimp only); (repeat' (first | (simp [*]; done) | (refine foldl_kept _ ?_ _ _ _ ?_ <;> intros <;> (try dsimp only)) | split | (apply And.intro)))
@[simp] theorem State.lossTaken_kept (s : State) (v : Nat) : (State.lossTaken s v).pending = s.pending ∧ (State.lossTaken s v).mbx = s.mbx := by
  simp [State.lossTaken]
@[simp] theorem State.readClear_kept (s : State) (v : Nat) (pl : Place) (o : Nat) :
    (State.readClear s v pl o).pending = s.pending ∧ (State.readClear s v pl o).mbx = s.mbx := by
  unfold State.readClear; (try dsimp only); (repeat' (first | (simp [*]; done) | (refine foldl_kept _ ?_ _ _ _ ?_ <;> intros <;> (try dsimp only)) | split | (apply And.intro)))
@[simp] theorem State.answerRead_kept (s : State) (ap : Aperture) (off : Nat) (w : Word) (owner : Nat) :
    (State.answerRead s ap off w owner).pending = s.pending ∧ (State.answerRead s ap off w owner).mbx = s.mbx := by
  unfold State.answerRead; (try dsimp only); (repeat' (first | (simp [*]; done) | (refine foldl_kept _ ?_ _ _ _ ?_ <;> intros <;> (try dsimp only)) | split | (apply And.intro)))
@[simp] theorem State.readAt_kept (s : State) (ap : Aperture) (off : Nat) :
    (State.readAt s ap off).pending = s.pending ∧ (State.readAt s ap off).mbx = s.mbx := by
  simp [State.readAt]
@[simp] theorem rcRead_kept (ap : Aperture) (off : Nat) (s : State) : (rcRead ap off s).pending = s.pending ∧ (rcRead ap off s).mbx = s.mbx := by
  simp [rcRead]
@[simp] theorem registerRead_kept (a : Access) (s : State) : (registerRead a s).pending = s.pending ∧ (registerRead a s).mbx = s.mbx := by
  unfold registerRead; (try dsimp only); (repeat' (first | (simp [*]; done) | (refine foldl_kept _ ?_ _ _ _ ?_ <;> intros <;> (try dsimp only)) | split | (apply And.intro)))
@[simp] theorem State.setEnable_kept (s : State) (a : Nat) (pl : Place) (v : Word) :
    (State.setEnable s a pl v).pending = s.pending ∧ (State.setEnable s a pl v).mbx = s.mbx := by
  unfold State.setEnable; (try dsimp only); (repeat' (first | (simp [*]; done) | (refine foldl_kept _ ?_ _ _ _ ?_ <;> intros <;> (try dsimp only)) | split | (apply And.intro)))
@[simp] theorem State.writeEnable_kept (s : State) (a : Nat) (pl : Place) (v : Word) :
    (State.writeEnable s a pl v).pending = s.pending ∧ (State.writeEnable s a pl v).mbx = s.mbx := by
  simp [State.writeEnable]
@[simp] theorem State.strobe_kept (s : State) : (State.strobe s).pending = s.pending ∧ (State.strobe s).mbx = s.mbx := by
  simp [State.strobe]
@[simp] theorem State.clearIrq_kept (s : State) (a : Nat) (pl : Place) (v : Word) :
    (State.clearIrq s a pl v).pending = s.pending ∧ (State.clearIrq s a pl v).mbx = s.mbx := by
  unfold State.clearIrq; (try dsimp only); (repeat' (first | (simp [*]; done) | (refine foldl_kept _ ?_ _ _ _ ?_ <;> intros <;> (try dsimp only)) | split | (apply And.intro)))
@[simp] theorem State.clearDone_kept (s : State) (a : Nat) (pl : Place) :
    (State.clearDone s a pl).pending = s.pending ∧ (State.clearDone s a pl).mbx = s.mbx := by
  unfold State.clearDone; (try dsimp only); (repeat' (first | (simp [*]; done) | (refine foldl_kept _ ?_ _ _ _ ?_ <;> intros <;> (try dsimp only)) | split | (apply And.intro)))
@[simp] theorem State.writeFunc_kept (s : State) (p f : Nat) (v : Word) :
    (State.writeFunc s p f v).pending = s.pending ∧ (State.writeFunc s p f v).mbx = s.mbx := by
  simp [State.writeFunc]
@[simp] theorem State.writeGlb_kept (s : State) (a o : Nat) (v : Word) :
    (State.writeGlb s a o v).pending = s.pending ∧ (State.writeGlb s a o v).mbx = s.mbx := by
  simp [State.writeGlb]
@[simp] theorem State.writeField_kept (s : State) (ap : Aperture) (pl : Place) (o : Nat) (v : Word) :
    (State.writeField s ap pl o v).pending = s.pending ∧ (State.writeField s ap pl o v).mbx = s.mbx := by
  unfold State.writeField; (try dsimp only); (repeat' (first | (simp [*]; done) | (refine foldl_kept _ ?_ _ _ _ ?_ <;> intros <;> (try dsimp only)) | split | (apply And.intro)))
@[simp] theorem State.writeSeamCmd_kept (s : State) (ap : Aperture) (v : Word) :
    (State.writeSeamCmd s ap v).pending = s.pending ∧ (State.writeSeamCmd s ap v).mbx = s.mbx := by
  unfold State.writeSeamCmd; (try dsimp only); (repeat' (first | (simp [*]; done) | (refine foldl_kept _ ?_ _ _ _ ?_ <;> intros <;> (try dsimp only)) | split | (apply And.intro)))
@[simp] theorem State.writeTalCmd_kept (s : State) (ap : Aperture) (v : Word) :
    (State.writeTalCmd s ap v).pending = s.pending ∧ (State.writeTalCmd s ap v).mbx = s.mbx := by
  unfold State.writeTalCmd; (try dsimp only); (repeat' (first | (simp [*]; done) | (refine foldl_kept _ ?_ _ _ _ ?_ <;> intros <;> (try dsimp only)) | split | (apply And.intro)))
@[simp] theorem State.writeFaceCmd_kept (s : State) (ap : Aperture) (v : Word) :
    (State.writeFaceCmd s ap v).pending = s.pending ∧ (State.writeFaceCmd s ap v).mbx = s.mbx := by
  unfold State.writeFaceCmd; (try dsimp only); (repeat' (first | (simp [*]; done) | (refine foldl_kept _ ?_ _ _ _ ?_ <;> intros <;> (try dsimp only)) | split | (apply And.intro)))
@[simp] theorem State.writeWndCmd_kept (s : State) (ap : Aperture) (v : Word) :
    (State.writeWndCmd s ap v).pending = s.pending ∧ (State.writeWndCmd s ap v).mbx = s.mbx := by
  unfold State.writeWndCmd; (try dsimp only); (repeat' (first | (simp [*]; done) | (refine foldl_kept _ ?_ _ _ _ ?_ <;> intros <;> (try dsimp only)) | split | (apply And.intro)))
@[simp] theorem State.writeMovCmd_kept (s : State) (ap : Aperture) (v : Word) :
    (State.writeMovCmd s ap v).pending = s.pending ∧ (State.writeMovCmd s ap v).mbx = s.mbx := by
  unfold State.writeMovCmd; (try dsimp only); (repeat' (first | (simp [*]; done) | (refine foldl_kept _ ?_ _ _ _ ?_ <;> intros <;> (try dsimp only)) | split | (apply And.intro)))
@[simp] theorem State.writeCtxCmd_kept (s : State) (ap : Aperture) (v : Word) :
    (State.writeCtxCmd s ap v).pending = s.pending ∧ (State.writeCtxCmd s ap v).mbx = s.mbx := by
  unfold State.writeCtxCmd; (try dsimp only); (repeat' (first | (simp [*]; done) | (refine foldl_kept _ ?_ _ _ _ ?_ <;> intros <;> (try dsimp only)) | split | (apply And.intro)))
@[simp] theorem State.writeHstCmd_kept (s : State) (ap : Aperture) (v : Word) :
    (State.writeHstCmd s ap v).pending = s.pending ∧ (State.writeHstCmd s ap v).mbx = s.mbx := by
  unfold State.writeHstCmd; (try dsimp only); (repeat' (first | (simp [*]; done) | (refine foldl_kept _ ?_ _ _ _ ?_ <;> intros <;> (try dsimp only)) | (refine kept_trans (State.hstCmd_kept _ _ _ ?_ ) ?_ <;> intros <;> (try dsimp only)) | split | (apply And.intro)))
@[simp] theorem State.writeFltCmd_kept (s : State) (ap : Aperture) (v : Word) :
    (State.writeFltCmd s ap v).pending = s.pending ∧ (State.writeFltCmd s ap v).mbx = s.mbx := by
  unfold State.writeFltCmd; (try dsimp only); (repeat' (first | (simp [*]; done) | (refine foldl_kept _ ?_ _ _ _ ?_ <;> intros <;> (try dsimp only)) | split | (apply And.intro)))
@[simp] theorem State.writeObsCmd_kept (s : State) (ap : Aperture) (v : Word) :
    (State.writeObsCmd s ap v).pending = s.pending ∧ (State.writeObsCmd s ap v).mbx = s.mbx := by
  unfold State.writeObsCmd; (try dsimp only); (repeat' (first | (simp [*]; done) | (refine foldl_kept _ ?_ _ _ _ ?_ <;> intros <;> (try dsimp only)) | split | (apply And.intro)))
@[simp] theorem updStrobeGo_kept (ap : Aperture) (s : State) : (updStrobeGo ap s).pending = s.pending ∧ (updStrobeGo ap s).mbx = s.mbx := by
  simp [updStrobeGo]
@[simp] theorem strobeOutPulseEnd_kept (s : State) : (strobeOutPulseEnd s).pending = s.pending ∧ (strobeOutPulseEnd s).mbx = s.mbx := by
  simp [strobeOutPulseEnd]
@[simp] theorem strobeInEdge_kept (s : State) : (strobeInEdge s).pending = s.pending ∧ (strobeInEdge s).mbx = s.mbx := by
  simp [strobeInEdge]
theorem State.writeCommand_kept (s : State) (ap : Aperture) (pl : Place) (o : Nat) (v : Word) {t_ : State} (e_ : State.writeCommand s ap pl o v = some t_) : t_.pending = s.pending := by
  unfold State.writeCommand at e_
  split at e_
  all_goals first | contradiction | skip
  all_goals first | (simp only [Option.map_eq_some_iff] at e_; obtain ⟨_, _, rfl⟩ := e_; simp; done) | (simp only [Option.some.injEq] at e_; subst e_)
  all_goals (repeat' (first | (simp; done) | split))
@[simp] theorem State.writeCommand_getD (s : State) (ap : Aperture) (pl : Place) (o : Nat) (v : Word) (u_ : State) (h_ : u_.pending = s.pending) :
    ((State.writeCommand s ap pl o v).getD u_).pending = s.pending := by
  cases e_ : State.writeCommand s ap pl o v with
  | none => exact h_
  | some t_ => exact State.writeCommand_kept _ _ _ _ _ e_
@[simp] theorem State.dwFailed_kept (s : State) : (State.dwFailed s).pending = s.pending ∧ (State.dwFailed s).mbx = s.mbx := by
  simp [State.dwFailed]
@[simp] theorem State.dropDw_kept (s : State) (a : Nat) : (State.dropDw s a).pending = s.pending ∧ (State.dropDw s a).mbx = s.mbx := by
  simp [State.dropDw]
@[simp] theorem State.setCanary_kept (s : State) (v : Word) : (State.setCanary s v).pending = s.pending ∧ (State.setCanary s v).mbx = s.mbx := by
  simp [State.setCanary]
@[simp] theorem State.setMode_kept (s : State) (v : Word) : (State.setMode s v).pending = s.pending ∧ (State.setMode s v).mbx = s.mbx := by
  simp [State.setMode]
@[simp] theorem State.dwApply_kept (s : State) (ap : Aperture) (pl : Place) (v : Word) :
    (State.dwApply s ap pl v).pending = s.pending ∧ (State.dwApply s ap pl v).mbx = s.mbx := by
  unfold State.dwApply; (try dsimp only); (repeat' (first | (simp [*]; done) | (refine foldl_kept _ ?_ _ _ _ ?_ <;> intros <;> (try dsimp only)) | (refine kept_trans (State.lcsCmd_kept _ _ _ ?_ ) ?_ <;> intros <;> (try dsimp only)) | split | (apply And.intro)))
@[simp] theorem State.dwFirst_kept (s : State) (ap : Aperture) (off : Nat) (v : Word) :
    (State.dwFirst s ap off v).pending = s.pending ∧ (State.dwFirst s ap off v).mbx = s.mbx := by
  simp [State.dwFirst]
@[simp] theorem State.dwComplement_kept (s : State) (ap : Aperture) (off : Nat) (v : Word) :
    (State.dwComplement s ap off v).pending = s.pending ∧ (State.dwComplement s ap off v).mbx = s.mbx := by
  simp [State.dwComplement]
@[simp] theorem dwFirstWrite_kept (ap : Aperture) (off : Nat) (v : Word) (s : State) :
    (dwFirstWrite ap off v s).pending = s.pending ∧ (dwFirstWrite ap off v s).mbx = s.mbx := by
  simp [dwFirstWrite]
@[simp] theorem dwComplementWrite_kept (ap : Aperture) (off : Nat) (v : Word) (s : State) :
    (dwComplementWrite ap off v s).pending = s.pending ∧ (dwComplementWrite ap off v s).mbx = s.mbx := by
  simp [dwComplementWrite]
@[simp] theorem dwWindowExpire_kept (ap : Aperture) (s : State) : (dwWindowExpire ap s).pending = s.pending ∧ (dwWindowExpire ap s).mbx = s.mbx := by
  simp [dwWindowExpire]
@[simp] theorem State.aliasBit_kept (s : State) (A b : Nat) (x : Bool) :
    (State.aliasBit s A b x).pending = s.pending ∧ (State.aliasBit s A b x).mbx = s.mbx := by
  simp [State.aliasBit]
@[simp] theorem State.aliasAt_kept (s : State) (x : Nat) (v : Word) :
    (State.aliasAt s x v).pending = s.pending ∧ (State.aliasAt s x v).mbx = s.mbx := by
  simp [State.aliasAt]
@[simp] theorem aliasWrite_kept (ap : Aperture) (off : Nat) (v : Word) (s : State) :
    (aliasWrite ap off v s).pending = s.pending ∧ (aliasWrite ap off v s).mbx = s.mbx := by
  have a : ∀ x : Nat, (s.gateWrite ap off fun s => s.aliasAt x v).pending = s.pending ∧ (s.gateWrite ap off fun s => s.aliasAt x v).mbx = s.mbx :=
    fun x => State.gateWrite_kept _ _ _ _ fun z => State.aliasAt_kept z x v
  unfold aliasWrite
  by_cases h : placeOf ap off = .aliasWin ∧ off % 4 = 0
  · rw [if_pos h]; exact a (off - 0x2000000)
  · rw [if_neg h]; exact ⟨rfl, rfl⟩
@[simp] theorem State.writeAt_kept (s : State) (ap : Aperture) (off : Nat) (v : Word) : (State.writeAt s ap off v).pending = s.pending := by
  unfold State.writeAt
  extract_lets pl o
  split
  · simp
  · split
    · simp
    · split
      · simp
      · refine State.gateWrite_queue _ _ _ _ ?_
        intro s
        simp
@[simp] theorem registerWrite_kept (a : Access) (v : Word) (s : State) : (registerWrite a v s).pending = s.pending := by
  unfold registerWrite; (try dsimp only); (repeat' (first | (simp [*]; done) | (refine foldl_kept _ ?_ _ _ _ ?_ <;> intros <;> (try dsimp only)) | split | (apply And.intro)))
@[simp] theorem State.given_kept (s : State) (ok : Bool) (f : State → State) (h_f : ∀ y0, (f y0).pending = y0.pending ∧ (f y0).mbx = y0.mbx) :
    (State.given s ok f).pending = s.pending ∧ (State.given s ok f).mbx = s.mbx := by
  simp [State.given, h_f]
@[simp] theorem State.given_queue (s : State) (ok : Bool) (f : State → State) (h_f : ∀ y0, (f y0).pending = y0.pending) :
    (State.given s ok f).pending = s.pending := by
  simp [State.given, h_f]
@[simp] theorem State.live_kept (s : State) (ok : Bool) (f : State → State) (h_f : ∀ y0, (f y0).pending = y0.pending ∧ (f y0).mbx = y0.mbx) :
    (State.live s ok f).pending = s.pending ∧ (State.live s ok f).mbx = s.mbx := by
  simp [State.live, h_f]
@[simp] theorem State.live_queue (s : State) (ok : Bool) (f : State → State) (h_f : ∀ y0, (f y0).pending = y0.pending) :
    (State.live s ok f).pending = s.pending := by
  simp [State.live, h_f]
@[simp] theorem State.open__kept (s : State) (ok : Bool) (f : State → State) (h_f : ∀ y0, (f y0).pending = y0.pending ∧ (f y0).mbx = y0.mbx) :
    (State.open_ s ok f).pending = s.pending ∧ (State.open_ s ok f).mbx = s.mbx := by
  simp [State.open_, h_f]
@[simp] theorem State.open__queue (s : State) (ok : Bool) (f : State → State) (h_f : ∀ y0, (f y0).pending = y0.pending) :
    (State.open_ s ok f).pending = s.pending := by
  simp [State.open_, h_f]
@[simp] theorem State.portIn_kept (s : State) (ok : Bool) (f : State → State) (h_f : ∀ y0, (f y0).pending = y0.pending ∧ (f y0).mbx = y0.mbx) :
    (State.portIn s ok f).pending = s.pending ∧ (State.portIn s ok f).mbx = s.mbx := by
  simp [State.portIn, h_f]
@[simp] theorem State.portIn_queue (s : State) (ok : Bool) (f : State → State) (h_f : ∀ y0, (f y0).pending = y0.pending) :
    (State.portIn s ok f).pending = s.pending := by
  simp [State.portIn, h_f]
@[simp] theorem State.hostIn_kept (s : State) (ok : Bool) (f : State → State) (h_f : ∀ y0, (f y0).pending = y0.pending ∧ (f y0).mbx = y0.mbx) :
    (State.hostIn s ok f).pending = s.pending ∧ (State.hostIn s ok f).mbx = s.mbx := by
  simp [State.hostIn, h_f]
@[simp] theorem State.hostIn_queue (s : State) (ok : Bool) (f : State → State) (h_f : ∀ y0, (f y0).pending = y0.pending) :
    (State.hostIn s ok f).pending = s.pending := by
  simp [State.hostIn, h_f]
@[simp] theorem State.shaftIn_kept (s : State) (k : Nat) (f : State → State) (h_f : ∀ y0, (f y0).pending = y0.pending ∧ (f y0).mbx = y0.mbx) :
    (State.shaftIn s k f).pending = s.pending ∧ (State.shaftIn s k f).mbx = s.mbx := by
  simp [State.shaftIn, h_f]
@[simp] theorem State.shaftIn_queue (s : State) (k : Nat) (f : State → State) (h_f : ∀ y0, (f y0).pending = y0.pending) :
    (State.shaftIn s k f).pending = s.pending := by
  simp [State.shaftIn, h_f]
@[simp] theorem State.stalls_kept (s : State) : (State.stalls s).pending = s.pending ∧ (State.stalls s).mbx = s.mbx := by
  simp [State.stalls]
@[simp] theorem State.tick_kept (s : State) : (State.tick s).pending = s.pending ∧ (State.tick s).mbx = s.mbx := by
  simp [State.tick]
end Sys2Proof.Machine
end

