-- ==== Sys2Proof/Laws/PerInstr.lean ====
section
/-!
SUPPORT. Laws/PerInstr.lean: family Spell, what the table's bits say of a command: no word spells it, since the table gives its row no bits (DESIGN CHOICE, log 6).
-/

namespace Sys2Proof.Laws.Spell

/-- No word of any length spells the command. -/
def Statement (i : Instr) : Prop := ∀ nbits w : Nat, decodeTableWord nbits w ≠ some i

theorem all (i : Instr) : Statement i := fun _ _ => nofun

theorem registerWrite (a : Access) (v : Word) : Statement (.registerWrite a v) := all _
theorem rcRead (ap : Aperture) (off : Nat) : Statement (.rcRead ap off) := all _
theorem dwFirstWrite (ap : Aperture) (off : Nat) (v : Word) : Statement (.dwFirstWrite ap off v) := all _
theorem dwComplementWrite (ap : Aperture) (off : Nat) (v : Word) : Statement (.dwComplementWrite ap off v) := all _
theorem dwWindowExpire (ap : Aperture) : Statement (.dwWindowExpire ap) := all _
theorem mbxSelRead (ap : Aperture) (cls : BitVec 7) (idx : BitVec 24) : Statement (.mbxSelRead ap cls idx) := all _
theorem mbxSelWrite (ap : Aperture) (cls : BitVec 7) (idx : BitVec 24) : Statement (.mbxSelWrite ap cls idx) := all _
theorem mbxCaptureDone (ap : Aperture) (ecc : Ecc) : Statement (.mbxCaptureDone ap ecc) := all _
theorem mbxDataWrite (ap : Aperture) (k : Nat) (v : Word) : Statement (.mbxDataWrite ap k v) := all _
theorem aliasWrite (ap : Aperture) (off : Nat) (v : Word) : Statement (.aliasWrite ap off v) := all _
theorem updStrobeGo (ap : Aperture) : Statement (.updStrobeGo ap) := all _
theorem strobeOutPulseEnd : Statement .strobeOutPulseEnd := all _
theorem strobeInEdge : Statement .strobeInEdge := all _
theorem seamCreate (ap : Aperture) (n : Nat) : Statement (.seamCreate ap n) := all _
theorem seamFillDone (n : Nat) : Statement (.seamFillDone n) := all _
theorem seamSeal (ap : Aperture) (n : Nat) : Statement (.seamSeal ap n) := all _
theorem sealPoint (n : Nat) : Statement (.sealPoint n) := all _
theorem seamUnseal (ap : Aperture) (n : Nat) : Statement (.seamUnseal ap n) := all _
theorem seamRekey (ap : Aperture) (n : Nat) : Statement (.seamRekey ap n) := all _
theorem seamRetire (ap : Aperture) (n : Nat) : Statement (.seamRetire ap n) := all _
theorem seamDead (n : Nat) : Statement (.seamDead n) := all _
theorem seamFree (ap : Aperture) (n : Nat) : Statement (.seamFree ap n) := all _
theorem seamUnfreeze (ap : Aperture) (n : Nat) : Statement (.seamUnfreeze ap n) := all _
theorem driftStart (s : Nat) : Statement (.driftStart s) := all _
theorem sweepPage (s : Nat) (lines : List HubLine) (ecc : Ecc) : Statement (.sweepPage s lines ecc) := all _
theorem periodicDriftDue (n : Nat) : Statement (.periodicDriftDue n) := all _
theorem rekeyOverrun (n : Nat) : Statement (.rekeyOverrun n) := all _
theorem budgetWindowClose (n : Nat) : Statement (.budgetWindowClose n) := all _
theorem writeTokenArrive (n : Nat) : Statement (.writeTokenArrive n) := all _
theorem shaftRead (s : Nat) : Statement (.shaftRead s) := all _
theorem counterFetchDone (s : Nat) (blk : Nat) (ecc : Ecc) : Statement (.counterFetchDone s blk ecc) := all _
theorem padReady (s : Nat) (tag : Nat) : Statement (.padReady s tag) := all _
theorem hubReadReturn (s : Nat) (tag : Nat) (l : HubLine) : Statement (.hubReadReturn s tag l) := all _
theorem correctionVerdict (s : Nat) : Statement (.correctionVerdict s) := all _
theorem egressRelease (p : Nat) (pt : EgressPoint) : Statement (.egressRelease p pt) := all _
theorem shaftWrite (s : Nat) : Statement (.shaftWrite s) := all _
theorem refreshDone (s : Nat) (lines : List HubLine) : Statement (.refreshDone s lines) := all _
theorem partialOldLineReturn (s : Nat) (tag : Nat) (l : HubLine) : Statement (.partialOldLineReturn s tag l) := all _
theorem hubWriteAck (s : Nat) (line : Nat) : Statement (.hubWriteAck s line) := all _
theorem laneSample (c : Nat) (r : Sample) : Statement (.laneSample c r) := all _
theorem innerPageAccess (q : Nat) (key : Nat) (ecc : Ecc) : Statement (.innerPageAccess q key ecc) := all _
theorem scrubWordRead (q : Nat) (word : Nat) (ecc : Ecc) : Statement (.scrubWordRead q word ecc) := all _
theorem scrubPassEnd (q : Nat) : Statement (.scrubPassEnd q) := all _
theorem shareZeroDone (s : Nat) : Statement (.shareZeroDone s) := all _
theorem siteLinkUp (t : Nat) (cfgOk : Bool) : Statement (.siteLinkUp t cfgOk) := all _
theorem siteLinkDown (t : Nat) : Statement (.siteLinkDown t) := all _
theorem frameReceive (t : Nat) (frame : List Byte) : Statement (.frameReceive t frame) := all _
theorem reqFrame (t : Nat) : Statement (.reqFrame t) := all _
theorem dataFrame (t : Nat) : Statement (.dataFrame t) := all _
theorem siteSlotIssue (t : Nat) (tag : Nat) : Statement (.siteSlotIssue t tag) := all _
theorem ctrlHello (t : Nat) (h : ShimHello) : Statement (.ctrlHello t h) := all _
theorem ctrlResponse (t : Nat) (r : ShimResponse) : Statement (.ctrlResponse t r) := all _
theorem ctrlKeyConfirm (t : Nat) : Statement (.ctrlKeyConfirm t) := all _
theorem ctrlCredit (t : Nat) : Statement (.ctrlCredit t) := all _
theorem ctrlReplay (t : Nat) : Statement (.ctrlReplay t) := all _
theorem ctrlReplayLost (t : Nat) : Statement (.ctrlReplayLost t) := all _
theorem ctrlReplayFailed (t : Nat) : Statement (.ctrlReplayFailed t) := all _
theorem ctrlResync (t : Nat) : Statement (.ctrlResync t) := all _
theorem ctrlRekey (t : Nat) : Statement (.ctrlRekey t) := all _
theorem ctrlFlushDone (t : Nat) : Statement (.ctrlFlushDone t) := all _
theorem bringupTimeout (t : Nat) : Statement (.bringupTimeout t) := all _
theorem resyncTimeout (t : Nat) : Statement (.resyncTimeout t) := all _
theorem tsRestart (ap : Aperture) (t : Nat) : Statement (.tsRestart ap t) := all _
theorem tsRekey (ap : Aperture) (t : Nat) : Statement (.tsRekey ap t) := all _
theorem fabricPortUp (p : Nat) : Statement (.fabricPortUp p) := all _
theorem fabricPortDown (p : Nat) : Statement (.fabricPortDown p) := all _
theorem codewordReceive (p : Nat) (hdr : BitVec 20) (units : List Block) (bad : Bool) : Statement (.codewordReceive p hdr units bad) := all _
theorem packetTransit (p : Nat) : Statement (.packetTransit p) := all _
theorem packetDeliver (p : Nat) : Statement (.packetDeliver p) := all _
theorem packetVerdict (p : Nat) : Statement (.packetVerdict p) := all _
theorem helloTimer (p : Nat) : Statement (.helloTimer p) := all _
theorem helloReceive (p : Nat) : Statement (.helloReceive p) := all _
theorem announceTimer : Statement .announceTimer := all _
theorem announceReceive (p : Nat) : Statement (.announceReceive p) := all _
theorem announceSilent (p : Nat) : Statement (.announceSilent p) := all _
theorem disputeReceive (p : Nat) : Statement (.disputeReceive p) := all _
theorem routeFailReceive (p : Nat) : Statement (.routeFailReceive p) := all _
theorem routeOkReceive (p : Nat) : Statement (.routeOkReceive p) := all _
theorem timeSyncTimer : Statement .timeSyncTimer := all _
theorem timeSyncReceive (p : Nat) : Statement (.timeSyncReceive p) := all _
theorem slotBoundary (unit : Nat) : Statement (.slotBoundary unit) := all _
theorem formStartTimer : Statement .formStartTimer := all _
theorem formStartReceive (p : Nat) (v : PkVerdict) : Statement (.formStartReceive p v) := all _
theorem evidenceReceive (p : Nat) (v : PkVerdict) : Statement (.evidenceReceive p v) := all _
theorem keysReceive (p : Nat) (v : PkVerdict) : Statement (.keysReceive p v) := all _
theorem confirmReceive (p : Nat) : Statement (.confirmReceive p) := all _
theorem formWindowEnd : Statement .formWindowEnd := all _
theorem formedReceive (p : Nat) (v : PkVerdict) : Statement (.formedReceive p v) := all _
theorem rejectReceive (p : Nat) (v : PkVerdict) : Statement (.rejectReceive p v) := all _
theorem joinedReceive (p : Nat) : Statement (.joinedReceive p) := all _
theorem candidateTimeout : Statement .candidateTimeout := all _
theorem joinTimeout : Statement .joinTimeout := all _
theorem joinRetry : Statement .joinRetry := all _
theorem leaveDomain : Statement .leaveDomain := all _
theorem generationSwitch : Statement .generationSwitch := all _
theorem flowKeyExpire (part : Nat) : Statement (.flowKeyExpire part) := all _
theorem requestTimeout (tag : Nat) : Statement (.requestTimeout tag) := all _
theorem yfRevive (ap : Aperture) (node : Nat) : Statement (.yfRevive ap node) := all _
theorem homeRequest (q : Nat) (src part tag : Nat) : Statement (.homeRequest q src part tag) := all _
theorem entryFreed (q : Nat) (entry : Nat) : Statement (.entryFreed q entry) := all _
theorem ticketLapse (q : Nat) (part no : Nat) : Statement (.ticketLapse q part no) := all _
theorem lockWaitTimeout (q : Nat) (entry : Nat) : Statement (.lockWaitTimeout q entry) := all _
theorem answerReceive (tag : Nat) : Statement (.answerReceive tag) := all _
theorem nackReceive (tag : Nat) : Statement (.nackReceive tag) := all _
theorem nackRetry (tag : Nat) : Statement (.nackRetry tag) := all _
theorem fenceComplete (e : Engine) (ctx : BitVec 16) : Statement (.fenceComplete e ctx) := all _
theorem cartEnd (t : Nat) (ctx : BitVec 16) : Statement (.cartEnd t ctx) := all _
theorem cartEndTimeout (t : Nat) (ctx : BitVec 16) : Statement (.cartEndTimeout t ctx) := all _
theorem cartPrepare (q : Nat) (src part tag : Nat) : Statement (.cartPrepare q src part tag) := all _
theorem cartSolo (q : Nat) (src part tag : Nat) : Statement (.cartSolo q src part tag) := all _
theorem soloTimeout (q : Nat) (issuer cart : Nat) : Statement (.soloTimeout q issuer cart) := all _
theorem cartVote (tag : Nat) : Statement (.cartVote tag) := all _
theorem cartSoloVote (tag : Nat) : Statement (.cartSoloVote tag) := all _
theorem cartDecide (q : Nat) (src part tag : Nat) : Statement (.cartDecide q src part tag) := all _
theorem cartDecided (tag : Nat) : Statement (.cartDecided tag) := all _
theorem cartDecidedWaitExpire (cart : Nat) : Statement (.cartDecidedWaitExpire cart) := all _
theorem cartCommit (q : Nat) (src part tag : Nat) : Statement (.cartCommit q src part tag) := all _
theorem cartAbort (q : Nat) (src part tag : Nat) : Statement (.cartAbort q src part tag) := all _
theorem cartDone (tag : Nat) : Statement (.cartDone tag) := all _
theorem cartQuery (q : Nat) (src part tag : Nat) : Statement (.cartQuery q src part tag) := all _
theorem cartAnswer (tag : Nat) : Statement (.cartAnswer tag) := all _
theorem cartMemberTimeout (q : Nat) (issuer cart : Nat) : Statement (.cartMemberTimeout q issuer cart) := all _
theorem cartQueryRepeat (q : Nat) (issuer cart : Nat) : Statement (.cartQueryRepeat q issuer cart) := all _
theorem cartLeadTimeout (q : Nat) (issuer cart : Nat) : Statement (.cartLeadTimeout q issuer cart) := all _
theorem cartAbortEntryExpire (q : Nat) (issuer cart : Nat) : Statement (.cartAbortEntryExpire q issuer cart) := all _
theorem faceArm (ap : Aperture) (target : Nat) (tally : BitVec 16) : Statement (.faceArm ap target tally) := all _
theorem faceDisarm (ap : Aperture) (target : Nat) : Statement (.faceDisarm ap target) := all _
theorem faceClear (ap : Aperture) (target : Nat) : Statement (.faceClear ap target) := all _
theorem faceClearDone (target : Nat) : Statement (.faceClearDone target) := all _
theorem contributionApply (target : Nat) (ecc : Ecc) : Statement (.contributionApply target ecc) := all _
theorem contributionHoldTimeout (target : Nat) : Statement (.contributionHoldTimeout target) := all _
theorem faceCacheFill (f : Nat) (line : Nat) (ecc : Ecc) : Statement (.faceCacheFill f line ecc) := all _
theorem gatherComplete (task : Nat) : Statement (.gatherComplete task) := all _
theorem tallySignal (q : Nat) (src part tag : Nat) (ecc : Ecc) : Statement (.tallySignal q src part tag ecc) := all _
theorem tallyWait (q : Nat) (src part tag : Nat) (ecc : Ecc) : Statement (.tallyWait q src part tag ecc) := all _
theorem signalRelease (tag : Nat) : Statement (.signalRelease tag) := all _
theorem waitDoneReceive (tag : Nat) : Statement (.waitDoneReceive tag) := all _
theorem tallyAckReceive (tag : Nat) : Statement (.tallyAckReceive tag) := all _
theorem waitRepeat (tag : Nat) : Statement (.waitRepeat tag) := all _
theorem talSignalAdd (ap : Aperture) (n : Nat) : Statement (.talSignalAdd ap n) := all _
theorem talSignalMax (ap : Aperture) (n : Nat) : Statement (.talSignalMax ap n) := all _
theorem talPair (ap : Aperture) (n : Nat) : Statement (.talPair ap n) := all _
theorem talUnpair (ap : Aperture) (n : Nat) : Statement (.talUnpair ap n) := all _
theorem talQuery (ap : Aperture) (n : Nat) : Statement (.talQuery ap n) := all _
theorem wndLoad (ap : Aperture) (t : Nat) (prog : Option (List Block)) : Statement (.wndLoad ap t prog) := all _
theorem wndStart (ap : Aperture) (t : Nat) : Statement (.wndStart ap t) := all _
theorem wndResume (ap : Aperture) (t : Nat) : Statement (.wndResume ap t) := all _
theorem wndStop (ap : Aperture) (t : Nat) : Statement (.wndStop ap t) := all _
theorem wndUnload (ap : Aperture) (t : Nat) : Statement (.wndUnload ap t) := all _
theorem winderStepIssue (t : Nat) (ecc : Ecc) : Statement (.winderStepIssue t ecc) := all _
theorem indOperandReturn (t : Nat) : Statement (.indOperandReturn t) := all _
theorem movBind (ap : Aperture) (c : Nat) : Statement (.movBind ap c) := all _
theorem movStart (ap : Aperture) (c : Nat) : Statement (.movStart ap c) := all _
theorem movAbort (ap : Aperture) (c : Nat) : Statement (.movAbort ap c) := all _
theorem movDestroy (ap : Aperture) (c : Nat) : Statement (.movDestroy ap c) := all _
theorem movRef (ap : Aperture) : Statement (.movRef ap) := all _
theorem movUnref (ap : Aperture) : Statement (.movUnref ap) := all _
theorem movDoorbell (ap : Aperture) (c : Nat) (tail : BitVec 12) : Statement (.movDoorbell ap c tail) := all _
theorem descriptorFetched (c : Nat) (words : List Dword) : Statement (.descriptorFetched c words) := all _
theorem descriptorActive (c : Nat) : Statement (.descriptorActive c) := all _
theorem translationAnswer (c : Nat) (dst : Bool) (page : Option (BitVec 52)) : Statement (.translationAnswer c dst page) := all _
theorem paramBlockReturn (c : Nat) : Statement (.paramBlockReturn c) := all _
theorem hostReadCompletion (c : Nat) (lines : List Line) (ideOk : Bool) : Statement (.hostReadCompletion c lines ideOk) := all _
theorem descriptorFinish (c : Nat) : Statement (.descriptorFinish c) := all _
theorem recordUndeliverable (c : Nat) : Statement (.recordUndeliverable c) := all _
theorem destroyComplete (c : Nat) : Statement (.destroyComplete c) := all _
theorem hostTlpReceive (x : Tlp) : Statement (.hostTlpReceive x) := all _
theorem bar2Access (x : Bar2) : Statement (.bar2Access x) := all _
theorem ideKmQuery (fn session stream : Nat) : Statement (.ideKmQuery fn session stream) := all _
theorem ideKmKeyProg (fn session stream kset sub dir : Nat) (key : BitVec 256) : Statement (.ideKmKeyProg fn session stream kset sub dir key) := all _
theorem ideKmKSetGo (fn session stream kset sub dir : Nat) : Statement (.ideKmKSetGo fn session stream kset sub dir) := all _
theorem ideKmKSetStop (fn session stream kset sub dir : Nat) : Statement (.ideKmKSetStop fn session stream kset sub dir) := all _
theorem spdmMessage (fn : Nat) (r : SpdmReq) : Statement (.spdmMessage fn r) := all _
theorem getTdispVersion (p session : Nat) : Statement (.getTdispVersion p session) := all _
theorem getTdispCapabilities (p session : Nat) : Statement (.getTdispCapabilities p session) := all _
theorem lockInterfaceRequest (p session : Nat) : Statement (.lockInterfaceRequest p session) := all _
theorem getDeviceInterfaceReport (p session : Nat) : Statement (.getDeviceInterfaceReport p session) := all _
theorem getDeviceInterfaceState (p session : Nat) : Statement (.getDeviceInterfaceState p session) := all _
theorem startInterfaceRequest (p session : Nat) : Statement (.startInterfaceRequest p session) := all _
theorem stopInterfaceRequest (p session : Nat) : Statement (.stopInterfaceRequest p session) := all _
theorem configWriteLocked (p : Nat) : Statement (.configWriteLocked p) := all _
theorem ctxOpen (ap : Aperture) (fn : Nat) : Statement (.ctxOpen ap fn) := all _
theorem ctxRetire (ap : Aperture) (tag : BitVec 16) : Statement (.ctxRetire ap tag) := all _
theorem ctxRetireComplete (p : Nat) (idx : Nat) : Statement (.ctxRetireComplete p idx) := all _
theorem ctxLossLoRead (ap : Aperture) : Statement (.ctxLossLoRead ap) := all _
theorem frontEndWait (w : FrontWait) : Statement (.frontEndWait w) := all _
theorem frontEndWithdraw (q : Nat) : Statement (.frontEndWithdraw q) := all _
theorem pfD3hot (fn : Nat) : Statement (.pfD3hot fn) := all _
theorem pfD0 (fn : Nat) : Statement (.pfD0 fn) := all _
theorem pfD3cold (p : Nat) : Statement (.pfD3cold p) := all _
theorem flr (fn : FlrFn) : Statement (.flr fn) := all _
theorem flrDone (fn : FlrFn) : Statement (.flrDone fn) := all _
theorem surpriseLinkDown : Statement .surpriseLinkDown := all _
theorem hostLinkUp : Statement .hostLinkUp := all _
theorem hstRemove (ap : Aperture) (p : Nat) : Statement (.hstRemove ap p) := all _
theorem removeComplete (p : Nat) : Statement (.removeComplete p) := all _
theorem hstDirtyEnable (ap : Aperture) : Statement (.hstDirtyEnable ap) := all _
theorem hstDirtyDisable (ap : Aperture) : Statement (.hstDirtyDisable ap) := all _
theorem hstMigOffer (ap : Aperture) (hostOk : Bool) : Statement (.hstMigOffer ap hostOk) := all _
theorem hstMigAccept (ap : Aperture) (offer : Option MigBlob) : Statement (.hstMigAccept ap offer) := all _
theorem hstMigFinish (ap : Aperture) (accept : Option MigBlob) : Statement (.hstMigFinish ap accept) := all _
theorem migOfferExpire (p : Nat) : Statement (.migOfferExpire p) := all _
theorem vltOrigin (ap : Aperture) (slot : Nat) (hostOk : Bool) : Statement (.vltOrigin ap slot hostOk) := all _
theorem vltRetire (ap : Aperture) (slot : Nat) : Statement (.vltRetire ap slot) := all _
theorem vltZeroise (ap : Aperture) (slot : Nat) : Statement (.vltZeroise ap slot) := all _
theorem slotDead (slot : Nat) : Statement (.slotDead slot) := all _
theorem slotEmpty (slot : Nat) : Statement (.slotEmpty slot) := all _
theorem drbgGenerate (bits : Nat) : Statement (.drbgGenerate bits) := all _
theorem drbgReseed : Statement .drbgReseed := all _
theorem entropyHealthFail : Statement .entropyHealthFail := all _
theorem checkJobSubmit (prio : Nat) (perms : Nat) : Statement (.checkJobSubmit prio perms) := all _
theorem checkPermutation (agree : Bool) : Statement (.checkPermutation agree) := all _
theorem pkeRequest (u : PkUnit) (prio : Nat) : Statement (.pkeRequest u prio) := all _
theorem pkeComplete (u : PkUnit) : Statement (.pkeComplete u) := all _
theorem signWindowEnd (ok : Bool) (verifyFail : Bool) : Statement (.signWindowEnd ok verifyFail) := all _
theorem stateEncodingError : Statement .stateEncodingError := all _
theorem tamperEvent : Statement .tamperEvent := all _
theorem lampSramUncorr (retained : Bool) : Statement (.lampSramUncorr retained) := all _
theorem lcsTransition (ap : Aperture) (req : Option Transition) : Statement (.lcsTransition ap req) := all _
theorem transitionProgrammed : Statement .transitionProgrammed := all _
theorem lcsScrap (ap : Aperture) : Statement (.lcsScrap ap) := all _
theorem porAssert : Statement .porAssert := all _
theorem porRelease (x : StartInputs) : Statement (.porRelease x) := all _
theorem memTrained : Statement .memTrained := all _
theorem hubTrainingTimeout : Statement .hubTrainingTimeout := all _
theorem step13Timeout : Statement .step13Timeout := all _
theorem lseReload (ap : Aperture) (nor : Option (List Byte)) (sigOk : Bool) (signer : BitVec 384) : Statement (.lseReload ap nor sigOk signer) := all _
theorem lseMove (ap : Aperture) : Statement (.lseMove ap) := all _
theorem shiftOrderDue (k : Nat) : Statement (.shiftOrderDue k) := all _
theorem chipResetAssert : Statement .chipResetAssert := all _
theorem rstReadyAssert : Statement .rstReadyAssert := all _
theorem chipResetRelease (x : WarmInputs) : Statement (.chipResetRelease x) := all _
theorem qpwrOkRise (q : Nat) : Statement (.qpwrOkRise q) := all _
theorem qpwrOkFall (q : Nat) : Statement (.qpwrOkFall q) := all _
theorem clockMonitorFault (long : Bool) : Statement (.clockMonitorFault long) := all _
theorem waitCanaryExpire (h : WaitHead) : Statement (.waitCanaryExpire h) := all _
theorem busyCanaryExpire (u : UnitRef) : Statement (.busyCanaryExpire u) := all _
theorem replayCanaryExpire (u : UnitRef) : Statement (.replayCanaryExpire u) := all _
theorem engineStepDone (u : UnitRef) : Statement (.engineStepDone u) := all _
theorem engineStepOverrun (u : UnitRef) : Statement (.engineStepOverrun u) := all _
theorem partitionStepDone (p : Nat) : Statement (.partitionStepDone p) := all _
theorem partitionStepOverrun (p : Nat) : Statement (.partitionStepOverrun p) := all _
theorem chipStepOverrun : Statement .chipStepOverrun := all _
theorem lampWatchdogExpire : Statement .lampWatchdogExpire := all _
theorem fltKick (ap : Aperture) : Statement (.fltKick ap) := all _
theorem fltEngine (ap : Aperture) (u : UnitRef) : Statement (.fltEngine ap u) := all _
theorem fltPartition (ap : Aperture) (p : Nat) : Statement (.fltPartition ap p) := all _
theorem fltChip (ap : Aperture) : Statement (.fltChip ap) := all _
theorem fltTray (ap : Aperture) : Statement (.fltTray ap) := all _
theorem obsFreeze (ap : Aperture) : Statement (.obsFreeze ap) := all _
theorem obsFreezeAt (ap : Aperture) (bcast : Bool) : Statement (.obsFreezeAt ap bcast) := all _
theorem obsRelease (ap : Aperture) : Statement (.obsRelease ap) := all _
theorem obsPeek (ap : Aperture) : Statement (.obsPeek ap) := all _
theorem peekReturn (ap : Aperture) (l : HubLine) : Statement (.peekReturn ap l) := all _
theorem peekTimeout (ap : Aperture) : Statement (.peekTimeout ap) := all _
theorem freezePacketReceive (p : Nat) : Statement (.freezePacketReceive p) := all _
theorem freezeTimeReached : Statement .freezeTimeReached := all _
theorem snapshotDrained : Statement .snapshotDrained := all _
theorem seamCreateDone (n : Nat) : Statement (.seamCreateDone n) := all _
theorem movAbortDrained (c : Nat) : Statement (.movAbortDrained c) := all _
theorem dirtyEnableDone (p : Nat) : Statement (.dirtyEnableDone p) := all _
theorem entropyStartupPass : Statement .entropyStartupPass := all _
theorem rotateFlowPrepare (k : Nat) : Statement (.rotateFlowPrepare k) := all _
theorem clockRestored : Statement .clockRestored := all _
theorem registerRead (a : Access) : Statement (.registerRead a) := all _
theorem vfPowerState (p v d : Nat) : Statement (.vfPowerState p v d) := all _
theorem d0FromD3cold (p : Nat) : Statement (.d0FromD3cold p) := all _

end Sys2Proof.Laws.Spell
end

