-- ==== Sys2Proof/Laws/Tab.lean ====
section
/-!
SUPPORT. Laws/Tab.lean: the sparse tables: reading after writing, and the canonical form, which every operation on a table keeps; the inner
pages among them.
-/

namespace Sys2Proof

/-- A listed pair stands above every key of a table in canonical form that begins with it. -/
theorem Tab.wf_cons_iff {α : Type} (j : Nat) (a : α) (t : Tab α) :
    Tab.wf ((j, a) :: t) = true ↔ (∀ x ∈ t, j < x.1) ∧ Tab.wf t = true := by
  induction t generalizing j a with
  | nil => simp [Tab.wf]
  | cons p t ih =>
    obtain ⟨k, b⟩ := p
    constructor
    · intro h
      simp only [Tab.wf, Bool.and_eq_true, decide_eq_true_eq] at h
      refine ⟨?_, h.2⟩
      intro x hx
      rcases List.mem_cons.mp hx with rfl | hx
      · exact h.1
      · exact Nat.lt_trans h.1 (((ih k b).mp h.2).1 x hx)
    · intro h
      simp only [Tab.wf, Bool.and_eq_true, decide_eq_true_eq]
      exact ⟨h.1 (k, b) (List.mem_cons_self ..), h.2⟩

/-- What a write of a table may list: the old pairs and the new one. -/
theorem Tab.mem_put {α : Type} (t : Tab α) (k : Nat) (v : α) (x : Nat × α) (h : x ∈ t.put k v) : x = (k, v) ∨ x ∈ t := by
  induction t with
  | nil => exact Or.inl (by simpa [Tab.put] using h)
  | cons p t ih =>
    obtain ⟨j, a⟩ := p
    simp only [Tab.put] at h
    split at h
    · rcases List.mem_cons.mp h with h | h
      · exact Or.inl h
      · exact Or.inr (List.mem_cons_of_mem _ h)
    · split at h
      · rcases List.mem_cons.mp h with h | h
        · exact Or.inl h
        · exact Or.inr h
      · rcases List.mem_cons.mp h with h | h
        · exact Or.inr (h ▸ List.mem_cons_self ..)
        · rcases ih h with h | h
          · exact Or.inl h
          · exact Or.inr (List.mem_cons_of_mem _ h)

/-- What an erasure leaves was listed. -/
theorem Tab.mem_erase {α : Type} (t : Tab α) (k : Nat) (x : Nat × α) (h : x ∈ Tab.erase t k) : x ∈ t := by
  induction t with
  | nil => exact h
  | cons p t ih =>
    obtain ⟨j, a⟩ := p
    simp only [Tab.erase] at h
    split at h
    · exact List.mem_cons_of_mem _ h
    · rcases List.mem_cons.mp h with h | h
      · exact h ▸ List.mem_cons_self ..
      · exact List.mem_cons_of_mem _ (ih h)

/-- A write keeps the canonical form. -/
theorem Tab.put_wf {α : Type} (t : Tab α) (k : Nat) (v : α) (h : t.wf = true) : (t.put k v).wf = true := by
  induction t with
  | nil => rfl
  | cons p t ih =>
    obtain ⟨j, a⟩ := p
    have h' := (Tab.wf_cons_iff j a t).mp h
    simp only [Tab.put]
    split
    · rename_i e
      subst e
      exact (Tab.wf_cons_iff j v t).mpr h'
    · split
      · rename_i hl
        refine (Tab.wf_cons_iff k v _).mpr ⟨?_, h⟩
        intro x hx
        rcases List.mem_cons.mp hx with rfl | hx
        · exact hl
        · exact Nat.lt_trans hl (h'.1 x hx)
      · rename_i hne hl
        refine (Tab.wf_cons_iff j a _).mpr ⟨?_, ih h'.2⟩
        intro x hx
        rcases Tab.mem_put t k v x hx with rfl | hx
        · exact Nat.lt_of_le_of_ne (Nat.le_of_not_lt hl) hne
        · exact h'.1 x hx

/-- An erasure keeps the canonical form. -/
theorem Tab.erase_wf {α : Type} (t : Tab α) (k : Nat) (h : t.wf = true) : (Tab.erase t k).wf = true := by
  induction t with
  | nil => rfl
  | cons p t ih =>
    obtain ⟨j, a⟩ := p
    have h' := (Tab.wf_cons_iff j a t).mp h
    simp only [Tab.erase]
    split
    · exact h'.2
    · exact (Tab.wf_cons_iff j a _).mpr ⟨fun x hx => h'.1 x (Tab.mem_erase t k x hx), ih h'.2⟩

/-- A selection of a table keeps the canonical form. -/
theorem Tab.filter_wf {α : Type} (t : Tab α) (p : Nat × α → Bool) (h : t.wf = true) : Tab.wf (t.filter p) = true := by
  induction t with
  | nil => rfl
  | cons q t ih =>
    obtain ⟨j, a⟩ := q
    have h' := (Tab.wf_cons_iff j a t).mp h
    rw [List.filter_cons]
    split
    · exact (Tab.wf_cons_iff j a _).mpr ⟨fun x hx => h'.1 x (List.mem_filter.mp hx).1, ih h'.2⟩
    · exact ih h'.2

/-- A key reads as what was last written to it. -/
@[simp] theorem Tab.find_put_same {α : Type} (t : Tab α) (k : Nat) (v : α) : (t.put k v).find k = some v := by
  induction t with
  | nil => simp [Tab.put, Tab.find]
  | cons p t ih =>
    obtain ⟨j, a⟩ := p
    simp only [Tab.put]
    split
    · simp [Tab.find]
    · split
      · simp [Tab.find]
      · rename_i h1 h2
        simp [Tab.find, h1, h2, ih]

/-- A write leaves every other key as it was. -/
theorem Tab.find_put_other {α : Type} (t : Tab α) (k j : Nat) (v : α) (h : j ≠ k) (hw : t.wf = true) : (t.put k v).find j = t.find j := by
  induction t with
  | nil =>
    simp only [Tab.put, Tab.find]
    rw [if_neg (fun e => h e.symm)]
    split <;> rfl
  | cons p t ih =>
    obtain ⟨i, a⟩ := p
    have h' := (Tab.wf_cons_iff i a t).mp hw
    have low (hj : j < i) : Tab.find t j = none := by
      cases t with
      | nil => rfl
      | cons q t =>
        obtain ⟨l, b⟩ := q
        have hl := h'.1 (l, b) (List.mem_cons_self ..)
        have hl : i < l := hl
        simp only [Tab.find]
        rw [if_neg (by omega), if_pos (by omega)]
    simp only [Tab.put]
    by_cases e : i = k
    · rw [if_pos e]
      simp only [Tab.find]
      rw [if_neg (fun c => h c.symm), if_neg (show ¬i = j from fun c => h (c.symm.trans e)), e]
    · rw [if_neg e]
      by_cases e2 : k < i
      · rw [if_pos e2]
        simp only [Tab.find]
        rw [if_neg (fun c => h c.symm)]
        by_cases e3 : j < k
        · rw [if_pos e3, if_neg (by omega), if_pos (by omega)]
        · rw [if_neg e3]
      · rw [if_neg e2]
        simp only [Tab.find]
        by_cases e3 : i = j
        · rw [if_pos e3, if_pos e3]
        · rw [if_neg e3, if_neg e3, ih h'.2]

/-- A read with a default after a write to the same key. -/
@[simp] theorem Tab.getD_put_same {α : Type} (t : Tab α) (k : Nat) (v d : α) : (t.put k v).getD k d = v := by
  simp [Tab.getD]

/-- A read with a default after a write to another key. -/
theorem Tab.getD_put_other {α : Type} (t : Tab α) (k j : Nat) (v d : α) (h : j ≠ k) (hw : t.wf = true) : (t.put k v).getD j d = t.getD j d := by
  simp [Tab.getD, Tab.find_put_other t k j v h hw]

namespace Machine

/-- A byte written to the inner pages keeps their canonical form. -/
theorem putInner_wf (t : Tab Byte) (a : Nat) (b : Byte) (h : pagesWf t = true) : pagesWf (putInner t a b) = true := by
  simp only [pagesWf, Bool.and_eq_true, List.all_eq_true] at h ⊢
  unfold putInner
  split
  · exact ⟨Tab.erase_wf t a h.1, fun x hx => h.2 x (Tab.mem_erase t a x hx)⟩
  · rename_i hb
    refine ⟨Tab.put_wf t a b h.1, fun x hx => ?_⟩
    rcases Tab.mem_put t a b x hx with rfl | hx
    · simpa using hb
    · exact h.2 x hx

/-- A selection of the inner pages keeps their canonical form. -/
theorem filterInner_wf (t : Tab Byte) (p : Nat × Byte → Bool) (h : pagesWf t = true) : pagesWf (t.filter p) = true := by
  simp only [pagesWf, Bool.and_eq_true, List.all_eq_true] at h ⊢
  exact ⟨Tab.filter_wf t p h.1, fun x hx => h.2 x (List.mem_filter.mp hx).1⟩

/-- Any number of bytes written to the inner pages keep their canonical form. -/
theorem putInners_wf {α : Type} (l : List α) (f : Tab Byte → α → Tab Byte) (hf : ∀ t x, pagesWf t = true → pagesWf (f t x) = true) (t : Tab Byte)
    (h : pagesWf t = true) : pagesWf (l.foldl f t) = true := by
  induction l generalizing t with
  | nil => exact h
  | cons x l ih => exact ih _ (hf t x h)

end Machine
end Sys2Proof
end

