-- ==== Sys2Proof/Laws/Store.lean ====
section
/-!
SUPPORT. Laws/Store.lean: what of the Inner Store's pages and of the fuses each function of the model touches: its lemma `_store` says that the inner
pages and the life-cycle read at the start are as they were; where a function writes inner pages, `_wf` says that their canonical form stays and
`_life` that the life-cycle does.
-/

namespace Sys2Proof.Machine

@[simp] theorem foldl_pages {α : Type} (f : State → α → State) (h : ∀ s x, (f s x).ins.pages = s.ins.pages) (l : List α) (s : State) :
    (l.foldl f s).ins.pages = s.ins.pages := by induction l generalizing s with | nil => rfl | cons a l ih => simp [ih, h]
@[simp] theorem foldl_lifecycle {α : Type} (f : State → α → State) (h : ∀ s x, (f s x).fuse.lifecycle = s.fuse.lifecycle) (l : List α) (s : State) :
    (l.foldl f s).fuse.lifecycle = s.fuse.lifecycle := by induction l generalizing s with | nil => rfl | cons a l ih => simp [ih, h]
@[simp] theorem ite_pages (c : Prop) [Decidable c] (a b : State) :
    (if c then a else b).ins.pages = if c then a.ins.pages else b.ins.pages := by split <;> rfl
@[simp] theorem ite_lifecycle (c : Prop) [Decidable c] (a b : State) :
    (if c then a else b).fuse.lifecycle = if c then a.fuse.lifecycle else b.fuse.lifecycle := by split <;> rfl
theorem foldl_store {α : Type} (f : State → α → State) (h : ∀ s x, (f s x).ins.pages = s.ins.pages ∧ (f s x).fuse.lifecycle = s.fuse.lifecycle) (l : List α) (t s : State)
    (ht : t.ins.pages = s.ins.pages ∧ t.fuse.lifecycle = s.fuse.lifecycle) : (l.foldl f t).ins.pages = s.ins.pages ∧ (l.foldl f t).fuse.lifecycle = s.fuse.lifecycle := by
  induction l generalizing t with
  | nil => exact ht
  | cons a l ih => exact ih _ ⟨(h t a).1.trans ht.1, (h t a).2.trans ht.2⟩
theorem store_trans {a b c : State} (h : a.ins.pages = b.ins.pages ∧ a.fuse.lifecycle = b.fuse.lifecycle) (h' : b.ins.pages = c.ins.pages ∧ b.fuse.lifecycle = c.fuse.lifecycle) :
    a.ins.pages = c.ins.pages ∧ a.fuse.lifecycle = c.fuse.lifecycle := ⟨h.1.trans h'.1, h.2.trans h'.2⟩

theorem foldl_wf {α : Type} (f : State → α → State) (h : ∀ s x, pagesWf s.ins.pages = true → pagesWf (f s x).ins.pages = true) (l : List α) (s : State)
    (hs : pagesWf s.ins.pages = true) : pagesWf (l.foldl f s).ins.pages = true := by
  induction l generalizing s with
  | nil => exact hs
  | cons a l ih => exact ih _ (h s a hs)
@[simp] theorem ite_wf (c : Prop) [Decidable c] (a b : Tab Byte) (ha : pagesWf a = true) (hb : pagesWf b = true) : pagesWf (if c then a else b) = true := by split <;> assumption

@[simp] theorem State.emit_store (s : State) (o : Output) :
    (State.emit s o).ins.pages = s.ins.pages ∧ (State.emit s o).fuse.lifecycle = s.fuse.lifecycle := by
  simp [State.emit]
@[simp] theorem State.used_store (s : State) : (State.used s).ins.pages = s.ins.pages ∧ (State.used s).fuse.lifecycle = s.fuse.lifecycle := by
  simp [State.used]
@[simp] theorem State.reach_store (s : State) (t : Dword) :
    (State.reach s t).ins.pages = s.ins.pages ∧ (State.reach s t).fuse.lifecycle = s.fuse.lifecycle := by
  simp [State.reach]
@[simp] theorem State.bump_store (s : State) (group unit n : Nat) :
    (State.bump s group unit n).ins.pages = s.ins.pages ∧ (State.bump s group unit n).fuse.lifecycle = s.fuse.lifecycle := by
  simp [State.bump]
@[simp] theorem State.modInst_store (s : State) (b : Blk) (a : Nat) (f : Inst → Inst) :
    (State.modInst s b a f).ins.pages = s.ins.pages ∧ (State.modInst s b a f).fuse.lifecycle = s.fuse.lifecycle := by
  simp [State.modInst]
@[simp] theorem State.irq_store (s : State) (b : Blk) (a bit : Nat) :
    (State.irq s b a bit).ins.pages = s.ins.pages ∧ (State.irq s b a bit).fuse.lifecycle = s.fuse.lifecycle := by
  simp [State.irq]
@[simp] theorem State.irqVis_store (s : State) (b : Blk) (p bit : Nat) :
    (State.irqVis s b p bit).ins.pages = s.ins.pages ∧ (State.irqVis s b p bit).fuse.lifecycle = s.fuse.lifecycle := by
  simp [State.irqVis]
@[simp] theorem State.cmdBusy_store (s : State) (b : Blk) (a unit : Nat) :
    (State.cmdBusy s b a unit).ins.pages = s.ins.pages ∧ (State.cmdBusy s b a unit).fuse.lifecycle = s.fuse.lifecycle := by
  simp [State.cmdBusy]
@[simp] theorem State.cmdEnd_store (s : State) (b : Blk) (a unit code : Nat) :
    (State.cmdEnd s b a unit code).ins.pages = s.ins.pages ∧ (State.cmdEnd s b a unit code).fuse.lifecycle = s.fuse.lifecycle := by
  simp [State.cmdEnd]
@[simp] theorem State.cmdIgnored_store (s : State) (b : Blk) (a : Nat) :
    (State.cmdIgnored s b a).ins.pages = s.ins.pages ∧ (State.cmdIgnored s b a).fuse.lifecycle = s.fuse.lifecycle := by
  simp [State.cmdIgnored]
@[simp] theorem State.noAction_store (s : State) (b : Blk) (a : Nat) :
    (State.noAction s b a).ins.pages = s.ins.pages ∧ (State.noAction s b a).fuse.lifecycle = s.fuse.lifecycle := by
  simp [State.noAction]
@[simp] theorem State.command_store (s : State) (b : Blk) (a : Nat) (f : State → State) (h_f : ∀ y0, (f y0).ins.pages = y0.ins.pages ∧ (f y0).fuse.lifecycle = y0.fuse.lifecycle) :
    (State.command s b a f).ins.pages = s.ins.pages ∧ (State.command s b a f).fuse.lifecycle = s.fuse.lifecycle := by
  simp [State.command, h_f]
@[simp] theorem State.raise_store (s : State) (code scope part : Nat) (ctx : Option (BitVec 16)) (o : Obj) :
    (State.raise s code scope part ctx o).ins.pages = s.ins.pages ∧ (State.raise s code scope part ctx o).fuse.lifecycle = s.fuse.lifecycle := by
  simp [State.raise]
@[simp] theorem State.logged_store (s : State) (code part : Nat) (o : Obj) :
    (State.logged s code part o).ins.pages = s.ins.pages ∧ (State.logged s code part o).fuse.lifecycle = s.fuse.lifecycle := by
  simp [State.logged]
@[simp] theorem State.withDrbg_store (s t : State) (h : t.ins.pages = s.ins.pages ∧ t.fuse.lifecycle = s.fuse.lifecycle) :
    (State.withDrbg s t).ins.pages = s.ins.pages ∧ (State.withDrbg s t).fuse.lifecycle = s.fuse.lifecycle := by
  unfold State.withDrbg; split
  · exact h
  · simp
@[simp] theorem State.toPart_store (s : State) (code part : Nat) (o : Obj) :
    (State.toPart s code part o).ins.pages = s.ins.pages ∧ (State.toPart s code part o).fuse.lifecycle = s.fuse.lifecycle := by
  simp [State.toPart]
@[simp] theorem State.alarm_store (s : State) (code : Nat) (o : Obj) :
    (State.alarm s code o).ins.pages = s.ins.pages ∧ (State.alarm s code o).fuse.lifecycle = s.fuse.lifecycle := by
  simp [State.alarm]
@[simp] theorem State.stale_store (s : State) (p : Nat) :
    (State.stale s p).ins.pages = s.ins.pages ∧ (State.stale s p).fuse.lifecycle = s.fuse.lifecycle := by
  simp [State.stale]
@[simp] theorem State.pushLoss_store (s : State) (p : Nat) (tag : BitVec 16) (code : BitVec 16) :
    (State.pushLoss s p tag code).ins.pages = s.ins.pages ∧ (State.pushLoss s p tag code).fuse.lifecycle = s.fuse.lifecycle := by
  simp [State.pushLoss]
@[simp] theorem State.unregister_store (s : State) (tag : Nat) :
    (State.unregister s tag).ins.pages = s.ins.pages ∧ (State.unregister s tag).fuse.lifecycle = s.fuse.lifecycle := by
  simp [State.unregister]
@[simp] theorem State.withdrawWait_store (s : State) (tag : Nat) :
    (State.withdrawWait s tag).ins.pages = s.ins.pages ∧ (State.withdrawWait s tag).fuse.lifecycle = s.fuse.lifecycle := by
  unfold State.withdrawWait; (try dsimp only); (repeat' (first | (simp [*]; done) | (refine foldl_store _ ?_ _ _ _ ?_ <;> intros <;> (try dsimp only)) | split | (apply And.intro)))
@[simp] theorem State.haltTask_store (s : State) (t code : Nat) :
    (State.haltTask s t code).ins.pages = s.ins.pages ∧ (State.haltTask s t code).fuse.lifecycle = s.fuse.lifecycle := by
  unfold State.haltTask
  extract_lets k t k'
  have e : t.ins.pages = s.ins.pages ∧ t.fuse.lifecycle = s.fuse.lifecycle := by
    simp only [t]; cases k.req with
    | none => exact ⟨rfl, rfl⟩
    | some r => exact State.withdrawWait_store s r
  clear_value t
  split <;> simp [e]
@[simp] theorem State.ctxEnds_store (s : State) (p : Nat) (tag : BitVec 16) (code : Nat) :
    (State.ctxEnds s p tag code).ins.pages = s.ins.pages ∧ (State.ctxEnds s p tag code).fuse.lifecycle = s.fuse.lifecycle := by
  simp [State.ctxEnds]
@[simp] theorem State.loseCtx_store (s : State) (p : Nat) (tag : BitVec 16) (code : Nat) (o : Obj) :
    (State.loseCtx s p tag code o).ins.pages = s.ins.pages ∧ (State.loseCtx s p tag code o).fuse.lifecycle = s.fuse.lifecycle := by
  simp [State.loseCtx]
@[simp] theorem State.keepCtx_store (s : State) (p : Nat) (tag : BitVec 16) (code : Nat) (o : Obj) :
    (State.keepCtx s p tag code o).ins.pages = s.ins.pages ∧ (State.keepCtx s p tag code o).fuse.lifecycle = s.fuse.lifecycle := by
  simp [State.keepCtx]
@[simp] theorem State.loseOpt_store (s : State) (p : Nat) (tag : Option (BitVec 16)) (code : Nat) (o : Obj) :
    (State.loseOpt s p tag code o).ins.pages = s.ins.pages ∧ (State.loseOpt s p tag code o).fuse.lifecycle = s.fuse.lifecycle := by
  unfold State.loseOpt; (try dsimp only); (repeat' (first | (simp [*]; done) | (refine foldl_store _ ?_ _ _ _ ?_ <;> intros <;> (try dsimp only)) | split | (apply And.intro)))
@[simp] theorem State.keepOpt_store (s : State) (p : Nat) (tag : Option (BitVec 16)) (code : Nat) (o : Obj) :
    (State.keepOpt s p tag code o).ins.pages = s.ins.pages ∧ (State.keepOpt s p tag code o).fuse.lifecycle = s.fuse.lifecycle := by
  unfold State.keepOpt; (try dsimp only); (repeat' (first | (simp [*]; done) | (refine foldl_store _ ?_ _ _ _ ?_ <;> intros <;> (try dsimp only)) | split | (apply And.intro)))
@[simp] theorem State.setSlot_store (s : State) (n : Nat) (k : Slot) :
    (State.setSlot s n k).ins.pages = s.ins.pages ∧ (State.setSlot s n k).fuse.lifecycle = s.fuse.lifecycle := by
  simp [State.setSlot]
@[simp] theorem State.putKey_store (s : State) (n : Nat) (usage : BitVec 5) (owner : Nat) (level : BitVec 3) (origin : BitVec 2)
    (epoch : BitVec 16) (key : BitVec 512) : (State.putKey s n usage owner level origin epoch key).ins.pages = s.ins.pages ∧ (State.putKey s n usage owner level origin epoch key).fuse.lifecycle = s.fuse.lifecycle := by
  simp [State.putKey]
@[simp] theorem State.genKey_store (s : State) (n : Nat) (usage : BitVec 5) (owner : Nat) (level : BitVec 3) (epoch : BitVec 16) :
    (State.genKey s n usage owner level epoch).ins.pages = s.ins.pages ∧ (State.genKey s n usage owner level epoch).fuse.lifecycle = s.fuse.lifecycle := by
  simp [State.genKey]
@[simp] theorem State.retireSlot_store (s : State) (n : Nat) :
    (State.retireSlot s n).ins.pages = s.ins.pages ∧ (State.retireSlot s n).fuse.lifecycle = s.fuse.lifecycle := by
  simp [State.retireSlot]
@[simp] theorem State.killSlot_store (s : State) (n : Nat) :
    (State.killSlot s n).ins.pages = s.ins.pages ∧ (State.killSlot s n).fuse.lifecycle = s.fuse.lifecycle := by
  simp [State.killSlot]
@[simp] theorem State.killSlots_store (s : State) (l : List Nat) :
    (State.killSlots s l).ins.pages = s.ins.pages ∧ (State.killSlots s l).fuse.lifecycle = s.fuse.lifecycle := by
  simp [State.killSlots]
@[simp] theorem State.cacheKey_store (s : State) (c n : Nat) :
    (State.cacheKey s c n).ins.pages = s.ins.pages ∧ (State.cacheKey s c n).fuse.lifecycle = s.fuse.lifecycle := by
  simp [State.cacheKey]
@[simp] theorem State.passCluster_store (s : State) (c part cycles : Nat) (ctx : Option (BitVec 16)) (slots : List Nat) :
    (State.passCluster s c part cycles ctx slots).ins.pages = s.ins.pages ∧ (State.passCluster s c part cycles ctx slots).fuse.lifecycle = s.fuse.lifecycle := by
  unfold State.passCluster; (try dsimp only); (repeat' (first | (simp [*]; done) | (refine foldl_store _ ?_ _ _ _ ?_ <;> intros <;> (try dsimp only)) | split | (apply And.intro)))
@[simp] theorem State.toHost_store (s : State) (p sub : Nat) (ctx : Option (BitVec 16)) (bytes : List Byte) (o : Option Nat → List Byte → Output) :
    (State.toHost s p sub ctx bytes o).ins.pages = s.ins.pages ∧ (State.toHost s p sub ctx bytes o).fuse.lifecycle = s.fuse.lifecycle := by
  unfold State.toHost; (try dsimp only); (repeat' (first | (simp [*]; done) | (refine foldl_store _ ?_ _ _ _ ?_ <;> intros <;> (try dsimp only)) | split | (apply And.intro)))
@[simp] theorem State.cpl_store (s : State) (fn tag status : Nat) (bytes : List Byte) (ctx : Option (BitVec 16)) :
    (State.cpl s fn tag status bytes ctx).ins.pages = s.ins.pages ∧ (State.cpl s fn tag status bytes ctx).fuse.lifecycle = s.fuse.lifecycle := by
  simp [State.cpl]
@[simp] theorem State.pme_store (s : State) (p cause : Nat) :
    (State.pme s p cause).ins.pages = s.ins.pages ∧ (State.pme s p cause).fuse.lifecycle = s.fuse.lifecycle := by
  simp [State.pme]
@[simp] theorem State.modSeam_store (s : State) (n : Nat) (f : Seam → Seam) :
    (State.modSeam s n f).ins.pages = s.ins.pages ∧ (State.modSeam s n f).fuse.lifecycle = s.fuse.lifecycle := by
  simp [State.modSeam]
@[simp] theorem State.seamEnd_store (s : State) (a n code : Nat) :
    (State.seamEnd s a n code).ins.pages = s.ins.pages ∧ (State.seamEnd s a n code).fuse.lifecycle = s.fuse.lifecycle := by
  simp [State.seamEnd]
@[simp] theorem State.sealDropped_store (s : State) (n : Nat) :
    (State.sealDropped s n).ins.pages = s.ins.pages ∧ (State.sealDropped s n).fuse.lifecycle = s.fuse.lifecycle := by
  simp [State.sealDropped]
@[simp] theorem State.modHz_store (s : State) (p : Nat) (f : Horizon → Horizon) :
    (State.modHz s p f).ins.pages = s.ins.pages ∧ (State.modHz s p f).fuse.lifecycle = s.fuse.lifecycle := by
  simp [State.modHz]
@[simp] theorem State.dropQuiet_store (s : State) (e : Egress) :
    (State.dropQuiet s e).ins.pages = s.ins.pages ∧ (State.dropQuiet s e).fuse.lifecycle = s.fuse.lifecycle := by
  unfold State.dropQuiet; (try dsimp only); (repeat' (first | (simp [*]; done) | (refine foldl_store _ ?_ _ _ _ ?_ <;> intros <;> (try dsimp only)) | split | (apply And.intro)))
@[simp] theorem State.dropEgress_store (s : State) (p : Nat) :
    (State.dropEgress s p).ins.pages = s.ins.pages ∧ (State.dropEgress s p).fuse.lifecycle = s.fuse.lifecycle := by
  simp [State.dropEgress]
@[simp] theorem State.powerCycle_store (s : State) :
    (State.powerCycle s).ins.pages = s.ins.pages ∧ (State.powerCycle s).fuse.lifecycle = s.fuse.lifecycle := by
  simp [State.powerCycle]
@[simp] theorem State.warmDue_store (s : State) :
    (State.warmDue s).ins.pages = s.ins.pages ∧ (State.warmDue s).fuse.lifecycle = s.fuse.lifecycle := by
  simp [State.warmDue]
@[simp] theorem State.chipStep_store (s : State) (code : Nat) :
    (State.chipStep s code).ins.pages = s.ins.pages ∧ (State.chipStep s code).fuse.lifecycle = s.fuse.lifecycle := by
  simp [State.chipStep]
@[simp] theorem State.loseAll_store (s : State) (p : Nat) (code : Nat) :
    (State.loseAll s p code).ins.pages = s.ins.pages ∧ (State.loseAll s p code).fuse.lifecycle = s.fuse.lifecycle := by
  simp [State.loseAll]
@[simp] theorem State.partStep_store (s : State) (p : Nat) (byCmd : Option Nat) :
    (State.partStep s p byCmd).ins.pages = s.ins.pages ∧ (State.partStep s p byCmd).fuse.lifecycle = s.fuse.lifecycle := by
  simp [State.partStep]
@[simp] theorem State.partFault_store (s : State) (code p : Nat) (o : Obj) :
    (State.partFault s code p o).ins.pages = s.ins.pages ∧ (State.partFault s code p o).fuse.lifecycle = s.fuse.lifecycle := by
  simp [State.partFault]
@[simp] theorem State.modShaft_store (s : State) (k : Nat) (f : Shaft → Shaft) :
    (State.modShaft s k f).ins.pages = s.ins.pages ∧ (State.modShaft s k f).fuse.lifecycle = s.fuse.lifecycle := by
  simp [State.modShaft]
@[simp] theorem State.wantDrift_store (s : State) (n cls : Nat) (start : Nat) (front : Bool) :
    (State.wantDrift s n cls start front).ins.pages = s.ins.pages ∧ (State.wantDrift s n cls start front).fuse.lifecycle = s.fuse.lifecycle := by
  unfold State.wantDrift; (try dsimp only); (repeat' (first | (simp [*]; done) | (refine foldl_store _ ?_ _ _ _ ?_ <;> intros <;> (try dsimp only)) | split | (apply And.intro)))
@[simp] theorem State.endSweeps_store (s : State) (n : Nat) :
    (State.endSweeps s n).ins.pages = s.ins.pages ∧ (State.endSweeps s n).fuse.lifecycle = s.fuse.lifecycle := by
  simp [State.endSweeps]
@[simp] theorem State.freezeSeam_store (s : State) (n code : Nat) (o : Obj) :
    (State.freezeSeam s n code o).ins.pages = s.ins.pages ∧ (State.freezeSeam s n code o).fuse.lifecycle = s.fuse.lifecycle := by
  simp [State.freezeSeam]
@[simp] theorem State.countIntegrity_store (s : State) (n : Nat) (o : Obj) :
    (State.countIntegrity s n o).ins.pages = s.ins.pages ∧ (State.countIntegrity s n o).fuse.lifecycle = s.fuse.lifecycle := by
  simp [State.countIntegrity]
@[simp] theorem State.seamCmd_store (s : State) (ap : Aperture) (n : Nat) (f : Nat → State → State) (h_f : ∀ y0 y1, (f y0 y1).ins.pages = y1.ins.pages ∧ (f y0 y1).fuse.lifecycle = y1.fuse.lifecycle) :
    (State.seamCmd s ap n f).ins.pages = s.ins.pages ∧ (State.seamCmd s ap n f).fuse.lifecycle = s.fuse.lifecycle := by
  unfold State.seamCmd; (try dsimp only); (repeat' (first | (simp [*]; done) | (refine foldl_store _ ?_ _ _ _ ?_ <;> intros <;> (try dsimp only)) | (refine store_trans (State.command_store _ _ _ _ ?_ ) ?_ <;> intros <;> (try dsimp only)) | split | (apply And.intro)))
@[simp] theorem State.noKey_store (s : State) (p : Nat) :
    (State.noKey s p).ins.pages = s.ins.pages ∧ (State.noKey s p).fuse.lifecycle = s.fuse.lifecycle := by
  simp [State.noKey]
@[simp] theorem State.zeroCounters_store (s : State) (e : Seam) :
    (State.zeroCounters s e).ins.pages = s.ins.pages ∧ (State.zeroCounters s e).fuse.lifecycle = s.fuse.lifecycle := by
  simp [State.zeroCounters]
@[simp] theorem State.dropVals_store (s : State) (line n : Nat) :
    (State.dropVals s line n).ins.pages = s.ins.pages ∧ (State.dropVals s line n).fuse.lifecycle = s.fuse.lifecycle := by
  simp [State.dropVals]
@[simp] theorem State.createBegin_store (s : State) (a n : Nat) (e : Seam) (fill : Bool) :
    (State.createBegin s a n e fill).ins.pages = s.ins.pages ∧ (State.createBegin s a n e fill).fuse.lifecycle = s.fuse.lifecycle := by
  simp [State.createBegin]
@[simp] theorem seamCreate_store (ap : Aperture) (n : Nat) (s : State) :
    (seamCreate ap n s).ins.pages = s.ins.pages ∧ (seamCreate ap n s).fuse.lifecycle = s.fuse.lifecycle := by
  unfold seamCreate; (try dsimp only); (repeat' (first | (simp [*]; done) | (refine foldl_store _ ?_ _ _ _ ?_ <;> intros <;> (try dsimp only)) | (refine store_trans (State.command_store _ _ _ _ ?_ ) ?_ <;> intros <;> (try dsimp only)) | split | (apply And.intro)))
@[simp] theorem State.seamReady_store (s : State) (n : Nat) (st : SeamState) :
    (State.seamReady s n st).ins.pages = s.ins.pages ∧ (State.seamReady s n st).fuse.lifecycle = s.fuse.lifecycle := by
  simp [State.seamReady]
@[simp] theorem seamCreateDone_store (n : Nat) (s : State) :
    (seamCreateDone n s).ins.pages = s.ins.pages ∧ (seamCreateDone n s).fuse.lifecycle = s.fuse.lifecycle := by
  simp [seamCreateDone]
@[simp] theorem seamFillDone_store (n : Nat) (s : State) :
    (seamFillDone n s).ins.pages = s.ins.pages ∧ (seamFillDone n s).fuse.lifecycle = s.fuse.lifecycle := by
  unfold seamFillDone; (try dsimp only); (repeat' (first | (simp [*]; done) | (refine foldl_store _ ?_ _ _ _ ?_ <;> intros <;> (try dsimp only)) | split | (apply And.intro)))
@[simp] theorem State.hold_store (s : State) (p : Nat) (pt : EgressPoint) (ctx : Option (BitVec 16)) (c : Cargo) :
    (State.hold s p pt ctx c).ins.pages = s.ins.pages ∧ (State.hold s p pt ctx c).fuse.lifecycle = s.fuse.lifecycle := by
  simp [State.hold]
@[simp] theorem State.sealBy_store (s : State) (a n : Nat) (ctx : Option (BitVec 16)) :
    (State.sealBy s a n ctx).ins.pages = s.ins.pages ∧ (State.sealBy s a n ctx).fuse.lifecycle = s.fuse.lifecycle := by
  simp [State.sealBy]
@[simp] theorem seamSeal_store (ap : Aperture) (n : Nat) (s : State) :
    (seamSeal ap n s).ins.pages = s.ins.pages ∧ (seamSeal ap n s).fuse.lifecycle = s.fuse.lifecycle := by
  simp [seamSeal]
@[simp] theorem sealPoint_store (n : Nat) (s : State) :
    (sealPoint n s).ins.pages = s.ins.pages ∧ (sealPoint n s).fuse.lifecycle = s.fuse.lifecycle := by
  unfold sealPoint; (try dsimp only); (repeat' (first | (simp [*]; done) | (refine foldl_store _ ?_ _ _ _ ?_ <;> intros <;> (try dsimp only)) | split | (apply And.intro)))
@[simp] theorem State.nextKeys_store (s : State) (n : Nat) :
    (State.nextKeys s n).ins.pages = s.ins.pages ∧ (State.nextKeys s n).fuse.lifecycle = s.fuse.lifecycle := by
  simp [State.nextKeys]
@[simp] theorem State.swapSlots_store (s : State) (n : Nat) :
    (State.swapSlots s n).ins.pages = s.ins.pages ∧ (State.swapSlots s n).fuse.lifecycle = s.fuse.lifecycle := by
  simp [State.swapSlots]
@[simp] theorem State.unsealGo_store (s : State) (n : Nat) :
    (State.unsealGo s n).ins.pages = s.ins.pages ∧ (State.unsealGo s n).fuse.lifecycle = s.fuse.lifecycle := by
  unfold State.unsealGo; (try dsimp only); (repeat' (first | (simp [*]; done) | (refine foldl_store _ ?_ _ _ _ ?_ <;> intros <;> (try dsimp only)) | split | (apply And.intro)))
@[simp] theorem seamUnseal_store (ap : Aperture) (n : Nat) (s : State) :
    (seamUnseal ap n s).ins.pages = s.ins.pages ∧ (seamUnseal ap n s).fuse.lifecycle = s.fuse.lifecycle := by
  simp [seamUnseal]
@[simp] theorem seamRekey_store (ap : Aperture) (n : Nat) (s : State) :
    (seamRekey ap n s).ins.pages = s.ins.pages ∧ (seamRekey ap n s).fuse.lifecycle = s.fuse.lifecycle := by
  unfold seamRekey; (try dsimp only); (repeat' (first | (simp [*]; done) | (refine foldl_store _ ?_ _ _ _ ?_ <;> intros <;> (try dsimp only)) | (refine store_trans (State.seamCmd_store _ _ _ _ ?_ ) ?_ <;> intros <;> (try dsimp only)) | split | (apply And.intro)))
@[simp] theorem State.endCommand_store (s : State) (n : Nat) :
    (State.endCommand s n).ins.pages = s.ins.pages ∧ (State.endCommand s n).fuse.lifecycle = s.fuse.lifecycle := by
  unfold State.endCommand; (try dsimp only); (repeat' (first | (simp [*]; done) | (refine foldl_store _ ?_ _ _ _ ?_ <;> intros <;> (try dsimp only)) | split | (apply And.intro)))
@[simp] theorem State.retireSeam_store (s : State) (n : Nat) :
    (State.retireSeam s n).ins.pages = s.ins.pages ∧ (State.retireSeam s n).fuse.lifecycle = s.fuse.lifecycle := by
  unfold State.retireSeam; (try dsimp only); (repeat' (first | (simp [*]; done) | (refine foldl_store _ ?_ _ _ _ ?_ <;> intros <;> (try dsimp only)) | split | (apply And.intro)))
@[simp] theorem seamRetire_store (ap : Aperture) (n : Nat) (s : State) :
    (seamRetire ap n s).ins.pages = s.ins.pages ∧ (seamRetire ap n s).fuse.lifecycle = s.fuse.lifecycle := by
  unfold seamRetire; (try dsimp only); (repeat' (first | (simp [*]; done) | (refine foldl_store _ ?_ _ _ _ ?_ <;> intros <;> (try dsimp only)) | (refine store_trans (State.seamCmd_store _ _ _ _ ?_ ) ?_ <;> intros <;> (try dsimp only)) | split | (apply And.intro)))
@[simp] theorem seamDead_store (n : Nat) (s : State) : (seamDead n s).ins.pages = s.ins.pages ∧ (seamDead n s).fuse.lifecycle = s.fuse.lifecycle := by
  simp [seamDead]
@[simp] theorem seamUnfreeze_store (ap : Aperture) (n : Nat) (s : State) :
    (seamUnfreeze ap n s).ins.pages = s.ins.pages ∧ (seamUnfreeze ap n s).fuse.lifecycle = s.fuse.lifecycle := by
  unfold seamUnfreeze; (try dsimp only); (repeat' (first | (simp [*]; done) | (refine foldl_store _ ?_ _ _ _ ?_ <;> intros <;> (try dsimp only)) | (refine store_trans (State.seamCmd_store _ _ _ _ ?_ ) ?_ <;> intros <;> (try dsimp only)) | split | (apply And.intro)))
@[simp] theorem State.startSweep_store (s : State) (k : Nat) (w : Sweep) :
    (State.startSweep s k w).ins.pages = s.ins.pages ∧ (State.startSweep s k w).fuse.lifecycle = s.fuse.lifecycle := by
  simp [State.startSweep]
@[simp] theorem driftStart_store (k : Nat) (s : State) :
    (driftStart k s).ins.pages = s.ins.pages ∧ (driftStart k s).fuse.lifecycle = s.fuse.lifecycle := by
  unfold driftStart; (try dsimp only); (repeat' (first | (simp [*]; done) | (refine foldl_store _ ?_ _ _ _ ?_ <;> intros <;> (try dsimp only)) | split | (apply And.intro)))
@[simp] theorem State.driftDone_store (s : State) (k n : Nat) :
    (State.driftDone s k n).ins.pages = s.ins.pages ∧ (State.driftDone s k n).fuse.lifecycle = s.fuse.lifecycle := by
  simp [State.driftDone]
@[simp] theorem periodicDriftDue_store (n : Nat) (s : State) :
    (periodicDriftDue n s).ins.pages = s.ins.pages ∧ (periodicDriftDue n s).fuse.lifecycle = s.fuse.lifecycle := by
  simp [periodicDriftDue]
@[simp] theorem rekeyOverrun_store (n : Nat) (s : State) :
    (rekeyOverrun n s).ins.pages = s.ins.pages ∧ (rekeyOverrun n s).fuse.lifecycle = s.fuse.lifecycle := by
  unfold rekeyOverrun; (try dsimp only); (repeat' (first | (simp [*]; done) | (refine foldl_store _ ?_ _ _ _ ?_ <;> intros <;> (try dsimp only)) | split | (apply And.intro)))
@[simp] theorem budgetWindowClose_store (n : Nat) (s : State) :
    (budgetWindowClose n s).ins.pages = s.ins.pages ∧ (budgetWindowClose n s).fuse.lifecycle = s.fuse.lifecycle := by
  unfold budgetWindowClose; (try dsimp only); (repeat' (first | (simp [*]; done) | (refine foldl_store _ ?_ _ _ _ ?_ <;> intros <;> (try dsimp only)) | split | (apply And.intro)))
theorem seamEntryWrite_store (s : State) (n : Nat) (w : BitVec 256) {t_ : State} (e_ : seamEntryWrite s n w = some t_) : t_.ins.pages = s.ins.pages ∧ t_.fuse.lifecycle = s.fuse.lifecycle := by
  first | (unfold seamEntryWrite at e_; (try dsimp only at e_); (repeat' (first | contradiction | (simp only [Option.map_eq_some_iff, Option.bind_eq_some_iff, Option.some.injEq, Prod.mk.injEq] at e_; simp_all; done) | (cases e_; simp; done) | split at e_)); done) | (simp only [seamEntryWrite, Option.map_eq_some_iff, Prod.mk.injEq] at e_; obtain ⟨_, _, rfl, rfl⟩ := e_; simp; done) | (simp only [seamEntryWrite, Option.map_eq_some_iff] at e_; obtain ⟨_, _, rfl⟩ := e_; simp; done) | (grind [seamEntryWrite])
@[simp] theorem seamEntryWrite_sgetD (s : State) (n : Nat) (w : BitVec 256) (u_ : State) (h_ : u_.ins.pages = s.ins.pages ∧ u_.fuse.lifecycle = s.fuse.lifecycle) :
    ((seamEntryWrite s n w).getD u_).ins.pages = s.ins.pages ∧ ((seamEntryWrite s n w).getD u_).fuse.lifecycle = s.fuse.lifecycle := by
  cases e_ : seamEntryWrite s n w with
  | none => exact h_
  | some t_ => exact seamEntryWrite_store _ _ _ e_
@[simp] theorem State.modSite_store (s : State) (t : Nat) (f : Site → Site) :
    (State.modSite s t f).ins.pages = s.ins.pages ∧ (State.modSite s t f).fuse.lifecycle = s.fuse.lifecycle := by
  simp [State.modSite]
@[simp] theorem State.modSio_store (s : State) (t : Nat) (f : SiteIo → SiteIo) :
    (State.modSio s t f).ins.pages = s.ins.pages ∧ (State.modSio s t f).fuse.lifecycle = s.fuse.lifecycle := by
  simp [State.modSio]
theorem State.putLink_store (s : State) (epoch : BitVec 16) (key : BitVec 512) {a_ : Nat} {t_ : State} (e_ : State.putLink s epoch key = some (a_, t_)) : t_.ins.pages = s.ins.pages ∧ t_.fuse.lifecycle = s.fuse.lifecycle := by
  first | (unfold State.putLink at e_; (try dsimp only at e_); (repeat' (first | contradiction | (simp only [Option.map_eq_some_iff, Option.bind_eq_some_iff, Option.some.injEq, Prod.mk.injEq] at e_; simp_all; done) | (cases e_; simp; done) | split at e_)); done) | (simp only [State.putLink, Option.map_eq_some_iff, Prod.mk.injEq] at e_; obtain ⟨_, _, rfl, rfl⟩ := e_; simp; done) | (simp only [State.putLink, Option.map_eq_some_iff] at e_; obtain ⟨_, _, rfl⟩ := e_; simp; done) | (grind [State.putLink, State.putKey_store])
@[simp] theorem State.putFrame_store (s : State) (t : Nat) (b : List Byte) :
    (State.putFrame s t b).ins.pages = s.ins.pages ∧ (State.putFrame s t b).fuse.lifecycle = s.fuse.lifecycle := by
  simp [State.putFrame]
@[simp] theorem State.fillFlit_store (s : State) (t : Nat) :
    (State.fillFlit s t).ins.pages = s.ins.pages ∧ (State.fillFlit s t).fuse.lifecycle = s.fuse.lifecycle := by
  simp [State.fillFlit]
@[simp] theorem State.sendFrame_store (s : State) (t : Nat) (f : OutFrame) :
    (State.sendFrame s t f).ins.pages = s.ins.pages ∧ (State.sendFrame s t f).fuse.lifecycle = s.fuse.lifecycle := by
  simp [State.sendFrame]
@[simp] theorem State.advanceTx_store (s : State) (t : Nat) :
    (State.advanceTx s t).ins.pages = s.ins.pages ∧ (State.advanceTx s t).fuse.lifecycle = s.fuse.lifecycle := by
  unfold State.advanceTx; (try dsimp only); (repeat' (first | (simp [*]; done) | (have e_1 := State.putLink_store _ _ _ (by assumption); simp [*]; done) | (refine foldl_store _ ?_ _ _ _ ?_ <;> intros <;> (try dsimp only)) | split | (apply And.intro)))
@[simp] theorem State.txFrame_store (s : State) (t : Nat) (f : OutFrame) :
    (State.txFrame s t f).ins.pages = s.ins.pages ∧ (State.txFrame s t f).fuse.lifecycle = s.fuse.lifecycle := by
  simp [State.txFrame]
@[simp] theorem State.ctrl_store (s : State) (t code : Nat) (payload : List Byte) :
    (State.ctrl s t code payload).ins.pages = s.ins.pages ∧ (State.ctrl s t code payload).fuse.lifecycle = s.fuse.lifecycle := by
  simp [State.ctrl]
@[simp] theorem State.boot_store (s : State) (t code : Nat) (msg : List Byte) :
    (State.boot s t code msg).ins.pages = s.ins.pages ∧ (State.boot s t code msg).fuse.lifecycle = s.fuse.lifecycle := by
  simp [State.boot]
@[simp] theorem State.endSlotOp_store (s : State) (t tag : Nat) :
    (State.endSlotOp s t tag).ins.pages = s.ins.pages ∧ (State.endSlotOp s t tag).fuse.lifecycle = s.fuse.lifecycle := by
  simp [State.endSlotOp]
@[simp] theorem State.sendRsp_store (s : State) (t : Nat) (f : OutFrame) :
    (State.sendRsp s t f).ins.pages = s.ins.pages ∧ (State.sendRsp s t f).fuse.lifecycle = s.fuse.lifecycle := by
  unfold State.sendRsp; (try dsimp only); (repeat' (first | (simp [*]; done) | (refine foldl_store _ ?_ _ _ _ ?_ <;> intros <;> (try dsimp only)) | split | (apply And.intro)))
@[simp] theorem State.respond_store (s : State) (t : Nat) (f : OutFrame) :
    (State.respond s t f).ins.pages = s.ins.pages ∧ (State.respond s t f).fuse.lifecycle = s.fuse.lifecycle := by
  simp [State.respond]
@[simp] theorem State.answered_store (s : State) (t tag : Nat) :
    (State.answered s t tag).ins.pages = s.ins.pages ∧ (State.answered s t tag).fuse.lifecycle = s.fuse.lifecycle := by
  simp [State.answered]
@[simp] theorem State.cmpl_store (s : State) (t tag status : Nat) :
    (State.cmpl s t tag status).ins.pages = s.ins.pages ∧ (State.cmpl s t tag status).fuse.lifecycle = s.fuse.lifecycle := by
  simp [State.cmpl]
@[simp] theorem State.rsp_store (s : State) (t : Nat) (o : SlotOp) (status : Nat) (poison : Bool) (data : List Byte) :
    (State.rsp s t o status poison data).ins.pages = s.ins.pages ∧ (State.rsp s t o status poison data).fuse.lifecycle = s.fuse.lifecycle := by
  simp [State.rsp]
@[simp] theorem State.modPort_store (s : State) (p : Nat) (f : Port → Port) :
    (State.modPort s p f).ins.pages = s.ins.pages ∧ (State.modPort s p f).fuse.lifecycle = s.fuse.lifecycle := by
  simp [State.modPort]
@[simp] theorem State.modPio_store (s : State) (p : Nat) (f : PortIo → PortIo) :
    (State.modPio s p f).ins.pages = s.ins.pages ∧ (State.modPio s p f).fuse.lifecycle = s.fuse.lifecycle := by
  simp [State.modPio]
@[simp] theorem State.dropAt_store (s : State) (p : Nat) :
    (State.dropAt s p).ins.pages = s.ins.pages ∧ (State.dropAt s p).fuse.lifecycle = s.fuse.lifecycle := by
  simp [State.dropAt]
@[simp] theorem State.modNode_store (s : State) (n : Nat) (f : NodeEnt → NodeEnt) :
    (State.modNode s n f).ins.pages = s.ins.pages ∧ (State.modNode s n f).fuse.lifecycle = s.fuse.lifecycle := by
  simp [State.modNode]
@[simp] theorem State.putTx_store (s : State) (f : FlowTx) :
    (State.putTx s f).ins.pages = s.ins.pages ∧ (State.putTx s f).fuse.lifecycle = s.fuse.lifecycle := by
  simp [State.putTx]
@[simp] theorem State.codeword_store (s : State) (port : Nat) (b : List Byte) :
    (State.codeword s port b).ins.pages = s.ins.pages ∧ (State.codeword s port b).fuse.lifecycle = s.fuse.lifecycle := by
  simp [State.codeword]
@[simp] theorem State.putOnWire_store (s : State) (port payload : Nat) (b : List Byte) (vl : Nat) :
    (State.putOnWire s port payload b vl).ins.pages = s.ins.pages ∧ (State.putOnWire s port payload b vl).fuse.lifecycle = s.fuse.lifecycle := by
  unfold State.putOnWire; (try dsimp only); (repeat' (first | (simp [*]; done) | (refine foldl_store _ ?_ _ _ _ ?_ <;> intros <;> (try dsimp only)) | split | (apply And.intro)))
@[simp] theorem State.transmit_store (s : State) (port : Nat) (p : Packet) :
    (State.transmit s port p).ins.pages = s.ins.pages ∧ (State.transmit s port p).fuse.lifecycle = s.fuse.lifecycle := by
  unfold State.transmit; (try dsimp only); (repeat' (first | (simp [*]; done) | (refine foldl_store _ ?_ _ _ _ ?_ <;> intros <;> (try dsimp only)) | split | (apply And.intro)))
@[simp] theorem State.sendItem_store (s : State) (port : Nat) (x : Queued) :
    (State.sendItem s port x).ins.pages = s.ins.pages ∧ (State.sendItem s port x).fuse.lifecycle = s.fuse.lifecycle := by
  unfold State.sendItem; (try dsimp only); (repeat' (first | (simp [*]; done) | (refine foldl_store _ ?_ _ _ _ ?_ <;> intros <;> (try dsimp only)) | split | (apply And.intro)))
@[simp] theorem State.drainTx_store (s : State) (port : Nat) :
    (State.drainTx s port).ins.pages = s.ins.pages ∧ (State.drainTx s port).fuse.lifecycle = s.fuse.lifecycle := by
  unfold State.drainTx; (try dsimp only); (repeat' (first | (simp [*]; done) | (refine foldl_store _ ?_ _ _ _ ?_ <;> intros <;> (try dsimp only)) | split | (apply And.intro)))
@[simp] theorem State.present_store (s : State) (port : Nat) (x : Queued) :
    (State.present s port x).ins.pages = s.ins.pages ∧ (State.present s port x).fuse.lifecycle = s.fuse.lifecycle := by
  simp [State.present]
@[simp] theorem State.sendClear_store (s : State) (port : Nat) (p : Packet) :
    (State.sendClear s port p).ins.pages = s.ins.pages ∧ (State.sendClear s port p).fuse.lifecycle = s.fuse.lifecycle := by
  simp [State.sendClear]
@[simp] theorem State.answerTo_store (s : State) (a : Answer) (dst : Nat) (fmt : Nat) (ctx : Option (BitVec 16)) :
    (State.answerTo s a dst fmt ctx).ins.pages = s.ins.pages ∧ (State.answerTo s a dst fmt ctx).fuse.lifecycle = s.fuse.lifecycle := by
  unfold State.answerTo; (try dsimp only); (repeat' (first | (simp [*]; done) | (refine foldl_store _ ?_ _ _ _ ?_ <;> intros <;> (try dsimp only)) | split | (apply And.intro)))
@[simp] theorem State.modTarget_store (s : State) (t : Nat) (f : Target → Target) :
    (State.modTarget s t f).ins.pages = s.ins.pages ∧ (State.modTarget s t f).fuse.lifecycle = s.fuse.lifecycle := by
  simp [State.modTarget]
@[simp] theorem State.faceRefused_store (s : State) (part code : Nat) :
    (State.faceRefused s part code).ins.pages = s.ins.pages ∧ (State.faceRefused s part code).fuse.lifecycle = s.fuse.lifecycle := by
  simp [State.faceRefused]
@[simp] theorem State.opFault_store (s : State) (part : Nat) (ctx : Option (BitVec 16)) (code : Nat) (o : Obj) :
    (State.opFault s part ctx code o).ins.pages = s.ins.pages ∧ (State.opFault s part ctx code o).fuse.lifecycle = s.fuse.lifecycle := by
  simp [State.opFault]
@[simp] theorem State.markFailed_store (s : State) (e : Engine) (part : Nat) (ctx : Option (BitVec 16)) :
    (State.markFailed s e part ctx).ins.pages = s.ins.pages ∧ (State.markFailed s e part ctx).fuse.lifecycle = s.fuse.lifecycle := by
  unfold State.markFailed; (try dsimp only); (repeat' (first | (simp [*]; done) | (refine foldl_store _ ?_ _ _ _ ?_ <;> intros <;> (try dsimp only)) | split | (apply And.intro)))
@[simp] theorem State.dropHome_store (s : State) (n : Nat) :
    (State.dropHome s n).ins.pages = s.ins.pages ∧ (State.dropHome s n).fuse.lifecycle = s.fuse.lifecycle := by
  simp [State.dropHome]
@[simp] theorem State.cartFailed_store (s : State) (r : Req) :
    (State.cartFailed s r).ins.pages = s.ins.pages ∧ (State.cartFailed s r).fuse.lifecycle = s.fuse.lifecycle := by
  simp [State.cartFailed]
@[simp] theorem State.modTask_store (s : State) (t : Nat) (f : Task → Task) :
    (State.modTask s t f).ins.pages = s.ins.pages ∧ (State.modTask s t f).fuse.lifecycle = s.fuse.lifecycle := by
  simp [State.modTask]
@[simp] theorem State.stepDone_store (s : State) (t : Nat) (next : Nat) :
    (State.stepDone s t next).ins.pages = s.ins.pages ∧ (State.stepDone s t next).fuse.lifecycle = s.fuse.lifecycle := by
  simp [State.stepDone]
@[simp] theorem State.wakePme_store (s : State) (r : Req) (code : Nat) :
    (State.wakePme s r code).ins.pages = s.ins.pages ∧ (State.wakePme s r code).fuse.lifecycle = s.fuse.lifecycle := by
  simp [State.wakePme]
@[simp] theorem State.giveResult_store (s : State) (r : Req) (status : Nat) (code : Nat) (poison : Bool) (data : List Byte) :
    (State.giveResult s r status code poison data).ins.pages = s.ins.pages ∧ (State.giveResult s r status code poison data).fuse.lifecycle = s.fuse.lifecycle := by
  unfold State.giveResult; (try dsimp only); (repeat' (first | (simp [*]; done) | (refine foldl_store _ ?_ _ _ _ ?_ <;> intros <;> (try dsimp only)) | split | (apply And.intro)))
@[simp] theorem State.dropReq_store (s : State) (r : Req) :
    (State.dropReq s r).ins.pages = s.ins.pages ∧ (State.dropReq s r).fuse.lifecycle = s.fuse.lifecycle := by
  simp [State.dropReq]
@[simp] theorem State.endReq_store (s : State) (r : Req) (code : Nat) (poison : Bool) (data : List Byte) (early : Bool := false) :
    (State.endReq s r code poison data early).ins.pages = s.ins.pages ∧ (State.endReq s r code poison data early).fuse.lifecycle = s.fuse.lifecycle := by
  simp [State.endReq]
@[simp] theorem State.finishReq_store (s : State) (r : Req) (code : Nat) (poison : Bool) (data : List Byte) (k : Nat := 0) (early : Bool := false) :
    (State.finishReq s r code poison data k early).ins.pages = s.ins.pages ∧ (State.finishReq s r code poison data k early).fuse.lifecycle = s.fuse.lifecycle := by
  simp [State.finishReq]
theorem State.sendReq_store (s : State) (r : Req) (q : Nat) {t_ : State} (e_ : State.sendReq s r q = some t_) : t_.ins.pages = s.ins.pages ∧ t_.fuse.lifecycle = s.fuse.lifecycle := by
  unfold State.sendReq at e_
  split at e_
  · cases e_; exact ⟨rfl, rfl⟩
  · simp only [Option.map_eq_some_iff] at e_
    obtain ⟨_, _, rfl⟩ := e_
    simp
@[simp] theorem State.sendReq_sgetD (s : State) (r : Req) (q : Nat) (u_ : State) (h_ : u_.ins.pages = s.ins.pages ∧ u_.fuse.lifecycle = s.fuse.lifecycle) :
    ((State.sendReq s r q).getD u_).ins.pages = s.ins.pages ∧ ((State.sendReq s r q).getD u_).fuse.lifecycle = s.fuse.lifecycle := by
  cases e_ : State.sendReq s r q with
  | none => exact h_
  | some t_ => exact State.sendReq_store _ _ _ e_
theorem State.issueReq_store (s : State) (eng : Engine) (op : Op) (ext : Nat) (seq : Dword) (held : Bool) {t_ : State} (e_ : State.issueReq s eng op ext seq held = some t_) : t_.ins.pages = s.ins.pages ∧ t_.fuse.lifecycle = s.fuse.lifecycle := by
  unfold State.issueReq at e_
  split at e_
  · contradiction
  · simp only [Option.map_eq_some_iff] at e_
    obtain ⟨_, _, rfl⟩ := e_
    (repeat' split) <;> simp
@[simp] theorem State.issueReq_sgetD (s : State) (eng : Engine) (op : Op) (ext : Nat) (seq : Dword) (held : Bool) (u_ : State) (h_ : u_.ins.pages = s.ins.pages ∧ u_.fuse.lifecycle = s.fuse.lifecycle) :
    ((State.issueReq s eng op ext seq held).getD u_).ins.pages = s.ins.pages ∧ ((State.issueReq s eng op ext seq held).getD u_).fuse.lifecycle = s.fuse.lifecycle := by
  cases e_ : State.issueReq s eng op ext seq held with
  | none => exact h_
  | some t_ => exact State.issueReq_store _ _ _ _ _ _ e_
@[simp] theorem State.modReq_store (s : State) (tag : Nat) (f : Req → Req) :
    (State.modReq s tag f).ins.pages = s.ins.pages ∧ (State.modReq s tag f).fuse.lifecycle = s.fuse.lifecycle := by
  simp [State.modReq]
theorem State.takeAnswer_store (s : State) (tag : Nat) (p : Answer → Bool) {a_ : Answer} {t_ : State} (e_ : State.takeAnswer s tag p = some (a_, t_)) : t_.ins.pages = s.ins.pages ∧ t_.fuse.lifecycle = s.fuse.lifecycle := by
  first | (unfold State.takeAnswer at e_; (try dsimp only at e_); (repeat' (first | contradiction | (simp only [Option.map_eq_some_iff, Option.bind_eq_some_iff, Option.some.injEq, Prod.mk.injEq] at e_; simp_all; done) | (cases e_; simp; done) | split at e_)); done) | (simp only [State.takeAnswer, Option.map_eq_some_iff, Prod.mk.injEq] at e_; obtain ⟨_, _, rfl, rfl⟩ := e_; simp; done) | (simp only [State.takeAnswer, Option.map_eq_some_iff] at e_; obtain ⟨_, _, rfl⟩ := e_; simp; done) | (grind [State.takeAnswer])
@[simp] theorem State.strayAnswer_store (s : State) (a : Answer) :
    (State.strayAnswer s a).ins.pages = s.ins.pages ∧ (State.strayAnswer s a).fuse.lifecycle = s.fuse.lifecycle := by
  unfold State.strayAnswer; (try dsimp only); (repeat' (first | (simp [*]; done) | (refine foldl_store _ ?_ _ _ _ ?_ <;> intros <;> (try dsimp only)) | split | (apply And.intro)))
@[simp] theorem State.flowAnswered_store (s : State) (r : Req) :
    (State.flowAnswered s r).ins.pages = s.ins.pages ∧ (State.flowAnswered s r).fuse.lifecycle = s.fuse.lifecycle := by
  simp [State.flowAnswered]
@[simp] theorem answerReceive_store (tag : Nat) (s : State) :
    (answerReceive tag s).ins.pages = s.ins.pages ∧ (answerReceive tag s).fuse.lifecycle = s.fuse.lifecycle := by
  unfold answerReceive; (try dsimp only); (repeat' (first | (simp [*]; done) | (have e_1 := State.takeAnswer_store _ _ _ (by assumption); simp [*]; done) | (refine foldl_store _ ?_ _ _ _ ?_ <;> intros <;> (try dsimp only)) | split | (apply And.intro)))
@[simp] theorem State.failAll_store (s : State) (node code : Nat) :
    (State.failAll s node code).ins.pages = s.ins.pages ∧ (State.failAll s node code).fuse.lifecycle = s.fuse.lifecycle := by
  simp [State.failAll]
@[simp] theorem State.declareDead_store (s : State) (n cause : Nat) :
    (State.declareDead s n cause).ins.pages = s.ins.pages ∧ (State.declareDead s n cause).fuse.lifecycle = s.fuse.lifecycle := by
  simp [State.declareDead]
@[simp] theorem State.fenceResult_store (s : State) (e : Engine) (part : Nat) (ctx : BitVec 16) :
    (State.fenceResult s e part ctx).1.ins.pages = s.ins.pages ∧ (State.fenceResult s e part ctx).1.fuse.lifecycle = s.fuse.lifecycle := by
  unfold State.fenceResult; (try dsimp only); (repeat' (first | (simp [*]; done) | (refine foldl_store _ ?_ _ _ _ ?_ <;> intros <;> (try dsimp only)) | split | (apply And.intro)))
@[simp] theorem State.modSlice_store (s : State) (q : Nat) (f : Slice → Slice) :
    (State.modSlice s q f).ins.pages = s.ins.pages ∧ (State.modSlice s q f).fuse.lifecycle = s.fuse.lifecycle := by
  simp [State.modSlice]
@[simp] theorem State.insCapture_store (s : State) (q word area : Nat) (uncorr : Bool) :
    (State.insCapture s q word area uncorr).ins.pages = s.ins.pages ∧ (State.insCapture s q word area uncorr).fuse.lifecycle = s.fuse.lifecycle := by
  simp [State.insCapture]
@[simp] theorem State.insCorr_store (s : State) (q word area : Nat) :
    (State.insCorr s q word area).ins.pages = s.ins.pages ∧ (State.insCorr s q word area).fuse.lifecycle = s.fuse.lifecycle := by
  simp [State.insCorr]
@[simp] theorem State.insUncorr_store (s : State) (q word area : Nat) :
    (State.insUncorr s q word area).ins.pages = s.ins.pages ∧ (State.insUncorr s q word area).fuse.lifecycle = s.fuse.lifecycle := by
  simp [State.insUncorr]
@[simp] theorem State.insWord_store (s : State) (q word area : Nat) (e : Ecc) :
    (State.insWord s q word area e).1.ins.pages = s.ins.pages ∧ (State.insWord s q word area e).1.fuse.lifecycle = s.fuse.lifecycle := by
  unfold State.insWord; (try dsimp only); (repeat' (first | (simp [*]; done) | (refine foldl_store _ ?_ _ _ _ ?_ <;> intros <;> (try dsimp only)) | split | (apply And.intro)))
@[simp] theorem State.insWords_store (s : State) (q : Nat) (words : List Nat) (area : Nat) (e : Ecc) :
    (State.insWords s q words area e).1.ins.pages = s.ins.pages ∧ (State.insWords s q words area e).1.fuse.lifecycle = s.fuse.lifecycle := by
  unfold State.insWords; (try dsimp only); (repeat' (first | (simp [*]; done) | (refine foldl_store _ ?_ _ _ _ ?_ <;> intros <;> (try dsimp only)) | split | (apply And.intro)))
@[simp] theorem State.putCb_store (s : State) (key : Nat) (b : Line) :
    (State.putCb s key b).ins.pages = s.ins.pages ∧ (State.putCb s key b).fuse.lifecycle = s.fuse.lifecycle := by
  simp [State.putCb]
@[simp] theorem State.loseCounter_store (s : State) (k n page w : Nat) :
    (State.loseCounter s k n page w).ins.pages = s.ins.pages ∧ (State.loseCounter s k n page w).fuse.lifecycle = s.fuse.lifecycle := by
  simp [State.loseCounter]
@[simp] theorem State.lineRewritten_store (s : State) (k n page i : Nat) :
    (State.lineRewritten s k n page i).ins.pages = s.ins.pages ∧ (State.lineRewritten s k n page i).fuse.lifecycle = s.fuse.lifecycle := by
  simp [State.lineRewritten]
@[simp] theorem State.markDirty_store (s : State) (k p bit : Nat) :
    (State.markDirty s k p bit).ins.pages = s.ins.pages ∧ (State.markDirty s k p bit).fuse.lifecycle = s.fuse.lifecycle := by
  simp [State.markDirty]
@[simp] theorem State.writeInner_life (s : State) (p addr : Nat) (l : List (Option Byte)) :
    (State.writeInner s p addr l).fuse.lifecycle = s.fuse.lifecycle := by
  unfold State.writeInner; (try dsimp only); (repeat' (first | (simp [*]; done) | split))
@[simp] theorem State.writeInner_wf (s : State) (p addr : Nat) (l : List (Option Byte)) (h_ : pagesWf s.ins.pages = true) : pagesWf (State.writeInner s p addr l).ins.pages = true := by
  have key : pagesWf ((l.zip (List.range l.length)).foldl (fun (t : Tab Byte) (x : Option Byte × Nat) => match x.1 with
      | some b => putInner t (addr % 2 ^ 44 + x.2) b
      | none => t) s.ins.pages) = true := by
    refine putInners_wf _ _ ?_ _ h_
    intro t x h
    split
    · exact putInner_wf _ _ _ h
    · exact h
  unfold State.writeInner
  dsimp only
  split
  · rw [(State.markDirty_store _ _ _ _).1]; exact key
  · exact key
@[simp] theorem State.putTally_store (s : State) (n : Nat) (r : TallyRec) :
    (State.putTally s n r).ins.pages = s.ins.pages ∧ (State.putTally s n r).fuse.lifecycle = s.fuse.lifecycle := by
  simp [State.putTally]
@[simp] theorem State.answerWait_store (s : State) (g : Registration) (code : Nat) (v : Dword) :
    (State.answerWait s g code v).ins.pages = s.ins.pages ∧ (State.answerWait s g code v).fuse.lifecycle = s.fuse.lifecycle := by
  simp [State.answerWait]
@[simp] theorem State.releaseWaits_store (s : State) (n : Nat) (p : Registration → Bool) (code : Nat) (v : Dword) :
    (State.releaseWaits s n p code v).ins.pages = s.ins.pages ∧ (State.releaseWaits s n p code v).fuse.lifecycle = s.fuse.lifecycle := by
  simp [State.releaseWaits]
@[simp] theorem State.signal_store (s : State) (part n : Nat) (max : Bool) (x : Dword) :
    (State.signal s part n max x).1.ins.pages = s.ins.pages ∧ (State.signal s part n max x).1.fuse.lifecycle = s.fuse.lifecycle := by
  unfold State.signal; (try dsimp only); (repeat' (first | (simp [*]; done) | (refine foldl_store _ ?_ _ _ _ ?_ <;> intros <;> (try dsimp only)) | split | (apply And.intro)))
@[simp] theorem State.signalLocal_store (s : State) (part n : Nat) :
    (State.signalLocal s part n).ins.pages = s.ins.pages ∧ (State.signalLocal s part n).fuse.lifecycle = s.fuse.lifecycle := by
  simp [State.signalLocal]
@[simp] theorem State.tallyLost_store (s : State) (n : Nat) :
    (State.tallyLost s n).ins.pages = s.ins.pages ∧ (State.tallyLost s n).fuse.lifecycle = s.fuse.lifecycle := by
  simp [State.tallyLost]
@[simp] theorem State.readTally_store (s : State) (q n : Nat) (ecc : Ecc) :
    (State.readTally s q n ecc).ins.pages = s.ins.pages ∧ (State.readTally s q n ecc).fuse.lifecycle = s.fuse.lifecycle := by
  simp [State.readTally]
theorem State.takeArrival_store (s : State) (q src part tag : Nat) (p : Op → Bool) {a_ : Op} {t_ : State} (e_ : State.takeArrival s q src part tag p = some (a_, t_)) : t_.ins.pages = s.ins.pages ∧ t_.fuse.lifecycle = s.fuse.lifecycle := by
  first | (unfold State.takeArrival at e_; (try dsimp only at e_); (repeat' (first | contradiction | (simp only [Option.map_eq_some_iff, Option.bind_eq_some_iff, Option.some.injEq, Prod.mk.injEq] at e_; simp_all; done) | (cases e_; simp; done) | split at e_)); done) | (simp only [State.takeArrival, Option.map_eq_some_iff, Prod.mk.injEq] at e_; obtain ⟨_, _, rfl, rfl⟩ := e_; simp; done) | (simp only [State.takeArrival, Option.map_eq_some_iff] at e_; obtain ⟨_, _, rfl⟩ := e_; simp; done) | (grind [State.takeArrival])
@[simp] theorem State.answerOp_store (s : State) (src tag : Nat) (o : Op) (kind opcode len : Nat) (poison : Bool) (payload : List Byte) (k : Nat := 0) :
    (State.answerOp s src tag o kind opcode len poison payload k).ins.pages = s.ins.pages ∧ (State.answerOp s src tag o kind opcode len poison payload k).fuse.lifecycle = s.fuse.lifecycle := by
  simp [State.answerOp]
@[simp] theorem State.answerErr_store (s : State) (src tag : Nat) (o : Op) (code : Nat) (k : Nat := 0) :
    (State.answerErr s src tag o code k).ins.pages = s.ins.pages ∧ (State.answerErr s src tag o code k).fuse.lifecycle = s.fuse.lifecycle := by
  simp [State.answerErr]
@[simp] theorem State.answerNack_store (s : State) (q src tag : Nat) (o : Op) (reason ticket ahead : Nat) :
    (State.answerNack s q src tag o reason ticket ahead).ins.pages = s.ins.pages ∧ (State.answerNack s q src tag o reason ticket ahead).fuse.lifecycle = s.fuse.lifecycle := by
  simp [State.answerNack]
@[simp] theorem tallySignal_store (q src part tag : Nat) (ecc : Ecc) (s : State) :
    (tallySignal q src part tag ecc s).ins.pages = s.ins.pages ∧ (tallySignal q src part tag ecc s).fuse.lifecycle = s.fuse.lifecycle := by
  unfold tallySignal; (try dsimp only); (repeat' (first | (simp [*]; done) | (have e_1 := State.takeArrival_store _ _ _ _ _ _ (by assumption); simp [*]; done) | (refine foldl_store _ ?_ _ _ _ ?_ <;> intros <;> (try dsimp only)) | split | (apply And.intro)))
@[simp] theorem State.register_store (s : State) (g : Registration) :
    (State.register s g).ins.pages = s.ins.pages ∧ (State.register s g).fuse.lifecycle = s.fuse.lifecycle := by
  simp [State.register]
@[simp] theorem tallyWait_store (q src part tag : Nat) (ecc : Ecc) (s : State) :
    (tallyWait q src part tag ecc s).ins.pages = s.ins.pages ∧ (tallyWait q src part tag ecc s).fuse.lifecycle = s.fuse.lifecycle := by
  unfold tallyWait; (try dsimp only); (repeat' (first | (simp [*]; done) | (have e_1 := State.takeArrival_store _ _ _ _ _ _ (by assumption); simp [*]; done) | (refine foldl_store _ ?_ _ _ _ ?_ <;> intros <;> (try dsimp only)) | split | (apply And.intro)))
@[simp] theorem signalRelease_store (tag : Nat) (s : State) :
    (signalRelease tag s).ins.pages = s.ins.pages ∧ (signalRelease tag s).fuse.lifecycle = s.fuse.lifecycle := by
  unfold signalRelease; (try dsimp only); (repeat' (first | (simp [*]; done) | (have e_1 := State.sendReq_store _ _ _ (by assumption); simp [*]; done) | (refine foldl_store _ ?_ _ _ _ ?_ <;> intros <;> (try dsimp only)) | split | (apply And.intro)))
@[simp] theorem waitDoneReceive_store (tag : Nat) (s : State) :
    (waitDoneReceive tag s).ins.pages = s.ins.pages ∧ (waitDoneReceive tag s).fuse.lifecycle = s.fuse.lifecycle := by
  unfold waitDoneReceive; (try dsimp only); (repeat' (first | (simp [*]; done) | (have e_1 := State.takeAnswer_store _ _ _ (by assumption); simp [*]; done) | (refine foldl_store _ ?_ _ _ _ ?_ <;> intros <;> (try dsimp only)) | split | (apply And.intro)))
@[simp] theorem tallyAckReceive_store (tag : Nat) (s : State) :
    (tallyAckReceive tag s).ins.pages = s.ins.pages ∧ (tallyAckReceive tag s).fuse.lifecycle = s.fuse.lifecycle := by
  unfold tallyAckReceive; (try dsimp only); (repeat' (first | (simp [*]; done) | (have e_1 := State.takeAnswer_store _ _ _ (by assumption); simp [*]; done) | (refine foldl_store _ ?_ _ _ _ ?_ <;> intros <;> (try dsimp only)) | split | (apply And.intro)))
@[simp] theorem waitRepeat_store (tag : Nat) (s : State) :
    (waitRepeat tag s).ins.pages = s.ins.pages ∧ (waitRepeat tag s).fuse.lifecycle = s.fuse.lifecycle := by
  unfold waitRepeat; (try dsimp only); (repeat' (first | (simp [*]; done) | (have e_1 := State.sendReq_store _ _ _ (by assumption); simp [*]; done) | (refine foldl_store _ ?_ _ _ _ ?_ <;> intros <;> (try dsimp only)) | split | (apply And.intro)))
theorem State.addRef_store (s : State) (h : RefHolder) (o : RefObj) {t_ : State} (e_ : State.addRef s h o = some t_) : t_.ins.pages = s.ins.pages ∧ t_.fuse.lifecycle = s.fuse.lifecycle := by
  first | (unfold State.addRef at e_; (try dsimp only at e_); (repeat' (first | contradiction | (simp only [Option.map_eq_some_iff, Option.bind_eq_some_iff, Option.some.injEq, Prod.mk.injEq] at e_; simp_all; done) | (cases e_; simp; done) | split at e_)); done) | (simp only [State.addRef, Option.map_eq_some_iff, Prod.mk.injEq] at e_; obtain ⟨_, _, rfl, rfl⟩ := e_; simp; done) | (simp only [State.addRef, Option.map_eq_some_iff] at e_; obtain ⟨_, _, rfl⟩ := e_; simp; done) | (grind [State.addRef, State.putTally_store])
@[simp] theorem State.addRef_sgetD (s : State) (h : RefHolder) (o : RefObj) (u_ : State) (h_ : u_.ins.pages = s.ins.pages ∧ u_.fuse.lifecycle = s.fuse.lifecycle) :
    ((State.addRef s h o).getD u_).ins.pages = s.ins.pages ∧ ((State.addRef s h o).getD u_).fuse.lifecycle = s.fuse.lifecycle := by
  cases e_ : State.addRef s h o with
  | none => exact h_
  | some t_ => exact State.addRef_store _ _ _ e_
@[simp] theorem State.unrefTally_store (s : State) (n : Nat) (reset : Bool) :
    (State.unrefTally s n reset).ins.pages = s.ins.pages ∧ (State.unrefTally s n reset).fuse.lifecycle = s.fuse.lifecycle := by
  simp [State.unrefTally]
@[simp] theorem State.dropRef_store (s : State) (h : RefHolder) (o : RefObj) (reset : Bool) :
    (State.dropRef s h o reset).ins.pages = s.ins.pages ∧ (State.dropRef s h o reset).fuse.lifecycle = s.fuse.lifecycle := by
  unfold State.dropRef; (try dsimp only); (repeat' (first | (simp [*]; done) | (refine foldl_store _ ?_ _ _ _ ?_ <;> intros <;> (try dsimp only)) | split | (apply And.intro)))
@[simp] theorem State.dropRefs_store (s : State) (h : RefHolder) (reset : Bool) :
    (State.dropRefs s h reset).ins.pages = s.ins.pages ∧ (State.dropRefs s h reset).fuse.lifecycle = s.fuse.lifecycle := by
  simp [State.dropRefs]
@[simp] theorem State.orphanTally_store (s : State) (n : Nat) :
    (State.orphanTally s n).ins.pages = s.ins.pages ∧ (State.orphanTally s n).fuse.lifecycle = s.fuse.lifecycle := by
  simp [State.orphanTally]
@[simp] theorem State.tallyCmd_store (s : State) (ap : Aperture) (n : Nat) (operatorMay : Bool) (f : Nat → State → State) (h_f : ∀ y0 y1, (f y0 y1).ins.pages = y1.ins.pages ∧ (f y0 y1).fuse.lifecycle = y1.fuse.lifecycle) :
    (State.tallyCmd s ap n operatorMay f).ins.pages = s.ins.pages ∧ (State.tallyCmd s ap n operatorMay f).fuse.lifecycle = s.fuse.lifecycle := by
  unfold State.tallyCmd; (try dsimp only); (repeat' (first | (simp [*]; done) | (refine foldl_store _ ?_ _ _ _ ?_ <;> intros <;> (try dsimp only)) | (refine store_trans (State.command_store _ _ _ _ ?_ ) ?_ <;> intros <;> (try dsimp only)) | split | (apply And.intro)))
@[simp] theorem State.handSet_store (s : State) (p : Nat) :
    (State.handSet s p).ins.pages = s.ins.pages ∧ (State.handSet s p).fuse.lifecycle = s.fuse.lifecycle := by
  simp [State.handSet]
@[simp] theorem State.talSignal_store (s : State) (ap : Aperture) (n : Nat) (max : Bool) :
    (State.talSignal s ap n max).ins.pages = s.ins.pages ∧ (State.talSignal s ap n max).fuse.lifecycle = s.fuse.lifecycle := by
  simp [State.talSignal]
@[simp] theorem talSignalAdd_store (ap : Aperture) (n : Nat) (s : State) :
    (talSignalAdd ap n s).ins.pages = s.ins.pages ∧ (talSignalAdd ap n s).fuse.lifecycle = s.fuse.lifecycle := by
  simp [talSignalAdd]
@[simp] theorem talSignalMax_store (ap : Aperture) (n : Nat) (s : State) :
    (talSignalMax ap n s).ins.pages = s.ins.pages ∧ (talSignalMax ap n s).fuse.lifecycle = s.fuse.lifecycle := by
  simp [talSignalMax]
@[simp] theorem talPair_store (ap : Aperture) (n : Nat) (s : State) :
    (talPair ap n s).ins.pages = s.ins.pages ∧ (talPair ap n s).fuse.lifecycle = s.fuse.lifecycle := by
  simp [talPair]
@[simp] theorem talUnpair_store (ap : Aperture) (n : Nat) (s : State) :
    (talUnpair ap n s).ins.pages = s.ins.pages ∧ (talUnpair ap n s).fuse.lifecycle = s.fuse.lifecycle := by
  simp [talUnpair]
@[simp] theorem talQuery_store (ap : Aperture) (n : Nat) (s : State) :
    (talQuery ap n s).ins.pages = s.ins.pages ∧ (talQuery ap n s).fuse.lifecycle = s.fuse.lifecycle := by
  simp [talQuery]
theorem tallyWrite_store (s : State) (n : Nat) (v : Dword) (hand : Bool) {t_ : State} (e_ : tallyWrite s n v hand = some t_) : t_.ins.pages = s.ins.pages ∧ t_.fuse.lifecycle = s.fuse.lifecycle := by
  first | (unfold tallyWrite at e_; (try dsimp only at e_); (repeat' (first | contradiction | (simp only [Option.map_eq_some_iff, Option.bind_eq_some_iff, Option.some.injEq, Prod.mk.injEq] at e_; simp_all; done) | (cases e_; simp; done) | split at e_)); done) | (simp only [tallyWrite, Option.map_eq_some_iff, Prod.mk.injEq] at e_; obtain ⟨_, _, rfl, rfl⟩ := e_; simp; done) | (simp only [tallyWrite, Option.map_eq_some_iff] at e_; obtain ⟨_, _, rfl⟩ := e_; simp; done) | (grind [tallyWrite, State.handSet_store, State.putTally_store, State.releaseWaits_store])
@[simp] theorem tallyWrite_sgetD (s : State) (n : Nat) (v : Dword) (hand : Bool) (u_ : State) (h_ : u_.ins.pages = s.ins.pages ∧ u_.fuse.lifecycle = s.fuse.lifecycle) :
    ((tallyWrite s n v hand).getD u_).ins.pages = s.ins.pages ∧ ((tallyWrite s n v hand).getD u_).fuse.lifecycle = s.fuse.lifecycle := by
  cases e_ : tallyWrite s n v hand with
  | none => exact h_
  | some t_ => exact tallyWrite_store _ _ _ _ e_
@[simp] theorem State.modEntry_store (s : State) (id : Nat) (f : HomeEntry → HomeEntry) :
    (State.modEntry s id f).ins.pages = s.ins.pages ∧ (State.modEntry s id f).fuse.lifecycle = s.fuse.lifecycle := by
  simp [State.modEntry]
@[simp] theorem State.pushLine_store (s : State) (o : Op) (src : Src) (site : Option Nat) (k : Nat) :
    (State.pushLine s o src site k).ins.pages = s.ins.pages ∧ (State.pushLine s o src site k).fuse.lifecycle = s.fuse.lifecycle := by
  simp [State.pushLine]
@[simp] theorem State.startEntry_store (s : State) (e : HomeEntry) :
    (State.startEntry s e).ins.pages = s.ins.pages ∧ (State.startEntry s e).fuse.lifecycle = s.fuse.lifecycle := by
  unfold State.startEntry; (try dsimp only); (repeat' (first | (simp [*]; done) | (refine foldl_store _ ?_ _ _ _ ?_ <;> intros <;> (try dsimp only)) | split | (apply And.intro)))
@[simp] theorem State.pump_store (s : State) : (State.pump s).ins.pages = s.ins.pages ∧ (State.pump s).fuse.lifecycle = s.fuse.lifecycle := by
  simp [State.pump]
@[simp] theorem State.keepVal_store (s : State) (src : Src) (line : Nat) (v : Line) :
    (State.keepVal s src line v).ins.pages = s.ins.pages ∧ (State.keepVal s src line v).fuse.lifecycle = s.fuse.lifecycle := by
  simp [State.keepVal]
@[simp] theorem State.forget_store (s : State) : (State.forget s).ins.pages = s.ins.pages ∧ (State.forget s).fuse.lifecycle = s.fuse.lifecycle := by
  simp [State.forget]
@[simp] theorem State.answerEntry_store (s : State) (e : HomeEntry) :
    (State.answerEntry s e).ins.pages = s.ins.pages ∧ (State.answerEntry s e).fuse.lifecycle = s.fuse.lifecycle := by
  simp [State.answerEntry]
@[simp] theorem State.gotLine_store (s : State) (id k : Nat) (bytes : List Byte) (poison : Bool) (err : Nat) :
    (State.gotLine s id k bytes poison err).ins.pages = s.ins.pages ∧ (State.gotLine s id k bytes poison err).fuse.lifecycle = s.fuse.lifecycle := by
  unfold State.gotLine; (try dsimp only); (repeat' (first | (simp [*]; done) | (refine foldl_store _ ?_ _ _ _ ?_ <;> intros <;> (try dsimp only)) | split | (apply And.intro)))
@[simp] theorem State.failEntry_store (s : State) (id code : Nat) :
    (State.failEntry s id code).ins.pages = s.ins.pages ∧ (State.failEntry s id code).fuse.lifecycle = s.fuse.lifecycle := by
  unfold State.failEntry; (try dsimp only); (repeat' (first | (simp [*]; done) | (refine foldl_store _ ?_ _ _ _ ?_ <;> intros <;> (try dsimp only)) | split | (apply And.intro)))
@[simp] theorem State.tellSite_store (s : State) (site : Option Nat) (ctx : Option (BitVec 16)) (code : Nat) :
    (State.tellSite s site ctx code).ins.pages = s.ins.pages ∧ (State.tellSite s site ctx code).fuse.lifecycle = s.fuse.lifecycle := by
  unfold State.tellSite; (try dsimp only); (repeat' (first | (simp [*]; done) | (refine foldl_store _ ?_ _ _ _ ?_ <;> intros <;> (try dsimp only)) | split | (apply And.intro)))
@[simp] theorem State.deliverStamp_store (s : State) (p : Nat) :
    (State.deliverStamp s p).1.ins.pages = s.ins.pages ∧ (State.deliverStamp s p).1.fuse.lifecycle = s.fuse.lifecycle := by
  simp [State.deliverStamp]
@[simp] theorem State.haltChan_store (s : State) (c code : Nat) :
    (State.haltChan s c code).ins.pages = s.ins.pages ∧ (State.haltChan s c code).fuse.lifecycle = s.fuse.lifecycle := by
  simp [State.haltChan]
@[simp] theorem State.recordGone_store (s : State) (c : Nat) (bytes : List Byte) (code : Nat) :
    (State.recordGone s c bytes code).ins.pages = s.ins.pages ∧ (State.recordGone s c bytes code).fuse.lifecycle = s.fuse.lifecycle := by
  unfold State.recordGone; (try dsimp only); (repeat' (first | (simp [*]; done) | (refine foldl_store _ ?_ _ _ _ ?_ <;> intros <;> (try dsimp only)) | split | (apply And.intro)))
@[simp] theorem State.lose1204_store (s : State) (p : Nat) (ctx : Option (BitVec 16)) (o : Obj) :
    (State.lose1204 s p ctx o).ins.pages = s.ins.pages ∧ (State.lose1204 s p ctx o).fuse.lifecycle = s.fuse.lifecycle := by
  unfold State.lose1204; (try dsimp only); (repeat' (first | (simp [*]; done) | (refine foldl_store _ ?_ _ _ _ ?_ <;> intros <;> (try dsimp only)) | split | (apply And.intro)))
@[simp] theorem State.dropBad_store (s : State) (p : Nat) (o : Obj) (e : Egress) :
    (State.dropBad s p o e).ins.pages = s.ins.pages ∧ (State.dropBad s p o e).fuse.lifecycle = s.fuse.lifecycle := by
  unfold State.dropBad; (try dsimp only); (repeat' (first | (simp [*]; done) | (refine foldl_store _ ?_ _ _ _ ?_ <;> intros <;> (try dsimp only)) | split | (apply And.intro)))
@[simp] theorem State.verdict_store (s : State) (p st : Nat) (ok : Bool) (o : Obj) :
    (State.verdict s p st ok o).ins.pages = s.ins.pages ∧ (State.verdict s p st ok o).fuse.lifecycle = s.fuse.lifecycle := by
  simp [State.verdict]
@[simp] theorem State.routeAgain_store (s : State) (e : Egress) (k : Packet) :
    (State.routeAgain s e k).ins.pages = s.ins.pages ∧ (State.routeAgain s e k).fuse.lifecycle = s.fuse.lifecycle := by
  unfold State.routeAgain; (try dsimp only); (repeat' (first | (simp [*]; done) | (refine foldl_store _ ?_ _ _ _ ?_ <;> intros <;> (try dsimp only)) | split | (apply And.intro)))
@[simp] theorem State.releaseCargo_store (s : State) (e : Egress) :
    (State.releaseCargo s e).ins.pages = s.ins.pages ∧ (State.releaseCargo s e).fuse.lifecycle = s.fuse.lifecycle := by
  unfold State.releaseCargo; (try dsimp only); (repeat' (first | (simp [*]; done) | (refine foldl_store _ ?_ _ _ _ ?_ <;> intros <;> (try dsimp only)) | split | (apply And.intro)))
@[simp] theorem egressRelease_store (p : Nat) (pt : EgressPoint) (s : State) :
    (egressRelease p pt s).ins.pages = s.ins.pages ∧ (egressRelease p pt s).fuse.lifecycle = s.fuse.lifecycle := by
  unfold egressRelease; (try dsimp only); (repeat' (first | (simp [*]; done) | (refine foldl_store _ ?_ _ _ _ ?_ <;> intros <;> (try dsimp only)) | split | (apply And.intro)))
@[simp] theorem State.modCart_store (s : State) (id : Nat) (f : Cart → Cart) :
    (State.modCart s id f).ins.pages = s.ins.pages ∧ (State.modCart s id f).fuse.lifecycle = s.fuse.lifecycle := by
  simp [State.modCart]
@[simp] theorem State.endMember_store (s : State) (site tag status : Nat) (data : List Byte) (poison : Bool) :
    (State.endMember s site tag status data poison).ins.pages = s.ins.pages ∧ (State.endMember s site tag status data poison).fuse.lifecycle = s.fuse.lifecycle := by
  unfold State.endMember; (try dsimp only); (repeat' (first | (simp [*]; done) | (refine foldl_store _ ?_ _ _ _ ?_ <;> intros <;> (try dsimp only)) | split | (apply And.intro)))
@[simp] theorem State.closeCart_store (s : State) (c : Cart) (st : Nat) :
    (State.closeCart s c st).ins.pages = s.ins.pages ∧ (State.closeCart s c st).fuse.lifecycle = s.fuse.lifecycle := by
  unfold State.closeCart; (try dsimp only); (repeat' (first | (simp [*]; done) | (refine foldl_store _ ?_ _ _ _ ?_ <;> intros <;> (try dsimp only)) | split | (apply And.intro)))
@[simp] theorem State.finishCart_store (s : State) (c : Cart) (code : Nat) :
    (State.finishCart s c code).ins.pages = s.ins.pages ∧ (State.finishCart s c code).fuse.lifecycle = s.fuse.lifecycle := by
  simp [State.finishCart]
@[simp] theorem State.failCart_store (s : State) (c : Cart) (code : Nat) :
    (State.failCart s c code).ins.pages = s.ins.pages ∧ (State.failCart s c code).fuse.lifecycle = s.fuse.lifecycle := by
  unfold State.failCart; (try dsimp only); (repeat' (first | (simp [*]; done) | (refine foldl_store _ ?_ _ _ _ ?_ <;> intros <;> (try dsimp only)) | split | (apply And.intro)))
@[simp] theorem State.sendCart_store (s : State) (eng : Engine) (op : Op) (ext : Nat) :
    (State.sendCart s eng op ext).ins.pages = s.ins.pages ∧ (State.sendCart s eng op ext).fuse.lifecycle = s.fuse.lifecycle := by
  simp [State.sendCart]
@[simp] theorem State.sendDecide_store (s : State) (c : Cart) :
    (State.sendDecide s c).ins.pages = s.ins.pages ∧ (State.sendDecide s c).fuse.lifecycle = s.fuse.lifecycle := by
  simp [State.sendDecide]
@[simp] theorem State.cartAdvance_store (s : State) (c : Cart) :
    (State.cartAdvance s c).ins.pages = s.ins.pages ∧ (State.cartAdvance s c).fuse.lifecycle = s.fuse.lifecycle := by
  simp [State.cartAdvance]
@[simp] theorem State.cartsAdvance_store (s : State) :
    (State.cartsAdvance s).ins.pages = s.ins.pages ∧ (State.cartsAdvance s).fuse.lifecycle = s.fuse.lifecycle := by
  simp [State.cartsAdvance]
@[simp] theorem cartEnd_store (t : Nat) (ctx : BitVec 16) (s : State) :
    (cartEnd t ctx s).ins.pages = s.ins.pages ∧ (cartEnd t ctx s).fuse.lifecycle = s.fuse.lifecycle := by
  unfold cartEnd; (try dsimp only); (repeat' (first | (simp [*]; done) | (refine foldl_store _ ?_ _ _ _ ?_ <;> intros <;> (try dsimp only)) | split | (apply And.intro)))
@[simp] theorem cartEndTimeout_store (t : Nat) (ctx : BitVec 16) (s : State) :
    (cartEndTimeout t ctx s).ins.pages = s.ins.pages ∧ (cartEndTimeout t ctx s).fuse.lifecycle = s.fuse.lifecycle := by
  unfold cartEndTimeout; (try dsimp only); (repeat' (first | (simp [*]; done) | (refine foldl_store _ ?_ _ _ _ ?_ <;> intros <;> (try dsimp only)) | split | (apply And.intro)))
@[simp] theorem State.takeVote_store (s : State) (r : Req) (a : Answer) :
    (State.takeVote s r a).ins.pages = s.ins.pages ∧ (State.takeVote s r a).fuse.lifecycle = s.fuse.lifecycle := by
  simp [State.takeVote]
@[simp] theorem State.cartReply_store (s : State) (tag opcode : Nat) (f : State → Req → Answer → State) (h_f : ∀ y0 y1 y2, (f y0 y1 y2).ins.pages = y0.ins.pages ∧ (f y0 y1 y2).fuse.lifecycle = y0.fuse.lifecycle) :
    (State.cartReply s tag opcode f).ins.pages = s.ins.pages ∧ (State.cartReply s tag opcode f).fuse.lifecycle = s.fuse.lifecycle := by
  unfold State.cartReply; (try dsimp only); (repeat' (first | (simp [*]; done) | (have e_1 := State.takeAnswer_store _ _ _ (by assumption); simp [*]; done) | (refine foldl_store _ ?_ _ _ _ ?_ <;> intros <;> (try dsimp only)) | split | (apply And.intro)))
@[simp] theorem cartVote_store (tag : Nat) (s : State) :
    (cartVote tag s).ins.pages = s.ins.pages ∧ (cartVote tag s).fuse.lifecycle = s.fuse.lifecycle := by
  simp [cartVote]
@[simp] theorem cartSoloVote_store (tag : Nat) (s : State) :
    (cartSoloVote tag s).ins.pages = s.ins.pages ∧ (cartSoloVote tag s).fuse.lifecycle = s.fuse.lifecycle := by
  simp [cartSoloVote]
@[simp] theorem cartDecided_store (tag : Nat) (s : State) :
    (cartDecided tag s).ins.pages = s.ins.pages ∧ (cartDecided tag s).fuse.lifecycle = s.fuse.lifecycle := by
  unfold cartDecided; (try dsimp only); (repeat' (first | (simp [*]; done) | (refine foldl_store _ ?_ _ _ _ ?_ <;> intros <;> (try dsimp only)) | (refine store_trans (State.cartReply_store _ _ _ _ ?_ ) ?_ <;> intros <;> (try dsimp only)) | split | (apply And.intro)))
@[simp] theorem cartDecidedWaitExpire_store (cart : Nat) (s : State) :
    (cartDecidedWaitExpire cart s).ins.pages = s.ins.pages ∧ (cartDecidedWaitExpire cart s).fuse.lifecycle = s.fuse.lifecycle := by
  unfold cartDecidedWaitExpire; (try dsimp only); (repeat' (first | (simp [*]; done) | (refine foldl_store _ ?_ _ _ _ ?_ <;> intros <;> (try dsimp only)) | split | (apply And.intro)))
@[simp] theorem State.vote_store (s : State) (m : Staged) (code fault : Nat) :
    (State.vote s m code fault).ins.pages = s.ins.pages ∧ (State.vote s m code fault).fuse.lifecycle = s.fuse.lifecycle := by
  simp [State.vote]
@[simp] theorem State.modStaged_store (s : State) (key : Nat) (f : Staged → Staged) :
    (State.modStaged s key f).ins.pages = s.ins.pages ∧ (State.modStaged s key f).fuse.lifecycle = s.fuse.lifecycle := by
  simp [State.modStaged]
@[simp] theorem State.dropStaged_store (s : State) (key : Nat) :
    (State.dropStaged s key).ins.pages = s.ins.pages ∧ (State.dropStaged s key).fuse.lifecycle = s.fuse.lifecycle := by
  simp [State.dropStaged]
@[simp] theorem State.commitRefused_store (s : State) (part : Nat) (ctx : BitVec 16) (code line : Nat) :
    (State.commitRefused s part ctx code line).ins.pages = s.ins.pages ∧ (State.commitRefused s part ctx code line).fuse.lifecycle = s.fuse.lifecycle := by
  simp [State.commitRefused]
@[simp] theorem State.commitMember_life (s : State) (m : Staged) : (State.commitMember s m).fuse.lifecycle = s.fuse.lifecycle := by
  unfold State.commitMember; (try dsimp only); (repeat' (first | (simp [*]; done) | split))
@[simp] theorem State.commitMember_wf (s : State) (m : Staged) (h_ : pagesWf s.ins.pages = true) : pagesWf (State.commitMember s m).ins.pages = true := by
  unfold State.commitMember; (try dsimp only); (repeat' (first | assumption | (simp [*]; done) | (apply foldl_wf <;> intros <;> (try dsimp only)) | (apply State.writeInner_wf) | split))
@[simp] theorem State.outcome_life (s : State) (q issuer cart code : Nat) :
    (State.outcome s q issuer cart code).fuse.lifecycle = s.fuse.lifecycle := by
  simp [State.outcome]
@[simp] theorem State.outcome_wf (s : State) (q issuer cart code : Nat) (h_ : pagesWf s.ins.pages = true) : pagesWf (State.outcome s q issuer cart code).ins.pages = true := by
  unfold State.outcome; (try dsimp only); (repeat' (first | assumption | (simp [*]; done) | (apply foldl_wf <;> intros <;> (try dsimp only)) | (apply State.commitMember_wf) | split))
@[simp] theorem State.stageDone_store (s : State) (m : Staged) (err : Nat) :
    (State.stageDone s m err).ins.pages = s.ins.pages ∧ (State.stageDone s m err).fuse.lifecycle = s.fuse.lifecycle := by
  simp [State.stageDone]
@[simp] theorem State.stageBegin_store (s : State) (m : Staged) :
    (State.stageBegin s m).1.ins.pages = s.ins.pages ∧ (State.stageBegin s m).1.fuse.lifecycle = s.fuse.lifecycle := by
  unfold State.stageBegin; (try dsimp only); (repeat' (first | (simp [*]; done) | (refine foldl_store _ ?_ _ _ _ ?_ <;> intros <;> (try dsimp only)) | split | (apply And.intro)))
@[simp] theorem State.soloFinish_life (s : State) (m : Staged) : (State.soloFinish s m).fuse.lifecycle = s.fuse.lifecycle := by
  simp [State.soloFinish]
@[simp] theorem State.soloFinish_wf (s : State) (m : Staged) (h_ : pagesWf s.ins.pages = true) : pagesWf (State.soloFinish s m).ins.pages = true := by
  simp [State.soloFinish, h_]
@[simp] theorem State.soloRefuse_life (s : State) (m : Staged) (code fault : Nat) :
    (State.soloRefuse s m code fault).fuse.lifecycle = s.fuse.lifecycle := by
  simp [State.soloRefuse]
@[simp] theorem State.soloRefuse_wf (s : State) (m : Staged) (code fault : Nat) (h_ : pagesWf s.ins.pages = true) : pagesWf (State.soloRefuse s m code fault).ins.pages = true := by
  simp [State.soloRefuse, h_]
@[simp] theorem State.memberRead_life (s : State) (key : Nat) (bytes : List Byte) (poison : Bool) (err : Nat) :
    (State.memberRead s key bytes poison err).fuse.lifecycle = s.fuse.lifecycle := by
  unfold State.memberRead; (try dsimp only); (repeat' (first | (simp [*]; done) | split))
@[simp] theorem State.memberRead_wf (s : State) (key : Nat) (bytes : List Byte) (poison : Bool) (err : Nat) (h_ : pagesWf s.ins.pages = true) : pagesWf (State.memberRead s key bytes poison err).ins.pages = true := by
  unfold State.memberRead; (try dsimp only); (repeat' (first | assumption | (simp [*]; done) | (apply foldl_wf <;> intros <;> (try dsimp only)) | (apply State.soloRefuse_wf) | (apply State.soloFinish_wf) | split))
@[simp] theorem State.noteUse_store (s : State) (q : Nat) :
    (State.noteUse s q).ins.pages = s.ins.pages ∧ (State.noteUse s q).fuse.lifecycle = s.fuse.lifecycle := by
  simp [State.noteUse]
theorem State.stageBegin_wf (s : State) (m : Staged) (h_ : pagesWf s.ins.pages = true) : pagesWf (s.stageBegin m).1.ins.pages = true := by
  rw [(State.stageBegin_store s m).1]; exact h_
@[simp] theorem State.memberArrives_life (s : State) (q src part tag : Nat) (o : Op) :
    (State.memberArrives s q src part tag o).fuse.lifecycle = s.fuse.lifecycle := by
  unfold State.memberArrives; (try dsimp only); (repeat' (first | (simp [*]; done) | split))
@[simp] theorem State.memberArrives_wf (s : State) (q src part tag : Nat) (o : Op) (h_ : pagesWf s.ins.pages = true) : pagesWf (State.memberArrives s q src part tag o).ins.pages = true := by
  unfold State.memberArrives
  extract_lets w op mine role m f t g put
  have ht : pagesWf t.ins.pages = true := h_
  have hp : pagesWf put.ins.pages = true := h_
  clear_value t put m
  split
  · split
    · exact hp
    · split
      · exact State.soloRefuse_wf _ _ _ _ hp
      · refine State.soloFinish_wf _ _ ?_
        exact foldl_wf (fun (u : State) x => (u.stageBegin x).1) (fun u x h => State.stageBegin_wf u x h) _ _ hp
  · split
    · rw [(State.vote_store _ _ _ _).1]; exact ht
    · split
      · rw [(State.vote_store _ _ _ _).1]; exact ht
      · have e := State.stageBegin_wf (put.noteUse q) m (by rw [(State.noteUse_store _ _).1]; exact hp)
        generalize (put.noteUse q).stageBegin m = x at *
        obtain ⟨u, ready⟩ := x
        dsimp only at *
        split
        · rw [(State.stageDone_store _ _ _).1]; exact e
        · exact e
@[simp] theorem soloTimeout_store (q issuer cart : Nat) (s : State) :
    (soloTimeout q issuer cart s).ins.pages = s.ins.pages ∧ (soloTimeout q issuer cart s).fuse.lifecycle = s.fuse.lifecycle := by
  simp [soloTimeout]
@[simp] theorem State.cartOutcome_life (s : State) (q src part tag opcode code : Nat) :
    (State.cartOutcome s q src part tag opcode code).fuse.lifecycle = s.fuse.lifecycle := by
  unfold State.cartOutcome; (try dsimp only); (repeat' (first | (simp [*]; done) | (have e_1 := State.takeArrival_store _ _ _ _ _ _ (by assumption); simp [*]; done) | split))
@[simp] theorem State.cartOutcome_wf (s : State) (q src part tag opcode code : Nat) (h_ : pagesWf s.ins.pages = true) : pagesWf (State.cartOutcome s q src part tag opcode code).ins.pages = true := by
  unfold State.cartOutcome; (try dsimp only); (repeat' (first | assumption | (simp [*]; done) | (have e_1 := State.takeArrival_store _ _ _ _ _ _ (by assumption); simp [*]; done) | (apply foldl_wf <;> intros <;> (try dsimp only)) | (apply State.outcome_wf) | split))
@[simp] theorem cartCommit_life (q src part tag : Nat) (s : State) : (cartCommit q src part tag s).fuse.lifecycle = s.fuse.lifecycle := by
  simp [cartCommit]
@[simp] theorem cartCommit_wf (q src part tag : Nat) (s : State) (h_ : pagesWf s.ins.pages = true) : pagesWf (cartCommit q src part tag s).ins.pages = true := by
  simp [cartCommit, h_]
@[simp] theorem cartAbort_life (q src part tag : Nat) (s : State) : (cartAbort q src part tag s).fuse.lifecycle = s.fuse.lifecycle := by
  simp [cartAbort]
@[simp] theorem cartAbort_wf (q src part tag : Nat) (s : State) (h_ : pagesWf s.ins.pages = true) : pagesWf (cartAbort q src part tag s).ins.pages = true := by
  simp [cartAbort, h_]
@[simp] theorem State.sendQuery_store (s : State) (m : Staged) :
    (State.sendQuery s m).ins.pages = s.ins.pages ∧ (State.sendQuery s m).fuse.lifecycle = s.fuse.lifecycle := by
  simp [State.sendQuery]
@[simp] theorem cartMemberTimeout_store (q issuer cart : Nat) (s : State) :
    (cartMemberTimeout q issuer cart s).ins.pages = s.ins.pages ∧ (cartMemberTimeout q issuer cart s).fuse.lifecycle = s.fuse.lifecycle := by
  unfold cartMemberTimeout; (try dsimp only); (repeat' (first | (simp [*]; done) | (refine foldl_store _ ?_ _ _ _ ?_ <;> intros <;> (try dsimp only)) | split | (apply And.intro)))
@[simp] theorem cartQueryRepeat_life (q issuer cart : Nat) (s : State) : (cartQueryRepeat q issuer cart s).fuse.lifecycle = s.fuse.lifecycle := by
  unfold cartQueryRepeat; (try dsimp only); (repeat' (first | (simp [*]; done) | split))
@[simp] theorem cartQueryRepeat_wf (q issuer cart : Nat) (s : State) (h_ : pagesWf s.ins.pages = true) : pagesWf (cartQueryRepeat q issuer cart s).ins.pages = true := by
  unfold cartQueryRepeat; (try dsimp only); (repeat' (first | assumption | (simp [*]; done) | (apply foldl_wf <;> intros <;> (try dsimp only)) | (apply State.outcome_wf) | split))
theorem State.cartReply_life (s : State) (tag opcode : Nat) (f : State → Req → Answer → State)
    (h_f : ∀ z r a, (f z r a).fuse.lifecycle = z.fuse.lifecycle) : (s.cartReply tag opcode f).fuse.lifecycle = s.fuse.lifecycle := by
  unfold State.cartReply
  split
  · rfl
  · rename_i h
    have e := (State.takeAnswer_store _ _ _ h).2
    split
    · simp [e]
    · split <;> simp [e, h_f]
theorem State.cartReply_wf (s : State) (tag opcode : Nat) (f : State → Req → Answer → State)
    (h_f : ∀ z r a, pagesWf z.ins.pages = true → pagesWf (f z r a).ins.pages = true) (h_ : pagesWf s.ins.pages = true) :
    pagesWf (s.cartReply tag opcode f).ins.pages = true := by
  unfold State.cartReply
  split
  · exact h_
  · rename_i h
    rw [← (State.takeAnswer_store _ _ _ h).1] at h_
    split
    · rw [(State.strayAnswer_store _ _).1]; exact h_
    · split
      · exact h_f _ _ _ h_
      · rw [(State.strayAnswer_store _ _).1]; exact h_
@[simp] theorem cartAnswer_life (tag : Nat) (s : State) : (cartAnswer tag s).fuse.lifecycle = s.fuse.lifecycle := by
  unfold cartAnswer
  refine State.cartReply_life _ _ _ _ ?_
  intro z r a
  simp
@[simp] theorem cartAnswer_wf (tag : Nat) (s : State) (h_ : pagesWf s.ins.pages = true) : pagesWf (cartAnswer tag s).ins.pages = true := by
  unfold cartAnswer
  refine State.cartReply_wf _ _ _ _ ?_ h_
  intro z r a h
  refine foldl_wf _ ?_ _ _ ?_
  · intro u q hu
    rw [(State.answerOp_store _ _ _ _ _ _ _ _ _).1]
    exact State.outcome_wf _ _ _ _ _ hu
  · simpa using h
@[simp] theorem State.leadDecide_life (s : State) (q : Nat) (o : Op) (code : Nat) (others : List ((Nat × Nat) × Nat)) :
    (State.leadDecide s q o code others).fuse.lifecycle = s.fuse.lifecycle := by
  simp [State.leadDecide]
@[simp] theorem State.leadDecide_wf (s : State) (q : Nat) (o : Op) (code : Nat) (others : List ((Nat × Nat) × Nat)) (h_ : pagesWf s.ins.pages = true) : pagesWf (State.leadDecide s q o code others).ins.pages = true := by
  simp [State.leadDecide, h_]
@[simp] theorem cartDecide_life (q src part tag : Nat) (s : State) : (cartDecide q src part tag s).fuse.lifecycle = s.fuse.lifecycle := by
  unfold cartDecide; (try dsimp only); (repeat' (first | (simp [*]; done) | (have e_1 := State.takeArrival_store _ _ _ _ _ _ (by assumption); simp [*]; done) | split))
@[simp] theorem cartDecide_wf (q src part tag : Nat) (s : State) (h_ : pagesWf s.ins.pages = true) : pagesWf (cartDecide q src part tag s).ins.pages = true := by
  unfold cartDecide; (try dsimp only); (repeat' (first | assumption | (simp [*]; done) | (have e_1 := State.takeArrival_store _ _ _ _ _ _ (by assumption); simp [*]; done) | (apply foldl_wf <;> intros <;> (try dsimp only)) | (apply State.leadDecide_wf) | split))
@[simp] theorem cartQuery_life (q src part tag : Nat) (s : State) : (cartQuery q src part tag s).fuse.lifecycle = s.fuse.lifecycle := by
  unfold cartQuery; (try dsimp only); (repeat' (first | (simp [*]; done) | (have e_1 := State.takeArrival_store _ _ _ _ _ _ (by assumption); simp [*]; done) | split))
@[simp] theorem cartQuery_wf (q src part tag : Nat) (s : State) (h_ : pagesWf s.ins.pages = true) : pagesWf (cartQuery q src part tag s).ins.pages = true := by
  unfold cartQuery; (try dsimp only); (repeat' (first | assumption | (simp [*]; done) | (have e_1 := State.takeArrival_store _ _ _ _ _ _ (by assumption); simp [*]; done) | (apply foldl_wf <;> intros <;> (try dsimp only)) | (apply State.leadDecide_wf) | split))
@[simp] theorem cartLeadTimeout_life (q issuer cart : Nat) (s : State) : (cartLeadTimeout q issuer cart s).fuse.lifecycle = s.fuse.lifecycle := by
  unfold cartLeadTimeout; (try dsimp only); (repeat' (first | (simp [*]; done) | split))
@[simp] theorem cartLeadTimeout_wf (q issuer cart : Nat) (s : State) (h_ : pagesWf s.ins.pages = true) : pagesWf (cartLeadTimeout q issuer cart s).ins.pages = true := by
  unfold cartLeadTimeout; (try dsimp only); (repeat' (first | assumption | (simp [*]; done) | (apply foldl_wf <;> intros <;> (try dsimp only)) | (apply State.leadDecide_wf) | split))
@[simp] theorem cartDone_store (tag : Nat) (s : State) :
    (cartDone tag s).ins.pages = s.ins.pages ∧ (cartDone tag s).fuse.lifecycle = s.fuse.lifecycle := by
  unfold cartDone; (try dsimp only); (repeat' (first | (simp [*]; done) | (have e_1 := State.takeAnswer_store _ _ _ (by assumption); simp [*]; done) | (refine foldl_store _ ?_ _ _ _ ?_ <;> intros <;> (try dsimp only)) | split | (apply And.intro)))
@[simp] theorem cartAbortEntryExpire_store (q issuer cart : Nat) (s : State) :
    (cartAbortEntryExpire q issuer cart s).ins.pages = s.ins.pages ∧ (cartAbortEntryExpire q issuer cart s).fuse.lifecycle = s.fuse.lifecycle := by
  simp [cartAbortEntryExpire]
@[simp] theorem State.admitReq_life (s : State) (q part src tag : Nat) (o : Op) :
    (State.admitReq s q part src tag o).fuse.lifecycle = s.fuse.lifecycle := by
  simp [State.admitReq]
@[simp] theorem State.admitReq_wf (s : State) (q part src tag : Nat) (o : Op) (h_ : pagesWf s.ins.pages = true) : pagesWf (State.admitReq s q part src tag o).ins.pages = true := by
  simp [State.admitReq, h_]
@[simp] theorem State.homeAdmit_life (s : State) (q part src tag : Nat) (o : Op) :
    (State.homeAdmit s q part src tag o).fuse.lifecycle = s.fuse.lifecycle := by
  unfold State.homeAdmit; (try dsimp only); (repeat' (first | (simp [*]; done) | split))
@[simp] theorem State.homeAdmit_wf (s : State) (q part src tag : Nat) (o : Op) (h_ : pagesWf s.ins.pages = true) : pagesWf (State.homeAdmit s q part src tag o).ins.pages = true := by
  unfold State.homeAdmit; (try dsimp only); (repeat' (first | assumption | (simp [*]; done) | (apply foldl_wf <;> intros <;> (try dsimp only)) | (apply State.admitReq_wf) | split))
@[simp] theorem homeRequest_life (q src part tag : Nat) (s : State) : (homeRequest q src part tag s).fuse.lifecycle = s.fuse.lifecycle := by
  unfold homeRequest; (try dsimp only); (repeat' (first | (simp [*]; done) | (have e_1 := State.takeArrival_store _ _ _ _ _ _ (by assumption); simp [*]; done) | split))
@[simp] theorem homeRequest_wf (q src part tag : Nat) (s : State) (h_ : pagesWf s.ins.pages = true) : pagesWf (homeRequest q src part tag s).ins.pages = true := by
  unfold homeRequest; (try dsimp only); (repeat' (first | assumption | (simp [*]; done) | (have e_1 := State.takeArrival_store _ _ _ _ _ _ (by assumption); simp [*]; done) | (apply foldl_wf <;> intros <;> (try dsimp only)) | (apply State.homeAdmit_wf) | split))
@[simp] theorem cartPrepare_life (q src part tag : Nat) (s : State) : (cartPrepare q src part tag s).fuse.lifecycle = s.fuse.lifecycle := by
  unfold cartPrepare; (try dsimp only); (repeat' (first | (simp [*]; done) | (have e_1 := State.takeArrival_store _ _ _ _ _ _ (by assumption); simp [*]; done) | split))
@[simp] theorem cartPrepare_wf (q src part tag : Nat) (s : State) (h_ : pagesWf s.ins.pages = true) : pagesWf (cartPrepare q src part tag s).ins.pages = true := by
  unfold cartPrepare; (try dsimp only); (repeat' (first | assumption | (simp [*]; done) | (have e_1 := State.takeArrival_store _ _ _ _ _ _ (by assumption); simp [*]; done) | (apply foldl_wf <;> intros <;> (try dsimp only)) | (apply State.homeAdmit_wf) | split))
@[simp] theorem cartSolo_life (q src part tag : Nat) (s : State) : (cartSolo q src part tag s).fuse.lifecycle = s.fuse.lifecycle := by
  unfold cartSolo; (try dsimp only); (repeat' (first | (simp [*]; done) | (have e_1 := State.takeArrival_store _ _ _ _ _ _ (by assumption); simp [*]; done) | split))
@[simp] theorem cartSolo_wf (q src part tag : Nat) (s : State) (h_ : pagesWf s.ins.pages = true) : pagesWf (cartSolo q src part tag s).ins.pages = true := by
  unfold cartSolo; (try dsimp only); (repeat' (first | assumption | (simp [*]; done) | (have e_1 := State.takeArrival_store _ _ _ _ _ _ (by assumption); simp [*]; done) | (apply foldl_wf <;> intros <;> (try dsimp only)) | (apply State.homeAdmit_wf) | split))
@[simp] theorem State.passEntry_life (s : State) (q part : Nat) : (State.passEntry s q part).fuse.lifecycle = s.fuse.lifecycle := by
  unfold State.passEntry; (try dsimp only); (repeat' (first | (simp [*]; done) | split))
@[simp] theorem State.passEntry_wf (s : State) (q part : Nat) (h_ : pagesWf s.ins.pages = true) : pagesWf (State.passEntry s q part).ins.pages = true := by
  unfold State.passEntry; (try dsimp only); (repeat' (first | assumption | (simp [*]; done) | (apply foldl_wf <;> intros <;> (try dsimp only)) | (apply State.admitReq_wf) | split))
@[simp] theorem entryFreed_life (q entry : Nat) (s : State) : (entryFreed q entry s).fuse.lifecycle = s.fuse.lifecycle := by
  unfold entryFreed; (try dsimp only); (repeat' (first | (simp [*]; done) | split))
@[simp] theorem entryFreed_wf (q entry : Nat) (s : State) (h_ : pagesWf s.ins.pages = true) : pagesWf (entryFreed q entry s).ins.pages = true := by
  unfold entryFreed; (try dsimp only); (repeat' (first | assumption | (simp [*]; done) | (apply foldl_wf <;> intros <;> (try dsimp only)) | (apply State.passEntry_wf) | split))
@[simp] theorem ticketLapse_life (q part no : Nat) (s : State) : (ticketLapse q part no s).fuse.lifecycle = s.fuse.lifecycle := by
  unfold ticketLapse; (try dsimp only); (repeat' (first | (simp [*]; done) | split))
@[simp] theorem ticketLapse_wf (q part no : Nat) (s : State) (h_ : pagesWf s.ins.pages = true) : pagesWf (ticketLapse q part no s).ins.pages = true := by
  unfold ticketLapse; (try dsimp only); (repeat' (first | assumption | (simp [*]; done) | (apply foldl_wf <;> intros <;> (try dsimp only)) | (apply State.passEntry_wf) | split))
@[simp] theorem lockWaitTimeout_life (q entry : Nat) (s : State) : (lockWaitTimeout q entry s).fuse.lifecycle = s.fuse.lifecycle := by
  unfold lockWaitTimeout; (try dsimp only); (repeat' (first | (simp [*]; done) | split))
@[simp] theorem lockWaitTimeout_wf (q entry : Nat) (s : State) (h_ : pagesWf s.ins.pages = true) : pagesWf (lockWaitTimeout q entry s).ins.pages = true := by
  unfold lockWaitTimeout; (try dsimp only); (repeat' (first | assumption | (simp [*]; done) | (apply foldl_wf <;> intros <;> (try dsimp only)) | (apply State.passEntry_wf) | split))
@[simp] theorem nackReceive_store (tag : Nat) (s : State) :
    (nackReceive tag s).ins.pages = s.ins.pages ∧ (nackReceive tag s).fuse.lifecycle = s.fuse.lifecycle := by
  unfold nackReceive; (try dsimp only); (repeat' (first | (simp [*]; done) | (have e_1 := State.takeAnswer_store _ _ _ (by assumption); simp [*]; done) | (refine foldl_store _ ?_ _ _ _ ?_ <;> intros <;> (try dsimp only)) | split | (apply And.intro)))
@[simp] theorem nackRetry_store (tag : Nat) (s : State) :
    (nackRetry tag s).ins.pages = s.ins.pages ∧ (nackRetry tag s).fuse.lifecycle = s.fuse.lifecycle := by
  unfold nackRetry; (try dsimp only); (repeat' (first | (simp [*]; done) | (have e_1 := State.sendReq_store _ _ _ (by assumption); simp [*]; done) | (refine foldl_store _ ?_ _ _ _ ?_ <;> intros <;> (try dsimp only)) | split | (apply And.intro)))
@[simp] theorem fenceComplete_store (e : Engine) (ctx : BitVec 16) (s : State) :
    (fenceComplete e ctx s).ins.pages = s.ins.pages ∧ (fenceComplete e ctx s).fuse.lifecycle = s.fuse.lifecycle := by
  unfold fenceComplete; (try dsimp only); (repeat' (first | (simp [*]; done) | (refine foldl_store _ ?_ _ _ _ ?_ <;> intros <;> (try dsimp only)) | split | (apply And.intro)))
@[simp] theorem State.lineDone_life (s : State) (src : Src) (bytes : List Byte) (poison : Bool) (err : Nat) :
    (State.lineDone s src bytes poison err).fuse.lifecycle = s.fuse.lifecycle := by
  unfold State.lineDone; (try dsimp only); (repeat' (first | (simp [*]; done) | split))
@[simp] theorem State.lineDone_wf (s : State) (src : Src) (bytes : List Byte) (poison : Bool) (err : Nat) (h_ : pagesWf s.ins.pages = true) : pagesWf (State.lineDone s src bytes poison err).ins.pages = true := by
  unfold State.lineDone; (try dsimp only); (repeat' (first | assumption | (simp [*]; done) | (apply foldl_wf <;> intros <;> (try dsimp only)) | (apply State.memberRead_wf) | split))
@[simp] theorem State.shfCapture_store (s : State) (k code line : Nat) :
    (State.shfCapture s k code line).ins.pages = s.ins.pages ∧ (State.shfCapture s k code line).fuse.lifecycle = s.fuse.lifecycle := by
  simp [State.shfCapture]
@[simp] theorem State.shfIrq_store (s : State) (k bit : Nat) :
    (State.shfIrq s k bit).ins.pages = s.ins.pages ∧ (State.shfIrq s k bit).fuse.lifecycle = s.fuse.lifecycle := by
  simp [State.shfIrq]
@[simp] theorem State.shfUncorr_store (s : State) (k code line : Nat) :
    (State.shfUncorr s k code line).ins.pages = s.ins.pages ∧ (State.shfUncorr s k code line).fuse.lifecycle = s.fuse.lifecycle := by
  simp [State.shfUncorr]
@[simp] theorem State.shfMacFail_store (s : State) (k n code line : Nat) :
    (State.shfMacFail s k n code line).ins.pages = s.ins.pages ∧ (State.shfMacFail s k n code line).fuse.lifecycle = s.fuse.lifecycle := by
  simp [State.shfMacFail]
@[simp] theorem State.shfCorr_store (s : State) (k line : Nat) :
    (State.shfCorr s k line).ins.pages = s.ins.pages ∧ (State.shfCorr s k line).fuse.lifecycle = s.fuse.lifecycle := by
  simp [State.shfCorr]
@[simp] theorem State.shaftTurn_store (s : State) (k part transfers cycles : Nat) (ctx : Option (BitVec 16)) (slots : List Nat) :
    (State.shaftTurn s k part transfers cycles ctx slots).ins.pages = s.ins.pages ∧ (State.shaftTurn s k part transfers cycles ctx slots).fuse.lifecycle = s.fuse.lifecycle := by
  simp [State.shaftTurn]
@[simp] theorem State.cacheCb_store (s : State) (k key : Nat) :
    (State.cacheCb s k key).ins.pages = s.ins.pages ∧ (State.cacheCb s k key).fuse.lifecycle = s.fuse.lifecycle := by
  simp [State.cacheCb]
@[simp] theorem State.missCb_store (s : State) (k key : Nat) :
    (State.missCb s k key).ins.pages = s.ins.pages ∧ (State.missCb s k key).fuse.lifecycle = s.fuse.lifecycle := by
  simp [State.missCb]
theorem State.takeAcc_store (s : State) (k : Nat) (p : Nat → Acc → Bool) {a_ : Acc} {t_ : State} (e_ : State.takeAcc s k p = some (a_, t_)) : t_.ins.pages = s.ins.pages ∧ t_.fuse.lifecycle = s.fuse.lifecycle := by
  first | (unfold State.takeAcc at e_; (try dsimp only at e_); (repeat' (first | contradiction | (simp only [Option.map_eq_some_iff, Option.bind_eq_some_iff, Option.some.injEq, Prod.mk.injEq] at e_; simp_all; done) | (cases e_; simp; done) | split at e_)); done) | (simp only [State.takeAcc, Option.map_eq_some_iff, Prod.mk.injEq] at e_; obtain ⟨_, _, rfl, rfl⟩ := e_; simp; done) | (simp only [State.takeAcc, Option.map_eq_some_iff] at e_; obtain ⟨_, _, rfl⟩ := e_; simp; done) | (grind [State.takeAcc, State.modShaft_store])
@[simp] theorem State.track_store (s : State) (k : Nat) (t : Track) :
    (State.track s k t).ins.pages = s.ins.pages ∧ (State.track s k t).fuse.lifecycle = s.fuse.lifecycle := by
  simp [State.track]
@[simp] theorem State.untrack_store (s : State) (k tag : Nat) :
    (State.untrack s k tag).ins.pages = s.ins.pages ∧ (State.untrack s k tag).fuse.lifecycle = s.fuse.lifecycle := by
  simp [State.untrack]
@[simp] theorem State.modTrack_store (s : State) (k tag : Nat) (f : Track → Track) :
    (State.modTrack s k tag f).ins.pages = s.ins.pages ∧ (State.modTrack s k tag f).fuse.lifecycle = s.fuse.lifecycle := by
  simp [State.modTrack]
@[simp] theorem shaftRead_life (k : Nat) (s : State) : (shaftRead k s).fuse.lifecycle = s.fuse.lifecycle := by
  unfold shaftRead; (try dsimp only); (repeat' (first | (simp [*]; done) | (have e_1 := State.takeAcc_store _ _ _ (by assumption); simp [*]; done) | split))
@[simp] theorem shaftRead_wf (k : Nat) (s : State) (h_ : pagesWf s.ins.pages = true) : pagesWf (shaftRead k s).ins.pages = true := by
  unfold shaftRead; (try dsimp only); (repeat' (first | assumption | (simp [*]; done) | (have e_1 := State.takeAcc_store _ _ _ (by assumption); simp [*]; done) | (apply foldl_wf <;> intros <;> (try dsimp only)) | (apply State.lineDone_wf) | split))
@[simp] theorem State.judge_store (s : State) (k : Nat) (t : Track) (d : Decoded) :
    (State.judge s k t d).ins.pages = s.ins.pages ∧ (State.judge s k t d).fuse.lifecycle = s.fuse.lifecycle := by
  simp [State.judge]
@[simp] theorem State.deliverLine_life (s : State) (k : Nat) (t : Track) (d : Decoded) :
    (State.deliverLine s k t d).fuse.lifecycle = s.fuse.lifecycle := by
  simp [State.deliverLine]
@[simp] theorem State.deliverLine_wf (s : State) (k : Nat) (t : Track) (d : Decoded) (h_ : pagesWf s.ins.pages = true) : pagesWf (State.deliverLine s k t d).ins.pages = true := by
  unfold State.deliverLine; (try dsimp only); (repeat' (first | assumption | (simp [*]; done) | (apply foldl_wf <;> intros <;> (try dsimp only)) | (apply State.lineDone_wf) | split))
@[simp] theorem State.offerLine_life (s : State) (k : Nat) (t : Track) (d : Decoded) :
    (State.offerLine s k t d).fuse.lifecycle = s.fuse.lifecycle := by
  simp [State.offerLine]
@[simp] theorem State.offerLine_wf (s : State) (k : Nat) (t : Track) (d : Decoded) (h_ : pagesWf s.ins.pages = true) : pagesWf (State.offerLine s k t d).ins.pages = true := by
  unfold State.offerLine; (try dsimp only); (repeat' (first | assumption | (simp [*]; done) | (apply foldl_wf <;> intros <;> (try dsimp only)) | (apply State.deliverLine_wf) | split))
@[simp] theorem hubReadReturn_life (k tag : Nat) (l : HubLine) (s : State) : (hubReadReturn k tag l s).fuse.lifecycle = s.fuse.lifecycle := by
  unfold hubReadReturn; (try dsimp only); (repeat' (first | (simp [*]; done) | split))
@[simp] theorem hubReadReturn_wf (k tag : Nat) (l : HubLine) (s : State) (h_ : pagesWf s.ins.pages = true) : pagesWf (hubReadReturn k tag l s).ins.pages = true := by
  unfold hubReadReturn; (try dsimp only); (repeat' (first | assumption | (simp [*]; done) | (apply foldl_wf <;> intros <;> (try dsimp only)) | (apply State.offerLine_wf) | (apply State.lineDone_wf) | split))
@[simp] theorem padReady_life (k tag : Nat) (s : State) : (padReady k tag s).fuse.lifecycle = s.fuse.lifecycle := by
  unfold padReady; (try dsimp only); (repeat' (first | (simp [*]; done) | split))
@[simp] theorem padReady_wf (k tag : Nat) (s : State) (h_ : pagesWf s.ins.pages = true) : pagesWf (padReady k tag s).ins.pages = true := by
  unfold padReady; (try dsimp only); (repeat' (first | assumption | (simp [*]; done) | (apply foldl_wf <;> intros <;> (try dsimp only)) | (apply State.offerLine_wf) | split))
@[simp] theorem correctionVerdict_life (k : Nat) (s : State) : (correctionVerdict k s).fuse.lifecycle = s.fuse.lifecycle := by
  unfold correctionVerdict; (try dsimp only); (repeat' (first | (simp [*]; done) | split))
@[simp] theorem correctionVerdict_wf (k : Nat) (s : State) (h_ : pagesWf s.ins.pages = true) : pagesWf (correctionVerdict k s).ins.pages = true := by
  unfold correctionVerdict; (try dsimp only); (repeat' (first | assumption | (simp [*]; done) | (apply foldl_wf <;> intros <;> (try dsimp only)) | (apply State.deliverLine_wf) | split))
@[simp] theorem State.putLine_store (s : State) (k n line : Nat) (c : Line) (key : Nat × Nat × BitVec 4) (ver : BitVec 44) :
    (State.putLine s k n line c key ver).ins.pages = s.ins.pages ∧ (State.putLine s k n line c key ver).fuse.lifecycle = s.fuse.lifecycle := by
  simp [State.putLine]
@[simp] theorem State.commitLine_life (s : State) (k n : Nat) (a : Acc) (key : Nat × Nat × BitVec 4) (ver : BitVec 44) (plain : Line) (old : List Byte) :
    (State.commitLine s k n a key ver plain old).fuse.lifecycle = s.fuse.lifecycle := by
  simp [State.commitLine]
@[simp] theorem State.commitLine_wf (s : State) (k n : Nat) (a : Acc) (key : Nat × Nat × BitVec 4) (ver : BitVec 44) (plain : Line) (old : List Byte) (h_ : pagesWf s.ins.pages = true) : pagesWf (State.commitLine s k n a key ver plain old).ins.pages = true := by
  simp [State.commitLine, h_]
@[simp] theorem State.takeToken_store (s : State) (n : Nat) (a : Acc) :
    (State.takeToken s n a).ins.pages = s.ins.pages ∧ (State.takeToken s n a).fuse.lifecycle = s.fuse.lifecycle := by
  simp [State.takeToken]
@[simp] theorem State.writeGo_life (s : State) (k n : Nat) (a : Acc) : (State.writeGo s k n a).fuse.lifecycle = s.fuse.lifecycle := by
  unfold State.writeGo; (try dsimp only); (repeat' (first | (simp [*]; done) | split))
@[simp] theorem State.writeGo_wf (s : State) (k n : Nat) (a : Acc) (h_ : pagesWf s.ins.pages = true) : pagesWf (State.writeGo s k n a).ins.pages = true := by
  unfold State.writeGo; (try dsimp only); (repeat' (first | assumption | (simp [*]; done) | (apply foldl_wf <;> intros <;> (try dsimp only)) | (apply State.lineDone_wf) | (apply State.commitLine_wf) | split))
theorem State.writeOne_life (s : State) (k : Nat) {t_ : State} (e_ : State.writeOne s k = some t_) : t_.fuse.lifecycle = s.fuse.lifecycle := by
  unfold State.writeOne at e_
  simp only [Option.map_eq_some_iff] at e_
  obtain ⟨⟨a, t⟩, h, rfl⟩ := e_
  have e := (State.takeAcc_store _ _ _ h).2
  dsimp only
  (repeat' split) <;> simp [*]
theorem State.writeOne_wf (s : State) (k : Nat) (h_ : pagesWf s.ins.pages = true) {t_ : State} (e_ : State.writeOne s k = some t_) : pagesWf t_.ins.pages = true := by
  unfold State.writeOne at e_
  simp only [Option.map_eq_some_iff] at e_
  obtain ⟨⟨a, t⟩, h, rfl⟩ := e_
  have e := (State.takeAcc_store _ _ _ h).1
  rw [← e] at h_
  dsimp only
  split
  · exact State.lineDone_wf _ _ _ _ _ h_
  · exact h_
  · split
    · refine State.writeGo_wf _ _ _ _ ?_
      rw [(State.takeToken_store _ _ _).1]; exact h_
    · exact h_
@[simp] theorem State.askBlocks_store (s : State) (k : Nat) :
    (State.askBlocks s k).ins.pages = s.ins.pages ∧ (State.askBlocks s k).fuse.lifecycle = s.fuse.lifecycle := by
  unfold State.askBlocks; (try dsimp only); (repeat' (first | (simp [*]; done) | (refine foldl_store _ ?_ _ _ _ ?_ <;> intros <;> (try dsimp only)) | split | (apply And.intro)))
@[simp] theorem State.runWrites_life (k n : Nat) (s : State) : (State.runWrites k n s).fuse.lifecycle = s.fuse.lifecycle := by
  induction n generalizing s with
  | zero => exact rfl
  | succ n ih =>
    unfold State.runWrites
    split
    · exact (ih _).trans (State.writeOne_life _ _ (by assumption))
    · exact rfl

@[simp] theorem State.runWrites_wf (k n : Nat) (s : State) (h_ : pagesWf s.ins.pages = true) : pagesWf (State.runWrites k n s).ins.pages = true := by
  induction n generalizing s with
  | zero => exact h_
  | succ n ih =>
    unfold State.runWrites
    split
    · exact ih _ (State.writeOne_wf _ _ h_ (by assumption))
    · exact h_
@[simp] theorem shaftWrite_life (k : Nat) (s : State) : (shaftWrite k s).fuse.lifecycle = s.fuse.lifecycle := by
  unfold shaftWrite; (try dsimp only); (repeat' (first | (simp [*]; done) | (have e_1 := State.writeOne_life _ _ (by assumption); simp [*]; done) | split))
@[simp] theorem shaftWrite_wf (k : Nat) (s : State) (h_ : pagesWf s.ins.pages = true) : pagesWf (shaftWrite k s).ins.pages = true := by
  unfold shaftWrite
  split
  · exact State.writeOne_wf _ _ h_ (by assumption)
  · rw [(State.askBlocks_store _ _).1]; exact h_

@[simp] theorem counterFetchDone_life (k blk : Nat) (ecc : Ecc) (s : State) : (counterFetchDone k blk ecc s).fuse.lifecycle = s.fuse.lifecycle := by
  unfold counterFetchDone; (try dsimp only); (repeat' (first | (simp [*]; done) | split))
@[simp] theorem counterFetchDone_wf (k blk : Nat) (ecc : Ecc) (s : State) (h_ : pagesWf s.ins.pages = true) : pagesWf (counterFetchDone k blk ecc s).ins.pages = true := by
  unfold counterFetchDone
  extract_lets key t
  have ht : pagesWf t.ins.pages = true := h_
  clear_value t
  split
  · exact h_
  · split
    · exact ht
    · rename_i n e _
      extract_lets page waits
      split
      · refine State.runWrites_wf _ _ _ ?_
        refine foldl_wf _ ?_ _ _ ?_
        · intro s x hs
          refine State.lineDone_wf _ _ _ _ _ ?_
          rw [(State.keepOpt_store _ _ _ _ _).1, (State.untrack_store _ _ _).1]; exact hs
        · rw [(State.loseCounter_store _ _ _ _ _).1, (State.used_store _).1]; exact ht
      · refine State.runWrites_wf _ _ _ ?_
        refine foldl_wf _ ?_ _ _ ?_
        · intro s x hs
          rw [(State.modTrack_store _ _ _ _).1]; exact hs
        · have hv : ∀ u : State, pagesWf u.ins.pages = true → pagesWf (if u.pageBad n page then u.partFault 0x110A e.owner (.unit .seam n 0) else u).ins.pages = true := by
            intro u hu
            split
            · rw [(State.partFault_store _ _ _ _).1]; exact hu
            · exact hu
          refine hv _ ?_
          rw [(State.cacheCb_store _ _ _).1, (State.insWords_store _ _ _ _ _).1]; exact ht
@[simp] theorem writeTokenArrive_life (n : Nat) (s : State) : (writeTokenArrive n s).fuse.lifecycle = s.fuse.lifecycle := by
  simp [writeTokenArrive]
@[simp] theorem writeTokenArrive_wf (n : Nat) (s : State) (h_ : pagesWf s.ins.pages = true) : pagesWf (writeTokenArrive n s).ins.pages = true := by
  unfold writeTokenArrive; (try dsimp only); (repeat' (first | assumption | (simp [*]; done) | (apply foldl_wf <;> intros <;> (try dsimp only)) | split))
@[simp] theorem State.refuseOld_life (s : State) (k n : Nat) (a : Acc) (code : Nat) :
    (State.refuseOld s k n a code).fuse.lifecycle = s.fuse.lifecycle := by
  simp [State.refuseOld]
@[simp] theorem State.refuseOld_wf (s : State) (k n : Nat) (a : Acc) (code : Nat) (h_ : pagesWf s.ins.pages = true) : pagesWf (State.refuseOld s k n a code).ins.pages = true := by
  simp [State.refuseOld, h_]
@[simp] theorem partialOldLineReturn_life (k tag : Nat) (l : HubLine) (s : State) :
    (partialOldLineReturn k tag l s).fuse.lifecycle = s.fuse.lifecycle := by
  unfold partialOldLineReturn; (try dsimp only); (repeat' (first | (simp [*]; done) | split))
@[simp] theorem partialOldLineReturn_wf (k tag : Nat) (l : HubLine) (s : State) (h_ : pagesWf s.ins.pages = true) : pagesWf (partialOldLineReturn k tag l s).ins.pages = true := by
  unfold partialOldLineReturn; (try dsimp only); (repeat' (first | assumption | (simp [*]; done) | (apply foldl_wf <;> intros <;> (try dsimp only)) | (apply State.refuseOld_wf) | (apply State.commitLine_wf) | split))
@[simp] theorem hubWriteAck_store (k line : Nat) (s : State) :
    (hubWriteAck k line s).ins.pages = s.ins.pages ∧ (hubWriteAck k line s).fuse.lifecycle = s.fuse.lifecycle := by
  unfold hubWriteAck; (try dsimp only); (repeat' (first | (simp [*]; done) | (refine foldl_store _ ?_ _ _ _ ?_ <;> intros <;> (try dsimp only)) | split | (apply And.intro)))
@[simp] theorem State.leftInPlace_store (s : State) (k n line code : Nat) :
    (State.leftInPlace s k n line code).ins.pages = s.ins.pages ∧ (State.leftInPlace s k n line code).fuse.lifecycle = s.fuse.lifecycle := by
  simp [State.leftInPlace]
@[simp] theorem State.reencipher_store (s : State) (k n line code : Nat) (kOld : Nat × Nat × BitVec 4) (vOld : BitVec 44) (kNew : Nat × Nat × BitVec 4)
    (vNew : BitVec 44) (l : HubLine) : (State.reencipher s k n line code kOld vOld kNew vNew l).ins.pages = s.ins.pages ∧ (State.reencipher s k n line code kOld vOld kNew vNew l).fuse.lifecycle = s.fuse.lifecycle := by
  unfold State.reencipher; (try dsimp only); (repeat' (first | (simp [*]; done) | (refine foldl_store _ ?_ _ _ _ ?_ <;> intros <;> (try dsimp only)) | split | (apply And.intro)))
@[simp] theorem refreshDone_life (k : Nat) (lines : List HubLine) (s : State) : (refreshDone k lines s).fuse.lifecycle = s.fuse.lifecycle := by
  unfold refreshDone; (try dsimp only); (repeat' (first | (simp [*]; done) | split))
@[simp] theorem refreshDone_wf (k : Nat) (lines : List HubLine) (s : State) (h_ : pagesWf s.ins.pages = true) : pagesWf (refreshDone k lines s).ins.pages = true := by
  unfold refreshDone; (try dsimp only); (repeat' (first | assumption | (simp [*]; done) | (apply foldl_wf <;> intros <;> (try dsimp only)) | (apply State.refuseOld_wf) | (apply State.commitLine_wf) | split))
@[simp] theorem sweepPage_store (k : Nat) (lines : List HubLine) (ecc : Ecc) (s : State) :
    (sweepPage k lines ecc s).ins.pages = s.ins.pages ∧ (sweepPage k lines ecc s).fuse.lifecycle = s.fuse.lifecycle := by
  unfold sweepPage; (try dsimp only); (repeat' (first | (simp [*]; done) | (refine foldl_store _ ?_ _ _ _ ?_ <;> intros <;> (try dsimp only)) | split | (apply And.intro)))
@[simp] theorem State.keepWords_store (s : State) (src : Src) (w n : Nat) :
    (State.keepWords s src w n).ins.pages = s.ins.pages ∧ (State.keepWords s src w n).fuse.lifecycle = s.fuse.lifecycle := by
  simp [State.keepWords]
@[simp] theorem innerPageAccess_life (q key : Nat) (ecc : Ecc) (s : State) : (innerPageAccess q key ecc s).fuse.lifecycle = s.fuse.lifecycle := by
  unfold innerPageAccess
  split
  · rfl
  · rename_i r _
    extract_lets before n t0 t reads line0 kept reads'
    split
    · rfl
    · have e1 : (if reads'.isEmpty then (t, false) else t.insWords q (reads'.map (innerWord r.addr + ·)) 6 ecc).1.fuse.lifecycle = s.fuse.lifecycle := by
        split <;> simp [t]
      generalize (if reads'.isEmpty then (t, false) else t.insWords q (reads'.map (innerWord r.addr + ·)) 6 ecc) = w at e1
      obtain ⟨u, bad⟩ := w
      dsimp only at e1 ⊢
      cases bad
      · simp only [Bool.false_eq_true, if_false]
        (repeat' split) <;> simp [e1]
      · simp only [if_true]
        (repeat' split) <;> simp [e1]
@[simp] theorem innerPageAccess_wf (q key : Nat) (ecc : Ecc) (s : State) (h_ : pagesWf s.ins.pages = true) : pagesWf (innerPageAccess q key ecc s).ins.pages = true := by
  unfold innerPageAccess
  split
  · exact h_
  · rename_i r _
    extract_lets before n t0 t reads line0 kept reads'
    split
    · exact h_
    · have e1 : pagesWf (if reads'.isEmpty then (t, false) else t.insWords q (reads'.map (innerWord r.addr + ·)) 6 ecc).1.ins.pages = true := by
        split
        · exact h_
        · rw [(State.insWords_store _ _ _ _ _).1]; exact h_
      generalize (if reads'.isEmpty then (t, false) else t.insWords q (reads'.map (innerWord r.addr + ·)) 6 ecc) = w at e1
      obtain ⟨u, bad⟩ := w
      dsimp only at e1 ⊢
      have e2 : pagesWf (u.keepWords r.src line0 ((r.addr % 8 + n + 7) / 8)).ins.pages = true := by rw [(State.keepWords_store _ _ _ _).1]; exact e1
      have e3 : pagesWf (u.keepOpt r.part r.ctx 0x2205 (lineObj (r.addr % 2 ^ 44 / 64) 0xFF)).ins.pages = true := by
        rw [(State.keepOpt_store _ _ _ _ _).1]; exact e1
      cases bad
      · simp only [Bool.false_eq_true, if_false]
        (repeat' split) <;> first | exact State.lineDone_wf _ _ _ _ _ e2 | exact State.lineDone_wf _ _ _ _ _ (State.writeInner_wf _ _ _ _ e2)
      · simp only [if_true]
        (repeat' split) <;> first | exact State.lineDone_wf _ _ _ _ _ e1 | exact State.lineDone_wf _ _ _ _ _ e3
@[simp] theorem State.decisionLost_store (s : State) (k p : Nat) :
    (State.decisionLost s k p).ins.pages = s.ins.pages ∧ (State.decisionLost s k p).fuse.lifecycle = s.fuse.lifecycle := by
  unfold State.decisionLost; (try dsimp only); (repeat' (first | (simp [*]; done) | (refine foldl_store _ ?_ _ _ _ ?_ <;> intros <;> (try dsimp only)) | split | (apply And.intro)))
@[simp] theorem State.wordLost_store (s : State) (q word : Nat) :
    (State.wordLost s q word).ins.pages = s.ins.pages ∧ (State.wordLost s q word).fuse.lifecycle = s.fuse.lifecycle := by
  unfold State.wordLost; (try dsimp only); (repeat' (first | (simp [*]; done) | (refine foldl_store _ ?_ _ _ _ ?_ <;> intros <;> (try dsimp only)) | split | (apply And.intro)))
@[simp] theorem scrubWordRead_store (q word : Nat) (ecc : Ecc) (s : State) :
    (scrubWordRead q word ecc s).ins.pages = s.ins.pages ∧ (scrubWordRead q word ecc s).fuse.lifecycle = s.fuse.lifecycle := by
  unfold scrubWordRead; (try dsimp only); (repeat' (first | (simp [*]; done) | (refine foldl_store _ ?_ _ _ _ ?_ <;> intros <;> (try dsimp only)) | split | (apply And.intro)))
@[simp] theorem scrubPassEnd_store (q : Nat) (s : State) :
    (scrubPassEnd q s).ins.pages = s.ins.pages ∧ (scrubPassEnd q s).fuse.lifecycle = s.fuse.lifecycle := by
  simp [scrubPassEnd]
@[simp] theorem State.zeroShare_life (s : State) (k : Nat) : (State.zeroShare s k).fuse.lifecycle = s.fuse.lifecycle := by
  simp [State.zeroShare]
@[simp] theorem State.zeroShare_wf (s : State) (k : Nat) (h_ : pagesWf s.ins.pages = true) : pagesWf (State.zeroShare s k).ins.pages = true := filterInner_wf _ _ h_
@[simp] theorem State.beginZero_store (s : State) (k : Nat) :
    (State.beginZero s k).ins.pages = s.ins.pages ∧ (State.beginZero s k).fuse.lifecycle = s.fuse.lifecycle := by
  simp [State.beginZero]
@[simp] theorem shareZeroDone_life (k : Nat) (s : State) : (shareZeroDone k s).fuse.lifecycle = s.fuse.lifecycle := by
  simp [shareZeroDone]
@[simp] theorem shareZeroDone_wf (k : Nat) (s : State) (h_ : pagesWf s.ins.pages = true) : pagesWf (shareZeroDone k s).ins.pages = true := by
  simp [shareZeroDone, h_]
@[simp] theorem State.tsIrq_store (s : State) (t bit : Nat) :
    (State.tsIrq s t bit).ins.pages = s.ins.pages ∧ (State.tsIrq s t bit).fuse.lifecycle = s.fuse.lifecycle := by
  simp [State.tsIrq]
@[simp] theorem State.zeroSite_store (s : State) (t : Nat) :
    (State.zeroSite s t).ins.pages = s.ins.pages ∧ (State.zeroSite s t).fuse.lifecycle = s.fuse.lifecycle := by
  simp [State.zeroSite]
@[simp] theorem State.abandonSite_store (s : State) (t : Nat) :
    (State.abandonSite s t).ins.pages = s.ins.pages ∧ (State.abandonSite s t).fuse.lifecycle = s.fuse.lifecycle := by
  simp [State.abandonSite]
@[simp] theorem State.disableSite_store (s : State) (t code : Nat) :
    (State.disableSite s t code).ins.pages = s.ins.pages ∧ (State.disableSite s t code).fuse.lifecycle = s.fuse.lifecycle := by
  simp [State.disableSite]
@[simp] theorem State.rejectSite_store (s : State) (t code : Nat) :
    (State.rejectSite s t code).ins.pages = s.ins.pages ∧ (State.rejectSite s t code).fuse.lifecycle = s.fuse.lifecycle := by
  simp [State.rejectSite]
@[simp] theorem State.quarantine_store (s : State) (t code : Nat) :
    (State.quarantine s t code).ins.pages = s.ins.pages ∧ (State.quarantine s t code).fuse.lifecycle = s.fuse.lifecycle := by
  simp [State.quarantine]
@[simp] theorem State.flushSite_store (s : State) (t : Nat) :
    (State.flushSite s t).ins.pages = s.ins.pages ∧ (State.flushSite s t).fuse.lifecycle = s.fuse.lifecycle := by
  simp [State.flushSite]
@[simp] theorem State.startSite_store (s : State) (t : Nat) :
    (State.startSite s t).ins.pages = s.ins.pages ∧ (State.startSite s t).fuse.lifecycle = s.fuse.lifecycle := by
  simp [State.startSite]
@[simp] theorem State.takeChunk_store (s : State) (t code idx : Nat) (last : Bool) (b : List Byte) :
    (State.takeChunk s t code idx last b).ins.pages = s.ins.pages ∧ (State.takeChunk s t code idx last b).fuse.lifecycle = s.fuse.lifecycle := by
  simp [State.takeChunk]
theorem State.takeBoot_store (s : State) (t code : Nat) (b : List Byte) {t_ : State} (e_ : State.takeBoot s t code b = some t_) : t_.ins.pages = s.ins.pages ∧ t_.fuse.lifecycle = s.fuse.lifecycle := by
  first | (unfold State.takeBoot at e_; (try dsimp only at e_); (repeat' (first | contradiction | (simp only [Option.map_eq_some_iff, Option.bind_eq_some_iff, Option.some.injEq, Prod.mk.injEq] at e_; simp_all; done) | (cases e_; simp; done) | split at e_)); done) | (simp only [State.takeBoot, Option.map_eq_some_iff, Prod.mk.injEq] at e_; obtain ⟨_, _, rfl, rfl⟩ := e_; simp; done) | (simp only [State.takeBoot, Option.map_eq_some_iff] at e_; obtain ⟨_, _, rfl⟩ := e_; simp; done) | (grind [State.takeBoot, State.modSio_store])
@[simp] theorem State.takeBoot_sgetD (s : State) (t code : Nat) (b : List Byte) (u_ : State) (h_ : u_.ins.pages = s.ins.pages ∧ u_.fuse.lifecycle = s.fuse.lifecycle) :
    ((State.takeBoot s t code b).getD u_).ins.pages = s.ins.pages ∧ ((State.takeBoot s t code b).getD u_).fuse.lifecycle = s.fuse.lifecycle := by
  cases e_ : State.takeBoot s t code b with
  | none => exact h_
  | some t_ => exact State.takeBoot_store _ _ _ _ e_
@[simp] theorem siteLinkUp_store (t : Nat) (cfgOk : Bool) (s : State) :
    (siteLinkUp t cfgOk s).ins.pages = s.ins.pages ∧ (siteLinkUp t cfgOk s).fuse.lifecycle = s.fuse.lifecycle := by
  unfold siteLinkUp; (try dsimp only); (repeat' (first | (simp [*]; done) | (refine foldl_store _ ?_ _ _ _ ?_ <;> intros <;> (try dsimp only)) | split | (apply And.intro)))
@[simp] theorem siteLinkDown_store (t : Nat) (s : State) :
    (siteLinkDown t s).ins.pages = s.ins.pages ∧ (siteLinkDown t s).fuse.lifecycle = s.fuse.lifecycle := by
  simp [siteLinkDown]
@[simp] theorem State.siteHello_store (s : State) (t : Nat) (h : ShimHello) :
    (State.siteHello s t h).ins.pages = s.ins.pages ∧ (State.siteHello s t h).fuse.lifecycle = s.fuse.lifecycle := by
  simp [State.siteHello]
@[simp] theorem ctrlHello_store (t : Nat) (h : ShimHello) (s : State) :
    (ctrlHello t h s).ins.pages = s.ins.pages ∧ (ctrlHello t h s).fuse.lifecycle = s.fuse.lifecycle := by
  unfold ctrlHello; (try dsimp only); (repeat' (first | (simp [*]; done) | (have e_1 := State.takeBoot_store _ _ _ _ (by assumption); simp [*]; done) | (refine foldl_store _ ?_ _ _ _ ?_ <;> intros <;> (try dsimp only)) | split | (apply And.intro)))
@[simp] theorem ctrlResponse_store (t : Nat) (r : ShimResponse) (s : State) :
    (ctrlResponse t r s).ins.pages = s.ins.pages ∧ (ctrlResponse t r s).fuse.lifecycle = s.fuse.lifecycle := by
  unfold ctrlResponse; dsimp only
  split
  · simp
  · split
    · simp
    · rename_i s0 h0
      have e0 := State.takeBoot_store _ _ _ _ h0
      split
      · simp [e0]
      · split
        · simp [e0]
        · split
          · simp [e0]
          · rename_i h1
            split
            · simp [e0]
            · rename_i h2
              split
              · simp [e0]
              · rename_i h3
                exact store_trans (State.ctrl_store _ _ _ _) (store_trans (State.modSio_store _ _ _) (store_trans (State.modSite_store _ _ _)
                  (store_trans (State.putLink_store _ _ _ h3) (store_trans (State.putLink_store _ _ _ h2) (store_trans (State.putLink_store _ _ _ h1)
                    (store_trans (State.modSite_store _ _ _) e0))))))
@[simp] theorem State.gainCredits_store (s : State) (t n : Nat) :
    (State.gainCredits s t n).ins.pages = s.ins.pages ∧ (State.gainCredits s t n).fuse.lifecycle = s.fuse.lifecycle := by
  simp [State.gainCredits]
@[simp] theorem State.drainRsp_store (s : State) (t : Nat) :
    (State.drainRsp s t).ins.pages = s.ins.pages ∧ (State.drainRsp s t).fuse.lifecycle = s.fuse.lifecycle := by
  unfold State.drainRsp; (try dsimp only); (repeat' (first | (simp [*]; done) | (refine foldl_store _ ?_ _ _ _ ?_ <;> intros <;> (try dsimp only)) | split | (apply And.intro)))
@[simp] theorem State.returnCredits_store (s : State) (t : Nat) :
    (State.returnCredits s t).ins.pages = s.ins.pages ∧ (State.returnCredits s t).fuse.lifecycle = s.fuse.lifecycle := by
  simp [State.returnCredits]
@[simp] theorem State.frameFailed_store (s : State) (t : Nat) :
    (State.frameFailed s t).ins.pages = s.ins.pages ∧ (State.frameFailed s t).fuse.lifecycle = s.fuse.lifecycle := by
  simp [State.frameFailed]
@[simp] theorem State.acceptFrame_store (s : State) (t : Nat) (hd : Dword) (plain : List Byte) :
    (State.acceptFrame s t hd plain).ins.pages = s.ins.pages ∧ (State.acceptFrame s t hd plain).fuse.lifecycle = s.fuse.lifecycle := by
  simp [State.acceptFrame]
@[simp] theorem frameReceive_store (t : Nat) (frame : List Byte) (s : State) :
    (frameReceive t frame s).ins.pages = s.ins.pages ∧ (frameReceive t frame s).fuse.lifecycle = s.fuse.lifecycle := by
  unfold frameReceive; (try dsimp only); (repeat' (first | (simp [*]; done) | (refine foldl_store _ ?_ _ _ _ ?_ <;> intros <;> (try dsimp only)) | split | (apply And.intro)))
theorem State.takeRx_store (s : State) (t : Nat) (p : RxFrame → Bool) {a_ : RxFrame} {t_ : State} (e_ : State.takeRx s t p = some (a_, t_)) : t_.ins.pages = s.ins.pages ∧ t_.fuse.lifecycle = s.fuse.lifecycle := by
  first | (unfold State.takeRx at e_; (try dsimp only at e_); (repeat' (first | contradiction | (simp only [Option.map_eq_some_iff, Option.bind_eq_some_iff, Option.some.injEq, Prod.mk.injEq] at e_; simp_all; done) | (cases e_; simp; done) | split at e_)); done) | (simp only [State.takeRx, Option.map_eq_some_iff, Prod.mk.injEq] at e_; obtain ⟨_, _, rfl, rfl⟩ := e_; simp; done) | (simp only [State.takeRx, Option.map_eq_some_iff] at e_; obtain ⟨_, _, rfl⟩ := e_; simp; done) | (grind [State.takeRx, State.modSio_store])
theorem State.takeCtrl_store (s : State) (t code : Nat) {a_ : RxFrame} {t_ : State} (e_ : State.takeCtrl s t code = some (a_, t_)) : t_.ins.pages = s.ins.pages ∧ t_.fuse.lifecycle = s.fuse.lifecycle := by
  first | (unfold State.takeCtrl at e_; (try dsimp only at e_); (repeat' (first | contradiction | (simp only [Option.map_eq_some_iff, Option.bind_eq_some_iff, Option.some.injEq, Prod.mk.injEq] at e_; simp_all; done) | (cases e_; simp; done) | (have e_1 := State.takeRx_store _ _ _ (by assumption); simp [*]; done) | split at e_)); done) | (simp only [State.takeCtrl, Option.map_eq_some_iff, Prod.mk.injEq] at e_; obtain ⟨_, _, rfl, rfl⟩ := e_; simp; done) | (simp only [State.takeCtrl, Option.map_eq_some_iff] at e_; obtain ⟨_, _, rfl⟩ := e_; simp; done) | (grind [State.takeCtrl, State.takeRx_store])
@[simp] theorem State.takeSlot_store (t : Nat) (seq : Dword) (words : List Block) (x : State × Bool) (i : Nat) :
    (State.takeSlot t seq words x i).1.ins.pages = x.1.ins.pages ∧ (State.takeSlot t seq words x i).1.fuse.lifecycle = x.1.fuse.lifecycle := by
  obtain ⟨s, b⟩ := x
  unfold State.takeSlot
  dsimp only
  (repeat' split) <;> simp
theorem State.takeSlots_store (t : Nat) (seq : Dword) (words : List Block) (l : List Nat) (x : State × Bool) :
    (l.foldl (State.takeSlot t seq words) x).1.ins.pages = x.1.ins.pages ∧ (l.foldl (State.takeSlot t seq words) x).1.fuse.lifecycle = x.1.fuse.lifecycle := by
  induction l generalizing x with
  | nil => exact ⟨rfl, rfl⟩
  | cons a l ih => exact store_trans (ih _) (State.takeSlot_store _ _ _ _ _)
@[simp] theorem reqFrame_store (t : Nat) (s : State) : (reqFrame t s).ins.pages = s.ins.pages ∧ (reqFrame t s).fuse.lifecycle = s.fuse.lifecycle := by
  unfold reqFrame
  split
  · simp
  · split
    · simp
    · rename_i f u h
      have e := State.takeRx_store _ _ _ h
      have e2 := store_trans (State.modSio_store u t fun io => { io with reqGot := io.reqGot + 1 }) e
      dsimp only
      generalize u.modSio t (fun io => { io with reqGot := io.reqGot + 1 }) = v at *
      generalize reqWords f.payload = l
      have e3 := State.takeSlots_store t f.seq l (List.range 4) (v, false)
      generalize (List.range 4).foldl (State.takeSlot t f.seq l) (v, false) = w at *
      exact store_trans (State.returnCredits_store _ _) (store_trans e3 e2)
@[simp] theorem dataFrame_store (t : Nat) (s : State) :
    (dataFrame t s).ins.pages = s.ins.pages ∧ (dataFrame t s).fuse.lifecycle = s.fuse.lifecycle := by
  unfold dataFrame; (try dsimp only); (repeat' (first | (simp [*]; done) | (have e_1 := State.takeRx_store _ _ _ (by assumption); simp [*]; done) | (refine foldl_store _ ?_ _ _ _ ?_ <;> intros <;> (try dsimp only)) | split | (apply And.intro)))
@[simp] theorem State.modOp_store (s : State) (t tag : Nat) (f : SlotOp → SlotOp) :
    (State.modOp s t tag f).ins.pages = s.ins.pages ∧ (State.modOp s t tag f).fuse.lifecycle = s.fuse.lifecycle := by
  simp [State.modOp]
@[simp] theorem State.endSlot_store (s : State) (t : Nat) (o : SlotOp) (status : Nat) :
    (State.endSlot s t o status).ins.pages = s.ins.pages ∧ (State.endSlot s t o status).fuse.lifecycle = s.fuse.lifecycle := by
  simp [State.endSlot]
@[simp] theorem State.joinCart_store (s : State) (t : Nat) (o : SlotOp) (ctx : BitVec 16) :
    (State.joinCart s t o ctx).ins.pages = s.ins.pages ∧ (State.joinCart s t o ctx).fuse.lifecycle = s.fuse.lifecycle := by
  unfold State.joinCart; (try dsimp only); (repeat' (first | (simp [*]; done) | (refine foldl_store _ ?_ _ _ _ ?_ <;> intros <;> (try dsimp only)) | split | (apply And.intro)))
@[simp] theorem State.endCart_store (s : State) (t : Nat) (o : SlotOp) (ctx : BitVec 16) :
    (State.endCart s t o ctx).ins.pages = s.ins.pages ∧ (State.endCart s t o ctx).fuse.lifecycle = s.fuse.lifecycle := by
  unfold State.endCart; (try dsimp only); (repeat' (first | (simp [*]; done) | (refine foldl_store _ ?_ _ _ _ ?_ <;> intros <;> (try dsimp only)) | split | (apply And.intro)))
@[simp] theorem State.issueKept_store (s : State) (t : Nat) (o : SlotOp) :
    (State.issueKept s t o).ins.pages = s.ins.pages ∧ (State.issueKept s t o).fuse.lifecycle = s.fuse.lifecycle := by
  unfold State.issueKept; (try dsimp only); (repeat' (first | (simp [*]; done) | (have e_1 := State.issueReq_store _ _ _ _ _ _ (by assumption); simp [*]; done) | (refine foldl_store _ ?_ _ _ _ ?_ <;> intros <;> (try dsimp only)) | split | (apply And.intro)))
@[simp] theorem siteSlotIssue_store (t : Nat) (tag : Nat) (s : State) :
    (siteSlotIssue t tag s).ins.pages = s.ins.pages ∧ (siteSlotIssue t tag s).fuse.lifecycle = s.fuse.lifecycle := by
  unfold siteSlotIssue; (try dsimp only); (repeat' (first | (simp [*]; done) | (have e_1 := State.issueReq_store _ _ _ _ _ _ (by assumption); simp [*]; done) | (refine foldl_store _ ?_ _ _ _ ?_ <;> intros <;> (try dsimp only)) | split | (apply And.intro)))
@[simp] theorem ctrlKeyConfirm_store (t : Nat) (s : State) :
    (ctrlKeyConfirm t s).ins.pages = s.ins.pages ∧ (ctrlKeyConfirm t s).fuse.lifecycle = s.fuse.lifecycle := by
  unfold ctrlKeyConfirm; (try dsimp only); (repeat' (first | (simp [*]; done) | (have e_1 := State.takeCtrl_store _ _ _ (by assumption); simp [*]; done) | (refine foldl_store _ ?_ _ _ _ ?_ <;> intros <;> (try dsimp only)) | split | (apply And.intro)))
@[simp] theorem ctrlCredit_store (t : Nat) (s : State) :
    (ctrlCredit t s).ins.pages = s.ins.pages ∧ (ctrlCredit t s).fuse.lifecycle = s.fuse.lifecycle := by
  unfold ctrlCredit; (try dsimp only); (repeat' (first | (simp [*]; done) | (have e_1 := State.takeCtrl_store _ _ _ (by assumption); simp [*]; done) | (refine foldl_store _ ?_ _ _ _ ?_ <;> intros <;> (try dsimp only)) | split | (apply And.intro)))
@[simp] theorem State.resend_store (s : State) (t : Nat) (seq : Dword) :
    (State.resend s t seq).ins.pages = s.ins.pages ∧ (State.resend s t seq).fuse.lifecycle = s.fuse.lifecycle := by
  unfold State.resend; (try dsimp only); (repeat' (first | (simp [*]; done) | (refine foldl_store _ ?_ _ _ _ ?_ <;> intros <;> (try dsimp only)) | split | (apply And.intro)))
@[simp] theorem ctrlReplay_store (t : Nat) (s : State) :
    (ctrlReplay t s).ins.pages = s.ins.pages ∧ (ctrlReplay t s).fuse.lifecycle = s.fuse.lifecycle := by
  unfold ctrlReplay; (try dsimp only); (repeat' (first | (simp [*]; done) | (have e_1 := State.takeCtrl_store _ _ _ (by assumption); simp [*]; done) | (refine foldl_store _ ?_ _ _ _ ?_ <;> intros <;> (try dsimp only)) | split | (apply And.intro)))
@[simp] theorem ctrlReplayLost_store (t : Nat) (s : State) :
    (ctrlReplayLost t s).ins.pages = s.ins.pages ∧ (ctrlReplayLost t s).fuse.lifecycle = s.fuse.lifecycle := by
  unfold ctrlReplayLost; (try dsimp only); (repeat' (first | (simp [*]; done) | (have e_1 := State.takeCtrl_store _ _ _ (by assumption); simp [*]; done) | (refine foldl_store _ ?_ _ _ _ ?_ <;> intros <;> (try dsimp only)) | split | (apply And.intro)))
@[simp] theorem ctrlReplayFailed_store (t : Nat) (s : State) :
    (ctrlReplayFailed t s).ins.pages = s.ins.pages ∧ (ctrlReplayFailed t s).fuse.lifecycle = s.fuse.lifecycle := by
  unfold ctrlReplayFailed; (try dsimp only); (repeat' (first | (simp [*]; done) | (have e_1 := State.takeCtrl_store _ _ _ (by assumption); simp [*]; done) | (refine foldl_store _ ?_ _ _ _ ?_ <;> intros <;> (try dsimp only)) | split | (apply And.intro)))
@[simp] theorem ctrlResync_store (t : Nat) (s : State) :
    (ctrlResync t s).ins.pages = s.ins.pages ∧ (ctrlResync t s).fuse.lifecycle = s.fuse.lifecycle := by
  unfold ctrlResync; (try dsimp only); (repeat' (first | (simp [*]; done) | (have e_1 := State.takeCtrl_store _ _ _ (by assumption); simp [*]; done) | (refine foldl_store _ ?_ _ _ _ ?_ <;> intros <;> (try dsimp only)) | split | (apply And.intro)))
@[simp] theorem State.advanceRx_store (s : State) (t : Nat) :
    (State.advanceRx s t).ins.pages = s.ins.pages ∧ (State.advanceRx s t).fuse.lifecycle = s.fuse.lifecycle := by
  unfold State.advanceRx; (try dsimp only); (repeat' (first | (simp [*]; done) | (have e_1 := State.putLink_store _ _ _ (by assumption); simp [*]; done) | (refine foldl_store _ ?_ _ _ _ ?_ <;> intros <;> (try dsimp only)) | split | (apply And.intro)))
@[simp] theorem ctrlRekey_store (t : Nat) (s : State) :
    (ctrlRekey t s).ins.pages = s.ins.pages ∧ (ctrlRekey t s).fuse.lifecycle = s.fuse.lifecycle := by
  unfold ctrlRekey; (try dsimp only); (repeat' (first | (simp [*]; done) | (have e_1 := State.takeCtrl_store _ _ _ (by assumption); simp [*]; done) | (refine foldl_store _ ?_ _ _ _ ?_ <;> intros <;> (try dsimp only)) | split | (apply And.intro)))
@[simp] theorem ctrlFlushDone_store (t : Nat) (s : State) :
    (ctrlFlushDone t s).ins.pages = s.ins.pages ∧ (ctrlFlushDone t s).fuse.lifecycle = s.fuse.lifecycle := by
  unfold ctrlFlushDone; (try dsimp only); (repeat' (first | (simp [*]; done) | (have e_1 := State.takeCtrl_store _ _ _ (by assumption); simp [*]; done) | (refine foldl_store _ ?_ _ _ _ ?_ <;> intros <;> (try dsimp only)) | split | (apply And.intro)))
@[simp] theorem bringupTimeout_store (t : Nat) (s : State) :
    (bringupTimeout t s).ins.pages = s.ins.pages ∧ (bringupTimeout t s).fuse.lifecycle = s.fuse.lifecycle := by
  simp [bringupTimeout]
@[simp] theorem resyncTimeout_store (t : Nat) (s : State) :
    (resyncTimeout t s).ins.pages = s.ins.pages ∧ (resyncTimeout t s).fuse.lifecycle = s.fuse.lifecycle := by
  simp [resyncTimeout]
@[simp] theorem State.tsEnd_store (s : State) (t code : Nat) :
    (State.tsEnd s t code).ins.pages = s.ins.pages ∧ (State.tsEnd s t code).fuse.lifecycle = s.fuse.lifecycle := by
  simp [State.tsEnd]
@[simp] theorem tsRestart_store (ap : Aperture) (t : Nat) (s : State) :
    (tsRestart ap t s).ins.pages = s.ins.pages ∧ (tsRestart ap t s).fuse.lifecycle = s.fuse.lifecycle := by
  simp [tsRestart]
@[simp] theorem tsRekey_store (ap : Aperture) (t : Nat) (s : State) :
    (tsRekey ap t s).ins.pages = s.ins.pages ∧ (tsRekey ap t s).fuse.lifecycle = s.fuse.lifecycle := by
  simp [tsRekey]
@[simp] theorem codewordReceive_store (p : Nat) (hdr : BitVec 20) (us : List Block) (bad : Bool) (s : State) :
    (codewordReceive p hdr us bad s).ins.pages = s.ins.pages ∧ (codewordReceive p hdr us bad s).fuse.lifecycle = s.fuse.lifecycle := by
  simp [codewordReceive]
theorem State.takePkt_store (s : State) (p : Nat) (f : RxPkt → Bool) {a_ : RxPkt} {t_ : State} (e_ : State.takePkt s p f = some (a_, t_)) : t_.ins.pages = s.ins.pages ∧ t_.fuse.lifecycle = s.fuse.lifecycle := by
  first | (unfold State.takePkt at e_; (try dsimp only at e_); (repeat' (first | contradiction | (simp only [Option.map_eq_some_iff, Option.bind_eq_some_iff, Option.some.injEq, Prod.mk.injEq] at e_; simp_all; done) | (cases e_; simp; done) | split at e_)); done) | (simp only [State.takePkt, Option.map_eq_some_iff, Prod.mk.injEq] at e_; obtain ⟨_, _, rfl, rfl⟩ := e_; simp; done) | (simp only [State.takePkt, Option.map_eq_some_iff] at e_; obtain ⟨_, _, rfl⟩ := e_; simp; done) | (grind [State.takePkt, State.modPort_store])
@[simp] theorem State.sendHop_store (s : State) (p opcode : Nat) (b : List Byte) :
    (State.sendHop s p opcode b).ins.pages = s.ins.pages ∧ (State.sendHop s p opcode b).fuse.lifecycle = s.fuse.lifecycle := by
  simp [State.sendHop]
@[simp] theorem State.bcastClear_store (s : State) (opcode : Nat) (b : List Byte) :
    (State.bcastClear s opcode b).ins.pages = s.ins.pages ∧ (State.bcastClear s opcode b).fuse.lifecycle = s.fuse.lifecycle := by
  simp [State.bcastClear]
@[simp] theorem State.routeClear_store (s : State) (dst opcode : Nat) (b : List Byte) :
    (State.routeClear s dst opcode b).ins.pages = s.ins.pages ∧ (State.routeClear s dst opcode b).fuse.lifecycle = s.fuse.lifecycle := by
  unfold State.routeClear; (try dsimp only); (repeat' (first | (simp [*]; done) | (refine foldl_store _ ?_ _ _ _ ?_ <;> intros <;> (try dsimp only)) | split | (apply And.intro)))
@[simp] theorem State.bcastFlow_store (s : State) (opcode : Nat) (b : List Byte) :
    (State.bcastFlow s opcode b).ins.pages = s.ins.pages ∧ (State.bcastFlow s opcode b).fuse.lifecycle = s.fuse.lifecycle := by
  unfold State.bcastFlow; (try dsimp only); (repeat' (first | (simp [*]; done) | (refine foldl_store _ ?_ _ _ _ ?_ <;> intros <;> (try dsimp only)) | split | (apply And.intro)))
@[simp] theorem State.portState_store (s : State) (p : Nat) (x : PortState) :
    (State.portState s p x).ins.pages = s.ins.pages ∧ (State.portState s p x).fuse.lifecycle = s.fuse.lifecycle := by
  simp [State.portState]
@[simp] theorem State.checkRoutes_store (s : State) :
    (State.checkRoutes s).ins.pages = s.ins.pages ∧ (State.checkRoutes s).fuse.lifecycle = s.fuse.lifecycle := by
  simp [State.checkRoutes]
@[simp] theorem State.routeOks_store (s : State) :
    (State.routeOks s).ins.pages = s.ins.pages ∧ (State.routeOks s).fuse.lifecycle = s.fuse.lifecycle := by
  simp [State.routeOks]
@[simp] theorem State.clearTx_store (s : State) (p : Nat) :
    (State.clearTx s p).ins.pages = s.ins.pages ∧ (State.clearTx s p).fuse.lifecycle = s.fuse.lifecycle := by
  unfold State.clearTx; (try dsimp only); (repeat' (first | (simp [*]; done) | (refine foldl_store _ ?_ _ _ _ ?_ <;> intros <;> (try dsimp only)) | split | (apply And.intro)))
@[simp] theorem State.disputePort_store (s : State) (p reason : Nat) :
    (State.disputePort s p reason).ins.pages = s.ins.pages ∧ (State.disputePort s p reason).fuse.lifecycle = s.fuse.lifecycle := by
  simp [State.disputePort]
@[simp] theorem State.portUp_store (s : State) (p : Nat) :
    (State.portUp s p).ins.pages = s.ins.pages ∧ (State.portUp s p).fuse.lifecycle = s.fuse.lifecycle := by
  simp [State.portUp]
@[simp] theorem State.sendHello_store (s : State) (p : Nat) :
    (State.sendHello s p).ins.pages = s.ins.pages ∧ (State.sendHello s p).fuse.lifecycle = s.fuse.lifecycle := by
  simp [State.sendHello]
@[simp] theorem fabricPortUp_store (p : Nat) (s : State) :
    (fabricPortUp p s).ins.pages = s.ins.pages ∧ (fabricPortUp p s).fuse.lifecycle = s.fuse.lifecycle := by
  simp [fabricPortUp]
@[simp] theorem fabricPortDown_store (p : Nat) (s : State) :
    (fabricPortDown p s).ins.pages = s.ins.pages ∧ (fabricPortDown p s).fuse.lifecycle = s.fuse.lifecycle := by
  simp [fabricPortDown]
@[simp] theorem helloTimer_store (p : Nat) (s : State) :
    (helloTimer p s).ins.pages = s.ins.pages ∧ (helloTimer p s).fuse.lifecycle = s.fuse.lifecycle := by
  simp [helloTimer]
@[simp] theorem State.routeFail_store (s : State) (p d : Nat) :
    (State.routeFail s p d).ins.pages = s.ins.pages ∧ (State.routeFail s p d).fuse.lifecycle = s.fuse.lifecycle := by
  simp [State.routeFail]
@[simp] theorem State.forward_store (s : State) (out : Nat) (x : RxPkt) :
    (State.forward s out x).ins.pages = s.ins.pages ∧ (State.forward s out x).fuse.lifecycle = s.fuse.lifecycle := by
  simp [State.forward]
@[simp] theorem packetTransit_store (p : Nat) (s : State) :
    (packetTransit p s).ins.pages = s.ins.pages ∧ (packetTransit p s).fuse.lifecycle = s.fuse.lifecycle := by
  unfold packetTransit; (try dsimp only); (repeat' (first | (simp [*]; done) | (have e_1 := State.takePkt_store _ _ _ (by assumption); simp [*]; done) | (refine foldl_store _ ?_ _ _ _ ?_ <;> intros <;> (try dsimp only)) | split | (apply And.intro)))
@[simp] theorem State.rebroadcast_store (s : State) (x : RxPkt) :
    (State.rebroadcast s x).ins.pages = s.ins.pages ∧ (State.rebroadcast s x).fuse.lifecycle = s.fuse.lifecycle := by
  simp [State.rebroadcast]
@[simp] theorem packetDeliver_store (p : Nat) (s : State) :
    (packetDeliver p s).ins.pages = s.ins.pages ∧ (packetDeliver p s).fuse.lifecycle = s.fuse.lifecycle := by
  unfold packetDeliver; (try dsimp only); (repeat' (first | (simp [*]; done) | (refine foldl_store _ ?_ _ _ _ ?_ <;> intros <;> (try dsimp only)) | split | (apply And.intro)))
@[simp] theorem State.keepCtrl_store (s : State) (p : Nat) (x : RxPkt) (clear : Bool) (plain : List Byte) :
    (State.keepCtrl s p x clear plain).ins.pages = s.ins.pages ∧ (State.keepCtrl s p x clear plain).fuse.lifecycle = s.fuse.lifecycle := by
  simp [State.keepCtrl]
@[simp] theorem State.putRx_store (s : State) (f : FlowRx) :
    (State.putRx s f).ins.pages = s.ins.pages ∧ (State.putRx s f).fuse.lifecycle = s.fuse.lifecycle := by
  simp [State.putRx]
@[simp] theorem State.judgePacket_store (s : State) (p : Nat) (x : RxPkt) (ok : Bool) :
    (State.judgePacket s p x ok).ins.pages = s.ins.pages ∧ (State.judgePacket s p x ok).fuse.lifecycle = s.fuse.lifecycle := by
  unfold State.judgePacket; (try dsimp only); (repeat' (first | (simp [*]; done) | (refine foldl_store _ ?_ _ _ _ ?_ <;> intros <;> (try dsimp only)) | split | (apply And.intro)))
@[simp] theorem State.pktFailed_store (s : State) (p : Nat) (x : RxPkt) :
    (State.pktFailed s p x).ins.pages = s.ins.pages ∧ (State.pktFailed s p x).fuse.lifecycle = s.fuse.lifecycle := by
  unfold State.pktFailed
  extract_lets fails t1 t2 t3 t4
  have e1 : t1.ins.pages = s.ins.pages ∧ t1.fuse.lifecycle = s.fuse.lifecycle := by simp [t1]
  have e2 : t2.ins.pages = s.ins.pages ∧ t2.fuse.lifecycle = s.fuse.lifecycle := by simp [t2, e1]
  have e3 : t3.ins.pages = s.ins.pages ∧ t3.fuse.lifecycle = s.fuse.lifecycle := by simp only [t3]; (repeat' split) <;> simp [e2]
  have e4 : t4.ins.pages = s.ins.pages ∧ t4.fuse.lifecycle = s.fuse.lifecycle := by simp [t4, e3]
  clear_value t1 t2 t3 t4 fails
  split <;> simp [*]
@[simp] theorem State.acceptPkt_store (s : State) (p : Nat) (x : RxPkt) (plain : List Byte) :
    (State.acceptPkt s p x plain).ins.pages = s.ins.pages ∧ (State.acceptPkt s p x plain).fuse.lifecycle = s.fuse.lifecycle := by
  simp [State.acceptPkt]
@[simp] theorem packetVerdict_store (p : Nat) (s : State) :
    (packetVerdict p s).ins.pages = s.ins.pages ∧ (packetVerdict p s).fuse.lifecycle = s.fuse.lifecycle := by
  unfold packetVerdict; (try dsimp only); (repeat' (first | (simp [*]; done) | (have e_1 := State.takePkt_store _ _ _ (by assumption); simp [*]; done) | (refine foldl_store _ ?_ _ _ _ ?_ <;> intros <;> (try dsimp only)) | split | (apply And.intro)))
theorem State.takeMsg_store (s : State) (p opcode : Nat) {a_ : CtrlMsg} {t_ : State} (e_ : State.takeMsg s p opcode = some (a_, t_)) : t_.ins.pages = s.ins.pages ∧ t_.fuse.lifecycle = s.fuse.lifecycle := by
  first | (unfold State.takeMsg at e_; (try dsimp only at e_); (repeat' (first | contradiction | (simp only [Option.map_eq_some_iff, Option.bind_eq_some_iff, Option.some.injEq, Prod.mk.injEq] at e_; simp_all; done) | (cases e_; simp; done) | split at e_)); done) | (simp only [State.takeMsg, Option.map_eq_some_iff, Prod.mk.injEq] at e_; obtain ⟨_, _, rfl, rfl⟩ := e_; simp; done) | (simp only [State.takeMsg, Option.map_eq_some_iff] at e_; obtain ⟨_, _, rfl⟩ := e_; simp; done) | (grind [State.takeMsg, State.ctrl_store, State.modPort_store])
@[simp] theorem State.restoreCredits_store (s : State) (p : Nat) (m : CtrlMsg) (off : Nat) :
    (State.restoreCredits s p m off).ins.pages = s.ins.pages ∧ (State.restoreCredits s p m off).fuse.lifecycle = s.fuse.lifecycle := by
  simp [State.restoreCredits]
@[simp] theorem announceTimer_store (s : State) :
    (announceTimer s).ins.pages = s.ins.pages ∧ (announceTimer s).fuse.lifecycle = s.fuse.lifecycle := by
  simp [announceTimer]
@[simp] theorem announceReceive_store (p : Nat) (s : State) :
    (announceReceive p s).ins.pages = s.ins.pages ∧ (announceReceive p s).fuse.lifecycle = s.fuse.lifecycle := by
  unfold announceReceive; (try dsimp only); (repeat' (first | (simp [*]; done) | (have e_1 := State.takeMsg_store _ _ _ (by assumption); simp [*]; done) | (refine foldl_store _ ?_ _ _ _ ?_ <;> intros <;> (try dsimp only)) | split | (apply And.intro)))
@[simp] theorem announceSilent_store (p : Nat) (s : State) :
    (announceSilent p s).ins.pages = s.ins.pages ∧ (announceSilent p s).fuse.lifecycle = s.fuse.lifecycle := by
  simp [announceSilent]
@[simp] theorem disputeReceive_store (p : Nat) (s : State) :
    (disputeReceive p s).ins.pages = s.ins.pages ∧ (disputeReceive p s).fuse.lifecycle = s.fuse.lifecycle := by
  unfold disputeReceive; (try dsimp only); (repeat' (first | (simp [*]; done) | (have e_1 := State.takeMsg_store _ _ _ (by assumption); simp [*]; done) | (refine foldl_store _ ?_ _ _ _ ?_ <;> intros <;> (try dsimp only)) | split | (apply And.intro)))
@[simp] theorem routeFailReceive_store (p : Nat) (s : State) :
    (routeFailReceive p s).ins.pages = s.ins.pages ∧ (routeFailReceive p s).fuse.lifecycle = s.fuse.lifecycle := by
  unfold routeFailReceive; (try dsimp only); (repeat' (first | (simp [*]; done) | (have e_1 := State.takeMsg_store _ _ _ (by assumption); simp [*]; done) | (refine foldl_store _ ?_ _ _ _ ?_ <;> intros <;> (try dsimp only)) | split | (apply And.intro)))
@[simp] theorem routeOkReceive_store (p : Nat) (s : State) :
    (routeOkReceive p s).ins.pages = s.ins.pages ∧ (routeOkReceive p s).fuse.lifecycle = s.fuse.lifecycle := by
  unfold routeOkReceive; (try dsimp only); (repeat' (first | (simp [*]; done) | (have e_1 := State.takeMsg_store _ _ _ (by assumption); simp [*]; done) | (refine foldl_store _ ?_ _ _ _ ?_ <;> intros <;> (try dsimp only)) | split | (apply And.intro)))
@[simp] theorem timeSyncTimer_store (s : State) :
    (timeSyncTimer s).ins.pages = s.ins.pages ∧ (timeSyncTimer s).fuse.lifecycle = s.fuse.lifecycle := by
  simp [timeSyncTimer]
@[simp] theorem State.clockOffset_store (s : State) (off : Int) :
    (State.clockOffset s off).ins.pages = s.ins.pages ∧ (State.clockOffset s off).fuse.lifecycle = s.fuse.lifecycle := by
  simp [State.clockOffset]
@[simp] theorem timeSyncReceive_store (p : Nat) (s : State) :
    (timeSyncReceive p s).ins.pages = s.ins.pages ∧ (timeSyncReceive p s).fuse.lifecycle = s.fuse.lifecycle := by
  unfold timeSyncReceive; (try dsimp only); (repeat' (first | (simp [*]; done) | (have e_1 := State.takeMsg_store _ _ _ (by assumption); simp [*]; done) | (refine foldl_store _ ?_ _ _ _ ?_ <;> intros <;> (try dsimp only)) | split | (apply And.intro)))
@[simp] theorem State.padCell_store (s : State) (port part : Nat) :
    (State.padCell s port part).ins.pages = s.ins.pages ∧ (State.padCell s port part).fuse.lifecycle = s.fuse.lifecycle := by
  unfold State.padCell
  exact State.transmit_store _ _ _
@[simp] theorem slotBoundary_store (unit : Nat) (s : State) :
    (slotBoundary unit s).ins.pages = s.ins.pages ∧ (slotBoundary unit s).fuse.lifecycle = s.fuse.lifecycle := by
  unfold slotBoundary
  by_cases h : unit = 24
  · rw [if_pos h]; exact ⟨rfl, rfl⟩
  · rw [if_neg h]
    extract_lets q i part t
    have e : t.ins.pages = s.ins.pages ∧ t.fuse.lifecycle = s.fuse.lifecycle := by simp only [t]; simp
    clear_value t part
    split
    · simp
    · split
      · exact e
      · split
        · exact store_trans (State.sendItem_store _ _ _) (store_trans (State.modPort_store _ _ _) e)
        · split
          · exact e
          · exact store_trans (State.padCell_store _ _ _) e
@[simp] theorem State.ordersEntry_store (s : State) :
    (State.ordersEntry s).ins.pages = s.ins.pages ∧ (State.ordersEntry s).fuse.lifecycle = s.fuse.lifecycle := by
  simp [State.ordersEntry]
@[simp] theorem State.addFlow_store (s : State) (part src dst : Nat) (gen epoch : Word) :
    (State.addFlow s part src dst gen epoch).ins.pages = s.ins.pages ∧ (State.addFlow s part src dst gen epoch).fuse.lifecycle = s.fuse.lifecycle := by
  unfold State.addFlow; (try dsimp only); (repeat' (first | (simp [*]; done) | (refine foldl_store _ ?_ _ _ _ ?_ <;> intros <;> (try dsimp only)) | split | (apply And.intro)))
@[simp] theorem State.addFlows_store (s : State) (part n : Nat) (gen epoch : Word) :
    (State.addFlows s part n gen epoch).ins.pages = s.ins.pages ∧ (State.addFlows s part n gen epoch).fuse.lifecycle = s.fuse.lifecycle := by
  simp [State.addFlows]
@[simp] theorem State.addPad_store (s : State) (port : Nat) (tx : Bool) (part : Nat) (gen : Word) :
    (State.addPad s port tx part gen).ins.pages = s.ins.pages ∧ (State.addPad s port tx part gen).fuse.lifecycle = s.fuse.lifecycle := by
  unfold State.addPad; (try dsimp only); (repeat' (first | (simp [*]; done) | (refine foldl_store _ ?_ _ _ _ ?_ <;> intros <;> (try dsimp only)) | split | (apply And.intro)))
@[simp] theorem State.derivePads_store (s : State) (gen : Word) :
    (State.derivePads s gen).ins.pages = s.ins.pages ∧ (State.derivePads s gen).fuse.lifecycle = s.fuse.lifecycle := by
  simp [State.derivePads]
@[simp] theorem State.deriveDomain_store (s : State) (gen : Word) (epoch : Nat → Word) :
    (State.deriveDomain s gen epoch).ins.pages = s.ins.pages ∧ (State.deriveDomain s gen epoch).fuse.lifecycle = s.fuse.lifecycle := by
  unfold State.deriveDomain
  refine store_trans (State.derivePads_store _ _) ?_
  refine foldl_store _ ?_ _ _ _ ⟨rfl, rfl⟩
  intro s p
  dsimp only
  refine foldl_store _ ?_ _ _ _ ?_
  · intro s n; exact State.addFlows_store _ _ _ _ _
  · have k : (match s.freeSlot [] with
        | none => s
        | some n => { s.putKey n 0xC 0 5 (s.slot (s.secretSlot gen)).origin (gen.setWidth 16) (BitVec.ofNat 512 (ofLe (s.domainKey p gen))) with
            fab := { s.fab with dkeys := s.fab.dkeys ++ [(p, gen, n)] } }).ins.pages = s.ins.pages ∧ (match s.freeSlot [] with
        | none => s
        | some n => { s.putKey n 0xC 0 5 (s.slot (s.secretSlot gen)).origin (gen.setWidth 16) (BitVec.ofNat 512 (ofLe (s.domainKey p gen))) with
            fab := { s.fab with dkeys := s.fab.dkeys ++ [(p, gen, n)] } }).fuse.lifecycle = s.fuse.lifecycle := by
      cases s.freeSlot [] with
      | none => exact ⟨rfl, rfl⟩
      | some n => exact ⟨rfl, rfl⟩
    split
    · exact store_trans (State.addFlow_store _ _ _ _ _ _) k
    · exact k
@[simp] theorem State.dropKeys_store (s : State) (f : FlowKey → Bool) :
    (State.dropKeys s f).ins.pages = s.ins.pages ∧ (State.dropKeys s f).fuse.lifecycle = s.fuse.lifecycle := by
  simp [State.dropKeys]
@[simp] theorem State.dropDomainKeys_store (s : State) (f : Nat × Word × Nat → Bool) :
    (State.dropDomainKeys s f).ins.pages = s.ins.pages ∧ (State.dropDomainKeys s f).fuse.lifecycle = s.fuse.lifecycle := by
  simp [State.dropDomainKeys]
@[simp] theorem State.dropPads_store (s : State) (f : PadKey → Bool) :
    (State.dropPads s f).ins.pages = s.ins.pages ∧ (State.dropPads s f).fuse.lifecycle = s.fuse.lifecycle := by
  simp [State.dropPads]
@[simp] theorem State.dropGen_store (s : State) (g : Word) :
    (State.dropGen s g).ins.pages = s.ins.pages ∧ (State.dropGen s g).fuse.lifecycle = s.fuse.lifecycle := by
  simp [State.dropGen]
@[simp] theorem flowKeyExpire_store (part : Nat) (s : State) :
    (flowKeyExpire part s).ins.pages = s.ins.pages ∧ (flowKeyExpire part s).fuse.lifecycle = s.fuse.lifecycle := by
  simp [flowKeyExpire]
theorem State.takeWhole_store (s : State) (p opcode : Nat) {a_ : CtrlMsg} {t_ : State} (e_ : State.takeWhole s p opcode = some (a_, t_)) : t_.ins.pages = s.ins.pages ∧ t_.fuse.lifecycle = s.fuse.lifecycle := by
  first | (unfold State.takeWhole at e_; (try dsimp only at e_); (repeat' (first | contradiction | (simp only [Option.map_eq_some_iff, Option.bind_eq_some_iff, Option.some.injEq, Prod.mk.injEq] at e_; simp_all; done) | (cases e_; simp; done) | split at e_)); done) | (simp only [State.takeWhole, Option.map_eq_some_iff, Prod.mk.injEq] at e_; obtain ⟨_, _, rfl, rfl⟩ := e_; simp; done) | (simp only [State.takeWhole, Option.map_eq_some_iff] at e_; obtain ⟨_, _, rfl⟩ := e_; simp; done) | (grind [State.takeWhole, State.ctrl_store, State.modPort_store])
@[simp] theorem State.answerCandidate_store (s : State) (c : Candidate) :
    (State.answerCandidate s c).ins.pages = s.ins.pages ∧ (State.answerCandidate s c).fuse.lifecycle = s.fuse.lifecycle := by
  simp [State.answerCandidate]
@[simp] theorem State.dropCandidate_store (s : State) :
    (State.dropCandidate s).ins.pages = s.ins.pages ∧ (State.dropCandidate s).fuse.lifecycle = s.fuse.lifecycle := by
  unfold State.dropCandidate; (try dsimp only); (repeat' (first | (simp [*]; done) | (refine foldl_store _ ?_ _ _ _ ?_ <;> intros <;> (try dsimp only)) | split | (apply And.intro)))
@[simp] theorem State.formFail_store (s : State) :
    (State.formFail s).ins.pages = s.ins.pages ∧ (State.formFail s).fuse.lifecycle = s.fuse.lifecycle := by
  simp [State.formFail]
@[simp] theorem State.startFormation_store (s : State) (g : Word) (rank : Nat) (switch : Dword) :
    (State.startFormation s g rank switch).ins.pages = s.ins.pages ∧ (State.startFormation s g rank switch).fuse.lifecycle = s.fuse.lifecycle := by
  simp [State.startFormation]
@[simp] theorem formStartTimer_store (s : State) :
    (formStartTimer s).ins.pages = s.ins.pages ∧ (formStartTimer s).fuse.lifecycle = s.fuse.lifecycle := by
  unfold formStartTimer; (try dsimp only); (repeat' (first | (simp [*]; done) | (refine foldl_store _ ?_ _ _ _ ?_ <;> intros <;> (try dsimp only)) | split | (apply And.intro)))
@[simp] theorem formStartReceive_store (p : Nat) (v : PkVerdict) (s : State) :
    (formStartReceive p v s).ins.pages = s.ins.pages ∧ (formStartReceive p v s).fuse.lifecycle = s.fuse.lifecycle := by
  unfold formStartReceive; (try dsimp only); (repeat' (first | (simp [*]; done) | (have e_1 := State.takeWhole_store _ _ _ (by assumption); simp [*]; done) | (refine foldl_store _ ?_ _ _ _ ?_ <;> intros <;> (try dsimp only)) | split | (apply And.intro)))
@[simp] theorem State.sendReject_store (s : State) (g : Word) (n : Nat) :
    (State.sendReject s g n).ins.pages = s.ins.pages ∧ (State.sendReject s g n).fuse.lifecycle = s.fuse.lifecycle := by
  simp [State.sendReject]
@[simp] theorem evidenceReceive_store (p : Nat) (v : PkVerdict) (s : State) :
    (evidenceReceive p v s).ins.pages = s.ins.pages ∧ (evidenceReceive p v s).fuse.lifecycle = s.fuse.lifecycle := by
  unfold evidenceReceive; (try dsimp only); (repeat' (first | (simp [*]; done) | (have e_1 := State.takeWhole_store _ _ _ (by assumption); simp [*]; done) | (refine foldl_store _ ?_ _ _ _ ?_ <;> intros <;> (try dsimp only)) | split | (apply And.intro)))
@[simp] theorem keysReceive_store (p : Nat) (v : PkVerdict) (s : State) :
    (keysReceive p v s).ins.pages = s.ins.pages ∧ (keysReceive p v s).fuse.lifecycle = s.fuse.lifecycle := by
  unfold keysReceive; (try dsimp only); (repeat' (first | (simp [*]; done) | (have e_1 := State.takeWhole_store _ _ _ (by assumption); simp [*]; done) | (refine foldl_store _ ?_ _ _ _ ?_ <;> intros <;> (try dsimp only)) | split | (apply And.intro)))
@[simp] theorem State.switchTo_store (s : State) (g : Word) :
    (State.switchTo s g).ins.pages = s.ins.pages ∧ (State.switchTo s g).fuse.lifecycle = s.fuse.lifecycle := by
  simp [State.switchTo]
@[simp] theorem State.becomeMember_store (s : State) (c : Candidate) (member : Nat → Bool) :
    (State.becomeMember s c member).ins.pages = s.ins.pages ∧ (State.becomeMember s c member).fuse.lifecycle = s.fuse.lifecycle := by
  simp [State.becomeMember]
@[simp] theorem State.acceptFormed_store (s : State) (c : Candidate) (bitmap : BitVec 256) (switch : Dword) :
    (State.acceptFormed s c bitmap switch).ins.pages = s.ins.pages ∧ (State.acceptFormed s c bitmap switch).fuse.lifecycle = s.fuse.lifecycle := by
  simp [State.acceptFormed]
@[simp] theorem State.sendFormed_store (s : State) (c : Candidate) :
    (State.sendFormed s c).ins.pages = s.ins.pages ∧ (State.sendFormed s c).fuse.lifecycle = s.fuse.lifecycle := by
  simp [State.sendFormed]
@[simp] theorem State.acceptJoined_store (s : State) (n : Nat) (incarn : Word) :
    (State.acceptJoined s n incarn).ins.pages = s.ins.pages ∧ (State.acceptJoined s n incarn).fuse.lifecycle = s.fuse.lifecycle := by
  simp [State.acceptJoined]
@[simp] theorem confirmReceive_store (p : Nat) (s : State) :
    (confirmReceive p s).ins.pages = s.ins.pages ∧ (confirmReceive p s).fuse.lifecycle = s.fuse.lifecycle := by
  unfold confirmReceive; (try dsimp only); (repeat' (first | (simp [*]; done) | (have e_1 := State.takeWhole_store _ _ _ (by assumption); simp [*]; done) | (refine foldl_store _ ?_ _ _ _ ?_ <;> intros <;> (try dsimp only)) | split | (apply And.intro)))
@[simp] theorem formWindowEnd_store (s : State) :
    (formWindowEnd s).ins.pages = s.ins.pages ∧ (formWindowEnd s).fuse.lifecycle = s.fuse.lifecycle := by
  unfold formWindowEnd; (try dsimp only); (repeat' (first | (simp [*]; done) | (refine foldl_store _ ?_ _ _ _ ?_ <;> intros <;> (try dsimp only)) | split | (apply And.intro)))
@[simp] theorem formedReceive_store (p : Nat) (v : PkVerdict) (s : State) :
    (formedReceive p v s).ins.pages = s.ins.pages ∧ (formedReceive p v s).fuse.lifecycle = s.fuse.lifecycle := by
  unfold formedReceive; (try dsimp only); (repeat' (first | (simp [*]; done) | (have e_1 := State.takeWhole_store _ _ _ (by assumption); simp [*]; done) | (refine foldl_store _ ?_ _ _ _ ?_ <;> intros <;> (try dsimp only)) | split | (apply And.intro)))
@[simp] theorem rejectReceive_store (p : Nat) (v : PkVerdict) (s : State) :
    (rejectReceive p v s).ins.pages = s.ins.pages ∧ (rejectReceive p v s).fuse.lifecycle = s.fuse.lifecycle := by
  unfold rejectReceive; (try dsimp only); (repeat' (first | (simp [*]; done) | (have e_1 := State.takeWhole_store _ _ _ (by assumption); simp [*]; done) | (refine foldl_store _ ?_ _ _ _ ?_ <;> intros <;> (try dsimp only)) | split | (apply And.intro)))
@[simp] theorem joinedReceive_store (p : Nat) (s : State) :
    (joinedReceive p s).ins.pages = s.ins.pages ∧ (joinedReceive p s).fuse.lifecycle = s.fuse.lifecycle := by
  unfold joinedReceive; (try dsimp only); (repeat' (first | (simp [*]; done) | (have e_1 := State.takeMsg_store _ _ _ (by assumption); simp [*]; done) | (refine foldl_store _ ?_ _ _ _ ?_ <;> intros <;> (try dsimp only)) | split | (apply And.intro)))
@[simp] theorem candidateTimeout_store (s : State) :
    (candidateTimeout s).ins.pages = s.ins.pages ∧ (candidateTimeout s).fuse.lifecycle = s.fuse.lifecycle := by
  unfold candidateTimeout; (try dsimp only); (repeat' (first | (simp [*]; done) | (refine foldl_store _ ?_ _ _ _ ?_ <;> intros <;> (try dsimp only)) | split | (apply And.intro)))
@[simp] theorem State.joinVia_store (s : State) (rank : Nat) (g : Word) :
    (State.joinVia s rank g).ins.pages = s.ins.pages ∧ (State.joinVia s rank g).fuse.lifecycle = s.fuse.lifecycle := by
  simp [State.joinVia]
@[simp] theorem helloReceive_store (p : Nat) (s : State) :
    (helloReceive p s).ins.pages = s.ins.pages ∧ (helloReceive p s).fuse.lifecycle = s.fuse.lifecycle := by
  unfold helloReceive
  split
  · simp
  · rename_i m t h
    have e := State.takeMsg_store _ _ _ h
    rw [← e.1, ← e.2]
    clear h e
    split
    · simp
    · split
      · simp
      · extract_lets g member t1 f t2 t3 t4
        have e1 : t1.ins.pages = t.ins.pages ∧ t1.fuse.lifecycle = t.fuse.lifecycle := by simp [t1]
        have e2 : t2.ins.pages = t.ins.pages ∧ t2.fuse.lifecycle = t.fuse.lifecycle := e1
        have e3 : t3.ins.pages = t.ins.pages ∧ t3.fuse.lifecycle = t.fuse.lifecycle := by simp [t3, e2]
        have e4 : t4.ins.pages = t.ins.pages ∧ t4.fuse.lifecycle = t.fuse.lifecycle := by simp [t4, e3]
        clear_value t1 t2 t3 t4
        (repeat' split) <;> simp [*]
@[simp] theorem joinTimeout_store (s : State) : (joinTimeout s).ins.pages = s.ins.pages ∧ (joinTimeout s).fuse.lifecycle = s.fuse.lifecycle := by
  unfold joinTimeout; (try dsimp only); (repeat' (first | (simp [*]; done) | (refine foldl_store _ ?_ _ _ _ ?_ <;> intros <;> (try dsimp only)) | split | (apply And.intro)))
@[simp] theorem joinRetry_store (s : State) : (joinRetry s).ins.pages = s.ins.pages ∧ (joinRetry s).fuse.lifecycle = s.fuse.lifecycle := by
  unfold joinRetry; (try dsimp only); (repeat' (first | (simp [*]; done) | (refine foldl_store _ ?_ _ _ _ ?_ <;> intros <;> (try dsimp only)) | split | (apply And.intro)))
@[simp] theorem leaveDomain_store (s : State) : (leaveDomain s).ins.pages = s.ins.pages ∧ (leaveDomain s).fuse.lifecycle = s.fuse.lifecycle := by
  simp [leaveDomain]
@[simp] theorem generationSwitch_store (s : State) :
    (generationSwitch s).ins.pages = s.ins.pages ∧ (generationSwitch s).fuse.lifecycle = s.fuse.lifecycle := by
  unfold generationSwitch; (try dsimp only); (repeat' (first | (simp [*]; done) | (refine foldl_store _ ?_ _ _ _ ?_ <;> intros <;> (try dsimp only)) | split | (apply And.intro)))
@[simp] theorem requestTimeout_store (tag : Nat) (s : State) :
    (requestTimeout tag s).ins.pages = s.ins.pages ∧ (requestTimeout tag s).fuse.lifecycle = s.fuse.lifecycle := by
  unfold requestTimeout; (try dsimp only); (repeat' (first | (simp [*]; done) | (refine foldl_store _ ?_ _ _ _ ?_ <;> intros <;> (try dsimp only)) | split | (apply And.intro)))
@[simp] theorem yfRevive_store (ap : Aperture) (n : Nat) (s : State) :
    (yfRevive ap n s).ins.pages = s.ins.pages ∧ (yfRevive ap n s).fuse.lifecycle = s.fuse.lifecycle := by
  simp [yfRevive]
@[simp] theorem State.closeTarget_store (s : State) (n : Nat) :
    (State.closeTarget s n).ins.pages = s.ins.pages ∧ (State.closeTarget s n).fuse.lifecycle = s.fuse.lifecycle := by
  simp [State.closeTarget]
@[simp] theorem State.armTarget_store (s : State) (p n : Nat) (a : Arm) :
    (State.armTarget s p n a).1.ins.pages = s.ins.pages ∧ (State.armTarget s p n a).1.fuse.lifecycle = s.fuse.lifecycle := by
  unfold State.armTarget; (try dsimp only); (repeat' (first | (simp [*]; done) | (refine foldl_store _ ?_ _ _ _ ?_ <;> intros <;> (try dsimp only)) | split | (apply And.intro)))
@[simp] theorem State.faceCmd_store (s : State) (ap : Aperture) (n : Nat) (f : Nat → Nat → State → State) (h_f : ∀ y0 y1 y2, (f y0 y1 y2).ins.pages = y2.ins.pages ∧ (f y0 y1 y2).fuse.lifecycle = y2.fuse.lifecycle) :
    (State.faceCmd s ap n f).ins.pages = s.ins.pages ∧ (State.faceCmd s ap n f).fuse.lifecycle = s.fuse.lifecycle := by
  unfold State.faceCmd; (try dsimp only); (repeat' (first | (simp [*]; done) | (refine foldl_store _ ?_ _ _ _ ?_ <;> intros <;> (try dsimp only)) | (refine store_trans (State.command_store _ _ _ _ ?_ ) ?_ <;> intros <;> (try dsimp only)) | split | (apply And.intro)))
@[simp] theorem faceArm_store (ap : Aperture) (target : Nat) (tally : BitVec 16) (s : State) :
    (faceArm ap target tally s).ins.pages = s.ins.pages ∧ (faceArm ap target tally s).fuse.lifecycle = s.fuse.lifecycle := by
  simp [faceArm]
@[simp] theorem State.refuseWaits_store (s : State) (l : List Nat) :
    (State.refuseWaits s l).ins.pages = s.ins.pages ∧ (State.refuseWaits s l).fuse.lifecycle = s.fuse.lifecycle := by
  simp [State.refuseWaits]
@[simp] theorem State.endClear_store (s : State) (n : Nat) :
    (State.endClear s n).ins.pages = s.ins.pages ∧ (State.endClear s n).fuse.lifecycle = s.fuse.lifecycle := by
  unfold State.endClear; (try dsimp only); (repeat' (first | (simp [*]; done) | (refine foldl_store _ ?_ _ _ _ ?_ <;> intros <;> (try dsimp only)) | split | (apply And.intro)))
@[simp] theorem State.dropGather_store (s : State) (g : Gather) :
    (State.dropGather s g).ins.pages = s.ins.pages ∧ (State.dropGather s g).fuse.lifecycle = s.fuse.lifecycle := by
  simp [State.dropGather]
@[simp] theorem State.leaveBuffer_store (s : State) (n : Nat) :
    (State.leaveBuffer s n).ins.pages = s.ins.pages ∧ (State.leaveBuffer s n).fuse.lifecycle = s.fuse.lifecycle := by
  simp [State.leaveBuffer]
@[simp] theorem State.disarm_store (s : State) (n : Nat) :
    (State.disarm s n).ins.pages = s.ins.pages ∧ (State.disarm s n).fuse.lifecycle = s.fuse.lifecycle := by
  simp [State.disarm]
@[simp] theorem faceDisarm_store (ap : Aperture) (target : Nat) (s : State) :
    (faceDisarm ap target s).ins.pages = s.ins.pages ∧ (faceDisarm ap target s).fuse.lifecycle = s.fuse.lifecycle := by
  simp [faceDisarm]
@[simp] theorem State.clearTarget_store (s : State) (n : Nat) :
    (State.clearTarget s n).ins.pages = s.ins.pages ∧ (State.clearTarget s n).fuse.lifecycle = s.fuse.lifecycle := by
  simp [State.clearTarget]
@[simp] theorem faceClear_store (ap : Aperture) (target : Nat) (s : State) :
    (faceClear ap target s).ins.pages = s.ins.pages ∧ (faceClear ap target s).fuse.lifecycle = s.fuse.lifecycle := by
  simp [faceClear]
@[simp] theorem faceClearDone_store (target : Nat) (s : State) :
    (faceClearDone target s).ins.pages = s.ins.pages ∧ (faceClearDone target s).fuse.lifecycle = s.fuse.lifecycle := by
  unfold faceClearDone; (try dsimp only); (repeat' (first | (simp [*]; done) | (refine foldl_store _ ?_ _ _ _ ?_ <;> intros <;> (try dsimp only)) | split | (apply And.intro)))
@[simp] theorem State.failTarget_store (s : State) (n : Nat) :
    (State.failTarget s n).ins.pages = s.ins.pages ∧ (State.failTarget s n).fuse.lifecycle = s.fuse.lifecycle := by
  simp [State.failTarget]
@[simp] theorem State.resetFace_store (s : State) (f : Nat) :
    (State.resetFace s f).ins.pages = s.ins.pages ∧ (State.resetFace s f).fuse.lifecycle = s.fuse.lifecycle := by
  simp [State.resetFace]
@[simp] theorem State.dropEntry_store (s : State) (id : Nat) :
    (State.dropEntry s id).ins.pages = s.ins.pages ∧ (State.dropEntry s id).fuse.lifecycle = s.fuse.lifecycle := by
  unfold State.dropEntry; (try dsimp only); (repeat' (first | (simp [*]; done) | (refine foldl_store _ ?_ _ _ _ ?_ <;> intros <;> (try dsimp only)) | split | (apply And.intro)))
@[simp] theorem State.emptyFace_store (s : State) (f : Nat) :
    (State.emptyFace s f).ins.pages = s.ins.pages ∧ (State.emptyFace s f).fuse.lifecycle = s.fuse.lifecycle := by
  simp [State.emptyFace]
@[simp] theorem State.fetchLines_store (s : State) (f : Nat) (l : List Nat) :
    (State.fetchLines s f l).ins.pages = s.ins.pages ∧ (State.fetchLines s f l).fuse.lifecycle = s.fuse.lifecycle := by
  simp [State.fetchLines]
@[simp] theorem State.cacheLine_store (s : State) (f line : Nat) :
    (State.cacheLine s f line).ins.pages = s.ins.pages ∧ (State.cacheLine s f line).fuse.lifecycle = s.fuse.lifecycle := by
  simp [State.cacheLine]
@[simp] theorem State.endEntry_store (s : State) (id : Nat) (data : List Byte) (poison : Bool) (err : Nat) :
    (State.endEntry s id data poison err).ins.pages = s.ins.pages ∧ (State.endEntry s id data poison err).fuse.lifecycle = s.fuse.lifecycle := by
  unfold State.endEntry; (try dsimp only); (repeat' (first | (simp [*]; done) | (refine foldl_store _ ?_ _ _ _ ?_ <;> intros <;> (try dsimp only)) | split | (apply And.intro)))
@[simp] theorem contributionApply_store (target : Nat) (ecc : Ecc) (s : State) :
    (contributionApply target ecc s).ins.pages = s.ins.pages ∧ (contributionApply target ecc s).fuse.lifecycle = s.fuse.lifecycle := by
  unfold contributionApply; (try dsimp only); (repeat' (first | (simp [*]; done) | (refine foldl_store _ ?_ _ _ _ ?_ <;> intros <;> (try dsimp only)) | split | (apply And.intro)))
@[simp] theorem contributionHoldTimeout_store (target : Nat) (s : State) :
    (contributionHoldTimeout target s).ins.pages = s.ins.pages ∧ (contributionHoldTimeout target s).fuse.lifecycle = s.fuse.lifecycle := by
  unfold contributionHoldTimeout; (try dsimp only); (repeat' (first | (simp [*]; done) | (refine foldl_store _ ?_ _ _ _ ?_ <;> intros <;> (try dsimp only)) | split | (apply And.intro)))
@[simp] theorem State.putGather_store (s : State) (g : Gather) :
    (State.putGather s g).ins.pages = s.ins.pages ∧ (State.putGather s g).fuse.lifecycle = s.fuse.lifecycle := by
  simp [State.putGather]
@[simp] theorem State.modGathers_store (s : State) (f : Gather → Gather) :
    (State.modGathers s f).ins.pages = s.ins.pages ∧ (State.modGathers s f).fuse.lifecycle = s.fuse.lifecycle := by
  simp [State.modGathers]
@[simp] theorem State.gatherIssue_store (g : Gather) (n : Nat) (s : State) :
    (State.gatherIssue g n s).2.ins.pages = s.ins.pages ∧ (State.gatherIssue g n s).2.fuse.lifecycle = s.fuse.lifecycle := by
  induction n generalizing g s with
  | zero => exact ⟨rfl, rfl⟩
  | succ n ih =>
    unfold State.gatherIssue
    split
    · exact ⟨rfl, rfl⟩
    · dsimp only
      split
      · exact ⟨rfl, rfl⟩
      · exact store_trans (ih _ _) (State.issueReq_store _ _ _ _ _ _ (by assumption))
@[simp] theorem State.gatherRead_store (s : State) (g : Gather) :
    (State.gatherRead s g).ins.pages = s.ins.pages ∧ (State.gatherRead s g).fuse.lifecycle = s.fuse.lifecycle := by
  simp [State.gatherRead]
theorem State.gatherStart_store (s : State) (g : Gather) {t_ : State} (e_ : State.gatherStart s g = some t_) : t_.ins.pages = s.ins.pages ∧ t_.fuse.lifecycle = s.fuse.lifecycle := by
  first | (unfold State.gatherStart at e_; (try dsimp only at e_); (repeat' (first | contradiction | (simp only [Option.map_eq_some_iff, Option.bind_eq_some_iff, Option.some.injEq, Prod.mk.injEq] at e_; simp_all; done) | (cases e_; simp; done) | split at e_)); done) | (simp only [State.gatherStart, Option.map_eq_some_iff, Prod.mk.injEq] at e_; obtain ⟨_, _, rfl, rfl⟩ := e_; simp; done) | (simp only [State.gatherStart, Option.map_eq_some_iff] at e_; obtain ⟨_, _, rfl⟩ := e_; simp; done) | (grind [State.gatherStart, State.putGather_store, State.fetchLines_store, State.gatherRead_store])
@[simp] theorem State.gatherStart_sgetD (s : State) (g : Gather) (u_ : State) (h_ : u_.ins.pages = s.ins.pages ∧ u_.fuse.lifecycle = s.fuse.lifecycle) :
    ((State.gatherStart s g).getD u_).ins.pages = s.ins.pages ∧ ((State.gatherStart s g).getD u_).fuse.lifecycle = s.fuse.lifecycle := by
  cases e_ : State.gatherStart s g with
  | none => exact h_
  | some t_ => exact State.gatherStart_store _ _ e_
@[simp] theorem gatherComplete_store (task : Nat) (s : State) :
    (gatherComplete task s).ins.pages = s.ins.pages ∧ (gatherComplete task s).fuse.lifecycle = s.fuse.lifecycle := by
  unfold gatherComplete; (try dsimp only); (repeat' (first | (simp [*]; done) | (refine foldl_store _ ?_ _ _ _ ?_ <;> intros <;> (try dsimp only)) | split | (apply And.intro)))
@[simp] theorem State.poisonReads_store (s : State) (n : Nat) (l : List HomeEntry) :
    (State.poisonReads s n l).ins.pages = s.ins.pages ∧ (State.poisonReads s n l).fuse.lifecycle = s.fuse.lifecycle := by
  simp [State.poisonReads]
@[simp] theorem faceCacheFill_store (f line : Nat) (ecc : Ecc) (s : State) :
    (faceCacheFill f line ecc s).ins.pages = s.ins.pages ∧ (faceCacheFill f line ecc s).fuse.lifecycle = s.fuse.lifecycle := by
  simp [faceCacheFill]
@[simp] theorem State.wndCmd_store (s : State) (ap : Aperture) (t : Nat) (f : Nat → Nat → State → State) (h_f : ∀ y0 y1 y2, (f y0 y1 y2).ins.pages = y2.ins.pages ∧ (f y0 y1 y2).fuse.lifecycle = y2.fuse.lifecycle) :
    (State.wndCmd s ap t f).ins.pages = s.ins.pages ∧ (State.wndCmd s ap t f).fuse.lifecycle = s.fuse.lifecycle := by
  unfold State.wndCmd; (try dsimp only); (repeat' (first | (simp [*]; done) | (refine foldl_store _ ?_ _ _ _ ?_ <;> intros <;> (try dsimp only)) | (refine store_trans (State.command_store _ _ _ _ ?_ ) ?_ <;> intros <;> (try dsimp only)) | split | (apply And.intro)))
theorem State.taskRefs_store (s : State) (p t : Nat) (l : List Nat) {t_ : State} (e_ : State.taskRefs s p t l = some t_) : t_.ins.pages = s.ins.pages ∧ t_.fuse.lifecycle = s.fuse.lifecycle := by
  unfold State.taskRefs at e_
  revert e_
  generalize l.filter (fun n => s.ownsTally p n) = l
  intro e_
  induction l generalizing s with
  | nil => cases e_; exact ⟨rfl, rfl⟩
  | cons n l ih =>
    simp only [List.foldl_cons, Option.bind_some] at e_
    cases h : s.addRef (.task t) (.tally n) with
    | none => rw [h] at e_; exfalso; clear ih h; induction l with | nil => contradiction | cons m l ih => exact ih e_
    | some u => rw [h] at e_; exact store_trans (ih u e_) (State.addRef_store _ _ _ h)
@[simp] theorem State.taskRefs_sgetD (s : State) (p t : Nat) (l : List Nat) (u_ : State) (h_ : u_.ins.pages = s.ins.pages ∧ u_.fuse.lifecycle = s.fuse.lifecycle) :
    ((State.taskRefs s p t l).getD u_).ins.pages = s.ins.pages ∧ ((State.taskRefs s p t l).getD u_).fuse.lifecycle = s.fuse.lifecycle := by
  cases e_ : State.taskRefs s p t l with
  | none => exact h_
  | some t_ => exact State.taskRefs_store _ _ _ _ e_
@[simp] theorem State.loadProg_store (s : State) (a t p : Nat) (ctx can : BitVec 16) (l : List Block) :
    (State.loadProg s a t p ctx can l).ins.pages = s.ins.pages ∧ (State.loadProg s a t p ctx can l).fuse.lifecycle = s.fuse.lifecycle := by
  unfold State.loadProg; (try dsimp only); (repeat' (first | (simp [*]; done) | (have e_1 := State.taskRefs_store _ _ _ _ (by assumption); simp [*]; done) | (refine foldl_store _ ?_ _ _ _ ?_ <;> intros <;> (try dsimp only)) | split | (apply And.intro)))
@[simp] theorem State.loadIssue_store (a n : Nat) (s : State) :
    (State.loadIssue a n s).ins.pages = s.ins.pages ∧ (State.loadIssue a n s).fuse.lifecycle = s.fuse.lifecycle := by
  induction n generalizing s with
  | zero => exact ⟨rfl, rfl⟩
  | succ n ih =>
    unfold State.loadIssue
    split
    · exact ⟨rfl, rfl⟩
    · split
      · exact ⟨rfl, rfl⟩
      · dsimp only
        split
        · exact ⟨rfl, rfl⟩
        · rename_i t h
          have e := State.issueReq_store _ _ _ _ _ _ h
          exact store_trans (ih _) e
@[simp] theorem wndLoad_store (ap : Aperture) (t : Nat) (s : State) :
    (wndLoad ap t s).ins.pages = s.ins.pages ∧ (wndLoad ap t s).fuse.lifecycle = s.fuse.lifecycle := by
  unfold wndLoad
  refine State.wndCmd_store _ _ _ _ ?_
  intro a p s
  extract_lets a1 src n ctx
  split
  · exact State.cmdEnd_store _ _ _ _ _
  · split
    · exact State.cmdEnd_store _ _ _ _ _
    · split
      · simp
      · exact store_trans (State.loadIssue_store _ _ _) (store_trans (State.cmdBusy_store _ _ _ _) ⟨rfl, rfl⟩)
@[simp] theorem State.loadTake_store (s : State) (a : Nat) (l : Load) :
    (State.loadTake s a l).ins.pages = s.ins.pages ∧ (State.loadTake s a l).fuse.lifecycle = s.fuse.lifecycle := by
  simp [State.loadTake]
@[simp] theorem State.loadStep_store (s : State) (a : Nat) :
    (State.loadStep s a).ins.pages = s.ins.pages ∧ (State.loadStep s a).fuse.lifecycle = s.fuse.lifecycle := by
  unfold State.loadStep
  split
  · exact ⟨rfl, rfl⟩
  · rename_i l _
    have e : (State.loadIssue a 16 (s.loadTake a l)).ins.pages = s.ins.pages ∧ (State.loadIssue a 16 (s.loadTake a l)).fuse.lifecycle = s.fuse.lifecycle :=
      store_trans (State.loadIssue_store _ _ _) (State.loadTake_store _ _ _)
    generalize State.loadIssue a 16 (s.loadTake a l) = t at e
    dsimp only
    split
    · exact e
    · (repeat' split) <;> first | exact e | simp [e]
@[simp] theorem State.settleLoads_store (s : State) :
    (State.settleLoads s).ins.pages = s.ins.pages ∧ (State.settleLoads s).fuse.lifecycle = s.fuse.lifecycle := by
  simp [State.settleLoads]
@[simp] theorem State.goTask_store (s : State) (a p t : Nat) (f : Task → Task) :
    (State.goTask s a p t f).ins.pages = s.ins.pages ∧ (State.goTask s a p t f).fuse.lifecycle = s.fuse.lifecycle := by
  simp [State.goTask]
@[simp] theorem wndStart_store (ap : Aperture) (t : Nat) (s : State) :
    (wndStart ap t s).ins.pages = s.ins.pages ∧ (wndStart ap t s).fuse.lifecycle = s.fuse.lifecycle := by
  unfold wndStart; (try dsimp only); (repeat' (first | (simp [*]; done) | (refine foldl_store _ ?_ _ _ _ ?_ <;> intros <;> (try dsimp only)) | (refine store_trans (State.wndCmd_store _ _ _ _ ?_ ) ?_ <;> intros <;> (try dsimp only)) | split | (apply And.intro)))
@[simp] theorem wndResume_store (ap : Aperture) (t : Nat) (s : State) :
    (wndResume ap t s).ins.pages = s.ins.pages ∧ (wndResume ap t s).fuse.lifecycle = s.fuse.lifecycle := by
  unfold wndResume; (try dsimp only); (repeat' (first | (simp [*]; done) | (refine foldl_store _ ?_ _ _ _ ?_ <;> intros <;> (try dsimp only)) | (refine store_trans (State.wndCmd_store _ _ _ _ ?_ ) ?_ <;> intros <;> (try dsimp only)) | split | (apply And.intro)))
@[simp] theorem wndStop_store (ap : Aperture) (t : Nat) (s : State) :
    (wndStop ap t s).ins.pages = s.ins.pages ∧ (wndStop ap t s).fuse.lifecycle = s.fuse.lifecycle := by
  unfold wndStop
  refine State.wndCmd_store _ _ _ _ ?_
  intro a p s
  dsimp only
  split
  · simp
  · cases (s.task t).req <;> (repeat' split) <;> simp
  · simp
@[simp] theorem State.unloadTask_store (s : State) (t : Nat) :
    (State.unloadTask s t).ins.pages = s.ins.pages ∧ (State.unloadTask s t).fuse.lifecycle = s.fuse.lifecycle := by
  simp [State.unloadTask]
@[simp] theorem wndUnload_store (ap : Aperture) (t : Nat) (s : State) :
    (wndUnload ap t s).ins.pages = s.ins.pages ∧ (wndUnload ap t s).fuse.lifecycle = s.fuse.lifecycle := by
  simp [wndUnload]
@[simp] theorem State.stepFault_store (s : State) (t code : Nat) (o : Obj) :
    (State.stepFault s t code o).ins.pages = s.ins.pages ∧ (State.stepFault s t code o).fuse.lifecycle = s.fuse.lifecycle := by
  simp [State.stepFault]
@[simp] theorem State.stepBad_store (s : State) (t code : Nat) :
    (State.stepBad s t code).ins.pages = s.ins.pages ∧ (State.stepBad s t code).fuse.lifecycle = s.fuse.lifecycle := by
  simp [State.stepBad]
@[simp] theorem State.taskTally_store (s : State) (t : Nat) (opcode node tally : Nat) (v : Dword) :
    (State.taskTally s t opcode node tally v).ins.pages = s.ins.pages ∧ (State.taskTally s t opcode node tally v).fuse.lifecycle = s.fuse.lifecycle := by
  unfold State.taskTally; (try dsimp only); (repeat' (first | (simp [*]; done) | (have e_1 := State.issueReq_store _ _ _ _ _ _ (by assumption); simp [*]; done) | (refine foldl_store _ ?_ _ _ _ ?_ <;> intros <;> (try dsimp only)) | split | (apply And.intro)))
@[simp] theorem State.taskArm_store (s : State) (t : Nat) (clr : Bool) (ext : Option Block) (o : BitVec 120) :
    (State.taskArm s t clr ext o).ins.pages = s.ins.pages ∧ (State.taskArm s t clr ext o).fuse.lifecycle = s.fuse.lifecycle := by
  simp [State.taskArm]
@[simp] theorem State.taskGather_store (s : State) (t : Nat) (o : BitVec 120) :
    (State.taskGather s t o).ins.pages = s.ins.pages ∧ (State.taskGather s t o).fuse.lifecycle = s.fuse.lifecycle := by
  unfold State.taskGather; (try dsimp only); (repeat' (first | (simp [*]; done) | (have e_1 := State.gatherStart_store _ _ (by assumption); simp [*]; done) | (refine foldl_store _ ?_ _ _ _ ?_ <;> intros <;> (try dsimp only)) | split | (apply And.intro)))
@[simp] theorem State.taskMove_store (s : State) (t : Nat) (complete : Bool) (o : BitVec 120) :
    (State.taskMove s t complete o).ins.pages = s.ins.pages ∧ (State.taskMove s t complete o).fuse.lifecycle = s.fuse.lifecycle := by
  simp [State.taskMove]
@[simp] theorem State.taskLoop_store (s : State) (t : Nat) (iter : Bool) (o : BitVec 120) :
    (State.taskLoop s t iter o).ins.pages = s.ins.pages ∧ (State.taskLoop s t iter o).fuse.lifecycle = s.fuse.lifecycle := by
  simp [State.taskLoop]
@[simp] theorem State.taskFence_store (s : State) (t : Nat) :
    (State.taskFence s t).ins.pages = s.ins.pages ∧ (State.taskFence s t).fuse.lifecycle = s.fuse.lifecycle := by
  simp [State.taskFence]
@[simp] theorem State.runStep_store (s : State) (t : Nat) (w : Block) (o : BitVec 120) :
    (State.runStep s t w o).ins.pages = s.ins.pages ∧ (State.runStep s t w o).fuse.lifecycle = s.fuse.lifecycle := by
  unfold State.runStep; (try dsimp only); (repeat' (first | (simp [*]; done) | (refine foldl_store _ ?_ _ _ _ ?_ <;> intros <;> (try dsimp only)) | split | (apply And.intro)))
@[simp] theorem State.readOperand_store (s : State) (t : Nat) (w : Block) :
    (State.readOperand s t w).ins.pages = s.ins.pages ∧ (State.readOperand s t w).fuse.lifecycle = s.fuse.lifecycle := by
  unfold State.readOperand; (try dsimp only); (repeat' (first | (simp [*]; done) | (have e_1 := State.issueReq_store _ _ _ _ _ _ (by assumption); simp [*]; done) | (refine foldl_store _ ?_ _ _ _ ?_ <;> intros <;> (try dsimp only)) | split | (apply And.intro)))
@[simp] theorem winderStepIssue_store (t : Nat) (ecc : Ecc) (s : State) :
    (winderStepIssue t ecc s).ins.pages = s.ins.pages ∧ (winderStepIssue t ecc s).fuse.lifecycle = s.fuse.lifecycle := by
  simp [winderStepIssue]
@[simp] theorem indOperandReturn_store (t : Nat) (s : State) :
    (indOperandReturn t s).ins.pages = s.ins.pages ∧ (indOperandReturn t s).fuse.lifecycle = s.fuse.lifecycle := by
  unfold indOperandReturn; (try dsimp only); (repeat' (first | (simp [*]; done) | (refine foldl_store _ ?_ _ _ _ ?_ <;> intros <;> (try dsimp only)) | split | (apply And.intro)))
@[simp] theorem State.modChan_store (s : State) (c : Nat) (f : Chan → Chan) :
    (State.modChan s c f).ins.pages = s.ins.pages ∧ (State.modChan s c f).fuse.lifecycle = s.fuse.lifecycle := by
  simp [State.modChan]
@[simp] theorem State.modAct_store (s : State) (c : Nat) (f : MovAct → MovAct) :
    (State.modAct s c f).ins.pages = s.ins.pages ∧ (State.modAct s c f).fuse.lifecycle = s.fuse.lifecycle := by
  simp [State.modAct]
@[simp] theorem State.movCmd_store (s : State) (ap : Aperture) (c : Nat) (f : Nat → Nat → State → State) (h_f : ∀ y0 y1 y2, (f y0 y1 y2).ins.pages = y2.ins.pages ∧ (f y0 y1 y2).fuse.lifecycle = y2.fuse.lifecycle) :
    (State.movCmd s ap c f).ins.pages = s.ins.pages ∧ (State.movCmd s ap c f).fuse.lifecycle = s.fuse.lifecycle := by
  unfold State.movCmd; (try dsimp only); (repeat' (first | (simp [*]; done) | (refine foldl_store _ ?_ _ _ _ ?_ <;> intros <;> (try dsimp only)) | (refine store_trans (State.command_store _ _ _ _ ?_ ) ?_ <;> intros <;> (try dsimp only)) | split | (apply And.intro)))
@[simp] theorem movBind_store (ap : Aperture) (c : Nat) (s : State) :
    (movBind ap c s).ins.pages = s.ins.pages ∧ (movBind ap c s).fuse.lifecycle = s.fuse.lifecycle := by
  unfold movBind; (try dsimp only); (repeat' (first | (simp [*]; done) | (have e_1 := State.addRef_store _ _ _ (by assumption); simp [*]; done) | (refine foldl_store _ ?_ _ _ _ ?_ <;> intros <;> (try dsimp only)) | (refine store_trans (State.movCmd_store _ _ _ _ ?_ ) ?_ <;> intros <;> (try dsimp only)) | split | (apply And.intro)))
@[simp] theorem movStart_store (ap : Aperture) (c : Nat) (s : State) :
    (movStart ap c s).ins.pages = s.ins.pages ∧ (movStart ap c s).fuse.lifecycle = s.fuse.lifecycle := by
  unfold movStart; (try dsimp only); (repeat' (first | (simp [*]; done) | (refine foldl_store _ ?_ _ _ _ ?_ <;> intros <;> (try dsimp only)) | (refine store_trans (State.movCmd_store _ _ _ _ ?_ ) ?_ <;> intros <;> (try dsimp only)) | split | (apply And.intro)))
@[simp] theorem State.refEnd_store (s : State) (a : Nat) (o : RefObj) (c code : Nat) :
    (State.refEnd s a o c code).ins.pages = s.ins.pages ∧ (State.refEnd s a o c code).fuse.lifecycle = s.fuse.lifecycle := by
  simp [State.refEnd]
@[simp] theorem State.refCmd_store (s : State) (ap : Aperture) (f : Nat → Nat → RefObj → BitVec 16 → State → State) (h_f : ∀ y0 y1 y2 y3 y4, (f y0 y1 y2 y3 y4).ins.pages = y4.ins.pages ∧ (f y0 y1 y2 y3 y4).fuse.lifecycle = y4.fuse.lifecycle) :
    (State.refCmd s ap f).ins.pages = s.ins.pages ∧ (State.refCmd s ap f).fuse.lifecycle = s.fuse.lifecycle := by
  unfold State.refCmd; (try dsimp only); (repeat' (first | (simp [*]; done) | (refine foldl_store _ ?_ _ _ _ ?_ <;> intros <;> (try dsimp only)) | (refine store_trans (State.command_store _ _ _ _ ?_ ) ?_ <;> intros <;> (try dsimp only)) | split | (apply And.intro)))
@[simp] theorem movRef_store (ap : Aperture) (s : State) :
    (movRef ap s).ins.pages = s.ins.pages ∧ (movRef ap s).fuse.lifecycle = s.fuse.lifecycle := by
  unfold movRef; (try dsimp only); (repeat' (first | (simp [*]; done) | (have e_1 := State.addRef_store _ _ _ (by assumption); simp [*]; done) | (refine foldl_store _ ?_ _ _ _ ?_ <;> intros <;> (try dsimp only)) | (refine store_trans (State.refCmd_store _ _ _ ?_ ) ?_ <;> intros <;> (try dsimp only)) | split | (apply And.intro)))
@[simp] theorem seamFree_store (ap : Aperture) (n : Nat) (s : State) :
    (seamFree ap n s).ins.pages = s.ins.pages ∧ (seamFree ap n s).fuse.lifecycle = s.fuse.lifecycle := by
  simp [seamFree]
@[simp] theorem State.freeOrphan_store (s : State) (o : RefObj) :
    (State.freeOrphan s o).ins.pages = s.ins.pages ∧ (State.freeOrphan s o).fuse.lifecycle = s.fuse.lifecycle := by
  unfold State.freeOrphan; (try dsimp only); (repeat' (first | (simp [*]; done) | (refine foldl_store _ ?_ _ _ _ ?_ <;> intros <;> (try dsimp only)) | split | (apply And.intro)))
@[simp] theorem movUnref_store (ap : Aperture) (s : State) :
    (movUnref ap s).ins.pages = s.ins.pages ∧ (movUnref ap s).fuse.lifecycle = s.fuse.lifecycle := by
  simp [movUnref]
@[simp] theorem movDoorbell_store (ap : Aperture) (c : Nat) (tail : BitVec 12) (s : State) :
    (movDoorbell ap c tail s).ins.pages = s.ins.pages ∧ (movDoorbell ap c tail s).fuse.lifecycle = s.fuse.lifecycle := by
  simp [movDoorbell]
@[simp] theorem State.dropChanReqs_store (s : State) (c : Nat) (signals : Bool) :
    (State.dropChanReqs s c signals).ins.pages = s.ins.pages ∧ (State.dropChanReqs s c signals).fuse.lifecycle = s.fuse.lifecycle := by
  simp [State.dropChanReqs]
@[simp] theorem State.putRecord_store (s : State) (c : Nat) (d : Desc) (done fault status : Nat) :
    (State.putRecord s c d done fault status).ins.pages = s.ins.pages ∧ (State.putRecord s c d done fault status).fuse.lifecycle = s.fuse.lifecycle := by
  simp [State.putRecord]
@[simp] theorem State.moveOver_store (s : State) (c : Nat) (d : Desc) :
    (State.moveOver s c d).ins.pages = s.ins.pages ∧ (State.moveOver s c d).fuse.lifecycle = s.fuse.lifecycle := by
  unfold State.moveOver; (try dsimp only); (repeat' (first | (simp [*]; done) | (refine foldl_store _ ?_ _ _ _ ?_ <;> intros <;> (try dsimp only)) | split | (apply And.intro)))
@[simp] theorem State.descOver_store (s : State) (c : Nat) (d : Desc) :
    (State.descOver s c d).ins.pages = s.ins.pages ∧ (State.descOver s c d).fuse.lifecycle = s.fuse.lifecycle := by
  simp [State.descOver]
@[simp] theorem State.endFailed_store (s : State) (c : Nat) (record : Bool) :
    (State.endFailed s c record).ins.pages = s.ins.pages ∧ (State.endFailed s c record).fuse.lifecycle = s.fuse.lifecycle := by
  unfold State.endFailed; (try dsimp only); (repeat' (first | (simp [*]; done) | (refine foldl_store _ ?_ _ _ _ ?_ <;> intros <;> (try dsimp only)) | split | (apply And.intro)))
@[simp] theorem State.movFail_store (s : State) (c code : Nat) (lose : Bool) :
    (State.movFail s c code lose).ins.pages = s.ins.pages ∧ (State.movFail s c code lose).fuse.lifecycle = s.fuse.lifecycle := by
  unfold State.movFail; (try dsimp only); (repeat' (first | (simp [*]; done) | (refine foldl_store _ ?_ _ _ _ ?_ <;> intros <;> (try dsimp only)) | split | (apply And.intro)))
@[simp] theorem State.movStop_store (s : State) (c code : Nat) :
    (State.movStop s c code).ins.pages = s.ins.pages ∧ (State.movStop s c code).fuse.lifecycle = s.fuse.lifecycle := by
  simp [State.movStop]
@[simp] theorem State.movLost_store (s : State) (c : Nat) :
    (State.movLost s c).ins.pages = s.ins.pages ∧ (State.movLost s c).fuse.lifecycle = s.fuse.lifecycle := by
  simp [State.movLost]
@[simp] theorem State.cleanPage_store (s : State) (addr : Nat) :
    (State.cleanPage s addr).ins.pages = s.ins.pages ∧ (State.cleanPage s addr).fuse.lifecycle = s.fuse.lifecycle := by
  unfold State.cleanPage; (try dsimp only); (repeat' (first | (simp [*]; done) | (refine foldl_store _ ?_ _ _ _ ?_ <;> intros <;> (try dsimp only)) | split | (apply And.intro)))
@[simp] theorem State.askPage_store (s : State) (c : Nat) (dst : Bool) (v : Nat) :
    (State.askPage s c dst v).ins.pages = s.ins.pages ∧ (State.askPage s c dst v).fuse.lifecycle = s.fuse.lifecycle := by
  unfold State.askPage; (try dsimp only); (repeat' (first | (simp [*]; done) | (refine foldl_store _ ?_ _ _ _ ?_ <;> intros <;> (try dsimp only)) | split | (apply And.intro)))
@[simp] theorem State.movAck_store (s : State) (c n : Nat) :
    (State.movAck s c n).ins.pages = s.ins.pages ∧ (State.movAck s c n).fuse.lifecycle = s.fuse.lifecycle := by
  simp [State.movAck]
@[simp] theorem State.movGot_store (s : State) (c off : Nat) (bytes : List Byte) (poison : Bool) :
    (State.movGot s c off bytes poison).ins.pages = s.ins.pages ∧ (State.movGot s c off bytes poison).fuse.lifecycle = s.fuse.lifecycle := by
  simp [State.movGot]
theorem State.movReq_store (s : State) (c : Nat) (a : MovAct) (opcode g : Nat) (poison : Bool) (payload : List Byte) (ext : Nat) {t_ : State} (e_ : State.movReq s c a opcode g poison payload ext = some t_) : t_.ins.pages = s.ins.pages ∧ t_.fuse.lifecycle = s.fuse.lifecycle := by
  first | (unfold State.movReq at e_; (try dsimp only at e_); (repeat' (first | contradiction | (simp only [Option.map_eq_some_iff, Option.bind_eq_some_iff, Option.some.injEq, Prod.mk.injEq] at e_; simp_all; done) | (cases e_; simp; done) | (have e_1 := State.issueReq_store _ _ _ _ _ _ (by assumption); simp [*]; done) | split at e_)); done) | (simp only [State.movReq, Option.map_eq_some_iff, Prod.mk.injEq] at e_; obtain ⟨_, _, rfl, rfl⟩ := e_; simp; done) | (simp only [State.movReq, Option.map_eq_some_iff] at e_; obtain ⟨_, _, rfl⟩ := e_; simp; done) | (grind [State.movReq, State.issueReq_store])
@[simp] theorem State.movReq_sgetD (s : State) (c : Nat) (a : MovAct) (opcode g : Nat) (poison : Bool) (payload : List Byte) (ext : Nat) (u_ : State) (h_ : u_.ins.pages = s.ins.pages ∧ u_.fuse.lifecycle = s.fuse.lifecycle) :
    ((State.movReq s c a opcode g poison payload ext).getD u_).ins.pages = s.ins.pages ∧ ((State.movReq s c a opcode g poison payload ext).getD u_).fuse.lifecycle = s.fuse.lifecycle := by
  cases e_ : State.movReq s c a opcode g poison payload ext with
  | none => exact h_
  | some t_ => exact State.movReq_store _ _ _ _ _ _ _ _ e_
@[simp] theorem State.harvestLine_store (s : State) (share fn off : Nat) :
    (State.harvestLine s share fn off).1.ins.pages = s.ins.pages ∧ (State.harvestLine s share fn off).1.fuse.lifecycle = s.fuse.lifecycle := by
  simp [State.harvestLine]
theorem State.movPull_store (s : State) (c : Nat) {t_ : State} (e_ : State.movPull s c = some t_) : t_.ins.pages = s.ins.pages ∧ t_.fuse.lifecycle = s.fuse.lifecycle := by
  first | (unfold State.movPull at e_; (try dsimp only at e_); (repeat' (first | contradiction | (simp only [Option.map_eq_some_iff, Option.bind_eq_some_iff, Option.some.injEq, Prod.mk.injEq] at e_; simp_all; done) | (cases e_; simp; done) | (have e_1 := State.movReq_store _ _ _ _ _ _ _ _ (by assumption); simp [*]; done) | split at e_)); done) | (simp only [State.movPull, Option.map_eq_some_iff, Prod.mk.injEq] at e_; obtain ⟨_, _, rfl, rfl⟩ := e_; simp; done) | (simp only [State.movPull, Option.map_eq_some_iff] at e_; obtain ⟨_, _, rfl⟩ := e_; simp; done) | (grind [State.movPull, State.harvestLine_store, State.modAct_store, State.toHost_store, State.askPage_store, State.movReq_store])
@[simp] theorem State.movPull_sgetD (s : State) (c : Nat) (u_ : State) (h_ : u_.ins.pages = s.ins.pages ∧ u_.fuse.lifecycle = s.fuse.lifecycle) :
    ((State.movPull s c).getD u_).ins.pages = s.ins.pages ∧ ((State.movPull s c).getD u_).fuse.lifecycle = s.fuse.lifecycle := by
  cases e_ : State.movPull s c with
  | none => exact h_
  | some t_ => exact State.movPull_store _ _ e_
theorem State.movPush_store (s : State) (c : Nat) {t_ : State} (e_ : State.movPush s c = some t_) : t_.ins.pages = s.ins.pages ∧ t_.fuse.lifecycle = s.fuse.lifecycle := by
  first | (unfold State.movPush at e_; (try dsimp only at e_); (repeat' (first | contradiction | (simp only [Option.map_eq_some_iff, Option.bind_eq_some_iff, Option.some.injEq, Prod.mk.injEq] at e_; simp_all; done) | (cases e_; simp; done) | (have e_1 := State.movReq_store _ _ _ _ _ _ _ _ (by assumption); simp [*]; done) | split at e_)); done) | (simp only [State.movPush, Option.map_eq_some_iff, Prod.mk.injEq] at e_; obtain ⟨_, _, rfl, rfl⟩ := e_; simp; done) | (simp only [State.movPush, Option.map_eq_some_iff] at e_; obtain ⟨_, _, rfl⟩ := e_; simp; done) | (grind [State.movPush, State.modAct_store, State.hold_store, State.movAck_store, State.movReq_store, State.askPage_store])
@[simp] theorem State.movPush_sgetD (s : State) (c : Nat) (u_ : State) (h_ : u_.ins.pages = s.ins.pages ∧ u_.fuse.lifecycle = s.fuse.lifecycle) :
    ((State.movPush s c).getD u_).ins.pages = s.ins.pages ∧ ((State.movPush s c).getD u_).fuse.lifecycle = s.fuse.lifecycle := by
  cases e_ : State.movPush s c with
  | none => exact h_
  | some t_ => exact State.movPush_store _ _ e_
theorem State.movWrap_store (s : State) (c : Nat) {t_ : State} (e_ : State.movWrap s c = some t_) : t_.ins.pages = s.ins.pages ∧ t_.fuse.lifecycle = s.fuse.lifecycle := by
  first | (unfold State.movWrap at e_; (try dsimp only at e_); (repeat' (first | contradiction | (simp only [Option.map_eq_some_iff, Option.bind_eq_some_iff, Option.some.injEq, Prod.mk.injEq] at e_; simp_all; done) | (cases e_; simp; done) | split at e_)); done) | (simp only [State.movWrap, Option.map_eq_some_iff, Prod.mk.injEq] at e_; obtain ⟨_, _, rfl, rfl⟩ := e_; simp; done) | (simp only [State.movWrap, Option.map_eq_some_iff] at e_; obtain ⟨_, _, rfl⟩ := e_; simp; done) | (grind [State.movWrap, State.movFail_store, State.keepCtx_store, State.modAct_store, State.hold_store])
@[simp] theorem State.movWrap_sgetD (s : State) (c : Nat) (u_ : State) (h_ : u_.ins.pages = s.ins.pages ∧ u_.fuse.lifecycle = s.fuse.lifecycle) :
    ((State.movWrap s c).getD u_).ins.pages = s.ins.pages ∧ ((State.movWrap s c).getD u_).fuse.lifecycle = s.fuse.lifecycle := by
  cases e_ : State.movWrap s c with
  | none => exact h_
  | some t_ => exact State.movWrap_store _ _ e_
theorem State.movUnwrap_store (s : State) (c : Nat) {t_ : State} (e_ : State.movUnwrap s c = some t_) : t_.ins.pages = s.ins.pages ∧ t_.fuse.lifecycle = s.fuse.lifecycle := by
  first | (unfold State.movUnwrap at e_; (try dsimp only at e_); (repeat' (first | contradiction | (simp only [Option.map_eq_some_iff, Option.bind_eq_some_iff, Option.some.injEq, Prod.mk.injEq] at e_; simp_all; done) | (cases e_; simp; done) | split at e_)); done) | (simp only [State.movUnwrap, Option.map_eq_some_iff, Prod.mk.injEq] at e_; obtain ⟨_, _, rfl, rfl⟩ := e_; simp; done) | (simp only [State.movUnwrap, Option.map_eq_some_iff] at e_; obtain ⟨_, _, rfl⟩ := e_; simp; done) | (grind [State.movUnwrap, State.movFail_store, State.keepCtx_store, State.modAct_store])
@[simp] theorem State.movUnwrap_sgetD (s : State) (c : Nat) (u_ : State) (h_ : u_.ins.pages = s.ins.pages ∧ u_.fuse.lifecycle = s.fuse.lifecycle) :
    ((State.movUnwrap s c).getD u_).ins.pages = s.ins.pages ∧ ((State.movUnwrap s c).getD u_).fuse.lifecycle = s.fuse.lifecycle := by
  cases e_ : State.movUnwrap s c with
  | none => exact h_
  | some t_ => exact State.movUnwrap_store _ _ e_
@[simp] theorem State.movUnit_store (s : State) (c : Nat) (bytes : List Byte) :
    (State.movUnit s c bytes).ins.pages = s.ins.pages ∧ (State.movUnit s c bytes).fuse.lifecycle = s.fuse.lifecycle := by
  unfold State.movUnit; (try dsimp only); (repeat' (first | (simp [*]; done) | (refine foldl_store _ ?_ _ _ _ ?_ <;> intros <;> (try dsimp only)) | split | (apply And.intro)))
theorem State.movEnd_store (s : State) (c : Nat) {t_ : State} (e_ : State.movEnd s c = some t_) : t_.ins.pages = s.ins.pages ∧ t_.fuse.lifecycle = s.fuse.lifecycle := by
  first | (unfold State.movEnd at e_; (try dsimp only at e_); (repeat' (first | contradiction | (simp only [Option.map_eq_some_iff, Option.bind_eq_some_iff, Option.some.injEq, Prod.mk.injEq] at e_; simp_all; done) | (cases e_; simp; done) | split at e_)); done) | (simp only [State.movEnd, Option.map_eq_some_iff, Prod.mk.injEq] at e_; obtain ⟨_, _, rfl, rfl⟩ := e_; simp; done) | (simp only [State.movEnd, Option.map_eq_some_iff] at e_; obtain ⟨_, _, rfl⟩ := e_; simp; done) | (grind [State.movEnd, State.modAct_store, State.sealBy_store, State.movFail_store])
@[simp] theorem State.movEnd_sgetD (s : State) (c : Nat) (u_ : State) (h_ : u_.ins.pages = s.ins.pages ∧ u_.fuse.lifecycle = s.fuse.lifecycle) :
    ((State.movEnd s c).getD u_).ins.pages = s.ins.pages ∧ ((State.movEnd s c).getD u_).fuse.lifecycle = s.fuse.lifecycle := by
  cases e_ : State.movEnd s c with
  | none => exact h_
  | some t_ => exact State.movEnd_store _ _ e_
theorem State.movMove_store (s : State) (c : Nat) {t_ : State} (e_ : State.movMove s c = some t_) : t_.ins.pages = s.ins.pages ∧ t_.fuse.lifecycle = s.fuse.lifecycle := by
  have key : ∀ a b : Option State, (∀ t, a = some t → t.ins.pages = s.ins.pages ∧ t.fuse.lifecycle = s.fuse.lifecycle) →
      (∀ t, b = some t → t.ins.pages = s.ins.pages ∧ t.fuse.lifecycle = s.fuse.lifecycle) → ∀ t, a.or b = some t → t.ins.pages = s.ins.pages ∧ t.fuse.lifecycle = s.fuse.lifecycle := by
    intro a b ha hb t h
    cases a with
    | none => exact hb t h
    | some a => exact ha t h
  unfold State.movMove at e_
  split at e_
  · contradiction
  · split at e_
    · contradiction
    · split at e_
      · cases e_; simp
      · exact key _ _ (fun _ => State.movPush_store _ _) (key _ _ (fun _ => State.movWrap_store _ _) (key _ _ (fun _ => State.movUnwrap_store _ _)
          (key _ _ (fun _ => State.movPull_store _ _) (fun _ => State.movEnd_store _ _)))) _ e_
@[simp] theorem State.movMove_sgetD (s : State) (c : Nat) (u_ : State) (h_ : u_.ins.pages = s.ins.pages ∧ u_.fuse.lifecycle = s.fuse.lifecycle) :
    ((State.movMove s c).getD u_).ins.pages = s.ins.pages ∧ ((State.movMove s c).getD u_).fuse.lifecycle = s.fuse.lifecycle := by
  cases e_ : State.movMove s c with
  | none => exact h_
  | some t_ => exact State.movMove_store _ _ e_
@[simp] theorem State.movPump_store (c n : Nat) (s : State) :
    (State.movPump c n s).ins.pages = s.ins.pages ∧ (State.movPump c n s).fuse.lifecycle = s.fuse.lifecycle := by
  induction n generalizing s with
  | zero => exact ⟨rfl, rfl⟩
  | succ n ih =>
    unfold State.movPump
    split
    · exact store_trans (ih _) (State.movMove_store _ _ (by assumption))
    · exact ⟨rfl, rfl⟩
@[simp] theorem State.movRun_store (s : State) (c len src dst : Nat) :
    (State.movRun s c len src dst).ins.pages = s.ins.pages ∧ (State.movRun s c len src dst).fuse.lifecycle = s.fuse.lifecycle := by
  unfold State.movRun; (try dsimp only); (repeat' (first | (simp [*]; done) | (refine foldl_store _ ?_ _ _ _ ?_ <;> intros <;> (try dsimp only)) | split | (apply And.intro)))
@[simp] theorem State.movBegin_store (s : State) (c : Nat) :
    (State.movBegin s c).ins.pages = s.ins.pages ∧ (State.movBegin s c).fuse.lifecycle = s.fuse.lifecycle := by
  unfold State.movBegin; (try dsimp only); (repeat' (first | (simp [*]; done) | (have e_1 := State.movReq_store _ _ _ _ _ _ _ _ (by assumption); simp [*]; done) | (refine foldl_store _ ?_ _ _ _ ?_ <;> intros <;> (try dsimp only)) | split | (apply And.intro)))
theorem State.descRefs_store (c : Nat) (seq : Nat) (l : List Nat) (s t : State) (h : l.foldl (fun (o : Option State) n => o.bind fun s => s.addRef (.desc c seq) (.tally n)) (some s) = some t) :
    t.ins.pages = s.ins.pages ∧ t.fuse.lifecycle = s.fuse.lifecycle := by
  induction l generalizing s with
  | nil => cases h; exact ⟨rfl, rfl⟩
  | cons n l ih =>
    simp only [List.foldl_cons, Option.bind_some] at h
    cases e : s.addRef (.desc c seq) (.tally n) with
    | none => rw [e] at h; exfalso; clear ih e; induction l with | nil => contradiction | cons m l ih => exact ih h
    | some u => rw [e] at h; exact store_trans (ih u h) (State.addRef_store _ _ _ e)
@[simp] theorem State.takeDesc_store (s : State) (c : Nat) (d : Desc) (place : Nat) :
    (State.takeDesc s c d place).ins.pages = s.ins.pages ∧ (State.takeDesc s c d place).fuse.lifecycle = s.fuse.lifecycle := by
  unfold State.takeDesc
  dsimp only
  split
  · rename_i h
    have e := State.descRefs_store c s.mov.next _ _ _ h
    exact store_trans (State.modChan_store _ _ _) e
  · simp
@[simp] theorem State.readDesc_store (s : State) (c g : Nat) (ctx : BitVec 16) :
    (State.readDesc s c g ctx).ins.pages = s.ins.pages ∧ (State.readDesc s c g ctx).fuse.lifecycle = s.fuse.lifecycle := by
  simp [State.readDesc]
@[simp] theorem State.moveDesc_store (s : State) (c : Nat) (m : MoveStep) (words : List Dword) (bad : Nat) :
    (State.moveDesc s c m words bad).ins.pages = s.ins.pages ∧ (State.moveDesc s c m words bad).fuse.lifecycle = s.fuse.lifecycle := by
  simp [State.moveDesc]
@[simp] theorem State.ringDesc_store (s : State) (c : Nat) (words : List Dword) (bad : Nat) :
    (State.ringDesc s c words bad).ins.pages = s.ins.pages ∧ (State.ringDesc s c words bad).fuse.lifecycle = s.fuse.lifecycle := by
  simp [State.ringDesc]
@[simp] theorem State.deviceRing_store (s : State) (c : Nat) :
    (State.deviceRing s c).ins.pages = s.ins.pages ∧ (State.deviceRing s c).fuse.lifecycle = s.fuse.lifecycle := by
  unfold State.deviceRing; (try dsimp only); (repeat' (first | (simp [*]; done) | (refine foldl_store _ ?_ _ _ _ ?_ <;> intros <;> (try dsimp only)) | split | (apply And.intro)))
@[simp] theorem descriptorFetched_store (c : Nat) (words : List Dword) (s : State) :
    (descriptorFetched c words s).ins.pages = s.ins.pages ∧ (descriptorFetched c words s).fuse.lifecycle = s.fuse.lifecycle := by
  unfold descriptorFetched; (try dsimp only); (repeat' (first | (simp [*]; done) | (refine foldl_store _ ?_ _ _ _ ?_ <;> intros <;> (try dsimp only)) | split | (apply And.intro)))
@[simp] theorem descriptorActive_store (c : Nat) (s : State) :
    (descriptorActive c s).ins.pages = s.ins.pages ∧ (descriptorActive c s).fuse.lifecycle = s.fuse.lifecycle := by
  unfold descriptorActive; (try dsimp only); (repeat' (first | (simp [*]; done) | (have e_1 := State.issueReq_store _ _ _ _ _ _ (by assumption); simp [*]; done) | (refine foldl_store _ ?_ _ _ _ ?_ <;> intros <;> (try dsimp only)) | split | (apply And.intro)))
@[simp] theorem State.ringAnswer_store (s : State) (c v : Nat) (page : Option (BitVec 52)) :
    (State.ringAnswer s c v page).ins.pages = s.ins.pages ∧ (State.ringAnswer s c v page).fuse.lifecycle = s.fuse.lifecycle := by
  unfold State.ringAnswer; (try dsimp only); (repeat' (first | (simp [*]; done) | (refine foldl_store _ ?_ _ _ _ ?_ <;> intros <;> (try dsimp only)) | split | (apply And.intro)))
@[simp] theorem translationAnswer_store (c : Nat) (dst : Bool) (page : Option (BitVec 52)) (s : State) :
    (translationAnswer c dst page s).ins.pages = s.ins.pages ∧ (translationAnswer c dst page s).fuse.lifecycle = s.fuse.lifecycle := by
  unfold translationAnswer; (try dsimp only); (repeat' (first | (simp [*]; done) | (refine foldl_store _ ?_ _ _ _ ?_ <;> intros <;> (try dsimp only)) | split | (apply And.intro)))
@[simp] theorem paramBlockReturn_store (c : Nat) (s : State) :
    (paramBlockReturn c s).ins.pages = s.ins.pages ∧ (paramBlockReturn c s).fuse.lifecycle = s.fuse.lifecycle := by
  unfold paramBlockReturn; (try dsimp only); (repeat' (first | (simp [*]; done) | (refine foldl_store _ ?_ _ _ _ ?_ <;> intros <;> (try dsimp only)) | split | (apply And.intro)))
@[simp] theorem descriptorFinish_store (c : Nat) (s : State) :
    (descriptorFinish c s).ins.pages = s.ins.pages ∧ (descriptorFinish c s).fuse.lifecycle = s.fuse.lifecycle := by
  unfold descriptorFinish
  dsimp only
  split
  · simp
  · split
    · simp
    · split
      · simp
      · rename_i h
        split at h
        · have e := State.issueReq_store _ _ _ _ _ _ h
          split <;> simp [e]
        · cases h
          split <;> simp
@[simp] theorem recordUndeliverable_store (c : Nat) (s : State) :
    (recordUndeliverable c s).ins.pages = s.ins.pages ∧ (recordUndeliverable c s).fuse.lifecycle = s.fuse.lifecycle := by
  simp [recordUndeliverable]
@[simp] theorem State.movHaltPath_store (s : State) (c : Nat) :
    (State.movHaltPath s c).ins.pages = s.ins.pages ∧ (State.movHaltPath s c).fuse.lifecycle = s.fuse.lifecycle := by
  simp [State.movHaltPath]
@[simp] theorem movAbort_store (ap : Aperture) (c : Nat) (s : State) :
    (movAbort ap c s).ins.pages = s.ins.pages ∧ (movAbort ap c s).fuse.lifecycle = s.fuse.lifecycle := by
  simp [movAbort]
@[simp] theorem movAbortDrained_store (c : Nat) (s : State) :
    (movAbortDrained c s).ins.pages = s.ins.pages ∧ (movAbortDrained c s).fuse.lifecycle = s.fuse.lifecycle := by
  unfold movAbortDrained; (try dsimp only); (repeat' (first | (simp [*]; done) | (refine foldl_store _ ?_ _ _ _ ?_ <;> intros <;> (try dsimp only)) | split | (apply And.intro)))
@[simp] theorem State.dropHeldContribs_store (s : State) (c : Nat) :
    (State.dropHeldContribs s c).ins.pages = s.ins.pages ∧ (State.dropHeldContribs s c).fuse.lifecycle = s.fuse.lifecycle := by
  simp [State.dropHeldContribs]
@[simp] theorem State.discardDescs_store (s : State) (c : Nat) :
    (State.discardDescs s c).ins.pages = s.ins.pages ∧ (State.discardDescs s c).fuse.lifecycle = s.fuse.lifecycle := by
  simp [State.discardDescs]
@[simp] theorem State.forceDestroy_store (s : State) (c : Nat) (ap : Option Nat) :
    (State.forceDestroy s c ap).ins.pages = s.ins.pages ∧ (State.forceDestroy s c ap).fuse.lifecycle = s.fuse.lifecycle := by
  simp [State.forceDestroy]
@[simp] theorem State.destroyQueue_store (s : State) (a p c : Nat) (ctx : BitVec 16) :
    (State.destroyQueue s a p c ctx).ins.pages = s.ins.pages ∧ (State.destroyQueue s a p c ctx).fuse.lifecycle = s.fuse.lifecycle := by
  unfold State.destroyQueue; (try dsimp only); (repeat' (first | (simp [*]; done) | (refine foldl_store _ ?_ _ _ _ ?_ <;> intros <;> (try dsimp only)) | split | (apply And.intro)))
@[simp] theorem movDestroy_store (ap : Aperture) (c : Nat) (s : State) :
    (movDestroy ap c s).ins.pages = s.ins.pages ∧ (movDestroy ap c s).fuse.lifecycle = s.fuse.lifecycle := by
  unfold movDestroy; (try dsimp only); (repeat' (first | (simp [*]; done) | (refine foldl_store _ ?_ _ _ _ ?_ <;> intros <;> (try dsimp only)) | (refine store_trans (State.refCmd_store _ _ _ ?_ ) ?_ <;> intros <;> (try dsimp only)) | split | (apply And.intro)))
@[simp] theorem destroyComplete_store (c : Nat) (s : State) :
    (destroyComplete c s).ins.pages = s.ins.pages ∧ (destroyComplete c s).fuse.lifecycle = s.fuse.lifecycle := by
  unfold destroyComplete; (try dsimp only); (repeat' (first | (simp [*]; done) | (refine foldl_store _ ?_ _ _ _ ?_ <;> intros <;> (try dsimp only)) | split | (apply And.intro)))
@[simp] theorem State.movTake_store (s : State) (c : Nat) (d : Done) :
    (State.movTake s c d).ins.pages = s.ins.pages ∧ (State.movTake s c d).fuse.lifecycle = s.fuse.lifecycle := by
  unfold State.movTake; (try dsimp only); (repeat' (first | (simp [*]; done) | (refine foldl_store _ ?_ _ _ _ ?_ <;> intros <;> (try dsimp only)) | split | (apply And.intro)))
@[simp] theorem State.movSealed_store (s : State) (c code : Nat) :
    (State.movSealed s c code).ins.pages = s.ins.pages ∧ (State.movSealed s c code).fuse.lifecycle = s.fuse.lifecycle := by
  unfold State.movSealed; (try dsimp only); (repeat' (first | (simp [*]; done) | (refine foldl_store _ ?_ _ _ _ ?_ <;> intros <;> (try dsimp only)) | split | (apply And.intro)))
@[simp] theorem State.movSettle_store (s : State) :
    (State.movSettle s).ins.pages = s.ins.pages ∧ (State.movSettle s).fuse.lifecycle = s.fuse.lifecycle := by
  unfold State.movSettle; (try dsimp only); (repeat' (first | (simp [*]; done) | (refine foldl_store _ ?_ _ _ _ ?_ <;> intros <;> (try dsimp only)) | split | (apply And.intro)))
@[simp] theorem State.putCtx_store (s : State) (p i : Nat) (e : CtxEntry) :
    (State.putCtx s p i e).ins.pages = s.ins.pages ∧ (State.putCtx s p i e).fuse.lifecycle = s.fuse.lifecycle := by
  simp [State.putCtx]
@[simp] theorem ctxOpen_store (ap : Aperture) (fn : Nat) (s : State) :
    (ctxOpen ap fn s).ins.pages = s.ins.pages ∧ (ctxOpen ap fn s).fuse.lifecycle = s.fuse.lifecycle := by
  unfold ctxOpen; (try dsimp only); (repeat' (first | (simp [*]; done) | (refine foldl_store _ ?_ _ _ _ ?_ <;> intros <;> (try dsimp only)) | (refine store_trans (State.command_store _ _ _ _ ?_ ) ?_ <;> intros <;> (try dsimp only)) | split | (apply And.intro)))
@[simp] theorem State.endCarts_store (s : State) (p : Nat) (ctx : BitVec 16) :
    (State.endCarts s p ctx).ins.pages = s.ins.pages ∧ (State.endCarts s p ctx).fuse.lifecycle = s.fuse.lifecycle := by
  unfold State.endCarts; (try dsimp only); (repeat' (first | (simp [*]; done) | (refine foldl_store _ ?_ _ _ _ ?_ <;> intros <;> (try dsimp only)) | split | (apply And.intro)))
@[simp] theorem State.discardReqs_store (s : State) (p : Nat) (ctx : BitVec 16) :
    (State.discardReqs s p ctx).ins.pages = s.ins.pages ∧ (State.discardReqs s p ctx).fuse.lifecycle = s.fuse.lifecycle := by
  simp [State.discardReqs]
@[simp] theorem State.retireWork_store (s : State) (p : Nat) (ctx : BitVec 16) :
    (State.retireWork s p ctx).1.ins.pages = s.ins.pages ∧ (State.retireWork s p ctx).1.fuse.lifecycle = s.fuse.lifecycle := by
  simp [State.retireWork]
@[simp] theorem ctxRetire_store (ap : Aperture) (tag : BitVec 16) (s : State) :
    (ctxRetire ap tag s).ins.pages = s.ins.pages ∧ (ctxRetire ap tag s).fuse.lifecycle = s.fuse.lifecycle := by
  unfold ctxRetire; (try dsimp only); (repeat' (first | (simp [*]; done) | (refine foldl_store _ ?_ _ _ _ ?_ <;> intros <;> (try dsimp only)) | (refine store_trans (State.command_store _ _ _ _ ?_ ) ?_ <;> intros <;> (try dsimp only)) | split | (apply And.intro)))
@[simp] theorem ctxRetireComplete_store (p idx : Nat) (s : State) :
    (ctxRetireComplete p idx s).ins.pages = s.ins.pages ∧ (ctxRetireComplete p idx s).fuse.lifecycle = s.fuse.lifecycle := by
  unfold ctxRetireComplete; (try dsimp only); (repeat' (first | (simp [*]; done) | (refine foldl_store _ ?_ _ _ _ ?_ <;> intros <;> (try dsimp only)) | split | (apply And.intro)))
@[simp] theorem ctxLossLoRead_store (ap : Aperture) (s : State) :
    (ctxLossLoRead ap s).ins.pages = s.ins.pages ∧ (ctxLossLoRead ap s).fuse.lifecycle = s.fuse.lifecycle := by
  unfold ctxLossLoRead; (try dsimp only); (repeat' (first | (simp [*]; done) | (refine foldl_store _ ?_ _ _ _ ?_ <;> intros <;> (try dsimp only)) | split | (apply And.intro)))
@[simp] theorem frontEndWait_store (w : FrontWait) (s : State) :
    (frontEndWait w s).ins.pages = s.ins.pages ∧ (frontEndWait w s).fuse.lifecycle = s.fuse.lifecycle := by
  simp [frontEndWait]
@[simp] theorem State.settleFront_store (s : State) :
    (State.settleFront s).ins.pages = s.ins.pages ∧ (State.settleFront s).fuse.lifecycle = s.fuse.lifecycle := by
  simp [State.settleFront]
@[simp] theorem frontEndWithdraw_store (q : Nat) (s : State) :
    (frontEndWithdraw q s).ins.pages = s.ins.pages ∧ (frontEndWithdraw q s).fuse.lifecycle = s.fuse.lifecycle := by
  unfold frontEndWithdraw; (try dsimp only); (repeat' (first | (simp [*]; done) | (refine foldl_store _ ?_ _ _ _ ?_ <;> intros <;> (try dsimp only)) | split | (apply And.intro)))
@[simp] theorem State.modStream_store (s : State) (k : Nat) (f : IdeStream → IdeStream) :
    (State.modStream s k f).ins.pages = s.ins.pages ∧ (State.modStream s k f).fuse.lifecycle = s.fuse.lifecycle := by
  simp [State.modStream]
@[simp] theorem State.insecure_store (s : State) (k : Nat) (now : Bool) :
    (State.insecure s k now).ins.pages = s.ins.pages ∧ (State.insecure s k now).fuse.lifecycle = s.fuse.lifecycle := by
  simp [State.insecure]
@[simp] theorem State.setTdi_store (s : State) (p v : Nat) (cause : BitVec 16) :
    (State.setTdi s p v cause).ins.pages = s.ins.pages ∧ (State.setTdi s p v cause).fuse.lifecycle = s.fuse.lifecycle := by
  simp [State.setTdi]
@[simp] theorem State.tdiError_store (s : State) (p cause : Nat) :
    (State.tdiError s p cause).ins.pages = s.ins.pages ∧ (State.tdiError s p cause).fuse.lifecycle = s.fuse.lifecycle := by
  simp [State.tdiError]
@[simp] theorem State.ideFail_store (s : State) (k : Nat) :
    (State.ideFail s k).ins.pages = s.ins.pages ∧ (State.ideFail s k).fuse.lifecycle = s.fuse.lifecycle := by
  simp [State.ideFail]
@[simp] theorem hostReadCompletion_store (c : Nat) (lines : List Line) (ideOk : Bool) (s : State) :
    (hostReadCompletion c lines ideOk s).ins.pages = s.ins.pages ∧ (hostReadCompletion c lines ideOk s).fuse.lifecycle = s.fuse.lifecycle := by
  unfold hostReadCompletion; (try dsimp only); (repeat' (first | (simp [*]; done) | (refine foldl_store _ ?_ _ _ _ ?_ <;> intros <;> (try dsimp only)) | split | (apply And.intro)))
@[simp] theorem State.urTo_store (s : State) (fn tag : Nat) (posted : Bool) :
    (State.urTo s fn tag posted).ins.pages = s.ins.pages ∧ (State.urTo s fn tag posted).fuse.lifecycle = s.fuse.lifecycle := by
  simp [State.urTo]
@[simp] theorem hostTlpReceive_store (x : Tlp) (s : State) :
    (hostTlpReceive x s).ins.pages = s.ins.pages ∧ (hostTlpReceive x s).fuse.lifecycle = s.fuse.lifecycle := by
  unfold hostTlpReceive; (try dsimp only); (repeat' (first | (simp [*]; done) | (refine foldl_store _ ?_ _ _ _ ?_ <;> intros <;> (try dsimp only)) | split | (apply And.intro)))
@[simp] theorem State.holdCpl_store (s : State) (p fn tag status : Nat) (bytes : List Byte) (ctx : Option (BitVec 16)) :
    (State.holdCpl s p fn tag status bytes ctx).ins.pages = s.ins.pages ∧ (State.holdCpl s p fn tag status bytes ctx).fuse.lifecycle = s.fuse.lifecycle := by
  simp [State.holdCpl]
@[simp] theorem bar2Access_store (x : Bar2) (s : State) :
    (bar2Access x s).ins.pages = s.ins.pages ∧ (bar2Access x s).fuse.lifecycle = s.fuse.lifecycle := by
  unfold bar2Access; (try dsimp only); (repeat' (first | (simp [*]; done) | (have e_1 := State.issueReq_store _ _ _ _ _ _ (by assumption); simp [*]; done) | (refine foldl_store _ ?_ _ _ _ ?_ <;> intros <;> (try dsimp only)) | split | (apply And.intro)))
@[simp] theorem State.settleBar2Waits_store (s : State) :
    (State.settleBar2Waits s).ins.pages = s.ins.pages ∧ (State.settleBar2Waits s).fuse.lifecycle = s.fuse.lifecycle := by
  simp [State.settleBar2Waits]
@[simp] theorem State.bar2Take_store (s : State) (p : Nat) (d : Done) :
    (State.bar2Take s p d).ins.pages = s.ins.pages ∧ (State.bar2Take s p d).fuse.lifecycle = s.fuse.lifecycle := by
  simp [State.bar2Take]
@[simp] theorem State.endSession_store (s : State) (x : Session) :
    (State.endSession s x).ins.pages = s.ins.pages ∧ (State.endSession s x).fuse.lifecycle = s.fuse.lifecycle := by
  simp [State.endSession]
@[simp] theorem State.endSessions_store (s : State) (f : Session → Bool) :
    (State.endSessions s f).ins.pages = s.ins.pages ∧ (State.endSessions s f).fuse.lifecycle = s.fuse.lifecycle := by
  simp [State.endSessions]
@[simp] theorem State.sessionKeys_store (s : State) (fn : Nat) :
    (State.sessionKeys s fn).1.ins.pages = s.ins.pages ∧ (State.sessionKeys s fn).1.fuse.lifecycle = s.fuse.lifecycle := by
  unfold State.sessionKeys
  generalize List.range 4 = l
  suffices h : ∀ (x : State × List Nat), (l.foldl (fun (x : State × List Nat) _ => match x.1.freeSlot [] with
      | none => x
      | some k => ((x.1.putKey k 0xA fn 4 2 0 x.1.rand).used, x.2 ++ [k])) x).1.ins.pages = x.1.ins.pages ∧
      (l.foldl (fun (x : State × List Nat) _ => match x.1.freeSlot [] with
      | none => x
      | some k => ((x.1.putKey k 0xA fn 4 2 0 x.1.rand).used, x.2 ++ [k])) x).1.fuse.lifecycle = x.1.fuse.lifecycle from h _
  induction l with
  | nil => intro x; exact ⟨rfl, rfl⟩
  | cons a l ih =>
    intro x
    rw [List.foldl_cons]
    refine store_trans (ih _) ?_
    cases x.1.freeSlot [] with
    | none => exact ⟨rfl, rfl⟩
    | some k => simp
@[simp] theorem State.renewKeys_store (s : State) (l : List Nat) :
    (State.renewKeys s l).ins.pages = s.ins.pages ∧ (State.renewKeys s l).fuse.lifecycle = s.fuse.lifecycle := by
  simp [State.renewKeys]
@[simp] theorem spdmMessage_store (fn : Nat) (r : SpdmReq) (s : State) :
    (spdmMessage fn r s).ins.pages = s.ins.pages ∧ (spdmMessage fn r s).fuse.lifecycle = s.fuse.lifecycle := by
  unfold spdmMessage; (try dsimp only); (repeat' (first | (simp [*]; done) | (refine foldl_store _ ?_ _ _ _ ?_ <;> intros <;> (try dsimp only)) | split | (apply And.intro)))
@[simp] theorem State.ideKm_store (s : State) (fn session stream : Nat) (f : State → State) (h_f : ∀ y0, (f y0).ins.pages = y0.ins.pages ∧ (f y0).fuse.lifecycle = y0.fuse.lifecycle) :
    (State.ideKm s fn session stream f).ins.pages = s.ins.pages ∧ (State.ideKm s fn session stream f).fuse.lifecycle = s.fuse.lifecycle := by
  simp [State.ideKm, h_f]
@[simp] theorem ideKmQuery_store (fn session stream : Nat) (s : State) :
    (ideKmQuery fn session stream s).ins.pages = s.ins.pages ∧ (ideKmQuery fn session stream s).fuse.lifecycle = s.fuse.lifecycle := by
  simp [ideKmQuery]
@[simp] theorem ideKmKeyProg_store (fn session stream kset sub dir : Nat) (key : BitVec 256) (s : State) :
    (ideKmKeyProg fn session stream kset sub dir key s).ins.pages = s.ins.pages ∧ (ideKmKeyProg fn session stream kset sub dir key s).fuse.lifecycle = s.fuse.lifecycle := by
  unfold ideKmKeyProg; (try dsimp only); (repeat' (first | (simp [*]; done) | (refine foldl_store _ ?_ _ _ _ ?_ <;> intros <;> (try dsimp only)) | (refine store_trans (State.ideKm_store _ _ _ _ _ ?_ ) ?_ <;> intros <;> (try dsimp only)) | split | (apply And.intro)))
@[simp] theorem ideKmKSetGo_store (fn session stream kset sub dir : Nat) (s : State) :
    (ideKmKSetGo fn session stream kset sub dir s).ins.pages = s.ins.pages ∧ (ideKmKSetGo fn session stream kset sub dir s).fuse.lifecycle = s.fuse.lifecycle := by
  simp [ideKmKSetGo]
@[simp] theorem ideKmKSetStop_store (fn session stream kset sub dir : Nat) (s : State) :
    (ideKmKSetStop fn session stream kset sub dir s).ins.pages = s.ins.pages ∧ (ideKmKSetStop fn session stream kset sub dir s).fuse.lifecycle = s.fuse.lifecycle := by
  simp [ideKmKSetStop]
@[simp] theorem State.abortHalt_store (s : State) (c code : Nat) :
    (State.abortHalt s c code).ins.pages = s.ins.pages ∧ (State.abortHalt s c code).fuse.lifecycle = s.fuse.lifecycle := by
  unfold State.abortHalt
  extract_lets k
  split
  · simp
  · simp
  · split
    · simp
    · rename_i act t1 t2 t3 t4 t5 _ _ _ _
      have e1 : t1.ins.pages = s.ins.pages ∧ t1.fuse.lifecycle = s.fuse.lifecycle := by simp only [t1]; simp
      have e2 : t2.ins.pages = s.ins.pages ∧ t2.fuse.lifecycle = s.fuse.lifecycle := by simp only [t2]; simp [e1]
      have e3 : t3.ins.pages = s.ins.pages ∧ t3.fuse.lifecycle = s.fuse.lifecycle := by simp only [t3]; cases act <;> simp [e2]
      have e4 : t4.ins.pages = s.ins.pages ∧ t4.fuse.lifecycle = s.fuse.lifecycle := by simp only [t4]; simp [e3]
      have e5 : t5.ins.pages = s.ins.pages ∧ t5.fuse.lifecycle = s.fuse.lifecycle := by simp only [t5]; simp [e4]
      clear_value t5
      split <;> simp [e5]
@[simp] theorem State.loseWhere_store (s : State) (p code : Nat) (f : CtxEntry → Bool) :
    (State.loseWhere s p code f).ins.pages = s.ins.pages ∧ (State.loseWhere s p code f).fuse.lifecycle = s.fuse.lifecycle := by
  simp [State.loseWhere]
@[simp] theorem State.dropLost_store (s : State) (p v : Nat) :
    (State.dropLost s p v).ins.pages = s.ins.pages ∧ (State.dropLost s p v).fuse.lifecycle = s.fuse.lifecycle := by
  simp [State.dropLost]
@[simp] theorem State.resetInsts_store (s : State) (p : Nat) :
    (State.resetInsts s p).ins.pages = s.ins.pages ∧ (State.resetInsts s p).fuse.lifecycle = s.fuse.lifecycle := by
  simp [State.resetInsts]
@[simp] theorem State.haltTasks_store (s : State) (p code : Nat) :
    (State.haltTasks s p code).ins.pages = s.ins.pages ∧ (State.haltTasks s p code).fuse.lifecycle = s.fuse.lifecycle := by
  simp [State.haltTasks]
@[simp] theorem State.flrPart_store (s : State) (p : Nat) :
    (State.flrPart s p).ins.pages = s.ins.pages ∧ (State.flrPart s p).fuse.lifecycle = s.fuse.lifecycle := by
  simp [State.flrPart]
@[simp] theorem State.flrVf_store (s : State) (p v : Nat) :
    (State.flrVf s p v).ins.pages = s.ins.pages ∧ (State.flrVf s p v).fuse.lifecycle = s.fuse.lifecycle := by
  simp [State.flrVf]
@[simp] theorem flr_store (fn : FlrFn) (s : State) : (flr fn s).ins.pages = s.ins.pages ∧ (flr fn s).fuse.lifecycle = s.fuse.lifecycle := by
  unfold flr; (try dsimp only); (repeat' (first | (simp [*]; done) | (refine foldl_store _ ?_ _ _ _ ?_ <;> intros <;> (try dsimp only)) | split | (apply And.intro)))
@[simp] theorem flrDone_store (fn : FlrFn) (s : State) :
    (flrDone fn s).ins.pages = s.ins.pages ∧ (flrDone fn s).fuse.lifecycle = s.fuse.lifecycle := by
  simp [flrDone]
@[simp] theorem State.tdisp_store (s : State) (p session : Nat) (f : State → State) (h_f : ∀ y0, (f y0).ins.pages = y0.ins.pages ∧ (f y0).fuse.lifecycle = y0.fuse.lifecycle) :
    (State.tdisp s p session f).ins.pages = s.ins.pages ∧ (State.tdisp s p session f).fuse.lifecycle = s.fuse.lifecycle := by
  simp [State.tdisp, h_f]
@[simp] theorem State.tdispError_store (s : State) (p : Nat) :
    (State.tdispError s p).ins.pages = s.ins.pages ∧ (State.tdispError s p).fuse.lifecycle = s.fuse.lifecycle := by
  simp [State.tdispError]
@[simp] theorem getTdispVersion_store (p session : Nat) (s : State) :
    (getTdispVersion p session s).ins.pages = s.ins.pages ∧ (getTdispVersion p session s).fuse.lifecycle = s.fuse.lifecycle := by
  simp [getTdispVersion]
@[simp] theorem getTdispCapabilities_store (p session : Nat) (s : State) :
    (getTdispCapabilities p session s).ins.pages = s.ins.pages ∧ (getTdispCapabilities p session s).fuse.lifecycle = s.fuse.lifecycle := by
  simp [getTdispCapabilities]
@[simp] theorem lockInterfaceRequest_store (p session : Nat) (s : State) :
    (lockInterfaceRequest p session s).ins.pages = s.ins.pages ∧ (lockInterfaceRequest p session s).fuse.lifecycle = s.fuse.lifecycle := by
  simp [lockInterfaceRequest]
@[simp] theorem getDeviceInterfaceReport_store (p session : Nat) (s : State) :
    (getDeviceInterfaceReport p session s).ins.pages = s.ins.pages ∧ (getDeviceInterfaceReport p session s).fuse.lifecycle = s.fuse.lifecycle := by
  simp [getDeviceInterfaceReport]
@[simp] theorem getDeviceInterfaceState_store (p session : Nat) (s : State) :
    (getDeviceInterfaceState p session s).ins.pages = s.ins.pages ∧ (getDeviceInterfaceState p session s).fuse.lifecycle = s.fuse.lifecycle := by
  simp [getDeviceInterfaceState]
@[simp] theorem startInterfaceRequest_store (p session : Nat) (s : State) :
    (startInterfaceRequest p session s).ins.pages = s.ins.pages ∧ (startInterfaceRequest p session s).fuse.lifecycle = s.fuse.lifecycle := by
  simp [startInterfaceRequest]
@[simp] theorem stopInterfaceRequest_store (p session : Nat) (s : State) :
    (stopInterfaceRequest p session s).ins.pages = s.ins.pages ∧ (stopInterfaceRequest p session s).fuse.lifecycle = s.fuse.lifecycle := by
  simp [stopInterfaceRequest]
@[simp] theorem configWriteLocked_store (p : Nat) (s : State) :
    (configWriteLocked p s).ins.pages = s.ins.pages ∧ (configWriteLocked p s).fuse.lifecycle = s.fuse.lifecycle := by
  simp [configWriteLocked]
@[simp] theorem State.removeBegin_store (s : State) (p : Nat) :
    (State.removeBegin s p).ins.pages = s.ins.pages ∧ (State.removeBegin s p).fuse.lifecycle = s.fuse.lifecycle := by
  simp [State.removeBegin]
@[simp] theorem State.clearEngines_store (s : State) (p : Nat) :
    (State.clearEngines s p).ins.pages = s.ins.pages ∧ (State.clearEngines s p).fuse.lifecycle = s.fuse.lifecycle := by
  simp [State.clearEngines]
@[simp] theorem State.hstCmd_store (s : State) (ap : Aperture) (f : Nat → State → State) (h_f : ∀ y0 y1, (f y0 y1).ins.pages = y1.ins.pages ∧ (f y0 y1).fuse.lifecycle = y1.fuse.lifecycle) :
    (State.hstCmd s ap f).ins.pages = s.ins.pages ∧ (State.hstCmd s ap f).fuse.lifecycle = s.fuse.lifecycle := by
  unfold State.hstCmd; (try dsimp only); (repeat' (first | (simp [*]; done) | (refine foldl_store _ ?_ _ _ _ ?_ <;> intros <;> (try dsimp only)) | (refine store_trans (State.command_store _ _ _ _ ?_ ) ?_ <;> intros <;> (try dsimp only)) | split | (apply And.intro)))
@[simp] theorem hstRemove_store (ap : Aperture) (p : Nat) (s : State) :
    (hstRemove ap p s).ins.pages = s.ins.pages ∧ (hstRemove ap p s).fuse.lifecycle = s.fuse.lifecycle := by
  unfold hstRemove; (try dsimp only); (repeat' (first | (simp [*]; done) | (refine foldl_store _ ?_ _ _ _ ?_ <;> intros <;> (try dsimp only)) | (refine store_trans (State.command_store _ _ _ _ ?_ ) ?_ <;> intros <;> (try dsimp only)) | split | (apply And.intro)))
@[simp] theorem State.killKeys_store (s : State) (p : Nat) :
    (State.killKeys s p).ins.pages = s.ins.pages ∧ (State.killKeys s p).fuse.lifecycle = s.fuse.lifecycle := by
  simp [State.killKeys]
@[simp] theorem removeComplete_life (p : Nat) (s : State) : (removeComplete p s).fuse.lifecycle = s.fuse.lifecycle := by
  unfold removeComplete; (try dsimp only); (repeat' (first | (simp [*]; done) | split))
@[simp] theorem removeComplete_wf (p : Nat) (s : State) (h_ : pagesWf s.ins.pages = true) : pagesWf (removeComplete p s).ins.pages = true := by
  unfold removeComplete
  split
  · exact h_
  · rename_i a x _
    generalize x + 16000 = y
    dsimp only
    have e : pagesWf (((s.reach y).killKeys p).clearEngines p).ins.pages = true := by
      simp only [State.clearEngines_store, State.killKeys_store, State.reach_store]; exact h_
    generalize ((s.reach y).killKeys p).clearEngines p = t at *
    have e2 := foldl_wf State.zeroShare (fun s k => State.zeroShare_wf s k) ((List.range 12).filter fun k => t.stackOwner k == p) t e
    generalize ((List.range 12).filter fun k => t.stackOwner k == p).foldl State.zeroShare t = u at *
    simp only [State.cmdEnd_store, State.irqVis_store]
    exact e2
@[simp] theorem pfD3hot_store (fn : Nat) (s : State) : (pfD3hot fn s).ins.pages = s.ins.pages ∧ (pfD3hot fn s).fuse.lifecycle = s.fuse.lifecycle := by
  simp [pfD3hot]
@[simp] theorem pfD0_store (fn : Nat) (s : State) : (pfD0 fn s).ins.pages = s.ins.pages ∧ (pfD0 fn s).fuse.lifecycle = s.fuse.lifecycle := by
  simp [pfD0]
@[simp] theorem pfD3cold_store (p : Nat) (s : State) : (pfD3cold p s).ins.pages = s.ins.pages ∧ (pfD3cold p s).fuse.lifecycle = s.fuse.lifecycle := by
  simp [pfD3cold]
@[simp] theorem d0FromD3cold_store (p : Nat) (s : State) :
    (d0FromD3cold p s).ins.pages = s.ins.pages ∧ (d0FromD3cold p s).fuse.lifecycle = s.fuse.lifecycle := by
  simp [d0FromD3cold]
@[simp] theorem vfPowerState_store (p v d : Nat) (s : State) :
    (vfPowerState p v d s).ins.pages = s.ins.pages ∧ (vfPowerState p v d s).fuse.lifecycle = s.fuse.lifecycle := by
  simp [vfPowerState]
@[simp] theorem State.dropHostBound_store (s : State) (p : Nat) :
    (State.dropHostBound s p).ins.pages = s.ins.pages ∧ (State.dropHostBound s p).fuse.lifecycle = s.fuse.lifecycle := by
  simp [State.dropHostBound]
@[simp] theorem State.endAwait_store (s : State) (c : Nat) :
    (State.endAwait s c).ins.pages = s.ins.pages ∧ (State.endAwait s c).fuse.lifecycle = s.fuse.lifecycle := by
  unfold State.endAwait; (try dsimp only); (repeat' (first | (simp [*]; done) | (refine foldl_store _ ?_ _ _ _ ?_ <;> intros <;> (try dsimp only)) | split | (apply And.intro)))
@[simp] theorem State.linkDown_store (s : State) :
    (State.linkDown s).ins.pages = s.ins.pages ∧ (State.linkDown s).fuse.lifecycle = s.fuse.lifecycle := by
  simp [State.linkDown]
@[simp] theorem surpriseLinkDown_store (s : State) :
    (surpriseLinkDown s).ins.pages = s.ins.pages ∧ (surpriseLinkDown s).fuse.lifecycle = s.fuse.lifecycle := by
  simp [surpriseLinkDown]
@[simp] theorem hostLinkUp_store (s : State) : (hostLinkUp s).ins.pages = s.ins.pages ∧ (hostLinkUp s).fuse.lifecycle = s.fuse.lifecycle := by
  simp [hostLinkUp]
@[simp] theorem hstDirtyEnable_store (ap : Aperture) (s : State) :
    (hstDirtyEnable ap s).ins.pages = s.ins.pages ∧ (hstDirtyEnable ap s).fuse.lifecycle = s.fuse.lifecycle := by
  simp [hstDirtyEnable]
@[simp] theorem dirtyEnableDone_store (p : Nat) (s : State) :
    (dirtyEnableDone p s).ins.pages = s.ins.pages ∧ (dirtyEnableDone p s).fuse.lifecycle = s.fuse.lifecycle := by
  unfold dirtyEnableDone; (try dsimp only); (repeat' (first | (simp [*]; done) | (refine foldl_store _ ?_ _ _ _ ?_ <;> intros <;> (try dsimp only)) | split | (apply And.intro)))
@[simp] theorem hstDirtyDisable_store (ap : Aperture) (s : State) :
    (hstDirtyDisable ap s).ins.pages = s.ins.pages ∧ (hstDirtyDisable ap s).fuse.lifecycle = s.fuse.lifecycle := by
  simp [hstDirtyDisable]
@[simp] theorem State.writeBlob_store (s : State) (p : Nat) (head : List Byte) :
    (State.writeBlob s p head).ins.pages = s.ins.pages ∧ (State.writeBlob s p head).fuse.lifecycle = s.fuse.lifecycle := by
  unfold State.writeBlob
  exact store_trans (State.used_store _) (State.hold_store _ _ _ _ _)
@[simp] theorem State.migRefuse_store (s : State) (p code : Nat) :
    (State.migRefuse s p code).ins.pages = s.ins.pages ∧ (State.migRefuse s p code).fuse.lifecycle = s.fuse.lifecycle := by
  simp [State.migRefuse]
theorem State.installMig_store (s : State) (p : Nat) (ss offer accept : List Byte) {a_ : Nat} {t_ : State} (e_ : State.installMig s p ss offer accept = some (t_, a_)) : t_.ins.pages = s.ins.pages ∧ t_.fuse.lifecycle = s.fuse.lifecycle := by
  first | (unfold State.installMig at e_; (try dsimp only at e_); (repeat' (first | contradiction | (simp only [Option.map_eq_some_iff, Option.bind_eq_some_iff, Option.some.injEq, Prod.mk.injEq] at e_; simp_all; done) | (cases e_; simp; done) | split at e_)); done) | (simp only [State.installMig, Option.map_eq_some_iff, Prod.mk.injEq] at e_; obtain ⟨_, _, rfl, rfl⟩ := e_; simp; done) | (simp only [State.installMig, Option.map_eq_some_iff] at e_; obtain ⟨_, _, rfl⟩ := e_; simp; done) | (grind [State.installMig, State.putKey_store])
@[simp] theorem State.readBlob_store (s : State) (p : Nat) :
    (State.readBlob s p).ins.pages = s.ins.pages ∧ (State.readBlob s p).fuse.lifecycle = s.fuse.lifecycle := by
  simp [State.readBlob]
@[simp] theorem hstMigOffer_store (ap : Aperture) (hostOk : Bool) (s : State) :
    (hstMigOffer ap hostOk s).ins.pages = s.ins.pages ∧ (hstMigOffer ap hostOk s).fuse.lifecycle = s.fuse.lifecycle := by
  simp [hstMigOffer]
@[simp] theorem hstMigAccept_store (ap : Aperture) (offer : Option MigBlob) (s : State) :
    (hstMigAccept ap offer s).ins.pages = s.ins.pages ∧ (hstMigAccept ap offer s).fuse.lifecycle = s.fuse.lifecycle := by
  unfold hstMigAccept; (try dsimp only); (repeat' (first | (simp [*]; done) | (have e_1 := State.installMig_store _ _ _ _ _ (by assumption); simp [*]; done) | (refine foldl_store _ ?_ _ _ _ ?_ <;> intros <;> (try dsimp only)) | (refine store_trans (State.hstCmd_store _ _ _ ?_ ) ?_ <;> intros <;> (try dsimp only)) | split | (apply And.intro)))
@[simp] theorem hstMigFinish_store (ap : Aperture) (accept : Option MigBlob) (s : State) :
    (hstMigFinish ap accept s).ins.pages = s.ins.pages ∧ (hstMigFinish ap accept s).fuse.lifecycle = s.fuse.lifecycle := by
  unfold hstMigFinish; (try dsimp only); (repeat' (first | (simp [*]; done) | (have e_1 := State.installMig_store _ _ _ _ _ (by assumption); simp [*]; done) | (refine foldl_store _ ?_ _ _ _ ?_ <;> intros <;> (try dsimp only)) | (refine store_trans (State.hstCmd_store _ _ _ ?_ ) ?_ <;> intros <;> (try dsimp only)) | split | (apply And.intro)))
@[simp] theorem migOfferExpire_store (p : Nat) (s : State) :
    (migOfferExpire p s).ins.pages = s.ins.pages ∧ (migOfferExpire p s).fuse.lifecycle = s.fuse.lifecycle := by
  simp [migOfferExpire]
@[simp] theorem State.vltCmd_store (s : State) (ap : Aperture) (slot : Nat) (lampOnly : Bool) (f : Nat → State → State) (h_f : ∀ y0 y1, (f y0 y1).ins.pages = y1.ins.pages ∧ (f y0 y1).fuse.lifecycle = y1.fuse.lifecycle) :
    (State.vltCmd s ap slot lampOnly f).ins.pages = s.ins.pages ∧ (State.vltCmd s ap slot lampOnly f).fuse.lifecycle = s.fuse.lifecycle := by
  unfold State.vltCmd; (try dsimp only); (repeat' (first | (simp [*]; done) | (refine foldl_store _ ?_ _ _ _ ?_ <;> intros <;> (try dsimp only)) | (refine store_trans (State.command_store _ _ _ _ ?_ ) ?_ <;> intros <;> (try dsimp only)) | split | (apply And.intro)))
@[simp] theorem vltOrigin_store (ap : Aperture) (slot : Nat) (hostOk : Bool) (s : State) :
    (vltOrigin ap slot hostOk s).ins.pages = s.ins.pages ∧ (vltOrigin ap slot hostOk s).fuse.lifecycle = s.fuse.lifecycle := by
  simp [vltOrigin]
@[simp] theorem vltRetire_store (ap : Aperture) (slot : Nat) (s : State) :
    (vltRetire ap slot s).ins.pages = s.ins.pages ∧ (vltRetire ap slot s).fuse.lifecycle = s.fuse.lifecycle := by
  simp [vltRetire]
@[simp] theorem vltZeroise_store (ap : Aperture) (slot : Nat) (s : State) :
    (vltZeroise ap slot s).ins.pages = s.ins.pages ∧ (vltZeroise ap slot s).fuse.lifecycle = s.fuse.lifecycle := by
  unfold vltZeroise; (try dsimp only); (repeat' (first | (simp [*]; done) | (refine foldl_store _ ?_ _ _ _ ?_ <;> intros <;> (try dsimp only)) | (refine store_trans (State.vltCmd_store _ _ _ _ _ ?_ ) ?_ <;> intros <;> (try dsimp only)) | split | (apply And.intro)))
@[simp] theorem slotDead_store (slot : Nat) (s : State) :
    (slotDead slot s).ins.pages = s.ins.pages ∧ (slotDead slot s).fuse.lifecycle = s.fuse.lifecycle := by
  simp [slotDead]
@[simp] theorem slotEmpty_store (slot : Nat) (s : State) :
    (slotEmpty slot s).ins.pages = s.ins.pages ∧ (slotEmpty slot s).fuse.lifecycle = s.fuse.lifecycle := by
  unfold slotEmpty; (try dsimp only); (repeat' (first | (simp [*]; done) | (refine foldl_store _ ?_ _ _ _ ?_ <;> intros <;> (try dsimp only)) | split | (apply And.intro)))
@[simp] theorem State.killAll_store (s : State) :
    (State.killAll s).ins.pages = s.ins.pages ∧ (State.killAll s).fuse.lifecycle = s.fuse.lifecycle := by
  simp [State.killAll]
@[simp] theorem State.modVlt_store (s : State) (f : VltSt → VltSt) :
    (State.modVlt s f).ins.pages = s.ins.pages ∧ (State.modVlt s f).fuse.lifecycle = s.fuse.lifecycle := by
  simp [State.modVlt]
@[simp] theorem State.vltIrq_store (s : State) (bit : Nat) :
    (State.vltIrq s bit).ins.pages = s.ins.pages ∧ (State.vltIrq s bit).fuse.lifecycle = s.fuse.lifecycle := by
  simp [State.vltIrq]
@[simp] theorem drbgGenerate_store (bits : Nat) (s : State) :
    (drbgGenerate bits s).ins.pages = s.ins.pages ∧ (drbgGenerate bits s).fuse.lifecycle = s.fuse.lifecycle := by
  simp [drbgGenerate]
@[simp] theorem drbgReseed_store (s : State) : (drbgReseed s).ins.pages = s.ins.pages ∧ (drbgReseed s).fuse.lifecycle = s.fuse.lifecycle := by
  simp [drbgReseed]
@[simp] theorem entropyHealthFail_store (s : State) :
    (entropyHealthFail s).ins.pages = s.ins.pages ∧ (entropyHealthFail s).fuse.lifecycle = s.fuse.lifecycle := by
  unfold entropyHealthFail; (try dsimp only); (repeat' (first | (simp [*]; done) | (refine foldl_store _ ?_ _ _ _ ?_ <;> intros <;> (try dsimp only)) | split | (apply And.intro)))
@[simp] theorem entropyStartupPass_store (s : State) :
    (entropyStartupPass s).ins.pages = s.ins.pages ∧ (entropyStartupPass s).fuse.lifecycle = s.fuse.lifecycle := by
  simp [entropyStartupPass]
@[simp] theorem checkJobSubmit_store (prio perms : Nat) (s : State) :
    (checkJobSubmit prio perms s).ins.pages = s.ins.pages ∧ (checkJobSubmit prio perms s).fuse.lifecycle = s.fuse.lifecycle := by
  simp [checkJobSubmit]
@[simp] theorem checkPermutation_store (agree : Bool) (s : State) :
    (checkPermutation agree s).ins.pages = s.ins.pages ∧ (checkPermutation agree s).fuse.lifecycle = s.fuse.lifecycle := by
  unfold checkPermutation; (try dsimp only); (repeat' (first | (simp [*]; done) | (refine foldl_store _ ?_ _ _ _ ?_ <;> intros <;> (try dsimp only)) | split | (apply And.intro)))
@[simp] theorem State.setPk_store (s : State) (u : PkUnit) (x : PkeUnit) :
    (State.setPk s u x).ins.pages = s.ins.pages ∧ (State.setPk s u x).fuse.lifecycle = s.fuse.lifecycle := by
  simp [State.setPk]
@[simp] theorem pkeRequest_store (u : PkUnit) (prio : Nat) (s : State) :
    (pkeRequest u prio s).ins.pages = s.ins.pages ∧ (pkeRequest u prio s).fuse.lifecycle = s.fuse.lifecycle := by
  simp [pkeRequest]
@[simp] theorem pkeComplete_store (u : PkUnit) (s : State) :
    (pkeComplete u s).ins.pages = s.ins.pages ∧ (pkeComplete u s).fuse.lifecycle = s.fuse.lifecycle := by
  simp [pkeComplete]
@[simp] theorem signWindowEnd_store (ok verifyFail : Bool) (s : State) :
    (signWindowEnd ok verifyFail s).ins.pages = s.ins.pages ∧ (signWindowEnd ok verifyFail s).fuse.lifecycle = s.fuse.lifecycle := by
  simp [signWindowEnd]
@[simp] theorem stateEncodingError_store (s : State) :
    (stateEncodingError s).ins.pages = s.ins.pages ∧ (stateEncodingError s).fuse.lifecycle = s.fuse.lifecycle := by
  simp [stateEncodingError]
@[simp] theorem tamperEvent_store (s : State) : (tamperEvent s).ins.pages = s.ins.pages ∧ (tamperEvent s).fuse.lifecycle = s.fuse.lifecycle := by
  simp [tamperEvent]
@[simp] theorem lampSramUncorr_store (retained : Bool) (s : State) :
    (lampSramUncorr retained s).ins.pages = s.ins.pages ∧ (lampSramUncorr retained s).fuse.lifecycle = s.fuse.lifecycle := by
  simp [lampSramUncorr]
@[simp] theorem State.lcsCmd_store (s : State) (ap : Aperture) (f : Nat → State → State) (h_f : ∀ y0 y1, (f y0 y1).ins.pages = y1.ins.pages ∧ (f y0 y1).fuse.lifecycle = y1.fuse.lifecycle) :
    (State.lcsCmd s ap f).ins.pages = s.ins.pages ∧ (State.lcsCmd s ap f).fuse.lifecycle = s.fuse.lifecycle := by
  unfold State.lcsCmd; (try dsimp only); (repeat' (first | (simp [*]; done) | (refine foldl_store _ ?_ _ _ _ ?_ <;> intros <;> (try dsimp only)) | (refine store_trans (State.command_store _ _ _ _ ?_ ) ?_ <;> intros <;> (try dsimp only)) | split | (apply And.intro)))
@[simp] theorem lcsTransition_store (ap : Aperture) (req : Option Transition) (s : State) :
    (lcsTransition ap req s).ins.pages = s.ins.pages ∧ (lcsTransition ap req s).fuse.lifecycle = s.fuse.lifecycle := by
  unfold lcsTransition; (try dsimp only); (repeat' (first | (simp [*]; done) | (refine foldl_store _ ?_ _ _ _ ?_ <;> intros <;> (try dsimp only)) | (refine store_trans (State.lcsCmd_store _ _ _ ?_ ) ?_ <;> intros <;> (try dsimp only)) | split | (apply And.intro)))
@[simp] theorem transitionProgrammed_store (s : State) :
    (transitionProgrammed s).ins.pages = s.ins.pages ∧ (transitionProgrammed s).fuse.lifecycle = s.fuse.lifecycle := by
  unfold transitionProgrammed
  split
  · exact ⟨rfl, rfl⟩
  · refine store_trans (State.cmdEnd_store _ _ _ _ _) ⟨rfl, ?_⟩
    simp only [Fuses.blow]
    (repeat' split) <;> rfl

@[simp] theorem lcsScrap_store (ap : Aperture) (s : State) :
    (lcsScrap ap s).ins.pages = s.ins.pages ∧ (lcsScrap ap s).fuse.lifecycle = s.fuse.lifecycle := by
  simp [lcsScrap]
@[simp] theorem State.exposure_store (s : State) (c since : Nat) :
    (State.exposure s c since).ins.pages = s.ins.pages ∧ (State.exposure s c since).fuse.lifecycle = s.fuse.lifecycle := by
  simp [State.exposure]
@[simp] theorem State.laneIrq_store (s : State) (c : Nat) :
    (State.laneIrq s c).ins.pages = s.ins.pages ∧ (State.laneIrq s c).fuse.lifecycle = s.fuse.lifecycle := by
  simp [State.laneIrq]
@[simp] theorem State.clusterOffline_store (s : State) (c since : Nat) :
    (State.clusterOffline s c since).ins.pages = s.ins.pages ∧ (State.clusterOffline s c since).fuse.lifecycle = s.fuse.lifecycle := by
  simp [State.clusterOffline]
@[simp] theorem laneSample_store (c : Nat) (r : Sample) (s : State) :
    (laneSample c r s).ins.pages = s.ins.pages ∧ (laneSample c r s).fuse.lifecycle = s.fuse.lifecycle := by
  simp [laneSample]
@[simp] theorem State.enterStep_store (s : State) (n : Nat) :
    (State.enterStep s n).ins.pages = s.ins.pages ∧ (State.enterStep s n).fuse.lifecycle = s.fuse.lifecycle := by
  simp [State.enterStep]
@[simp] theorem State.stopIn_store (s : State) (n : Nat) :
    (State.stopIn s n).ins.pages = s.ins.pages ∧ (State.stopIn s n).fuse.lifecycle = s.fuse.lifecycle := by
  simp [State.stopIn]
@[simp] theorem State.showRefusal_store (s : State) (r : Refused) :
    (State.showRefusal s r).ins.pages = s.ins.pages ∧ (State.showRefusal s r).fuse.lifecycle = s.fuse.lifecycle := by
  simp [State.showRefusal]
@[simp] theorem State.lseIrq_store (s : State) (bit : Nat) :
    (State.lseIrq s bit).ins.pages = s.ins.pages ∧ (State.lseIrq s bit).fuse.lifecycle = s.fuse.lifecycle := by
  simp [State.lseIrq]
@[simp] theorem State.enterHeld_store (s : State) (step : Nat) (r : Refused) :
    (State.enterHeld s step r).ins.pages = s.ins.pages ∧ (State.enterHeld s step r).fuse.lifecycle = s.fuse.lifecycle := by
  simp [State.enterHeld]
@[simp] theorem State.assign_store (s : State) (l : Lease) (shape : Nat) :
    (State.assign s l shape).ins.pages = s.ins.pages ∧ (State.assign s l shape).fuse.lifecycle = s.fuse.lifecycle := by
  simp [State.assign]
@[simp] theorem State.applyLease_store (s : State) (l : Lease) :
    (State.applyLease s l).ins.pages = s.ins.pages ∧ (State.applyLease s l).fuse.lifecycle = s.fuse.lifecycle := by
  simp [State.applyLease]
@[simp] theorem State.digestOf_store (s : State) (b : List Byte) :
    (State.digestOf s b).ins.pages = s.ins.pages ∧ (State.digestOf s b).fuse.lifecycle = s.fuse.lifecycle := by
  simp [State.digestOf]
@[simp] theorem State.lampStart_store (s : State) :
    (State.lampStart s).ins.pages = s.ins.pages ∧ (State.lampStart s).fuse.lifecycle = s.fuse.lifecycle := by
  simp [State.lampStart]
@[simp] theorem State.zeroUsers_store (s : State) (q : Nat) :
    (State.zeroUsers s q).ins.pages = s.ins.pages ∧ (State.zeroUsers s q).fuse.lifecycle = s.fuse.lifecycle := by
  simp [State.zeroUsers]
@[simp] theorem State.initSlices_life (s : State) (l : List Nat) : (State.initSlices s l).fuse.lifecycle = s.fuse.lifecycle := by
  simp [State.initSlices]
@[simp] theorem State.initSlices_wf (s : State) (l : List Nat) (h_ : pagesWf s.ins.pages = true) : pagesWf (State.initSlices s l).ins.pages = true := by
  refine foldl_wf _ ?_ _ _ h_
  intro s x h
  refine filterInner_wf _ _ ?_
  simpa using h
@[simp] theorem State.gate_store (s : State) (q : Nat) :
    (State.gate s q).ins.pages = s.ins.pages ∧ (State.gate s q).fuse.lifecycle = s.fuse.lifecycle := by
  simp [State.gate]
@[simp] theorem State.enterRun_store (s : State) :
    (State.enterRun s).ins.pages = s.ins.pages ∧ (State.enterRun s).fuse.lifecycle = s.fuse.lifecycle := by
  simp [State.enterRun]
@[simp] theorem State.enterStep13_store (s : State) :
    (State.enterStep13 s).ins.pages = s.ins.pages ∧ (State.enterStep13 s).fuse.lifecycle = s.fuse.lifecycle := by
  simp [State.enterStep13]
@[simp] theorem State.startAdvance_life (s : State) : (State.startAdvance s).fuse.lifecycle = s.fuse.lifecycle := by
  simp [State.startAdvance]
@[simp] theorem State.startAdvance_wf (s : State) (h_ : pagesWf s.ins.pages = true) : pagesWf (State.startAdvance s).ins.pages = true := by
  unfold State.startAdvance; (try dsimp only); (repeat' (first | assumption | (simp [*]; done) | (apply foldl_wf <;> intros <;> (try dsimp only)) | (apply State.initSlices_wf) | split))
@[simp] theorem State.fuseSecret_store (s : State) :
    (State.fuseSecret s).ins.pages = s.ins.pages ∧ (State.fuseSecret s).fuse.lifecycle = s.fuse.lifecycle := by
  simp [State.fuseSecret]
@[simp] theorem State.identityKeys_store (s : State) :
    (State.identityKeys s).ins.pages = s.ins.pages ∧ (State.identityKeys s).fuse.lifecycle = s.fuse.lifecycle := by
  simp [State.identityKeys]
@[simp] theorem State.admitStart_life (s : State) (b : List Byte) (sigOk : Bool) :
    (State.admitStart s b sigOk).1.fuse.lifecycle = s.fuse.lifecycle := by
  unfold State.admitStart
  split
  · dsimp only; split <;> simp
  · extract_lets t1 t2 t3 t4
    have e1 : t1.fuse.lifecycle = s.fuse.lifecycle := by simp only [t1]; simp
    have e2 : t2.fuse.lifecycle = s.fuse.lifecycle := by simp only [t2]; simp [e1]
    have e4 : t4.fuse.lifecycle = s.fuse.lifecycle := e2
    clear_value t4
    simp [e4]
@[simp] theorem State.admitStart_wf (s : State) (b : List Byte) (sigOk : Bool) (h_ : pagesWf s.ins.pages = true) : pagesWf (State.admitStart s b sigOk).1.ins.pages = true := by
  unfold State.admitStart
  split
  · dsimp only; split <;> simpa using h_
  · extract_lets t1 t2 t3 t4
    have e1 : pagesWf t1.ins.pages = true := by simp only [t1]; simpa using h_
    have e2 : pagesWf t2.ins.pages = true := by simp only [t2]; simpa using e1
    have e4 : pagesWf t4.ins.pages = true := e2
    clear_value t4
    simp [e4]
@[simp] theorem State.readStart_life (s : State) (nor : Option (List Byte)) (sigOk : Bool) :
    (State.readStart s nor sigOk).1.fuse.lifecycle = s.fuse.lifecycle := by
  unfold State.readStart; (try dsimp only); (repeat' (first | (simp [*]; done) | split))
@[simp] theorem State.readStart_wf (s : State) (nor : Option (List Byte)) (sigOk : Bool) (h_ : pagesWf s.ins.pages = true) : pagesWf (State.readStart s nor sigOk).1.ins.pages = true := by
  unfold State.readStart; (try dsimp only); (repeat' (first | assumption | (simp [*]; done) | (apply foldl_wf <;> intros <;> (try dsimp only)) | (apply State.admitStart_wf) | split))
@[simp] theorem State.bistRepair_store (s : State) (q : Nat) :
    (State.bistRepair s q).ins.pages = s.ins.pages ∧ (State.bistRepair s q).fuse.lifecycle = s.fuse.lifecycle := by
  simp [State.bistRepair]
@[simp] theorem State.failQuad_store (s : State) (q : Nat) :
    (State.failQuad s q).ins.pages = s.ins.pages ∧ (State.failQuad s q).fuse.lifecycle = s.fuse.lifecycle := by
  simp [State.failQuad]
@[simp] theorem State.coldTests_wf (s : State) (i : StartInputs) (h_ : pagesWf s.ins.pages = true) : pagesWf (State.coldTests s i).ins.pages = true := by
  unfold State.coldTests; (try dsimp only); (repeat' (first | assumption | (simp [*]; done) | (apply foldl_wf <;> intros <;> (try dsimp only)) | (apply State.readStart_wf) | split))
@[simp] theorem porRelease_wf (i : StartInputs) (s : State) (h_ : pagesWf s.ins.pages = true) : pagesWf (porRelease i s).ins.pages = true := by
  unfold porRelease; (try dsimp only); (repeat' (first | assumption | (simp [*]; done) | (apply foldl_wf <;> intros <;> (try dsimp only)) | (apply State.coldTests_wf) | split))
@[simp] theorem memTrained_life (s : State) : (memTrained s).fuse.lifecycle = s.fuse.lifecycle := by
  simp [memTrained]
@[simp] theorem memTrained_wf (s : State) (h_ : pagesWf s.ins.pages = true) : pagesWf (memTrained s).ins.pages = true := by
  simp [memTrained, h_]
@[simp] theorem hubTrainingTimeout_store (s : State) :
    (hubTrainingTimeout s).ins.pages = s.ins.pages ∧ (hubTrainingTimeout s).fuse.lifecycle = s.fuse.lifecycle := by
  simp [hubTrainingTimeout]
@[simp] theorem step13Timeout_store (s : State) :
    (step13Timeout s).ins.pages = s.ins.pages ∧ (step13Timeout s).fuse.lifecycle = s.fuse.lifecycle := by
  simp [step13Timeout]
@[simp] theorem State.lseCmd_store (s : State) (ap : Aperture) (f : Nat → State → State) (h_f : ∀ y0 y1, (f y0 y1).ins.pages = y1.ins.pages ∧ (f y0 y1).fuse.lifecycle = y1.fuse.lifecycle) :
    (State.lseCmd s ap f).ins.pages = s.ins.pages ∧ (State.lseCmd s ap f).fuse.lifecycle = s.fuse.lifecycle := by
  unfold State.lseCmd; (try dsimp only); (repeat' (first | (simp [*]; done) | (refine foldl_store _ ?_ _ _ _ ?_ <;> intros <;> (try dsimp only)) | (refine store_trans (State.command_store _ _ _ _ ?_ ) ?_ <;> intros <;> (try dsimp only)) | split | (apply And.intro)))
@[simp] theorem State.modObs_store (s : State) (f : ObsSt → ObsSt) :
    (State.modObs s f).ins.pages = s.ins.pages ∧ (State.modObs s f).fuse.lifecycle = s.fuse.lifecycle := by
  simp [State.modObs]
@[simp] theorem State.obsIrq_store (s : State) (bit : Nat) :
    (State.obsIrq s bit).ins.pages = s.ins.pages ∧ (State.obsIrq s bit).fuse.lifecycle = s.fuse.lifecycle := by
  simp [State.obsIrq]
@[simp] theorem State.obsMiss_store (s : State) :
    (State.obsMiss s).ins.pages = s.ins.pages ∧ (State.obsMiss s).fuse.lifecycle = s.fuse.lifecycle := by
  simp [State.obsMiss]
@[simp] theorem State.capture_store (s : State) (source id origin : Nat) (late : Bool) :
    (State.capture s source id origin late).ins.pages = s.ins.pages ∧ (State.capture s source id origin late).fuse.lifecycle = s.fuse.lifecycle := by
  simp [State.capture]
@[simp] theorem State.freezeId_store (s : State) :
    (State.freezeId s).2.ins.pages = s.ins.pages ∧ (State.freezeId s).2.fuse.lifecycle = s.fuse.lifecycle := by
  simp [State.freezeId]
@[simp] theorem State.captureLocal_store (s : State) (source : Nat) :
    (State.captureLocal s source).ins.pages = s.ins.pages ∧ (State.captureLocal s source).fuse.lifecycle = s.fuse.lifecycle := by
  simp [State.captureLocal]
@[simp] theorem State.armFreeze_store (s : State) (source : Nat) (t : Dword) (id origin : Nat) :
    (State.armFreeze s source t id origin).ins.pages = s.ins.pages ∧ (State.armFreeze s source t id origin).fuse.lifecycle = s.fuse.lifecycle := by
  simp [State.armFreeze]
@[simp] theorem State.obsCmd_store (s : State) (ap : Aperture) (f : Nat → State → State) (h_f : ∀ y0 y1, (f y0 y1).ins.pages = y1.ins.pages ∧ (f y0 y1).fuse.lifecycle = y1.fuse.lifecycle) :
    (State.obsCmd s ap f).ins.pages = s.ins.pages ∧ (State.obsCmd s ap f).fuse.lifecycle = s.fuse.lifecycle := by
  unfold State.obsCmd; (try dsimp only); (repeat' (first | (simp [*]; done) | (refine foldl_store _ ?_ _ _ _ ?_ <;> intros <;> (try dsimp only)) | (refine store_trans (State.command_store _ _ _ _ ?_ ) ?_ <;> intros <;> (try dsimp only)) | split | (apply And.intro)))
@[simp] theorem obsFreeze_store (ap : Aperture) (s : State) :
    (obsFreeze ap s).ins.pages = s.ins.pages ∧ (obsFreeze ap s).fuse.lifecycle = s.fuse.lifecycle := by
  simp [obsFreeze]
@[simp] theorem State.noteFreeze_store (s : State) (id origin : Nat) :
    (State.noteFreeze s id origin).ins.pages = s.ins.pages ∧ (State.noteFreeze s id origin).fuse.lifecycle = s.fuse.lifecycle := by
  simp [State.noteFreeze]
@[simp] theorem obsFreezeAt_store (ap : Aperture) (bcast : Bool) (s : State) :
    (obsFreezeAt ap bcast s).ins.pages = s.ins.pages ∧ (obsFreezeAt ap bcast s).fuse.lifecycle = s.fuse.lifecycle := by
  simp [obsFreezeAt]
@[simp] theorem State.release_store (s : State) :
    (State.release s).ins.pages = s.ins.pages ∧ (State.release s).fuse.lifecycle = s.fuse.lifecycle := by
  simp [State.release]
@[simp] theorem obsRelease_store (ap : Aperture) (s : State) :
    (obsRelease ap s).ins.pages = s.ins.pages ∧ (obsRelease ap s).fuse.lifecycle = s.fuse.lifecycle := by
  simp [obsRelease]
@[simp] theorem freezePacketReceive_store (p : Nat) (s : State) :
    (freezePacketReceive p s).ins.pages = s.ins.pages ∧ (freezePacketReceive p s).fuse.lifecycle = s.fuse.lifecycle := by
  unfold freezePacketReceive; (try dsimp only); (repeat' (first | (simp [*]; done) | (have e_1 := State.takeMsg_store _ _ _ (by assumption); simp [*]; done) | (refine foldl_store _ ?_ _ _ _ ?_ <;> intros <;> (try dsimp only)) | split | (apply And.intro)))
@[simp] theorem freezeTimeReached_store (s : State) :
    (freezeTimeReached s).ins.pages = s.ins.pages ∧ (freezeTimeReached s).fuse.lifecycle = s.fuse.lifecycle := by
  unfold freezeTimeReached; (try dsimp only); (repeat' (first | (simp [*]; done) | (refine foldl_store _ ?_ _ _ _ ?_ <;> intros <;> (try dsimp only)) | split | (apply And.intro)))
@[simp] theorem snapshotDrained_store (s : State) :
    (snapshotDrained s).ins.pages = s.ins.pages ∧ (snapshotDrained s).fuse.lifecycle = s.fuse.lifecycle := by
  simp [snapshotDrained]
@[simp] theorem obsPeek_store (ap : Aperture) (s : State) :
    (obsPeek ap s).ins.pages = s.ins.pages ∧ (obsPeek ap s).fuse.lifecycle = s.fuse.lifecycle := by
  unfold obsPeek; (try dsimp only); (repeat' (first | (simp [*]; done) | (refine foldl_store _ ?_ _ _ _ ?_ <;> intros <;> (try dsimp only)) | (refine store_trans (State.command_store _ _ _ _ ?_ ) ?_ <;> intros <;> (try dsimp only)) | split | (apply And.intro)))
@[simp] theorem peekReturn_store (ap : Aperture) (l : HubLine) (s : State) :
    (peekReturn ap l s).ins.pages = s.ins.pages ∧ (peekReturn ap l s).fuse.lifecycle = s.fuse.lifecycle := by
  unfold peekReturn; (try dsimp only); (repeat' (first | (simp [*]; done) | (refine foldl_store _ ?_ _ _ _ ?_ <;> intros <;> (try dsimp only)) | split | (apply And.intro)))
@[simp] theorem peekTimeout_store (ap : Aperture) (s : State) :
    (peekTimeout ap s).ins.pages = s.ins.pages ∧ (peekTimeout ap s).fuse.lifecycle = s.fuse.lifecycle := by
  simp [peekTimeout]
@[simp] theorem State.setOrder_store (s : State) (k : Nat) (o : Order) :
    (State.setOrder s k o).ins.pages = s.ins.pages ∧ (State.setOrder s k o).fuse.lifecycle = s.fuse.lifecycle := by
  simp [State.setOrder]
@[simp] theorem State.lateOrder_store (s : State) :
    (State.lateOrder s).ins.pages = s.ins.pages ∧ (State.lateOrder s).fuse.lifecycle = s.fuse.lifecycle := by
  simp [State.lateOrder]
@[simp] theorem State.prepareFlow_store (s : State) (p : Nat) :
    (State.prepareFlow s p).ins.pages = s.ins.pages ∧ (State.prepareFlow s p).fuse.lifecycle = s.fuse.lifecycle := by
  simp [State.prepareFlow]
@[simp] theorem State.rotateFlow_store (s : State) (p : Nat) (at_ : Dword) :
    (State.rotateFlow s p at_).ins.pages = s.ins.pages ∧ (State.rotateFlow s p at_).fuse.lifecycle = s.fuse.lifecycle := by
  unfold State.rotateFlow; (try dsimp only); (repeat' (first | (simp [*]; done) | (refine foldl_store _ ?_ _ _ _ ?_ <;> intros <;> (try dsimp only)) | split | (apply And.intro)))
@[simp] theorem rotateFlowPrepare_store (k : Nat) (s : State) :
    (rotateFlowPrepare k s).ins.pages = s.ins.pages ∧ (rotateFlowPrepare k s).fuse.lifecycle = s.fuse.lifecycle := by
  simp [rotateFlowPrepare]
@[simp] theorem State.orderAct_store (s : State) (k : Nat) (o : Order) :
    (State.orderAct s k o).ins.pages = s.ins.pages ∧ (State.orderAct s k o).fuse.lifecycle = s.fuse.lifecycle := by
  unfold State.orderAct; (try dsimp only); (repeat' (first | (simp [*]; done) | (refine foldl_store _ ?_ _ _ _ ?_ <;> intros <;> (try dsimp only)) | split | (apply And.intro)))
@[simp] theorem shiftOrderDue_store (k : Nat) (s : State) :
    (shiftOrderDue k s).ins.pages = s.ins.pages ∧ (shiftOrderDue k s).fuse.lifecycle = s.fuse.lifecycle := by
  simp [shiftOrderDue]
@[simp] theorem State.ordersSettle_store (s : State) :
    (State.ordersSettle s).ins.pages = s.ins.pages ∧ (State.ordersSettle s).fuse.lifecycle = s.fuse.lifecycle := by
  simp [State.ordersSettle]
theorem orderWrite_store (s : State) (k : Nat) (w : Block) {t_ : State} (e_ : orderWrite s k w = some t_) : t_.ins.pages = s.ins.pages ∧ t_.fuse.lifecycle = s.fuse.lifecycle := by
  first | (unfold orderWrite at e_; (try dsimp only at e_); (repeat' (first | contradiction | (simp only [Option.map_eq_some_iff, Option.bind_eq_some_iff, Option.some.injEq, Prod.mk.injEq] at e_; simp_all; done) | (cases e_; simp; done) | split at e_)); done) | (simp only [orderWrite, Option.map_eq_some_iff, Prod.mk.injEq] at e_; obtain ⟨_, _, rfl, rfl⟩ := e_; simp; done) | (simp only [orderWrite, Option.map_eq_some_iff] at e_; obtain ⟨_, _, rfl⟩ := e_; simp; done) | (grind [orderWrite, State.setOrder_store])
@[simp] theorem orderWrite_sgetD (s : State) (k : Nat) (w : Block) (u_ : State) (h_ : u_.ins.pages = s.ins.pages ∧ u_.fuse.lifecycle = s.fuse.lifecycle) :
    ((orderWrite s k w).getD u_).ins.pages = s.ins.pages ∧ ((orderWrite s k w).getD u_).fuse.lifecycle = s.fuse.lifecycle := by
  cases e_ : orderWrite s k w with
  | none => exact h_
  | some t_ => exact orderWrite_store _ _ _ e_
@[simp] theorem State.transferSeam_store (s : State) (n p : Nat) :
    (State.transferSeam s n p).ins.pages = s.ins.pages ∧ (State.transferSeam s n p).fuse.lifecycle = s.fuse.lifecycle := by
  simp [State.transferSeam]
@[simp] theorem State.moveSeams_store (s : State) (k p : Nat) (xfer : Bool) :
    (State.moveSeams s k p xfer).ins.pages = s.ins.pages ∧ (State.moveSeams s k p xfer).fuse.lifecycle = s.fuse.lifecycle := by
  simp [State.moveSeams]
@[simp] theorem State.unbindChan_store (s : State) (c : Nat) :
    (State.unbindChan s c).ins.pages = s.ins.pages ∧ (State.unbindChan s c).fuse.lifecycle = s.fuse.lifecycle := by
  simp [State.unbindChan]
@[simp] theorem State.moveGo_life (s : State) (m : MoveReq) : (State.moveGo s m).fuse.lifecycle = s.fuse.lifecycle := by
  unfold State.moveGo; (try dsimp only); (repeat' (first | (simp [*]; done) | split))
@[simp] theorem State.moveGo_wf (s : State) (m : MoveReq) (h_ : pagesWf s.ins.pages = true) : pagesWf (State.moveGo s m).ins.pages = true := by
  unfold State.moveGo; (try dsimp only); (repeat' (first | assumption | (simp [*]; done) | (apply foldl_wf <;> intros <;> (try dsimp only)) | (apply State.zeroShare_wf) | split))
@[simp] theorem State.repower_life (s : State) (q : Nat) : (State.repower s q).fuse.lifecycle = s.fuse.lifecycle := by
  simp [State.repower]
@[simp] theorem State.repower_wf (s : State) (q : Nat) (h_ : pagesWf s.ins.pages = true) : pagesWf (State.repower s q).ins.pages = true := by
  simp [State.repower, h_]
@[simp] theorem State.moveEnd_life (s : State) (m : MoveReq) : (State.moveEnd s m).fuse.lifecycle = s.fuse.lifecycle := by
  simp [State.moveEnd]
@[simp] theorem State.moveEnd_wf (s : State) (m : MoveReq) (h_ : pagesWf s.ins.pages = true) : pagesWf (State.moveEnd s m).ins.pages = true := by
  simp [State.moveEnd, h_]
theorem State.command_life (s : State) (b : Blk) (a : Nat) (f : State → State) (h_f : ∀ z, (f z).fuse.lifecycle = z.fuse.lifecycle) :
    (s.command b a f).fuse.lifecycle = s.fuse.lifecycle := by
  unfold State.command
  (repeat' split) <;> simp [h_f]
theorem State.command_wf (s : State) (b : Blk) (a : Nat) (f : State → State) (h_f : ∀ z, pagesWf z.ins.pages = true → pagesWf (f z).ins.pages = true)
    (h_ : pagesWf s.ins.pages = true) : pagesWf (s.command b a f).ins.pages = true := by
  unfold State.command
  (repeat' split) <;> simp [h_f, h_]
theorem State.lseCmd_life (s : State) (ap : Aperture) (f : Nat → State → State) (h_f : ∀ a z, (f a z).fuse.lifecycle = z.fuse.lifecycle) :
    (s.lseCmd ap f).fuse.lifecycle = s.fuse.lifecycle := by
  unfold State.lseCmd
  split
  · exact State.command_life _ _ _ _ (h_f 0)
  · exact State.command_life _ _ _ _ (h_f 7)
  · exact State.command_life _ _ _ _ fun z => (State.cmdEnd_store _ _ _ _ _).2
  · rfl
theorem State.lseCmd_wf (s : State) (ap : Aperture) (f : Nat → State → State) (h_f : ∀ a z, pagesWf z.ins.pages = true → pagesWf (f a z).ins.pages = true)
    (h_ : pagesWf s.ins.pages = true) : pagesWf (s.lseCmd ap f).ins.pages = true := by
  unfold State.lseCmd
  split
  · exact State.command_wf _ _ _ _ (h_f 0) h_
  · exact State.command_wf _ _ _ _ (h_f 7) h_
  · exact State.command_wf _ _ _ _ (fun z h => by rw [(State.cmdEnd_store _ _ _ _ _).1]; exact h) h_
  · exact h_
@[simp] theorem lseMove_life (ap : Aperture) (s : State) : (lseMove ap s).fuse.lifecycle = s.fuse.lifecycle := by
  unfold lseMove
  refine State.lseCmd_life _ _ _ ?_
  intro a s
  dsimp only
  (repeat' split) <;> simp
@[simp] theorem lseMove_wf (ap : Aperture) (s : State) (h_ : pagesWf s.ins.pages = true) : pagesWf (lseMove ap s).ins.pages = true := by
  unfold lseMove
  refine State.lseCmd_wf _ _ _ ?_ h_
  intro a s h
  dsimp only
  (repeat' split) <;> simp [h]
@[simp] theorem qpwrOkRise_life (q : Nat) (s : State) : (qpwrOkRise q s).fuse.lifecycle = s.fuse.lifecycle := by
  unfold qpwrOkRise; (try dsimp only); (repeat' (first | (simp [*]; done) | split))
@[simp] theorem qpwrOkRise_wf (q : Nat) (s : State) (h_ : pagesWf s.ins.pages = true) : pagesWf (qpwrOkRise q s).ins.pages = true := by
  unfold qpwrOkRise
  split
  · exact h_
  · extract_lets p0 t
    have e : pagesWf t.ins.pages = true := h_
    clear_value t
    split
    · split
      · exact State.moveEnd_wf _ _ (State.repower_wf _ _ e)
      · exact e
    · exact e
@[simp] theorem State.quadFault_store (s : State) (q : Nat) :
    (State.quadFault s q).ins.pages = s.ins.pages ∧ (State.quadFault s q).fuse.lifecycle = s.fuse.lifecycle := by
  simp [State.quadFault]
@[simp] theorem qpwrOkFall_store (q : Nat) (s : State) :
    (qpwrOkFall q s).ins.pages = s.ins.pages ∧ (qpwrOkFall q s).fuse.lifecycle = s.fuse.lifecycle := by
  simp [qpwrOkFall]
@[simp] theorem State.resetChan_store (s : State) (c : Nat) :
    (State.resetChan s c).ins.pages = s.ins.pages ∧ (State.resetChan s c).fuse.lifecycle = s.fuse.lifecycle := by
  simp [State.resetChan]
@[simp] theorem State.resetUnit_store (s : State) (u : UnitRef) :
    (s.resetUnit u).ins.pages = s.ins.pages ∧ (s.resetUnit u).fuse.lifecycle = s.fuse.lifecycle := by
  cases u <;> simp only [State.resetUnit] <;> (try split) <;> simp
@[simp] theorem State.countEngStep_store (s : State) (u : UnitRef) :
    (State.countEngStep s u).1.ins.pages = s.ins.pages ∧ (State.countEngStep s u).1.fuse.lifecycle = s.fuse.lifecycle := by
  simp [State.countEngStep]
@[simp] theorem State.stepCmdEnd_store (s : State) (byCmd : Option Nat) (unit : Nat) :
    (State.stepCmdEnd s byCmd unit).ins.pages = s.ins.pages ∧ (State.stepCmdEnd s byCmd unit).fuse.lifecycle = s.fuse.lifecycle := by
  unfold State.stepCmdEnd; (try dsimp only); (repeat' (first | (simp [*]; done) | (refine foldl_store _ ?_ _ _ _ ?_ <;> intros <;> (try dsimp only)) | split | (apply And.intro)))
@[simp] theorem State.escalate_store (s : State) (u : UnitRef) (p : Nat) (byCmd : Option Nat) :
    (State.escalate s u p byCmd).ins.pages = s.ins.pages ∧ (State.escalate s u p byCmd).fuse.lifecycle = s.fuse.lifecycle := by
  simp [State.escalate]
@[simp] theorem State.engineStep_store (s : State) (u : UnitRef) (byCmd : Option Nat) :
    (State.engineStep s u byCmd).ins.pages = s.ins.pages ∧ (State.engineStep s u byCmd).fuse.lifecycle = s.fuse.lifecycle := by
  simp [State.engineStep]
@[simp] theorem State.endEngStep_store (s : State) (u : UnitRef) :
    (State.endEngStep s u).ins.pages = s.ins.pages ∧ (State.endEngStep s u).fuse.lifecycle = s.fuse.lifecycle := by
  simp [State.endEngStep]
@[simp] theorem waitCanaryExpire_store (h : WaitHead) (s : State) :
    (waitCanaryExpire h s).ins.pages = s.ins.pages ∧ (waitCanaryExpire h s).fuse.lifecycle = s.fuse.lifecycle := by
  unfold waitCanaryExpire
  cases h with
  | channel c => dsimp only; (repeat' split) <;> simp
  | front q => dsimp only; (repeat' split) <;> simp
  | task t => dsimp only; cases (s.task t).req <;> (repeat' split) <;> simp
@[simp] theorem busyCanaryExpire_store (u : UnitRef) (s : State) :
    (busyCanaryExpire u s).ins.pages = s.ins.pages ∧ (busyCanaryExpire u s).fuse.lifecycle = s.fuse.lifecycle := by
  simp [busyCanaryExpire]
@[simp] theorem State.dropGuilty_store (s : State) (u : UnitRef) (p : Nat) (c : BitVec 16) :
    (State.dropGuilty s u p c).ins.pages = s.ins.pages ∧ (State.dropGuilty s u p c).fuse.lifecycle = s.fuse.lifecycle := by
  unfold State.dropGuilty; (try dsimp only); (repeat' (first | (simp [*]; done) | (refine foldl_store _ ?_ _ _ _ ?_ <;> intros <;> (try dsimp only)) | split | (apply And.intro)))
@[simp] theorem State.replayOver_store (s : State) (u : UnitRef) :
    (State.replayOver s u).ins.pages = s.ins.pages ∧ (State.replayOver s u).fuse.lifecycle = s.fuse.lifecycle := by
  simp [State.replayOver]
@[simp] theorem State.settleReplays_store (s : State) :
    (State.settleReplays s).ins.pages = s.ins.pages ∧ (State.settleReplays s).fuse.lifecycle = s.fuse.lifecycle := by
  unfold State.settleReplays; (try dsimp only); (repeat' (first | (simp [*]; done) | (refine foldl_store _ ?_ _ _ _ ?_ <;> intros <;> (try dsimp only)) | split | (apply And.intro)))
@[simp] theorem replayCanaryExpire_store (u : UnitRef) (s : State) :
    (replayCanaryExpire u s).ins.pages = s.ins.pages ∧ (replayCanaryExpire u s).fuse.lifecycle = s.fuse.lifecycle := by
  unfold replayCanaryExpire; (try dsimp only); (repeat' (first | (simp [*]; done) | (refine foldl_store _ ?_ _ _ _ ?_ <;> intros <;> (try dsimp only)) | split | (apply And.intro)))
@[simp] theorem State.resumeUnit_store (s : State) (u : UnitRef) :
    (State.resumeUnit s u).ins.pages = s.ins.pages ∧ (State.resumeUnit s u).fuse.lifecycle = s.fuse.lifecycle := by
  unfold State.resumeUnit; (try dsimp only); (repeat' (first | (simp [*]; done) | (refine foldl_store _ ?_ _ _ _ ?_ <;> intros <;> (try dsimp only)) | split | (apply And.intro)))
@[simp] theorem engineStepDone_store (u : UnitRef) (s : State) :
    (engineStepDone u s).ins.pages = s.ins.pages ∧ (engineStepDone u s).fuse.lifecycle = s.fuse.lifecycle := by
  unfold engineStepDone; (try dsimp only); (repeat' (first | (simp [*]; done) | (refine foldl_store _ ?_ _ _ _ ?_ <;> intros <;> (try dsimp only)) | split | (apply And.intro)))
@[simp] theorem engineStepOverrun_store (u : UnitRef) (s : State) :
    (engineStepOverrun u s).ins.pages = s.ins.pages ∧ (engineStepOverrun u s).fuse.lifecycle = s.fuse.lifecycle := by
  unfold engineStepOverrun; (try dsimp only); (repeat' (first | (simp [*]; done) | (refine foldl_store _ ?_ _ _ _ ?_ <;> intros <;> (try dsimp only)) | split | (apply And.intro)))
@[simp] theorem State.recoverSites_store (s : State) (p : Nat) :
    (State.recoverSites s p).ins.pages = s.ins.pages ∧ (State.recoverSites s p).fuse.lifecycle = s.fuse.lifecycle := by
  simp [State.recoverSites]
@[simp] theorem partitionStepDone_store (p : Nat) (s : State) :
    (partitionStepDone p s).ins.pages = s.ins.pages ∧ (partitionStepDone p s).fuse.lifecycle = s.fuse.lifecycle := by
  unfold partitionStepDone; (try dsimp only); (repeat' (first | (simp [*]; done) | (refine foldl_store _ ?_ _ _ _ ?_ <;> intros <;> (try dsimp only)) | split | (apply And.intro)))
@[simp] theorem partitionStepOverrun_store (p : Nat) (s : State) :
    (partitionStepOverrun p s).ins.pages = s.ins.pages ∧ (partitionStepOverrun p s).fuse.lifecycle = s.fuse.lifecycle := by
  simp [partitionStepOverrun]
@[simp] theorem chipStepOverrun_store (s : State) :
    (chipStepOverrun s).ins.pages = s.ins.pages ∧ (chipStepOverrun s).fuse.lifecycle = s.fuse.lifecycle := by
  simp [chipStepOverrun]
@[simp] theorem lampWatchdogExpire_store (s : State) :
    (lampWatchdogExpire s).ins.pages = s.ins.pages ∧ (lampWatchdogExpire s).fuse.lifecycle = s.fuse.lifecycle := by
  simp [lampWatchdogExpire]
@[simp] theorem fltKick_store (ap : Aperture) (s : State) :
    (fltKick ap s).ins.pages = s.ins.pages ∧ (fltKick ap s).fuse.lifecycle = s.fuse.lifecycle := by
  unfold fltKick; (try dsimp only); (repeat' (first | (simp [*]; done) | (refine foldl_store _ ?_ _ _ _ ?_ <;> intros <;> (try dsimp only)) | split | (apply And.intro)))
@[simp] theorem State.fltCmd_store (s : State) (ap : Aperture) (f : Nat → State → State) (h_f : ∀ y0 y1, (f y0 y1).ins.pages = y1.ins.pages ∧ (f y0 y1).fuse.lifecycle = y1.fuse.lifecycle) :
    (State.fltCmd s ap f).ins.pages = s.ins.pages ∧ (State.fltCmd s ap f).fuse.lifecycle = s.fuse.lifecycle := by
  unfold State.fltCmd; (try dsimp only); (repeat' (first | (simp [*]; done) | (refine foldl_store _ ?_ _ _ _ ?_ <;> intros <;> (try dsimp only)) | (refine store_trans (State.command_store _ _ _ _ ?_ ) ?_ <;> intros <;> (try dsimp only)) | split | (apply And.intro)))
@[simp] theorem fltEngine_store (ap : Aperture) (u : UnitRef) (s : State) :
    (fltEngine ap u s).ins.pages = s.ins.pages ∧ (fltEngine ap u s).fuse.lifecycle = s.fuse.lifecycle := by
  simp [fltEngine]
@[simp] theorem fltPartition_store (ap : Aperture) (p : Nat) (s : State) :
    (fltPartition ap p s).ins.pages = s.ins.pages ∧ (fltPartition ap p s).fuse.lifecycle = s.fuse.lifecycle := by
  simp [fltPartition]
@[simp] theorem fltChip_store (ap : Aperture) (s : State) :
    (fltChip ap s).ins.pages = s.ins.pages ∧ (fltChip ap s).fuse.lifecycle = s.fuse.lifecycle := by
  simp [fltChip]
@[simp] theorem fltTray_store (ap : Aperture) (s : State) :
    (fltTray ap s).ins.pages = s.ins.pages ∧ (fltTray ap s).fuse.lifecycle = s.fuse.lifecycle := by
  simp [fltTray]
@[simp] theorem chipResetAssert_store (s : State) :
    (chipResetAssert s).ins.pages = s.ins.pages ∧ (chipResetAssert s).fuse.lifecycle = s.fuse.lifecycle := by
  simp [chipResetAssert]
@[simp] theorem rstReadyAssert_store (s : State) :
    (rstReadyAssert s).ins.pages = s.ins.pages ∧ (rstReadyAssert s).fuse.lifecycle = s.fuse.lifecycle := by
  simp [rstReadyAssert]
@[simp] theorem State.warmContexts_store (s : State) :
    (State.warmContexts s).ins.pages = s.ins.pages ∧ (State.warmContexts s).fuse.lifecycle = s.fuse.lifecycle := by
  simp [State.warmContexts]
@[simp] theorem State.warmInsts_store (s : State) :
    (State.warmInsts s).ins.pages = s.ins.pages ∧ (State.warmInsts s).fuse.lifecycle = s.fuse.lifecycle := by
  simp [State.warmInsts]
@[simp] theorem State.warmRequests_store (s : State) :
    (State.warmRequests s).ins.pages = s.ins.pages ∧ (State.warmRequests s).fuse.lifecycle = s.fuse.lifecycle := by
  simp [State.warmRequests]
@[simp] theorem State.warmShafts_store (s : State) :
    (State.warmShafts s).ins.pages = s.ins.pages ∧ (State.warmShafts s).fuse.lifecycle = s.fuse.lifecycle := by
  simp [State.warmShafts]
@[simp] theorem State.warmSites_store (s : State) :
    (State.warmSites s).ins.pages = s.ins.pages ∧ (State.warmSites s).fuse.lifecycle = s.fuse.lifecycle := by
  simp [State.warmSites]
theorem Fuses.interrupted_lifecycle (f : Fuses) : f.interrupted.lifecycle = f.lifecycle := by
  unfold Fuses.interrupted
  simp only [Fuses.blow]
  (repeat' split) <;> rfl
@[simp] theorem State.warmReset_store (s : State) :
    (State.warmReset s).ins.pages = s.ins.pages ∧ (State.warmReset s).fuse.lifecycle = s.fuse.lifecycle := by
  unfold State.warmReset
  extract_lets t1 t2 t3 t4
  have e4 : t4.ins.pages = s.ins.pages ∧ t4.fuse.lifecycle = s.fuse.lifecycle := by
    simp only [t4, t3, t2, t1]
    simp
  clear_value t4
  refine store_trans ?_ e4
  have key : ∀ t : State, (t.release.modObs fun o => { o with peeks := [] }).warmContexts.ins.pages = t.ins.pages ∧
      (t.release.modObs fun o => { o with peeks := [] }).warmContexts.fuse.lifecycle = t.fuse.lifecycle := by
    intro t; simp
  exact store_trans (key _) ⟨rfl, Fuses.interrupted_lifecycle _⟩
@[simp] theorem State.spareRow_store (s : State) (q w : Nat) :
    (State.spareRow s q w).ins.pages = s.ins.pages ∧ (State.spareRow s q w).fuse.lifecycle = s.fuse.lifecycle := by
  simp [State.spareRow]
@[simp] theorem State.softRepair_store (s : State) :
    (State.softRepair s).ins.pages = s.ins.pages ∧ (State.softRepair s).fuse.lifecycle = s.fuse.lifecycle := by
  simp [State.softRepair]
@[simp] theorem State.renewSlice_life (s : State) (q : Nat) : (State.renewSlice s q).fuse.lifecycle = s.fuse.lifecycle := by
  simp [State.renewSlice]
@[simp] theorem State.renewSlice_wf (s : State) (q : Nat) (h_ : pagesWf s.ins.pages = true) : pagesWf (State.renewSlice s q).ins.pages = true := by
  simp [State.renewSlice, h_]
@[simp] theorem State.warmNor_store (s : State) (nor : Option (List Byte)) (sigOk : Bool) :
    (State.warmNor s nor sigOk).1.ins.pages = s.ins.pages ∧ (State.warmNor s nor sigOk).1.fuse.lifecycle = s.fuse.lifecycle := by
  unfold State.warmNor
  cases nor with
  | none => exact ⟨rfl, rfl⟩
  | some b =>
    simp only []
    split
    · (repeat' split) <;> exact ⟨rfl, rfl⟩
    · split <;> exact ⟨rfl, rfl⟩
@[simp] theorem State.warmStep8_store (s : State) (i : WarmInputs) :
    (State.warmStep8 s i).1.ins.pages = s.ins.pages ∧ (State.warmStep8 s i).1.fuse.lifecycle = s.fuse.lifecycle := by
  unfold State.warmStep8; (try dsimp only); (repeat' (first | (simp [*]; done) | (refine foldl_store _ ?_ _ _ _ ?_ <;> intros <;> (try dsimp only)) | split | (apply And.intro)))
@[simp] theorem State.warmFinish_life (s : State) (step11Ok : Bool) : (State.warmFinish s step11Ok).fuse.lifecycle = s.fuse.lifecycle := by
  unfold State.warmFinish; (try dsimp only); (repeat' (first | (simp [*]; done) | split))
@[simp] theorem State.warmFinish_wf (s : State) (step11Ok : Bool) (h_ : pagesWf s.ins.pages = true) : pagesWf (State.warmFinish s step11Ok).ins.pages = true := by
  unfold State.warmFinish; (try dsimp only); (repeat' (first | assumption | (simp [*]; done) | (apply foldl_wf <;> intros <;> (try dsimp only)) | (apply State.startAdvance_wf) | split))
@[simp] theorem State.warmTests_life (s : State) (i : WarmInputs) : (State.warmTests s i).fuse.lifecycle = s.fuse.lifecycle := by
  unfold State.warmTests; (try dsimp only); (repeat' (first | (simp [*]; done) | split))
@[simp] theorem State.warmTests_wf (s : State) (i : WarmInputs) (h_ : pagesWf s.ins.pages = true) : pagesWf (State.warmTests s i).ins.pages = true := by
  unfold State.warmTests
  extract_lets t1 t2 g t3 t4 t5
  have e1 : pagesWf t1.ins.pages = true := by simp only [t1]; rw [(State.softRepair_store _).1, (State.enterStep_store _ _).1]; exact h_
  clear_value t1
  have e2 : pagesWf t2.ins.pages = true := foldl_wf State.renewSlice (fun s x h => State.renewSlice_wf s x h) _ _ e1
  clear_value t2
  have e3 : pagesWf t3.ins.pages = true := by simp only [t3]; rw [(State.enterStep_store _ _).1]; exact e2
  clear_value t3
  have e4 : pagesWf t4.ins.pages = true := by
    simp only [t4]
    refine foldl_wf State.failQuad ?_ _ _ e3
    intro s q h
    rw [(State.failQuad_store _ _).1]; exact h
  clear_value t4
  have e5 : pagesWf t5.ins.pages = true := by simp only [t5]; rw [(State.enterStep_store _ _).1]; exact e4
  clear_value t5
  split
  · rw [(State.stopIn_store _ _).1]; exact e4
  · split
    · simpa using e5
    · rename_i v w _ _
      have ew : pagesWf w.ins.pages = true := by
        simp only [w]
        split
        · rw [(State.used_store _).1, (State.enterStep_store _ _).1]; exact e5
        · rw [(State.alarm_store _ _ _).1, (State.modVlt_store _ _).1, (State.enterStep_store _ _).1]; exact e5
      clear_value w
      have ex : pagesWf ((w.enterStep 7).warmStep8 i).1.ins.pages = true := by
        rw [(State.warmStep8_store _ _).1, (State.enterStep_store _ _).1]; exact ew
      generalize (w.enterStep 7).warmStep8 i = x at *
      obtain ⟨u, r⟩ := x
      cases r with
      | some r => dsimp only at *; rw [(State.enterHeld_store _ _ _).1]; exact ex
      | none => exact State.warmFinish_wf _ _ ex
@[simp] theorem chipResetRelease_life (i : WarmInputs) (s : State) : (chipResetRelease i s).fuse.lifecycle = s.fuse.lifecycle := by
  simp [chipResetRelease]
@[simp] theorem chipResetRelease_wf (i : WarmInputs) (s : State) (h_ : pagesWf s.ins.pages = true) : pagesWf (chipResetRelease i s).ins.pages = true := by
  unfold chipResetRelease; (try dsimp only); (repeat' (first | assumption | (simp [*]; done) | (apply foldl_wf <;> intros <;> (try dsimp only)) | (apply State.warmTests_wf) | split))
@[simp] theorem State.reloadWarm_life (s : State) (nor : Option (List Byte)) (sigOk : Bool) :
    (State.reloadWarm s nor sigOk).1.fuse.lifecycle = s.fuse.lifecycle := by
  unfold State.reloadWarm; (try dsimp only); (repeat' (first | (simp [*]; done) | split))
@[simp] theorem State.reloadWarm_wf (s : State) (nor : Option (List Byte)) (sigOk : Bool) (h_ : pagesWf s.ins.pages = true) : pagesWf (State.reloadWarm s nor sigOk).1.ins.pages = true := by
  unfold State.reloadWarm; (try dsimp only); (repeat' (first | assumption | (simp [*]; done) | (apply foldl_wf <;> intros <;> (try dsimp only)) | (apply State.warmFinish_wf) | split))
@[simp] theorem lseReload_life (ap : Aperture) (nor : Option (List Byte)) (sigOk : Bool) (_signer : BitVec 384) (s : State) :
    (lseReload ap nor sigOk _signer s).fuse.lifecycle = s.fuse.lifecycle := by
  unfold lseReload
  refine State.lseCmd_life _ _ _ ?_
  intro a s
  split
  · simp
  · dsimp only
    split
    · have e := State.reloadWarm_life s nor sigOk
      generalize s.reloadWarm nor sigOk = x at *
      simp [e]
    · have e := State.readStart_life s nor sigOk
      generalize s.readStart nor sigOk = x at *
      simp [e]
@[simp] theorem lseReload_wf (ap : Aperture) (nor : Option (List Byte)) (sigOk : Bool) (_signer : BitVec 384) (s : State) (h_ : pagesWf s.ins.pages = true) : pagesWf (lseReload ap nor sigOk _signer s).ins.pages = true := by
  unfold lseReload
  refine State.lseCmd_wf _ _ _ ?_ h_
  intro a s h
  split
  · rw [(State.cmdEnd_store _ _ _ _ _).1]; exact h
  · dsimp only
    rw [(State.cmdEnd_store _ _ _ _ _).1]
    split
    · exact State.reloadWarm_wf s nor sigOk h
    · exact State.readStart_wf s nor sigOk h
@[simp] theorem clockMonitorFault_store (long : Bool) (s : State) :
    (clockMonitorFault long s).ins.pages = s.ins.pages ∧ (clockMonitorFault long s).fuse.lifecycle = s.fuse.lifecycle := by
  simp [clockMonitorFault]
@[simp] theorem clockRestored_store (s : State) :
    (clockRestored s).ins.pages = s.ins.pages ∧ (clockRestored s).fuse.lifecycle = s.fuse.lifecycle := by
  simp [clockRestored]
@[simp] theorem State.dropEngSteps_store (s : State) (p : Nat) :
    (State.dropEngSteps s p).ins.pages = s.ins.pages ∧ (State.dropEngSteps s p).fuse.lifecycle = s.fuse.lifecycle := by
  simp [State.dropEngSteps]
@[simp] theorem State.resetPart_store (s : State) (p : Nat) :
    (State.resetPart s p).ins.pages = s.ins.pages ∧ (State.resetPart s p).fuse.lifecycle = s.fuse.lifecycle := by
  simp [State.resetPart]
@[simp] theorem State.settleParts_store (s : State) :
    (State.settleParts s).ins.pages = s.ins.pages ∧ (State.settleParts s).fuse.lifecycle = s.fuse.lifecycle := by
  simp [State.settleParts]
@[simp] theorem State.settleBar2_store (s : State) :
    (State.settleBar2 s).ins.pages = s.ins.pages ∧ (State.settleBar2 s).fuse.lifecycle = s.fuse.lifecycle := by
  unfold State.settleBar2; (try dsimp only); (repeat' (first | (simp [*]; done) | (refine foldl_store _ ?_ _ _ _ ?_ <;> intros <;> (try dsimp only)) | split | (apply And.intro)))
@[simp] theorem State.settleTags_store (s : State) :
    (State.settleTags s).ins.pages = s.ins.pages ∧ (State.settleTags s).fuse.lifecycle = s.fuse.lifecycle := by
  simp [State.settleTags]
@[simp] theorem State.settleHost_store (s : State) :
    (State.settleHost s).ins.pages = s.ins.pages ∧ (State.settleHost s).fuse.lifecycle = s.fuse.lifecycle := by
  simp [State.settleHost]
@[simp] theorem State.settleLines_life (s : State) : (State.settleLines s).fuse.lifecycle = s.fuse.lifecycle := by
  unfold State.settleLines
  refine foldl_lifecycle _ ?_ _ _
  intro s x
  refine foldl_lifecycle _ ?_ _ _
  intro s t
  split <;> simp
@[simp] theorem State.settleLines_wf (s : State) (h_ : pagesWf s.ins.pages = true) : pagesWf (State.settleLines s).ins.pages = true := by
  unfold State.settleLines; (try dsimp only); (repeat' (first | assumption | (simp [*]; done) | (apply foldl_wf <;> intros <;> (try dsimp only)) | (apply State.offerLine_wf) | split))
@[simp] theorem State.settleFlits_store (s : State) :
    (State.settleFlits s).ins.pages = s.ins.pages ∧ (State.settleFlits s).fuse.lifecycle = s.fuse.lifecycle := by
  simp [State.settleFlits]
@[simp] theorem State.settleFreed_life (s : State) : (State.settleFreed s).fuse.lifecycle = s.fuse.lifecycle := by
  simp [State.settleFreed]
@[simp] theorem State.settleFreed_wf (s : State) (h_ : pagesWf s.ins.pages = true) : pagesWf (State.settleFreed s).ins.pages = true := by
  unfold State.settleFreed; (try dsimp only); (repeat' (first | assumption | (simp [*]; done) | (apply foldl_wf <;> intros <;> (try dsimp only)) | (apply State.passEntry_wf) | split))
@[simp] theorem State.settle_life (s : State) : (State.settle s).fuse.lifecycle = s.fuse.lifecycle := by
  simp [State.settle]
@[simp] theorem State.settle_wf (s : State) (h_ : pagesWf s.ins.pages = true) : pagesWf (State.settle s).ins.pages = true := by
  unfold State.settle
  split
  · exact h_
  · extract_lets t0 t
    have e0 : pagesWf t0.ins.pages = true := by simp only [t0]; simpa using h_
    have e : pagesWf t.ins.pages = true := by simp only [t]; split <;> simpa using e0
    clear_value t
    rw [(State.settleFlits_store _).1]
    refine State.settleFreed_wf _ ?_
    rw [(State.cartsAdvance_store _).1]
    refine State.settleLines_wf _ (State.startAdvance_wf _ ?_)
    simpa using e
@[simp] theorem State.modMbx_store (s : State) (a : Nat) (f : Mbx → Mbx) :
    (State.modMbx s a f).ins.pages = s.ins.pages ∧ (State.modMbx s a f).fuse.lifecycle = s.fuse.lifecycle := by
  simp [State.modMbx]
@[simp] theorem State.mbxSelect_store (s : State) (ap : Aperture) (sel : Word) :
    (State.mbxSelect s ap sel).ins.pages = s.ins.pages ∧ (State.mbxSelect s ap sel).fuse.lifecycle = s.fuse.lifecycle := by
  simp [State.mbxSelect]
@[simp] theorem mbxSelRead_store (ap : Aperture) (cls : BitVec 7) (idx : BitVec 24) (s : State) :
    (mbxSelRead ap cls idx s).ins.pages = s.ins.pages ∧ (mbxSelRead ap cls idx s).fuse.lifecycle = s.fuse.lifecycle := by
  simp [mbxSelRead]
@[simp] theorem mbxSelWrite_store (ap : Aperture) (cls : BitVec 7) (idx : BitVec 24) (s : State) :
    (mbxSelWrite ap cls idx s).ins.pages = s.ins.pages ∧ (mbxSelWrite ap cls idx s).fuse.lifecycle = s.fuse.lifecycle := by
  simp [mbxSelWrite]
@[simp] theorem State.captureRead_store (s : State) (ap : Aperture) (ecc : Ecc) :
    (State.captureRead s ap ecc).ins.pages = s.ins.pages ∧ (State.captureRead s ap ecc).fuse.lifecycle = s.fuse.lifecycle := by
  simp [State.captureRead]
@[simp] theorem mbxCaptureDone_store (ap : Aperture) (ecc : Ecc) (s : State) :
    (mbxCaptureDone ap ecc s).ins.pages = s.ins.pages ∧ (mbxCaptureDone ap ecc s).fuse.lifecycle = s.fuse.lifecycle := by
  simp [mbxCaptureDone]
theorem State.writeObject_store (s : State) (ap : Aperture) (c i : Nat) (v : BitVec 256) {t_ : State} (e_ : State.writeObject s ap c i v = some t_) : t_.ins.pages = s.ins.pages ∧ t_.fuse.lifecycle = s.fuse.lifecycle := by
  first | (unfold State.writeObject at e_; (try dsimp only at e_); (repeat' (first | contradiction | (simp only [Option.map_eq_some_iff, Option.bind_eq_some_iff, Option.some.injEq, Prod.mk.injEq] at e_; simp_all; done) | (cases e_; simp; done) | (have e_1 := tallyWrite_store _ _ _ _ (by assumption); simp [*]; done) | (have e_1 := seamEntryWrite_store _ _ _ (by assumption); simp [*]; done) | (have e_1 := orderWrite_store _ _ _ (by assumption); simp [*]; done) | split at e_)); done) | (simp only [State.writeObject, Option.map_eq_some_iff, Prod.mk.injEq] at e_; obtain ⟨_, _, rfl, rfl⟩ := e_; simp; done) | (simp only [State.writeObject, Option.map_eq_some_iff] at e_; obtain ⟨_, _, rfl⟩ := e_; simp; done) | (grind [State.writeObject, tallyWrite_store, seamEntryWrite_store, orderWrite_store])
@[simp] theorem State.writeObject_sgetD (s : State) (ap : Aperture) (c i : Nat) (v : BitVec 256) (u_ : State) (h_ : u_.ins.pages = s.ins.pages ∧ u_.fuse.lifecycle = s.fuse.lifecycle) :
    ((State.writeObject s ap c i v).getD u_).ins.pages = s.ins.pages ∧ ((State.writeObject s ap c i v).getD u_).fuse.lifecycle = s.fuse.lifecycle := by
  cases e_ : State.writeObject s ap c i v with
  | none => exact h_
  | some t_ => exact State.writeObject_store _ _ _ _ _ e_
@[simp] theorem mbxDataWrite_store (ap : Aperture) (k : Nat) (v : Word) (s : State) :
    (mbxDataWrite ap k v s).ins.pages = s.ins.pages ∧ (mbxDataWrite ap k v s).fuse.lifecycle = s.fuse.lifecycle := by
  unfold mbxDataWrite; (try dsimp only); (repeat' (first | (simp [*]; done) | (have e_1 := State.writeObject_store _ _ _ _ _ (by assumption); simp [*]; done) | (refine foldl_store _ ?_ _ _ _ ?_ <;> intros <;> (try dsimp only)) | split | (apply And.intro)))
@[simp] theorem State.accessError_store (s : State) (a : Access) (kind : Nat) (write : Bool) :
    (State.accessError s a kind write).ins.pages = s.ins.pages ∧ (State.accessError s a kind write).fuse.lifecycle = s.fuse.lifecycle := by
  simp [State.accessError]
@[simp] theorem State.deny_store (s : State) : (State.deny s).ins.pages = s.ins.pages ∧ (State.deny s).fuse.lifecycle = s.fuse.lifecycle := by
  simp [State.deny]
@[simp] theorem State.logRefused_store (s : State) (ap : Aperture) :
    (State.logRefused s ap).ins.pages = s.ins.pages ∧ (State.logRefused s ap).fuse.lifecycle = s.fuse.lifecycle := by
  simp [State.logRefused]
@[simp] theorem State.readRefused_store (s : State) (ap : Aperture) :
    (State.readRefused s ap).ins.pages = s.ins.pages ∧ (State.readRefused s ap).fuse.lifecycle = s.fuse.lifecycle := by
  simp [State.readRefused]
@[simp] theorem State.atReg_store (s : State) (ap : Aperture) (pl : Place) (o : Nat) (f : State → State) (h_f : ∀ y0, (f y0).ins.pages = y0.ins.pages ∧ (f y0).fuse.lifecycle = y0.fuse.lifecycle) :
    (State.atReg s ap pl o f).ins.pages = s.ins.pages ∧ (State.atReg s ap pl o f).fuse.lifecycle = s.fuse.lifecycle := by
  simp [State.atReg, h_f]
theorem State.atReg_wf (s : State) (ap : Aperture) (pl : Place) (o : Nat) (f : State → State) (h_f : ∀ z, pagesWf z.ins.pages = true → pagesWf (f z).ins.pages = true) (h_ : pagesWf s.ins.pages = true) : pagesWf (State.atReg s ap pl o f).ins.pages = true := by
  unfold State.atReg; (try dsimp only); (repeat' (first | assumption | (simp [*]; done) | (apply h_f) | (intro z_ hz_) | split))
@[simp] theorem State.atReg_life (s : State) (ap : Aperture) (pl : Place) (o : Nat) (f : State → State) (h_f : ∀ y0, (f y0).fuse.lifecycle = y0.fuse.lifecycle) :
    (State.atReg s ap pl o f).fuse.lifecycle = s.fuse.lifecycle := by
  simp [State.atReg, h_f]
@[simp] theorem State.gateWrite_store (s : State) (ap : Aperture) (off : Nat) (f : State → State) (h_f : ∀ y0, (f y0).ins.pages = y0.ins.pages ∧ (f y0).fuse.lifecycle = y0.fuse.lifecycle) :
    (State.gateWrite s ap off f).ins.pages = s.ins.pages ∧ (State.gateWrite s ap off f).fuse.lifecycle = s.fuse.lifecycle := by
  simp [State.gateWrite, h_f]
theorem State.gateWrite_wf (s : State) (ap : Aperture) (off : Nat) (f : State → State) (h_f : ∀ z, pagesWf z.ins.pages = true → pagesWf (f z).ins.pages = true) (h_ : pagesWf s.ins.pages = true) : pagesWf (State.gateWrite s ap off f).ins.pages = true := by
  unfold State.gateWrite; (try dsimp only); (repeat' (first | assumption | (simp [*]; done) | (apply h_f) | (apply State.atReg_wf) | (intro z_ hz_) | split))
@[simp] theorem State.gateWrite_life (s : State) (ap : Aperture) (off : Nat) (f : State → State) (h_f : ∀ y0, (f y0).fuse.lifecycle = y0.fuse.lifecycle) :
    (State.gateWrite s ap off f).fuse.lifecycle = s.fuse.lifecycle := by
  simp [State.gateWrite, h_f]
@[simp] theorem State.yfClear_store (s : State) (o : Nat) :
    (State.yfClear s o).ins.pages = s.ins.pages ∧ (State.yfClear s o).fuse.lifecycle = s.fuse.lifecycle := by
  simp [State.yfClear]
@[simp] theorem State.movClear_store (s : State) (v o : Nat) :
    (State.movClear s v o).ins.pages = s.ins.pages ∧ (State.movClear s v o).fuse.lifecycle = s.fuse.lifecycle := by
  unfold State.movClear; (try dsimp only); (repeat' (first | (simp [*]; done) | (refine foldl_store _ ?_ _ _ _ ?_ <;> intros <;> (try dsimp only)) | split | (apply And.intro)))
@[simp] theorem State.lossTaken_store (s : State) (v : Nat) :
    (State.lossTaken s v).ins.pages = s.ins.pages ∧ (State.lossTaken s v).fuse.lifecycle = s.fuse.lifecycle := by
  simp [State.lossTaken]
@[simp] theorem State.readClear_store (s : State) (v : Nat) (pl : Place) (o : Nat) :
    (State.readClear s v pl o).ins.pages = s.ins.pages ∧ (State.readClear s v pl o).fuse.lifecycle = s.fuse.lifecycle := by
  unfold State.readClear; (try dsimp only); (repeat' (first | (simp [*]; done) | (refine foldl_store _ ?_ _ _ _ ?_ <;> intros <;> (try dsimp only)) | split | (apply And.intro)))
@[simp] theorem State.answerRead_store (s : State) (ap : Aperture) (off : Nat) (w : Word) (owner : Nat) :
    (State.answerRead s ap off w owner).ins.pages = s.ins.pages ∧ (State.answerRead s ap off w owner).fuse.lifecycle = s.fuse.lifecycle := by
  unfold State.answerRead; (try dsimp only); (repeat' (first | (simp [*]; done) | (refine foldl_store _ ?_ _ _ _ ?_ <;> intros <;> (try dsimp only)) | split | (apply And.intro)))
@[simp] theorem State.readAt_store (s : State) (ap : Aperture) (off : Nat) :
    (State.readAt s ap off).ins.pages = s.ins.pages ∧ (State.readAt s ap off).fuse.lifecycle = s.fuse.lifecycle := by
  simp [State.readAt]
@[simp] theorem rcRead_store (ap : Aperture) (off : Nat) (s : State) :
    (rcRead ap off s).ins.pages = s.ins.pages ∧ (rcRead ap off s).fuse.lifecycle = s.fuse.lifecycle := by
  simp [rcRead]
@[simp] theorem registerRead_store (a : Access) (s : State) :
    (registerRead a s).ins.pages = s.ins.pages ∧ (registerRead a s).fuse.lifecycle = s.fuse.lifecycle := by
  unfold registerRead; (try dsimp only); (repeat' (first | (simp [*]; done) | (refine foldl_store _ ?_ _ _ _ ?_ <;> intros <;> (try dsimp only)) | split | (apply And.intro)))
@[simp] theorem State.setEnable_store (s : State) (a : Nat) (pl : Place) (v : Word) :
    (State.setEnable s a pl v).ins.pages = s.ins.pages ∧ (State.setEnable s a pl v).fuse.lifecycle = s.fuse.lifecycle := by
  unfold State.setEnable; (try dsimp only); (repeat' (first | (simp [*]; done) | (refine foldl_store _ ?_ _ _ _ ?_ <;> intros <;> (try dsimp only)) | split | (apply And.intro)))
@[simp] theorem State.writeEnable_store (s : State) (a : Nat) (pl : Place) (v : Word) :
    (State.writeEnable s a pl v).ins.pages = s.ins.pages ∧ (State.writeEnable s a pl v).fuse.lifecycle = s.fuse.lifecycle := by
  simp [State.writeEnable]
@[simp] theorem State.strobe_store (s : State) : (State.strobe s).ins.pages = s.ins.pages ∧ (State.strobe s).fuse.lifecycle = s.fuse.lifecycle := by
  simp [State.strobe]
@[simp] theorem State.clearIrq_store (s : State) (a : Nat) (pl : Place) (v : Word) :
    (State.clearIrq s a pl v).ins.pages = s.ins.pages ∧ (State.clearIrq s a pl v).fuse.lifecycle = s.fuse.lifecycle := by
  unfold State.clearIrq; (try dsimp only); (repeat' (first | (simp [*]; done) | (refine foldl_store _ ?_ _ _ _ ?_ <;> intros <;> (try dsimp only)) | split | (apply And.intro)))
@[simp] theorem State.clearDone_store (s : State) (a : Nat) (pl : Place) :
    (State.clearDone s a pl).ins.pages = s.ins.pages ∧ (State.clearDone s a pl).fuse.lifecycle = s.fuse.lifecycle := by
  unfold State.clearDone; (try dsimp only); (repeat' (first | (simp [*]; done) | (refine foldl_store _ ?_ _ _ _ ?_ <;> intros <;> (try dsimp only)) | split | (apply And.intro)))
@[simp] theorem State.writeFunc_store (s : State) (p f : Nat) (v : Word) :
    (State.writeFunc s p f v).ins.pages = s.ins.pages ∧ (State.writeFunc s p f v).fuse.lifecycle = s.fuse.lifecycle := by
  simp [State.writeFunc]
@[simp] theorem State.writeGlb_store (s : State) (a o : Nat) (v : Word) :
    (State.writeGlb s a o v).ins.pages = s.ins.pages ∧ (State.writeGlb s a o v).fuse.lifecycle = s.fuse.lifecycle := by
  simp [State.writeGlb]
@[simp] theorem State.writeField_store (s : State) (ap : Aperture) (pl : Place) (o : Nat) (v : Word) :
    (State.writeField s ap pl o v).ins.pages = s.ins.pages ∧ (State.writeField s ap pl o v).fuse.lifecycle = s.fuse.lifecycle := by
  unfold State.writeField; (try dsimp only); (repeat' (first | (simp [*]; done) | (refine foldl_store _ ?_ _ _ _ ?_ <;> intros <;> (try dsimp only)) | split | (apply And.intro)))
@[simp] theorem State.writeSeamCmd_store (s : State) (ap : Aperture) (v : Word) :
    (State.writeSeamCmd s ap v).ins.pages = s.ins.pages ∧ (State.writeSeamCmd s ap v).fuse.lifecycle = s.fuse.lifecycle := by
  unfold State.writeSeamCmd; (try dsimp only); (repeat' (first | (simp [*]; done) | (refine foldl_store _ ?_ _ _ _ ?_ <;> intros <;> (try dsimp only)) | split | (apply And.intro)))
@[simp] theorem State.writeTalCmd_store (s : State) (ap : Aperture) (v : Word) :
    (State.writeTalCmd s ap v).ins.pages = s.ins.pages ∧ (State.writeTalCmd s ap v).fuse.lifecycle = s.fuse.lifecycle := by
  unfold State.writeTalCmd; (try dsimp only); (repeat' (first | (simp [*]; done) | (refine foldl_store _ ?_ _ _ _ ?_ <;> intros <;> (try dsimp only)) | split | (apply And.intro)))
@[simp] theorem State.writeFaceCmd_store (s : State) (ap : Aperture) (v : Word) :
    (State.writeFaceCmd s ap v).ins.pages = s.ins.pages ∧ (State.writeFaceCmd s ap v).fuse.lifecycle = s.fuse.lifecycle := by
  unfold State.writeFaceCmd; (try dsimp only); (repeat' (first | (simp [*]; done) | (refine foldl_store _ ?_ _ _ _ ?_ <;> intros <;> (try dsimp only)) | split | (apply And.intro)))
@[simp] theorem State.writeWndCmd_store (s : State) (ap : Aperture) (v : Word) :
    (State.writeWndCmd s ap v).ins.pages = s.ins.pages ∧ (State.writeWndCmd s ap v).fuse.lifecycle = s.fuse.lifecycle := by
  unfold State.writeWndCmd; (try dsimp only); (repeat' (first | (simp [*]; done) | (refine foldl_store _ ?_ _ _ _ ?_ <;> intros <;> (try dsimp only)) | split | (apply And.intro)))
@[simp] theorem State.writeMovCmd_store (s : State) (ap : Aperture) (v : Word) :
    (State.writeMovCmd s ap v).ins.pages = s.ins.pages ∧ (State.writeMovCmd s ap v).fuse.lifecycle = s.fuse.lifecycle := by
  unfold State.writeMovCmd; (try dsimp only); (repeat' (first | (simp [*]; done) | (refine foldl_store _ ?_ _ _ _ ?_ <;> intros <;> (try dsimp only)) | split | (apply And.intro)))
@[simp] theorem State.writeCtxCmd_store (s : State) (ap : Aperture) (v : Word) :
    (State.writeCtxCmd s ap v).ins.pages = s.ins.pages ∧ (State.writeCtxCmd s ap v).fuse.lifecycle = s.fuse.lifecycle := by
  unfold State.writeCtxCmd; (try dsimp only); (repeat' (first | (simp [*]; done) | (refine foldl_store _ ?_ _ _ _ ?_ <;> intros <;> (try dsimp only)) | split | (apply And.intro)))
@[simp] theorem State.writeHstCmd_store (s : State) (ap : Aperture) (v : Word) :
    (State.writeHstCmd s ap v).ins.pages = s.ins.pages ∧ (State.writeHstCmd s ap v).fuse.lifecycle = s.fuse.lifecycle := by
  unfold State.writeHstCmd; (try dsimp only); (repeat' (first | (simp [*]; done) | (refine foldl_store _ ?_ _ _ _ ?_ <;> intros <;> (try dsimp only)) | (refine store_trans (State.hstCmd_store _ _ _ ?_ ) ?_ <;> intros <;> (try dsimp only)) | split | (apply And.intro)))
@[simp] theorem State.writeFltCmd_store (s : State) (ap : Aperture) (v : Word) :
    (State.writeFltCmd s ap v).ins.pages = s.ins.pages ∧ (State.writeFltCmd s ap v).fuse.lifecycle = s.fuse.lifecycle := by
  unfold State.writeFltCmd; (try dsimp only); (repeat' (first | (simp [*]; done) | (refine foldl_store _ ?_ _ _ _ ?_ <;> intros <;> (try dsimp only)) | split | (apply And.intro)))
@[simp] theorem State.writeObsCmd_store (s : State) (ap : Aperture) (v : Word) :
    (State.writeObsCmd s ap v).ins.pages = s.ins.pages ∧ (State.writeObsCmd s ap v).fuse.lifecycle = s.fuse.lifecycle := by
  unfold State.writeObsCmd; (try dsimp only); (repeat' (first | (simp [*]; done) | (refine foldl_store _ ?_ _ _ _ ?_ <;> intros <;> (try dsimp only)) | split | (apply And.intro)))
@[simp] theorem updStrobeGo_store (ap : Aperture) (s : State) :
    (updStrobeGo ap s).ins.pages = s.ins.pages ∧ (updStrobeGo ap s).fuse.lifecycle = s.fuse.lifecycle := by
  simp [updStrobeGo]
@[simp] theorem strobeOutPulseEnd_store (s : State) :
    (strobeOutPulseEnd s).ins.pages = s.ins.pages ∧ (strobeOutPulseEnd s).fuse.lifecycle = s.fuse.lifecycle := by
  simp [strobeOutPulseEnd]
@[simp] theorem strobeInEdge_store (s : State) : (strobeInEdge s).ins.pages = s.ins.pages ∧ (strobeInEdge s).fuse.lifecycle = s.fuse.lifecycle := by
  simp [strobeInEdge]
theorem State.writeCommand_life (s : State) (ap : Aperture) (pl : Place) (o : Nat) (v : Word) {t_ : State} (e_ : State.writeCommand s ap pl o v = some t_) : t_.fuse.lifecycle = s.fuse.lifecycle := by
  unfold State.writeCommand at e_
  split at e_
  all_goals first | contradiction | skip
  all_goals first | (simp only [Option.map_eq_some_iff] at e_; obtain ⟨_, _, rfl⟩ := e_; simp; done) | (simp only [Option.some.injEq] at e_; subst e_)
  all_goals (repeat' (first | (simp; done) | split))
theorem State.writeCommand_wf (s : State) (ap : Aperture) (pl : Place) (o : Nat) (v : Word) (h_ : pagesWf s.ins.pages = true) {t_ : State} (e_ : State.writeCommand s ap pl o v = some t_) : pagesWf t_.ins.pages = true := by
  unfold State.writeCommand at e_
  split at e_
  all_goals first | contradiction | skip
  all_goals first | (simp only [Option.map_eq_some_iff] at e_; obtain ⟨_, _, rfl⟩ := e_; simp [h_]; done) | (simp only [Option.some.injEq] at e_; subst e_)
  all_goals (repeat' (first | (simp [h_]; done) | split))
@[simp] theorem State.dwFailed_store (s : State) :
    (State.dwFailed s).ins.pages = s.ins.pages ∧ (State.dwFailed s).fuse.lifecycle = s.fuse.lifecycle := by
  simp [State.dwFailed]
@[simp] theorem State.dropDw_store (s : State) (a : Nat) :
    (State.dropDw s a).ins.pages = s.ins.pages ∧ (State.dropDw s a).fuse.lifecycle = s.fuse.lifecycle := by
  simp [State.dropDw]
@[simp] theorem State.setCanary_store (s : State) (v : Word) :
    (State.setCanary s v).ins.pages = s.ins.pages ∧ (State.setCanary s v).fuse.lifecycle = s.fuse.lifecycle := by
  simp [State.setCanary]
@[simp] theorem State.setMode_store (s : State) (v : Word) :
    (State.setMode s v).ins.pages = s.ins.pages ∧ (State.setMode s v).fuse.lifecycle = s.fuse.lifecycle := by
  simp [State.setMode]
@[simp] theorem State.dwApply_store (s : State) (ap : Aperture) (pl : Place) (v : Word) :
    (State.dwApply s ap pl v).ins.pages = s.ins.pages ∧ (State.dwApply s ap pl v).fuse.lifecycle = s.fuse.lifecycle := by
  unfold State.dwApply; (try dsimp only); (repeat' (first | (simp [*]; done) | (refine foldl_store _ ?_ _ _ _ ?_ <;> intros <;> (try dsimp only)) | (refine store_trans (State.lcsCmd_store _ _ _ ?_ ) ?_ <;> intros <;> (try dsimp only)) | split | (apply And.intro)))
@[simp] theorem State.dwFirst_store (s : State) (ap : Aperture) (off : Nat) (v : Word) :
    (State.dwFirst s ap off v).ins.pages = s.ins.pages ∧ (State.dwFirst s ap off v).fuse.lifecycle = s.fuse.lifecycle := by
  simp [State.dwFirst]
@[simp] theorem State.dwComplement_store (s : State) (ap : Aperture) (off : Nat) (v : Word) :
    (State.dwComplement s ap off v).ins.pages = s.ins.pages ∧ (State.dwComplement s ap off v).fuse.lifecycle = s.fuse.lifecycle := by
  simp [State.dwComplement]
@[simp] theorem dwFirstWrite_store (ap : Aperture) (off : Nat) (v : Word) (s : State) :
    (dwFirstWrite ap off v s).ins.pages = s.ins.pages ∧ (dwFirstWrite ap off v s).fuse.lifecycle = s.fuse.lifecycle := by
  simp [dwFirstWrite]
@[simp] theorem dwComplementWrite_store (ap : Aperture) (off : Nat) (v : Word) (s : State) :
    (dwComplementWrite ap off v s).ins.pages = s.ins.pages ∧ (dwComplementWrite ap off v s).fuse.lifecycle = s.fuse.lifecycle := by
  simp [dwComplementWrite]
@[simp] theorem dwWindowExpire_store (ap : Aperture) (s : State) :
    (dwWindowExpire ap s).ins.pages = s.ins.pages ∧ (dwWindowExpire ap s).fuse.lifecycle = s.fuse.lifecycle := by
  simp [dwWindowExpire]
@[simp] theorem State.aliasBit_store (s : State) (A b : Nat) (x : Bool) :
    (State.aliasBit s A b x).ins.pages = s.ins.pages ∧ (State.aliasBit s A b x).fuse.lifecycle = s.fuse.lifecycle := by
  simp [State.aliasBit]
@[simp] theorem State.aliasAt_store (s : State) (x : Nat) (v : Word) :
    (State.aliasAt s x v).ins.pages = s.ins.pages ∧ (State.aliasAt s x v).fuse.lifecycle = s.fuse.lifecycle := by
  simp [State.aliasAt]
@[simp] theorem aliasWrite_store (ap : Aperture) (off : Nat) (v : Word) (s : State) :
    (aliasWrite ap off v s).ins.pages = s.ins.pages ∧ (aliasWrite ap off v s).fuse.lifecycle = s.fuse.lifecycle := by
  have a : ∀ x : Nat, (s.gateWrite ap off fun s => s.aliasAt x v).ins.pages = s.ins.pages ∧ (s.gateWrite ap off fun s => s.aliasAt x v).fuse.lifecycle = s.fuse.lifecycle :=
    fun x => State.gateWrite_store _ _ _ _ fun z => State.aliasAt_store z x v
  unfold aliasWrite
  by_cases h : placeOf ap off = .aliasWin ∧ off % 4 = 0
  · rw [if_pos h]; exact a (off - 0x2000000)
  · rw [if_neg h]; exact ⟨rfl, rfl⟩
@[simp] theorem State.writeAt_life (s : State) (ap : Aperture) (off : Nat) (v : Word) :
    (State.writeAt s ap off v).fuse.lifecycle = s.fuse.lifecycle := by
  unfold State.writeAt
  extract_lets pl o
  split
  · simp
  · split
    · simp
    · split
      · simp
      · refine State.gateWrite_life _ _ _ _ ?_
        intro s
        cases e : s.writeCommand ap pl o v with
        | none => simp
        | some t => exact State.writeCommand_life _ _ _ _ _ e
@[simp] theorem State.writeAt_wf (s : State) (ap : Aperture) (off : Nat) (v : Word) (h_ : pagesWf s.ins.pages = true) : pagesWf (State.writeAt s ap off v).ins.pages = true := by
  unfold State.writeAt
  extract_lets pl o
  split
  · simpa using h_
  · split
    · simpa using h_
    · split
      · simpa using h_
      · refine State.gateWrite_wf _ _ _ _ ?_ h_
        intro s h
        cases e : s.writeCommand ap pl o v with
        | none => simpa using h
        | some t => exact State.writeCommand_wf _ _ _ _ _ h e
@[simp] theorem registerWrite_life (a : Access) (v : Word) (s : State) : (registerWrite a v s).fuse.lifecycle = s.fuse.lifecycle := by
  unfold registerWrite; (try dsimp only); (repeat' (first | (simp [*]; done) | split))
@[simp] theorem registerWrite_wf (a : Access) (v : Word) (s : State) (h_ : pagesWf s.ins.pages = true) : pagesWf (registerWrite a v s).ins.pages = true := by
  unfold registerWrite; (try dsimp only); (repeat' (first | assumption | (simp [*]; done) | (apply foldl_wf <;> intros <;> (try dsimp only)) | (apply State.writeAt_wf) | split))
@[simp] theorem State.given_store (s : State) (ok : Bool) (f : State → State) (h_f : ∀ y0, (f y0).ins.pages = y0.ins.pages ∧ (f y0).fuse.lifecycle = y0.fuse.lifecycle) :
    (State.given s ok f).ins.pages = s.ins.pages ∧ (State.given s ok f).fuse.lifecycle = s.fuse.lifecycle := by
  simp [State.given, h_f]
theorem State.given_wf (s : State) (ok : Bool) (f : State → State) (h_f : ∀ z, pagesWf z.ins.pages = true → pagesWf (f z).ins.pages = true) (h_ : pagesWf s.ins.pages = true) : pagesWf (State.given s ok f).ins.pages = true := by
  unfold State.given; (try dsimp only); (repeat' (first | assumption | (simp [*]; done) | (apply h_f) | (apply State.atReg_wf) | (intro z_ hz_) | split))
@[simp] theorem State.given_life (s : State) (ok : Bool) (f : State → State) (h_f : ∀ y0, (f y0).fuse.lifecycle = y0.fuse.lifecycle) :
    (State.given s ok f).fuse.lifecycle = s.fuse.lifecycle := by
  simp [State.given, h_f]
@[simp] theorem State.live_store (s : State) (ok : Bool) (f : State → State) (h_f : ∀ y0, (f y0).ins.pages = y0.ins.pages ∧ (f y0).fuse.lifecycle = y0.fuse.lifecycle) :
    (State.live s ok f).ins.pages = s.ins.pages ∧ (State.live s ok f).fuse.lifecycle = s.fuse.lifecycle := by
  simp [State.live, h_f]
theorem State.live_wf (s : State) (ok : Bool) (f : State → State) (h_f : ∀ z, pagesWf z.ins.pages = true → pagesWf (f z).ins.pages = true) (h_ : pagesWf s.ins.pages = true) : pagesWf (State.live s ok f).ins.pages = true := by
  unfold State.live; (try dsimp only); (repeat' (first | assumption | (simp [*]; done) | (apply h_f) | (apply State.atReg_wf) | (intro z_ hz_) | split))
@[simp] theorem State.live_life (s : State) (ok : Bool) (f : State → State) (h_f : ∀ y0, (f y0).fuse.lifecycle = y0.fuse.lifecycle) :
    (State.live s ok f).fuse.lifecycle = s.fuse.lifecycle := by
  simp [State.live, h_f]
@[simp] theorem State.open__store (s : State) (ok : Bool) (f : State → State) (h_f : ∀ y0, (f y0).ins.pages = y0.ins.pages ∧ (f y0).fuse.lifecycle = y0.fuse.lifecycle) :
    (State.open_ s ok f).ins.pages = s.ins.pages ∧ (State.open_ s ok f).fuse.lifecycle = s.fuse.lifecycle := by
  simp [State.open_, h_f]
theorem State.open__wf (s : State) (ok : Bool) (f : State → State) (h_f : ∀ z, pagesWf z.ins.pages = true → pagesWf (f z).ins.pages = true) (h_ : pagesWf s.ins.pages = true) : pagesWf (State.open_ s ok f).ins.pages = true := by
  unfold State.open_; (try dsimp only); (repeat' (first | assumption | (simp [*]; done) | (apply h_f) | (apply State.live_wf) | (apply State.atReg_wf) | (intro z_ hz_) | split))
@[simp] theorem State.open__life (s : State) (ok : Bool) (f : State → State) (h_f : ∀ y0, (f y0).fuse.lifecycle = y0.fuse.lifecycle) :
    (State.open_ s ok f).fuse.lifecycle = s.fuse.lifecycle := by
  simp [State.open_, h_f]
@[simp] theorem State.portIn_store (s : State) (ok : Bool) (f : State → State) (h_f : ∀ y0, (f y0).ins.pages = y0.ins.pages ∧ (f y0).fuse.lifecycle = y0.fuse.lifecycle) :
    (State.portIn s ok f).ins.pages = s.ins.pages ∧ (State.portIn s ok f).fuse.lifecycle = s.fuse.lifecycle := by
  simp [State.portIn, h_f]
theorem State.portIn_wf (s : State) (ok : Bool) (f : State → State) (h_f : ∀ z, pagesWf z.ins.pages = true → pagesWf (f z).ins.pages = true) (h_ : pagesWf s.ins.pages = true) : pagesWf (State.portIn s ok f).ins.pages = true := by
  unfold State.portIn; (try dsimp only); (repeat' (first | assumption | (simp [*]; done) | (apply h_f) | (apply State.live_wf) | (apply State.open__wf) | (apply State.atReg_wf) | (intro z_ hz_) | split))
@[simp] theorem State.portIn_life (s : State) (ok : Bool) (f : State → State) (h_f : ∀ y0, (f y0).fuse.lifecycle = y0.fuse.lifecycle) :
    (State.portIn s ok f).fuse.lifecycle = s.fuse.lifecycle := by
  simp [State.portIn, h_f]
@[simp] theorem State.hostIn_store (s : State) (ok : Bool) (f : State → State) (h_f : ∀ y0, (f y0).ins.pages = y0.ins.pages ∧ (f y0).fuse.lifecycle = y0.fuse.lifecycle) :
    (State.hostIn s ok f).ins.pages = s.ins.pages ∧ (State.hostIn s ok f).fuse.lifecycle = s.fuse.lifecycle := by
  simp [State.hostIn, h_f]
theorem State.hostIn_wf (s : State) (ok : Bool) (f : State → State) (h_f : ∀ z, pagesWf z.ins.pages = true → pagesWf (f z).ins.pages = true) (h_ : pagesWf s.ins.pages = true) : pagesWf (State.hostIn s ok f).ins.pages = true := by
  unfold State.hostIn; (try dsimp only); (repeat' (first | assumption | (simp [*]; done) | (apply h_f) | (apply State.live_wf) | (apply State.open__wf) | (apply State.atReg_wf) | (intro z_ hz_) | split))
@[simp] theorem State.hostIn_life (s : State) (ok : Bool) (f : State → State) (h_f : ∀ y0, (f y0).fuse.lifecycle = y0.fuse.lifecycle) :
    (State.hostIn s ok f).fuse.lifecycle = s.fuse.lifecycle := by
  simp [State.hostIn, h_f]
@[simp] theorem State.shaftIn_store (s : State) (k : Nat) (f : State → State) (h_f : ∀ y0, (f y0).ins.pages = y0.ins.pages ∧ (f y0).fuse.lifecycle = y0.fuse.lifecycle) :
    (State.shaftIn s k f).ins.pages = s.ins.pages ∧ (State.shaftIn s k f).fuse.lifecycle = s.fuse.lifecycle := by
  simp [State.shaftIn, h_f]
theorem State.shaftIn_wf (s : State) (k : Nat) (f : State → State) (h_f : ∀ z, pagesWf z.ins.pages = true → pagesWf (f z).ins.pages = true) (h_ : pagesWf s.ins.pages = true) : pagesWf (State.shaftIn s k f).ins.pages = true := by
  unfold State.shaftIn; (try dsimp only); (repeat' (first | assumption | (simp [*]; done) | (apply h_f) | (apply State.live_wf) | (apply State.open__wf) | (apply State.atReg_wf) | (intro z_ hz_) | split))
@[simp] theorem State.shaftIn_life (s : State) (k : Nat) (f : State → State) (h_f : ∀ y0, (f y0).fuse.lifecycle = y0.fuse.lifecycle) :
    (State.shaftIn s k f).fuse.lifecycle = s.fuse.lifecycle := by
  simp [State.shaftIn, h_f]
@[simp] theorem State.stalls_store (s : State) : (State.stalls s).ins.pages = s.ins.pages ∧ (State.stalls s).fuse.lifecycle = s.fuse.lifecycle := by
  simp [State.stalls]
@[simp] theorem State.tick_store (s : State) : (State.tick s).ins.pages = s.ins.pages ∧ (State.tick s).fuse.lifecycle = s.fuse.lifecycle := by
  simp [State.tick]
end Sys2Proof.Machine
end

