-- ==== Sys2Proof/Laws/State.lean ====
section
/-!
SUPPORT. Laws/State.lean: the fields of State that each single update leaves, one lemma a field, and what an update of one entry gives back when the entry
is read, at that entry. No proof needs to unfold a record update of these.
-/

namespace Sys2Proof

@[simp] theorem Tab.getD_modD_same {α : Type} (t : Tab α) (k : Nat) (d : α) (f : α → α) : (t.modD k d f).getD k d = f (t.getD k d) := by
  simp [Tab.modD]

namespace Machine

/-! ### emit -/

@[simp] theorem State.emit_pending (s : State) (o : Output) : (s.emit o).pending = s.pending := rfl
@[simp] theorem State.emit_fresh (s : State) (o : Output) : (s.emit o).fresh = s.fresh := rfl
@[simp] theorem State.emit_glb (s : State) (o : Output) : (s.emit o).glb = s.glb := rfl
@[simp] theorem State.emit_cmds (s : State) (o : Output) : (s.emit o).cmds = s.cmds := rfl
@[simp] theorem State.emit_mbx (s : State) (o : Output) : (s.emit o).mbx = s.mbx := rfl
@[simp] theorem State.emit_pins (s : State) (o : Output) : (s.emit o).pins = s.pins := rfl
@[simp] theorem State.emit_clk (s : State) (o : Output) : (s.emit o).clk = s.clk := rfl
@[simp] theorem State.emit_fuse (s : State) (o : Output) : (s.emit o).fuse = s.fuse := rfl
@[simp] theorem State.emit_lse (s : State) (o : Output) : (s.emit o).lse = s.lse := rfl
@[simp] theorem State.emit_own (s : State) (o : Output) : (s.emit o).own = s.own := rfl
@[simp] theorem State.emit_flt (s : State) (o : Output) : (s.emit o).flt = s.flt := rfl
@[simp] theorem State.emit_ctx (s : State) (o : Output) : (s.emit o).ctx = s.ctx := rfl
@[simp] theorem State.emit_slots (s : State) (o : Output) : (s.emit o).slots = s.slots := rfl
@[simp] theorem State.emit_seams (s : State) (o : Output) : (s.emit o).seams = s.seams := rfl
@[simp] theorem State.emit_budget (s : State) (o : Output) : (s.emit o).budget = s.budget := rfl
@[simp] theorem State.emit_shafts (s : State) (o : Output) : (s.emit o).shafts = s.shafts := rfl
@[simp] theorem State.emit_clus (s : State) (o : Output) : (s.emit o).clus = s.clus := rfl
@[simp] theorem State.emit_hz (s : State) (o : Output) : (s.emit o).hz = s.hz := rfl
@[simp] theorem State.emit_ins (s : State) (o : Output) : (s.emit o).ins = s.ins := rfl
@[simp] theorem State.emit_sites (s : State) (o : Output) : (s.emit o).sites = s.sites := rfl
@[simp] theorem State.emit_sio (s : State) (o : Output) : (s.emit o).sio = s.sio := rfl
@[simp] theorem State.emit_fab (s : State) (o : Output) : (s.emit o).fab = s.fab := rfl
@[simp] theorem State.emit_req (s : State) (o : Output) : (s.emit o).req = s.req := rfl
@[simp] theorem State.emit_home (s : State) (o : Output) : (s.emit o).home = s.home := rfl
@[simp] theorem State.emit_cart (s : State) (o : Output) : (s.emit o).cart = s.cart := rfl
@[simp] theorem State.emit_face (s : State) (o : Output) : (s.emit o).face = s.face := rfl
@[simp] theorem State.emit_tal (s : State) (o : Output) : (s.emit o).tal = s.tal := rfl
@[simp] theorem State.emit_wnd (s : State) (o : Output) : (s.emit o).wnd = s.wnd := rfl
@[simp] theorem State.emit_mov (s : State) (o : Output) : (s.emit o).mov = s.mov := rfl
@[simp] theorem State.emit_hst (s : State) (o : Output) : (s.emit o).hst = s.hst := rfl
@[simp] theorem State.emit_vlt (s : State) (o : Output) : (s.emit o).vlt = s.vlt := rfl
@[simp] theorem State.emit_obs (s : State) (o : Output) : (s.emit o).obs = s.obs := rfl
@[simp] theorem State.emit_out (s : State) (o : Output) : (s.emit o).out = s.out ++ [o] := rfl

/-! ### used -/

@[simp] theorem State.used_pending (s : State) : (s.used).pending = s.pending := rfl
@[simp] theorem State.used_out (s : State) : (s.used).out = s.out := rfl
@[simp] theorem State.used_glb (s : State) : (s.used).glb = s.glb := rfl
@[simp] theorem State.used_cmds (s : State) : (s.used).cmds = s.cmds := rfl
@[simp] theorem State.used_mbx (s : State) : (s.used).mbx = s.mbx := rfl
@[simp] theorem State.used_pins (s : State) : (s.used).pins = s.pins := rfl
@[simp] theorem State.used_clk (s : State) : (s.used).clk = s.clk := rfl
@[simp] theorem State.used_fuse (s : State) : (s.used).fuse = s.fuse := rfl
@[simp] theorem State.used_lse (s : State) : (s.used).lse = s.lse := rfl
@[simp] theorem State.used_own (s : State) : (s.used).own = s.own := rfl
@[simp] theorem State.used_flt (s : State) : (s.used).flt = s.flt := rfl
@[simp] theorem State.used_ctx (s : State) : (s.used).ctx = s.ctx := rfl
@[simp] theorem State.used_slots (s : State) : (s.used).slots = s.slots := rfl
@[simp] theorem State.used_seams (s : State) : (s.used).seams = s.seams := rfl
@[simp] theorem State.used_budget (s : State) : (s.used).budget = s.budget := rfl
@[simp] theorem State.used_shafts (s : State) : (s.used).shafts = s.shafts := rfl
@[simp] theorem State.used_clus (s : State) : (s.used).clus = s.clus := rfl
@[simp] theorem State.used_hz (s : State) : (s.used).hz = s.hz := rfl
@[simp] theorem State.used_ins (s : State) : (s.used).ins = s.ins := rfl
@[simp] theorem State.used_sites (s : State) : (s.used).sites = s.sites := rfl
@[simp] theorem State.used_sio (s : State) : (s.used).sio = s.sio := rfl
@[simp] theorem State.used_fab (s : State) : (s.used).fab = s.fab := rfl
@[simp] theorem State.used_req (s : State) : (s.used).req = s.req := rfl
@[simp] theorem State.used_home (s : State) : (s.used).home = s.home := rfl
@[simp] theorem State.used_cart (s : State) : (s.used).cart = s.cart := rfl
@[simp] theorem State.used_face (s : State) : (s.used).face = s.face := rfl
@[simp] theorem State.used_tal (s : State) : (s.used).tal = s.tal := rfl
@[simp] theorem State.used_wnd (s : State) : (s.used).wnd = s.wnd := rfl
@[simp] theorem State.used_mov (s : State) : (s.used).mov = s.mov := rfl
@[simp] theorem State.used_hst (s : State) : (s.used).hst = s.hst := rfl
@[simp] theorem State.used_vlt (s : State) : (s.used).vlt = s.vlt := rfl
@[simp] theorem State.used_obs (s : State) : (s.used).obs = s.obs := rfl
@[simp] theorem State.used_fresh (s : State) : s.used.fresh = s.fresh + 1 := rfl

/-! ### modInst -/

@[simp] theorem State.modInst_pending (s : State) (b : Blk) (a : Nat) (f : Inst → Inst) : (s.modInst b a f).pending = s.pending := rfl
@[simp] theorem State.modInst_out (s : State) (b : Blk) (a : Nat) (f : Inst → Inst) : (s.modInst b a f).out = s.out := rfl
@[simp] theorem State.modInst_fresh (s : State) (b : Blk) (a : Nat) (f : Inst → Inst) : (s.modInst b a f).fresh = s.fresh := rfl
@[simp] theorem State.modInst_glb (s : State) (b : Blk) (a : Nat) (f : Inst → Inst) : (s.modInst b a f).glb = s.glb := rfl
@[simp] theorem State.modInst_mbx (s : State) (b : Blk) (a : Nat) (f : Inst → Inst) : (s.modInst b a f).mbx = s.mbx := rfl
@[simp] theorem State.modInst_pins (s : State) (b : Blk) (a : Nat) (f : Inst → Inst) : (s.modInst b a f).pins = s.pins := rfl
@[simp] theorem State.modInst_clk (s : State) (b : Blk) (a : Nat) (f : Inst → Inst) : (s.modInst b a f).clk = s.clk := rfl
@[simp] theorem State.modInst_fuse (s : State) (b : Blk) (a : Nat) (f : Inst → Inst) : (s.modInst b a f).fuse = s.fuse := rfl
@[simp] theorem State.modInst_lse (s : State) (b : Blk) (a : Nat) (f : Inst → Inst) : (s.modInst b a f).lse = s.lse := rfl
@[simp] theorem State.modInst_own (s : State) (b : Blk) (a : Nat) (f : Inst → Inst) : (s.modInst b a f).own = s.own := rfl
@[simp] theorem State.modInst_flt (s : State) (b : Blk) (a : Nat) (f : Inst → Inst) : (s.modInst b a f).flt = s.flt := rfl
@[simp] theorem State.modInst_ctx (s : State) (b : Blk) (a : Nat) (f : Inst → Inst) : (s.modInst b a f).ctx = s.ctx := rfl
@[simp] theorem State.modInst_slots (s : State) (b : Blk) (a : Nat) (f : Inst → Inst) : (s.modInst b a f).slots = s.slots := rfl
@[simp] theorem State.modInst_seams (s : State) (b : Blk) (a : Nat) (f : Inst → Inst) : (s.modInst b a f).seams = s.seams := rfl
@[simp] theorem State.modInst_budget (s : State) (b : Blk) (a : Nat) (f : Inst → Inst) : (s.modInst b a f).budget = s.budget := rfl
@[simp] theorem State.modInst_shafts (s : State) (b : Blk) (a : Nat) (f : Inst → Inst) : (s.modInst b a f).shafts = s.shafts := rfl
@[simp] theorem State.modInst_clus (s : State) (b : Blk) (a : Nat) (f : Inst → Inst) : (s.modInst b a f).clus = s.clus := rfl
@[simp] theorem State.modInst_hz (s : State) (b : Blk) (a : Nat) (f : Inst → Inst) : (s.modInst b a f).hz = s.hz := rfl
@[simp] theorem State.modInst_ins (s : State) (b : Blk) (a : Nat) (f : Inst → Inst) : (s.modInst b a f).ins = s.ins := rfl
@[simp] theorem State.modInst_sites (s : State) (b : Blk) (a : Nat) (f : Inst → Inst) : (s.modInst b a f).sites = s.sites := rfl
@[simp] theorem State.modInst_sio (s : State) (b : Blk) (a : Nat) (f : Inst → Inst) : (s.modInst b a f).sio = s.sio := rfl
@[simp] theorem State.modInst_fab (s : State) (b : Blk) (a : Nat) (f : Inst → Inst) : (s.modInst b a f).fab = s.fab := rfl
@[simp] theorem State.modInst_req (s : State) (b : Blk) (a : Nat) (f : Inst → Inst) : (s.modInst b a f).req = s.req := rfl
@[simp] theorem State.modInst_home (s : State) (b : Blk) (a : Nat) (f : Inst → Inst) : (s.modInst b a f).home = s.home := rfl
@[simp] theorem State.modInst_cart (s : State) (b : Blk) (a : Nat) (f : Inst → Inst) : (s.modInst b a f).cart = s.cart := rfl
@[simp] theorem State.modInst_face (s : State) (b : Blk) (a : Nat) (f : Inst → Inst) : (s.modInst b a f).face = s.face := rfl
@[simp] theorem State.modInst_tal (s : State) (b : Blk) (a : Nat) (f : Inst → Inst) : (s.modInst b a f).tal = s.tal := rfl
@[simp] theorem State.modInst_wnd (s : State) (b : Blk) (a : Nat) (f : Inst → Inst) : (s.modInst b a f).wnd = s.wnd := rfl
@[simp] theorem State.modInst_mov (s : State) (b : Blk) (a : Nat) (f : Inst → Inst) : (s.modInst b a f).mov = s.mov := rfl
@[simp] theorem State.modInst_hst (s : State) (b : Blk) (a : Nat) (f : Inst → Inst) : (s.modInst b a f).hst = s.hst := rfl
@[simp] theorem State.modInst_vlt (s : State) (b : Blk) (a : Nat) (f : Inst → Inst) : (s.modInst b a f).vlt = s.vlt := rfl
@[simp] theorem State.modInst_obs (s : State) (b : Blk) (a : Nat) (f : Inst → Inst) : (s.modInst b a f).obs = s.obs := rfl
@[simp] theorem State.modInst_inst (s : State) (b : Blk) (a : Nat) (f : Inst → Inst) : (s.modInst b a f).inst b a = f (s.inst b a) := by simp [State.modInst, State.inst]

/-! ### modMbx -/

@[simp] theorem State.modMbx_pending (s : State) (a : Nat) (f : Mbx → Mbx) : (s.modMbx a f).pending = s.pending := rfl
@[simp] theorem State.modMbx_out (s : State) (a : Nat) (f : Mbx → Mbx) : (s.modMbx a f).out = s.out := rfl
@[simp] theorem State.modMbx_fresh (s : State) (a : Nat) (f : Mbx → Mbx) : (s.modMbx a f).fresh = s.fresh := rfl
@[simp] theorem State.modMbx_glb (s : State) (a : Nat) (f : Mbx → Mbx) : (s.modMbx a f).glb = s.glb := rfl
@[simp] theorem State.modMbx_cmds (s : State) (a : Nat) (f : Mbx → Mbx) : (s.modMbx a f).cmds = s.cmds := rfl
@[simp] theorem State.modMbx_pins (s : State) (a : Nat) (f : Mbx → Mbx) : (s.modMbx a f).pins = s.pins := rfl
@[simp] theorem State.modMbx_clk (s : State) (a : Nat) (f : Mbx → Mbx) : (s.modMbx a f).clk = s.clk := rfl
@[simp] theorem State.modMbx_fuse (s : State) (a : Nat) (f : Mbx → Mbx) : (s.modMbx a f).fuse = s.fuse := rfl
@[simp] theorem State.modMbx_lse (s : State) (a : Nat) (f : Mbx → Mbx) : (s.modMbx a f).lse = s.lse := rfl
@[simp] theorem State.modMbx_own (s : State) (a : Nat) (f : Mbx → Mbx) : (s.modMbx a f).own = s.own := rfl
@[simp] theorem State.modMbx_flt (s : State) (a : Nat) (f : Mbx → Mbx) : (s.modMbx a f).flt = s.flt := rfl
@[simp] theorem State.modMbx_ctx (s : State) (a : Nat) (f : Mbx → Mbx) : (s.modMbx a f).ctx = s.ctx := rfl
@[simp] theorem State.modMbx_slots (s : State) (a : Nat) (f : Mbx → Mbx) : (s.modMbx a f).slots = s.slots := rfl
@[simp] theorem State.modMbx_seams (s : State) (a : Nat) (f : Mbx → Mbx) : (s.modMbx a f).seams = s.seams := rfl
@[simp] theorem State.modMbx_budget (s : State) (a : Nat) (f : Mbx → Mbx) : (s.modMbx a f).budget = s.budget := rfl
@[simp] theorem State.modMbx_shafts (s : State) (a : Nat) (f : Mbx → Mbx) : (s.modMbx a f).shafts = s.shafts := rfl
@[simp] theorem State.modMbx_clus (s : State) (a : Nat) (f : Mbx → Mbx) : (s.modMbx a f).clus = s.clus := rfl
@[simp] theorem State.modMbx_hz (s : State) (a : Nat) (f : Mbx → Mbx) : (s.modMbx a f).hz = s.hz := rfl
@[simp] theorem State.modMbx_ins (s : State) (a : Nat) (f : Mbx → Mbx) : (s.modMbx a f).ins = s.ins := rfl
@[simp] theorem State.modMbx_sites (s : State) (a : Nat) (f : Mbx → Mbx) : (s.modMbx a f).sites = s.sites := rfl
@[simp] theorem State.modMbx_sio (s : State) (a : Nat) (f : Mbx → Mbx) : (s.modMbx a f).sio = s.sio := rfl
@[simp] theorem State.modMbx_fab (s : State) (a : Nat) (f : Mbx → Mbx) : (s.modMbx a f).fab = s.fab := rfl
@[simp] theorem State.modMbx_req (s : State) (a : Nat) (f : Mbx → Mbx) : (s.modMbx a f).req = s.req := rfl
@[simp] theorem State.modMbx_home (s : State) (a : Nat) (f : Mbx → Mbx) : (s.modMbx a f).home = s.home := rfl
@[simp] theorem State.modMbx_cart (s : State) (a : Nat) (f : Mbx → Mbx) : (s.modMbx a f).cart = s.cart := rfl
@[simp] theorem State.modMbx_face (s : State) (a : Nat) (f : Mbx → Mbx) : (s.modMbx a f).face = s.face := rfl
@[simp] theorem State.modMbx_tal (s : State) (a : Nat) (f : Mbx → Mbx) : (s.modMbx a f).tal = s.tal := rfl
@[simp] theorem State.modMbx_wnd (s : State) (a : Nat) (f : Mbx → Mbx) : (s.modMbx a f).wnd = s.wnd := rfl
@[simp] theorem State.modMbx_mov (s : State) (a : Nat) (f : Mbx → Mbx) : (s.modMbx a f).mov = s.mov := rfl
@[simp] theorem State.modMbx_hst (s : State) (a : Nat) (f : Mbx → Mbx) : (s.modMbx a f).hst = s.hst := rfl
@[simp] theorem State.modMbx_vlt (s : State) (a : Nat) (f : Mbx → Mbx) : (s.modMbx a f).vlt = s.vlt := rfl
@[simp] theorem State.modMbx_obs (s : State) (a : Nat) (f : Mbx → Mbx) : (s.modMbx a f).obs = s.obs := rfl
@[simp] theorem State.modMbx_mbxAt (s : State) (a : Nat) (f : Mbx → Mbx) : (s.modMbx a f).mbxAt a = f (s.mbxAt a) := by simp [State.modMbx, State.mbxAt]

/-! ### modSeam -/

@[simp] theorem State.modSeam_pending (s : State) (n : Nat) (f : Seam → Seam) : (s.modSeam n f).pending = s.pending := rfl
@[simp] theorem State.modSeam_out (s : State) (n : Nat) (f : Seam → Seam) : (s.modSeam n f).out = s.out := rfl
@[simp] theorem State.modSeam_fresh (s : State) (n : Nat) (f : Seam → Seam) : (s.modSeam n f).fresh = s.fresh := rfl
@[simp] theorem State.modSeam_glb (s : State) (n : Nat) (f : Seam → Seam) : (s.modSeam n f).glb = s.glb := rfl
@[simp] theorem State.modSeam_cmds (s : State) (n : Nat) (f : Seam → Seam) : (s.modSeam n f).cmds = s.cmds := rfl
@[simp] theorem State.modSeam_mbx (s : State) (n : Nat) (f : Seam → Seam) : (s.modSeam n f).mbx = s.mbx := rfl
@[simp] theorem State.modSeam_pins (s : State) (n : Nat) (f : Seam → Seam) : (s.modSeam n f).pins = s.pins := rfl
@[simp] theorem State.modSeam_clk (s : State) (n : Nat) (f : Seam → Seam) : (s.modSeam n f).clk = s.clk := rfl
@[simp] theorem State.modSeam_fuse (s : State) (n : Nat) (f : Seam → Seam) : (s.modSeam n f).fuse = s.fuse := rfl
@[simp] theorem State.modSeam_lse (s : State) (n : Nat) (f : Seam → Seam) : (s.modSeam n f).lse = s.lse := rfl
@[simp] theorem State.modSeam_own (s : State) (n : Nat) (f : Seam → Seam) : (s.modSeam n f).own = s.own := rfl
@[simp] theorem State.modSeam_flt (s : State) (n : Nat) (f : Seam → Seam) : (s.modSeam n f).flt = s.flt := rfl
@[simp] theorem State.modSeam_ctx (s : State) (n : Nat) (f : Seam → Seam) : (s.modSeam n f).ctx = s.ctx := rfl
@[simp] theorem State.modSeam_slots (s : State) (n : Nat) (f : Seam → Seam) : (s.modSeam n f).slots = s.slots := rfl
@[simp] theorem State.modSeam_budget (s : State) (n : Nat) (f : Seam → Seam) : (s.modSeam n f).budget = s.budget := rfl
@[simp] theorem State.modSeam_shafts (s : State) (n : Nat) (f : Seam → Seam) : (s.modSeam n f).shafts = s.shafts := rfl
@[simp] theorem State.modSeam_clus (s : State) (n : Nat) (f : Seam → Seam) : (s.modSeam n f).clus = s.clus := rfl
@[simp] theorem State.modSeam_hz (s : State) (n : Nat) (f : Seam → Seam) : (s.modSeam n f).hz = s.hz := rfl
@[simp] theorem State.modSeam_ins (s : State) (n : Nat) (f : Seam → Seam) : (s.modSeam n f).ins = s.ins := rfl
@[simp] theorem State.modSeam_sites (s : State) (n : Nat) (f : Seam → Seam) : (s.modSeam n f).sites = s.sites := rfl
@[simp] theorem State.modSeam_sio (s : State) (n : Nat) (f : Seam → Seam) : (s.modSeam n f).sio = s.sio := rfl
@[simp] theorem State.modSeam_fab (s : State) (n : Nat) (f : Seam → Seam) : (s.modSeam n f).fab = s.fab := rfl
@[simp] theorem State.modSeam_req (s : State) (n : Nat) (f : Seam → Seam) : (s.modSeam n f).req = s.req := rfl
@[simp] theorem State.modSeam_home (s : State) (n : Nat) (f : Seam → Seam) : (s.modSeam n f).home = s.home := rfl
@[simp] theorem State.modSeam_cart (s : State) (n : Nat) (f : Seam → Seam) : (s.modSeam n f).cart = s.cart := rfl
@[simp] theorem State.modSeam_face (s : State) (n : Nat) (f : Seam → Seam) : (s.modSeam n f).face = s.face := rfl
@[simp] theorem State.modSeam_tal (s : State) (n : Nat) (f : Seam → Seam) : (s.modSeam n f).tal = s.tal := rfl
@[simp] theorem State.modSeam_wnd (s : State) (n : Nat) (f : Seam → Seam) : (s.modSeam n f).wnd = s.wnd := rfl
@[simp] theorem State.modSeam_mov (s : State) (n : Nat) (f : Seam → Seam) : (s.modSeam n f).mov = s.mov := rfl
@[simp] theorem State.modSeam_hst (s : State) (n : Nat) (f : Seam → Seam) : (s.modSeam n f).hst = s.hst := rfl
@[simp] theorem State.modSeam_vlt (s : State) (n : Nat) (f : Seam → Seam) : (s.modSeam n f).vlt = s.vlt := rfl
@[simp] theorem State.modSeam_obs (s : State) (n : Nat) (f : Seam → Seam) : (s.modSeam n f).obs = s.obs := rfl
@[simp] theorem State.modSeam_seam (s : State) (n : Nat) (f : Seam → Seam) : (s.modSeam n f).seam n = f (s.seam n) := by simp [State.modSeam, State.seam]

/-! ### modShaft -/

@[simp] theorem State.modShaft_pending (s : State) (k : Nat) (f : Shaft → Shaft) : (s.modShaft k f).pending = s.pending := rfl
@[simp] theorem State.modShaft_out (s : State) (k : Nat) (f : Shaft → Shaft) : (s.modShaft k f).out = s.out := rfl
@[simp] theorem State.modShaft_fresh (s : State) (k : Nat) (f : Shaft → Shaft) : (s.modShaft k f).fresh = s.fresh := rfl
@[simp] theorem State.modShaft_glb (s : State) (k : Nat) (f : Shaft → Shaft) : (s.modShaft k f).glb = s.glb := rfl
@[simp] theorem State.modShaft_cmds (s : State) (k : Nat) (f : Shaft → Shaft) : (s.modShaft k f).cmds = s.cmds := rfl
@[simp] theorem State.modShaft_mbx (s : State) (k : Nat) (f : Shaft → Shaft) : (s.modShaft k f).mbx = s.mbx := rfl
@[simp] theorem State.modShaft_pins (s : State) (k : Nat) (f : Shaft → Shaft) : (s.modShaft k f).pins = s.pins := rfl
@[simp] theorem State.modShaft_clk (s : State) (k : Nat) (f : Shaft → Shaft) : (s.modShaft k f).clk = s.clk := rfl
@[simp] theorem State.modShaft_fuse (s : State) (k : Nat) (f : Shaft → Shaft) : (s.modShaft k f).fuse = s.fuse := rfl
@[simp] theorem State.modShaft_lse (s : State) (k : Nat) (f : Shaft → Shaft) : (s.modShaft k f).lse = s.lse := rfl
@[simp] theorem State.modShaft_own (s : State) (k : Nat) (f : Shaft → Shaft) : (s.modShaft k f).own = s.own := rfl
@[simp] theorem State.modShaft_flt (s : State) (k : Nat) (f : Shaft → Shaft) : (s.modShaft k f).flt = s.flt := rfl
@[simp] theorem State.modShaft_ctx (s : State) (k : Nat) (f : Shaft → Shaft) : (s.modShaft k f).ctx = s.ctx := rfl
@[simp] theorem State.modShaft_slots (s : State) (k : Nat) (f : Shaft → Shaft) : (s.modShaft k f).slots = s.slots := rfl
@[simp] theorem State.modShaft_seams (s : State) (k : Nat) (f : Shaft → Shaft) : (s.modShaft k f).seams = s.seams := rfl
@[simp] theorem State.modShaft_budget (s : State) (k : Nat) (f : Shaft → Shaft) : (s.modShaft k f).budget = s.budget := rfl
@[simp] theorem State.modShaft_clus (s : State) (k : Nat) (f : Shaft → Shaft) : (s.modShaft k f).clus = s.clus := rfl
@[simp] theorem State.modShaft_hz (s : State) (k : Nat) (f : Shaft → Shaft) : (s.modShaft k f).hz = s.hz := rfl
@[simp] theorem State.modShaft_ins (s : State) (k : Nat) (f : Shaft → Shaft) : (s.modShaft k f).ins = s.ins := rfl
@[simp] theorem State.modShaft_sites (s : State) (k : Nat) (f : Shaft → Shaft) : (s.modShaft k f).sites = s.sites := rfl
@[simp] theorem State.modShaft_sio (s : State) (k : Nat) (f : Shaft → Shaft) : (s.modShaft k f).sio = s.sio := rfl
@[simp] theorem State.modShaft_fab (s : State) (k : Nat) (f : Shaft → Shaft) : (s.modShaft k f).fab = s.fab := rfl
@[simp] theorem State.modShaft_req (s : State) (k : Nat) (f : Shaft → Shaft) : (s.modShaft k f).req = s.req := rfl
@[simp] theorem State.modShaft_home (s : State) (k : Nat) (f : Shaft → Shaft) : (s.modShaft k f).home = s.home := rfl
@[simp] theorem State.modShaft_cart (s : State) (k : Nat) (f : Shaft → Shaft) : (s.modShaft k f).cart = s.cart := rfl
@[simp] theorem State.modShaft_face (s : State) (k : Nat) (f : Shaft → Shaft) : (s.modShaft k f).face = s.face := rfl
@[simp] theorem State.modShaft_tal (s : State) (k : Nat) (f : Shaft → Shaft) : (s.modShaft k f).tal = s.tal := rfl
@[simp] theorem State.modShaft_wnd (s : State) (k : Nat) (f : Shaft → Shaft) : (s.modShaft k f).wnd = s.wnd := rfl
@[simp] theorem State.modShaft_mov (s : State) (k : Nat) (f : Shaft → Shaft) : (s.modShaft k f).mov = s.mov := rfl
@[simp] theorem State.modShaft_hst (s : State) (k : Nat) (f : Shaft → Shaft) : (s.modShaft k f).hst = s.hst := rfl
@[simp] theorem State.modShaft_vlt (s : State) (k : Nat) (f : Shaft → Shaft) : (s.modShaft k f).vlt = s.vlt := rfl
@[simp] theorem State.modShaft_obs (s : State) (k : Nat) (f : Shaft → Shaft) : (s.modShaft k f).obs = s.obs := rfl
@[simp] theorem State.modShaft_shaft (s : State) (k : Nat) (f : Shaft → Shaft) : (s.modShaft k f).shaft k = f (s.shaft k) := by simp [State.modShaft, State.shaft]

/-! ### modSite -/

@[simp] theorem State.modSite_pending (s : State) (t : Nat) (f : Site → Site) : (s.modSite t f).pending = s.pending := rfl
@[simp] theorem State.modSite_out (s : State) (t : Nat) (f : Site → Site) : (s.modSite t f).out = s.out := rfl
@[simp] theorem State.modSite_fresh (s : State) (t : Nat) (f : Site → Site) : (s.modSite t f).fresh = s.fresh := rfl
@[simp] theorem State.modSite_glb (s : State) (t : Nat) (f : Site → Site) : (s.modSite t f).glb = s.glb := rfl
@[simp] theorem State.modSite_cmds (s : State) (t : Nat) (f : Site → Site) : (s.modSite t f).cmds = s.cmds := rfl
@[simp] theorem State.modSite_mbx (s : State) (t : Nat) (f : Site → Site) : (s.modSite t f).mbx = s.mbx := rfl
@[simp] theorem State.modSite_pins (s : State) (t : Nat) (f : Site → Site) : (s.modSite t f).pins = s.pins := rfl
@[simp] theorem State.modSite_clk (s : State) (t : Nat) (f : Site → Site) : (s.modSite t f).clk = s.clk := rfl
@[simp] theorem State.modSite_fuse (s : State) (t : Nat) (f : Site → Site) : (s.modSite t f).fuse = s.fuse := rfl
@[simp] theorem State.modSite_lse (s : State) (t : Nat) (f : Site → Site) : (s.modSite t f).lse = s.lse := rfl
@[simp] theorem State.modSite_own (s : State) (t : Nat) (f : Site → Site) : (s.modSite t f).own = s.own := rfl
@[simp] theorem State.modSite_flt (s : State) (t : Nat) (f : Site → Site) : (s.modSite t f).flt = s.flt := rfl
@[simp] theorem State.modSite_ctx (s : State) (t : Nat) (f : Site → Site) : (s.modSite t f).ctx = s.ctx := rfl
@[simp] theorem State.modSite_slots (s : State) (t : Nat) (f : Site → Site) : (s.modSite t f).slots = s.slots := rfl
@[simp] theorem State.modSite_seams (s : State) (t : Nat) (f : Site → Site) : (s.modSite t f).seams = s.seams := rfl
@[simp] theorem State.modSite_budget (s : State) (t : Nat) (f : Site → Site) : (s.modSite t f).budget = s.budget := rfl
@[simp] theorem State.modSite_shafts (s : State) (t : Nat) (f : Site → Site) : (s.modSite t f).shafts = s.shafts := rfl
@[simp] theorem State.modSite_clus (s : State) (t : Nat) (f : Site → Site) : (s.modSite t f).clus = s.clus := rfl
@[simp] theorem State.modSite_hz (s : State) (t : Nat) (f : Site → Site) : (s.modSite t f).hz = s.hz := rfl
@[simp] theorem State.modSite_ins (s : State) (t : Nat) (f : Site → Site) : (s.modSite t f).ins = s.ins := rfl
@[simp] theorem State.modSite_sio (s : State) (t : Nat) (f : Site → Site) : (s.modSite t f).sio = s.sio := rfl
@[simp] theorem State.modSite_fab (s : State) (t : Nat) (f : Site → Site) : (s.modSite t f).fab = s.fab := rfl
@[simp] theorem State.modSite_req (s : State) (t : Nat) (f : Site → Site) : (s.modSite t f).req = s.req := rfl
@[simp] theorem State.modSite_home (s : State) (t : Nat) (f : Site → Site) : (s.modSite t f).home = s.home := rfl
@[simp] theorem State.modSite_cart (s : State) (t : Nat) (f : Site → Site) : (s.modSite t f).cart = s.cart := rfl
@[simp] theorem State.modSite_face (s : State) (t : Nat) (f : Site → Site) : (s.modSite t f).face = s.face := rfl
@[simp] theorem State.modSite_tal (s : State) (t : Nat) (f : Site → Site) : (s.modSite t f).tal = s.tal := rfl
@[simp] theorem State.modSite_wnd (s : State) (t : Nat) (f : Site → Site) : (s.modSite t f).wnd = s.wnd := rfl
@[simp] theorem State.modSite_mov (s : State) (t : Nat) (f : Site → Site) : (s.modSite t f).mov = s.mov := rfl
@[simp] theorem State.modSite_hst (s : State) (t : Nat) (f : Site → Site) : (s.modSite t f).hst = s.hst := rfl
@[simp] theorem State.modSite_vlt (s : State) (t : Nat) (f : Site → Site) : (s.modSite t f).vlt = s.vlt := rfl
@[simp] theorem State.modSite_obs (s : State) (t : Nat) (f : Site → Site) : (s.modSite t f).obs = s.obs := rfl
@[simp] theorem State.modSite_site (s : State) (t : Nat) (f : Site → Site) : (s.modSite t f).site t = f (s.site t) := by simp [State.modSite, State.site]

/-! ### modSio -/

@[simp] theorem State.modSio_pending (s : State) (t : Nat) (f : SiteIo → SiteIo) : (s.modSio t f).pending = s.pending := rfl
@[simp] theorem State.modSio_out (s : State) (t : Nat) (f : SiteIo → SiteIo) : (s.modSio t f).out = s.out := rfl
@[simp] theorem State.modSio_fresh (s : State) (t : Nat) (f : SiteIo → SiteIo) : (s.modSio t f).fresh = s.fresh := rfl
@[simp] theorem State.modSio_glb (s : State) (t : Nat) (f : SiteIo → SiteIo) : (s.modSio t f).glb = s.glb := rfl
@[simp] theorem State.modSio_cmds (s : State) (t : Nat) (f : SiteIo → SiteIo) : (s.modSio t f).cmds = s.cmds := rfl
@[simp] theorem State.modSio_mbx (s : State) (t : Nat) (f : SiteIo → SiteIo) : (s.modSio t f).mbx = s.mbx := rfl
@[simp] theorem State.modSio_pins (s : State) (t : Nat) (f : SiteIo → SiteIo) : (s.modSio t f).pins = s.pins := rfl
@[simp] theorem State.modSio_clk (s : State) (t : Nat) (f : SiteIo → SiteIo) : (s.modSio t f).clk = s.clk := rfl
@[simp] theorem State.modSio_fuse (s : State) (t : Nat) (f : SiteIo → SiteIo) : (s.modSio t f).fuse = s.fuse := rfl
@[simp] theorem State.modSio_lse (s : State) (t : Nat) (f : SiteIo → SiteIo) : (s.modSio t f).lse = s.lse := rfl
@[simp] theorem State.modSio_own (s : State) (t : Nat) (f : SiteIo → SiteIo) : (s.modSio t f).own = s.own := rfl
@[simp] theorem State.modSio_flt (s : State) (t : Nat) (f : SiteIo → SiteIo) : (s.modSio t f).flt = s.flt := rfl
@[simp] theorem State.modSio_ctx (s : State) (t : Nat) (f : SiteIo → SiteIo) : (s.modSio t f).ctx = s.ctx := rfl
@[simp] theorem State.modSio_slots (s : State) (t : Nat) (f : SiteIo → SiteIo) : (s.modSio t f).slots = s.slots := rfl
@[simp] theorem State.modSio_seams (s : State) (t : Nat) (f : SiteIo → SiteIo) : (s.modSio t f).seams = s.seams := rfl
@[simp] theorem State.modSio_budget (s : State) (t : Nat) (f : SiteIo → SiteIo) : (s.modSio t f).budget = s.budget := rfl
@[simp] theorem State.modSio_shafts (s : State) (t : Nat) (f : SiteIo → SiteIo) : (s.modSio t f).shafts = s.shafts := rfl
@[simp] theorem State.modSio_clus (s : State) (t : Nat) (f : SiteIo → SiteIo) : (s.modSio t f).clus = s.clus := rfl
@[simp] theorem State.modSio_hz (s : State) (t : Nat) (f : SiteIo → SiteIo) : (s.modSio t f).hz = s.hz := rfl
@[simp] theorem State.modSio_ins (s : State) (t : Nat) (f : SiteIo → SiteIo) : (s.modSio t f).ins = s.ins := rfl
@[simp] theorem State.modSio_sites (s : State) (t : Nat) (f : SiteIo → SiteIo) : (s.modSio t f).sites = s.sites := rfl
@[simp] theorem State.modSio_fab (s : State) (t : Nat) (f : SiteIo → SiteIo) : (s.modSio t f).fab = s.fab := rfl
@[simp] theorem State.modSio_req (s : State) (t : Nat) (f : SiteIo → SiteIo) : (s.modSio t f).req = s.req := rfl
@[simp] theorem State.modSio_home (s : State) (t : Nat) (f : SiteIo → SiteIo) : (s.modSio t f).home = s.home := rfl
@[simp] theorem State.modSio_cart (s : State) (t : Nat) (f : SiteIo → SiteIo) : (s.modSio t f).cart = s.cart := rfl
@[simp] theorem State.modSio_face (s : State) (t : Nat) (f : SiteIo → SiteIo) : (s.modSio t f).face = s.face := rfl
@[simp] theorem State.modSio_tal (s : State) (t : Nat) (f : SiteIo → SiteIo) : (s.modSio t f).tal = s.tal := rfl
@[simp] theorem State.modSio_wnd (s : State) (t : Nat) (f : SiteIo → SiteIo) : (s.modSio t f).wnd = s.wnd := rfl
@[simp] theorem State.modSio_mov (s : State) (t : Nat) (f : SiteIo → SiteIo) : (s.modSio t f).mov = s.mov := rfl
@[simp] theorem State.modSio_hst (s : State) (t : Nat) (f : SiteIo → SiteIo) : (s.modSio t f).hst = s.hst := rfl
@[simp] theorem State.modSio_vlt (s : State) (t : Nat) (f : SiteIo → SiteIo) : (s.modSio t f).vlt = s.vlt := rfl
@[simp] theorem State.modSio_obs (s : State) (t : Nat) (f : SiteIo → SiteIo) : (s.modSio t f).obs = s.obs := rfl

/-! ### modPort -/

@[simp] theorem State.modPort_pending (s : State) (p : Nat) (f : Port → Port) : (s.modPort p f).pending = s.pending := rfl
@[simp] theorem State.modPort_out (s : State) (p : Nat) (f : Port → Port) : (s.modPort p f).out = s.out := rfl
@[simp] theorem State.modPort_fresh (s : State) (p : Nat) (f : Port → Port) : (s.modPort p f).fresh = s.fresh := rfl
@[simp] theorem State.modPort_glb (s : State) (p : Nat) (f : Port → Port) : (s.modPort p f).glb = s.glb := rfl
@[simp] theorem State.modPort_cmds (s : State) (p : Nat) (f : Port → Port) : (s.modPort p f).cmds = s.cmds := rfl
@[simp] theorem State.modPort_mbx (s : State) (p : Nat) (f : Port → Port) : (s.modPort p f).mbx = s.mbx := rfl
@[simp] theorem State.modPort_pins (s : State) (p : Nat) (f : Port → Port) : (s.modPort p f).pins = s.pins := rfl
@[simp] theorem State.modPort_clk (s : State) (p : Nat) (f : Port → Port) : (s.modPort p f).clk = s.clk := rfl
@[simp] theorem State.modPort_fuse (s : State) (p : Nat) (f : Port → Port) : (s.modPort p f).fuse = s.fuse := rfl
@[simp] theorem State.modPort_lse (s : State) (p : Nat) (f : Port → Port) : (s.modPort p f).lse = s.lse := rfl
@[simp] theorem State.modPort_own (s : State) (p : Nat) (f : Port → Port) : (s.modPort p f).own = s.own := rfl
@[simp] theorem State.modPort_flt (s : State) (p : Nat) (f : Port → Port) : (s.modPort p f).flt = s.flt := rfl
@[simp] theorem State.modPort_ctx (s : State) (p : Nat) (f : Port → Port) : (s.modPort p f).ctx = s.ctx := rfl
@[simp] theorem State.modPort_slots (s : State) (p : Nat) (f : Port → Port) : (s.modPort p f).slots = s.slots := rfl
@[simp] theorem State.modPort_seams (s : State) (p : Nat) (f : Port → Port) : (s.modPort p f).seams = s.seams := rfl
@[simp] theorem State.modPort_budget (s : State) (p : Nat) (f : Port → Port) : (s.modPort p f).budget = s.budget := rfl
@[simp] theorem State.modPort_shafts (s : State) (p : Nat) (f : Port → Port) : (s.modPort p f).shafts = s.shafts := rfl
@[simp] theorem State.modPort_clus (s : State) (p : Nat) (f : Port → Port) : (s.modPort p f).clus = s.clus := rfl
@[simp] theorem State.modPort_hz (s : State) (p : Nat) (f : Port → Port) : (s.modPort p f).hz = s.hz := rfl
@[simp] theorem State.modPort_ins (s : State) (p : Nat) (f : Port → Port) : (s.modPort p f).ins = s.ins := rfl
@[simp] theorem State.modPort_sites (s : State) (p : Nat) (f : Port → Port) : (s.modPort p f).sites = s.sites := rfl
@[simp] theorem State.modPort_sio (s : State) (p : Nat) (f : Port → Port) : (s.modPort p f).sio = s.sio := rfl
@[simp] theorem State.modPort_req (s : State) (p : Nat) (f : Port → Port) : (s.modPort p f).req = s.req := rfl
@[simp] theorem State.modPort_home (s : State) (p : Nat) (f : Port → Port) : (s.modPort p f).home = s.home := rfl
@[simp] theorem State.modPort_cart (s : State) (p : Nat) (f : Port → Port) : (s.modPort p f).cart = s.cart := rfl
@[simp] theorem State.modPort_face (s : State) (p : Nat) (f : Port → Port) : (s.modPort p f).face = s.face := rfl
@[simp] theorem State.modPort_tal (s : State) (p : Nat) (f : Port → Port) : (s.modPort p f).tal = s.tal := rfl
@[simp] theorem State.modPort_wnd (s : State) (p : Nat) (f : Port → Port) : (s.modPort p f).wnd = s.wnd := rfl
@[simp] theorem State.modPort_mov (s : State) (p : Nat) (f : Port → Port) : (s.modPort p f).mov = s.mov := rfl
@[simp] theorem State.modPort_hst (s : State) (p : Nat) (f : Port → Port) : (s.modPort p f).hst = s.hst := rfl
@[simp] theorem State.modPort_vlt (s : State) (p : Nat) (f : Port → Port) : (s.modPort p f).vlt = s.vlt := rfl
@[simp] theorem State.modPort_obs (s : State) (p : Nat) (f : Port → Port) : (s.modPort p f).obs = s.obs := rfl
@[simp] theorem State.modPort_port (s : State) (p : Nat) (f : Port → Port) : (s.modPort p f).port p = f (s.port p) := by simp [State.modPort, State.port]

/-! ### modNode -/

@[simp] theorem State.modNode_pending (s : State) (n : Nat) (f : NodeEnt → NodeEnt) : (s.modNode n f).pending = s.pending := rfl
@[simp] theorem State.modNode_out (s : State) (n : Nat) (f : NodeEnt → NodeEnt) : (s.modNode n f).out = s.out := rfl
@[simp] theorem State.modNode_fresh (s : State) (n : Nat) (f : NodeEnt → NodeEnt) : (s.modNode n f).fresh = s.fresh := rfl
@[simp] theorem State.modNode_glb (s : State) (n : Nat) (f : NodeEnt → NodeEnt) : (s.modNode n f).glb = s.glb := rfl
@[simp] theorem State.modNode_cmds (s : State) (n : Nat) (f : NodeEnt → NodeEnt) : (s.modNode n f).cmds = s.cmds := rfl
@[simp] theorem State.modNode_mbx (s : State) (n : Nat) (f : NodeEnt → NodeEnt) : (s.modNode n f).mbx = s.mbx := rfl
@[simp] theorem State.modNode_pins (s : State) (n : Nat) (f : NodeEnt → NodeEnt) : (s.modNode n f).pins = s.pins := rfl
@[simp] theorem State.modNode_clk (s : State) (n : Nat) (f : NodeEnt → NodeEnt) : (s.modNode n f).clk = s.clk := rfl
@[simp] theorem State.modNode_fuse (s : State) (n : Nat) (f : NodeEnt → NodeEnt) : (s.modNode n f).fuse = s.fuse := rfl
@[simp] theorem State.modNode_lse (s : State) (n : Nat) (f : NodeEnt → NodeEnt) : (s.modNode n f).lse = s.lse := rfl
@[simp] theorem State.modNode_own (s : State) (n : Nat) (f : NodeEnt → NodeEnt) : (s.modNode n f).own = s.own := rfl
@[simp] theorem State.modNode_flt (s : State) (n : Nat) (f : NodeEnt → NodeEnt) : (s.modNode n f).flt = s.flt := rfl
@[simp] theorem State.modNode_ctx (s : State) (n : Nat) (f : NodeEnt → NodeEnt) : (s.modNode n f).ctx = s.ctx := rfl
@[simp] theorem State.modNode_slots (s : State) (n : Nat) (f : NodeEnt → NodeEnt) : (s.modNode n f).slots = s.slots := rfl
@[simp] theorem State.modNode_seams (s : State) (n : Nat) (f : NodeEnt → NodeEnt) : (s.modNode n f).seams = s.seams := rfl
@[simp] theorem State.modNode_budget (s : State) (n : Nat) (f : NodeEnt → NodeEnt) : (s.modNode n f).budget = s.budget := rfl
@[simp] theorem State.modNode_shafts (s : State) (n : Nat) (f : NodeEnt → NodeEnt) : (s.modNode n f).shafts = s.shafts := rfl
@[simp] theorem State.modNode_clus (s : State) (n : Nat) (f : NodeEnt → NodeEnt) : (s.modNode n f).clus = s.clus := rfl
@[simp] theorem State.modNode_hz (s : State) (n : Nat) (f : NodeEnt → NodeEnt) : (s.modNode n f).hz = s.hz := rfl
@[simp] theorem State.modNode_ins (s : State) (n : Nat) (f : NodeEnt → NodeEnt) : (s.modNode n f).ins = s.ins := rfl
@[simp] theorem State.modNode_sites (s : State) (n : Nat) (f : NodeEnt → NodeEnt) : (s.modNode n f).sites = s.sites := rfl
@[simp] theorem State.modNode_sio (s : State) (n : Nat) (f : NodeEnt → NodeEnt) : (s.modNode n f).sio = s.sio := rfl
@[simp] theorem State.modNode_req (s : State) (n : Nat) (f : NodeEnt → NodeEnt) : (s.modNode n f).req = s.req := rfl
@[simp] theorem State.modNode_home (s : State) (n : Nat) (f : NodeEnt → NodeEnt) : (s.modNode n f).home = s.home := rfl
@[simp] theorem State.modNode_cart (s : State) (n : Nat) (f : NodeEnt → NodeEnt) : (s.modNode n f).cart = s.cart := rfl
@[simp] theorem State.modNode_face (s : State) (n : Nat) (f : NodeEnt → NodeEnt) : (s.modNode n f).face = s.face := rfl
@[simp] theorem State.modNode_tal (s : State) (n : Nat) (f : NodeEnt → NodeEnt) : (s.modNode n f).tal = s.tal := rfl
@[simp] theorem State.modNode_wnd (s : State) (n : Nat) (f : NodeEnt → NodeEnt) : (s.modNode n f).wnd = s.wnd := rfl
@[simp] theorem State.modNode_mov (s : State) (n : Nat) (f : NodeEnt → NodeEnt) : (s.modNode n f).mov = s.mov := rfl
@[simp] theorem State.modNode_hst (s : State) (n : Nat) (f : NodeEnt → NodeEnt) : (s.modNode n f).hst = s.hst := rfl
@[simp] theorem State.modNode_vlt (s : State) (n : Nat) (f : NodeEnt → NodeEnt) : (s.modNode n f).vlt = s.vlt := rfl
@[simp] theorem State.modNode_obs (s : State) (n : Nat) (f : NodeEnt → NodeEnt) : (s.modNode n f).obs = s.obs := rfl
@[simp] theorem State.modNode_node (s : State) (n : Nat) (f : NodeEnt → NodeEnt) : (s.modNode n f).node n = f (s.node n) := by simp [State.modNode, State.node]

/-! ### modSlice -/

@[simp] theorem State.modSlice_pending (s : State) (q : Nat) (f : Slice → Slice) : (s.modSlice q f).pending = s.pending := rfl
@[simp] theorem State.modSlice_out (s : State) (q : Nat) (f : Slice → Slice) : (s.modSlice q f).out = s.out := rfl
@[simp] theorem State.modSlice_fresh (s : State) (q : Nat) (f : Slice → Slice) : (s.modSlice q f).fresh = s.fresh := rfl
@[simp] theorem State.modSlice_glb (s : State) (q : Nat) (f : Slice → Slice) : (s.modSlice q f).glb = s.glb := rfl
@[simp] theorem State.modSlice_cmds (s : State) (q : Nat) (f : Slice → Slice) : (s.modSlice q f).cmds = s.cmds := rfl
@[simp] theorem State.modSlice_mbx (s : State) (q : Nat) (f : Slice → Slice) : (s.modSlice q f).mbx = s.mbx := rfl
@[simp] theorem State.modSlice_pins (s : State) (q : Nat) (f : Slice → Slice) : (s.modSlice q f).pins = s.pins := rfl
@[simp] theorem State.modSlice_clk (s : State) (q : Nat) (f : Slice → Slice) : (s.modSlice q f).clk = s.clk := rfl
@[simp] theorem State.modSlice_fuse (s : State) (q : Nat) (f : Slice → Slice) : (s.modSlice q f).fuse = s.fuse := rfl
@[simp] theorem State.modSlice_lse (s : State) (q : Nat) (f : Slice → Slice) : (s.modSlice q f).lse = s.lse := rfl
@[simp] theorem State.modSlice_own (s : State) (q : Nat) (f : Slice → Slice) : (s.modSlice q f).own = s.own := rfl
@[simp] theorem State.modSlice_flt (s : State) (q : Nat) (f : Slice → Slice) : (s.modSlice q f).flt = s.flt := rfl
@[simp] theorem State.modSlice_ctx (s : State) (q : Nat) (f : Slice → Slice) : (s.modSlice q f).ctx = s.ctx := rfl
@[simp] theorem State.modSlice_slots (s : State) (q : Nat) (f : Slice → Slice) : (s.modSlice q f).slots = s.slots := rfl
@[simp] theorem State.modSlice_seams (s : State) (q : Nat) (f : Slice → Slice) : (s.modSlice q f).seams = s.seams := rfl
@[simp] theorem State.modSlice_budget (s : State) (q : Nat) (f : Slice → Slice) : (s.modSlice q f).budget = s.budget := rfl
@[simp] theorem State.modSlice_shafts (s : State) (q : Nat) (f : Slice → Slice) : (s.modSlice q f).shafts = s.shafts := rfl
@[simp] theorem State.modSlice_clus (s : State) (q : Nat) (f : Slice → Slice) : (s.modSlice q f).clus = s.clus := rfl
@[simp] theorem State.modSlice_hz (s : State) (q : Nat) (f : Slice → Slice) : (s.modSlice q f).hz = s.hz := rfl
@[simp] theorem State.modSlice_sites (s : State) (q : Nat) (f : Slice → Slice) : (s.modSlice q f).sites = s.sites := rfl
@[simp] theorem State.modSlice_sio (s : State) (q : Nat) (f : Slice → Slice) : (s.modSlice q f).sio = s.sio := rfl
@[simp] theorem State.modSlice_fab (s : State) (q : Nat) (f : Slice → Slice) : (s.modSlice q f).fab = s.fab := rfl
@[simp] theorem State.modSlice_req (s : State) (q : Nat) (f : Slice → Slice) : (s.modSlice q f).req = s.req := rfl
@[simp] theorem State.modSlice_home (s : State) (q : Nat) (f : Slice → Slice) : (s.modSlice q f).home = s.home := rfl
@[simp] theorem State.modSlice_cart (s : State) (q : Nat) (f : Slice → Slice) : (s.modSlice q f).cart = s.cart := rfl
@[simp] theorem State.modSlice_face (s : State) (q : Nat) (f : Slice → Slice) : (s.modSlice q f).face = s.face := rfl
@[simp] theorem State.modSlice_tal (s : State) (q : Nat) (f : Slice → Slice) : (s.modSlice q f).tal = s.tal := rfl
@[simp] theorem State.modSlice_wnd (s : State) (q : Nat) (f : Slice → Slice) : (s.modSlice q f).wnd = s.wnd := rfl
@[simp] theorem State.modSlice_mov (s : State) (q : Nat) (f : Slice → Slice) : (s.modSlice q f).mov = s.mov := rfl
@[simp] theorem State.modSlice_hst (s : State) (q : Nat) (f : Slice → Slice) : (s.modSlice q f).hst = s.hst := rfl
@[simp] theorem State.modSlice_vlt (s : State) (q : Nat) (f : Slice → Slice) : (s.modSlice q f).vlt = s.vlt := rfl
@[simp] theorem State.modSlice_obs (s : State) (q : Nat) (f : Slice → Slice) : (s.modSlice q f).obs = s.obs := rfl
@[simp] theorem State.modSlice_slice (s : State) (q : Nat) (f : Slice → Slice) : (s.modSlice q f).slice q = f (s.slice q) := by simp [State.modSlice, State.slice]

/-! ### modHz -/

@[simp] theorem State.modHz_pending (s : State) (p : Nat) (f : Horizon → Horizon) : (s.modHz p f).pending = s.pending := rfl
@[simp] theorem State.modHz_out (s : State) (p : Nat) (f : Horizon → Horizon) : (s.modHz p f).out = s.out := rfl
@[simp] theorem State.modHz_fresh (s : State) (p : Nat) (f : Horizon → Horizon) : (s.modHz p f).fresh = s.fresh := rfl
@[simp] theorem State.modHz_glb (s : State) (p : Nat) (f : Horizon → Horizon) : (s.modHz p f).glb = s.glb := rfl
@[simp] theorem State.modHz_cmds (s : State) (p : Nat) (f : Horizon → Horizon) : (s.modHz p f).cmds = s.cmds := rfl
@[simp] theorem State.modHz_mbx (s : State) (p : Nat) (f : Horizon → Horizon) : (s.modHz p f).mbx = s.mbx := rfl
@[simp] theorem State.modHz_pins (s : State) (p : Nat) (f : Horizon → Horizon) : (s.modHz p f).pins = s.pins := rfl
@[simp] theorem State.modHz_clk (s : State) (p : Nat) (f : Horizon → Horizon) : (s.modHz p f).clk = s.clk := rfl
@[simp] theorem State.modHz_fuse (s : State) (p : Nat) (f : Horizon → Horizon) : (s.modHz p f).fuse = s.fuse := rfl
@[simp] theorem State.modHz_lse (s : State) (p : Nat) (f : Horizon → Horizon) : (s.modHz p f).lse = s.lse := rfl
@[simp] theorem State.modHz_own (s : State) (p : Nat) (f : Horizon → Horizon) : (s.modHz p f).own = s.own := rfl
@[simp] theorem State.modHz_flt (s : State) (p : Nat) (f : Horizon → Horizon) : (s.modHz p f).flt = s.flt := rfl
@[simp] theorem State.modHz_ctx (s : State) (p : Nat) (f : Horizon → Horizon) : (s.modHz p f).ctx = s.ctx := rfl
@[simp] theorem State.modHz_slots (s : State) (p : Nat) (f : Horizon → Horizon) : (s.modHz p f).slots = s.slots := rfl
@[simp] theorem State.modHz_seams (s : State) (p : Nat) (f : Horizon → Horizon) : (s.modHz p f).seams = s.seams := rfl
@[simp] theorem State.modHz_budget (s : State) (p : Nat) (f : Horizon → Horizon) : (s.modHz p f).budget = s.budget := rfl
@[simp] theorem State.modHz_shafts (s : State) (p : Nat) (f : Horizon → Horizon) : (s.modHz p f).shafts = s.shafts := rfl
@[simp] theorem State.modHz_clus (s : State) (p : Nat) (f : Horizon → Horizon) : (s.modHz p f).clus = s.clus := rfl
@[simp] theorem State.modHz_ins (s : State) (p : Nat) (f : Horizon → Horizon) : (s.modHz p f).ins = s.ins := rfl
@[simp] theorem State.modHz_sites (s : State) (p : Nat) (f : Horizon → Horizon) : (s.modHz p f).sites = s.sites := rfl
@[simp] theorem State.modHz_sio (s : State) (p : Nat) (f : Horizon → Horizon) : (s.modHz p f).sio = s.sio := rfl
@[simp] theorem State.modHz_fab (s : State) (p : Nat) (f : Horizon → Horizon) : (s.modHz p f).fab = s.fab := rfl
@[simp] theorem State.modHz_req (s : State) (p : Nat) (f : Horizon → Horizon) : (s.modHz p f).req = s.req := rfl
@[simp] theorem State.modHz_home (s : State) (p : Nat) (f : Horizon → Horizon) : (s.modHz p f).home = s.home := rfl
@[simp] theorem State.modHz_cart (s : State) (p : Nat) (f : Horizon → Horizon) : (s.modHz p f).cart = s.cart := rfl
@[simp] theorem State.modHz_face (s : State) (p : Nat) (f : Horizon → Horizon) : (s.modHz p f).face = s.face := rfl
@[simp] theorem State.modHz_tal (s : State) (p : Nat) (f : Horizon → Horizon) : (s.modHz p f).tal = s.tal := rfl
@[simp] theorem State.modHz_wnd (s : State) (p : Nat) (f : Horizon → Horizon) : (s.modHz p f).wnd = s.wnd := rfl
@[simp] theorem State.modHz_mov (s : State) (p : Nat) (f : Horizon → Horizon) : (s.modHz p f).mov = s.mov := rfl
@[simp] theorem State.modHz_hst (s : State) (p : Nat) (f : Horizon → Horizon) : (s.modHz p f).hst = s.hst := rfl
@[simp] theorem State.modHz_vlt (s : State) (p : Nat) (f : Horizon → Horizon) : (s.modHz p f).vlt = s.vlt := rfl
@[simp] theorem State.modHz_obs (s : State) (p : Nat) (f : Horizon → Horizon) : (s.modHz p f).obs = s.obs := rfl

/-! ### modChan -/

@[simp] theorem State.modChan_pending (s : State) (c : Nat) (f : Chan → Chan) : (s.modChan c f).pending = s.pending := rfl
@[simp] theorem State.modChan_out (s : State) (c : Nat) (f : Chan → Chan) : (s.modChan c f).out = s.out := rfl
@[simp] theorem State.modChan_fresh (s : State) (c : Nat) (f : Chan → Chan) : (s.modChan c f).fresh = s.fresh := rfl
@[simp] theorem State.modChan_glb (s : State) (c : Nat) (f : Chan → Chan) : (s.modChan c f).glb = s.glb := rfl
@[simp] theorem State.modChan_cmds (s : State) (c : Nat) (f : Chan → Chan) : (s.modChan c f).cmds = s.cmds := rfl
@[simp] theorem State.modChan_mbx (s : State) (c : Nat) (f : Chan → Chan) : (s.modChan c f).mbx = s.mbx := rfl
@[simp] theorem State.modChan_pins (s : State) (c : Nat) (f : Chan → Chan) : (s.modChan c f).pins = s.pins := rfl
@[simp] theorem State.modChan_clk (s : State) (c : Nat) (f : Chan → Chan) : (s.modChan c f).clk = s.clk := rfl
@[simp] theorem State.modChan_fuse (s : State) (c : Nat) (f : Chan → Chan) : (s.modChan c f).fuse = s.fuse := rfl
@[simp] theorem State.modChan_lse (s : State) (c : Nat) (f : Chan → Chan) : (s.modChan c f).lse = s.lse := rfl
@[simp] theorem State.modChan_own (s : State) (c : Nat) (f : Chan → Chan) : (s.modChan c f).own = s.own := rfl
@[simp] theorem State.modChan_flt (s : State) (c : Nat) (f : Chan → Chan) : (s.modChan c f).flt = s.flt := rfl
@[simp] theorem State.modChan_ctx (s : State) (c : Nat) (f : Chan → Chan) : (s.modChan c f).ctx = s.ctx := rfl
@[simp] theorem State.modChan_slots (s : State) (c : Nat) (f : Chan → Chan) : (s.modChan c f).slots = s.slots := rfl
@[simp] theorem State.modChan_seams (s : State) (c : Nat) (f : Chan → Chan) : (s.modChan c f).seams = s.seams := rfl
@[simp] theorem State.modChan_budget (s : State) (c : Nat) (f : Chan → Chan) : (s.modChan c f).budget = s.budget := rfl
@[simp] theorem State.modChan_shafts (s : State) (c : Nat) (f : Chan → Chan) : (s.modChan c f).shafts = s.shafts := rfl
@[simp] theorem State.modChan_clus (s : State) (c : Nat) (f : Chan → Chan) : (s.modChan c f).clus = s.clus := rfl
@[simp] theorem State.modChan_hz (s : State) (c : Nat) (f : Chan → Chan) : (s.modChan c f).hz = s.hz := rfl
@[simp] theorem State.modChan_ins (s : State) (c : Nat) (f : Chan → Chan) : (s.modChan c f).ins = s.ins := rfl
@[simp] theorem State.modChan_sites (s : State) (c : Nat) (f : Chan → Chan) : (s.modChan c f).sites = s.sites := rfl
@[simp] theorem State.modChan_sio (s : State) (c : Nat) (f : Chan → Chan) : (s.modChan c f).sio = s.sio := rfl
@[simp] theorem State.modChan_fab (s : State) (c : Nat) (f : Chan → Chan) : (s.modChan c f).fab = s.fab := rfl
@[simp] theorem State.modChan_req (s : State) (c : Nat) (f : Chan → Chan) : (s.modChan c f).req = s.req := rfl
@[simp] theorem State.modChan_home (s : State) (c : Nat) (f : Chan → Chan) : (s.modChan c f).home = s.home := rfl
@[simp] theorem State.modChan_cart (s : State) (c : Nat) (f : Chan → Chan) : (s.modChan c f).cart = s.cart := rfl
@[simp] theorem State.modChan_face (s : State) (c : Nat) (f : Chan → Chan) : (s.modChan c f).face = s.face := rfl
@[simp] theorem State.modChan_tal (s : State) (c : Nat) (f : Chan → Chan) : (s.modChan c f).tal = s.tal := rfl
@[simp] theorem State.modChan_wnd (s : State) (c : Nat) (f : Chan → Chan) : (s.modChan c f).wnd = s.wnd := rfl
@[simp] theorem State.modChan_hst (s : State) (c : Nat) (f : Chan → Chan) : (s.modChan c f).hst = s.hst := rfl
@[simp] theorem State.modChan_vlt (s : State) (c : Nat) (f : Chan → Chan) : (s.modChan c f).vlt = s.vlt := rfl
@[simp] theorem State.modChan_obs (s : State) (c : Nat) (f : Chan → Chan) : (s.modChan c f).obs = s.obs := rfl
@[simp] theorem State.modChan_chan (s : State) (c : Nat) (f : Chan → Chan) : (s.modChan c f).chan c = f (s.chan c) := by simp [State.modChan, State.chan]

/-! ### modObs -/

@[simp] theorem State.modObs_pending (s : State) (f : ObsSt → ObsSt) : (s.modObs f).pending = s.pending := rfl
@[simp] theorem State.modObs_out (s : State) (f : ObsSt → ObsSt) : (s.modObs f).out = s.out := rfl
@[simp] theorem State.modObs_fresh (s : State) (f : ObsSt → ObsSt) : (s.modObs f).fresh = s.fresh := rfl
@[simp] theorem State.modObs_glb (s : State) (f : ObsSt → ObsSt) : (s.modObs f).glb = s.glb := rfl
@[simp] theorem State.modObs_cmds (s : State) (f : ObsSt → ObsSt) : (s.modObs f).cmds = s.cmds := rfl
@[simp] theorem State.modObs_mbx (s : State) (f : ObsSt → ObsSt) : (s.modObs f).mbx = s.mbx := rfl
@[simp] theorem State.modObs_pins (s : State) (f : ObsSt → ObsSt) : (s.modObs f).pins = s.pins := rfl
@[simp] theorem State.modObs_clk (s : State) (f : ObsSt → ObsSt) : (s.modObs f).clk = s.clk := rfl
@[simp] theorem State.modObs_fuse (s : State) (f : ObsSt → ObsSt) : (s.modObs f).fuse = s.fuse := rfl
@[simp] theorem State.modObs_lse (s : State) (f : ObsSt → ObsSt) : (s.modObs f).lse = s.lse := rfl
@[simp] theorem State.modObs_own (s : State) (f : ObsSt → ObsSt) : (s.modObs f).own = s.own := rfl
@[simp] theorem State.modObs_flt (s : State) (f : ObsSt → ObsSt) : (s.modObs f).flt = s.flt := rfl
@[simp] theorem State.modObs_ctx (s : State) (f : ObsSt → ObsSt) : (s.modObs f).ctx = s.ctx := rfl
@[simp] theorem State.modObs_slots (s : State) (f : ObsSt → ObsSt) : (s.modObs f).slots = s.slots := rfl
@[simp] theorem State.modObs_seams (s : State) (f : ObsSt → ObsSt) : (s.modObs f).seams = s.seams := rfl
@[simp] theorem State.modObs_budget (s : State) (f : ObsSt → ObsSt) : (s.modObs f).budget = s.budget := rfl
@[simp] theorem State.modObs_shafts (s : State) (f : ObsSt → ObsSt) : (s.modObs f).shafts = s.shafts := rfl
@[simp] theorem State.modObs_clus (s : State) (f : ObsSt → ObsSt) : (s.modObs f).clus = s.clus := rfl
@[simp] theorem State.modObs_hz (s : State) (f : ObsSt → ObsSt) : (s.modObs f).hz = s.hz := rfl
@[simp] theorem State.modObs_ins (s : State) (f : ObsSt → ObsSt) : (s.modObs f).ins = s.ins := rfl
@[simp] theorem State.modObs_sites (s : State) (f : ObsSt → ObsSt) : (s.modObs f).sites = s.sites := rfl
@[simp] theorem State.modObs_sio (s : State) (f : ObsSt → ObsSt) : (s.modObs f).sio = s.sio := rfl
@[simp] theorem State.modObs_fab (s : State) (f : ObsSt → ObsSt) : (s.modObs f).fab = s.fab := rfl
@[simp] theorem State.modObs_req (s : State) (f : ObsSt → ObsSt) : (s.modObs f).req = s.req := rfl
@[simp] theorem State.modObs_home (s : State) (f : ObsSt → ObsSt) : (s.modObs f).home = s.home := rfl
@[simp] theorem State.modObs_cart (s : State) (f : ObsSt → ObsSt) : (s.modObs f).cart = s.cart := rfl
@[simp] theorem State.modObs_face (s : State) (f : ObsSt → ObsSt) : (s.modObs f).face = s.face := rfl
@[simp] theorem State.modObs_tal (s : State) (f : ObsSt → ObsSt) : (s.modObs f).tal = s.tal := rfl
@[simp] theorem State.modObs_wnd (s : State) (f : ObsSt → ObsSt) : (s.modObs f).wnd = s.wnd := rfl
@[simp] theorem State.modObs_mov (s : State) (f : ObsSt → ObsSt) : (s.modObs f).mov = s.mov := rfl
@[simp] theorem State.modObs_hst (s : State) (f : ObsSt → ObsSt) : (s.modObs f).hst = s.hst := rfl
@[simp] theorem State.modObs_vlt (s : State) (f : ObsSt → ObsSt) : (s.modObs f).vlt = s.vlt := rfl

/-! ### modVlt -/

@[simp] theorem State.modVlt_pending (s : State) (f : VltSt → VltSt) : (s.modVlt f).pending = s.pending := rfl
@[simp] theorem State.modVlt_out (s : State) (f : VltSt → VltSt) : (s.modVlt f).out = s.out := rfl
@[simp] theorem State.modVlt_fresh (s : State) (f : VltSt → VltSt) : (s.modVlt f).fresh = s.fresh := rfl
@[simp] theorem State.modVlt_glb (s : State) (f : VltSt → VltSt) : (s.modVlt f).glb = s.glb := rfl
@[simp] theorem State.modVlt_cmds (s : State) (f : VltSt → VltSt) : (s.modVlt f).cmds = s.cmds := rfl
@[simp] theorem State.modVlt_mbx (s : State) (f : VltSt → VltSt) : (s.modVlt f).mbx = s.mbx := rfl
@[simp] theorem State.modVlt_pins (s : State) (f : VltSt → VltSt) : (s.modVlt f).pins = s.pins := rfl
@[simp] theorem State.modVlt_clk (s : State) (f : VltSt → VltSt) : (s.modVlt f).clk = s.clk := rfl
@[simp] theorem State.modVlt_fuse (s : State) (f : VltSt → VltSt) : (s.modVlt f).fuse = s.fuse := rfl
@[simp] theorem State.modVlt_lse (s : State) (f : VltSt → VltSt) : (s.modVlt f).lse = s.lse := rfl
@[simp] theorem State.modVlt_own (s : State) (f : VltSt → VltSt) : (s.modVlt f).own = s.own := rfl
@[simp] theorem State.modVlt_flt (s : State) (f : VltSt → VltSt) : (s.modVlt f).flt = s.flt := rfl
@[simp] theorem State.modVlt_ctx (s : State) (f : VltSt → VltSt) : (s.modVlt f).ctx = s.ctx := rfl
@[simp] theorem State.modVlt_slots (s : State) (f : VltSt → VltSt) : (s.modVlt f).slots = s.slots := rfl
@[simp] theorem State.modVlt_seams (s : State) (f : VltSt → VltSt) : (s.modVlt f).seams = s.seams := rfl
@[simp] theorem State.modVlt_budget (s : State) (f : VltSt → VltSt) : (s.modVlt f).budget = s.budget := rfl
@[simp] theorem State.modVlt_shafts (s : State) (f : VltSt → VltSt) : (s.modVlt f).shafts = s.shafts := rfl
@[simp] theorem State.modVlt_clus (s : State) (f : VltSt → VltSt) : (s.modVlt f).clus = s.clus := rfl
@[simp] theorem State.modVlt_hz (s : State) (f : VltSt → VltSt) : (s.modVlt f).hz = s.hz := rfl
@[simp] theorem State.modVlt_ins (s : State) (f : VltSt → VltSt) : (s.modVlt f).ins = s.ins := rfl
@[simp] theorem State.modVlt_sites (s : State) (f : VltSt → VltSt) : (s.modVlt f).sites = s.sites := rfl
@[simp] theorem State.modVlt_sio (s : State) (f : VltSt → VltSt) : (s.modVlt f).sio = s.sio := rfl
@[simp] theorem State.modVlt_fab (s : State) (f : VltSt → VltSt) : (s.modVlt f).fab = s.fab := rfl
@[simp] theorem State.modVlt_req (s : State) (f : VltSt → VltSt) : (s.modVlt f).req = s.req := rfl
@[simp] theorem State.modVlt_home (s : State) (f : VltSt → VltSt) : (s.modVlt f).home = s.home := rfl
@[simp] theorem State.modVlt_cart (s : State) (f : VltSt → VltSt) : (s.modVlt f).cart = s.cart := rfl
@[simp] theorem State.modVlt_face (s : State) (f : VltSt → VltSt) : (s.modVlt f).face = s.face := rfl
@[simp] theorem State.modVlt_tal (s : State) (f : VltSt → VltSt) : (s.modVlt f).tal = s.tal := rfl
@[simp] theorem State.modVlt_wnd (s : State) (f : VltSt → VltSt) : (s.modVlt f).wnd = s.wnd := rfl
@[simp] theorem State.modVlt_mov (s : State) (f : VltSt → VltSt) : (s.modVlt f).mov = s.mov := rfl
@[simp] theorem State.modVlt_hst (s : State) (f : VltSt → VltSt) : (s.modVlt f).hst = s.hst := rfl
@[simp] theorem State.modVlt_obs (s : State) (f : VltSt → VltSt) : (s.modVlt f).obs = s.obs := rfl

/-! ### setSlot -/

@[simp] theorem State.setSlot_pending (s : State) (n : Nat) (k : Slot) : (s.setSlot n k).pending = s.pending := rfl
@[simp] theorem State.setSlot_out (s : State) (n : Nat) (k : Slot) : (s.setSlot n k).out = s.out := rfl
@[simp] theorem State.setSlot_fresh (s : State) (n : Nat) (k : Slot) : (s.setSlot n k).fresh = s.fresh := rfl
@[simp] theorem State.setSlot_glb (s : State) (n : Nat) (k : Slot) : (s.setSlot n k).glb = s.glb := rfl
@[simp] theorem State.setSlot_cmds (s : State) (n : Nat) (k : Slot) : (s.setSlot n k).cmds = s.cmds := rfl
@[simp] theorem State.setSlot_mbx (s : State) (n : Nat) (k : Slot) : (s.setSlot n k).mbx = s.mbx := rfl
@[simp] theorem State.setSlot_pins (s : State) (n : Nat) (k : Slot) : (s.setSlot n k).pins = s.pins := rfl
@[simp] theorem State.setSlot_clk (s : State) (n : Nat) (k : Slot) : (s.setSlot n k).clk = s.clk := rfl
@[simp] theorem State.setSlot_fuse (s : State) (n : Nat) (k : Slot) : (s.setSlot n k).fuse = s.fuse := rfl
@[simp] theorem State.setSlot_lse (s : State) (n : Nat) (k : Slot) : (s.setSlot n k).lse = s.lse := rfl
@[simp] theorem State.setSlot_own (s : State) (n : Nat) (k : Slot) : (s.setSlot n k).own = s.own := rfl
@[simp] theorem State.setSlot_flt (s : State) (n : Nat) (k : Slot) : (s.setSlot n k).flt = s.flt := rfl
@[simp] theorem State.setSlot_ctx (s : State) (n : Nat) (k : Slot) : (s.setSlot n k).ctx = s.ctx := rfl
@[simp] theorem State.setSlot_seams (s : State) (n : Nat) (k : Slot) : (s.setSlot n k).seams = s.seams := rfl
@[simp] theorem State.setSlot_budget (s : State) (n : Nat) (k : Slot) : (s.setSlot n k).budget = s.budget := rfl
@[simp] theorem State.setSlot_shafts (s : State) (n : Nat) (k : Slot) : (s.setSlot n k).shafts = s.shafts := rfl
@[simp] theorem State.setSlot_clus (s : State) (n : Nat) (k : Slot) : (s.setSlot n k).clus = s.clus := rfl
@[simp] theorem State.setSlot_hz (s : State) (n : Nat) (k : Slot) : (s.setSlot n k).hz = s.hz := rfl
@[simp] theorem State.setSlot_ins (s : State) (n : Nat) (k : Slot) : (s.setSlot n k).ins = s.ins := rfl
@[simp] theorem State.setSlot_sites (s : State) (n : Nat) (k : Slot) : (s.setSlot n k).sites = s.sites := rfl
@[simp] theorem State.setSlot_sio (s : State) (n : Nat) (k : Slot) : (s.setSlot n k).sio = s.sio := rfl
@[simp] theorem State.setSlot_fab (s : State) (n : Nat) (k : Slot) : (s.setSlot n k).fab = s.fab := rfl
@[simp] theorem State.setSlot_req (s : State) (n : Nat) (k : Slot) : (s.setSlot n k).req = s.req := rfl
@[simp] theorem State.setSlot_home (s : State) (n : Nat) (k : Slot) : (s.setSlot n k).home = s.home := rfl
@[simp] theorem State.setSlot_cart (s : State) (n : Nat) (k : Slot) : (s.setSlot n k).cart = s.cart := rfl
@[simp] theorem State.setSlot_face (s : State) (n : Nat) (k : Slot) : (s.setSlot n k).face = s.face := rfl
@[simp] theorem State.setSlot_tal (s : State) (n : Nat) (k : Slot) : (s.setSlot n k).tal = s.tal := rfl
@[simp] theorem State.setSlot_wnd (s : State) (n : Nat) (k : Slot) : (s.setSlot n k).wnd = s.wnd := rfl
@[simp] theorem State.setSlot_mov (s : State) (n : Nat) (k : Slot) : (s.setSlot n k).mov = s.mov := rfl
@[simp] theorem State.setSlot_hst (s : State) (n : Nat) (k : Slot) : (s.setSlot n k).hst = s.hst := rfl
@[simp] theorem State.setSlot_vlt (s : State) (n : Nat) (k : Slot) : (s.setSlot n k).vlt = s.vlt := rfl
@[simp] theorem State.setSlot_obs (s : State) (n : Nat) (k : Slot) : (s.setSlot n k).obs = s.obs := rfl
@[simp] theorem State.setSlot_slot (s : State) (n : Nat) (k : Slot) : (s.setSlot n k).slot n = k := by simp [State.setSlot, State.slot]

/-! ### modReq -/

@[simp] theorem State.modReq_pending (s : State) (tag : Nat) (f : Req → Req) : (s.modReq tag f).pending = s.pending := rfl
@[simp] theorem State.modReq_out (s : State) (tag : Nat) (f : Req → Req) : (s.modReq tag f).out = s.out := rfl
@[simp] theorem State.modReq_fresh (s : State) (tag : Nat) (f : Req → Req) : (s.modReq tag f).fresh = s.fresh := rfl
@[simp] theorem State.modReq_glb (s : State) (tag : Nat) (f : Req → Req) : (s.modReq tag f).glb = s.glb := rfl
@[simp] theorem State.modReq_cmds (s : State) (tag : Nat) (f : Req → Req) : (s.modReq tag f).cmds = s.cmds := rfl
@[simp] theorem State.modReq_mbx (s : State) (tag : Nat) (f : Req → Req) : (s.modReq tag f).mbx = s.mbx := rfl
@[simp] theorem State.modReq_pins (s : State) (tag : Nat) (f : Req → Req) : (s.modReq tag f).pins = s.pins := rfl
@[simp] theorem State.modReq_clk (s : State) (tag : Nat) (f : Req → Req) : (s.modReq tag f).clk = s.clk := rfl
@[simp] theorem State.modReq_fuse (s : State) (tag : Nat) (f : Req → Req) : (s.modReq tag f).fuse = s.fuse := rfl
@[simp] theorem State.modReq_lse (s : State) (tag : Nat) (f : Req → Req) : (s.modReq tag f).lse = s.lse := rfl
@[simp] theorem State.modReq_own (s : State) (tag : Nat) (f : Req → Req) : (s.modReq tag f).own = s.own := rfl
@[simp] theorem State.modReq_flt (s : State) (tag : Nat) (f : Req → Req) : (s.modReq tag f).flt = s.flt := rfl
@[simp] theorem State.modReq_ctx (s : State) (tag : Nat) (f : Req → Req) : (s.modReq tag f).ctx = s.ctx := rfl
@[simp] theorem State.modReq_slots (s : State) (tag : Nat) (f : Req → Req) : (s.modReq tag f).slots = s.slots := rfl
@[simp] theorem State.modReq_seams (s : State) (tag : Nat) (f : Req → Req) : (s.modReq tag f).seams = s.seams := rfl
@[simp] theorem State.modReq_budget (s : State) (tag : Nat) (f : Req → Req) : (s.modReq tag f).budget = s.budget := rfl
@[simp] theorem State.modReq_shafts (s : State) (tag : Nat) (f : Req → Req) : (s.modReq tag f).shafts = s.shafts := rfl
@[simp] theorem State.modReq_clus (s : State) (tag : Nat) (f : Req → Req) : (s.modReq tag f).clus = s.clus := rfl
@[simp] theorem State.modReq_hz (s : State) (tag : Nat) (f : Req → Req) : (s.modReq tag f).hz = s.hz := rfl
@[simp] theorem State.modReq_ins (s : State) (tag : Nat) (f : Req → Req) : (s.modReq tag f).ins = s.ins := rfl
@[simp] theorem State.modReq_sites (s : State) (tag : Nat) (f : Req → Req) : (s.modReq tag f).sites = s.sites := rfl
@[simp] theorem State.modReq_sio (s : State) (tag : Nat) (f : Req → Req) : (s.modReq tag f).sio = s.sio := rfl
@[simp] theorem State.modReq_fab (s : State) (tag : Nat) (f : Req → Req) : (s.modReq tag f).fab = s.fab := rfl
@[simp] theorem State.modReq_home (s : State) (tag : Nat) (f : Req → Req) : (s.modReq tag f).home = s.home := rfl
@[simp] theorem State.modReq_cart (s : State) (tag : Nat) (f : Req → Req) : (s.modReq tag f).cart = s.cart := rfl
@[simp] theorem State.modReq_face (s : State) (tag : Nat) (f : Req → Req) : (s.modReq tag f).face = s.face := rfl
@[simp] theorem State.modReq_tal (s : State) (tag : Nat) (f : Req → Req) : (s.modReq tag f).tal = s.tal := rfl
@[simp] theorem State.modReq_wnd (s : State) (tag : Nat) (f : Req → Req) : (s.modReq tag f).wnd = s.wnd := rfl
@[simp] theorem State.modReq_mov (s : State) (tag : Nat) (f : Req → Req) : (s.modReq tag f).mov = s.mov := rfl
@[simp] theorem State.modReq_hst (s : State) (tag : Nat) (f : Req → Req) : (s.modReq tag f).hst = s.hst := rfl
@[simp] theorem State.modReq_vlt (s : State) (tag : Nat) (f : Req → Req) : (s.modReq tag f).vlt = s.vlt := rfl
@[simp] theorem State.modReq_obs (s : State) (tag : Nat) (f : Req → Req) : (s.modReq tag f).obs = s.obs := rfl

/-! ### modCart -/

@[simp] theorem State.modCart_pending (s : State) (id : Nat) (f : Cart → Cart) : (s.modCart id f).pending = s.pending := rfl
@[simp] theorem State.modCart_out (s : State) (id : Nat) (f : Cart → Cart) : (s.modCart id f).out = s.out := rfl
@[simp] theorem State.modCart_fresh (s : State) (id : Nat) (f : Cart → Cart) : (s.modCart id f).fresh = s.fresh := rfl
@[simp] theorem State.modCart_glb (s : State) (id : Nat) (f : Cart → Cart) : (s.modCart id f).glb = s.glb := rfl
@[simp] theorem State.modCart_cmds (s : State) (id : Nat) (f : Cart → Cart) : (s.modCart id f).cmds = s.cmds := rfl
@[simp] theorem State.modCart_mbx (s : State) (id : Nat) (f : Cart → Cart) : (s.modCart id f).mbx = s.mbx := rfl
@[simp] theorem State.modCart_pins (s : State) (id : Nat) (f : Cart → Cart) : (s.modCart id f).pins = s.pins := rfl
@[simp] theorem State.modCart_clk (s : State) (id : Nat) (f : Cart → Cart) : (s.modCart id f).clk = s.clk := rfl
@[simp] theorem State.modCart_fuse (s : State) (id : Nat) (f : Cart → Cart) : (s.modCart id f).fuse = s.fuse := rfl
@[simp] theorem State.modCart_lse (s : State) (id : Nat) (f : Cart → Cart) : (s.modCart id f).lse = s.lse := rfl
@[simp] theorem State.modCart_own (s : State) (id : Nat) (f : Cart → Cart) : (s.modCart id f).own = s.own := rfl
@[simp] theorem State.modCart_flt (s : State) (id : Nat) (f : Cart → Cart) : (s.modCart id f).flt = s.flt := rfl
@[simp] theorem State.modCart_ctx (s : State) (id : Nat) (f : Cart → Cart) : (s.modCart id f).ctx = s.ctx := rfl
@[simp] theorem State.modCart_slots (s : State) (id : Nat) (f : Cart → Cart) : (s.modCart id f).slots = s.slots := rfl
@[simp] theorem State.modCart_seams (s : State) (id : Nat) (f : Cart → Cart) : (s.modCart id f).seams = s.seams := rfl
@[simp] theorem State.modCart_budget (s : State) (id : Nat) (f : Cart → Cart) : (s.modCart id f).budget = s.budget := rfl
@[simp] theorem State.modCart_shafts (s : State) (id : Nat) (f : Cart → Cart) : (s.modCart id f).shafts = s.shafts := rfl
@[simp] theorem State.modCart_clus (s : State) (id : Nat) (f : Cart → Cart) : (s.modCart id f).clus = s.clus := rfl
@[simp] theorem State.modCart_hz (s : State) (id : Nat) (f : Cart → Cart) : (s.modCart id f).hz = s.hz := rfl
@[simp] theorem State.modCart_ins (s : State) (id : Nat) (f : Cart → Cart) : (s.modCart id f).ins = s.ins := rfl
@[simp] theorem State.modCart_sites (s : State) (id : Nat) (f : Cart → Cart) : (s.modCart id f).sites = s.sites := rfl
@[simp] theorem State.modCart_sio (s : State) (id : Nat) (f : Cart → Cart) : (s.modCart id f).sio = s.sio := rfl
@[simp] theorem State.modCart_fab (s : State) (id : Nat) (f : Cart → Cart) : (s.modCart id f).fab = s.fab := rfl
@[simp] theorem State.modCart_req (s : State) (id : Nat) (f : Cart → Cart) : (s.modCart id f).req = s.req := rfl
@[simp] theorem State.modCart_home (s : State) (id : Nat) (f : Cart → Cart) : (s.modCart id f).home = s.home := rfl
@[simp] theorem State.modCart_face (s : State) (id : Nat) (f : Cart → Cart) : (s.modCart id f).face = s.face := rfl
@[simp] theorem State.modCart_tal (s : State) (id : Nat) (f : Cart → Cart) : (s.modCart id f).tal = s.tal := rfl
@[simp] theorem State.modCart_wnd (s : State) (id : Nat) (f : Cart → Cart) : (s.modCart id f).wnd = s.wnd := rfl
@[simp] theorem State.modCart_mov (s : State) (id : Nat) (f : Cart → Cart) : (s.modCart id f).mov = s.mov := rfl
@[simp] theorem State.modCart_hst (s : State) (id : Nat) (f : Cart → Cart) : (s.modCart id f).hst = s.hst := rfl
@[simp] theorem State.modCart_vlt (s : State) (id : Nat) (f : Cart → Cart) : (s.modCart id f).vlt = s.vlt := rfl
@[simp] theorem State.modCart_obs (s : State) (id : Nat) (f : Cart → Cart) : (s.modCart id f).obs = s.obs := rfl

/-! ### modEntry -/

@[simp] theorem State.modEntry_pending (s : State) (id : Nat) (f : HomeEntry → HomeEntry) : (s.modEntry id f).pending = s.pending := rfl
@[simp] theorem State.modEntry_out (s : State) (id : Nat) (f : HomeEntry → HomeEntry) : (s.modEntry id f).out = s.out := rfl
@[simp] theorem State.modEntry_fresh (s : State) (id : Nat) (f : HomeEntry → HomeEntry) : (s.modEntry id f).fresh = s.fresh := rfl
@[simp] theorem State.modEntry_glb (s : State) (id : Nat) (f : HomeEntry → HomeEntry) : (s.modEntry id f).glb = s.glb := rfl
@[simp] theorem State.modEntry_cmds (s : State) (id : Nat) (f : HomeEntry → HomeEntry) : (s.modEntry id f).cmds = s.cmds := rfl
@[simp] theorem State.modEntry_mbx (s : State) (id : Nat) (f : HomeEntry → HomeEntry) : (s.modEntry id f).mbx = s.mbx := rfl
@[simp] theorem State.modEntry_pins (s : State) (id : Nat) (f : HomeEntry → HomeEntry) : (s.modEntry id f).pins = s.pins := rfl
@[simp] theorem State.modEntry_clk (s : State) (id : Nat) (f : HomeEntry → HomeEntry) : (s.modEntry id f).clk = s.clk := rfl
@[simp] theorem State.modEntry_fuse (s : State) (id : Nat) (f : HomeEntry → HomeEntry) : (s.modEntry id f).fuse = s.fuse := rfl
@[simp] theorem State.modEntry_lse (s : State) (id : Nat) (f : HomeEntry → HomeEntry) : (s.modEntry id f).lse = s.lse := rfl
@[simp] theorem State.modEntry_own (s : State) (id : Nat) (f : HomeEntry → HomeEntry) : (s.modEntry id f).own = s.own := rfl
@[simp] theorem State.modEntry_flt (s : State) (id : Nat) (f : HomeEntry → HomeEntry) : (s.modEntry id f).flt = s.flt := rfl
@[simp] theorem State.modEntry_ctx (s : State) (id : Nat) (f : HomeEntry → HomeEntry) : (s.modEntry id f).ctx = s.ctx := rfl
@[simp] theorem State.modEntry_slots (s : State) (id : Nat) (f : HomeEntry → HomeEntry) : (s.modEntry id f).slots = s.slots := rfl
@[simp] theorem State.modEntry_seams (s : State) (id : Nat) (f : HomeEntry → HomeEntry) : (s.modEntry id f).seams = s.seams := rfl
@[simp] theorem State.modEntry_budget (s : State) (id : Nat) (f : HomeEntry → HomeEntry) : (s.modEntry id f).budget = s.budget := rfl
@[simp] theorem State.modEntry_shafts (s : State) (id : Nat) (f : HomeEntry → HomeEntry) : (s.modEntry id f).shafts = s.shafts := rfl
@[simp] theorem State.modEntry_clus (s : State) (id : Nat) (f : HomeEntry → HomeEntry) : (s.modEntry id f).clus = s.clus := rfl
@[simp] theorem State.modEntry_hz (s : State) (id : Nat) (f : HomeEntry → HomeEntry) : (s.modEntry id f).hz = s.hz := rfl
@[simp] theorem State.modEntry_ins (s : State) (id : Nat) (f : HomeEntry → HomeEntry) : (s.modEntry id f).ins = s.ins := rfl
@[simp] theorem State.modEntry_sites (s : State) (id : Nat) (f : HomeEntry → HomeEntry) : (s.modEntry id f).sites = s.sites := rfl
@[simp] theorem State.modEntry_sio (s : State) (id : Nat) (f : HomeEntry → HomeEntry) : (s.modEntry id f).sio = s.sio := rfl
@[simp] theorem State.modEntry_fab (s : State) (id : Nat) (f : HomeEntry → HomeEntry) : (s.modEntry id f).fab = s.fab := rfl
@[simp] theorem State.modEntry_req (s : State) (id : Nat) (f : HomeEntry → HomeEntry) : (s.modEntry id f).req = s.req := rfl
@[simp] theorem State.modEntry_cart (s : State) (id : Nat) (f : HomeEntry → HomeEntry) : (s.modEntry id f).cart = s.cart := rfl
@[simp] theorem State.modEntry_face (s : State) (id : Nat) (f : HomeEntry → HomeEntry) : (s.modEntry id f).face = s.face := rfl
@[simp] theorem State.modEntry_tal (s : State) (id : Nat) (f : HomeEntry → HomeEntry) : (s.modEntry id f).tal = s.tal := rfl
@[simp] theorem State.modEntry_wnd (s : State) (id : Nat) (f : HomeEntry → HomeEntry) : (s.modEntry id f).wnd = s.wnd := rfl
@[simp] theorem State.modEntry_mov (s : State) (id : Nat) (f : HomeEntry → HomeEntry) : (s.modEntry id f).mov = s.mov := rfl
@[simp] theorem State.modEntry_hst (s : State) (id : Nat) (f : HomeEntry → HomeEntry) : (s.modEntry id f).hst = s.hst := rfl
@[simp] theorem State.modEntry_vlt (s : State) (id : Nat) (f : HomeEntry → HomeEntry) : (s.modEntry id f).vlt = s.vlt := rfl
@[simp] theorem State.modEntry_obs (s : State) (id : Nat) (f : HomeEntry → HomeEntry) : (s.modEntry id f).obs = s.obs := rfl

/-! ### modTarget -/

@[simp] theorem State.modTarget_pending (s : State) (t : Nat) (f : Target → Target) : (s.modTarget t f).pending = s.pending := rfl
@[simp] theorem State.modTarget_out (s : State) (t : Nat) (f : Target → Target) : (s.modTarget t f).out = s.out := rfl
@[simp] theorem State.modTarget_fresh (s : State) (t : Nat) (f : Target → Target) : (s.modTarget t f).fresh = s.fresh := rfl
@[simp] theorem State.modTarget_glb (s : State) (t : Nat) (f : Target → Target) : (s.modTarget t f).glb = s.glb := rfl
@[simp] theorem State.modTarget_cmds (s : State) (t : Nat) (f : Target → Target) : (s.modTarget t f).cmds = s.cmds := rfl
@[simp] theorem State.modTarget_mbx (s : State) (t : Nat) (f : Target → Target) : (s.modTarget t f).mbx = s.mbx := rfl
@[simp] theorem State.modTarget_pins (s : State) (t : Nat) (f : Target → Target) : (s.modTarget t f).pins = s.pins := rfl
@[simp] theorem State.modTarget_clk (s : State) (t : Nat) (f : Target → Target) : (s.modTarget t f).clk = s.clk := rfl
@[simp] theorem State.modTarget_fuse (s : State) (t : Nat) (f : Target → Target) : (s.modTarget t f).fuse = s.fuse := rfl
@[simp] theorem State.modTarget_lse (s : State) (t : Nat) (f : Target → Target) : (s.modTarget t f).lse = s.lse := rfl
@[simp] theorem State.modTarget_own (s : State) (t : Nat) (f : Target → Target) : (s.modTarget t f).own = s.own := rfl
@[simp] theorem State.modTarget_flt (s : State) (t : Nat) (f : Target → Target) : (s.modTarget t f).flt = s.flt := rfl
@[simp] theorem State.modTarget_ctx (s : State) (t : Nat) (f : Target → Target) : (s.modTarget t f).ctx = s.ctx := rfl
@[simp] theorem State.modTarget_slots (s : State) (t : Nat) (f : Target → Target) : (s.modTarget t f).slots = s.slots := rfl
@[simp] theorem State.modTarget_seams (s : State) (t : Nat) (f : Target → Target) : (s.modTarget t f).seams = s.seams := rfl
@[simp] theorem State.modTarget_budget (s : State) (t : Nat) (f : Target → Target) : (s.modTarget t f).budget = s.budget := rfl
@[simp] theorem State.modTarget_shafts (s : State) (t : Nat) (f : Target → Target) : (s.modTarget t f).shafts = s.shafts := rfl
@[simp] theorem State.modTarget_clus (s : State) (t : Nat) (f : Target → Target) : (s.modTarget t f).clus = s.clus := rfl
@[simp] theorem State.modTarget_hz (s : State) (t : Nat) (f : Target → Target) : (s.modTarget t f).hz = s.hz := rfl
@[simp] theorem State.modTarget_ins (s : State) (t : Nat) (f : Target → Target) : (s.modTarget t f).ins = s.ins := rfl
@[simp] theorem State.modTarget_sites (s : State) (t : Nat) (f : Target → Target) : (s.modTarget t f).sites = s.sites := rfl
@[simp] theorem State.modTarget_sio (s : State) (t : Nat) (f : Target → Target) : (s.modTarget t f).sio = s.sio := rfl
@[simp] theorem State.modTarget_fab (s : State) (t : Nat) (f : Target → Target) : (s.modTarget t f).fab = s.fab := rfl
@[simp] theorem State.modTarget_req (s : State) (t : Nat) (f : Target → Target) : (s.modTarget t f).req = s.req := rfl
@[simp] theorem State.modTarget_home (s : State) (t : Nat) (f : Target → Target) : (s.modTarget t f).home = s.home := rfl
@[simp] theorem State.modTarget_cart (s : State) (t : Nat) (f : Target → Target) : (s.modTarget t f).cart = s.cart := rfl
@[simp] theorem State.modTarget_tal (s : State) (t : Nat) (f : Target → Target) : (s.modTarget t f).tal = s.tal := rfl
@[simp] theorem State.modTarget_wnd (s : State) (t : Nat) (f : Target → Target) : (s.modTarget t f).wnd = s.wnd := rfl
@[simp] theorem State.modTarget_mov (s : State) (t : Nat) (f : Target → Target) : (s.modTarget t f).mov = s.mov := rfl
@[simp] theorem State.modTarget_hst (s : State) (t : Nat) (f : Target → Target) : (s.modTarget t f).hst = s.hst := rfl
@[simp] theorem State.modTarget_vlt (s : State) (t : Nat) (f : Target → Target) : (s.modTarget t f).vlt = s.vlt := rfl
@[simp] theorem State.modTarget_obs (s : State) (t : Nat) (f : Target → Target) : (s.modTarget t f).obs = s.obs := rfl
@[simp] theorem State.modTarget_target (s : State) (t : Nat) (f : Target → Target) : (s.modTarget t f).target t = f (s.target t) := by simp [State.modTarget, State.target]

/-! ### modTask -/

@[simp] theorem State.modTask_pending (s : State) (t : Nat) (f : Task → Task) : (s.modTask t f).pending = s.pending := rfl
@[simp] theorem State.modTask_out (s : State) (t : Nat) (f : Task → Task) : (s.modTask t f).out = s.out := rfl
@[simp] theorem State.modTask_fresh (s : State) (t : Nat) (f : Task → Task) : (s.modTask t f).fresh = s.fresh := rfl
@[simp] theorem State.modTask_glb (s : State) (t : Nat) (f : Task → Task) : (s.modTask t f).glb = s.glb := rfl
@[simp] theorem State.modTask_cmds (s : State) (t : Nat) (f : Task → Task) : (s.modTask t f).cmds = s.cmds := rfl
@[simp] theorem State.modTask_mbx (s : State) (t : Nat) (f : Task → Task) : (s.modTask t f).mbx = s.mbx := rfl
@[simp] theorem State.modTask_pins (s : State) (t : Nat) (f : Task → Task) : (s.modTask t f).pins = s.pins := rfl
@[simp] theorem State.modTask_clk (s : State) (t : Nat) (f : Task → Task) : (s.modTask t f).clk = s.clk := rfl
@[simp] theorem State.modTask_fuse (s : State) (t : Nat) (f : Task → Task) : (s.modTask t f).fuse = s.fuse := rfl
@[simp] theorem State.modTask_lse (s : State) (t : Nat) (f : Task → Task) : (s.modTask t f).lse = s.lse := rfl
@[simp] theorem State.modTask_own (s : State) (t : Nat) (f : Task → Task) : (s.modTask t f).own = s.own := rfl
@[simp] theorem State.modTask_flt (s : State) (t : Nat) (f : Task → Task) : (s.modTask t f).flt = s.flt := rfl
@[simp] theorem State.modTask_ctx (s : State) (t : Nat) (f : Task → Task) : (s.modTask t f).ctx = s.ctx := rfl
@[simp] theorem State.modTask_slots (s : State) (t : Nat) (f : Task → Task) : (s.modTask t f).slots = s.slots := rfl
@[simp] theorem State.modTask_seams (s : State) (t : Nat) (f : Task → Task) : (s.modTask t f).seams = s.seams := rfl
@[simp] theorem State.modTask_budget (s : State) (t : Nat) (f : Task → Task) : (s.modTask t f).budget = s.budget := rfl
@[simp] theorem State.modTask_shafts (s : State) (t : Nat) (f : Task → Task) : (s.modTask t f).shafts = s.shafts := rfl
@[simp] theorem State.modTask_clus (s : State) (t : Nat) (f : Task → Task) : (s.modTask t f).clus = s.clus := rfl
@[simp] theorem State.modTask_hz (s : State) (t : Nat) (f : Task → Task) : (s.modTask t f).hz = s.hz := rfl
@[simp] theorem State.modTask_ins (s : State) (t : Nat) (f : Task → Task) : (s.modTask t f).ins = s.ins := rfl
@[simp] theorem State.modTask_sites (s : State) (t : Nat) (f : Task → Task) : (s.modTask t f).sites = s.sites := rfl
@[simp] theorem State.modTask_sio (s : State) (t : Nat) (f : Task → Task) : (s.modTask t f).sio = s.sio := rfl
@[simp] theorem State.modTask_fab (s : State) (t : Nat) (f : Task → Task) : (s.modTask t f).fab = s.fab := rfl
@[simp] theorem State.modTask_req (s : State) (t : Nat) (f : Task → Task) : (s.modTask t f).req = s.req := rfl
@[simp] theorem State.modTask_home (s : State) (t : Nat) (f : Task → Task) : (s.modTask t f).home = s.home := rfl
@[simp] theorem State.modTask_cart (s : State) (t : Nat) (f : Task → Task) : (s.modTask t f).cart = s.cart := rfl
@[simp] theorem State.modTask_face (s : State) (t : Nat) (f : Task → Task) : (s.modTask t f).face = s.face := rfl
@[simp] theorem State.modTask_tal (s : State) (t : Nat) (f : Task → Task) : (s.modTask t f).tal = s.tal := rfl
@[simp] theorem State.modTask_mov (s : State) (t : Nat) (f : Task → Task) : (s.modTask t f).mov = s.mov := rfl
@[simp] theorem State.modTask_hst (s : State) (t : Nat) (f : Task → Task) : (s.modTask t f).hst = s.hst := rfl
@[simp] theorem State.modTask_vlt (s : State) (t : Nat) (f : Task → Task) : (s.modTask t f).vlt = s.vlt := rfl
@[simp] theorem State.modTask_obs (s : State) (t : Nat) (f : Task → Task) : (s.modTask t f).obs = s.obs := rfl
@[simp] theorem State.modTask_task (s : State) (t : Nat) (f : Task → Task) : (s.modTask t f).task t = f (s.task t) := by simp [State.modTask, State.task]

/-! ### putTally -/

@[simp] theorem State.putTally_pending (s : State) (n : Nat) (r : TallyRec) : (s.putTally n r).pending = s.pending := rfl
@[simp] theorem State.putTally_out (s : State) (n : Nat) (r : TallyRec) : (s.putTally n r).out = s.out := rfl
@[simp] theorem State.putTally_fresh (s : State) (n : Nat) (r : TallyRec) : (s.putTally n r).fresh = s.fresh := rfl
@[simp] theorem State.putTally_glb (s : State) (n : Nat) (r : TallyRec) : (s.putTally n r).glb = s.glb := rfl
@[simp] theorem State.putTally_cmds (s : State) (n : Nat) (r : TallyRec) : (s.putTally n r).cmds = s.cmds := rfl
@[simp] theorem State.putTally_mbx (s : State) (n : Nat) (r : TallyRec) : (s.putTally n r).mbx = s.mbx := rfl
@[simp] theorem State.putTally_pins (s : State) (n : Nat) (r : TallyRec) : (s.putTally n r).pins = s.pins := rfl
@[simp] theorem State.putTally_clk (s : State) (n : Nat) (r : TallyRec) : (s.putTally n r).clk = s.clk := rfl
@[simp] theorem State.putTally_fuse (s : State) (n : Nat) (r : TallyRec) : (s.putTally n r).fuse = s.fuse := rfl
@[simp] theorem State.putTally_lse (s : State) (n : Nat) (r : TallyRec) : (s.putTally n r).lse = s.lse := rfl
@[simp] theorem State.putTally_own (s : State) (n : Nat) (r : TallyRec) : (s.putTally n r).own = s.own := rfl
@[simp] theorem State.putTally_flt (s : State) (n : Nat) (r : TallyRec) : (s.putTally n r).flt = s.flt := rfl
@[simp] theorem State.putTally_ctx (s : State) (n : Nat) (r : TallyRec) : (s.putTally n r).ctx = s.ctx := rfl
@[simp] theorem State.putTally_slots (s : State) (n : Nat) (r : TallyRec) : (s.putTally n r).slots = s.slots := rfl
@[simp] theorem State.putTally_seams (s : State) (n : Nat) (r : TallyRec) : (s.putTally n r).seams = s.seams := rfl
@[simp] theorem State.putTally_budget (s : State) (n : Nat) (r : TallyRec) : (s.putTally n r).budget = s.budget := rfl
@[simp] theorem State.putTally_shafts (s : State) (n : Nat) (r : TallyRec) : (s.putTally n r).shafts = s.shafts := rfl
@[simp] theorem State.putTally_clus (s : State) (n : Nat) (r : TallyRec) : (s.putTally n r).clus = s.clus := rfl
@[simp] theorem State.putTally_hz (s : State) (n : Nat) (r : TallyRec) : (s.putTally n r).hz = s.hz := rfl
@[simp] theorem State.putTally_ins (s : State) (n : Nat) (r : TallyRec) : (s.putTally n r).ins = s.ins := rfl
@[simp] theorem State.putTally_sites (s : State) (n : Nat) (r : TallyRec) : (s.putTally n r).sites = s.sites := rfl
@[simp] theorem State.putTally_sio (s : State) (n : Nat) (r : TallyRec) : (s.putTally n r).sio = s.sio := rfl
@[simp] theorem State.putTally_fab (s : State) (n : Nat) (r : TallyRec) : (s.putTally n r).fab = s.fab := rfl
@[simp] theorem State.putTally_req (s : State) (n : Nat) (r : TallyRec) : (s.putTally n r).req = s.req := rfl
@[simp] theorem State.putTally_home (s : State) (n : Nat) (r : TallyRec) : (s.putTally n r).home = s.home := rfl
@[simp] theorem State.putTally_cart (s : State) (n : Nat) (r : TallyRec) : (s.putTally n r).cart = s.cart := rfl
@[simp] theorem State.putTally_face (s : State) (n : Nat) (r : TallyRec) : (s.putTally n r).face = s.face := rfl
@[simp] theorem State.putTally_wnd (s : State) (n : Nat) (r : TallyRec) : (s.putTally n r).wnd = s.wnd := rfl
@[simp] theorem State.putTally_mov (s : State) (n : Nat) (r : TallyRec) : (s.putTally n r).mov = s.mov := rfl
@[simp] theorem State.putTally_hst (s : State) (n : Nat) (r : TallyRec) : (s.putTally n r).hst = s.hst := rfl
@[simp] theorem State.putTally_vlt (s : State) (n : Nat) (r : TallyRec) : (s.putTally n r).vlt = s.vlt := rfl
@[simp] theorem State.putTally_obs (s : State) (n : Nat) (r : TallyRec) : (s.putTally n r).obs = s.obs := rfl

/-! ### putCtx -/

@[simp] theorem State.putCtx_pending (s : State) (p i : Nat) (e : CtxEntry) : (s.putCtx p i e).pending = s.pending := rfl
@[simp] theorem State.putCtx_out (s : State) (p i : Nat) (e : CtxEntry) : (s.putCtx p i e).out = s.out := rfl
@[simp] theorem State.putCtx_fresh (s : State) (p i : Nat) (e : CtxEntry) : (s.putCtx p i e).fresh = s.fresh := rfl
@[simp] theorem State.putCtx_glb (s : State) (p i : Nat) (e : CtxEntry) : (s.putCtx p i e).glb = s.glb := rfl
@[simp] theorem State.putCtx_cmds (s : State) (p i : Nat) (e : CtxEntry) : (s.putCtx p i e).cmds = s.cmds := rfl
@[simp] theorem State.putCtx_mbx (s : State) (p i : Nat) (e : CtxEntry) : (s.putCtx p i e).mbx = s.mbx := rfl
@[simp] theorem State.putCtx_pins (s : State) (p i : Nat) (e : CtxEntry) : (s.putCtx p i e).pins = s.pins := rfl
@[simp] theorem State.putCtx_clk (s : State) (p i : Nat) (e : CtxEntry) : (s.putCtx p i e).clk = s.clk := rfl
@[simp] theorem State.putCtx_fuse (s : State) (p i : Nat) (e : CtxEntry) : (s.putCtx p i e).fuse = s.fuse := rfl
@[simp] theorem State.putCtx_lse (s : State) (p i : Nat) (e : CtxEntry) : (s.putCtx p i e).lse = s.lse := rfl
@[simp] theorem State.putCtx_own (s : State) (p i : Nat) (e : CtxEntry) : (s.putCtx p i e).own = s.own := rfl
@[simp] theorem State.putCtx_flt (s : State) (p i : Nat) (e : CtxEntry) : (s.putCtx p i e).flt = s.flt := rfl
@[simp] theorem State.putCtx_slots (s : State) (p i : Nat) (e : CtxEntry) : (s.putCtx p i e).slots = s.slots := rfl
@[simp] theorem State.putCtx_seams (s : State) (p i : Nat) (e : CtxEntry) : (s.putCtx p i e).seams = s.seams := rfl
@[simp] theorem State.putCtx_budget (s : State) (p i : Nat) (e : CtxEntry) : (s.putCtx p i e).budget = s.budget := rfl
@[simp] theorem State.putCtx_shafts (s : State) (p i : Nat) (e : CtxEntry) : (s.putCtx p i e).shafts = s.shafts := rfl
@[simp] theorem State.putCtx_clus (s : State) (p i : Nat) (e : CtxEntry) : (s.putCtx p i e).clus = s.clus := rfl
@[simp] theorem State.putCtx_hz (s : State) (p i : Nat) (e : CtxEntry) : (s.putCtx p i e).hz = s.hz := rfl
@[simp] theorem State.putCtx_ins (s : State) (p i : Nat) (e : CtxEntry) : (s.putCtx p i e).ins = s.ins := rfl
@[simp] theorem State.putCtx_sites (s : State) (p i : Nat) (e : CtxEntry) : (s.putCtx p i e).sites = s.sites := rfl
@[simp] theorem State.putCtx_sio (s : State) (p i : Nat) (e : CtxEntry) : (s.putCtx p i e).sio = s.sio := rfl
@[simp] theorem State.putCtx_fab (s : State) (p i : Nat) (e : CtxEntry) : (s.putCtx p i e).fab = s.fab := rfl
@[simp] theorem State.putCtx_req (s : State) (p i : Nat) (e : CtxEntry) : (s.putCtx p i e).req = s.req := rfl
@[simp] theorem State.putCtx_home (s : State) (p i : Nat) (e : CtxEntry) : (s.putCtx p i e).home = s.home := rfl
@[simp] theorem State.putCtx_cart (s : State) (p i : Nat) (e : CtxEntry) : (s.putCtx p i e).cart = s.cart := rfl
@[simp] theorem State.putCtx_face (s : State) (p i : Nat) (e : CtxEntry) : (s.putCtx p i e).face = s.face := rfl
@[simp] theorem State.putCtx_tal (s : State) (p i : Nat) (e : CtxEntry) : (s.putCtx p i e).tal = s.tal := rfl
@[simp] theorem State.putCtx_wnd (s : State) (p i : Nat) (e : CtxEntry) : (s.putCtx p i e).wnd = s.wnd := rfl
@[simp] theorem State.putCtx_mov (s : State) (p i : Nat) (e : CtxEntry) : (s.putCtx p i e).mov = s.mov := rfl
@[simp] theorem State.putCtx_hst (s : State) (p i : Nat) (e : CtxEntry) : (s.putCtx p i e).hst = s.hst := rfl
@[simp] theorem State.putCtx_vlt (s : State) (p i : Nat) (e : CtxEntry) : (s.putCtx p i e).vlt = s.vlt := rfl
@[simp] theorem State.putCtx_obs (s : State) (p i : Nat) (e : CtxEntry) : (s.putCtx p i e).obs = s.obs := rfl
@[simp] theorem State.putCtx_ctxAt (s : State) (p i : Nat) (e : CtxEntry) : (s.putCtx p i e).ctxAt p i = e := by simp [State.putCtx, State.ctxAt]

/-! ### modStream -/

@[simp] theorem State.modStream_pending (s : State) (k : Nat) (f : IdeStream → IdeStream) : (s.modStream k f).pending = s.pending := rfl
@[simp] theorem State.modStream_out (s : State) (k : Nat) (f : IdeStream → IdeStream) : (s.modStream k f).out = s.out := rfl
@[simp] theorem State.modStream_fresh (s : State) (k : Nat) (f : IdeStream → IdeStream) : (s.modStream k f).fresh = s.fresh := rfl
@[simp] theorem State.modStream_glb (s : State) (k : Nat) (f : IdeStream → IdeStream) : (s.modStream k f).glb = s.glb := rfl
@[simp] theorem State.modStream_cmds (s : State) (k : Nat) (f : IdeStream → IdeStream) : (s.modStream k f).cmds = s.cmds := rfl
@[simp] theorem State.modStream_mbx (s : State) (k : Nat) (f : IdeStream → IdeStream) : (s.modStream k f).mbx = s.mbx := rfl
@[simp] theorem State.modStream_pins (s : State) (k : Nat) (f : IdeStream → IdeStream) : (s.modStream k f).pins = s.pins := rfl
@[simp] theorem State.modStream_clk (s : State) (k : Nat) (f : IdeStream → IdeStream) : (s.modStream k f).clk = s.clk := rfl
@[simp] theorem State.modStream_fuse (s : State) (k : Nat) (f : IdeStream → IdeStream) : (s.modStream k f).fuse = s.fuse := rfl
@[simp] theorem State.modStream_lse (s : State) (k : Nat) (f : IdeStream → IdeStream) : (s.modStream k f).lse = s.lse := rfl
@[simp] theorem State.modStream_own (s : State) (k : Nat) (f : IdeStream → IdeStream) : (s.modStream k f).own = s.own := rfl
@[simp] theorem State.modStream_flt (s : State) (k : Nat) (f : IdeStream → IdeStream) : (s.modStream k f).flt = s.flt := rfl
@[simp] theorem State.modStream_ctx (s : State) (k : Nat) (f : IdeStream → IdeStream) : (s.modStream k f).ctx = s.ctx := rfl
@[simp] theorem State.modStream_slots (s : State) (k : Nat) (f : IdeStream → IdeStream) : (s.modStream k f).slots = s.slots := rfl
@[simp] theorem State.modStream_seams (s : State) (k : Nat) (f : IdeStream → IdeStream) : (s.modStream k f).seams = s.seams := rfl
@[simp] theorem State.modStream_budget (s : State) (k : Nat) (f : IdeStream → IdeStream) : (s.modStream k f).budget = s.budget := rfl
@[simp] theorem State.modStream_shafts (s : State) (k : Nat) (f : IdeStream → IdeStream) : (s.modStream k f).shafts = s.shafts := rfl
@[simp] theorem State.modStream_clus (s : State) (k : Nat) (f : IdeStream → IdeStream) : (s.modStream k f).clus = s.clus := rfl
@[simp] theorem State.modStream_hz (s : State) (k : Nat) (f : IdeStream → IdeStream) : (s.modStream k f).hz = s.hz := rfl
@[simp] theorem State.modStream_ins (s : State) (k : Nat) (f : IdeStream → IdeStream) : (s.modStream k f).ins = s.ins := rfl
@[simp] theorem State.modStream_sites (s : State) (k : Nat) (f : IdeStream → IdeStream) : (s.modStream k f).sites = s.sites := rfl
@[simp] theorem State.modStream_sio (s : State) (k : Nat) (f : IdeStream → IdeStream) : (s.modStream k f).sio = s.sio := rfl
@[simp] theorem State.modStream_fab (s : State) (k : Nat) (f : IdeStream → IdeStream) : (s.modStream k f).fab = s.fab := rfl
@[simp] theorem State.modStream_req (s : State) (k : Nat) (f : IdeStream → IdeStream) : (s.modStream k f).req = s.req := rfl
@[simp] theorem State.modStream_home (s : State) (k : Nat) (f : IdeStream → IdeStream) : (s.modStream k f).home = s.home := rfl
@[simp] theorem State.modStream_cart (s : State) (k : Nat) (f : IdeStream → IdeStream) : (s.modStream k f).cart = s.cart := rfl
@[simp] theorem State.modStream_face (s : State) (k : Nat) (f : IdeStream → IdeStream) : (s.modStream k f).face = s.face := rfl
@[simp] theorem State.modStream_tal (s : State) (k : Nat) (f : IdeStream → IdeStream) : (s.modStream k f).tal = s.tal := rfl
@[simp] theorem State.modStream_wnd (s : State) (k : Nat) (f : IdeStream → IdeStream) : (s.modStream k f).wnd = s.wnd := rfl
@[simp] theorem State.modStream_mov (s : State) (k : Nat) (f : IdeStream → IdeStream) : (s.modStream k f).mov = s.mov := rfl
@[simp] theorem State.modStream_vlt (s : State) (k : Nat) (f : IdeStream → IdeStream) : (s.modStream k f).vlt = s.vlt := rfl
@[simp] theorem State.modStream_obs (s : State) (k : Nat) (f : IdeStream → IdeStream) : (s.modStream k f).obs = s.obs := rfl
@[simp] theorem State.modStream_stream (s : State) (k : Nat) (f : IdeStream → IdeStream) : (s.modStream k f).stream k = f (s.stream k) := by simp [State.modStream, State.stream]

/-! ### setOrder -/

@[simp] theorem State.setOrder_pending (s : State) (k : Nat) (o : Order) : (s.setOrder k o).pending = s.pending := rfl
@[simp] theorem State.setOrder_out (s : State) (k : Nat) (o : Order) : (s.setOrder k o).out = s.out := rfl
@[simp] theorem State.setOrder_fresh (s : State) (k : Nat) (o : Order) : (s.setOrder k o).fresh = s.fresh := rfl
@[simp] theorem State.setOrder_glb (s : State) (k : Nat) (o : Order) : (s.setOrder k o).glb = s.glb := rfl
@[simp] theorem State.setOrder_cmds (s : State) (k : Nat) (o : Order) : (s.setOrder k o).cmds = s.cmds := rfl
@[simp] theorem State.setOrder_mbx (s : State) (k : Nat) (o : Order) : (s.setOrder k o).mbx = s.mbx := rfl
@[simp] theorem State.setOrder_pins (s : State) (k : Nat) (o : Order) : (s.setOrder k o).pins = s.pins := rfl
@[simp] theorem State.setOrder_clk (s : State) (k : Nat) (o : Order) : (s.setOrder k o).clk = s.clk := rfl
@[simp] theorem State.setOrder_fuse (s : State) (k : Nat) (o : Order) : (s.setOrder k o).fuse = s.fuse := rfl
@[simp] theorem State.setOrder_own (s : State) (k : Nat) (o : Order) : (s.setOrder k o).own = s.own := rfl
@[simp] theorem State.setOrder_flt (s : State) (k : Nat) (o : Order) : (s.setOrder k o).flt = s.flt := rfl
@[simp] theorem State.setOrder_ctx (s : State) (k : Nat) (o : Order) : (s.setOrder k o).ctx = s.ctx := rfl
@[simp] theorem State.setOrder_slots (s : State) (k : Nat) (o : Order) : (s.setOrder k o).slots = s.slots := rfl
@[simp] theorem State.setOrder_seams (s : State) (k : Nat) (o : Order) : (s.setOrder k o).seams = s.seams := rfl
@[simp] theorem State.setOrder_budget (s : State) (k : Nat) (o : Order) : (s.setOrder k o).budget = s.budget := rfl
@[simp] theorem State.setOrder_shafts (s : State) (k : Nat) (o : Order) : (s.setOrder k o).shafts = s.shafts := rfl
@[simp] theorem State.setOrder_clus (s : State) (k : Nat) (o : Order) : (s.setOrder k o).clus = s.clus := rfl
@[simp] theorem State.setOrder_hz (s : State) (k : Nat) (o : Order) : (s.setOrder k o).hz = s.hz := rfl
@[simp] theorem State.setOrder_ins (s : State) (k : Nat) (o : Order) : (s.setOrder k o).ins = s.ins := rfl
@[simp] theorem State.setOrder_sites (s : State) (k : Nat) (o : Order) : (s.setOrder k o).sites = s.sites := rfl
@[simp] theorem State.setOrder_sio (s : State) (k : Nat) (o : Order) : (s.setOrder k o).sio = s.sio := rfl
@[simp] theorem State.setOrder_fab (s : State) (k : Nat) (o : Order) : (s.setOrder k o).fab = s.fab := rfl
@[simp] theorem State.setOrder_req (s : State) (k : Nat) (o : Order) : (s.setOrder k o).req = s.req := rfl
@[simp] theorem State.setOrder_home (s : State) (k : Nat) (o : Order) : (s.setOrder k o).home = s.home := rfl
@[simp] theorem State.setOrder_cart (s : State) (k : Nat) (o : Order) : (s.setOrder k o).cart = s.cart := rfl
@[simp] theorem State.setOrder_face (s : State) (k : Nat) (o : Order) : (s.setOrder k o).face = s.face := rfl
@[simp] theorem State.setOrder_tal (s : State) (k : Nat) (o : Order) : (s.setOrder k o).tal = s.tal := rfl
@[simp] theorem State.setOrder_wnd (s : State) (k : Nat) (o : Order) : (s.setOrder k o).wnd = s.wnd := rfl
@[simp] theorem State.setOrder_mov (s : State) (k : Nat) (o : Order) : (s.setOrder k o).mov = s.mov := rfl
@[simp] theorem State.setOrder_hst (s : State) (k : Nat) (o : Order) : (s.setOrder k o).hst = s.hst := rfl
@[simp] theorem State.setOrder_vlt (s : State) (k : Nat) (o : Order) : (s.setOrder k o).vlt = s.vlt := rfl
@[simp] theorem State.setOrder_obs (s : State) (k : Nat) (o : Order) : (s.setOrder k o).obs = s.obs := rfl

/-! ### deny -/

@[simp] theorem State.deny_pending (s : State) : (s.deny).pending = s.pending := rfl
@[simp] theorem State.deny_out (s : State) : (s.deny).out = s.out := rfl
@[simp] theorem State.deny_fresh (s : State) : (s.deny).fresh = s.fresh := rfl
@[simp] theorem State.deny_cmds (s : State) : (s.deny).cmds = s.cmds := rfl
@[simp] theorem State.deny_mbx (s : State) : (s.deny).mbx = s.mbx := rfl
@[simp] theorem State.deny_pins (s : State) : (s.deny).pins = s.pins := rfl
@[simp] theorem State.deny_clk (s : State) : (s.deny).clk = s.clk := rfl
@[simp] theorem State.deny_fuse (s : State) : (s.deny).fuse = s.fuse := rfl
@[simp] theorem State.deny_lse (s : State) : (s.deny).lse = s.lse := rfl
@[simp] theorem State.deny_own (s : State) : (s.deny).own = s.own := rfl
@[simp] theorem State.deny_flt (s : State) : (s.deny).flt = s.flt := rfl
@[simp] theorem State.deny_ctx (s : State) : (s.deny).ctx = s.ctx := rfl
@[simp] theorem State.deny_slots (s : State) : (s.deny).slots = s.slots := rfl
@[simp] theorem State.deny_seams (s : State) : (s.deny).seams = s.seams := rfl
@[simp] theorem State.deny_budget (s : State) : (s.deny).budget = s.budget := rfl
@[simp] theorem State.deny_shafts (s : State) : (s.deny).shafts = s.shafts := rfl
@[simp] theorem State.deny_clus (s : State) : (s.deny).clus = s.clus := rfl
@[simp] theorem State.deny_hz (s : State) : (s.deny).hz = s.hz := rfl
@[simp] theorem State.deny_ins (s : State) : (s.deny).ins = s.ins := rfl
@[simp] theorem State.deny_sites (s : State) : (s.deny).sites = s.sites := rfl
@[simp] theorem State.deny_sio (s : State) : (s.deny).sio = s.sio := rfl
@[simp] theorem State.deny_fab (s : State) : (s.deny).fab = s.fab := rfl
@[simp] theorem State.deny_req (s : State) : (s.deny).req = s.req := rfl
@[simp] theorem State.deny_home (s : State) : (s.deny).home = s.home := rfl
@[simp] theorem State.deny_cart (s : State) : (s.deny).cart = s.cart := rfl
@[simp] theorem State.deny_face (s : State) : (s.deny).face = s.face := rfl
@[simp] theorem State.deny_tal (s : State) : (s.deny).tal = s.tal := rfl
@[simp] theorem State.deny_wnd (s : State) : (s.deny).wnd = s.wnd := rfl
@[simp] theorem State.deny_mov (s : State) : (s.deny).mov = s.mov := rfl
@[simp] theorem State.deny_hst (s : State) : (s.deny).hst = s.hst := rfl
@[simp] theorem State.deny_vlt (s : State) : (s.deny).vlt = s.vlt := rfl
@[simp] theorem State.deny_obs (s : State) : (s.deny).obs = s.obs := rfl

end Machine

end Sys2Proof
end

