-- ==== Sys2Proof/Tests/Slice0.lean ====
section
/-!
SUPPORT. Tests/Slice0.lean: the witnesses. `meets_X` applies statement `X` at concrete states and operands and takes its conclusion from it: its proof
shows that those states meet the statement's hypotheses. The states are small: the block in RUN with nothing in it (`ready`), or with a Lease of one package
in force (`land`), and the one thing the command needs. `test_illformed_x` shows an operand that each check of WellFormed refuses.
The three statements without hypotheses (QueueServedInOrder, FormatsMatch, SignalNeverLowers) and ResetValues need none.
The theorems are elaborated one after the other, which bounds the memory of the package's compile.
-/

open Sys2Proof Sys2Proof.Machine
namespace Sys2Proof.Tests

set_option Elab.async false

/-! ### Ill-formed commands -/

theorem test_illformed_seam : (.seamCreate .operator 256 : Instr).wf = false := by decide
theorem test_illformed_part : (.egressRelease 7 .host : Instr).wf = false := by decide
theorem test_illformed_partOrBlock : (.flowKeyExpire 7 : Instr).wf = false := by decide
theorem test_illformed_aperture : (.fltChip (.part 0) : Instr).wf = false := by decide
theorem test_illformed_vf : (.vfPowerState 1 17 3 : Instr).wf = false := by decide
theorem test_illformed_mailbox : (.mbxSelRead (.vf 1 1) 0 0 : Instr).wf = false := by decide
theorem test_illformed_word : (.mbxDataWrite .operator 8 0 : Instr).wf = false := by decide
theorem test_illformed_shaft : (.driftStart 12 : Instr).wf = false := by decide
theorem test_illformed_quad : (.qpwrOkRise 4 : Instr).wf = false := by decide
theorem test_illformed_cluster : (.laneSample 113 ⟨0, 0, 0⟩ : Instr).wf = false := by decide
theorem test_illformed_site : (.cartEndTimeout 8 0 : Instr).wf = false := by decide
theorem test_illformed_port : (.freezePacketReceive 24 : Instr).wf = false := by decide
theorem test_illformed_slotUnit : (.slotBoundary 25 : Instr).wf = false := by decide
theorem test_illformed_node_and_tag : (.tallyWait 0 255 1 0 .clean : Instr).wf = false := by decide
theorem test_illformed_tag : (.waitRepeat 16384 : Instr).wf = false := by decide
theorem test_illformed_face : (.faceCacheFill 8 0 .clean : Instr).wf = false := by decide
theorem test_illformed_target : (.contributionHoldTimeout 512 : Instr).wf = false := by decide
theorem test_illformed_tally : (.talQuery .operator 65536 : Instr).wf = false := by decide
theorem test_illformed_task : (.indOperandReturn 256 : Instr).wf = false := by decide
theorem test_illformed_chan : (.movAbortDrained 32 : Instr).wf = false := by decide
theorem test_illformed_slot : (.slotEmpty 4096 : Instr).wf = false := by decide
theorem test_illformed_context : (.ctxRetireComplete 1 4096 : Instr).wf = false := by decide
theorem test_illformed_order : (.rotateFlowPrepare 256 : Instr).wf = false := by decide
theorem test_illformed_scrubWord : (.scrubWordRead 0 (2 ^ 28) .clean : Instr).wf = false := by decide
theorem test_illformed_doe : (.pfD0 7 : Instr).wf = false := by decide
theorem test_illformed_priority : (.pkeRequest .dsa 4 : Instr).wf = false := by decide
theorem test_illformed_draw : (.drbgGenerate 513 : Instr).wf = false := by decide
theorem test_illformed_flr : (.flrDone (.vf 1 0) : Instr).wf = false := by decide
theorem test_illformed_point : (.egressRelease 1 (.port 24) : Instr).wf = false := by decide
theorem test_illformed_unit : (.engineStepOverrun (.face 8) : Instr).wf = false := by decide
theorem test_illformed_head : (.waitCanaryExpire (.channel 32) : Instr).wf = false := by decide

/-! ### The states -/


/-- The block in RUN, with nothing in it. -/
def ready : State := { State.reset with
  pins := { State.reset.pins with por := false }
  glb := { State.reset.glb with state := 3, step := 15 } }

theorem ready_ready : ready.Ready := by unfold State.Ready; decide

/-- A Lease of one package: the open partition 1 with two stacks, two sites, two faces, two channels, tallies and tasks. -/
def lease1 : Lease := {
  signedLen := 256
  shapes := [{ part := 1, openKind := true, carts := true, stackSet := 3, sites := 3, faces := 3, hostSlots := 4, ideStreams := 1, vfs := 2, channels := 3, talCount := 64
               wndCount := 16, budget := 100, reserve := [4, 4], quotas := List.replicate 4 (64, 64, 64)
               areas := List.replicate 2 [4, 1, 16, 1, 0, 1, 64] }]
  templates := [{ part := 1, kind := 0, count := 4, stackSet := 3, maxGranules := 64, maxInterval := 1000000 },
    { part := 1, kind := 1, count := 4, stackSet := 3, maxGranules := 64, maxRate := 100, maxInterval := 1000000 }]
  topo := { listed := 1, nodes := [{ node := 0 }] }
  descriptors := [{ sites := 3 }] }

/-- The block in RUN with that Lease in force. -/
def land : State := { ready with
  lse := { ready.lse with lease := some lease1 }
  own := { stack := [(0, 1), (1, 1)], site := [(0, 1), (1, 1)], face := [(0, 1), (1, 1)], chan := [(0, 1), (1, 1)] }
  ins := { ready.ins with area := areasOf lease1.shapes, slices := (List.range 4).map fun q => (q, { state := .ready }) }
  glb := { ready.glb with present := 1 }
  ctx := { ready.ctx with tab := [(4096, { state := .active })] }
  home := { ready.home with quota := [(1, 64, 64, 64)] }
  tal := { ready.tal with quota := [(1, 64)] }
  clk := { ready.clk with valid := true } }

theorem land_ready : land.Ready := by unfold State.Ready; decide

/-- Seam 0 of partition 1, in stack 0. -/
def seam0 (st : SeamState) : Seam := { size := 1, state := st, owner := 1, pad := 16, hash := 17, nextPad := 18, nextHash := 19, interval := 10 }

/-- A state with that seam. -/
def withSeam (e : Seam) : State := { land with seams := [(0, e)] }

/-! ### Registers, mailbox, aliased-bit window, update timing (03) -/

/-- A command waits in front. -/
theorem meets_StepRunsFront (h : Obligations.StepRunsFront) :
    step { ready with pending := [.drbgReseed] } = exec .drbgReseed ready := h _ _ _ rfl

/-- A calm state out of reset whose queue is empty. -/
theorem meets_EmptyQueueTicks (h : Obligations.EmptyQueueTicks) :
    (∃ t, step ready = .next t ∧ t.clk.cyc = 4) ∧ ready.settle = ready :=
  ⟨(h.1 ready rfl rfl rfl).imp fun _ x => ⟨x.1, x.2.1⟩, h.2 ready (by decide)⟩

/-- A plain register, a command register, the aliased-bit window, a DW register and its complement; reads of each. -/
theorem meets_RegisterAccessCompletes (h : Obligations.RegisterAccessCompletes) :
    (∃ t, exec (.registerWrite ⟨.operator, 0x110, 4, 0xF⟩ 7) land = .next t) ∧
    (∃ t, exec (.registerWrite ⟨.lamp, 0x2C_0004, 4, 0xF⟩ 2) land = .next t) ∧
    (∃ t, exec (.registerWrite ⟨.operator, 0x200_8800, 4, 0xF⟩ 1) land = .next t) ∧
    (∃ t, exec (.registerWrite ⟨.operator, 0x10, 4, 0xF⟩ 1) land = .next t) ∧
    (∃ t, exec (.registerWrite ⟨.operator, 0x8010, 4, 0xF⟩ 1) land = .next t) ∧
    (∃ t, exec (.registerRead ⟨.operator, 0x38, 4, 0xF⟩) land = .next t) ∧
    (∃ t, exec (.rcRead .operator 0x38) land = .next t) ∧
    (∃ t, exec (.registerRead ⟨.operator, 0x200_8800, 4, 0xF⟩) land = .next t) ∧
    (∃ t, exec (.registerRead ⟨.operator, 0x8010, 4, 0xF⟩) land = .next t) ∧
    (∃ t, exec (.registerWrite ⟨.operator, 0x110, 4, 0xF⟩ 1) land = .next t) ∧
    (∃ t, exec (.rcRead .operator 0x38) land = .next t) :=
  have r (ap : Aperture) (off : Nat) := h land ap off land_ready
  ⟨⟨_, (r .operator 0x110 rfl rfl rfl).1 7 (by decide) (.inl (by decide)) rfl rfl⟩,
   ⟨_, (r .lamp 0x2C_0004 rfl rfl rfl).1 2 (by decide) (.inl (by decide)) rfl rfl⟩,
   ⟨_, (r .operator 0x200_8800 rfl rfl rfl).2.1 1 rfl⟩,
   ⟨_, (r .operator 0x10 rfl rfl rfl).2.2.1 1 (by decide) (by decide) rfl⟩,
   ⟨_, (r .operator 0x8010 rfl rfl rfl).2.2.2.1 1 (by decide) (by decide) (by decide)⟩,
   ⟨_, ((r .operator 0x38 rfl rfl rfl).2.2.2.2.1 (by decide) (by decide) (by decide) rfl rfl).1⟩,
   ⟨_, ((r .operator 0x38 rfl rfl rfl).2.2.2.2.1 (by decide) (by decide) (by decide) rfl rfl).2⟩,
   ⟨_, ((r .operator 0x200_8800 rfl rfl rfl).2.2.2.2.2.1 rfl).1⟩,
   ⟨_, ((r .operator 0x8010 rfl rfl rfl).2.2.2.2.2.2.1 (by decide) (.inr (by decide)) rfl rfl).1⟩,
   ⟨_, (r .operator 0 rfl rfl rfl).2.2.2.2.2.2.2.1 1⟩,
   ⟨_, (r .operator 0 rfl rfl rfl).2.2.2.2.2.2.2.2.2⟩⟩

/-- A misaligned access, one of two bytes, one with a byte enable clear; from the Lamp, and with an error captured before. -/
theorem meets_BadAccessesRefused (h : Obligations.BadAccessesRefused) :
    (∃ t, exec (.registerWrite ⟨.operator, 0x112, 4, 0xF⟩ 1) ready = .next t) ∧
    (∃ t, exec (.registerWrite ⟨.operator, 0x110, 2, 0xF⟩ 1) ready = .next t) ∧
    (∃ t, exec (.registerWrite ⟨.lamp, 0x110, 4, 0x7⟩ 1) ready = .next t) ∧
    (∃ t, exec (.registerWrite ⟨.part 1, 0x112, 4, 0xF⟩ 1) ({ ready with glb := { ready.glb with errInfo := 1 } }) = .next t) ∧
    (∃ t, exec (.registerWrite ⟨.operator, 0xC1_0024, 4, 0xF⟩ 1) ready = .next t) :=
  have bad (s : State) (r : s.Ready) (a : Access) (ok) (tl) (c) := h.1 s a 1 r ok tl c
  ⟨(bad ready ready_ready _ rfl rfl (by decide)).elim fun _ x => ⟨_, x.2.2.2.2.2.2.2.2.2⟩,
   (bad ready ready_ready _ rfl rfl (by decide)).elim fun _ x => ⟨_, x.2.2.2.2.2.2.2.2.2⟩,
   (bad ready ready_ready _ rfl rfl (by decide)).elim fun _ x => ⟨_, x.2.2.2.2.2.2.2.2.2⟩,
   (bad ({ ready with glb := { ready.glb with errInfo := 1 } }) ready_ready _ rfl rfl (by decide)).elim fun _ x => ⟨_, x.2.2.2.2.2.2.2.2.2⟩,
   ⟨_, (h.2 ready 1 ready_ready).1⟩⟩

/-- A first write of a DW register of the operator pends. -/
def dw (off : Nat) (v : Word) : State := { ready with glb := { ready.glb with dwPend := ready.glb.dwPend.put 0 (off, v) } }

/-- GLB_MODE, UPD_CTRL and OBS_CTRL, with and without a pending first write; the values in force at the ends of the canary's ranges. -/
theorem meets_DualWriteCompletes (h : Obligations.DualWriteCompletes) :
    (∃ t, exec (.dwFirstWrite .operator 0x10 1) ready = .next t) ∧
    (∃ t, exec (.dwFirstWrite .operator 0xC0_0040 1) (dw 0x10 1) = .next t) ∧
    (∃ t, exec (.dwComplementWrite .operator 0x8010 (~~~1)) (dw 0x10 1) = .next t) ∧
    (∃ t, exec (.dwComplementWrite .operator 0xC0_8040 1) (dw 0xC0_0040 1) = .next t) ∧
    (∃ t, exec (.dwComplementWrite .operator 0x8010 1) ready = .next t) ∧
    (∃ t, exec (.dwWindowExpire .operator) (dw 0x10 1) = .next t) ∧
    ((ready.dwApply .operator .glb 1).glb.compat = true) ∧
    ((ready.dwApply .operator .flt 0x1441).flt.canEngine = 10) ∧
    ((ready.dwApply .operator .flt 0xA1BF).flt.canReplay = 6) :=
  have r (s : State) (off : Nat) (k : s.Reaches .operator (placeOf .operator off) (off % 65536)) := h s .operator off k
  ⟨⟨_, (r ready 0x10 ⟨ready_ready, rfl, rfl, rfl⟩).1 rfl rfl 1⟩,
   ⟨_, (r (dw 0x10 1) 0xC0_0040 ⟨ready_ready, rfl, rfl, rfl⟩).2.1 rfl rfl 1⟩,
   ⟨_, ((r (dw 0x10 1) 0x8010 ⟨ready_ready, rfl, rfl, rfl⟩).2.2.1 (by decide) rfl).1 1 rfl⟩,
   ⟨_, ((r (dw 0xC0_0040 1) 0xC0_8040 ⟨ready_ready, rfl, rfl, rfl⟩).2.2.1 (by decide) rfl).2 1 (by decide)⟩,
   ⟨_, ((r ready 0x8010 ⟨ready_ready, rfl, rfl, rfl⟩).2.2.1 (by decide) rfl).2 1 (by decide)⟩,
   ⟨_, (r (dw 0x10 1) 0x10 ⟨ready_ready, rfl, rfl, rfl⟩).2.2.2.1 rfl⟩,
   congrArg (·.glb.compat) ((r ready 0x10 ⟨ready_ready, rfl, rfl, rfl⟩).2.2.2.2.1 1 rfl),
   congrArg (·.flt.canEngine) ((r ready 0x10 ⟨ready_ready, rfl, rfl, rfl⟩).2.2.2.2.2.2.1 0x1441 (by decide) (by decide) (by decide) (by decide) (by decide)),
   congrArg (·.flt.canReplay) ((r ready 0x10 ⟨ready_ready, rfl, rfl, rfl⟩).2.2.2.2.2.2.1 0xA1BF (by decide) (by decide) (by decide) (by decide) (by decide))⟩

/-- A mailbox of `land` in a state. -/
def box (a : Nat) (m : Mbx) : State := { land with mbx := [(a, m)] }

/-- An open write of a tally, of a seam entry and of a shift order. -/
def tallyW : Mbx := { sel := selWord true 1 0, words := 2, valid := true, opened := true }
def orderW : Mbx := { sel := selWord true 6 0, words := 4, valid := true, opened := true }
def orderBad : Mbx := { orderW with data := 0xFFFF_FFFF_FFFF_FFFF_FFFF_FFFF }

/-- An idle instance, a capture of a tally and of an order, data words below the highest, a value taken and one refused. -/
theorem meets_MailboxCompletes (h : Obligations.MailboxCompletes) :
    (∃ t, exec (.mbxSelRead .operator 1 5) ready = .next t) ∧
    (∃ t, exec (.mbxSelWrite .operator 6 0) ready = .next t) ∧
    (∃ t, exec (.mbxCaptureDone .operator .clean) (box 0 { sel := selWord false 6 0, words := 4, busy := true }) = .next t) ∧
    (∃ t, exec (.mbxCaptureDone .lamp .corrected) (box 7 { sel := selWord false 1 0, words := 2, busy := true }) = .next t) ∧
    (∃ t, exec (.mbxDataWrite .lamp 0 1) (box 7 orderW) = .next t) ∧
    (∃ t, exec (.mbxDataWrite .lamp 7 1) (box 7 orderW) = .next t) :=
  have on (s : State) (ap : Aperture) := h.1 s ap
  ⟨⟨_, (on ready .operator ⟨ready_ready, rfl, rfl, rfl⟩ rfl).1 1 5 rfl⟩,
   ⟨_, (on ready .operator ⟨ready_ready, rfl, rfl, rfl⟩ rfl).2.1 6 0 rfl⟩,
   ⟨_, ((on (box 0 { sel := selWord false 6 0, words := 4, busy := true }) .operator ⟨land_ready, rfl, rfl, rfl⟩ rfl).2.2.1 .clean rfl (by decide)).2⟩,
   ⟨_, ((on (box 7 { sel := selWord false 1 0, words := 2, busy := true }) .lamp ⟨land_ready, rfl, rfl, rfl⟩ rfl).2.2.1 .corrected rfl (by decide)).2⟩,
   ((on (box 7 orderW) .lamp ⟨land_ready, rfl, rfl, rfl⟩ rfl).2.2.2 0 1 rfl (by decide)).elim fun _ x => ⟨_, x.2.2.1 (by decide)⟩,
   ((on (box 7 orderW) .lamp ⟨land_ready, rfl, rfl, rfl⟩ rfl).2.2.2 7 1 rfl (by decide)).elim fun _ x => ⟨_, x.2.2.1 (by decide)⟩⟩

/-- Words that are equal make equal data. -/
theorem words_eq {d e : BitVec 256} (h : ∀ j < 8, d.extractLsb' (32 * j) 32 = e.extractLsb' (32 * j) 32) : d = e := by
  apply BitVec.eq_of_getLsbD_eq; intro i hi
  have g := congrArg (·.getLsbD (i % 32)) (h (i / 32) (by omega))
  simpa [BitVec.getLsbD_extractLsb', Nat.mod_lt, Nat.div_add_mod] using g

/-- A tally's new value is taken from the Lamp; an order of no kind is refused. -/
theorem meets_MailboxCommits (h : Obligations.MailboxCompletes) :
    (∃ t, exec (.mbxDataWrite .lamp 1 0) (box 7 tallyW) = .next t) ∧ ∃ t, exec (.mbxDataWrite .lamp 3 0xFFFF_FFFF) (box 7 orderBad) = .next t := by
  obtain ⟨d, e, f, _, g, _⟩ := (h.1 (box 7 tallyW) .lamp ⟨land_ready, rfl, rfl, rfl⟩ rfl).2.2.2 1 0 rfl (by decide)
  obtain ⟨d', e', f', _, _, g'⟩ := (h.1 (box 7 orderBad) .lamp ⟨land_ready, rfl, rfl, rfl⟩ rfl).2.2.2 3 0xFFFF_FFFF rfl (by decide)
  have z : d = 0 := words_eq fun j hj => if k : j = 1 then by subst k; exact e.trans (by decide) else (f j hj k).trans (by simp [box, tallyW, State.mbxAt, Tab.getD, Tab.find, apIdx])
  have z' : d' = 0xFFFF_FFFF_FFFF_FFFF_FFFF_FFFF_FFFF_FFFF := words_eq fun j hj => if k : j = 3 then by subst k; exact e'.trans (by decide) else
    (f' j hj k).trans (by revert k; revert hj; revert j; decide)
  subst z; subst z'
  exact ⟨⟨_, g _ rfl rfl⟩, _, g' rfl rfl⟩

/-- Selections while busy, a word where no write is open, captures that the checks refuse. -/
theorem meets_MailboxRefuses (h : Obligations.MailboxCompletes) :
    (∃ t, exec (.mbxSelRead .operator 1 5) (box 0 { busy := true }) = .next t) ∧
    (∃ t, exec (.mbxSelWrite .operator 1 5) (box 0 { busy := true }) = .next t) ∧
    (∃ t, exec (.mbxDataWrite .operator 7 1) land = .next t) ∧
    (∃ t, exec (.mbxCaptureDone .operator .clean) (box 0 { busy := true }) = .next t) :=
  ⟨⟨_, (h.2 (box 0 { busy := true }) .operator ⟨land_ready, rfl, rfl, rfl⟩ rfl).1 1 5 rfl⟩,
   ⟨_, (h.2 (box 0 { busy := true }) .operator ⟨land_ready, rfl, rfl, rfl⟩ rfl).2.1 1 5 rfl⟩,
   ⟨_, (h.2 land .operator ⟨land_ready, rfl, rfl, rfl⟩ rfl).2.2.1 7 1 rfl⟩,
   ⟨_, (h.2 (box 0 { busy := true }) .operator ⟨land_ready, rfl, rfl, rfl⟩ rfl).2.2.2 .clean rfl (by decide)⟩⟩

/-- An open write abandoned; a selection while busy. -/
theorem meets_MailboxReselects (h : Obligations.MailboxReselects) :
    (∃ t, exec (.mbxSelRead .operator 6 0) (box 0 orderW) = .next t) ∧
    (∃ t, exec (.mbxSelWrite .operator 6 0) (box 0 { sel := selWord false 6 0, words := 4, busy := true }) = .next t) :=
  ⟨((h (box 0 orderW) .operator false 6 0 ⟨land_ready, rfl, rfl, rfl⟩ rfl).1 rfl).elim fun _ x => ⟨_, x⟩,
   ⟨_, ((h (box 0 { sel := selWord false 6 0, words := 4, busy := true }) .operator true 6 0 ⟨land_ready, rfl, rfl, rfl⟩ rfl).2 rfl).1⟩⟩

/-- Mailboxes in a phase, one of them open for writing, and a step. -/
theorem meets_MailboxPhaseKept (h : Obligations.MailboxPhaseKept) : ∃ t, step (box 0 orderW) = .next t ∧ t.MbxOk :=
  ⟨_, rfl, h (box 0 orderW) _ (by intro x hx; simp [box] at hx; subst hx; decide) rfl⟩

theorem meets_MailboxFrame (h : Obligations.MailboxFrame) : ∃ t, exec .drbgReseed (box 0 orderW) = .next t ∧ t.mbx = [(0, orderW)] :=
  ⟨_, rfl, h .drbgReseed (box 0 orderW) _ nofun nofun nofun nofun nofun nofun nofun rfl⟩

/-- The first and the last bit of GLB_SCRATCH, a bit of GLB_IRQ_ENABLE, GLB_ERR_INFO.VALID, GLB_MODE, another register. -/
theorem meets_AliasWriteActsOnOneBit (h : Obligations.AliasWriteActsOnOneBit) :
    (∃ t, exec (.aliasWrite .operator (0x200_0000 + 0 * 128 + 31 * 4) 1) ready = .next t) ∧
    (∃ t, exec (.aliasWrite .operator (0x200_0000 + 0x110 * 128 + 0 * 4) 1) ready = .next t) ∧
    (∃ t, exec (.aliasWrite .lamp (0x200_0000 + 0x110 * 128 + 31 * 4) 1) ready = .next t) ∧
    (∃ t, exec (.aliasWrite .operator (0x200_0000 + 0x104 * 128 + 8 * 4) 1) ready = .next t) ∧
    (∃ t, exec (.aliasWrite .operator (0x200_0000 + 0x34 * 128 + 0 * 4) 1) ready = .next t) ∧
    (∃ t, exec (.aliasWrite .operator (0x200_0000 + 0x10 * 128 + 0 * 4) 1) ready = .next t) ∧
    (ready.aliasBit 0x114 0 true = ready) :=
  have a (s : State) (k) (ap : Aperture) := h s ap 1 k
  ⟨⟨_, (a ready ready_ready .operator (.inl rfl)).1 0 31 (by decide) (by decide)⟩,
   ((a ready ready_ready .operator (.inl rfl)).2.1 0 (by decide)).elim fun _ x => ⟨_, x.2.2⟩,
   ((a ready ready_ready .lamp (.inr rfl)).2.1 31 (by decide)).elim fun _ x => ⟨_, x.2.2⟩,
   ((a ready ready_ready .operator (.inl rfl)).2.2.1 8 (by decide) rfl).elim fun _ x => ⟨_, x.2.2⟩,
   ⟨_, (a ready ready_ready .operator (.inl rfl)).2.2.2.1 (by decide)⟩,
   ⟨_, (a ready ready_ready .operator (.inl rfl)).2.2.2.2.1⟩,
   (a ready ready_ready .operator (.inl rfl)).2.2.2.2.2 0x114 0 (by decide) (by decide) (by decide) (by decide)⟩

/-- EXT_EN and STROBE_FREEZE. -/
def edge (ext freeze : Bool) : State :=
  { land with glb := { land.glb with extEn := ext, buf := [(0, 7)] }, obs := { land.obs with strobe := freeze } }

/-- A buffered GLB_IRQ_ENABLE; the strobe register; the pin with each of EXT_EN and STROBE_FREEZE. -/
theorem meets_StrobeCompletes (h : Obligations.StrobeCompletes) :
    ((edge true true).strobe.glb.irqEn = 7 &&& 0x1FF) ∧
    (∃ t, exec (.updStrobeGo .operator) (edge true true) = .next t) ∧
    (∃ t, exec .strobeOutPulseEnd land = .next t) ∧
    (∃ t, exec .strobeInEdge (edge true false) = .next t) ∧
    (∃ t, exec .strobeInEdge (edge true true) = .next t) ∧
    (∃ t, exec .strobeInEdge (edge false true) = .next t) ∧
    (∃ t, exec .strobeInEdge (edge false false) = .next t) :=
  ⟨(h (edge true true) .operator land_ready).1.2.2.2 7 rfl,
   ⟨_, (h (edge true true) .operator land_ready).2.1 rfl rfl⟩,
   ⟨_, (h land .operator land_ready).2.2.1⟩,
   ⟨_, (h (edge true false) .operator land_ready).2.2.2.1 rfl rfl⟩,
   ⟨_, (h (edge true true) .operator land_ready).2.2.2.2.1 rfl rfl⟩,
   ⟨_, (h (edge false true) .operator land_ready).2.2.2.2.2.1 rfl rfl⟩,
   ⟨_, (h (edge false false) .operator land_ready).2.2.2.2.2.2 rfl rfl⟩⟩

/-! ### Seams (04) -/

/-- CREATE of seam 0 of stack 0 in partition 1's instance: one granule, of a kind, filled or not. -/
def createArgs (w : Word) : State := land.modInst .seam 1 fun i => { i with regs := [(0x10, 0), (0x14, w), (0x18, 0), (0x1C, 0)] }

/-- The same after the entropy source has failed. -/
def createDry : State := { createArgs 1 with vlt := { land.vlt with entropy := 3 } }

/-- Seam 0 with a slot of its next keys still in use. -/
def nextUsed : State := { withSeam (seam0 .sealed) with slots := [(18, { state := .active })] }

/-- UNSEAL with the next slots in use waits; with them EMPTY and no fill the seam is loading at once. -/
theorem meets_Unseal (h : Obligations.SeamCommandsComplete) : (∃ t : State, t.unsealGo 0 = t) ∧ ∃ t u : State, t.unsealGo 0 = u.seamReady 0 .loading :=
  ⟨⟨_, ((h.1 nextUsed .lamp 0).2.2.1 ⟨⟨land_ready, rfl, rfl, rfl⟩, by decide, .inl rfl⟩ rfl rfl (by decide) rfl).2.1 rfl⟩,
   _, _, ((h.1 (withSeam (seam0 .sealed)) .lamp 0).2.2.1 ⟨⟨land_ready, rfl, rfl, rfl⟩, by decide, .inl rfl⟩ rfl rfl (by decide) rfl).2.2 rfl rfl⟩

theorem partSeam (e : Seam) (ho : e.owner = 1) (hp : e.present = true) : (withSeam e).TakesSeam (.part 1) 0 :=
  ⟨⟨land_ready, rfl, rfl, rfl⟩, by decide, .inr ⟨1, rfl, ho, hp⟩⟩
theorem lampSeam (e : Seam) : (withSeam e).TakesSeam .lamp 0 := ⟨⟨land_ready, rfl, rfl, rfl⟩, by decide, .inl rfl⟩

/-- The commands of a seam, each in a state that takes it, from the Lamp and from its partition. -/
theorem meets_SeamCommandsComplete (h : Obligations.SeamCommandsComplete) :
    (∃ t, exec (.seamCreate (.part 1) 0) (createArgs 1) = .next t) ∧
    (∃ t, exec (.seamSeal (.part 1) 0) (withSeam (seam0 .loading)) = .next t) ∧
    (∃ t, exec (.seamUnseal .lamp 0) (withSeam (seam0 .sealed)) = .next t) ∧
    (∃ t, exec (.seamRekey .lamp 0) (withSeam (seam0 .active)) = .next t) ∧
    (∃ t, exec (.seamRetire (.part 1) 0) (withSeam (seam0 .drifting)) = .next t) ∧
    (∃ t, exec (.seamFree .lamp 0) (withSeam (seam0 .dead)) = .next t) ∧
    (∃ t, exec (.seamUnfreeze (.part 1) 0) (withSeam { seam0 .active with frozen := true }) = .next t) :=
  ⟨⟨_, (h.1 (createArgs 1) (.part 1) 0).1 _ _ ⟨land_ready, rfl, rfl, rfl⟩ (by decide) (.inr ⟨1, rfl⟩) rfl (by decide)⟩,
   ⟨_, (h.1 (withSeam (seam0 .loading)) (.part 1) 0).2.1 (partSeam _ rfl rfl) rfl rfl⟩,
   ⟨_, ((h.1 (withSeam (seam0 .sealed)) .lamp 0).2.2.1 (lampSeam _) rfl rfl (by decide) rfl).1⟩,
   ⟨_, ((h.1 (withSeam (seam0 .active)) .lamp 0).2.2.2.1 (lampSeam _) (by decide) rfl).1⟩,
   ⟨_, ((h.1 (withSeam (seam0 .drifting)) (.part 1) 0).2.2.2.1 (partSeam _ rfl rfl) (by decide) rfl).2⟩,
   ⟨_, (h.1 (withSeam (seam0 .dead)) .lamp 0).2.2.2.2.1 (lampSeam _) rfl rfl rfl⟩,
   ⟨_, (h.1 (withSeam { seam0 .active with frozen := true }) (.part 1) 0).2.2.2.2.2 (partSeam _ rfl rfl) (by decide) (by decide) rfl⟩⟩

/-- The commands of a seam where they are refused: by CREATE's checks, by state, by a running command, for another partition, while busy, and from the operator. -/
theorem meets_SeamCommandsRefused (h : Obligations.SeamCommandsComplete) :
    (∃ t, exec (.seamCreate (.part 1) 0) (createArgs 0) = .next t) ∧
    (∃ t, exec (.seamCreate (.part 1) 0) createDry = .next t) ∧
    (∃ t, exec (.seamSeal .lamp 255) land = .next t) ∧
    (∃ t, exec (.seamUnseal .lamp 0) (withSeam { seam0 .sealed with busy := true }) = .next t) ∧
    (∃ t, exec (.seamUnseal .lamp 0) (withSeam { seam0 .sealed with sealEp := BitVec.allOnes 36 }) = .next t) ∧
    (∃ t, exec (.seamUnseal .lamp 0) ({ withSeam (seam0 .sealed) with vlt := { land.vlt with entropy := 3 } }) = .next t) ∧
    (∃ t, exec (.seamRekey .lamp 0) (withSeam (seam0 .dead)) = .next t) ∧
    (∃ t, exec (.seamRetire .lamp 0) (withSeam (seam0 .retiring)) = .next t) ∧
    (∃ t, exec (.seamFree .lamp 0) (withSeam (seam0 .retiring)) = .next t) ∧
    (∃ t, exec (.seamUnfreeze .lamp 0) (withSeam (seam0 .drifting)) = .next t) ∧
    (∃ t, exec (.seamSeal (.part 2) 0) (withSeam (seam0 .loading)) = .next t) ∧
    (∃ t, exec (.seamUnfreeze (.part 2) 0) (withSeam (seam0 .loading)) = .next t) ∧
    (∃ t, exec (.seamCreate .lamp 0) (land.cmdBusy .seam 7 0) = .next t) ∧
    (∃ t, exec (.seamFree .operator 0) land = .next t) :=
  ⟨⟨_, ((h.2 (createArgs 0) (.part 1) 0).1 _ _ ⟨land_ready, rfl, rfl, rfl⟩ (by decide) (.inr ⟨1, rfl⟩) rfl).1 (by decide) (by decide)⟩,
   ⟨_, ((h.2 createDry (.part 1) 0).1 _ _ ⟨land_ready, rfl, rfl, rfl⟩ (by decide) (.inr ⟨1, rfl⟩) rfl).2 (by decide)⟩,
   ⟨_, (h.2 land .lamp 255).2.1 ⟨⟨land_ready, rfl, rfl, rfl⟩, (by decide), .inl rfl⟩ (.inl (by decide))⟩,
   ⟨_, (h.2 (withSeam { seam0 .sealed with busy := true }) .lamp 0).2.2.1 (lampSeam _) (.inr rfl)⟩,
   ⟨_, ((h.2 (withSeam { seam0 .sealed with sealEp := BitVec.allOnes 36 }) .lamp 0).2.2.2.1 (lampSeam _) rfl rfl).1 rfl⟩,
   ⟨_, ((h.2 ({ withSeam (seam0 .sealed) with vlt := { land.vlt with entropy := 3 } }) .lamp 0).2.2.2.1 ⟨⟨land_ready, rfl, rfl, rfl⟩, (by decide), .inl rfl⟩ rfl rfl).2 (by decide) rfl⟩,
   ⟨_, ((h.2 (withSeam (seam0 .dead)) .lamp 0).2.2.2.2.1 (lampSeam _) (by decide)).1⟩,
   ⟨_, ((h.2 (withSeam (seam0 .retiring)) .lamp 0).2.2.2.2.1 (lampSeam _) (by decide)).2⟩,
   ⟨_, (h.2 (withSeam (seam0 .retiring)) .lamp 0).2.2.2.2.2.1 (lampSeam _) (by decide)⟩,
   ⟨_, (h.2 (withSeam (seam0 .drifting)) .lamp 0).2.2.2.2.2.2.1 (lampSeam _) (by decide)⟩,
   ⟨_, ((h.2 (withSeam (seam0 .loading)) (.part 2) 0).2.2.2.2.2.2.2.1 2 rfl ⟨land_ready, rfl, rfl, rfl⟩ (by decide) (.inl (by decide))).1⟩,
   ⟨_, ((h.2 (withSeam (seam0 .loading)) (.part 2) 0).2.2.2.2.2.2.2.1 2 rfl ⟨land_ready, rfl, rfl, rfl⟩ (by decide) (.inl (by decide))).2.2.2.2.2⟩,
   ⟨_, ((h.2 (land.cmdBusy .seam 7 0) .lamp 0).2.2.2.2.2.2.2.2 _ (by simp) ⟨land_ready, rfl, rfl, rfl⟩ (by decide)).1 (.inl rfl) rfl⟩,
   ⟨_, ((h.2 land .operator 0).2.2.2.2.2.2.2.2 _ (by simp) ⟨land_ready, rfl, rfl, rfl⟩ (by decide)).2 (.inl rfl)⟩⟩

/-- Seam 0 with a reference on it. -/
def held (st : SeamState) : State := { withSeam (seam0 st) with tal := { land.tal with refs := [(.ctx 1 0, .seam 0)] } }

/-- RETIRE and death of a seam under a reference, and FREE. -/
theorem meets_ReferencesHoldOnlyFree (h : Obligations.ReferencesHoldOnlyFree) :
    (∃ t, exec (.seamRetire .lamp 0) (held .active) = .next t) ∧
    (∃ t, exec (.seamDead 0) (held .retiring) = .next t) ∧
    (∃ t, exec (.seamFree .lamp 0) (held .dead) = .next t) :=
  ⟨⟨_, ((h (withSeam (seam0 .active)) .lamp 0).1 [(.ctx 1 0, .seam 0)] (lampSeam _) (by decide) rfl).1⟩,
   ((h (withSeam (seam0 .retiring)) .lamp 0).2.1 [(.ctx 1 0, .seam 0)] rfl (by decide) rfl (by decide)).elim fun _ x => ⟨_, x.1⟩,
   ⟨_, (h (held .dead) .lamp 0).2.2 ⟨⟨land_ready, rfl, rfl, rfl⟩, (by decide), .inl rfl⟩ (by decide)⟩⟩

/-- A sweep of seam 0 in shaft 0 runs, and one with its job. -/
def sweep (st : SeamState) (j : SeamJob) (w : Sweep) : State := { withSeam { seam0 st with job := j } with shafts := [(0, { run := some w })] }

/-- A seal point of seam 0 is held. -/
def sealing (held : Option Nat) : State := { withSeam { seam0 .loading with busy := true, job := .sealing, held } with
  hz := [(1, { held := [{ point := .sealPoint 0, stamp := 0, ctx := none, cargo := .seal 0 }] })] }

/-- A versioned seam with tokens. -/
def withTokens (n : Nat) : State := withSeam { seam0 .active with kind := .versioned, tokens := n }

/-- What happens by itself: creation, fills, the seal point with and without a held drift, death, sweeps, the drift's last page, windows, tokens. -/
theorem meets_SeamEventsComplete (h : Obligations.SeamEventsComplete) :
    (∃ t, exec (.seamCreateDone 0) (withSeam { seam0 .empty with job := .create false }) = .next t) ∧
    (∃ t, exec (.seamFillDone 0) (sweep .empty (.create true) { seam := 0, cls := 3, fill := true, done := 512, begun := true }) = .next t) ∧
    (∃ t, exec (.seamFillDone 0) (sweep .sealed .refill { seam := 0, cls := 3, fill := true, done := 512, begun := true }) = .next t) ∧
    (∃ t, exec (.sealPoint 0) (sealing none) = .next t) ∧
    (∃ t, exec (.sealPoint 0) (sealing (some 3)) = .next t) ∧
    (∃ t, exec (.seamDead 0) (withSeam (seam0 .retiring)) = .next t) ∧
    (∃ t, exec (.driftStart 0) ({ withSeam (seam0 .active) with shafts := [(0, { queue := [{ seam := 0, cls := 3 }] })] }) = .next t) ∧
    (∃ t, exec (.sweepPage 0 [] .clean) (sweep .empty (.create true) { seam := 0, cls := 3, fill := true, done := 511, begun := true }) = .next t) ∧
    (∃ t, exec (.sweepPage 0 [] .clean) (sweep .drifting .none { seam := 0, cls := 3, done := 0, begun := true }) = .next t) ∧
    (∃ t, exec (.sweepPage 0 [] .clean) (sweep .drifting .none { seam := 0, cls := 3, done := 511, begun := true }) = .next t) ∧
    (∃ t, exec (.periodicDriftDue 0) (withSeam (seam0 .active)) = .next t) ∧
    (∃ t, exec (.rekeyOverrun 0) (withSeam (seam0 .loading)) = .next t) ∧
    (∃ t, exec (.budgetWindowClose 0) (withSeam { seam0 .active with winEnd := some 5 }) = .next t) ∧
    (∃ t, exec (.writeTokenArrive 0) (withTokens 4095) = .next t) ∧
    (∃ t, exec (.writeTokenArrive 0) (withTokens 0) = .next t) :=
  have g (s : State) (r : s.alive = true) := h s 0 r (by decide)
  ⟨⟨_, (g (withSeam { seam0 .empty with job := .create false }) rfl).1 rfl⟩,
   ⟨_, ((g (sweep .empty (.create true) { seam := 0, cls := 3, fill := true, done := 512, begun := true }) rfl).2.1 _ rfl rfl rfl (by decide)).1 rfl⟩,
   ⟨_, ((g (sweep .sealed .refill { seam := 0, cls := 3, fill := true, done := 512, begun := true }) rfl).2.1 _ rfl rfl rfl (by decide)).2 rfl⟩,
   ⟨_, ((g (sealing none) rfl).2.2.1 _ rfl rfl (by decide) (by decide) (by decide)).1 rfl⟩,
   ⟨_, ((g (sealing (some 3)) rfl).2.2.1 _ rfl rfl (by decide) (by decide) (by decide)).2 3 rfl⟩,
   ⟨_, (g (withSeam (seam0 .retiring)) rfl).2.2.2.1 rfl (by decide)⟩,
   ⟨_, (g ({ withSeam (seam0 .active) with shafts := [(0, { queue := [{ seam := 0, cls := 3 }] })] }) rfl).2.2.2.2.1 0 _ (by decide) rfl nofun⟩,
   (((g (sweep .empty (.create true) { seam := 0, cls := 3, fill := true, done := 511, begun := true }) rfl).2.2.2.2.2.1 0 _ [] .clean (by decide) rfl rfl (by decide) rfl).1 rfl).elim fun _ x => ⟨_, x.1⟩,
   (((g (sweep .drifting .none { seam := 0, cls := 3, done := 0, begun := true }) rfl).2.2.2.2.2.1 0 _ [] .clean (by decide) rfl rfl (by decide) rfl).2.1 rfl (by decide)).elim fun _ x => ⟨_, x.1⟩,
   (((g (sweep .drifting .none { seam := 0, cls := 3, done := 511, begun := true }) rfl).2.2.2.2.2.1 0 _ [] .clean (by decide) rfl rfl (by decide) rfl).2.2 rfl (by decide)).elim fun _ x => ⟨_, x.1⟩,
   ⟨_, (g (withSeam (seam0 .active)) rfl).2.2.2.2.2.2.1 (by decide)⟩,
   ⟨_, (g (withSeam (seam0 .loading)) rfl).2.2.2.2.2.2.2.1 (by decide) (by decide) (by decide)⟩,
   ⟨_, (g (withSeam { seam0 .active with winEnd := some 5 }) rfl).2.2.2.2.2.2.2.2.1 _ rfl⟩,
   ⟨_, ((g (withTokens 4095) rfl).2.2.2.2.2.2.2.2.2 rfl (by decide)).1 (by decide)⟩,
   ⟨_, ((g (withTokens 0) rfl).2.2.2.2.2.2.2.2.2 rfl (by decide)).2 rfl⟩⟩

/-! ### Shafts, egress and the Inner Store (05) -/

/-- Partition 1's seam 0 with a state of shaft 0: unversioned and plain, and versioned with its counter block. -/
def withShaft (sh : Shaft) : State := { withSeam { seam0 .active with kind := .plain } with shafts := [(0, sh)] }
def keyed : Tab Slot := [(16, { state := .active }), (17, { state := .active })]
def versioned (sh : Shaft) (cb : Line := 0) : State := { withSeam { seam0 .active with kind := .versioned, tokens := 9 } with
  shafts := [(0, sh)], slots := keyed, ins := { land.ins with cb := [(0, cb)] } }

/-- A read of line 5, a full write of it, and one of 32 bytes. -/
def read5 : Acc := { line := 5, part := 1, ctx := some 0, src := .home 0 0 }
def write5 : Acc := { read5 with write := true, mask := BitVec.allOnes 64, data := 7 }
def part5 : Acc := { write5 with mask := 0xFFFF_FFFF }

/-- A member to be staged asks for line 5. -/
def staged5 : Acc := { read5 with src := .cart 1 }
def stagedBy (s : State) : State := { s with cart := { s.cart with
  staged := [{ key := 1, issuer := 0, cart := 0, q := 0, part := 1, src := 0, tag := 0, op := { opcode := 2 } }] } }

/-- Line 5 in the write buffer, and in the tracker of the shaft and of the home. -/
def wb5 : WbLine := { c := 7, mac := 0, meta_ := 0, seam := 0, ver := 0, padSlot := 16 }
def track5 : Track := { tag := 3, line := 5, seam := 0, part := 1, ctx := some 0, src := .home 0 0, padSlot := 16, hashSlot := 17, kind := .plain, ep := 0, ver := some 0 }
def raw5 (fixed : Bool) : Option (Line × BitVec 72 × Bool) := some (7, 0, fixed)
def keeps5 (s : State) : State := { s with home := { s.home with vals := [(5, 7)] } }
def page0Lost : List LostPage := [{ seam := 0, page := 0 }]

/-- Zero bits as the hub returns them decode to zeros; three wrong symbols do not decode. -/
def zeroLine : HubLine := ⟨0, 0⟩
def badLine : HubLine := ⟨0x010203, 0⟩

theorem zeroLine_decodes : decodeLine false zeroLine = some ⟨0, 0, 0, false⟩ := by decide +kernel
theorem badLine_fails : decodeLine false badLine = none := by decide +kernel

theorem old_plain (s : State) (k n line : Nat) (key : Nat × Nat × BitVec 4) (ver : BitVec 44) (l : HubLine) (c : Line)
    (h : (s.seam n).kind = .plain) (hd : decodeLine (s.shaft k).narrow l = some ⟨c, 0, 0, false⟩) :
    s.oldLine k n line key ver l = .ok (c ^^^ s.padOf (s.seam n) n key.1 line ver, false) := by
  simp only [State.oldLine, hd, h]; rfl
theorem old_bad (s : State) (k n line : Nat) (key : Nat × Nat × BitVec 4) (ver : BitVec 44) (l : HubLine)
    (hd : decodeLine (s.shaft k).narrow l = none) : s.oldLine k n line key ver l = .error 0x2102 := by simp only [State.oldLine, hd]

theorem shaft0 (s : State) (h : s.alive = true) (e : s.inEngStep (.shaft 0) = false) : s.ShaftOn 0 := ⟨h, by decide, e⟩

/-- Reads: refused, of a frozen seam, from the home's tracker and the write buffer, of a lost page, under a cached and a missing counter block; their counter blocks, pads, lines and verdicts. -/
theorem meets_ShaftReads (h : Obligations.ShaftAccessesComplete) :
    (∃ t, exec (.shaftRead 0) ({ land with shafts := [(0, { q := [read5] })] }) = .next t) ∧
    (∃ t, exec (.shaftRead 0) ({ withSeam { seam0 .active with frozen := true } with shafts := [(0, { q := [read5] })] }) = .next t) ∧
    (∃ t, exec (.shaftRead 0) (keeps5 (withShaft { q := [read5] })) = .next t) ∧
    (∃ t, exec (.shaftRead 0) (versioned { q := [read5], lost := page0Lost }) = .next t) ∧
    (∃ t, exec (.shaftRead 0) (stagedBy (versioned { q := [staged5], lost := page0Lost })) = .next t) ∧
    (∃ t, exec (.shaftRead 0) (withShaft { q := [read5], wb := [(5, wb5)] }) = .next t) ∧
    (∃ t, exec (.shaftRead 0) (withShaft { q := [read5] }) = .next t) ∧
    (∃ t, exec (.shaftRead 0) (versioned { q := [read5] }) = .next t) ∧
    (∃ t, exec (.counterFetchDone 0 9 .clean) (withShaft { fetch := [9] }) = .next t) ∧
    (∃ t, exec (.counterFetchDone 0 0 .uncorr) (versioned { fetch := [0], track := [{ track5 with ver := none }] }) = .next t) ∧
    (∃ t, exec (.counterFetchDone 0 0 .corrected) (versioned { fetch := [0], track := [{ track5 with ver := none }] }) = .next t) ∧
    (∃ t, exec (.padReady 0 3) (withShaft { track := [{ track5 with pads := false }] }) = .next t) ∧
    (∃ t, exec (.padReady 0 3) (withShaft { track := [{ track5 with pads := false, raw := raw5 false }] }) = .next t) ∧
    (∃ t, exec (.hubReadReturn 0 3 zeroLine) (withShaft { track := [track5] }) = .next t) ∧
    (∃ t, exec (.hubReadReturn 0 3 badLine) (withShaft { track := [track5] }) = .next t) ∧
    (∃ t, exec (.hubReadReturn 0 3 badLine) (stagedBy (withShaft { track := [{ track5 with src := .cart 1 }] })) = .next t) ∧
    (∃ t, exec (.correctionVerdict 0) (withShaft { track := [{ track5 with raw := raw5 true, stamp := some 0 }], corrQ := [3] }) = .next t) ∧
    (∃ t, exec (.correctionVerdict 0) (withShaft { track := [{ track5 with raw := raw5 true, stamp := some 0 }, { track5 with tag := 4, line := 6, raw := raw5 true }], corrQ := [3], corrWait := [4] }) = .next t) :=
  have r (s : State) (a : s.alive = true) (e) := h.1 s 0 (shaft0 s a e)
  ⟨⟨_, ((r ({ land with shafts := [(0, { q := [read5] })] }) rfl rfl).1 read5 _ rfl).1 _ rfl⟩,
   ⟨_, ((r ({ withSeam { seam0 .active with frozen := true } with shafts := [(0, { q := [read5] })] }) rfl rfl).1 read5 _ rfl).2.1 rfl⟩,
   ⟨_, (((r (keeps5 (withShaft { q := [read5] })) rfl rfl).1 read5 _ rfl).2.2 0 _ rfl rfl).1 7 rfl⟩,
   ⟨_, (((r (versioned { q := [read5], lost := page0Lost }) rfl rfl).1 read5 _ rfl).2.2 0 _ rfl rfl).2.1 rfl ⟨rfl, rfl⟩ rfl⟩,
   ⟨_, (((r (stagedBy (versioned { q := [staged5], lost := page0Lost })) rfl rfl).1 staged5 _ rfl).2.2 0 _ rfl rfl).2.2.1 rfl ⟨rfl, rfl⟩ rfl⟩,
   ⟨_, (((r (withShaft { q := [read5], wb := [(5, wb5)] }) rfl rfl).1 read5 _ rfl).2.2 0 _ rfl rfl).2.2.2.1 _ rfl (by decide) rfl⟩,
   ⟨_, ((((r (withShaft { q := [read5] }) rfl rfl).1 read5 _ rfl).2.2 0 _ rfl rfl).2.2.2.2 _ rfl (by decide) rfl rfl).1 (.inl (by decide))⟩,
   ⟨_, ((((r (versioned { q := [read5] }) rfl rfl).1 read5 _ rfl).2.2 0 _ rfl rfl).2.2.2.2 _ rfl (by decide) rfl rfl).2 rfl rfl⟩,
   ⟨_, ((r (withShaft { fetch := [9] }) rfl rfl).2.1 9 .clean rfl).1 rfl⟩,
   ⟨_, (((r (versioned { fetch := [0], track := [{ track5 with ver := none }] }) rfl rfl).2.1 0 .uncorr rfl).2 0 _ rfl).1 rfl⟩,
   ⟨_, (((r (versioned { fetch := [0], track := [{ track5 with ver := none }] }) rfl rfl).2.1 0 .corrected rfl).2 0 _ rfl).2 (by decide)⟩,
   ⟨_, ((r (withShaft { track := [{ track5 with pads := false }] }) rfl rfl).2.2.1 3 _ rfl).1 rfl⟩,
   ⟨_, ((r (withShaft { track := [{ track5 with pads := false, raw := raw5 false }] }) rfl rfl).2.2.1 3 _ rfl).2 _ rfl⟩,
   ⟨_, ((r (withShaft { track := [track5] }) rfl rfl).2.2.2.1 3 zeroLine track5 rfl).1 _ zeroLine_decodes⟩,
   ⟨_, ((r (withShaft { track := [track5] }) rfl rfl).2.2.2.1 3 badLine track5 rfl).2.1 badLine_fails rfl⟩,
   ⟨_, ((r (stagedBy (withShaft { track := [{ track5 with src := .cart 1 }] })) rfl rfl).2.2.2.1 3 badLine { track5 with src := .cart 1 } rfl).2.2 badLine_fails rfl⟩,
   ⟨_, ((r (withShaft { track := [{ track5 with raw := raw5 true, stamp := some 0 }], corrQ := [3] }) rfl rfl).2.2.2.2.1 3 [] _ _ rfl rfl rfl).1 rfl⟩,
   ⟨_, ((r (withShaft { track := [{ track5 with raw := raw5 true, stamp := some 0 }, { track5 with tag := 4, line := 6, raw := raw5 true }], corrQ := [3], corrWait := [4] }) rfl rfl).2.2.2.2.1 3 [] _ _ rfl rfl rfl).2 4 [] _ _ rfl rfl rfl⟩⟩

/-- A line that is offered: held for its pads, for room in the correction queue, and delivered. -/
theorem meets_OfferedLine (h : Obligations.ShaftAccessesComplete) (d : Decoded) (hf : d.fixed = true) :
    (∃ t, (withShaft {}).offerLine 0 { track5 with pads := false } d = t) ∧
    (∃ t, (versioned { corrQ := List.replicate 8 9 }).offerLine 0 { track5 with kind := .versioned } d = t) ∧
    (∃ t, (versioned {}).offerLine 0 { track5 with kind := .versioned } d = t) ∧
    ∃ t, (withShaft {}).deliverLine 0 track5 { d with fixed := false } = t :=
  have r (s : State) (a : s.alive = true) (e) := (h.1 s 0 (shaft0 s a e)).2.2.2.2.2
  ⟨⟨_, (r (withShaft {}) rfl rfl { track5 with pads := false } d).1 (.inl rfl)⟩,
   ⟨_, (r (versioned { corrQ := List.replicate 8 9 }) rfl rfl { track5 with kind := .versioned } d).2.1 rfl rfl ⟨hf, nofun, rfl⟩ (by decide)⟩,
   ⟨_, (r (versioned {}) rfl rfl { track5 with kind := .versioned } d).2.2.1 rfl rfl (.inr (by decide))⟩,
   _, (r (withShaft {}) rfl rfl track5 { d with fixed := false }).2.2.2 rfl rfl⟩

/-- A write that goes on: to a lost page, at the last minor of a major and of the last major, a full line, and part of a line that the home keeps,
the write buffer holds, and neither does. -/
theorem meets_WriteGo (h : Obligations.ShaftAccessesComplete) :
    (∃ t, (versioned { lost := page0Lost }).writeGo 0 0 write5 = t) ∧
    (∃ t, (versioned {} ((0xF_FFFF_FFFF <<< 476) ||| (127 <<< 63))).writeGo 0 0 write5 = t) ∧
    (∃ t, (versioned {} (127 <<< 63)).writeGo 0 0 write5 = t) ∧ (∃ t, (withShaft {}).writeGo 0 0 write5 = t) ∧
    (∃ t, (keeps5 (withShaft {})).writeGo 0 0 part5 = t) ∧ (∃ t, (withShaft { wb := [(5, wb5)] }).writeGo 0 0 part5 = t) ∧
    ∃ t, (withShaft {}).writeGo 0 0 part5 = t :=
  have r (s : State) (a : s.alive = true) (e) := (h.2 s 0 (shaft0 s a e)).2.2.1 0
  ⟨⟨_, (r (versioned { lost := page0Lost }) rfl rfl write5).1 ⟨rfl, .inl rfl⟩⟩,
   ⟨_, (r (versioned {} ((0xF_FFFF_FFFF <<< 476) ||| (127 <<< 63))) rfl rfl write5).2.1 (by decide) ⟨rfl, by decide +kernel⟩ (by decide +kernel)⟩,
   ⟨_, (r (versioned {} (127 <<< 63)) rfl rfl write5).2.2.1 (by decide) ⟨rfl, by decide +kernel⟩ (by decide +kernel)⟩,
   ⟨_, (r (withShaft {}) rfl rfl write5).2.2.2.1 (by decide) (by decide) (by decide)⟩,
   ⟨_, (r (keeps5 (withShaft {})) rfl rfl part5).2.2.2.2.1 7 (by decide) (by decide) (by decide) rfl⟩,
   ⟨_, (r (withShaft { wb := [(5, wb5)] }) rfl rfl part5).2.2.2.2.2.1 _ (by decide) (by decide) (by decide) rfl rfl⟩,
   _, (r (withShaft {}) rfl rfl part5).2.2.2.2.2.2 (by decide) (by decide) (by decide) rfl rfl⟩

/-- Writes: refused and going on, none that can start, refreshes and old lines of each outcome, an acknowledgement. -/
theorem meets_ShaftWrites (h : Obligations.ShaftAccessesComplete) :
    (∃ t, exec (.shaftWrite 0) ({ land with shafts := [(0, { q := [write5] })] }) = .next t) ∧
    (∃ t, exec (.shaftWrite 0) (withShaft { q := [write5] }) = .next t) ∧
    (∃ t, exec (.shaftWrite 0) (versioned { q := [write5] }) = .next t) ∧
    (∃ t, exec (.refreshDone 0 []) (withShaft { refresh := [{ seam := 0, page := 0, i := 5, w := write5 }] }) = .next t) ∧
    (∃ t, exec (.refreshDone 0 []) (withShaft { refresh := [{ seam := 0, page := 0, i := 5, w := part5 }] }) = .next t) ∧
    (∃ t, exec (.refreshDone 0 (List.replicate 6 badLine)) (withShaft { refresh := [{ seam := 0, page := 0, i := 5, w := part5 }] }) = .next t) ∧
    (∃ t, exec (.partialOldLineReturn 0 3 zeroLine) (withShaft { track := [{ track5 with old := some part5 }] }) = .next t) ∧
    (∃ t, exec (.partialOldLineReturn 0 3 badLine) (withShaft { track := [{ track5 with old := some part5 }] }) = .next t) ∧
    (∃ t, exec (.hubWriteAck 0 5) (withShaft { wb := [(5, wb5)] }) = .next t) :=
  have w (s : State) (a : s.alive = true) (e) := h.2 s 0 (shaft0 s a e)
  ⟨⟨_, ((w ({ land with shafts := [(0, { q := [write5] })] }) rfl rfl).1 write5 _ rfl).1 _ rfl⟩,
   ⟨_, ((w (withShaft { q := [write5] }) rfl rfl).1 write5 _ rfl).2 0 _ rfl rfl⟩,
   ⟨_, (w (versioned { q := [write5] }) rfl rfl).2.1 rfl⟩,
   ⟨_, ((w (withShaft { refresh := [{ seam := 0, page := 0, i := 5, w := write5 }] }) rfl rfl).2.2.2.1 _ [] _ [] rfl rfl).1 (by decide)⟩,
   ⟨_, ((w (withShaft { refresh := [{ seam := 0, page := 0, i := 5, w := part5 }] }) rfl rfl).2.2.2.1 _ [] _ [] rfl rfl).2.1 _ _ (by decide) (old_plain _ _ _ _ _ _ _ _ rfl zeroLine_decodes)⟩,
   ⟨_, ((w (withShaft { refresh := [{ seam := 0, page := 0, i := 5, w := part5 }] }) rfl rfl).2.2.2.1 _ [] _ (List.replicate 6 badLine) rfl rfl).2.2 _ (by decide) (old_bad _ _ _ _ _ _ _ badLine_fails)⟩,
   ⟨_, ((w (withShaft { track := [{ track5 with old := some part5 }] }) rfl rfl).2.2.2.2.1 3 zeroLine _ part5 rfl rfl).1 _ _ (old_plain _ _ _ _ _ _ _ _ rfl zeroLine_decodes)⟩,
   ⟨_, ((w (withShaft { track := [{ track5 with old := some part5 }] }) rfl rfl).2.2.2.2.1 3 badLine _ part5 rfl rfl).2 _ (old_bad _ _ _ _ _ _ _ badLine_fails)⟩,
   ⟨_, (w (withShaft { wb := [(5, wb5)] }) rfl rfl).2.2.2.2.2 5 wb5 rfl⟩⟩

/-- Partition 1's horizon holds one egress with deliveries open; the host slot is its own, and its port to node 1 is up with credits, or not. -/
def egress1 (point : EgressPoint) (cargo : Cargo) (opn : List Nat := []) (st : PortState := .up) : State := { land with
  hst := { land.hst with up := true }
  fab := { land.fab with hostSlot := 1, ports := [(0, { state := st, owner := 1, peer := 1, limit := [512, 512, 512] })] }
  hz := [(1, { next := 5, opn, held := [{ point, stamp := 2, ctx := some 0, cargo }] })] }
def packet1 : Cargo := .packet { dst := 1, part := 1 }

/-- A packet that leaves and one that is routed anew; each kind of what goes to the host; a delivery without its verdict. -/
theorem meets_EgressLeavesAfterVerdicts (h : Obligations.EgressLeavesAfterVerdicts) :
    (∃ t, exec (.egressRelease 1 (.port 0)) (egress1 (.port 0) packet1) = .next t) ∧
    (∃ t, exec (.egressRelease 1 (.port 0)) (egress1 (.port 0) packet1 [] .down) = .next t) ∧
    (∃ t, exec (.egressRelease 1 .host) (egress1 .host (.completion 0 0 0 [] false) [2]) = .next t) ∧
    (∃ t, exec (.egressRelease 1 .host) (egress1 .host (.completion 0 0 0 [] true) [2]) = .next t) ∧
    (∃ t, exec (.egressRelease 1 .host) (egress1 .host (.hostWrite 32 0 [] none) [2]) = .next t) ∧
    (∃ t, exec (.egressRelease 1 .host) (egress1 .host (.record 0 0 []) [2]) = .next t) ∧
    (∃ t, exec (.egressRelease 1 .host) (egress1 .host (.msix 32) [2]) = .next t) ∧
    (∃ t, exec (.egressRelease 1 .host) (egress1 .host (.unit 0 0 []) [2]) = .next t) ∧
    (∃ t, exec (.egressRelease 1 (.port 0)) (egress1 (.port 0) packet1 [1]) = .next t) :=
  have p (st : PortState) := h.1 (egress1 (.port 0) packet1 [] st) 1 (.port 0) _ rfl (by decide) (by decide) rfl rfl
  have o (c : Cargo) := h.1 (egress1 .host c [2]) 1 .host _ rfl (by decide) (by decide) rfl rfl
  ⟨⟨_, ((p .up).1 0 _ rfl rfl).1 (by decide) (by decide) (by decide)⟩,
   ⟨_, ((p .down).1 0 _ rfl rfl).2 (by decide)⟩,
   ⟨_, ((o _).2 (by decide) rfl).1 0 0 0 [] rfl (by decide)⟩,
   ⟨_, ((o _).2 (by decide) rfl).2.1 0 0 0 [] rfl (by decide)⟩,
   ⟨_, ((o _).2 (by decide) rfl).2.2.1 32 0 [] none rfl (by decide)⟩,
   ⟨_, ((o _).2 (by decide) rfl).2.2.2.1 0 0 [] rfl (by decide)⟩,
   ⟨_, ((o _).2 (by decide) rfl).2.2.2.2.1 32 rfl (by decide) rfl⟩,
   ⟨_, ((o _).2 (by decide) rfl).2.2.2.2.2 0 0 [] rfl nofun⟩,
   ⟨_, h.2 (egress1 (.port 0) packet1 [1]) 1 (.port 0) _ rfl (by decide) (by decide) rfl rfl ⟨1, by decide, by decide⟩ (by rintro _ _ ⟨⟩ ⟨⟩; decide)⟩⟩

/-- Cluster c of `land` in a state. -/
def clus (c : Nat) (k : Cluster) : State := { land with clus := [(c, k)] }

/-- A sample that agrees, and each that does not; after a retirement; in a cluster without a spare. -/
theorem meets_LaneSampleCompletes (h : Obligations.LaneSampleCompletes) :
    (∃ t, exec (.laneSample 0 ⟨1, 1, 1⟩) (clus 0 { spareOut := true }) = .next t) ∧
    (∃ t, exec (.laneSample 112 ⟨1, 1, 1⟩) (clus 112 {}) = .next t) ∧
    (∃ t, exec (.laneSample 47 ⟨1, 2, 1⟩) (clus 47 { laneOut := true }) = .next t) ∧
    (∃ t, exec (.laneSample 57 ⟨1, 2, 2⟩) (clus 57 {}) = .next t) ∧
    (∃ t, exec (.laneSample 47 ⟨1, 2, 1⟩) (clus 47 {}) = .next t) ∧
    (∃ t, exec (.laneSample 48 ⟨1, 2, 3⟩) (clus 48 {}) = .next t) :=
  have g (c : Nat) (k : Cluster) (r : Sample) (hc : isCluster c = true) := h (clus c k) c r rfl hc
  ⟨⟨_, (g 0 { spareOut := true } _ rfl).1 (.inr rfl)⟩,
   ⟨_, ((g 112 {} ⟨1, 1, 1⟩ rfl).2 rfl rfl).1 rfl⟩,
   ⟨_, ((g 47 { laneOut := true } ⟨1, 2, 1⟩ rfl).2 rfl rfl).2.1 (by decide) rfl (.inr rfl)⟩,
   ⟨_, ((g 57 {} ⟨1, 2, 2⟩ rfl).2 rfl rfl).2.2.1 (by decide) rfl rfl⟩,
   ⟨_, ((g 47 {} ⟨1, 2, 1⟩ rfl).2 rfl rfl).2.2.2.1 (by decide) rfl rfl⟩,
   ⟨_, ((g 48 {} ⟨1, 2, 3⟩ rfl).2 rfl rfl).2.2.2.2 (by decide) (by decide) (by decide)⟩⟩

/-- An inner-page request waits. -/
def innerReq (r : PageReq) : State := { land with ins := { land.ins with reqs := [r] } }
def innerRead : PageReq := { key := 1, addr := 64, part := 1, ctx := none, src := .home 0 0, len := 64 }
def innerWrite (bytes : List (Option Byte)) : PageReq := { key := 1, addr := 64, part := 1, ctx := none, src := .home 0 0, write := true, bytes }
def innerRmw (m : Rmw) : PageReq := { innerWrite (List.replicate 64 none) with rmw := some m }

/-- A read, a full and a partial write, an atomic, a vector, and an uncorrectable word for a read and a write. -/
theorem meets_InnerPageAccessCompletes (h : Obligations.InnerPageAccessCompletes) :
    (∃ t, exec (.innerPageAccess 0 1 .corrected) (innerReq innerRead) = .next t) ∧
    (∃ t, exec (.innerPageAccess 0 1 .uncorr) (innerReq (innerWrite (List.replicate 8 (some 1)))) = .next t) ∧
    (∃ t, exec (.innerPageAccess 0 1 .clean) (innerReq (innerRmw (.atomic 8 0 []))) = .next t) ∧
    (∃ t, exec (.innerPageAccess 0 1 .clean) (innerReq (innerRmw (.vector 0 0 []))) = .next t) ∧
    (∃ t, exec (.innerPageAccess 0 1 .uncorr) (innerReq (innerWrite [some 1])) = .next t) ∧
    (∃ t, exec (.innerPageAccess 0 1 .uncorr) (innerReq innerRead) = .next t) :=
  have g (q : PageReq) (ecc : Ecc) (f) (p) := h (innerReq q) 0 1 ecc q rfl (by decide) f p
  ⟨⟨_, (g innerRead .corrected rfl nofun).1 (.inr (by decide)) rfl⟩,
   ⟨_, (g (innerWrite (List.replicate 8 (some 1))) .uncorr rfl nofun).2.1 (.inl (by decide)) rfl rfl⟩,
   ⟨_, (g (innerRmw (.atomic 8 0 [])) .clean rfl nofun).2.2.1 8 0 [] (.inr (by decide)) rfl rfl⟩,
   ⟨_, (g (innerRmw (.vector 0 0 [])) .clean rfl nofun).2.2.2.1 _ (.inr (by decide)) rfl rfl nofun⟩,
   ⟨_, (g (innerWrite [some 1]) .uncorr rfl nofun).2.2.2.2.1 (by decide) (.inl rfl)⟩,
   ⟨_, (g innerRead .uncorr rfl nofun).2.2.2.2.2.1 (by decide) rfl rfl⟩⟩

/-- Reset's empty pages are in form; byte 1 is written between a byte left out and one beyond, which reads as before. -/
theorem meets_InnerWriteReadsBack (h : Obligations.InnerWriteReadsBack) :
    (land.writeInner 1 64 [none, some 9]).ins.pages.getD (64 % 2 ^ 44 + 1) 0 = 9 ∧
    (land.writeInner 1 64 [none, some 9]).ins.pages.getD 64 0 = land.ins.pages.getD 64 0 ∧
    (land.writeInner 1 64 [none, some 9]).ins.pages.getD 66 0 = land.ins.pages.getD 66 0 :=
  have p : land.PagesOk := by unfold State.PagesOk; decide
  ⟨(h land 1 64 [none, some 9] p).2.1 1 9 rfl,
   (h land 1 64 [none, some 9] p).2.2 64 fun i e => .inr (by have : i = 0 := by omega
                                                             subst this; rfl),
   (h land 1 64 [none, some 9] p).2.2 66 fun i e => .inl (by have : i = 2 := by omega
                                                             subst this; rfl)⟩

theorem meets_InnerPagesKeptCanonical (h : Obligations.InnerPagesKeptCanonical) :
    ∃ t, step { land with pending := [.innerPageAccess 0 1 .clean], ins := { land.ins with pages := [(64, 1)], reqs := [innerWrite [some 1]] } } = .next t ∧
      t.PagesOk :=
  ⟨_, rfl, h { land with pending := [.innerPageAccess 0 1 .clean], ins := { land.ins with pages := [(64, 1)], reqs := [innerWrite [some 1]] } } _
    (by unfold State.PagesOk; decide) rfl⟩

/-- The first and the last word of a slice, the end of a pass, and the zeroing of the last share. -/
theorem meets_ScrubbingCompletes (h : Obligations.ScrubbingCompletes) :
    (∃ t, exec (.scrubWordRead 0 0 .clean) land = .next t) ∧
    (∃ t, exec (.scrubWordRead 3 268435455 .corrected) land = .next t) ∧
    (∃ t, exec (.scrubWordRead 3 268435455 .uncorr) land = .next t) ∧
    (∃ t, exec (.scrubPassEnd 1) land = .next t) ∧
    (∃ t, exec (.shareZeroDone 11) ({ land with ins := { land.ins with zeroing := [11] } }) = .next t) :=
  ⟨⟨_, ((h land 0 rfl (by decide)).1 0 (by decide)).1⟩,
   ⟨_, ((h land 3 rfl (by decide)).1 268435455 (by decide)).2.1⟩,
   ⟨_, ((h land 3 rfl (by decide)).1 268435455 (by decide)).2.2⟩,
   (h land 1 rfl (by decide)).2.1.elim fun _ x => ⟨_, x.1⟩,
   ⟨_, (h ({ land with ins := { land.ins with zeroing := [11] } }) 0 rfl (by decide)).2.2 11 (by decide) rfl⟩⟩

/-! ### Sites (07) -/

/-- Site 0 in a state with its traffic. -/
def site (x : Site) (io : SiteIo := {}) : State := { land with sites := [(0, x)], sio := [(0, io)] }

/-- Site 0 in bring-up at a step, and in RUN under keys of zeros. -/
def siteBoot (step : Nat) : Site := { state := .boot, linkUp := true, step, th := List.replicate 64 0 }
def siteRun : Site := { state := .run, linkUp := true, step := 7, z := some 16, txK := some 17, rxK := some 18 }

/-- A whole bootstrap message has come. -/
def came (code : Nat) : SiteIo := { chunks := some (code, [], true) }

/-- A HELLO and a RESPONSE that the descriptor of `lease1` matches. -/
def hello0 : ShimHello := { maker := 0, part := 0, rev := 0, version := 1, credits := 16, bytes := [] }
def resp0 : ShimResponse := { unitId := 1, measurement := 0, svn := 0, nonceEcho := 0, endorser := 0, chainOk := true, sigsOk := true, ssKem := []
                              ssEcdh := [], bytes := [] }

/-- A CTRL message accepted from the shim. -/
def ctrlMsg (code : Nat) (payload : List Byte) : SiteIo := { rx := [{ kind := 5, tag := code * 256, payload }] }

/-- A vault without a free slot. -/
def fullVault : Tab Slot := (List.range' 0 4096).map fun n => (n, { state := .active })

theorem find_range (n a k : Nat) (v : Slot) (h : a ≤ k) (g : k < a + n) : Tab.find ((List.range' a n).map fun i => (i, v)) k = some v := by
  induction n generalizing a with
  | zero => omega
  | succ n ih =>
    simp only [List.range'_succ, List.map_cons, Tab.find]
    by_cases e : a = k
    · simp [e]
    · simp only [e, if_false, show ¬ k < a by omega]; exact ih (a + 1) (by omega) (by omega)
theorem none_from (p : Nat → Bool) (n i : Nat) (h : ∀ k, i ≤ k → k < i + n → p k = false) : firstFrom p n i = none := by
  induction n generalizing i with
  | zero => rfl
  | succ n ih => simp only [firstFrom, h i (Nat.le_refl _) (by omega), Bool.false_eq_true, if_false]; exact ih _ fun k a b => h k (by omega) (by omega)
theorem fullVault_full (s : State) (h : s.slots = fullVault) : s.freeSlot [] = none :=
  none_from _ _ _ fun k a b => by
    simp only [State.slot, Tab.getD, h, fullVault, find_range 4096 0 k _ (Nat.zero_le _) (by omega), Option.getD_some]; rfl

/-- The steps of bring-up: each HELLO and RESPONSE that is accepted and rejected, a full vault, KEY_CONFIRM, the timeout and RESTART. -/
theorem meets_SiteBringUp (h : Obligations.SiteLinkCompletes) :
    (∃ t, exec (.siteLinkUp 0 true) (site { state := .down }) = .next t) ∧
    (∃ t, exec (.ctrlHello 0 { hello0 with credits := 15 }) (site (siteBoot 1) (came 1)) = .next t) ∧
    (∃ t, exec (.ctrlHello 0 { hello0 with version := 2 }) (site (siteBoot 1) (came 1)) = .next t) ∧
    (∃ t, exec (.ctrlHello 0 { hello0 with maker := 9 }) (site (siteBoot 1) (came 1)) = .next t) ∧
    (∃ t, exec (.ctrlHello 0 hello0) (site (siteBoot 1) (came 1)) = .next t) ∧
    (∃ t, exec (.ctrlHello 0 hello0) (site (siteBoot 3) (came 1)) = .next t) ∧
    (∃ t, exec (.ctrlResponse 0 { resp0 with sigsOk := false }) (site (siteBoot 3) (came 3)) = .next t) ∧
    (∃ t, exec (.ctrlResponse 0 resp0) (site (siteBoot 3) (came 3)) = .next t) ∧
    (∃ t, exec (.ctrlResponse 0 resp0) ({ site (siteBoot 3) (came 3) with slots := fullVault }) = .next t) ∧
    (∃ t, exec (.ctrlKeyConfirm 0) (site (siteBoot 6) (ctrlMsg 5 (List.replicate 36 0))) = .next t) ∧
    (∃ t, exec (.ctrlKeyConfirm 0) (site (siteBoot 6) (ctrlMsg 5 (List.replicate 36 1))) = .next t) ∧
    (∃ t, exec (.bringupTimeout 0) (site (siteBoot 1)) = .next t) ∧
    (∃ t, exec (.tsRestart .operator 0) (site { state := .quarantined }) = .next t) ∧
    (∃ t, exec (.tsRestart .lamp 0) (site siteRun) = .next t) :=
  have g (s : State) := h.1 s 0 (by decide)
  have on : land.PortsOn := ⟨rfl, rfl, rfl⟩
  ⟨⟨_, (g (site { state := .down })).1 on rfl rfl⟩,
   ⟨_, ((g (site (siteBoot 1) (came 1))).2.1 { hello0 with credits := 15 } _ on rfl rfl).1 rfl (by decide)⟩,
   ⟨_, ((g (site (siteBoot 1) (came 1))).2.1 { hello0 with version := 2 } _ on rfl rfl).2.1 rfl (by decide) (by decide) (by decide)⟩,
   ⟨_, ((g (site (siteBoot 1) (came 1))).2.1 { hello0 with maker := 9 } _ on rfl rfl).2.1 rfl (by decide) (by decide) (.inr rfl)⟩,
   ⟨_, ((g (site (siteBoot 1) (came 1))).2.1 hello0 _ on rfl rfl).2.2.1 rfl (by decide) (by decide) rfl rfl⟩,
   ⟨_, ((g (site (siteBoot 3) (came 1))).2.1 hello0 _ on rfl rfl).2.2.2 (by decide)⟩,
   ⟨_, ((g (site (siteBoot 3) (came 3))).2.2.1 { resp0 with sigsOk := false } _ on rfl rfl rfl).1 nofun⟩,
   ⟨_, ((g (site (siteBoot 3) (came 3))).2.2.1 resp0 _ on rfl rfl rfl).2.1 _ _ _ _ _ _ _ _ ⟨rfl, rfl, rfl, rfl⟩ rfl rfl rfl rfl⟩,
   ⟨_, ((g ({ site (siteBoot 3) (came 3) with slots := fullVault })).2.2.1 resp0 _ on rfl rfl rfl).2.2 ⟨rfl, rfl, rfl, rfl⟩ (by rw [State.putLink, fullVault_full _ rfl]; rfl)⟩,
   ⟨_, ((g (site (siteBoot 6) (ctrlMsg 5 (List.replicate 36 0)))).2.2.2.1 _ _ rfl rfl rfl rfl).1 (by decide)⟩,
   ⟨_, ((g (site (siteBoot 6) (ctrlMsg 5 (List.replicate 36 1)))).2.2.2.1 _ _ rfl rfl rfl rfl).2 (by decide)⟩,
   ⟨_, (g (site (siteBoot 1))).2.2.2.2.1 rfl rfl⟩,
   ⟨_, ((g (site { state := .quarantined })).2.2.2.2.2 .operator rfl ⟨land_ready, rfl, rfl, rfl⟩).1 (.inr rfl)⟩,
   ⟨_, ((g (site siteRun)).2.2.2.2.2 .lamp rfl ⟨land_ready, rfl, rfl, rfl⟩).2 nofun nofun⟩⟩

/-- The link lost and found in each state; a HELLO from a running and from a disabled site. -/
theorem meets_SiteLinkLoss (h : Obligations.SiteLinkCompletes) :
    (∃ t, exec (.siteLinkDown 0) (site siteRun) = .next t) ∧
    (∃ t, exec (.siteLinkDown 0) (site (siteBoot 1)) = .next t) ∧
    (∃ t, exec (.siteLinkUp 0 true) (site { siteRun with state := .resync, linkUp := false }) = .next t) ∧
    (∃ t, exec (.resyncTimeout 0) (site { siteRun with state := .resync, linkUp := false }) = .next t) ∧
    (∃ t, exec (.siteLinkUp 0 true) (site { state := .disabled }) = .next t) ∧
    (∃ t, exec (.siteLinkUp 0 false) (site { state := .down }) = .next t) ∧
    (∃ t, exec (.ctrlHello 0 hello0) (site siteRun { came 1 with ops := [{ tag := 1, seq := 0, slot := 0, op := { ctx := some 0 } }] }) = .next t) ∧
    (∃ t, exec (.ctrlHello 0 hello0) (site { state := .disabled } (came 1)) = .next t) :=
  have g (s : State) (on : s.PortsOn) := h.2 s 0 on (by decide)
  have on : land.PortsOn := ⟨rfl, rfl, rfl⟩
  ⟨⟨_, ((g (site siteRun) on).1 rfl).1 rfl⟩,
   ⟨_, ((g (site (siteBoot 1)) on).1 rfl).2 nofun⟩,
   ⟨_, (((g (site { siteRun with state := .resync, linkUp := false }) on).2.1 rfl).1 rfl).1⟩,
   ⟨_, (((g (site { siteRun with state := .resync, linkUp := false }) on).2.1 rfl).1 rfl).2⟩,
   ⟨_, ((g (site { state := .disabled }) on).2.1 rfl).2.1 nofun nofun⟩,
   ⟨_, ((g (site { state := .down }) on).2.1 rfl).2.2⟩,
   ⟨_, ((g (site siteRun { came 1 with ops := [{ tag := 1, seq := 0, slot := 0, op := { ctx := some 0 } }] }) on).2.2 hello0 _ rfl).1 (.inl rfl)⟩,
   ⟨_, ((g (site { state := .disabled } (came 1)) on).2.2 hello0 _ rfl).2 nofun nofun nofun⟩⟩

/-- The head of a frame in epoch 0: its kind, SEQ and code; a payload of zeros; a MAC given as a number. -/
def headOf (kind seq code : Byte) : List Byte := [0, 0, 0, 0, code, seq, 0, kind]
def wire0 : List Byte := List.replicate 64 0
def macOf (x : Dword) : List Byte := (leBytes 8 x.toNat).reverse
def frame (kind seq code : Byte) (mac : Dword) : List Byte := headOf kind seq code ++ wire0 ++ macOf mac

theorem macOf_reads (x : Dword) : BitVec.ofNat 64 (ofLe (macOf x).reverse) = x := by
  simp only [macOf, List.reverse_reverse, ofLe_leBytes]
  apply BitVec.eq_of_toNat_eq; simp only [BitVec.toNat_ofNat]; have := x.isLt; omega

/-- The frame's own MAC under the site's keys. -/
def mac0 (kind seq code : Byte) : Dword :=
  frameMac ((site siteRun).keyBytes 18) ((site siteRun).hashKey 18) (headOf kind seq code) wire0 (linkBlock (BitVec.ofNat 64 seq.toNat) true false 0 0)

theorem next_ne (x : Dword) : x + 1 ≠ x := by bv_omega

/-- From a disabled site; a chunk; a stale SEQ; the expected SEQ with its MAC and with another, first and again after REPLAY; a SEQ ahead, a RESYNC among them. -/
theorem meets_SiteFrames (h : Obligations.SiteFramesComplete) :
    (∃ t, exec (.frameReceive 0 (frame 0x20 0 0 0)) (site { state := .disabled }) = .next t) ∧
    (∃ t, exec (.frameReceive 0 (frame 0x50 0 1 0)) (site (siteBoot 1)) = .next t) ∧
    (∃ t, exec (.frameReceive 0 (frame 0x20 0 0 0)) (site { siteRun with rxSeq := 1 }) = .next t) ∧
    (∃ t, exec (.frameReceive 0 (frame 0x20 0 0 (mac0 0x20 0 0))) (site siteRun) = .next t) ∧
    (∃ t, exec (.frameReceive 0 (frame 0x20 0 0 (mac0 0x20 0 0 + 1))) (site siteRun { await_ := true }) = .next t) ∧
    (∃ t, exec (.frameReceive 0 (frame 0x20 0 0 (mac0 0x20 0 0 + 1))) (site siteRun) = .next t) ∧
    (∃ t, exec (.frameReceive 0 (frame 0x50 1 0x13 (mac0 0x50 1 0x13))) (site { siteRun with state := .resync }) = .next t) ∧
    (∃ t, exec (.frameReceive 0 (frame 0x20 1 0 0)) (site siteRun { await_ := true }) = .next t) ∧
    (∃ t, exec (.frameReceive 0 (frame 0x20 1 0 0)) (site siteRun) = .next t) :=
  have g (x : Site) (io : SiteIo) (k q c : Byte) (m : Dword) (z) := h.1.1 (site x io) 0 (headOf k q c) wire0 (macOf m) ⟨rfl, rfl, rfl⟩ (by decide) rfl rfl rfl z
  ⟨⟨_, (g { state := .disabled } {} 0x20 0 0 0 (by decide)).1 (.inl rfl)⟩,
   ⟨_, ((g (siteBoot 1) {} 0x50 0 1 0 (by decide)).2 nofun nofun rfl).1 (by decide)⟩,
   ⟨_, (((g { siteRun with rxSeq := 1 } {} 0x20 0 0 0 (by decide)).2 nofun nofun rfl).2 (by decide) nofun).1 (by decide)⟩,
   ⟨_, ((((g siteRun {} 0x20 0 0 (mac0 0x20 0 0) (by decide)).2 nofun nofun rfl).2 (fun z => absurd z.1 (by decide)) nofun).2.1 rfl).1 18 rfl (macOf_reads _)⟩,
   ⟨_, (((((g siteRun { await_ := true } 0x20 0 0 (mac0 0x20 0 0 + 1) (by decide)).2 nofun nofun rfl).2 (fun z => absurd z.1 (by decide)) nofun).2.1 rfl).2 (fun _ e => by cases e; rw [macOf_reads]; exact next_ne _)).1 rfl⟩,
   ⟨_, (((((g siteRun {} 0x20 0 0 (mac0 0x20 0 0 + 1) (by decide)).2 nofun nofun rfl).2 (fun z => absurd z.1 (by decide)) nofun).2.1 rfl).2 (fun _ e => by cases e; rw [macOf_reads]; exact next_ne _)).2 rfl⟩,
   ⟨_, ((((g { siteRun with state := .resync } {} 0x50 1 0x13 (mac0 0x50 1 0x13) (by decide)).2 nofun nofun rfl).2 (fun z => absurd z.2.2 (by decide)) nofun).2.2 (by decide) (by decide)).1 18 rfl ⟨rfl, (by decide), (by decide), macOf_reads _⟩⟩,
   ⟨_, (((((g siteRun { await_ := true } 0x20 1 0 0 (by decide)).2 nofun nofun rfl).2 (fun z => absurd z.1 (by decide)) nofun).2.2 (by decide) (by decide)).2 (fun _ _ z => nomatch z.1)).1 rfl⟩,
   ⟨_, (((((g siteRun {} 0x20 1 0 0 (by decide)).2 nofun nofun rfl).2 (fun z => absurd z.1 (by decide)) nofun).2.2 (by decide) (by decide)).2 (fun _ _ z => nomatch z.1)).2 rfl⟩⟩

/-- Accepted frames: REQ and DATA without a credit, under an unanswered FLUSH, and taken; CTRL, and a kind that does not come this way. -/
theorem meets_SiteFrameAccepted (h : Obligations.SiteFramesComplete) :
    (∃ t, (site siteRun).acceptFrame 0 (1 <<< 60) [] = t) ∧ (∃ t, (site siteRun { reqOut := 1, flush := true }).acceptFrame 0 (1 <<< 60) [] = t) ∧
    (∃ t, (site siteRun { reqOut := 1 }).acceptFrame 0 (1 <<< 60) [] = t) ∧ (∃ t, (site siteRun).acceptFrame 0 (2 <<< 60) [] = t) ∧
    (∃ t, (site siteRun { dataOut := 1, flush := true }).acceptFrame 0 (2 <<< 60) [] = t) ∧
    (∃ t, (site siteRun { dataOut := 1 }).acceptFrame 0 (2 <<< 60) [] = t) ∧ (∃ t, (site siteRun).acceptFrame 0 (5 <<< 60) [] = t) ∧
    ∃ t, (site siteRun).acceptFrame 0 (3 <<< 60) [] = t :=
  have g (io : SiteIo) (hd : Dword) := h.1.2 (site siteRun io) 0 hd [] (by decide)
  ⟨⟨_, (g {} (1 <<< 60)).1 (by decide) rfl⟩, ⟨_, (g { reqOut := 1, flush := true } (1 <<< 60)).2.1 (by decide) (by decide) rfl⟩,
   ⟨_, (g { reqOut := 1 } (1 <<< 60)).2.2.1 (by decide) (by decide) rfl⟩, ⟨_, (g {} (2 <<< 60)).2.2.2.1 (by decide) rfl⟩,
   ⟨_, (g { dataOut := 1, flush := true } (2 <<< 60)).2.2.2.2.1 (by decide) (by decide) rfl⟩,
   ⟨_, (g { dataOut := 1 } (2 <<< 60)).2.2.2.2.2.1 (by decide) (by decide) rfl⟩, ⟨_, (g {} (5 <<< 60)).2.2.2.2.2.2.1 (by decide)⟩,
   _, (g {} (3 <<< 60)).2.2.2.2.2.2.2 (by decide) (by decide) (by decide)⟩

/-- An operation of the shim under tag 1, a read of an address of this node unless said otherwise. -/
def slotOp (op : Op) : SlotOp := { tag := 1, seq := 0, slot := 0, op := { op with part := 1 } }
def asks (op : Op) : State := site siteRun { ops := [slotOp op] }

/-- Memory of this node in stack 5, which partition 1 does not own. -/
def afar : Nat := 5 * 2 ^ 36

/-- REQ and DATA frames; an operation that a quarantine left; one of a lost context, of no opcode, a FENCE, CART_END, a member, memory of another, a read, and a posted atomic of this node. -/
theorem meets_SiteRequests (h : Obligations.SiteFramesComplete) :
    (∃ t, exec (.reqFrame 0) (site siteRun { rx := [{ kind := 1, payload := List.replicate 64 0 }] }) = .next t) ∧
    (∃ t, exec (.dataFrame 0) (site siteRun { rx := [{ kind := 2, tag := 1, payload := List.replicate 64 0 }], ops := [{ slotOp { opcode := 2 } with need := 1 }] }) = .next t) ∧
    (∃ t, exec (.dataFrame 0) (site siteRun { rx := [{ kind := 2, tag := 1, payload := List.replicate 64 0 }] }) = .next t) ∧
    (∃ t, exec (.siteSlotIssue 0 1) (site siteRun { kept := [slotOp { opcode := 2 }] }) = .next t) ∧
    (∃ t, exec (.siteSlotIssue 0 1) (asks { opcode := 1, ctx := some 9 }) = .next t) ∧
    (∃ t, exec (.siteSlotIssue 0 1) (asks { opcode := 0x7F, ctx := some 0 }) = .next t) ∧
    (∃ t, exec (.siteSlotIssue 0 1) (asks { opcode := 0x38, ctx := some 0 }) = .next t) ∧
    (∃ t, exec (.siteSlotIssue 0 1) (asks { opcode := 0x3C, ctx := some 0 }) = .next t) ∧
    (∃ t, exec (.siteSlotIssue 0 1) (asks { opcode := 1, len := 4, ctx := some 0, cart := true }) = .next t) ∧
    (∃ t, exec (.siteSlotIssue 0 1) ({ asks { opcode := 1, ctx := some 0, addr := afar } with own := { land.own with stack := [(0, 1), (5, 2)] } }) = .next t) ∧
    (∃ t, exec (.siteSlotIssue 0 1) (asks { opcode := 1, ctx := some 0 }) = .next t) ∧
    (∃ t, exec (.siteSlotIssue 0 1) (asks { opcode := 0x50, ctx := some 0 }) = .next t) :=
  have g (s : State) (a : s.alive = true) := h.2 s 0 a (by decide)
  ⟨⟨_, (g (site siteRun { rx := [{ kind := 1, payload := List.replicate 64 0 }] }) rfl).1 rfl _ _ rfl⟩,
   ⟨_, ((g (site siteRun { rx := [{ kind := 2, tag := 1, payload := List.replicate 64 0 }], ops := [{ slotOp { opcode := 2 } with need := 1 }] }) rfl).2.1 rfl _ _ rfl).1 _ rfl (by decide) rfl⟩,
   ⟨_, ((g (site siteRun { rx := [{ kind := 2, tag := 1, payload := List.replicate 64 0 }] }) rfl).2.1 rfl _ _ rfl).2 nofun⟩,
   ⟨_, (g (site siteRun { kept := [slotOp { opcode := 2 }] }) rfl).2.2.1 1 _ (by decide) rfl⟩,
   ⟨_, ((g (asks { opcode := 1, ctx := some 9 }) rfl).2.2.2 1 _ (by decide) rfl rfl rfl rfl rfl).1 rfl⟩,
   ⟨_, (((g (asks { opcode := 0x7F, ctx := some 0 }) rfl).2.2.2 1 _ (by decide) rfl rfl rfl rfl rfl).2 rfl).1 (by decide)⟩,
   ⟨_, (((g (asks { opcode := 0x38, ctx := some 0 }) rfl).2.2.2 1 _ (by decide) rfl rfl rfl rfl rfl).2 rfl).2.1 (by decide) (by decide)⟩,
   ⟨_, (((g (asks { opcode := 0x3C, ctx := some 0 }) rfl).2.2.2 1 _ (by decide) rfl rfl rfl rfl rfl).2 rfl).2.2.1 (by decide) (by decide) (by decide)⟩,
   ⟨_, (((g (asks { opcode := 1, len := 4, ctx := some 0, cart := true }) rfl).2.2.2 1 _ (by decide) rfl rfl rfl rfl rfl).2 rfl).2.2.2.1 (by decide) (by decide) (by decide) rfl⟩,
   ⟨_, ((((g ({ asks { opcode := 1, ctx := some 0, addr := afar } with own := { land.own with stack := [(0, 1), (5, 2)] } }) rfl).2.2.2 1 _ (by decide) rfl rfl rfl rfl rfl).2 rfl).2.2.2.2 (by decide) (by decide) (by decide) rfl).1 (by decide)⟩,
   ⟨_, ((((g (asks { opcode := 1, ctx := some 0 }) rfl).2.2.2 1 _ (by decide) rfl rfl rfl rfl rfl).2 rfl).2.2.2.2 (by decide) (by decide) (by decide) rfl).2.2 _ (by decide) rfl |>.1 (by decide)⟩,
   ⟨_, ((((g (asks { opcode := 0x50, ctx := some 0 }) rfl).2.2.2 1 _ (by decide) rfl rfl rfl rfl rfl).2 rfl).2.2.2.2 (by decide) (by decide) (by decide) rfl).2.2 _ (by decide) rfl |>.2 (by decide)⟩⟩

/-- Each CTRL message, with each of its outcomes, and TS_CMD REKEY. -/
theorem meets_SiteControlCompletes (h : Obligations.SiteControlCompletes) :
    (∃ t, exec (.ctrlCredit 0) (site siteRun (ctrlMsg 0x10 [0, 0, 1, 0])) = .next t) ∧
    (∃ t, exec (.ctrlReplay 0) (site siteRun { ctrlMsg 0x11 (List.replicate 8 0) with sent := [⟨0, []⟩] }) = .next t) ∧
    (∃ t, exec (.ctrlReplay 0) (site siteRun (ctrlMsg 0x11 [9, 0, 0, 0, 0, 0, 0, 0])) = .next t) ∧
    (∃ t, exec (.ctrlReplayLost 0) (site siteRun (ctrlMsg 0x12 [])) = .next t) ∧
    (∃ t, exec (.ctrlReplayFailed 0) (site siteRun (ctrlMsg 0x19 [])) = .next t) ∧
    (∃ t, exec (.ctrlResync 0) (site { siteRun with state := .resync } { ctrlMsg 0x13 (List.replicate 8 0) with sent := [⟨0, []⟩] }) = .next t) ∧
    (∃ t, exec (.ctrlResync 0) (site { siteRun with state := .resync } (ctrlMsg 0x13 [9, 0, 0, 0, 0, 0, 0, 0])) = .next t) ∧
    (∃ t, exec (.ctrlResync 0) (site siteRun (ctrlMsg 0x13 [])) = .next t) ∧
    (∃ t, exec (.ctrlRekey 0) (site siteRun (ctrlMsg 0x14 [1, 0, 0, 0])) = .next t) ∧
    (∃ t, exec (.ctrlRekey 0) (site siteRun (ctrlMsg 0x14 [0, 0, 0, 0])) = .next t) ∧
    (∃ t, exec (.ctrlRekey 0) (site siteRun (ctrlMsg 0x14 [2, 0, 0, 0])) = .next t) ∧
    (∃ t, exec (.ctrlFlushDone 0) (site siteRun (ctrlMsg 0x16 [])) = .next t) ∧
    (∃ t, exec (.tsRekey .operator 0) (site siteRun) = .next t) ∧
    (∃ t, exec (.tsRekey .lamp 0) (site { state := .down }) = .next t) :=
  have g (s : State) (a : s.alive = true) := (h s 0 (by decide)).1 a
  have k (s : State) := (h s 0 (by decide)).2
  ⟨⟨_, (g (site siteRun (ctrlMsg 0x10 [0, 0, 1, 0])) rfl).1 _ _ rfl⟩,
   ⟨_, ((g (site siteRun { ctrlMsg 0x11 (List.replicate 8 0) with sent := [⟨0, []⟩] }) rfl).2.1 _ _ rfl).1 (by decide)⟩,
   ⟨_, ((g (site siteRun (ctrlMsg 0x11 [9, 0, 0, 0, 0, 0, 0, 0])) rfl).2.1 _ _ rfl).2 (by decide)⟩,
   ⟨_, (g (site siteRun (ctrlMsg 0x12 [])) rfl).2.2.1 _ _ rfl⟩,
   ⟨_, (g (site siteRun (ctrlMsg 0x19 [])) rfl).2.2.2.1 _ _ rfl⟩,
   ⟨_, ((g (site { siteRun with state := .resync } { ctrlMsg 0x13 (List.replicate 8 0) with sent := [⟨0, []⟩] }) rfl).2.2.2.2.1 _ _ rfl).1 ⟨rfl, rfl⟩ (by decide)⟩,
   ⟨_, ((g (site { siteRun with state := .resync } (ctrlMsg 0x13 [9, 0, 0, 0, 0, 0, 0, 0])) rfl).2.2.2.2.1 _ _ rfl).2.1 ⟨rfl, rfl⟩ (by decide)⟩,
   ⟨_, ((g (site siteRun (ctrlMsg 0x13 [])) rfl).2.2.2.2.1 _ _ rfl).2.2 nofun⟩,
   ⟨_, ((g (site siteRun (ctrlMsg 0x14 [1, 0, 0, 0])) rfl).2.2.2.2.2.1 _ _ rfl).1 (by decide)⟩,
   ⟨_, ((g (site siteRun (ctrlMsg 0x14 [0, 0, 0, 0])) rfl).2.2.2.2.2.1 _ _ rfl).2.1 (by decide)⟩,
   ⟨_, ((g (site siteRun (ctrlMsg 0x14 [2, 0, 0, 0])) rfl).2.2.2.2.2.1 _ _ rfl).2.2 (by decide) (by decide)⟩,
   ⟨_, (g (site siteRun (ctrlMsg 0x16 [])) rfl).2.2.2.2.2.2 _ _ rfl⟩,
   ⟨_, (k (site siteRun) .operator rfl ⟨land_ready, rfl, rfl, rfl⟩).1 rfl⟩,
   ⟨_, (k (site { state := .down }) .lamp rfl ⟨land_ready, rfl, rfl, rfl⟩).2 nofun⟩⟩

/-! ### Ports and the domain (08) -/

/-- Port 0 with its counters, beside what the fabric holds. -/
def port0 (q : Port) (io : PortIo := {}) (f : FabSt := {}) : State := { land with fab := { f with ports := [(0, q)], pio := [(0, io)] } }

/-- A slotted port with its slots and what waits at it. -/
def slotted (st : PortState) (slots : List Nat) (tx : List Queued) : Port := { state := st, slotted := true, slots, tx, limit := [64, 64, 64] }

/-- A link's edges, codewords corrected and not, HELLO, and the slots of a port and of the host. -/
theorem meets_PortLink (h : Obligations.PortTrafficCompletes) :
    (∃ t, exec (.fabricPortUp 0) (port0 { state := .down }) = .next t) ∧
    (∃ t, exec (.fabricPortDown 0) (port0 { state := .up }) = .next t) ∧
    (∃ t, exec (.codewordReceive 0 0 [] true) (port0 { state := .up }) = .next t) ∧
    (∃ t, exec (.codewordReceive 0 0 [0] false) (port0 { state := .up, lost := false }) = .next t) ∧
    (∃ t, exec (.codewordReceive 0 0x7000 [0, 0] false) (port0 { state := .up }) = .next t) ∧
    (∃ t, exec (.helloTimer 0) (port0 { state := .hello }) = .next t) ∧
    (∃ t, exec (.slotBoundary 0) (port0 (slotted .up [1] [.raw 1 0 0 []])) = .next t) ∧
    (∃ t, exec (.slotBoundary 0) (port0 (slotted .up [1, 2] [])) = .next t) ∧
    (∃ t, exec (.slotBoundary 0) (port0 (slotted .hello [1] [])) = .next t) ∧
    (∃ t, exec (.slotBoundary 24) land = .next t) :=
  have g (q : Port) (f : FabSt) := h.1 (port0 q {} f) 0 (by decide)
  have on : land.PortsOn := ⟨rfl, rfl, rfl⟩
  ⟨⟨_, (g { state := .down } {}).1 on rfl rfl⟩,
   ⟨_, ((g { state := .up } {}).2.1 nofun nofun).1 on⟩,
   ⟨_, ((g { state := .up } {}).2.1 nofun nofun).2.1 0 [] on⟩,
   ⟨_, ((g { state := .up, lost := false } {}).2.1 nofun nofun).2.2.1 0 [0] on⟩,
   ⟨_, ((g { state := .up } {}).2.1 nofun nofun).2.2.1 0x7000 [0, 0] on⟩,
   ⟨_, ((g { state := .hello } {}).2.1 nofun nofun).2.2.2 rfl rfl⟩,
   ⟨_, ((g (slotted .up [1] [.raw 1 0 0 []]) {}).2.2.1 rfl rfl (by decide)).1 _ ⟨nofun, nofun⟩ rfl⟩,
   ⟨_, ((g (slotted .up [1, 2] []) {}).2.2.1 rfl rfl (by decide)).2.1 rfl rfl rfl⟩,
   ⟨_, ((g (slotted .hello [1] []) {}).2.2.1 rfl rfl (by decide)).2.2 (.inr ⟨rfl, .inl nofun⟩)⟩,
   ⟨_, (h.1 land 0 (by decide)).2.2.2 rfl⟩⟩

/-- A header: KIND, OPCODE, DST, PART and HOPS of a packet from node 5, its OVER bit set. -/
def head (kind op dst part hops : Nat) : Block :=
  BitVec.ofNat 128 (kind * 2 ^ 120 + op * 2 ^ 112 + dst * 2 ^ 104 + 5 * 2 ^ 96 + part * 2 ^ 93 + 2 ^ 90 + hops * 2 ^ 14)

/-- A packet received on port 0, and that packet once delivered. -/
def rxPkt (w0 : Block) : RxPkt := { w0, w1 := 0, payload := [], mac := 0 }
def rxDone (w0 : Block) : RxPkt := { rxPkt w0 with delivered := true }
def upWith (x : RxPkt) (st : PortState := .up) : Port := { state := st, lost := false, rx := [x] }

/-- A request of partition 1 from node 5 under flow keys of zeros, with its own MAC. -/
def flowMac0 : Dword := flowMac (land.keyBytes 20) (land.hashKey 20) (head 0 1 0 1 0) 0 [] (flowBlock 0 (hSrc (head 0 1 0 1 0)) (hDst (head 0 1 0 1 0))
  (hPart (head 0 1 0 1 0)))
def flowKey0 : FlowKey := { part := 1, src := 5, dst := 0, gen := 0, epoch := 0, slot := 20 }
def sealedPkt (rx : List FlowRx) : State := port0 (upWith { rxDone (head 0 1 0 1 0) with mac := flowMac0 }) {} { keys := [flowKey0], rx }

/-- A packet for node 5 on port 0, and port 1 leading there. -/
def relay : State :=
  { land with fab := { ports := [(0, upWith (rxPkt (head 0 1 5 1 0))), (1, { state := .up, owner := 1, peer := 5, limit := [0, 64, 0] })] } }

/-- Transit, delivery and verdict of a packet, with each of their outcomes. -/
theorem meets_Packets (h : Obligations.PortTrafficCompletes) :
    (∃ t, exec (.packetTransit 0) (port0 (upWith (rxPkt (head 0 1 5 1 0)) .disputed)) = .next t) ∧
    (∃ t, exec (.packetTransit 0) (port0 (upWith (rxPkt (head 0 1 5 1 1)))) = .next t) ∧
    (∃ t, exec (.packetTransit 0) relay = .next t) ∧
    (∃ t, exec (.packetDeliver 0) (port0 (upWith (rxPkt (head 0 1 0 1 0)) .miswired)) = .next t) ∧
    (∃ t, exec (.packetDeliver 0) (port0 (upWith (rxPkt (head 0 1 0 1 0)))) = .next t) ∧
    (∃ t, exec (.packetDeliver 0) (port0 (upWith (rxPkt (head 2 1 255 0 0)))) = .next t) ∧
    (∃ t, exec (.packetVerdict 0) (port0 (upWith (rxDone (head 2 1 0 0 0)))) = .next t) ∧
    (∃ t, exec (.packetVerdict 0) (port0 (upWith (rxDone (head 2 1 0 1 0)))) = .next t) ∧
    (∃ t, exec (.packetVerdict 0) (port0 (upWith (rxDone (head 0 1 0 1 0)))) = .next t) ∧
    (∃ t, exec (.packetVerdict 0) (sealedPkt [{ part := 1, src := 5, hi := 2000 }]) = .next t) ∧
    (∃ t, exec (.packetVerdict 0) (sealedPkt []) = .next t) :=
  have g (x : RxPkt) (st : PortState) (f : FabSt) := h.2 (port0 (upWith x st) {} f) 0 rfl (by decide)
  ⟨⟨_, ((g (rxPkt (head 0 1 5 1 0)) .disputed {}).1 _ _ rfl).1 (by decide)⟩,
   ⟨_, ((g (rxPkt (head 0 1 5 1 1)) .up {}).1 _ _ rfl).2.1 (by decide) (.inl (by decide))⟩,
   ⟨_, ((h.2 relay 0 rfl (by decide)).1 _ _ rfl).2.2 1 (by decide) (by decide) (by decide)⟩,
   ⟨_, ((g (rxPkt (head 0 1 0 1 0)) .miswired {}).2.1 _ rfl).1 (.inl (by decide))⟩,
   ⟨_, ((g (rxPkt (head 0 1 0 1 0)) .up {}).2.1 _ rfl).2.1 (by decide) (by decide)⟩,
   ⟨_, ((g (rxPkt (head 2 1 255 0 0)) .up {}).2.1 _ rfl).2.2 (by decide) (by decide)⟩,
   ⟨_, ((g (rxDone (head 2 1 0 0 0)) .up {}).2.2 _ _ rfl).1 (by decide) (by decide)⟩,
   ⟨_, ((g (rxDone (head 2 1 0 1 0)) .up {}).2.2 _ _ rfl).2.1 (by decide) (by decide)⟩,
   ⟨_, ((g (rxDone (head 0 1 0 1 0)) .up {}).2.2 _ _ rfl).2.2.1 (by decide) rfl⟩,
   ⟨_, (((h.2 (sealedPkt [{ part := 1, src := 5, hi := 2000 }]) 0 rfl (by decide)).2.2 _ _ rfl).2.2.2 flowKey0 (by decide) (by show List.find? _ [flowKey0] = _; rw [List.find?_cons_of_pos]; exact beq_self_eq_true flowMac0)).1 rfl⟩,
   ⟨_, (((h.2 (sealedPkt []) 0 rfl (by decide)).2.2 _ _ rfl).2.2.2 flowKey0 (by decide) (by show List.find? _ [flowKey0] = _; rw [List.find?_cons_of_pos]; exact beq_self_eq_true flowMac0)).2 _ rfl⟩⟩

/-- A link-control message received on port 0. -/
def got (opcode : Nat) (payload : List Byte) (st : PortState := .up) : Port :=
  { state := st, lost := false, ctrl := [{ opcode, src := 0, clear := true, payload }] }

/-- The node as the first listed foreman of a domain of two, with messages and the state of its port. -/
def former (f : FabSt) (l : List CtrlMsg := []) (st : PortState := .up) (topo : Topo := { listed := 2, foreman := [0, 6], nodes := [{ node := 0 }] }) : State :=
  { port0 { state := st, ctrl := l } {} f with lse := { land.lse with lease := some { lease1 with topo } } }

/-- A message from node 0 in one chunk. -/
def chunk (opcode : Nat) (payload : List Byte) : List CtrlMsg := [{ opcode, src := 0, clear := true, payload }]

/-- A HELLO that agrees with the record of node 0; the foreman that it names, and whether its sender is a member. -/
def hello3 (foreman member : Byte) : List Byte := List.replicate 12 0 ++ [3, 0, foreman, member] ++ List.replicate 106 0
def timeSync (heard : Nat) : List Byte := leBytes 8 2 ++ leBytes 8 heard ++ leBytes 8 100 ++ leBytes 8 50

/-- Each message between neighbours, in each state of the port that it makes a difference to. -/
theorem meets_NeighbourMessagesComplete (h : Obligations.NeighbourMessagesComplete) :
    (∃ t, exec (.helloReceive 0) (port0 (got 1 [] .down)) = .next t) ∧
    (∃ t, exec (.helloReceive 0) (port0 (got 1 [])) = .next t) ∧
    (∃ t, exec (.helloReceive 0) (former { dstate := 1 } (chunk 1 (hello3 6 1))) = .next t) ∧
    (∃ t, exec (.helloReceive 0) (port0 (got 1 (hello3 6 0) .hello)) = .next t) ∧
    (∃ t, exec .announceTimer (port0 {} {} { dstate := 3 }) = .next t) ∧
    (∃ t, exec .timeSyncTimer (port0 {} {} { dstate := 3 }) = .next t) ∧
    (∃ t, exec (.announceSilent 0) (port0 { state := .up } {} { dstate := 3 }) = .next t) ∧
    (∃ t, exec (.announceReceive 0) (port0 (got 2 [1])) = .next t) ∧
    (∃ t, exec (.announceReceive 0) (port0 (got 2 [] .disputed)) = .next t) ∧
    (∃ t, exec (.announceReceive 0) (port0 (got 2 [] .disputed) { integAt := some 0 }) = .next t) ∧
    (∃ t, exec (.announceReceive 0) (port0 (got 2 [])) = .next t) ∧
    (∃ t, exec (.disputeReceive 0) (port0 (got 3 [])) = .next t) ∧
    (∃ t, exec (.routeFailReceive 0) (port0 (got 4 [7])) = .next t) ∧
    (∃ t, exec (.routeOkReceive 0) (port0 (got 5 [7])) = .next t) ∧
    (∃ t, exec (.timeSyncReceive 0) (port0 { got 6 (timeSync 4) with peer := 5 } { sync := { seq := 4, rxSeq := 1 } } { foreman := 5 }) = .next t) ∧
    (∃ t, exec (.timeSyncReceive 0) (port0 (got 6 (timeSync 0))) = .next t) :=
  have n (q : Port) (io : PortIo) (f : FabSt) := h (port0 q io f) 0 rfl (by decide)
  ⟨⟨_, ((n (got 1 [] .down) {} {}).1 _ _ rfl).1 (.inr rfl)⟩,
   ⟨_, ((n (got 1 []) {} {}).1 _ _ rfl).2.1 nofun (by decide)⟩,
   ⟨_, (((h (former { dstate := 1 } (chunk 1 (hello3 6 1))) 0 rfl (by decide)).1 _ _ rfl).2.2 nofun (by decide)).1 1 ⟨(by decide), rfl, .inl rfl, (by decide)⟩ (by decide)⟩,
   ⟨_, (((n (got 1 (hello3 6 0) .hello) {} {}).1 _ _ rfl).2.2 nofun (by decide)).2 (.inl fun x => absurd x.1 (by decide))⟩,
   ⟨_, ((n {} {} { dstate := 3 }).2.1 rfl).1⟩,
   ⟨_, ((n {} {} { dstate := 3 }).2.1 rfl).2.1⟩,
   ⟨_, ((n { state := .up } {} { dstate := 3 }).2.1 rfl).2.2 rfl⟩,
   ⟨_, ((n (got 2 [1]) {} {}).2.2.1 _ _ rfl).1 (by decide) rfl⟩,
   ⟨_, ((n (got 2 [] .disputed) {} {}).2.2.1 _ _ rfl).2.1 (by decide) rfl nofun⟩,
   ⟨_, ((n (got 2 [] .disputed) { integAt := some 0 } {}).2.2.1 _ _ rfl).2.2 (.inr ⟨(by decide), .inr ⟨0, rfl, by decide⟩⟩)⟩,
   ⟨_, ((n (got 2 []) {} {}).2.2.1 _ _ rfl).2.2 (.inr ⟨(by decide), .inl nofun⟩)⟩,
   ⟨_, (n (got 3 []) {} {}).2.2.2.1 _ _ rfl⟩,
   ⟨_, (n (got 4 [7]) {} {}).2.2.2.2.1 _ _ rfl⟩,
   ⟨_, (n (got 5 [7]) {} {}).2.2.2.2.2.1 _ _ rfl⟩,
   ⟨_, ((n { got 6 (timeSync 4) with peer := 5 } { sync := { seq := 4, rxSeq := 1 } } { foreman := 5 }).2.2.2.2.2.2 _ _ rfl).1 0 (by decide) (by decide)⟩,
   ⟨_, ((n (got 6 (timeSync 0)) {} {}).2.2.2.2.2.2 _ _ rfl).2 (.inl (by decide))⟩⟩

def verdict0 : PkVerdict := { sigsOk := true, ssKem := [], ssEcdh := [] }
def forged : PkVerdict := { verdict0 with sigsOk := false }

/-- A candidate of this node's, another's, and a join; each of generation 0. -/
def mine0 : Candidate := { gen := 0, rank := 0, foreman := 0, mine := true, accepted := [(0, [], 0)] }
def theirs0 : Candidate := { gen := 0, rank := 0, foreman := 6 }
def join0 : Candidate := { theirs0 with join := true }

/-- A joiner at node 0, and EVIDENCE with a digest that is not this node's. -/
def joiners : List (Nat × List Byte × Word) := [(0, [], 0)]

/-- A formation begun, FORM_START forged, refused and taken, and EVIDENCE for a candidate, a join, and neither. -/
theorem meets_FormationOffers (h : Obligations.FormationCompletes) :
    (∃ t, exec .formStartTimer (former { dstate := 1 }) = .next t) ∧
    (∃ t, exec .formStartTimer (former { dstate := 2, cand := some theirs0 }) = .next t) ∧
    (∃ t, exec (.formStartReceive 0 forged) (former { dstate := 1 } (chunk 0x10 [])) = .next t) ∧
    (∃ t, exec (.formStartReceive 0 verdict0) (former { dstate := 3 } (chunk 0x10 [])) = .next t) ∧
    (∃ t, exec (.formStartReceive 0 verdict0) (former { dstate := 1 } (chunk 0x10 [])) = .next t) ∧
    (∃ t, exec (.evidenceReceive 0 forged) (former { cand := some mine0 } (chunk 0x11 [])) = .next t) ∧
    (∃ t, exec (.evidenceReceive 0 verdict0) (former { cand := some mine0 } (chunk 0x11 [])) = .next t) ∧
    (∃ t, exec (.evidenceReceive 0 verdict0) (former {} (chunk 0x11 [])) = .next t) ∧
    (∃ t, exec (.evidenceReceive 0 forged) (former { dstate := 3 } (chunk 0x11 [])) = .next t) ∧
    (∃ t, exec (.evidenceReceive 0 verdict0) (former { dstate := 3 } (chunk 0x11 [])) = .next t) :=
  have f (d : FabSt) (l : List CtrlMsg) := h.1 (former d l) 0 rfl (by decide)
  ⟨⟨_, (f { dstate := 1 } []).1 0 rfl (by decide) (.inl rfl) (.inl rfl)⟩,
   ⟨_, (f { dstate := 2, cand := some theirs0 } []).1 0 rfl (by decide) (.inr rfl) (.inr ⟨_, rfl, rfl, rfl, rfl⟩)⟩,
   ⟨_, ((f { dstate := 1 } (chunk 0x10 [])).2.1 forged _ _ rfl).1 nofun⟩,
   ⟨_, ((f { dstate := 3 } (chunk 0x10 [])).2.1 verdict0 _ _ rfl).2.1 ⟨rfl, by decide, by decide⟩ (fun x => absurd x.2.1 (by decide))⟩,
   ⟨_, ((f { dstate := 1 } (chunk 0x10 [])).2.1 verdict0 _ _ rfl).2.2 ⟨rfl, by decide, by decide⟩ nofun (.inl rfl)⟩,
   ⟨_, (((f { cand := some mine0 } (chunk 0x11 [])).2.2 forged _ _ rfl).1 _ rfl rfl rfl).1 rfl⟩,
   ⟨_, (((f { cand := some mine0 } (chunk 0x11 [])).2.2 verdict0 _ _ rfl).1 _ rfl rfl rfl).2 (by decide)⟩,
   ⟨_, (((f {} (chunk 0x11 [])).2.2 verdict0 _ _ rfl).2 nofun).1 nofun⟩,
   ⟨_, (((f { dstate := 3 } (chunk 0x11 [])).2.2 forged _ _ rfl).2 nofun).2.1 ⟨rfl, rfl, rfl⟩ rfl⟩,
   ⟨_, (((f { dstate := 3 } (chunk 0x11 [])).2.2 verdict0 _ _ rfl).2 nofun).2.2 ⟨rfl, rfl, rfl⟩ (by decide)⟩⟩

/-- KEYS with a TAG of no bytes, and with the TAG of its WRAP; CONFIRM with the value of its node. -/
def tag0 : List Byte := formTag (formKek verdict0 (formTh [] [])) 0 (List.replicate 32 0)
def keysMsg : List Byte := List.replicate 1681 0 ++ (List.replicate 32 0 ++ tag0)
def confirmMsg : List Byte := List.replicate 12 0 ++ formConfirm (land.secretOf 0) [] 0

theorem tag0_length : tag0.length = 16 := kmac256_length _ _ _ _

theorem keysMsg_wrap : ([keysMsg].flatten.drop 1681).take 32 = List.replicate 32 0 := by
  simp only [keysMsg, List.flatten_cons, List.flatten_nil, List.append_nil, List.drop_left' List.length_replicate, List.take_left' List.length_replicate]

theorem keysMsg_tag : ([keysMsg].flatten.drop 1713).take 16 = tag0 := by
  have e : keysMsg = List.replicate 1713 0 ++ tag0 := by
    rw [keysMsg, ← List.append_assoc, List.replicate_append_replicate]
  simp only [e, List.flatten_cons, List.flatten_nil, List.append_nil, List.drop_left' List.length_replicate]
  exact List.take_of_length_le (Nat.le_of_eq tag0_length)

theorem confirmMsg_value : ([confirmMsg].flatten.drop 12).take 32 = formConfirm (land.secretOf 0) [] 0 := by
  simp only [confirmMsg, List.flatten_cons, List.flatten_nil, List.append_nil, List.drop_left' List.length_replicate]
  exact List.take_of_length_le (Nat.le_of_eq (kmac256_length _ _ _ _))

/-- A value of no bytes is not the one that is due. -/
theorem confirm_short (ds th : List Byte) (u : Dword) : ¬ ([] : List Byte) = formConfirm ds th u := by
  intro e; have e := congrArg List.length e; rw [formConfirm, kmac256_length] at e; exact absurd e (by decide)
theorem tag_short (kek wrap : List Byte) (g : Word) : formTag kek g wrap ≠ [] := by
  intro e; have e := congrArg List.length e; rw [formTag, kmac256_length] at e; exact absurd e (by decide)

/-- KEYS, CONFIRM of a joiner and of a formation, the window's end, FORMED, REJECT and a candidate's end, with each of their outcomes. -/
theorem meets_FormationCloses (h : Obligations.FormationCompletes) :
    (∃ t, exec (.keysReceive 0 verdict0) (former {} (chunk 0x12 [])) = .next t) ∧
    (∃ t, exec (.keysReceive 0 forged) (former { cand := some theirs0 } (chunk 0x12 [])) = .next t) ∧
    (∃ t, exec (.keysReceive 0 verdict0) (former { cand := some theirs0 } (chunk 0x12 [])) = .next t) ∧
    (∃ t, exec (.keysReceive 0 verdict0) (former { cand := some theirs0 } (chunk 0x12 keysMsg)) = .next t) ∧
    (∃ t, exec (.confirmReceive 0) (former { dstate := 3, joins := joiners } (chunk 0x13 [])) = .next t) ∧
    (∃ t, exec (.confirmReceive 0) (former { cand := some mine0 } (chunk 0x13 confirmMsg)) = .next t) ∧
    (∃ t, exec (.confirmReceive 0) (former { cand := some mine0 } (chunk 0x13 [])) = .next t) ∧
    (∃ t, exec (.confirmReceive 0) (former {} (chunk 0x13 [])) = .next t) ∧
    (∃ t, exec .formWindowEnd (former { cand := some mine0 }) = .next t) ∧
    (∃ t, exec (.formedReceive 0 verdict0) (former { cand := some { theirs0 with keysIn := true } } (chunk 0x14 [])) = .next t) ∧
    (∃ t, exec (.formedReceive 0 verdict0) (former {} (chunk 0x14 [])) = .next t) ∧
    (∃ t, exec (.rejectReceive 0 verdict0) (former {} (chunk 0x15 [])) = .next t) ∧
    (∃ t, exec (.rejectReceive 0 forged) (former {} (chunk 0x15 [])) = .next t) ∧
    (∃ t, exec .candidateTimeout (former { cand := some theirs0 }) = .next t) :=
  have f (d : FabSt) (l : List CtrlMsg) := h.2 (former d l) 0 rfl (by decide)
  ⟨⟨_, ((f {} (chunk 0x12 [])).1 verdict0 _ _ rfl).1 rfl⟩,
   ⟨_, (((f { cand := some theirs0 } (chunk 0x12 [])).1 forged _ _ rfl).2 _ rfl).1 nofun⟩,
   ⟨_, (((f { cand := some theirs0 } (chunk 0x12 [])).1 verdict0 _ _ rfl).2 _ rfl).2.1 ⟨rfl, rfl, rfl, rfl, rfl⟩ (tag_short _ _ _)⟩,
   ⟨_, (((f { cand := some theirs0 } (chunk 0x12 keysMsg)).1 verdict0 _ _ rfl).2 theirs0 rfl).2.2 ⟨rfl, rfl, rfl, by decide, by decide⟩ (by show formTag (formKek verdict0 (formTh [] [])) 0 (([keysMsg].flatten.drop 1681).take 32) = ([keysMsg].flatten.drop 1713).take 16; rw [keysMsg_wrap, keysMsg_tag]; rfl)⟩,
   ⟨_, (((f { dstate := 3, joins := joiners } (chunk 0x13 [])).2.1 _ _ rfl).1 0 [] 0 rfl).2 (fun x => confirm_short _ _ _ x.2)⟩,
   ⟨_, (((f { cand := some mine0 } (chunk 0x13 confirmMsg)).2.1 _ _ rfl).2.1 mine0 0 [] 0 rfl rfl rfl rfl).1 ⟨by decide, confirmMsg_value⟩⟩,
   ⟨_, (((f { cand := some mine0 } (chunk 0x13 [])).2.1 _ _ rfl).2.1 mine0 0 [] 0 rfl rfl rfl rfl).2 (fun x => confirm_short _ _ _ x.2)⟩,
   ⟨_, ((f {} (chunk 0x13 [])).2.1 _ _ rfl).2.2 rfl nofun⟩,
   ⟨_, (f { cand := some mine0 } []).2.2.1 _ rfl rfl⟩,
   ⟨_, ((f { cand := some { theirs0 with keysIn := true } } (chunk 0x14 [])).2.2.2.1 verdict0 _ _ rfl).1 _ rfl ⟨rfl, rfl, rfl, rfl, rfl⟩⟩,
   ⟨_, ((f {} (chunk 0x14 [])).2.2.2.1 verdict0 _ _ rfl).2 nofun⟩,
   ⟨_, ((f {} (chunk 0x15 [])).2.2.2.2.1 verdict0 _ _ rfl).1 ⟨rfl, rfl⟩⟩,
   ⟨_, ((f {} (chunk 0x15 [])).2.2.2.2.1 forged _ _ rfl).2 nofun⟩,
   ⟨_, (f { cand := some theirs0 } []).2.2.2.2.2 _ rfl rfl⟩⟩

/-- A joiner's CONFIRM with the value of its node, under the domain secret of the generation that runs. -/
def joinMsg : List Byte := List.replicate 12 0 ++ formConfirm (land.keyBytes 8) [] 0
def joinState : State := former { dstate := 3, joins := joiners } (chunk 0x13 joinMsg)

theorem joinMsg_value : ([joinMsg].flatten.drop 12).take 32 = formConfirm (land.keyBytes 8) [] 0 := by
  simp only [joinMsg, List.flatten_cons, List.flatten_nil, List.append_nil, List.drop_left' List.length_replicate]
  exact List.take_of_length_le (Nat.le_of_eq (kmac256_length _ _ _ _))

/-- A joiner's CONFIRM with the value computed. -/
theorem meets_JoinConfirmed (h : Obligations.FormationCompletes) :
    (∃ t, exec (.confirmReceive 0) joinState = .next t) :=
  ⟨_, (((h.2 joinState 0 rfl (by decide)).2.1 _ _ rfl).1 0 [] 0 rfl).1 ⟨by decide, joinMsg_value⟩⟩

/-- A request of this node's to node 5. -/
def req5 : Req := { tag := 1, node := 5, eng := .mover 0, op := { opcode := 1, part := 1 }, sent := true }

/-- JOINED, the steps of a join, leaving, the switch of a generation, the end of its keys, a timeout and REVIVE. -/
theorem meets_DomainLifeCompletes (h : Obligations.DomainLifeCompletes) :
    (∃ t, exec (.joinedReceive 0) (former { cand := some { join0 with keysIn := true } } (chunk 0x16 [])) = .next t) ∧
    (∃ t, exec (.joinedReceive 0) (former { dstate := 3 } (chunk 0x16 [0, 0, 0, 0, 5])) = .next t) ∧
    (∃ t, exec (.joinedReceive 0) (former {} (chunk 0x16 [])) = .next t) ∧
    (∃ t, exec .joinTimeout (former { cand := some join0 }) = .next t) ∧
    (∃ t, exec .joinTimeout (former { cand := some join0, joinPos := 3 }) = .next t) ∧
    (∃ t, exec .joinRetry (former { dstate := 4 }) = .next t) ∧
    (∃ t, exec .leaveDomain ({ former {} with fab := { dstate := 3 } }) = .next t) ∧
    (∃ t, exec .generationSwitch (former { nextGen := some (2, 9) }) = .next t) ∧
    (∃ t, exec (.flowKeyExpire 0) land = .next t) ∧
    (∃ t, exec (.flowKeyExpire 6) land = .next t) ∧
    (∃ t, exec (.requestTimeout 1) ({ land with req := { land.req with out := [req5] } }) = .next t) ∧
    (∃ t, exec (.yfRevive .operator 254) land = .next t) :=
  have f (d : FabSt) (l : List CtrlMsg) := (h (former d l)).1 rfl
  ⟨⟨_, ((f { cand := some { join0 with keysIn := true } } (chunk 0x16 [])).1 0 _ _ (by decide) rfl).1 _ rfl ⟨rfl, rfl, rfl, rfl, rfl⟩⟩,
   ⟨_, (((f { dstate := 3 } (chunk 0x16 [0, 0, 0, 0, 5])).1 0 _ _ (by decide) rfl).2 nofun).1 ⟨rfl, by decide, by decide⟩⟩,
   ⟨_, (((f {} (chunk 0x16 [])).1 0 _ _ (by decide) rfl).2 nofun).2 nofun⟩,
   ⟨_, ((f { cand := some join0 } []).2.1 _ rfl rfl rfl rfl).1 1 rfl⟩,
   ⟨_, ((f { cand := some join0, joinPos := 3 } []).2.1 _ rfl rfl rfl rfl).2 rfl⟩,
   ⟨_, (f { dstate := 4 } []).2.2.1 1 rfl rfl rfl⟩,
   ⟨_, ((h ({ former {} with fab := { dstate := 3 } })).1 rfl).2.2.2.1 rfl (by decide) fun _ _ => .inr (.inr (.inr rfl))⟩,
   ⟨_, (f { nextGen := some (2, 9) } []).2.2.2.2.1 2 9 rfl⟩,
   ⟨_, (((h land).1 rfl).2.2.2.2.2.1 0 (by decide)).1 ⟨rfl, rfl, rfl⟩⟩,
   ⟨_, (((h land).1 rfl).2.2.2.2.2.1 6 (by decide)).2 nofun⟩,
   ⟨_, ((h ({ land with req := { land.req with out := [req5] } })).1 rfl).2.2.2.2.2.2 1 req5 rfl (by decide) rfl rfl⟩,
   ⟨_, (h land).2 .operator 254 rfl (by decide) ⟨land_ready, rfl, rfl, rfl⟩⟩⟩

/-! ### Requests, homes and carts (09) -/

/-- A read of 64 bytes of plain seam 0, arrived at home 0 from node 5, with what the home holds. -/
def read0 : Op := { opcode := 1, len := 4, part := 1, ctx := some 0 }
def arrived (o : Op) (f : HomeSt := land.home) : State :=
  { withSeam { seam0 .active with kind := .plain } with home := { f with arr := [{ q := 0, src := 5, tag := 1, op := o }] } }

/-- A home that has served a ticket less than it issued, with room for k tickets; one with the request's ticket; one whose order is broken. -/
def behindBy (k : Nat) : HomeSt := { quota := [(1, 64, k, 64)], issued := [(1, 1)] }
def ticketed (no : Nat) (reserved : Bool) : HomeSt := { land.home with tickets := [{ q := 0, part := 1, no, src := 5, tag := 1, reserved }] }
def broken : HomeSt := { land.home with breaks := [(0, 5, 1, 9)] }

/-- A lock that a member of a cart holds on the line since reset. -/
def lock0 : CartSt := { staged := [{ key := 1, issuer := 0, cart := 0, q := 0, part := 1, src := 5, tag := 2, op := read0, locked := true }] }

/-- An entry of home 0. -/
def entry1 (o : Op) (answered : Bool) : HomeEntry := { id := 1, q := 0, part := 1, src := 5, tag := 1, op := o, answered }

/-- A request refused, behind a broken order, with a ticket reserved, held and too far back, locked, admitted, with a ticket given and none left. -/
theorem meets_HomeRequest (h : Obligations.HomeCompletes) :
    (∃ t, exec (.homeRequest 0 5 1 1) (arrived { read0 with payload := [1] }) = .next t) ∧
    (∃ t, exec (.homeRequest 0 5 1 1) (arrived { read0 with ordered := true } broken) = .next t) ∧
    (∃ t, exec (.homeRequest 0 5 1 1) (arrived read0 (ticketed 0 true)) = .next t) ∧
    (∃ t, exec (.homeRequest 0 5 1 1) (arrived read0 (ticketed 63 false)) = .next t) ∧
    (∃ t, exec (.homeRequest 0 5 1 1) (arrived read0 (ticketed 64 false)) = .next t) ∧
    (∃ t, exec (.homeRequest 0 5 1 1) ({ arrived { read0 with opcode := 2, payload := List.replicate 64 0 } with cart := lock0, clk := { land.clk with cyc := 10 ^ 12 } }) = .next t) ∧
    (∃ t, exec (.homeRequest 0 5 1 1) (arrived read0) = .next t) ∧
    (∃ t, exec (.homeRequest 0 5 1 1) (arrived read0 (behindBy 64)) = .next t) ∧
    (∃ t, exec (.homeRequest 0 5 1 1) (arrived read0 (behindBy 1)) = .next t) :=
  have r (s t : State) (o : Op) (a : s.alive = true) := h.1 s t 0 5 1 1 o a (by decide) (by decide) (by decide)
  ⟨⟨_, (r (arrived { read0 with payload := [1] }) _ _ rfl rfl).1 (by decide)⟩,
   ⟨_, (r (arrived { read0 with ordered := true } broken) _ _ rfl rfl).2.1 (by decide) ⟨rfl, rfl, nofun⟩⟩,
   ⟨_, ((r (arrived read0 (ticketed 0 true)) _ _ rfl rfl).2.2.1 _ (by decide) nofun rfl).1 rfl⟩,
   ⟨_, ((r (arrived read0 (ticketed 63 false)) _ _ rfl rfl).2.2.1 _ (by decide) nofun rfl).2.1 rfl (by decide)⟩,
   ⟨_, ((r (arrived read0 (ticketed 64 false)) _ _ rfl rfl).2.2.1 _ (by decide) nofun rfl).2.2 rfl (by decide)⟩,
   ⟨_, ((r ({ arrived { read0 with opcode := 2, payload := List.replicate 64 0 } with cart := lock0, clk := { land.clk with cyc := 10 ^ 12 } }) _ _ rfl rfl).2.2.2 (by decide) nofun rfl).1 (by decide)⟩,
   ⟨_, (((r (arrived read0) _ _ rfl rfl).2.2.2 (by decide) nofun rfl).2 rfl).1 ⟨rfl, (by decide)⟩⟩,
   ⟨_, (((r (arrived read0 (behindBy 64)) _ _ rfl rfl).2.2.2 (by decide) nofun rfl).2 rfl).2.1 (by decide) (by decide)⟩,
   ⟨_, (((r (arrived read0 (behindBy 1)) _ _ rfl rfl).2.2.2 (by decide) nofun rfl).2 rfl).2.2 (by decide) (by decide)⟩⟩

/-- An answered entry, a lapsed ticket, and a write behind a lock. -/
theorem meets_HomeEntries (h : Obligations.HomeCompletes) :
    (∃ t, exec (.entryFreed 0 1) ({ land with home := { entries := [entry1 read0 true] } }) = .next t) ∧
    (∃ t, exec (.ticketLapse 0 1 7) ({ land with home := ticketed 7 true }) = .next t) ∧
    (∃ t, exec (.lockWaitTimeout 0 1) ({ land with home := { entries := [entry1 { read0 with opcode := 2 } false] }, cart := lock0 }) = .next t) :=
  have e (s : State) (a : s.alive = true) := h.2 s 0 a (by decide)
  ⟨⟨_, (e ({ land with home := { entries := [entry1 read0 true] } }) rfl).1 1 _ rfl rfl rfl⟩,
   ⟨_, (e ({ land with home := ticketed 7 true }) rfl).2.1 1 7 _ (by decide) (by decide) rfl⟩,
   ⟨_, (e ({ land with home := { entries := [entry1 { read0 with opcode := 2 } false] }, cart := lock0 }) rfl).2.2 1 _ rfl rfl rfl (by decide) (by decide)⟩⟩

/-- A request of this node's to node 5, its answer, and a state that holds them. -/
def asked (r : Req) (a : Answer) (c : CartSt := {}) : State := { land with req := { land.req with out := [r], answers := [a] }, cart := c }
def req1 : Req := { tag := 1, node := 5, eng := .site 0, op := read0, sent := true }
def ans1 (kind opcode : Nat) : Answer := { tag := 1, src := 5, part := 1, addr := 0, kind, opcode }

/-- A FENCE of an engine waits, and the response buffer of site 0 is full. -/
def fenced (e : Engine) : State := { land with req := { land.req with fences := [(e, 1, 0, 3)] } }
def fullBuf (s : State) : State := { s with sio := [(0, { rspBuf := List.replicate 512 { kind := 3, payload := [] } })] }

/-- Answers and NACKs with their request, without room, and stray; retries and FENCEs of each engine. -/
theorem meets_RequesterCompletes (h : Obligations.RequesterCompletes) :
    (∃ t, exec (.answerReceive 1) (fullBuf (asked req1 (ans1 1 1))) = .next t) ∧
    (∃ t, exec (.answerReceive 1) (asked req1 (ans1 1 1)) = .next t) ∧
    (∃ t, exec (.answerReceive 1) (asked { req1 with tag := 2 } (ans1 1 1)) = .next t) ∧
    (∃ t, exec (.nackReceive 1) (asked req1 (ans1 1 4)) = .next t) ∧
    (∃ t, exec (.nackReceive 1) (asked { req1 with nacks := 63 } (ans1 1 4)) = .next t) ∧
    (∃ t, exec (.nackReceive 1) (asked { req1 with tag := 2 } (ans1 1 4)) = .next t) ∧
    (∃ t, exec (.nackRetry 1) (asked { req1 with node := 0, retry := 4 } (ans1 1 4)) = .next t) ∧
    (∃ t, exec (.fenceComplete (.site 7) 0) (fenced (.site 7)) = .next t) ∧
    (∃ t, exec (.fenceComplete (.task 255) 0) (fenced (.task 255)) = .next t) ∧
    (∃ t, exec (.fenceComplete (.mover 31) 0) (fenced (.mover 31)) = .next t) :=
  have r (s t : State) (a : Answer) (l : s.alive = true) := h s t 1 a l (by decide)
  ⟨⟨_, (((r (fullBuf (asked req1 (ans1 1 1))) _ _ rfl).1 rfl).1 req1 rfl (by decide)).1 (by decide +kernel)⟩,
   ⟨_, (((r (asked req1 (ans1 1 1)) _ _ rfl).1 rfl).1 req1 rfl (by decide)).2 (by decide)⟩,
   ⟨_, ((r (asked { req1 with tag := 2 } (ans1 1 1)) _ _ rfl).1 rfl).2 (fun _ e => nomatch (show (none : Option Req) = some _ from e))⟩,
   ⟨_, (((r (asked req1 (ans1 1 4)) _ _ rfl).2.1 rfl).1 req1 rfl (by decide)).1 (by decide)⟩,
   ⟨_, (((r (asked { req1 with nacks := 63 } (ans1 1 4)) _ _ rfl).2.1 rfl).1 _ rfl (by decide)).2 (by decide)⟩,
   ⟨_, ((r (asked { req1 with tag := 2 } (ans1 1 4)) _ _ rfl).2.1 rfl).2 (fun _ e => nomatch (show (none : Option Req) = some _ from e))⟩,
   ⟨_, (r (asked { req1 with node := 0, retry := 4 } (ans1 1 4)) land (ans1 1 4) rfl).2.2.1 _ rfl nofun (by decide)⟩,
   ⟨_, ((r (fenced (.site 7)) land (ans1 1 4) rfl).2.2.2 (.site 7) 0 1 3 rfl rfl rfl).1 7 rfl rfl⟩,
   ⟨_, ((r (fenced (.task 255)) land (ans1 1 4) rfl).2.2.2 (.task 255) 0 1 3 rfl rfl rfl).2.1 255 rfl nofun rfl⟩,
   ⟨_, ((r (fenced (.mover 31)) land (ans1 1 4) rfl).2.2.2 (.mover 31) 0 1 3 rfl rfl rfl).2.2.1 31 rfl⟩⟩

/-- A cart of one member at this node's issuer. -/
def cart1 (phase : CartPhase) : CartSt := { carts := [{ id := 3, site := 0, part := 1, ctx := 0, phase, members := [{ tag := 1, op := read0, node := 5, q := 0 }] }] }
def withCart (c : CartSt) : State := { land with cart := c }
def cartReq : Req := { req1 with op := { read0 with kind := 4 }, extTag := 48 }

/-- Every TAG is in use. -/
def noTag (s : State) : State := { s with req := { s.req with out := List.replicate 16384 req1 } }

/-- CART_END with TAGs and without, the cart's timeouts, its votes and decision, and answers that belong to no cart. -/
theorem meets_CartIssuerCompletes (h : Obligations.CartIssuerCompletes) :
    (∃ t, exec (.cartEnd 0 0) (withCart (cart1 .closing)) = .next t) ∧
    (∃ t, exec (.cartEnd 0 0) (noTag (withCart (cart1 .closing))) = .next t) ∧
    (∃ t, exec (.cartEndTimeout 0 0) (withCart (cart1 .opened)) = .next t) ∧
    (∃ t, exec (.cartVote 1) (asked cartReq (ans1 4 0x81) (cart1 .voting)) = .next t) ∧
    (∃ t, exec (.cartSoloVote 1) (asked cartReq (ans1 4 0x82) (cart1 .voting)) = .next t) ∧
    (∃ t, exec (.cartDecided 1) (asked cartReq (ans1 4 0x83) (cart1 .deciding)) = .next t) ∧
    (∃ t, exec (.cartDecided 1) (asked cartReq (ans1 4 0x83)) = .next t) ∧
    (∃ t, exec (.cartVote 1) (asked req1 (ans1 4 0x81)) = .next t) ∧
    (∃ t, exec (.cartDecided 1) (asked req1 (ans1 4 0x83)) = .next t) ∧
    (∃ t, exec (.cartDecidedWaitExpire 3) (withCart (cart1 .deciding)) = .next t) :=
  have v (s : State) (l : s.alive = true) (op : Nat) (a : Answer) (t) := (h s l).2.2.1 1 a t op (by decide)
  ⟨⟨_, ((h (withCart (cart1 .closing)) rfl).1 0 0 _ (by decide) rfl rfl).1 (by decide)⟩,
   ⟨_, ((h (noTag (withCart (cart1 .closing))) rfl).1 0 0 _ (by decide) rfl rfl).2 (by rw [show (noTag (withCart (cart1 .closing))).req.out.length = 16384 from List.length_replicate ..]; decide)⟩,
   ⟨_, (h (withCart (cart1 .opened)) rfl).2.1 0 0 _ (by decide) rfl rfl⟩,
   ⟨_, (((v (asked cartReq (ans1 4 0x81) (cart1 .voting)) rfl 0x81 _ _ (by decide) rfl).1 cartReq rfl rfl (by decide)).1).1 rfl⟩,
   ⟨_, (((v (asked cartReq (ans1 4 0x82) (cart1 .voting)) rfl 0x82 _ _ (by decide) rfl).1 cartReq rfl rfl (by decide)).1).2 rfl⟩,
   ⟨_, ((v (asked cartReq (ans1 4 0x83) (cart1 .deciding)) rfl 0x83 _ _ (by decide) rfl).1 cartReq rfl rfl (by decide)).2.1 _ rfl rfl⟩,
   ⟨_, ((v (asked cartReq (ans1 4 0x83)) rfl 0x83 _ _ (by decide) rfl).1 cartReq rfl rfl (by decide)).2.2 rfl rfl⟩,
   ⟨_, (((v (asked req1 (ans1 4 0x81)) rfl 0x81 _ _ (by decide) rfl).2 (by rintro _ ⟨⟩; decide)).1).1 rfl⟩,
   ⟨_, ((v (asked req1 (ans1 4 0x83)) rfl 0x83 _ _ (by decide) rfl).2 (by rintro _ ⟨⟩; decide)).2 rfl⟩,
   ⟨_, (h (withCart (cart1 .deciding)) rfl).2.2.2 3 _ rfl rfl⟩⟩

/-- A cart operation, its word naming node 7 as lead, and a member of a cart staged at home 0; the same with this node as the lead. -/
def cartOp (opcode : Nat) : Op := { kind := 4, opcode, part := 1, ctx := some 0, cartw := cartWord 3 5 7 0 2 0 1 0 1 4 0 }
def member3 (asked : Bool) : CartSt :=
  { staged := [{ key := 1, issuer := 5, cart := 3, q := 0, part := 1, src := 5, tag := 1, op := cartOp 1, asked }] }
def leadOp (opcode : Nat) : Op := { kind := 4, opcode, part := 1, ctx := some 0, cartw := cartWord 3 5 0 0 2 0 1 5 1 4 0 }

/-- A decision logged, and node 5's DONE for its cart, with CODE 7. -/
def logged5 (code : Nat) : CartSt := { log := [{ issuer := 5, cart := 3, q := 0, part := 1, code, waits := [(5, 0)] }] }
def done7 : Answer := { ans1 4 0x84 with cartw := cartWord 3 5 0 0 2 0 1 7 1 4 0 }

/-- What reaches a cart's homes and its lead, and their timeouts. -/
theorem meets_CartMembersComplete (h : Obligations.CartMembersComplete) :
    (∃ t, exec (.cartPrepare 0 5 1 1) (arrived (cartOp 1)) = .next t) ∧
    (∃ t, exec (.cartSolo 0 5 1 1) (arrived (cartOp 2)) = .next t) ∧
    (∃ t, exec (.cartCommit 0 5 1 1) (arrived (cartOp 4)) = .next t) ∧
    (∃ t, exec (.cartAbort 0 5 1 1) (arrived (cartOp 5)) = .next t) ∧
    (∃ t, exec (.cartMemberTimeout 0 5 3) (withCart (member3 false)) = .next t) ∧
    (∃ t, exec (.cartQueryRepeat 0 5 3) (withCart (member3 true)) = .next t) ∧
    (∃ t, exec (.soloTimeout 3 5 3) land = .next t) ∧
    (∃ t, exec (.cartAnswer 1) (asked cartReq (ans1 4 0x86) (member3 true)) = .next t) ∧
    (∃ t, exec (.cartAnswer 1) (asked req1 (ans1 4 0x86)) = .next t) ∧
    (∃ t, exec (.cartDecide 0 5 1 1) (arrived (leadOp 3)) = .next t) ∧
    (∃ t, exec (.cartQuery 0 5 1 1) (arrived (leadOp 6)) = .next t) ∧
    (∃ t, exec (.cartLeadTimeout 0 5 3) (withCart { staged := [{ key := 1, issuer := 5, cart := 3, q := 0, part := 1, src := 5, tag := 1, op := leadOp 1 }] }) = .next t) ∧
    (∃ t, exec (.cartDone 1) (asked req1 (ans1 4 0x84)) = .next t) ∧
    (∃ t, exec (.cartDone 1) (asked cartReq done7 (logged5 5)) = .next t) ∧
    (∃ t, exec (.cartAbortEntryExpire 0 5 3) (withCart (logged5 6)) = .next t) :=
  have m (s : State) (l : s.alive = true) := h.1 s 0 5 1 1 l (by decide) (by decide) (by decide)
  have d (s : State) (l : s.alive = true) := h.2 s 0 5 1 1 l (by decide) (by decide) (by decide)
  ⟨⟨_, (m (arrived (cartOp 1)) rfl).1 _ _ rfl⟩,
   ⟨_, (m (arrived (cartOp 2)) rfl).2.1 _ _ rfl⟩,
   ⟨_, (m (arrived (cartOp 4)) rfl).2.2.1 _ _ rfl⟩,
   ⟨_, (m (arrived (cartOp 5)) rfl).2.2.2.1 _ _ rfl⟩,
   ⟨_, ((m (withCart (member3 false)) rfl).2.2.2.2.1 5 3 _ rfl).1 rfl⟩,
   ⟨_, ((m (withCart (member3 true)) rfl).2.2.2.2.1 5 3 _ rfl).2 rfl⟩,
   ⟨_, (h.1 land 3 5 1 1 rfl (by decide) (by decide) (by decide)).2.2.2.2.2.1 5 3⟩,
   ⟨_, ((m (asked cartReq (ans1 4 0x86) (member3 true)) rfl).2.2.2.2.2.2 _ _ rfl).1 cartReq rfl rfl (by decide)⟩,
   ⟨_, ((m (asked req1 (ans1 4 0x86)) rfl).2.2.2.2.2.2 _ _ rfl).2 (by rintro _ ⟨⟩; decide)⟩,
   ⟨_, (d (arrived (leadOp 3)) rfl).1 _ _ rfl⟩,
   ⟨_, (d (arrived (leadOp 6)) rfl).2.1 _ _ rfl⟩,
   ⟨_, (d (withCart { staged := [{ key := 1, issuer := 5, cart := 3, q := 0, part := 1, src := 5, tag := 1, op := leadOp 1 }] }) rfl).2.2.1 5 3 _ [] rfl⟩,
   ⟨_, ((d (asked req1 (ans1 4 0x84)) rfl).2.2.2.1 _ _ rfl).1 rfl⟩,
   ⟨_, ((d (asked cartReq done7 (logged5 5)) rfl).2.2.2.1 _ _ rfl).2 _ rfl⟩,
   ⟨_, (d (withCart (logged5 6)) rfl).2.2.2.2 5 3⟩⟩

theorem meets_CartDecisionStands (h : Obligations.CartDecisionStands) : (withCart (logged5 6)).leadDecide 0 (leadOp 3) 5 [] = withCart (logged5 6) :=
  h _ 0 5 (leadOp 3) [] _ rfl

/-! ### Faces and formats (10) -/

/-- Target 0 of face 0, with partition 1's and the Lamp's ARM arguments: op, format and units in one word, the units expected, the buffer's place. -/
def armed (t : Target) (a1 : Word := 1) (expected : Word := 1) (buf : Word := 0) : State :=
  let args (i : Inst) : Inst := { i with regs := [(0x10, 0), (0x14, a1), (0x18, buf), (0x1C, expected)] }
  { ((land.modInst .face 1 args).modInst .face 7 args) with face := { targets := [(0, t)] } }
def withTarget (t : Target) (e : List HomeEntry := []) : State := { land with face := { targets := [(0, t)] }, home := { entries := e } }

/-- An open target of one unit, and a vector contribution or a READ that waits for it. -/
def target1 : Target := { state := .opened, units := 1, expected := 1, wait := [1] }
def contribution (opcode : Nat) (units : Nat := 1) : HomeEntry :=
  { id := 1, q := 0, part := 1, src := 5, tag := 1, started := true, target := some 0
    op := { opcode, len := 4, part := 1, ctx := some 0, payload := List.replicate (64 * units) 0 } }
/-- A gather of task 3 that has issued a write to its own node, which is not applied yet. -/
def gathering : State := { land with
  face := { gathers := [{ task := 3, target := 0, ctx := 0, part := 1, read := true, issued := [5] }] }
  req := { land.req with out := [{ req1 with node := 0, ordNo := 5 }] } }
def inCache (s : State) : State := { s with face := { s.face with cache := [(0, [0, 1])] } }

/-- ARM with each check failing, of an empty and an open target; DISARM, CLEAR; from another partition, while busy, and from the operator. -/
theorem meets_FaceCommands (h : Obligations.FacesComplete) :
    (∃ t, exec (.faceArm (.part 1) 0 0xFFFF) (armed {}) = .next t) ∧
    (∃ t, exec (.faceArm (.part 1) 0 0) (armed {} 0x3C00_0001) = .next t) ∧
    (∃ t, exec (.faceArm (.part 1) 0 0) (armed {} 0) = .next t) ∧
    (∃ t, exec (.faceArm (.part 1) 0 0) (armed {} 0x0300_0001) = .next t) ∧
    (∃ t, exec (.faceArm (.part 1) 0 0) (armed {} 1 0) = .next t) ∧
    (∃ t, exec (.faceArm (.part 1) 0 0) (armed {}) = .next t) ∧
    (∃ t, exec (.faceArm (.part 1) 0 0) (armed { target1 with arrived := 2 }) = .next t) ∧
    (∃ t, exec (.faceArm (.part 1) 0 0) (armed { target1 with arrived := 1 }) = .next t) ∧
    (∃ t, exec (.faceArm (.part 1) 0 0) (armed { target1 with state := .closed }) = .next t) ∧
    (∃ t, exec (.faceDisarm .lamp 0) (armed target1) = .next t) ∧
    (∃ t, exec (.faceClear (.part 1) 0) (armed target1) = .next t) ∧
    (∃ t, exec (.faceClear (.part 1) 0) (armed {}) = .next t) ∧
    (∃ t, exec (.faceClearDone 0) (armed { target1 with clearing := some 1 }) = .next t) ∧
    (∃ t, exec (.faceArm (.part 2) 0 0) land = .next t) ∧
    (∃ t, exec (.faceDisarm .lamp 511) land = .next t) ∧
    (∃ t, exec (.faceClear .lamp 0) (land.cmdBusy .face 7 0) = .next t) ∧
    (∃ t, exec (.faceArm .operator 0 0) land = .next t) :=
  have k (s : State) (r : s.Takes .face (.part 1)) (o) (tally) := (h.1 s (.part 1) 1 0 tally (by decide) o).1 r (.inl rfl)
  have z (s : State) (o : s.faceOwner 0 = 1) := h.1 s (.part 1) 1 0 0 (by decide) o
  ⟨⟨_, (k (armed {}) ⟨land_ready, rfl, rfl, rfl⟩ rfl 0xFFFF).1 (by decide)⟩,
   ⟨_, ((k (armed {} 0x3C00_0001) ⟨land_ready, rfl, rfl, rfl⟩ rfl 0).2.1 (by decide) rfl).1 (by decide)⟩,
   ⟨_, ((k (armed {} 0) ⟨land_ready, rfl, rfl, rfl⟩ rfl 0).2.1 (by decide) rfl).2.1 (by decide) (by decide)⟩,
   ⟨_, ((k (armed {} 0x0300_0001) ⟨land_ready, rfl, rfl, rfl⟩ rfl 0).2.1 (by decide) rfl).2.2.1 (by decide) (by decide) (by decide)⟩,
   ⟨_, ((k (armed {} 1 0) ⟨land_ready, rfl, rfl, rfl⟩ rfl 0).2.1 (by decide) rfl).2.2.2.1 (by decide) (by decide) (by decide) (by decide)⟩,
   ⟨_, ((k (armed {}) ⟨land_ready, rfl, rfl, rfl⟩ rfl 0).2.1 (by decide) rfl).2.2.2.2 (by decide) (by decide) (by decide) (by decide)⟩,
   ⟨_, ((k (armed { target1 with arrived := 2 }) ⟨land_ready, rfl, rfl, rfl⟩ rfl 0).2.2.1 (by decide) rfl).1 (by decide)⟩,
   ⟨_, ((k (armed { target1 with arrived := 1 }) ⟨land_ready, rfl, rfl, rfl⟩ rfl 0).2.2.1 (by decide) rfl).2 (by decide) (by decide)⟩,
   ⟨_, (k (armed { target1 with state := .closed }) ⟨land_ready, rfl, rfl, rfl⟩ rfl 0).2.2.2.1 (by decide) nofun nofun⟩,
   ⟨_, ((h.1 (armed target1) .lamp 1 0 0 (by decide) rfl).1 ⟨land_ready, rfl, rfl, rfl⟩ (.inr ⟨rfl, by decide⟩)).2.2.2.2.1⟩,
   ⟨_, (k (armed target1) ⟨land_ready, rfl, rfl, rfl⟩ rfl 0).2.2.2.2.2.1 nofun rfl⟩,
   ⟨_, (k (armed {}) ⟨land_ready, rfl, rfl, rfl⟩ rfl 0).2.2.2.2.2.2 (.inl rfl)⟩,
   ⟨_, (z (armed { target1 with clearing := some 1 }) rfl).2.1 1 rfl rfl⟩,
   ⟨_, ((h.1 land (.part 2) 1 0 0 (by decide) rfl).2.2 _ (by simp)).1 ⟨land_ready, rfl, rfl, rfl⟩ (.inr ⟨2, rfl, by decide⟩)⟩,
   ⟨_, ((h.1 land .lamp 0 511 0 (by decide) rfl).2.2 _ (by simp)).1 ⟨land_ready, rfl, rfl, rfl⟩ (.inl ⟨rfl, rfl⟩)⟩,
   ⟨_, ((h.1 (land.cmdBusy .face 7 0) .lamp 1 0 0 (by decide) rfl).2.2 _ (by simp)).2.1 ⟨land_ready, rfl, rfl, rfl⟩ (.inl rfl) rfl⟩,
   ⟨_, ((h.1 land .operator 1 0 0 (by decide) rfl).2.2 _ (by simp)).2.2 ⟨land_ready, rfl, rfl, rfl⟩ (.inl rfl)⟩⟩

/-- Operations of a target taken, refused, poisoned and missing their lines; a hold, a fill and a gather. -/
theorem meets_FaceWork (h : Obligations.FacesComplete) :
    (∃ t, exec (.contributionApply 0 .clean) (withTarget target1 [contribution 0x30]) = .next t) ∧
    (∃ t, exec (.contributionApply 0 .uncorr) (inCache (withTarget target1 [contribution 1])) = .next t) ∧
    (∃ t, exec (.contributionApply 0 .clean) (withTarget { target1 with state := .failed } [contribution 0x30]) = .next t) ∧
    (∃ t, exec (.contributionApply 0 .clean) (inCache (withTarget { target1 with arrived := 0xFFFFFF } [contribution 0x30])) = .next t) ∧
    (∃ t, exec (.contributionApply 0 .uncorr) (inCache (withTarget target1 [contribution 0x30])) = .next t) ∧
    (∃ t, exec (.contributionApply 0 .clean) (inCache (withTarget target1 [contribution 0x30])) = .next t) ∧
    (∃ t, exec (.contributionHoldTimeout 0) (withTarget { target1 with state := .closed } [contribution 0x30]) = .next t) ∧
    (∃ t, exec (.faceCacheFill 0 7 .clean) ({ withTarget target1 with face := { targets := [(0, target1)], fetch := [(0, [7])] } }) = .next t) ∧
    (∃ t, exec (.faceCacheFill 0 7 .uncorr) ({ withTarget target1 with face := { targets := [(0, target1)], fetch := [(0, [7])] } }) = .next t) ∧
    (∃ t, exec (.gatherComplete 3) ({ land with face := { gathers := [{ task := 3, target := 0, ctx := 0, part := 1, read := true }] } }) = .next t) ∧
    (∃ t, exec (.gatherComplete 3) gathering = .next t) :=
  have w (s : State) (a : s.alive = true) := h.2 s 0 a (by decide)
  ⟨⟨_, (w (withTarget target1 [contribution 0x30]) rfl).1 .clean rfl⟩,
   ⟨_, ((w (inCache (withTarget target1 [contribution 1])) rfl).2.1 _ .uncorr rfl).1 rfl⟩,
   ⟨_, ((w (withTarget { target1 with state := .failed } [contribution 0x30]) rfl).2.1 _ .clean rfl).2.1 (by decide) (.inl rfl)⟩,
   ⟨_, ((w (inCache (withTarget { target1 with arrived := 0xFFFFFF } [contribution 0x30])) rfl).2.1 _ .clean rfl).2.1 (by decide) (.inr (by decide))⟩,
   ⟨_, ((w (inCache (withTarget target1 [contribution 0x30])) rfl).2.1 _ .uncorr rfl).2.2.1 (by decide) (by decide) (by decide)⟩,
   ⟨_, ((w (inCache (withTarget target1 [contribution 0x30])) rfl).2.1 _ .clean rfl).2.2.2 (by decide) (by decide) (by decide)⟩,
   ⟨_, (w (withTarget { target1 with state := .closed } [contribution 0x30]) rfl).2.2.1 _ rfl rfl⟩,
   ⟨_, ((w ({ withTarget target1 with face := { targets := [(0, target1)], fetch := [(0, [7])] } }) rfl).2.2.2.1 7 .clean (by decide) rfl).1 (.inl rfl)⟩,
   ⟨_, ((w ({ withTarget target1 with face := { targets := [(0, target1)], fetch := [(0, [7])] } }) rfl).2.2.2.1 7 .uncorr (by decide) rfl).2 (by decide) nofun⟩,
   ⟨_, ((w ({ land with face := { gathers := [{ task := 3, target := 0, ctx := 0, part := 1, read := true }] } }) rfl).2.2.2.2 3 _ (by decide) rfl rfl).1 ⟨rfl, nofun⟩⟩,
   ⟨_, ((w gathering rfl).2.2.2.2 3 _ (by decide) rfl rfl).2 (fun x => (x.2 5 (.head _) { req1 with node := 0, ordNo := 5 } (.head _) rfl).1 rfl)⟩⟩

/-! ### Tallies and the Winder (11) -/

/-- A tally operation arrived at home 0 from node 5, or from this node, for tally 0 at a value. -/
def tallyOp (opcode : Nat) (x : Dword) : Op := { kind := 3, opcode, part := 1, ctx := some 0, payload := leBytes 8 x.toNat }
def tallies (r : TallyRec) (regs : List Registration) (quota : Nat) : TalSt := { land.tal with recs := [(0, r)], regs, quota := [(1, quota)] }
def tallyAt (r : TallyRec) (x : Dword) (opcode : Nat) (regs : List Registration := []) (quota : Nat := 64) (src : Nat := 5) : State := { land with
  home := { arr := [{ q := 0, src, tag := 1, op := tallyOp opcode x }] }, tal := tallies r regs quota }

/-- The same state with the packet taken. -/
def taken (r : TallyRec) (regs : List Registration := []) (quota : Nat := 64) : State := { land with home := {}, tal := tallies r regs quota }
def wait5 : Registration := { tally := 0, th := 9, src := 5, part := 1, tag := 1 }

/-- A tally request of site 0 to node 5. -/
def talReq (opcode : Nat) : Req := { tag := 1, node := 5, eng := .site 0, op := { kind := 3, opcode, part := 1, ctx := some 0 } }
def asking (r : Req) (a : Answer) : State := { land with req := { land.req with out := [r], answers := [a] } }
/-- Every registration for waits to other nodes in use. -/
def manyWaits (s : State) : State := { s with req := { s.req with out := List.replicate 480 { talReq 3 with tag := 2 } } }
theorem many_waits : 480 ≤ (manyWaits (taken {})).sharedWaits := by decide +kernel
def talAns (opcode : Nat) : Answer := { tag := 1, src := 5, part := 1, addr := 0, kind := 3, opcode, payload := leBytes 8 9 }

/-- Signals taken and refused; waits refused and satisfied. -/
theorem meets_TallyPackets (h : Obligations.TalliesComplete) :
    (∃ t, exec (.tallySignal 0 5 1 1 .clean) (tallyAt { value := 3 } 4 1) = .next t) ∧
    (∃ t, exec (.tallySignal 0 5 1 1 .clean) (tallyAt { value := 1, spent := true } 2 2) = .next t) ∧
    (∃ t, exec (.tallyWait 0 5 2 1 .clean) ({ tallyAt {} 9 3 with home := { arr := [{ q := 0, src := 5, tag := 1, op := { tallyOp 3 9 with part := 2 } }] } }) = .next t) ∧
    (∃ t, exec (.tallyWait 0 5 1 1 .clean) (tallyAt { spent := true } 9 3) = .next t) ∧
    (∃ t, exec (.tallyWait 0 5 1 1 .clean) (tallyAt { value := 9 } 9 3) = .next t) :=
  have p (r : TallyRec) (x : Dword) (opcode : Nat) (l : List Registration) (n src : Nat) (v) := h.1.1.1 (tallyAt r x opcode l n src) (taken r l n) 0 src v 1 (tallyOp opcode x) .clean rfl (by decide)
  have w (r : TallyRec) (l : List Registration) (n) (e) := (p r 9 3 l n 5 1 (by decide) (by decide)).2 e
  ⟨⟨_, ((p { value := 3 } 4 1 [] 64 5 1 (by decide) (by decide)).1 rfl).1 rfl⟩,
   ⟨_, ((p { value := 1, spent := true } 2 2 [] 64 5 1 (by decide) (by decide)).1 rfl).2 (by decide +kernel)⟩,
   ⟨_, ((h.1.1.1 ({ tallyAt {} 9 3 with home := { arr := [{ q := 0, src := 5, tag := 1, op := { tallyOp 3 9 with part := 2 } }] } }) (taken {}) 0 5 2 1 { tallyOp 3 9 with part := 2 } .clean rfl (by decide) (by decide) (by decide)).2 rfl).1 rfl⟩,
   ⟨_, (w { spent := true } [] 64 rfl).2.1 rfl rfl⟩,
   ⟨_, ((w { value := 9 } [] 64 rfl).2.2 rfl rfl).1 (by decide +kernel)⟩⟩

/-- Waits registered already, beyond the shares, and registered. -/
theorem meets_Waits (h : Obligations.TalliesComplete) :
    (∃ t, exec (.tallyWait 0 5 1 1 .clean) (tallyAt { value := 8 } 9 3 [wait5]) = .next t) ∧
    (∃ t, exec (.tallyWait 0 0 1 1 .clean) (manyWaits (tallyAt {} 9 3 [] 64 0)) = .next t) ∧
    (∃ t, exec (.tallyWait 0 0 1 1 .clean) (tallyAt {} 9 3 [] 64 0) = .next t) ∧
    (∃ t, exec (.tallyWait 0 5 1 1 .clean) (tallyAt {} 9 3 [] 0) = .next t) ∧
    (∃ t, exec (.tallyWait 0 5 1 1 .clean) (tallyAt {} 9 3) = .next t) :=
  have p (r : TallyRec) (x : Dword) (opcode : Nat) (l : List Registration) (n src : Nat) (v) := h.1.1.1 (tallyAt r x opcode l n src) (taken r l n) 0 src v 1 (tallyOp opcode x) .clean rfl (by decide)
  have w (r : TallyRec) (l : List Registration) (n) (e) := (p r 9 3 l n 5 1 (by decide) (by decide)).2 e
  ⟨⟨_, ((w { value := 8 } [wait5] 64 rfl).2.2 rfl rfl).2.1 (by decide +kernel) rfl⟩,
   ⟨_, ((((h.1.1.1 (manyWaits (tallyAt {} 9 3 [] 64 0)) (manyWaits (taken {})) 0 0 1 1 (tallyOp 3 9) .clean rfl (by decide) (by decide) (by decide)).2 rfl).2.2 rfl rfl).2.2.1 (by decide +kernel) rfl rfl).1 rfl many_waits⟩,
   ⟨_, ((((p {} 9 3 [] 64 0 1 (by decide) (by decide)).2 rfl).2.2 rfl rfl).2.2.1 (by decide +kernel) rfl rfl).2 (.inr (by decide +kernel))⟩,
   ⟨_, (((w {} [] 0 rfl).2.2 rfl rfl).2.2.2 (by decide +kernel) rfl (by decide)).1 (by decide +kernel)⟩,
   ⟨_, (((w {} [] 64 rfl).2.2 rfl rfl).2.2.2 (by decide +kernel) rfl (by decide)).2 (by decide +kernel)⟩⟩

/-- A signal from elsewhere, of a spent tally, beyond 64 bits, below the value, and one that the tally or the tally's pair admits or not. -/
theorem meets_SignalEffect (h : Obligations.TalliesComplete) :
    ((taken {}).signal 2 0 false 1 = (taken {}, 0x7001)) ∧
    ((taken { spent := true }).signal 1 0 false 1 = (taken { spent := true }, 0x7003)) ∧
    (∃ u, (taken { value := 1 }).signal 1 0 false 0xFFFF_FFFF_FFFF_FFFF = (u, 0x7002)) ∧
    (((taken { value := 3 }).signal 1 0 true 2).2 = 0) ∧
    (∃ u, (taken { value := 3 }).signal 1 0 true 4 = (u, 0)) ∧
    (∃ u, (taken { role := 1, partner := 1, bound := 1 }).signal 1 0 false 2 = (u, 0x7005)) :=
  have g (r : TallyRec) := h.1.1.2 (taken r) 1 0
  have k (r : TallyRec) (e) := h.1.1.2 (taken r) 1 63 e
  ⟨(h.1.1.2 _ 2 0 false 1).1 rfl,
   (g { spent := true } false 1).2.1 rfl rfl,
   ⟨_, ((g { value := 1 } false 0xFFFF_FFFF_FFFF_FFFF).2.2 (by decide) rfl).1 (by decide)⟩,
   (((g { value := 3 } true 2).2.2 (by decide) rfl).2.1 (by decide)).1,
   ⟨_, ((g { value := 3 } true 4).2.2 (by decide) rfl).2.2.1 (by decide) (by decide) (by decide)⟩,
   ⟨_, ((g { role := 1, partner := 1, bound := 1 } false 2).2.2 (by decide) rfl).2.2.2 (by decide) (by decide) (by decide)⟩⟩

/-- Held signals with and without a descriptor's message, of a task and of a site; acknowledgements and WAIT_DONE of an operation and of none; a wait sent again. -/
theorem meets_TallyAnswers (h : Obligations.TalliesComplete) :
    (∃ t, exec (.signalRelease 1) (asking { talReq 1 with node := 0, held := true, eng := .task 3 } (talAns 0)) = .next t) ∧
    (∃ t, exec (.signalRelease 1) (asking { talReq 1 with node := 0, held := true } (talAns 0)) = .next t) ∧
    (∃ t, exec (.waitDoneReceive 1) (asking (talReq 3) (talAns 0x83)) = .next t) ∧
    (∃ t, exec (.waitDoneReceive 1) ({ land with req := { land.req with answers := [talAns 0x83] } }) = .next t) ∧
    (∃ t, exec (.tallyAckReceive 1) (asking (talReq 1) (talAns 0x81)) = .next t) ∧
    (∃ t, exec (.tallyAckReceive 1) ({ land with req := { land.req with answers := [talAns 0x81] } }) = .next t) ∧
    (∃ t, exec (.waitRepeat 1) (asking { talReq 3 with acked := true } (talAns 0)) = .next t) :=
  have q (r : Req) (a : Answer) := h.1.2 (asking r a) { land with req := { land.req with out := [r] } } 1 rfl (by decide)
  have e (a : Answer) := h.1.2 (asking (talReq 1) a) { land with req := { land.req with out := [talReq 1] } } 1 rfl (by decide)
  have none (a : Answer) := h.1.2 { land with req := { land.req with answers := [a] } } land 1 rfl (by decide)
  ⟨⟨_, ((q { talReq 1 with node := 0, held := true, eng := .task 3 } (talAns 0)).1 _ rfl rfl rfl).1 3 rfl⟩,
   ⟨_, ((q { talReq 1 with node := 0, held := true } (talAns 0)).1 _ rfl rfl rfl).2 nofun⟩,
   ⟨_, ((q (talReq 3) (talAns 0x83)).2.1 _ rfl).1 _ rfl (by decide)⟩,
   ⟨_, ((none (talAns 0x83)).2.1 _ rfl).2 fun _ e => nomatch (show (Option.none : Option Req) = some _ from e)⟩,
   ⟨_, ((e (talAns 0x81)).2.2.1 _ rfl).1 _ rfl (by decide)⟩,
   ⟨_, ((none (talAns 0x81)).2.2.1 _ rfl).2 fun _ e => nomatch (show (Option.none : Option Req) = some _ from e)⟩,
   ⟨_, (q { talReq 3 with acked := true } (talAns 0)).2.2.2 _ rfl rfl (by decide)⟩⟩

/-- Tallies 0 and 1 as the commands find them, the partner and the bound of PAIR in the arguments. -/
def pairing (l : Tab TallyRec) : State :=
  { (land.modInst .tal 1 fun i => { i with regs := [(0x10, 1), (0x14, 0), (0x18, 1), (0x1C, 4)] }) with tal := { land.tal with recs := l } }

/-- TAL_CMD from the owner and the operator, of a pair and of free tallies; from another partition, while busy, and from a VF. -/
theorem meets_TallyCommands (h : Obligations.TalliesComplete) :
    (∃ t, exec (.talSignalAdd (.part 1) 0) (pairing []) = .next t) ∧
    (∃ t, exec (.talSignalMax .operator 63) (pairing []) = .next t) ∧
    (∃ t, exec (.talQuery .lamp 0) (pairing []) = .next t) ∧
    (∃ t, exec (.talPair (.part 1) 0) (pairing [(0, { value := 2 })]) = .next t) ∧
    (∃ t, exec (.talPair (.part 1) 0) (pairing [(0, { value := 5 })]) = .next t) ∧
    (∃ t, exec (.talUnpair (.part 1) 0) (pairing [(0, { role := 1, partner := 1 }), (1, { role := 2 })]) = .next t) ∧
    (∃ t, exec (.talUnpair (.part 1) 0) (pairing []) = .next t) ∧
    (∃ t, exec (.talPair (.part 2) 0) land = .next t) ∧
    (∃ t, exec (.talUnpair .operator 0) land = .next t) ∧
    (∃ t, exec (.talQuery .lamp 0) (land.cmdBusy .tal 7 0) = .next t) ∧
    (∃ t, exec (.talQuery (.vf 1 1) 0) land = .next t) :=
  have c (l : Tab TallyRec) := h.2 (pairing l) (.part 1) 0 (by decide)
  have own (l : Tab TallyRec) := (c l).2.1 ⟨land_ready, rfl, rfl, rfl⟩ (.inl ⟨1, rfl, rfl⟩)
  ⟨⟨_, ((c []).1 ⟨land_ready, rfl, rfl, rfl⟩ (.inl (.inl ⟨1, rfl, rfl⟩))).1⟩,
   ⟨_, ((h.2 (pairing []) .operator 63 (by decide)).1 ⟨land_ready, rfl, rfl, rfl⟩ (.inr ⟨rfl, by decide⟩)).2.1⟩,
   ⟨_, ((h.2 (pairing []) .lamp 0 (by decide)).1 ⟨land_ready, rfl, rfl, rfl⟩ (.inl (.inr ⟨rfl, by decide⟩))).2.2⟩,
   ⟨_, (own _).1 (by decide +kernel)⟩,
   ⟨_, (own _).2.1 (by decide +kernel)⟩,
   ⟨_, (own _).2.2.1 (by decide)⟩,
   ⟨_, (own _).2.2.2 rfl⟩,
   ⟨_, ((h.2 land (.part 2) 0 (by decide)).2.2 _ (by simp)).1 ⟨land_ready, rfl, rfl, rfl⟩ rfl (.inr (.inl ⟨2, rfl, rfl⟩))⟩,
   ⟨_, ((h.2 land .operator 0 (by decide)).2.2 _ (by simp)).1 ⟨land_ready, rfl, rfl, rfl⟩ rfl (.inr (.inr (.inr ⟨rfl, .inr rfl⟩)))⟩,
   ⟨_, ((h.2 (land.cmdBusy .tal 7 0) .lamp 0 (by decide)).2.2 _ (by simp)).2.1 ⟨land_ready, rfl, rfl, rfl⟩ nofun rfl⟩,
   ⟨_, ((h.2 land (.vf 1 1) 0 (by decide)).2.2 _ (by simp)).2.2 1 1 rfl ⟨land_ready, rfl, rfl, rfl⟩⟩⟩

/-- Task 0 of partition 1, LOAD's arguments naming one word of stack 0. -/
def task (k : Task) (a1 : Word := 0x100) (ctx : Word := 0) : State :=
  { (land.modInst .wnd 1 fun i => { i with regs := [(0x10, 0), (0x14, a1), (0x18, ctx), (0x1C, 0)] }) with wnd := { tasks := [(0, { k with part := 1 })] } }

/-- A LOAD into task 0 whose lines have come or not. -/
def load (bad : Bool) (got : Tab (List Byte)) (todo : List Nat := []) (ctx : BitVec 16 := 0) : Load :=
  { task := 0, part := 1, ctx, canary := 0, src := 0, n := 4, todo, got, bad }
def loading (k : Task) (l : Load) : State := { (task k).cmdBusy .wnd 1 0 with wnd := { tasks := [(0, { k with part := 1 })], loads := [(1, l)] } }

/-- Every command in each kind of state of its task; from another partition, while busy, and from the operator. -/
theorem meets_WinderCommands (h : Obligations.WinderCompletes) :
    (∃ t, exec (.wndLoad (.part 1) 0 (some [])) (task { state := .ready }) = .next t) ∧
    (∃ t, exec (.wndLoad (.part 1) 0 (some [])) (task {} 0) = .next t) ∧
    (∃ t, exec (.wndLoad (.part 1) 0 (some [])) (task {} 0x100 9) = .next t) ∧
    (∃ t, exec (.wndLoad (.part 1) 0 (some [])) (task {}) = .next t) ∧
    (∃ t, exec (.wndStart (.part 1) 0) (task { state := .halted }) = .next t) ∧
    (∃ t, exec (.wndResume (.part 1) 0) (task { state := .stopped }) = .next t) ∧
    (∃ t, exec (.wndStart (.part 1) 0) (task { state := .done, ctx := 9 }) = .next t) ∧
    (∃ t, exec (.wndResume (.part 1) 0) (task { state := .halted, ctx := 9 }) = .next t) ∧
    (∃ t, exec (.wndStart (.part 1) 0) (task { state := .ready }) = .next t) ∧
    (∃ t, exec (.wndResume (.part 1) 0) (task { state := .done }) = .next t) ∧
    (∃ t, exec (.wndStop (.part 1) 0) (task { state := .ready }) = .next t) ∧
    (∃ t, exec (.wndStop (.part 1) 0) (task { state := .blocked, block := 2, req := some 1 }) = .next t) ∧
    (∃ t, exec (.wndStop (.part 1) 0) (task { state := .blocked, block := 3 }) = .next t) ∧
    (∃ t, exec (.wndStop (.part 1) 0) (task { state := .blocked, block := 7 }) = .next t) ∧
    (∃ t, exec (.wndStop (.part 1) 0) (task { state := .blocked, block := 4 }) = .next t) ∧
    (∃ t, exec (.wndStop (.part 1) 0) (task {}) = .next t) ∧
    (∃ t, exec (.wndUnload (.part 1) 0) (task { state := .done }) = .next t) ∧
    (∃ t, exec (.wndUnload (.part 1) 0) (task { state := .blocked }) = .next t) ∧
    (∃ t, exec (.wndStart (.part 2) 0) land = .next t) ∧
    (∃ t, exec (.wndStop .lamp 0) (land.cmdBusy .wnd 7 0) = .next t) ∧
    (∃ t, exec (.wndUnload .operator 0) land = .next t) :=
  have c (s : State) (r : s.Takes .wnd (.part 1)) (o : s.taskOwner 0 = 1) := (h.1.1.1 s (.part 1) 1 0 [] (by decide) o).1 r (.inl rfl)
  have k (k : Task) := c (task k) ⟨land_ready, rfl, rfl, rfl⟩ rfl
  ⟨⟨_, (k _).1 rfl⟩,
   ⟨_, (c (task {} 0) ⟨land_ready, rfl, rfl, rfl⟩ rfl).2.1 rfl (by decide +kernel)⟩,
   ⟨_, (c (task {} 0x100 9) ⟨land_ready, rfl, rfl, rfl⟩ rfl).2.2.1 rfl (by decide +kernel) rfl⟩,
   ⟨_, (k _).2.2.2.1 rfl (by decide +kernel) rfl⟩,
   ⟨_, (k _).2.2.2.2.1 (by decide) rfl⟩,
   ⟨_, (k _).2.2.2.2.2.1 (by decide) rfl⟩,
   ⟨_, ((k _).2.2.2.2.2.2.1 rfl).1 (by decide)⟩,
   ⟨_, ((k _).2.2.2.2.2.2.1 rfl).2 (by decide)⟩,
   ⟨_, (k _).2.2.2.2.2.2.2.1 (by decide)⟩,
   ⟨_, (k _).2.2.2.2.2.2.2.2.1 (by decide)⟩,
   ⟨_, (k _).2.2.2.2.2.2.2.2.2.1 rfl⟩,
   ⟨_, ((k _).2.2.2.2.2.2.2.2.2.2.1 rfl).1 (by decide)⟩,
   ⟨_, ((k _).2.2.2.2.2.2.2.2.2.2.1 rfl).2.1 rfl⟩,
   ⟨_, ((k _).2.2.2.2.2.2.2.2.2.2.1 rfl).2.2.1 rfl⟩,
   ⟨_, ((k _).2.2.2.2.2.2.2.2.2.2.1 rfl).2.2.2 (by decide) (by decide) (by decide) (by decide)⟩,
   ⟨_, (k _).2.2.2.2.2.2.2.2.2.2.2.1 (by decide) (by decide)⟩,
   ⟨_, (k _).2.2.2.2.2.2.2.2.2.2.2.2.1 rfl⟩,
   ⟨_, (k _).2.2.2.2.2.2.2.2.2.2.2.2.2 rfl⟩,
   ⟨_, ((h.1.1.1 land (.part 2) 1 0 [] (by decide) rfl).2 _ (by simp)).1 ⟨land_ready, rfl, rfl, rfl⟩ (.inr ⟨2, rfl, by decide⟩)⟩,
   ⟨_, ((h.1.1.1 (land.cmdBusy .wnd 7 0) .lamp 1 0 [] (by decide) rfl).2 _ (by simp)).2.1 ⟨land_ready, rfl, rfl, rfl⟩ (.inl rfl) rfl⟩,
   ⟨_, ((h.1.1.1 land .operator 1 0 [] (by decide) rfl).2 _ (by simp)).2.2 ⟨land_ready, rfl, rfl, rfl⟩ (.inl rfl)⟩⟩

/-- A LOAD that failed, waits, finds its task busy, its context lost, and one that succeeds. -/
theorem meets_Loading (h : Obligations.WinderCompletes) :
    (∃ u, (loading {} (load true [])).loadStep 1 = u) ∧
    (∃ u, (loading {} (load false [] [0])).loadStep 1 = u) ∧
    (∃ u, (loading { state := .ready } (load false [(0, [])])).loadStep 1 = u) ∧
    (∃ u, (loading {} (load false [(0, [])] [] 9)).loadStep 1 = u) ∧
    (∃ u, (loading {} (load false [(0, [])])).loadStep 1 = u) :=
  have g (k : Task) (l : Load) := h.1.1.2 (loading k l) 1 l l rfl rfl
  ⟨⟨_, (g {} (load true []) rfl).1 rfl⟩,
   ⟨_, (h.1.1.2 (loading {} (load false [] [0])) 1 (load false [] [0]) (load false []) rfl rfl rfl).2.1 rfl (by decide)⟩,
   ⟨_, (g { state := .ready } (load false [(0, [])]) rfl).2.2.1 rfl (by decide) rfl⟩,
   ⟨_, ((g {} (load false [(0, [])] [] 9) rfl).2.2.2 rfl (by decide) rfl).1 rfl⟩,
   ⟨_, ((g {} (load false [(0, [])]) rfl).2.2.2 rfl (by decide) rfl).2.2 _ rfl rfl⟩⟩

/-- A READY task at its first step, whose words are given. -/
def running (w : Block) (e : List Block := []) : State := task { state := .ready, prog := w :: e }
def indRead (state : TaskState) (ok : Bool) : State :=
  { task { state, prog := [0], ind := some 4 } with req := { land.req with done := [{ eng := .task 0, extTag := 4, ok, data := [] }] } }

/-- Every TAG below n in use. -/
def tagged (n : Nat) : List Req := (List.range n).map fun tag => { req1 with tag }
theorem tagged_all (n k : Nat) (a : k < n) : ((tagged n).all fun r => r.tag != k) = false := by
  rw [List.all_eq_false]; exact ⟨{ req1 with tag := k }, List.mem_map.mpr ⟨k, List.mem_range.mpr a, rfl⟩, by simp⟩
@[irreducible] def allReqs : List Req := tagged 16384
theorem allReqs_eq : allReqs = tagged 16384 := by delta allReqs; exact Eq.refl (tagged 16384)
theorem no_tag (s : State) (e : s.req.out = allReqs) : s.freeTag = none :=
  none_from _ _ _ fun k _ a => by rw [e, allReqs_eq]; exact tagged_all _ k (by omega)
def allTags (s : State) : State := { s with req := { s.req with out := allReqs } }

/-- A step beyond the program, an uncorrectable word, an END; an indirect step malformed, outside the partition, without a TAG and issued; its operand back. -/
theorem meets_StepIssue (h : Obligations.WinderCompletes) :
    (∃ t, exec (.winderStepIssue 0 .clean) (task { state := .ready, prog := [0], step := 1 }) = .next t) ∧
    (∃ t, exec (.winderStepIssue 0 .uncorr) (running 0) = .next t) ∧
    (∃ t, exec (.winderStepIssue 0 .clean) (running 0) = .next t) ∧
    (∃ t, exec (.winderStepIssue 0 .clean) (running (0x08#8 ++ 0#120)) = .next t) ∧
    (∃ t, exec (.winderStepIssue 0 .clean) (running (0x18#8 ++ 0x0F0000000000#120)) = .next t) ∧
    (∃ t, exec (.winderStepIssue 0 .clean) (allTags (running (0x18#8 ++ 0#120))) = .next t) ∧
    (∃ t, exec (.winderStepIssue 0 .clean) (running (0x18#8 ++ 0#120)) = .next t) ∧
    (∃ t, exec (.indOperandReturn 0) (indRead .stopped true) = .next t) ∧
    (∃ t, exec (.indOperandReturn 0) (indRead .blocked false) = .next t) ∧
    (∃ t, exec (.indOperandReturn 0) (indRead .blocked true) = .next t) :=
  have r (s : State) (a : s.alive = true) := h.1.2 s 0 a (by decide)
  have i (w : Block) (x) (y) := ((r (running w) rfl).1 rfl rfl).2.2.2 .clean (Nat.zero_lt_succ 0) x y
  ⟨⟨_, ((r (task { state := .ready, prog := [0], step := 1 }) rfl).1 rfl rfl).1 .clean (by decide)⟩,
   ⟨_, ((r (running 0) rfl).1 rfl rfl).2.1 .uncorr (by decide) (by decide +kernel)⟩,
   ⟨_, ((r (running 0) rfl).1 rfl rfl).2.2.1 .clean (by decide) (by decide +kernel) (by decide +kernel)⟩,
   ⟨_, (i _ (by decide +kernel) (by decide +kernel)).1 (by decide +kernel)⟩,
   ⟨_, (i _ (by decide +kernel) (by decide +kernel)).2.1 (by decide +kernel) (by decide +kernel)⟩,
   ⟨_, (((r (allTags (running (0x18#8 ++ 0#120))) rfl).1 rfl rfl).2.2.2 .clean (by decide) (by decide +kernel) (by decide +kernel)).2.2.1 (by decide +kernel) (by decide +kernel) (no_tag _ rfl)⟩,
   ⟨_, (i _ (by decide +kernel) (by decide +kernel)).2.2.2 0 (by decide +kernel) (by decide +kernel) (by decide +kernel)⟩,
   ⟨_, ((r (indRead .stopped true) rfl).2.2 _ rfl).1 (by decide)⟩,
   ⟨_, ((r (indRead .blocked false) rfl).2.2 _ rfl).2.1 rfl (.inl rfl)⟩,
   ⟨_, ((r (indRead .blocked true) rfl).2.2 _ rfl).2.2 rfl rfl rfl⟩⟩

/-- Every step, malformed and well-formed. -/
theorem meets_StepRuns (h : Obligations.WinderCompletes) :
    (∃ u, (running 0).runStep 0 0 1 = u) ∧
    (∃ u, (running 0).runStep 0 0 0 = u) ∧
    (∃ u, (running (0x10#8 ++ 0#120)).runStep 0 (0x10#8 ++ 0#120) 0 = u) ∧
    (∃ u, (running (0x20#8 ++ 0#120)).runStep 0 (0x20#8 ++ 0#120) 0 = u) ∧
    (∃ u, (running (0x22#8 ++ 0#120) [0xF0#8 ++ 0#120]).runStep 0 (0x22#8 ++ 0#120) 0 = u) ∧
    (∃ u, (running (0x22#8 ++ 0#120)).runStep 0 (0x22#8 ++ 0#120) 0 = u) ∧
    (∃ u, (running (0x30#8 ++ 0#120)).runStep 0 (0x30#8 ++ 0#120) 0 = u) ∧
    (∃ u, (running (0x40#8 ++ 0#120)).runStep 0 (0x40#8 ++ 0#120) 0 = u) ∧
    (∃ u, (running (0x52#8 ++ 0#120)).runStep 0 (0x52#8 ++ 0#120) 0 = u) ∧
    (∃ u, (running (0x50#8 ++ 0#120)).runStep 0 (0x50#8 ++ 0#120) 0 = u) ∧
    (∃ u, (running (0x60#8 ++ 0#120)).runStep 0 (0x60#8 ++ 0#120) 0 = u) ∧
    (∃ u, (running (0x70#8 ++ 0#120)).runStep 0 (0x70#8 ++ 0#120) 0 = u) :=
  have r (l : List Block) (w : Block) (o : BitVec 120) (f) := ((h.1.2 (running w l) 0 rfl (by decide)).2.1 o).2 f
  ⟨⟨_, ((h.1.2 (running 0) 0 rfl (by decide)).2.1 1).1 (by decide +kernel)⟩,
   ⟨_, (r [] 0 0 (by decide +kernel)).1 (by decide +kernel)⟩,
   ⟨_, (r [] _ 0 (by decide +kernel)).2.1 (by decide +kernel)⟩,
   ⟨_, (r [] _ 0 (by decide +kernel)).2.2.1 (by decide +kernel) (by decide +kernel)⟩,
   ⟨_, (r [0xF0#8 ++ 0#120] _ 0 (by decide +kernel)).2.2.2.1 (by decide +kernel) (by decide +kernel) ⟨0xF0#8 ++ 0#120, rfl, by decide +kernel⟩⟩,
   ⟨_, (r [] _ 0 (by decide +kernel)).2.2.2.2.1 (by decide +kernel) (by decide +kernel) fun x => nomatch x.choose_spec.1⟩,
   ⟨_, (r [] _ 0 (by decide +kernel)).2.2.2.2.2.1 (by decide +kernel)⟩,
   ⟨_, (r [] _ 0 (by decide +kernel)).2.2.2.2.2.2.1 (by decide +kernel)⟩,
   ⟨_, (r [] _ 0 (by decide +kernel)).2.2.2.2.2.2.2.1 (by decide +kernel) (by decide +kernel)⟩,
   ⟨_, (r [] _ 0 (by decide +kernel)).2.2.2.2.2.2.2.2.1 (by decide +kernel) (by decide +kernel)⟩,
   ⟨_, (r [] _ 0 (by decide +kernel)).2.2.2.2.2.2.2.2.2.1 (by decide +kernel)⟩,
   ⟨_, (r [] _ 0 (by decide +kernel)).2.2.2.2.2.2.2.2.2.2 (by decide +kernel)⟩⟩

/-- Tally operations with and without a TAG, ARM refused, taken and turned away by the face, MOVE and LOOP of every kind. -/
theorem meets_StepsAct (h : Obligations.WinderCompletes) :
    (∃ u, (allTags (running 0)).taskTally 0 3 0 0 1 = u) ∧
    (∃ u, (running 0).taskTally 0 3 0 0 1 = u) ∧
    (∃ u, (noTag (running 0)).taskTally 0 1 0 0 1 = u) ∧
    (∃ u, (running 0).taskTally 0 1 0 0 1 = u) ∧
    (∃ u, (withTarget {}).taskArm 0 false none 0 = u) ∧
    (∃ u, { withTarget target1 with wnd := { tasks := [(0, { part := 1, state := .ready })] } }.taskArm 0 true (some 0) (1#33 ++ 0#87) = u) ∧
    (∃ u, { withTarget {} with wnd := { tasks := [(0, { part := 1, state := .ready })] } }.taskArm 0 false (some 0) 0 = u) ∧
    (∃ u, (running 0).taskMove 0 false (5#5 ++ 0#115) = u) ∧
    (∃ u, (running 0).taskMove 0 true 0 = u) ∧
    (∃ u, (running 0).taskLoop 0 true (1#6 ++ 0#114) = u) ∧
    (∃ u, (running 0).taskLoop 0 true 0 = u) ∧
    (∃ u, (task { state := .ready, prog := [0], loop := 1 }).taskLoop 0 true 1 = u) :=
  have a (s : State) (o : BitVec 120) := h.2 s 0 o
  have y (b) (t : Target) (e) (o : BitVec 120) := (h.2 { withTarget t with wnd := { tasks := [(0, { part := 1, state := .ready })] } } 0 o).2.1 b e
  ⟨⟨_, ((a (allTags (running 0)) 0).1 3 0 0 1).1 (no_tag _ rfl)⟩,
   ⟨_, (((a (running 0) 0).1 3 0 0 1).2 0 (by decide +kernel)).1 rfl⟩,
   ⟨_, (((a (noTag (running 0)) 0).1 1 0 0 1).2 0 (by decide +kernel)).2.1 (by decide) (if_pos (.inl (Nat.le_of_eq (List.length_replicate ..).symm)))⟩,
   ⟨_, (((a (running 0) 0).1 1 0 0 1).2 0 (by decide +kernel)).2.2 _ (by decide) rfl⟩,
   ⟨_, ((h.2 (withTarget {}) 0 0).2.1 false none).1 (.inl (by decide))⟩,
   ⟨_, (y true target1 (some 0) (1#33 ++ 0#87)).2.1 (by decide +kernel) (by decide +kernel)⟩,
   ⟨_, (y false {} (some 0) 0).2.2 (by decide +kernel) (by decide +kernel)⟩,
   ⟨_, ((a (running 0) (5#5 ++ 0#115)).2.2.1 false).1 (by decide +kernel)⟩,
   ⟨_, ((a (running 0) 0).2.2.1 true).2 (by decide +kernel)⟩,
   ⟨_, ((a (running 0) (1#6 ++ 0#114)).2.2.2.1 true).1 (by decide +kernel)⟩,
   ⟨_, ((a (running 0) 0).2.2.2.1 true).2.1 (by decide +kernel) (by decide +kernel)⟩,
   ⟨_, ((a (task { state := .ready, prog := [0], loop := 1 }) 1).2.2.2.1 true).2.2 (by decide +kernel) (by decide +kernel)⟩⟩

/-! ### The mover (12) -/

/-- Channel 0 of partition 1, and the arguments of a command in its instance. -/
def chan (k : Chan) (a0 : Word := 0) (a2 : Word := 0x40000) : State :=
  { (land.modInst .mov 1 fun i => { i with regs := [(0x10, a0), (0x14, 0), (0x18, a2), (0x1C, 0)] }) with mov := { chans := [(0, k)] } }
def referring (k : Chan) (a0 : Word) (refs : List (RefHolder × RefObj)) : State := { chan k a0 with tal := { land.tal with refs } }
def bound (st : ChanState) : Chan := { state := st, part := 1, log2 := 4, tail := 1 }
def withAct (st : ChanState) (a : MovAct) : Chan := { bound st with act := some a }

/-- A channel to which so many references are held, as the limit allows. -/
def fullRefs (k : Chan) : State := referring k 0 (List.replicate 4095 (.ctx 1 0, .queue 0))
theorem refsOn_replicate (k : Chan) (n : Nat) : (referring k 0 (List.replicate n (.ctx 1 0, .queue 0))).refsOn (.queue 0) = n := by
  simp [State.refsOn, referring, List.filter_replicate]
theorem addRef_full (s : State) (h : RefHolder) (e : 4095 ≤ s.refsOn (.queue 0)) : s.addRef h (.queue 0) = none := if_pos e
theorem fullRefs_full (k : Chan) (h : RefHolder) : (fullRefs k).addRef h (.queue 0) = none :=
  addRef_full _ h (Nat.le_of_eq (refsOn_replicate k 4095).symm)
def heldRecord (k : Chan) (a0 : Word) : State := { chan k a0 with hz := [(1, { held := [{ point := .host, stamp := 0, ctx := none, cargo := .record 0 0 [] }] })] }

/-- BIND, START and ABORT in each kind of state of the channel; from another partition, while busy, and from the operator. -/
theorem meets_ChannelCommands (h : Obligations.ChannelCommandsComplete) :
    (∃ t, exec (.movBind (.part 1) 0) (chan (bound .run)) = .next t) ∧
    (∃ t, exec (.movBind (.part 1) 0) (chan {} 1) = .next t) ∧
    (∃ t, exec (.movBind (.part 1) 0) (chan {} 0 0x40009) = .next t) ∧
    (∃ t, exec (.movBind (.part 1) 0) (fullRefs {}) = .next t) ∧
    (∃ t, exec (.movBind (.part 1) 0) (chan {}) = .next t) ∧
    (∃ t, exec (.movStart (.part 1) 0) (chan (bound .halted)) = .next t) ∧
    (∃ t, exec (.movStart (.part 1) 0) (chan (bound .run)) = .next t) ∧
    (∃ t, exec (.movAbort (.part 1) 0) (chan (bound .halted) 0x8000_0000) = .next t) ∧
    (∃ t, exec (.movAbort (.part 1) 0) (chan (bound .run) 0x8000_0000) = .next t) ∧
    (∃ t, exec (.movAbort (.part 1) 0) (chan (withAct .run {}) 0x8000_0000) = .next t) ∧
    (∃ t, exec (.movAbort (.part 1) 0) (heldRecord { bound .run with head := 1, consumed := 1 } 0) = .next t) ∧
    (∃ t, exec (.movAbort (.part 1) 0) (chan { bound .run with head := 1, consumed := 1 }) = .next t) ∧
    (∃ t, exec (.movAbort (.part 1) 0) (chan (bound .run) 15) = .next t) ∧
    (∃ t, exec (.movAbort (.part 1) 0) (chan (bound .halted)) = .next t) ∧
    (∃ t, exec (.movAbort (.part 1) 0) (chan (bound .run)) = .next t) ∧
    (∃ t, exec (.movBind (.part 2) 0) land = .next t) ∧
    (∃ t, exec (.movStart .lamp 0) (land.cmdBusy .mov 7 0) = .next t) ∧
    (∃ t, exec (.movAbort .operator 0) land = .next t) ∧
    (∃ t, exec (.movDoorbell (.part 1) 0 4095) (chan (bound .stopped)) = .next t) ∧
    (∃ t, exec (.movDoorbell (.vf 1 1) 0 0) (chan { bound .halted with fn := 1 }) = .next t) ∧
    (∃ t, exec (.movDoorbell (.part 2) 0 0) (chan (bound .run)) = .next t) :=
  have c (s : State) (r : s.Takes .mov (.part 1)) (o : s.chanOwner 0 = 1) := (h s (.part 1) 1 0 (by decide) o).1 r (.inl rfl)
  have k (k : Chan) (a0 a2 : Word) := c (chan k a0 a2) ⟨land_ready, rfl, rfl, rfl⟩ rfl
  ⟨⟨_, (k (bound .run) 0 0x40000).1 nofun⟩,
   ⟨_, (k {} 1 0x40000).2.1 rfl (by decide)⟩,
   ⟨_, (k {} 0 0x40009).2.2.1 rfl (by decide) rfl⟩,
   ⟨_, ((c (fullRefs {}) ⟨land_ready, rfl, rfl, rfl⟩ rfl).2.2.2.1 rfl (by decide +kernel) rfl).1 (fullRefs_full _ _)⟩,
   ⟨_, ((k {} 0 0x40000).2.2.2.1 rfl (by decide) rfl).2 _ rfl⟩,
   ⟨_, (k (bound .halted) 0 0x40000).2.2.2.2.1 (.inr rfl)⟩,
   ⟨_, (k (bound .run) 0 0x40000).2.2.2.2.2.1 (by decide)⟩,
   ⟨_, (k (bound .halted) 0x8000_0000 0x40000).2.2.2.2.2.2.1 rfl (by decide)⟩,
   ⟨_, (k (bound .run) 0x8000_0000 0x40000).2.2.2.2.2.2.2.1 rfl rfl rfl⟩,
   ⟨_, (k (withAct .run {}) 0x8000_0000 0x40000).2.2.2.2.2.2.2.2.1 rfl rfl (by decide)⟩,
   ⟨_, (c (heldRecord { bound .run with head := 1, consumed := 1 } 0) ⟨land_ready, rfl, rfl, rfl⟩ rfl).2.2.2.2.2.2.2.2.2.1 (by decide) rfl rfl⟩,
   ⟨_, (k { bound .run with head := 1, consumed := 1 } 0 0x40000).2.2.2.2.2.2.2.2.2.2.1 (by decide) rfl rfl⟩,
   ⟨_, (k (bound .run) 15 0x40000).2.2.2.2.2.2.2.2.2.2.2.1 (by decide) rfl rfl⟩,
   ⟨_, (k (bound .halted) 0 0x40000).2.2.2.2.2.2.2.2.2.2.2.2.1 (by decide) rfl (by decide)⟩,
   ⟨_, (k (bound .run) 0 0x40000).2.2.2.2.2.2.2.2.2.2.2.2.2 (by decide) rfl rfl⟩,
   ⟨_, ((h land (.part 2) 1 0 (by decide) rfl).2.1 _ (by simp)).1 ⟨land_ready, rfl, rfl, rfl⟩ (.inr ⟨2, rfl, by decide⟩)⟩,
   ⟨_, ((h (land.cmdBusy .mov 7 0) .lamp 1 0 (by decide) rfl).2.1 _ (by simp)).2.1 ⟨land_ready, rfl, rfl, rfl⟩ (.inl rfl) rfl⟩,
   ⟨_, ((h land .operator 1 0 (by decide) rfl).2.1 _ (by simp)).2.2 ⟨land_ready, rfl, rfl, rfl⟩ (.inl rfl)⟩,
   ⟨_, ((h (chan (bound .stopped)) (.part 1) 1 0 (by decide) rfl).2.2 4095 ⟨land_ready, rfl, rfl, rfl⟩).1 (.inl rfl) (.inr rfl)⟩,
   ⟨_, ((h (chan { bound .halted with fn := 1 }) (.vf 1 1) 1 0 (by decide) rfl).2.2 0 ⟨land_ready, rfl, rfl, rfl⟩).2.1 (.inr ⟨1, rfl, rfl, nofun, rfl⟩) (by decide)⟩,
   ⟨_, ((h (chan (bound .run)) (.part 2) 1 0 (by decide) rfl).2.2 0 ⟨land_ready, rfl, rfl, rfl⟩).2.2 (by rintro (x | ⟨v, x, -⟩) <;> cases x)⟩⟩

def fullTally : State := { chan {} 0x1000_0000 with tal := { land.tal with recs := [(0, { refs := 4095 })] } }
def twoHold : State := { referring {} 0x1000_0000 [(.ctx 1 0, .tally 0), (.ctx 1 1, .tally 0)] with tal := {
  land.tal with recs := [(0, { refs := 2 })], refs := [(.ctx 1 0, .tally 0), (.ctx 1 1, .tally 0)] } }
def destroying (refs : List (RefHolder × RefObj)) : State := referring { bound .draining with destroying := true, cmdAp := some 1 } 0 refs

/-- REF, UNREF and DESTROY of channels, tallies and seams with and without what they need; the end of a destruction. -/
theorem meets_References (h : Obligations.ReferencesComplete) :
    (∃ t, exec (.movRef (.part 1)) (chan (bound .run) 0 9) = .next t) ∧
    (∃ t, exec (.movRef (.part 1)) (chan {}) = .next t) ∧
    (∃ t, exec (.movRef (.part 1)) (fullRefs (bound .run)) = .next t) ∧
    (∃ t, exec (.movRef (.part 1)) (chan (bound .run)) = .next t) ∧
    (∃ t, exec (.movUnref (.part 1)) (referring (bound .run) 0 [(.ctx 1 0, .queue 0)]) = .next t) ∧
    (∃ t, exec (.movUnref (.part 1)) (chan (bound .run)) = .next t) ∧
    (∃ t, exec (.movDestroy (.part 1) 0) (chan {}) = .next t) ∧
    (∃ t, exec (.movDestroy (.part 1) 0) (chan (bound .run)) = .next t) ∧
    (∃ t, exec (.movDestroy (.part 1) 0) (referring (bound .run) 0 [(.owner 1 0, .queue 0)]) = .next t) ∧
    (∃ t, exec (.movDestroy (.part 1) 0) (chan (bound .run) 1) = .next t) ∧
    (∃ t, exec (.movDestroy (.part 1) 0) (chan {} 0x1000_0000) = .next t) ∧
    (∃ t, exec (.movDestroy (.part 1) 0) (referring {} 0x1000_0000 [(.ctx 1 0, .tally 0)]) = .next t) ∧
    (∃ t, exec (.movDestroy (.part 1) 0) twoHold = .next t) ∧
    (∃ t, exec (.movRef (.part 1)) (chan {} 0x3000_0000) = .next t) ∧
    (∃ t, exec (.movUnref (.part 2)) land = .next t) ∧
    (∃ t, exec (.movDestroy .lamp 0) (land.cmdBusy .mov 7 0) = .next t) ∧
    (∃ t, exec (.movRef .operator) land = .next t) ∧
    (∃ t, exec (.destroyComplete 0) (destroying [(.owner 1 0, .queue 0)]) = .next t) ∧
    (∃ t, exec (.destroyComplete 0) (destroying [(.owner 1 0, .queue 0), (.ctx 1 1, .queue 0)]) = .next t) :=
  have q (s : State) (r : s.Takes .mov (.part 1)) (o : RefObj) (e : refObj s 1 = some o) (w : s.refOwner o = 1) := (h.1 s (.part 1)).1 1 0 o r (by decide) (by decide) e w (.inl rfl)
  ⟨⟨_, (q (chan (bound .run) 0 9) ⟨land_ready, rfl, rfl, rfl⟩ (.queue 0) rfl rfl).1 rfl⟩,
   ⟨_, (q (chan {}) ⟨land_ready, rfl, rfl, rfl⟩ (.queue 0) rfl rfl).2.1 rfl rfl⟩,
   ⟨_, ((q (fullRefs (bound .run)) ⟨land_ready, rfl, rfl, rfl⟩ (.queue 0) rfl rfl).2.2.1 rfl rfl).1 (fullRefs_full _ _)⟩,
   ⟨_, ((q (chan (bound .run)) ⟨land_ready, rfl, rfl, rfl⟩ (.queue 0) rfl rfl).2.2.1 rfl rfl).2 _ rfl⟩,
   ⟨_, (q (referring (bound .run) 0 [(.ctx 1 0, .queue 0)]) ⟨land_ready, rfl, rfl, rfl⟩ (.queue 0) rfl rfl).2.2.2.1 rfl⟩,
   ⟨_, (q (chan (bound .run)) ⟨land_ready, rfl, rfl, rfl⟩ (.queue 0) rfl rfl).2.2.2.2.1 rfl⟩,
   ⟨_, ((q (chan {}) ⟨land_ready, rfl, rfl, rfl⟩ (.queue 0) rfl rfl).2.2.2.2.2.1 rfl).1 (by decide)⟩,
   ⟨_, ((q (chan (bound .run)) ⟨land_ready, rfl, rfl, rfl⟩ (.queue 0) rfl rfl).2.2.2.2.2.1 rfl).2.1 (by decide) (by decide)⟩,
   ⟨_, ((q (referring (bound .run) 0 [(.owner 1 0, .queue 0)]) ⟨land_ready, rfl, rfl, rfl⟩ (.queue 0) rfl rfl).2.2.2.2.2.1 rfl).2.2 (by decide) (by decide)⟩,
   ⟨_, (q (chan (bound .run) 1) ⟨land_ready, rfl, rfl, rfl⟩ (.queue 1) rfl rfl).2.2.2.2.2.2.1 (.inl ⟨1, rfl, by decide⟩)⟩,
   ⟨_, ((q (chan {} 0x1000_0000) ⟨land_ready, rfl, rfl, rfl⟩ (.tally 0) rfl rfl).2.2.2.2.2.2.2 0 rfl).1 rfl⟩,
   ⟨_, ((q (referring {} 0x1000_0000 [(.ctx 1 0, .tally 0)]) ⟨land_ready, rfl, rfl, rfl⟩ (.tally 0) rfl rfl).2.2.2.2.2.2.2 0 rfl).2.1 rfl rfl⟩,
   ⟨_, ((q twoHold ⟨land_ready, rfl, rfl, rfl⟩ (.tally 0) rfl rfl).2.2.2.2.2.2.2 0 rfl).2.2 rfl (by decide +kernel)⟩,
   ⟨_, ((h.1 (chan {} 0x3000_0000) (.part 1)).2 0 _ (by decide) (by simp)).1 ⟨land_ready, rfl, rfl, rfl⟩ (.inr ⟨1, rfl⟩) rfl⟩,
   ⟨_, ((h.1 land (.part 2)).2 0 _ (by decide) (by simp)).2.1 _ ⟨land_ready, rfl, rfl, rfl⟩ rfl (.inr ⟨2, rfl, by decide⟩)⟩,
   ⟨_, ((h.1 (land.cmdBusy .mov 7 0) .lamp).2 0 _ (by decide) (by simp)).2.2.1 ⟨land_ready, rfl, rfl, rfl⟩ (.inl rfl) rfl⟩,
   ⟨_, ((h.1 land .operator).2 0 _ (by decide) (by simp)).2.2.2 ⟨land_ready, rfl, rfl, rfl⟩ (.inl rfl)⟩,
   ⟨_, (h.2 (destroying [(.owner 1 0, .queue 0)]) 0 rfl (by decide) rfl rfl).1 (by decide +kernel)⟩,
   ⟨_, (h.2 (destroying [(.owner 1 0, .queue 0), (.ctx 1 1, .queue 0)]) 0 rfl (by decide) rfl rfl).2 (by decide +kernel)⟩⟩

def line6 (ok : Bool) : Done := { eng := .mover 0, extTag := 6, ok }
def withDone (d : Done) (s : State) : State := { s with req := { s.req with done := [d] } }
def hostTurn (s : State) : State := { s with hst := { s.hst with up := true }, fab := { s.fab with hostSlot := 1 } }
def moving (addr : Nat) : Chan := { bound .run with moves := [{ task := 0, left := 1, undone := 1, addr }] }
/-- A ring at a device address, the translation of whose page stands so. -/
def devRing (r : Option (Nat × Option Nat)) : Chan := { bound .run with space := true, ring := r }

/-- Descriptors fetched by a MOVE step and from rings in device and in host memory. -/
theorem meets_Fetches (h : Obligations.DescriptorsComplete) :
    (∃ t, exec (.descriptorFetched 0 []) (chan (moving 0x0F0000000000)) = .next t) ∧
    (∃ t, exec (.descriptorFetched 0 []) (withDone (line6 true) (chan (moving 0))) = .next t) ∧
    (∃ t, exec (.descriptorFetched 0 []) (chan (moving 0)) = .next t) ∧
    (∃ t, exec (.descriptorFetched 0 []) (withDone (line6 true) (chan (devRing none))) = .next t) ∧
    (∃ t, exec (.descriptorFetched 0 []) (chan (devRing none)) = .next t) ∧
    (∃ t, exec (.descriptorFetched 0 []) (chan (devRing (some (0, some 0)))) = .next t) ∧
    (∃ t, exec (.descriptorFetched 0 []) (chan (devRing (some (1, some 0)))) = .next t) ∧
    (∃ t, exec (.descriptorFetched 0 (List.replicate 8 0)) (hostTurn (chan (bound .run))) = .next t) :=
  have k (k : Chan) (r : k.state = .run) (l : k.holds < 16) (e : k.part = 1) := (h.1 (chan k) 0 rfl (by decide)).1 [] r l (by rw [State.chanAwake]; rw [show ((chan k).chan 0).part = 1 from e]; rfl)
  ⟨⟨_, ((k (moving 0x0F0000000000) rfl (by decide) rfl).1 _ rfl (by decide)).1 (by decide +kernel)⟩,
   ⟨_, (((h.1 (withDone (line6 true) (chan (moving 0))) 0 rfl (by decide)).1 [] rfl (by decide) rfl).1 _ rfl (by decide)).2.1 _ (by decide +kernel) rfl⟩,
   ⟨_, ((k (moving 0) rfl (by decide) rfl).1 _ rfl (by decide)).2.2 (by decide +kernel) rfl⟩,
   ⟨_, (((h.1 (withDone (line6 true) (chan (devRing none))) 0 rfl (by decide)).1 [] rfl (by decide) rfl).2.1 (by decide) rfl).1 _ rfl⟩,
   ⟨_, (((k (devRing none) rfl (by decide) rfl).2.1 (by decide) rfl).2 rfl).1 rfl⟩,
   ⟨_, (((k (devRing (some (0, some 0))) rfl (by decide) rfl).2.1 (by decide) rfl).2 rfl).2.1 0 0 rfl (by decide)⟩,
   ⟨_, (((k (devRing (some (1, some 0))) rfl (by decide) rfl).2.1 (by decide) rfl).2 rfl).2.2 1 0 rfl (by decide)⟩,
   ⟨_, ((h.1 (hostTurn (chan (bound .run))) 0 rfl (by decide)).1 _ rfl (by decide) rfl).2.2 (by decide) rfl rfl rfl⟩⟩

/-- A descriptor becomes active: its context lost, refused, waiting, and begun. -/
theorem meets_Activation (h : Obligations.DescriptorsComplete) :
    (∃ t, exec (.descriptorActive 0) (chan { bound .run with queue := [{ words := [0x9_0000_0000] }] }) = .next t) ∧
    (∃ t, exec (.descriptorActive 0) (chan { bound .run with queue := [{ bad := 0x1101 }] }) = .next t) ∧
    (∃ t, exec (.descriptorActive 0) (chan { bound .run with queue := [{ bad := 0x6001 }] }) = .next t) ∧
    (∃ t, exec (.descriptorActive 0) (chan { bound .run with queue := [{ words := [0x400_0000_0000_0000] }] }) = .next t) ∧
    (∃ t, exec (.descriptorActive 0) (chan { bound .run with queue := [{}] }) = .next t) :=
  have q (d : Desc) (m : (chan { bound .run with queue := [d] }).movTurn 0 0 = true) := (h.1 (chan { bound .run with queue := [d] }) 0 rfl (by decide)).2.1 d [] rfl rfl rfl m rfl
  ⟨⟨_, (q _ (by decide)).1 (by decide +kernel)⟩,
   ⟨_, ((q _ (by decide)).2 rfl).1 (by decide) (by decide)⟩,
   ⟨_, ((q _ (by decide)).2 rfl).2.1 (by decide) (by decide)⟩,
   ⟨_, ((q _ (by decide)).2 (by decide +kernel)).2.2.1 rfl (by decide +kernel)⟩,
   ⟨_, ((q _ (by decide)).2 rfl).2.2.2 rfl rfl⟩⟩

/-- The hub's answers for a ring and for a descriptor. -/
theorem meets_Translations (h : Obligations.DescriptorsComplete) :
    (∃ t, exec (.translationAnswer 0 false none) (chan (devRing (some (0, none)))) = .next t) ∧
    (∃ t, exec (.translationAnswer 0 false (some 0)) (chan (devRing (some (0, none)))) = .next t) ∧
    (∃ t, exec (.translationAnswer 0 false (some 0x0F0000000000)) (chan (devRing (some (0, none)))) = .next t) ∧
    (∃ t, exec (.translationAnswer 0 true none) (chan (withAct .run { trans := [⟨true, 0, none⟩] })) = .next t) ∧
    (∃ t, exec (.translationAnswer 0 true (some 0)) (chan (withAct .run { trans := [⟨true, 0, none⟩] })) = .next t) ∧
    (∃ t, exec (.translationAnswer 0 true (some 0x2000000000)) (chan (withAct .run { trans := [⟨true, 0, none⟩] })) = .next t) :=
  have r := (h.1 (chan (devRing (some (0, none)))) 0 rfl (by decide)).2.2.1 0 rfl
  have t := (h.1 (chan (withAct .run { trans := [⟨true, 0, none⟩] })) 0 rfl (by decide)).2.2.2.1 _ true _ (.inl rfl) rfl rfl
  ⟨⟨_, r.1⟩,
   ⟨_, (r.2 0).1 (by decide +kernel)⟩,
   ⟨_, (r.2 0x0F0000000000).2 (by decide +kernel)⟩,
   ⟨_, t.1⟩,
   ⟨_, (t.2 0).1 (by decide +kernel)⟩,
   ⟨_, (t.2 0x2000000000).2 (by decide +kernel)⟩⟩

def param (k : Chan) (ok : Bool) : State := withDone { eng := .mover 0, extTag := 4, ok } (chan k)
/-- A finished descriptor that signals a tally of this node or of another. -/
def signals (node : Nat) : Chan :=
  withAct .run { phase := .finished, d := { words := [0x200_0000_0000_0000, 0, 0, 0, BitVec.ofNat 64 (node * 2 ^ 16)] } }

/-- Parameters, completions of the host, ends of descriptors with and without a signal, and records refused. -/
theorem meets_Endings (h : Obligations.DescriptorsComplete) :
    (∃ t, exec (.paramBlockReturn 0) (param (bound .run) true) = .next t) ∧
    (∃ t, exec (.paramBlockReturn 0) (param (withAct .run {}) true) = .next t) ∧
    (∃ t, exec (.paramBlockReturn 0) (param (withAct .run { phase := .param }) true) = .next t) ∧
    (∃ t, exec (.paramBlockReturn 0) (param (withAct .run { phase := .param }) false) = .next t) ∧
    (∃ t, exec (.hostReadCompletion 0 [0] false) (chan (withAct .run { hostRd := [(0, 64, none)] })) = .next t) ∧
    (∃ t, exec (.hostReadCompletion 0 [0] true) (chan (withAct .run { hostRd := [(0, 64, none)] })) = .next t) ∧
    (∃ t, exec (.descriptorFinish 0) (chan (withAct .run { phase := .finished })) = .next t) ∧
    (∃ t, exec (.descriptorFinish 0) (noTag (chan (signals 0))) = .next t) ∧
    (∃ t, exec (.descriptorFinish 0) (chan (signals 0)) = .next t) ∧
    (∃ t, exec (.descriptorFinish 0) (chan (signals 5)) = .next t) ∧
    (∃ t, exec (.recordUndeliverable 0) (chan (bound .orphaned)) = .next t) ∧
    (∃ t, exec (.recordUndeliverable 0) (chan (bound .run)) = .next t) :=
  have d (k : Chan) := h.1 (chan k) 0 rfl (by decide)
  have r := (h.1 (chan (withAct .run { hostRd := [(0, 64, none)] })) 0 rfl (by decide)).2.2.2.2.2.1 _ [0] 0 64 none [] rfl rfl
  ⟨⟨_, ((h.1 (param (bound .run) true) 0 rfl (by decide)).2.2.2.2.1 _ rfl).1 rfl⟩,
   ⟨_, ((h.1 (param (withAct .run {}) true) 0 rfl (by decide)).2.2.2.2.1 _ rfl).2.1 _ rfl (by decide)⟩,
   ⟨_, ((h.1 (param (withAct .run { phase := .param }) true) 0 rfl (by decide)).2.2.2.2.1 _ rfl).2.2.1 _ rfl rfl (by decide)⟩,
   ⟨_, ((h.1 (param (withAct .run { phase := .param }) false) 0 rfl (by decide)).2.2.2.2.1 _ rfl).2.2.2 _ rfl rfl (by decide)⟩,
   ⟨_, r.1⟩,
   ⟨_, r.2 rfl⟩,
   ⟨_, ((d (withAct .run { phase := .finished })).2.2.2.2.2.2.1 _ rfl rfl rfl).1 (by decide)⟩,
   ⟨_, ((h.1 (noTag (chan (signals 0))) 0 rfl (by decide)).2.2.2.2.2.2.1 _ rfl rfl rfl).2.1 (by decide +kernel) (if_pos (.inl (Nat.le_of_eq (List.length_replicate ..).symm)))⟩,
   ⟨_, (((d (signals 0)).2.2.2.2.2.2.1 _ rfl rfl rfl).2.2 _ (by decide +kernel) rfl).1 (by decide +kernel)⟩,
   ⟨_, (((d (signals 5)).2.2.2.2.2.2.1 _ rfl rfl rfl).2.2 _ (by decide +kernel) rfl).2 (by decide +kernel)⟩,
   ⟨_, ((d (bound .orphaned)).2.2.2.2.2.2.2 (by decide)).1 (by decide)⟩,
   ⟨_, ((d (bound .run)).2.2.2.2.2.2.2 (by decide)).2 (by decide)⟩⟩

/-- An ABORT ends with and without a command behind it. -/
theorem meets_AbortDrain (h : Obligations.DescriptorsComplete) :
    (∃ t, exec (.movAbortDrained 0) (chan (bound .draining)) = .next t) ∧
    (∃ t, exec (.movAbortDrained 0) (chan { bound .draining with cmdAp := some 1, abortTo := some 0 }) = .next t) :=
  ⟨⟨_, h.2 (chan (bound .draining)) 0 rfl (by decide) rfl rfl⟩,
   ⟨_, h.2 (chan { bound .draining with cmdAp := some 1, abortTo := some 0 }) 0 rfl (by decide) rfl rfl⟩⟩

/-! ### The host, contexts and migration (13) -/

/-- The same Lease with a confidential partition 1, and the state with it in force, a stream of partition 1, and an open session of its functions. -/
def secretLease : Lease := { lease1 with shapes := lease1.shapes.map fun x => { x with openKind := false } }
def selective : IdeStream := { valid := true, secure := true, owner := 1 }
def secured (tdi : Nat) (x : IdeStream := selective) : State := { land with
  lse := { land.lse with lease := some secretLease }
  hst := { land.hst with tdi := [(1, tdi)], streams := [(0, x)], sess := [{ doe := 1, id := 1, open_ := true, slots := [30] }] } }
theorem secured_ready (tdi : Nat) (x : IdeStream) : (secured tdi x).Ready := ⟨rfl, rfl, rfl⟩

def tlp (fn : Nat) : Tlp := { fn, vf := 0, stream := some 0, ideOk := true, posted := false, toPart := 1, tag := 0 }
theorem not_refused (s : State) (t : s.tdi 1 ≠ 3) (o : (s.stream 0).owner = 1) (c : s.confidential 1 = false ∨ s.underSecure 1 (some 0) = true) :
    ¬ ((1 : Nat) ≠ 0 ∧ (s.tdi 1 = 3 ∨ (∃ k, (some 0 : Option Nat) = some k ∧ (if k < 16 then (s.stream k).owner ≠ 1 else (1 : Nat) ≠ 0)) ∨
      (s.confidential 1 = true ∧ (((1 : Nat) ≠ 0 ∧ (1 : Nat) ≠ 0 ∧ (1 : Nat) ≠ 1) ∨ s.underSecure 1 (some 0) = false)))) := by
  rintro ⟨-, x | ⟨k, x, y⟩ | ⟨x, y | y⟩⟩
  · exact t x
  · cases x; exact y o
  · exact y.2.2 rfl
  · rcases c with c | c
    · rw [c] at x; cases x
    · rw [c] at y; cases y
def bar2 (write : Bool) (mask : Dword) (xlate : Option (BitVec 52) := some 0) : Bar2 :=
  { part := 1, vf := 0, stream := some 0, write, xlate, bytes := List.replicate 64 0, mask, tag := 0 }
def front0 : FrontWait := { queue := 255, part := 1, ctx := 0, fn := 0, node := 0, tally := 0, th := 1 }

/-- TLPs that fail their check, are refused, meet a function in D3cold, and pass. -/
theorem meets_Tlps (h : Obligations.HostTrafficCompletes) :
    (∃ t, exec (.hostTlpReceive { tlp 1 with ideOk := false }) (secured 2) = .next t) ∧
    (∃ t, exec (.hostTlpReceive (tlp 2)) (secured 2) = .next t) ∧
    (∃ t, exec (.hostTlpReceive (tlp 1)) ({ land with hst := { land.hst with power := [(32, 2)], streams := [(0, selective)] } }) = .next t) ∧
    (∃ t, exec (.hostTlpReceive (tlp 1)) (secured 2) = .next t) :=
  have x (tdi : Nat) := (h (secured tdi) (secured_ready _ _)).1
  ⟨⟨_, (x 2 { tlp 1 with ideOk := false }).1 rfl⟩,
   ⟨_, ((x 2 (tlp 2)).2 rfl).1 ⟨by decide, .inr (.inr ⟨rfl, .inl (by decide)⟩)⟩⟩,
   ⟨_, (((h ({ land with hst := { land.hst with power := [(32, 2)], streams := [(0, selective)] } }) land_ready).1 (tlp 1)).2 rfl).2.1 (not_refused _ (by decide) rfl (.inl rfl)) ⟨by decide, .inl rfl⟩⟩,
   ⟨_, ((x 2 (tlp 1)).2 rfl).2.2 (not_refused _ (by decide) rfl (.inr rfl)) fun z => z.2.elim nofun fun z => z.2.2 rfl⟩⟩

/-- BAR2 accesses that wait already, are refused, meet a function in D3cold, a stale context, no or a foreign translation; a read and writes. -/
theorem meets_Bar2 (h : Obligations.HostTrafficCompletes) :
    (∃ t, exec (.bar2Access (bar2 false 0)) ({ land with hst := { land.hst with bwaits := [bar2 false 0] } }) = .next t) ∧
    (∃ t, exec (.bar2Access (bar2 false 0)) (secured 1) = .next t) ∧
    (∃ t, exec (.bar2Access (bar2 false 0)) ({ land with hst := { land.hst with power := [(32, 2)] } }) = .next t) ∧
    (∃ t, exec (.bar2Access { bar2 false 0 with vf := 1 }) (secured 2) = .next t) ∧
    (∃ t, exec (.bar2Access (bar2 false 0 none)) (secured 2) = .next t) ∧
    (∃ t, exec (.bar2Access (bar2 false 0 (some 0x0F0000000000))) (secured 2) = .next t) ∧
    (∃ t, exec (.bar2Access (bar2 false 0)) (secured 2) = .next t) ∧
    (∃ t, exec (.bar2Access (bar2 true 0xFFFF_FFFF_FFFF_FFFF)) (secured 2) = .next t) ∧
    (∃ t, exec (.bar2Access (bar2 true 1)) (secured 2) = .next t) :=
  have b (s : State) (r : s.Ready) (x : Bar2) (e : x.part = 1) := (h s r).2.1 x (by omega) (by omega)
  have k (x : Bar2) (e) := b (secured 2) (secured_ready _ _) x e
  ⟨⟨_, (b ({ land with hst := { land.hst with bwaits := [bar2 false 0] } }) land_ready (bar2 false 0) rfl).1 rfl⟩,
   ⟨_, (b (secured 1) (secured_ready _ _) (bar2 false 0) rfl).2.1 nofun (by decide +kernel)⟩,
   ⟨_, (b ({ land with hst := { land.hst with power := [(32, 2)] } }) land_ready (bar2 false 0) rfl).2.2.1 nofun (by decide +kernel) (by decide +kernel)⟩,
   ⟨_, (k { bar2 false 0 with vf := 1 } rfl).2.2.2.1 nofun (by decide +kernel) (by decide +kernel) (by decide +kernel)⟩,
   ⟨_, (k (bar2 false 0 none) rfl).2.2.2.2.1 nofun (by decide +kernel) (by decide +kernel) (by decide +kernel) rfl⟩,
   ⟨_, ((k (bar2 false 0 (some 0x0F0000000000)) rfl).2.2.2.2.2 _ nofun (by decide +kernel) (by decide +kernel) (by decide +kernel) rfl).1 (by decide +kernel)⟩,
   ⟨_, ((k (bar2 false 0) rfl).2.2.2.2.2 _ nofun (by decide +kernel) (by decide +kernel) (by decide +kernel) rfl).2.1 (by decide +kernel) rfl⟩,
   ⟨_, ((k (bar2 true 0xFFFF_FFFF_FFFF_FFFF) rfl).2.2.2.2.2 _ nofun (by decide +kernel) (by decide +kernel) (by decide +kernel) rfl).2.2.1 (by decide +kernel) rfl rfl rfl⟩,
   ⟨_, ((k (bar2 true 1) rfl).2.2.2.2.2 _ nofun (by decide +kernel) (by decide +kernel) (by decide +kernel) rfl).2.2.2 (by decide +kernel) rfl rfl (by decide)⟩⟩

/-- Waits of front ends, held, stale, and taken; withdrawn. -/
theorem meets_FrontEnds (h : Obligations.HostTrafficCompletes) :
    (∃ t, exec (.frontEndWait front0) ({ land with hst := { land.hst with fwaits := [front0] } }) = .next t) ∧
    (∃ t, exec (.frontEndWait { front0 with fn := 1 }) land = .next t) ∧
    (∃ t, exec (.frontEndWait front0) land = .next t) ∧
    (∃ t, exec (.frontEndWithdraw 9) land = .next t) :=
  ⟨⟨_, ((h ({ land with hst := { land.hst with fwaits := [front0] } }) land_ready).2.2.1 front0 (by decide) (by decide) (by decide)).1 (.inr rfl)⟩,
   ⟨_, ((h land land_ready).2.2.1 { front0 with fn := 1 } (by decide) (by decide) (by decide)).2.1 (by decide) (by decide +kernel)⟩,
   ⟨_, ((h land land_ready).2.2.1 front0 (by decide) (by decide) (by decide)).2.2 (by decide) (by decide +kernel)⟩,
   ⟨_, (h land land_ready).2.2.2 9⟩⟩

def keyed0 : IdeStream := { selective with keys := [((0, 0, 0), 31)] }
def fullSlots (s : State) : State := { s with slots := fullVault }
theorem full_none (s : State) : (fullSlots s).freeSlot [] = none := fullVault_full (fullSlots s) rfl
theorem full_keys (s : State) (fn : Nat) (h : s.freeSlot [] = none) : (s.sessionKeys fn).2 = [] := by
  unfold State.sessionKeys
  generalize hf : List.range 4 = l
  clear hf
  induction l with
  | nil => rfl
  | cons a l ih =>
    rw [List.foldl_cons]
    dsimp only
    rw [h]
    exact ih
def twoSessions : State := { secured 0 with hst := { (secured 0).hst with
  sess := [{ doe := 1, id := 1, open_ := true, slots := [30] }, { doe := 1, id := 2, open_ := true, slots := [31] }] } }

/-- IDE_KM outside a session, and each message with and without what it needs. -/
theorem meets_IdeKm (h : Obligations.SecureSessionsComplete) :
    (∃ t, exec (.ideKmQuery 1 1 0) land = .next t) ∧
    (∃ t, exec (.ideKmKeyProg 1 1 0 0 0 0 0) land = .next t) ∧
    (∃ t, exec (.ideKmKSetGo 1 1 0 0 0 0) land = .next t) ∧
    (∃ t, exec (.ideKmKSetStop 1 1 0 0 0 0) land = .next t) ∧
    (∃ t, exec (.ideKmQuery 1 1 0) (secured 0) = .next t) ∧
    (∃ t, exec (.ideKmKeyProg 1 1 0 1 3 0 0) (secured 0) = .next t) ∧
    (∃ t, exec (.ideKmKeyProg 1 1 0 1 2 0 0) (fullSlots (secured 0)) = .next t) ∧
    (∃ t, exec (.ideKmKeyProg 1 1 0 1 2 0 0) (secured 0) = .next t) ∧
    (∃ t, exec (.ideKmKSetGo 1 1 0 0 0 0) (secured 0) = .next t) ∧
    (∃ t, exec (.ideKmKSetGo 1 1 0 0 0 0) (secured 0 keyed0) = .next t) ∧
    (∃ t, exec (.ideKmKSetStop 1 1 0 0 0 0) (secured 0 keyed0) = .next t) :=
  have g (s : State) (r : s.Ready) (kset sub) := (h s 1 1 0 (by decide)).1 kset sub 0 0 r
  have o (x : IdeStream) (kset sub) (v : x.valid = true) (w : x.owner = 1) := (g (secured 0 x) (secured_ready _ _) kset sub).2 ⟨rfl, by decide, v, w⟩
  have n := (g land land_ready 0 0).1 nofun
  ⟨⟨_, n.1⟩,
   ⟨_, n.2.1⟩,
   ⟨_, n.2.2.1⟩,
   ⟨_, n.2.2.2⟩,
   ⟨_, (o selective 1 2 rfl rfl).1⟩,
   ⟨_, (o selective 1 3 rfl rfl).2.1 (by decide)⟩,
   ⟨_, ((g (fullSlots (secured 0)) ⟨rfl, rfl, rfl⟩ 1 2).2 ⟨rfl, by decide, rfl, rfl⟩).2.2.1 (by decide) (full_none _)⟩,
   ⟨_, (o selective 1 2 rfl rfl).2.2.2.1 _ (by decide) rfl⟩,
   ⟨_, (o selective 0 0 rfl rfl).2.2.2.2.1 rfl⟩,
   ⟨_, (o keyed0 0 0 rfl rfl).2.2.2.2.2.1 rfl⟩,
   ⟨_, (o keyed0 0 0 rfl rfl).2.2.2.2.2.2⟩⟩

/-- Each SPDM request. -/
theorem meets_Spdm (h : Obligations.SecureSessionsComplete) :
    (∃ t, exec (.spdmMessage 1 .getVersion) (secured 0) = .next t) ∧
    (∃ t, exec (.spdmMessage 1 .getCapabilities) (secured 0) = .next t) ∧
    (∃ t, exec (.spdmMessage 1 .negotiateAlgorithms) (secured 0) = .next t) ∧
    (∃ t, exec (.spdmMessage 1 .getDigests) (secured 0) = .next t) ∧
    (∃ t, exec (.spdmMessage 1 (.getCertificate 0)) (secured 0) = .next t) ∧
    (∃ t, exec (.spdmMessage 1 (.challenge 7)) (secured 0) = .next t) ∧
    (∃ t, exec (.spdmMessage 1 (.getMeasurements 5 7)) (secured 0) = .next t) ∧
    (∃ t, exec (.spdmMessage 1 (.keyExchange false)) (secured 0) = .next t) ∧
    (∃ t, exec (.spdmMessage 1 (.keyExchange true)) twoSessions = .next t) ∧
    (∃ t, exec (.spdmMessage 1 (.keyExchange true)) ({ secured 0 with vlt := { (secured 0).vlt with entropy := 3 } }) = .next t) ∧
    (∃ t, exec (.spdmMessage 1 (.keyExchange true)) (fullSlots (secured 0)) = .next t) ∧
    (∃ t, exec (.spdmMessage 1 (.keyExchange true)) (secured 0) = .next t) ∧
    (∃ t, exec (.spdmMessage 1 (.finish 9 true)) (secured 0) = .next t) ∧
    (∃ t, exec (.spdmMessage 1 (.heartbeat 9)) (secured 0) = .next t) ∧
    (∃ t, exec (.spdmMessage 1 (.keyUpdate 9)) (secured 0) = .next t) ∧
    (∃ t, exec (.spdmMessage 1 (.endSession 9)) (secured 0) = .next t) ∧
    (∃ t, exec (.spdmMessage 1 (.finish 1 false)) (secured 0) = .next t) ∧
    (∃ t, exec (.spdmMessage 1 (.finish 1 true)) (secured 0) = .next t) ∧
    (∃ t, exec (.spdmMessage 1 (.heartbeat 1)) (secured 0) = .next t) ∧
    (∃ t, exec (.spdmMessage 1 (.keyUpdate 1)) (secured 0) = .next t) ∧
    (∃ t, exec (.spdmMessage 1 (.endSession 1)) (secured 0) = .next t) ∧
    (∃ t, exec (.spdmMessage 1 (.other 0x7E)) (secured 0) = .next t) :=
  have g (s : State) (a : s.alive = true) (q : s.quiesced = false) := (h s 1 1 0 (by decide)).2.1 a q
  have s0 := g (secured 0) rfl rfl
  have none := s0.2.2.2.2.2.2.2.2.2.2.2.2.1 9 true rfl
  have one := s0.2.2.2.2.2.2.2.2.2.2.2.2.2.1 1 _ rfl
  ⟨⟨_, s0.1⟩,
   ⟨_, s0.2.1⟩,
   ⟨_, s0.2.2.1⟩,
   ⟨_, s0.2.2.2.1⟩,
   ⟨_, s0.2.2.2.2.1 0⟩,
   ⟨_, s0.2.2.2.2.2.1 7⟩,
   ⟨_, s0.2.2.2.2.2.2.1 5 7⟩,
   ⟨_, s0.2.2.2.2.2.2.2.1⟩,
   ⟨_, (g twoSessions rfl rfl).2.2.2.2.2.2.2.2.1 (by decide)⟩,
   ⟨_, (g ({ secured 0 with vlt := { (secured 0).vlt with entropy := 3 } }) rfl rfl).2.2.2.2.2.2.2.2.2.1 (by decide) rfl⟩,
   ⟨_, (g (fullSlots (secured 0)) rfl rfl).2.2.2.2.2.2.2.2.2.2.1 (by decide +kernel) rfl (by rw [full_keys _ _ (full_none _)]; decide)⟩,
   ⟨_, s0.2.2.2.2.2.2.2.2.2.2.2.1 (by decide) rfl (by decide +kernel)⟩,
   ⟨_, none.1⟩,
   ⟨_, none.2.1⟩,
   ⟨_, none.2.2.1⟩,
   ⟨_, none.2.2.2⟩,
   ⟨_, one.1⟩,
   ⟨_, one.2.1⟩,
   ⟨_, one.2.2.1⟩,
   ⟨_, one.2.2.2.1⟩,
   ⟨_, one.2.2.2.2⟩,
   ⟨_, s0.2.2.2.2.2.2.2.2.2.2.2.2.2.2 0x7E⟩⟩

/-- Each TDISP request inside and outside a session, in and out of its state; a write of a locked item. -/
theorem meets_Tdisp (h : Obligations.SecureSessionsComplete) :
    (∃ t, exec (.getTdispVersion 1 1) (secured 0) = .next t) ∧
    (∃ t, exec (.getTdispCapabilities 1 1) (secured 0) = .next t) ∧
    (∃ t, exec (.getDeviceInterfaceState 1 1) (secured 0) = .next t) ∧
    (∃ t, exec (.stopInterfaceRequest 1 1) (secured 2) = .next t) ∧
    (∃ t, exec (.lockInterfaceRequest 1 1) (secured 0) = .next t) ∧
    (∃ t, exec (.lockInterfaceRequest 1 1) (secured 1) = .next t) ∧
    (∃ t, exec (.startInterfaceRequest 1 1) (secured 1) = .next t) ∧
    (∃ t, exec (.startInterfaceRequest 1 1) (secured 0) = .next t) ∧
    (∃ t, exec (.getDeviceInterfaceReport 1 1) (secured 2) = .next t) ∧
    (∃ t, exec (.getDeviceInterfaceReport 1 1) (secured 0) = .next t) ∧
    (∃ t, exec (.getTdispVersion 1 1) land = .next t) ∧
    (∃ t, exec (.stopInterfaceRequest 1 1) land = .next t) ∧
    (∃ t, exec (.configWriteLocked 1) (secured 1) = .next t) ∧
    (∃ t, exec (.configWriteLocked 1) (secured 0) = .next t) :=
  have t (tdi : Nat) := (h (secured tdi) 1 1 0 (by decide)).2.2 (secured_ready _ _) (by decide)
  have o (tdi : Nat) := (t tdi).1 rfl
  have c := ((h land 1 1 0 (by decide)).2.2 land_ready (by decide)).2.1 rfl
  ⟨⟨_, (o 0).1⟩,
   ⟨_, (o 0).2.1⟩,
   ⟨_, (o 0).2.2.1⟩,
   ⟨_, (o 2).2.2.2.1⟩,
   ⟨_, (o 0).2.2.2.2.1 ⟨rfl, rfl⟩⟩,
   ⟨_, (o 1).2.2.2.2.2.1 nofun⟩,
   ⟨_, (o 1).2.2.2.2.2.2.1 rfl⟩,
   ⟨_, (o 0).2.2.2.2.2.2.2.1 (by decide)⟩,
   ⟨_, (o 2).2.2.2.2.2.2.2.2.1 (.inr rfl)⟩,
   ⟨_, (o 0).2.2.2.2.2.2.2.2.2 (by decide)⟩,
   ⟨_, c.1 _ (by simp)⟩,
   ⟨_, c.2 _ (by simp)⟩,
   ⟨_, (t 1).2.2.1 (.inl rfl)⟩,
   ⟨_, (t 0).2.2.2 (by decide)⟩⟩

/-- Partition 1's context table. -/
def ctxs (l : Tab CtxEntry) (retired : List (Nat × Nat × Bool) := []) (loss : List (BitVec 16 × BitVec 16) := []) : State :=
  { land with ctx := { land.ctx with tab := l, retired, loss := [(1, loss)] } }

/-- A table with no entry free. -/
def fullTab (a n : Nat) : Tab CtxEntry := (List.range' a n).map fun i => (i, { state := .active })

theorem fullTab_getD (a n k : Nat) (d : CtxEntry) (h : a ≤ k) (h' : k < a + n) : (fullTab a n).getD k d = { state := .active } := by
  induction n generalizing a with
  | zero => omega
  | succ n ih =>
    by_cases e : a = k
    · subst e; simp [fullTab, List.range'_succ, Tab.getD, Tab.find]
    · have := ih (a + 1) (by omega) (by omega)
      simpa [fullTab, List.range'_succ, Tab.getD, Tab.find, e, Nat.not_lt.mpr h] using this

theorem noneFree : firstFrom (fun i => ((ctxs (fullTab 4096 4096)).ctxAt 1 i).state == .free) 4096 0 = none :=
  none_from _ _ _ fun j _ b => by
    show (((fullTab 4096 4096).getD (1 * 4096 + j) _).state == .free) = false
    rw [fullTab_getD _ _ _ _ (by omega) (by omega)]; rfl

/-- OPEN and RETIRE with each outcome; the end of a RETIRE; the loss queue with and without an entry and from the operator. -/
theorem meets_Contexts (h : Obligations.ContextsComplete) :
    (∃ t, exec (.ctxOpen (.part 1) 3) (ctxs []) = .next t) ∧
    (∃ t, exec (.ctxOpen (.part 1) 2) (ctxs (fullTab 4096 4096)) = .next t) ∧
    (∃ t, exec (.ctxOpen (.part 1) 2) (ctxs []) = .next t) ∧
    (∃ t, exec (.ctxRetire (.part 1) 5) (ctxs [(4101, { state := .lost })]) = .next t) ∧
    (∃ t, exec (.ctxRetire (.part 1) 5) (ctxs []) = .next t) ∧
    (∃ t, exec (.ctxOpen (.part 1) 0) (land.cmdBusy .ctx 1 0) = .next t) ∧
    (∃ t, exec (.ctxRetire .lamp 0) land = .next t) ∧
    (∃ t, exec (.ctxRetireComplete 1 5) (ctxs [(4101, { state := .retiring })] [(1, 5, true)]) = .next t) ∧
    (∃ t, exec (.ctxLossLoRead (.part 1)) (ctxs [] [] [(5, 0x1201)]) = .next t) ∧
    (∃ t, exec (.ctxLossLoRead (.part 1)) (ctxs []) = .next t) ∧
    (∃ t, exec (.ctxLossLoRead .operator) land = .next t) :=
  have c (s : State) (r : s.Takes .ctx (.part 1)) := (h s 1).1 r
  have k (l : Tab CtxEntry) := c (ctxs l) ⟨land_ready, rfl, rfl, rfl⟩
  have r (s : State) (a : s.Reaches (.part 1) .ctx 0x24) := (h s 1).2.2.2 (.part 1) a
  ⟨⟨_, (k _).1 3 (by decide)⟩,
   ⟨_, (k _).2.1 2 (by decide) noneFree⟩,
   ⟨_, (k _).2.2.1 2 0 (by decide) rfl⟩,
   ⟨_, ((k _).2.2.2 5).1 (.inr (by decide))⟩,
   ⟨_, ((k _).2.2.2 5).2 (by decide)⟩,
   ⟨_, ((h (land.cmdBusy .ctx 1 0) 1).2.1 (.part 1) 0 0 _ (by simp) ⟨land_ready, rfl, rfl, rfl⟩).1 rfl rfl⟩,
   ⟨_, ((h land 1).2.1 .lamp 0 0 _ (by simp) ⟨land_ready, rfl, rfl, rfl⟩).2 nofun⟩,
   ⟨_, (h (ctxs [(4101, { state := .retiring })] [(1, 5, true)]) 1).2.2.1 5 _ rfl (by decide) (by decide) (by decide) rfl rfl (fun _ _ => nofun)⟩,
   ⟨_, (r (ctxs [] [] [(5, 0x1201)]) ⟨land_ready, rfl, rfl, rfl⟩).1 5 0x1201 [] rfl rfl⟩,
   ⟨_, (r (ctxs []) ⟨land_ready, rfl, rfl, rfl⟩).2.1 rfl rfl⟩,
   ⟨_, ((h land 1).2.2.2 .operator ⟨land_ready, rfl, rfl, rfl⟩).2.2 nofun⟩⟩

/-- Partition 1's host side, the link up. -/
def host (f : HstSt) : State := { land with hst := { f with up := true } }

/-- Every reset and power event, D3cold of a function in each state, and REMOVE with each outcome. -/
theorem meets_HostResets (h : Obligations.HostResetsComplete) :
    (∃ t, exec (.flr .pf0) land = .next t) ∧
    (∃ t, exec (.flr (.pf 1)) land = .next t) ∧
    (∃ t, exec (.flr (.vf 1 16)) land = .next t) ∧
    (∃ t, exec (.flrDone (.vf 1 2)) (host { flr := [.vf 1 2] }) = .next t) ∧
    (∃ t, exec .surpriseLinkDown (host {}) = .next t) ∧
    (∃ t, exec .hostLinkUp land = .next t) ∧
    (∃ t, exec (.pfD3hot 0) (host {}) = .next t) ∧
    (∃ t, exec (.pfD0 6) (host { power := [(192, 1)] }) = .next t) ∧
    (∃ t, exec (.pfD3cold 1) (host { power := [(32, 1)] }) = .next t) ∧
    (∃ t, exec (.pfD3cold 1) (host { power := [(32, 2)] }) = .next t) ∧
    (∃ t, exec (.d0FromD3cold 1) (host { power := [(32, 2)] }) = .next t) ∧
    (∃ t, exec (.vfPowerState 1 2 1) (host {}) = .next t) ∧
    (∃ t, exec (.removeComplete 1) (host { removing := [(1, 0, 7)] }) = .next t) ∧
    (∃ t, exec (.hstRemove .operator 5) land = .next t) ∧
    (∃ t, exec (.hstRemove .lamp 1) (host { removing := [(1, 0, 7)] }) = .next t) ∧
    (∃ t, exec (.hstRemove .operator 1) (host {}) = .next t) ∧
    (∃ t, exec (.hstRemove (.part 1) 1) land = .next t) ∧
    (∃ t, exec (.hstRemove .operator 1) (land.cmdBusy .hst 0 0) = .next t) ∧
    (∃ t, exec (.hstRemove (.vf 1 1) 1) land = .next t) :=
  have q (s : State) := h s 1 (by decide) (by decide)
  have p (f : HstSt) := (q (host f)).1 rfl
  have m (s : State) (ap : Aperture) := (q s).2 ap
  ⟨⟨_, ((q land).1 rfl).1⟩,
   ⟨_, ((q land).1 rfl).2.1⟩,
   ⟨_, ((q land).1 rfl).2.2.1 16 (by decide) (by decide)⟩,
   ⟨_, (p _).2.2.2.1 (.vf 1 2) rfl (by decide)⟩,
   ⟨_, (p _).2.2.2.2.1⟩,
   ⟨_, ((q land).1 rfl).2.2.2.2.2.1⟩,
   ⟨_, (p _).2.2.2.2.2.2.1 0 (by decide)⟩,
   ⟨_, (p _).2.2.2.2.2.2.2.1 6 (by decide)⟩,
   ⟨_, (p _).2.2.2.2.2.2.2.2.1 (by decide)⟩,
   ⟨_, (p _).2.2.2.2.2.2.2.2.2.1 rfl⟩,
   ⟨_, (p _).2.2.2.2.2.2.2.2.2.2.1⟩,
   ⟨_, (p _).2.2.2.2.2.2.2.2.2.2.2.1 2 1 (by decide) (by decide) (by decide) (by decide)⟩,
   ⟨_, (p _).2.2.2.2.2.2.2.2.2.2.2.2 0 7 rfl⟩,
   ⟨_, ((h land 5 (by decide) (by decide)).2 .operator).1 ⟨land_ready, rfl, rfl, rfl⟩ (.inl rfl) |>.1 rfl⟩,
   ⟨_, ((m (host { removing := [(1, 0, 7)] }) .lamp).1 ⟨land_ready, rfl, rfl, rfl⟩ (.inr rfl)).2.1 rfl rfl⟩,
   ⟨_, ((m (host {}) .operator).1 ⟨land_ready, rfl, rfl, rfl⟩ (.inl rfl)).2.2 rfl nofun⟩,
   ⟨_, (m land (.part 1)).2.1 ⟨land_ready, rfl, rfl, rfl⟩ rfl (.inr ⟨1, rfl⟩)⟩,
   ⟨_, (m (land.cmdBusy .hst 0 0) .operator).2.2.1 ⟨land_ready, rfl, rfl, rfl⟩ nofun rfl⟩,
   ⟨_, (m land (.vf 1 1)).2.2.2 1 1 ⟨land_ready, rfl, rfl, rfl⟩ rfl⟩⟩

/-- A blob of format 2 or 3, and partition 1's instance with the hash of some identity in its arguments. -/
def blob (format : Byte) (sigsOk : Bool := true) : MigBlob :=
  { sigsOk, ssKem := [], ssEcdh := [], head := [format, 0, 0, 0] ++ List.replicate 4428 0 }
def peerRegs (x : BitVec 256) : Tab Word := (List.range 8).map fun i => (0x40 + 4 * i, x.extractLsb' (32 * i) 32)
def mig (f : HstSt) (x : BitVec 256 := 0) : State := { (land.modInst .hst 1 fun i => { i with regs := peerRegs x }) with hst := { f with up := true } }
def fullMig (f : HstSt) (x : BitVec 256) : State := { mig f x with slots := fullVault }

theorem words_sum (x n : Nat) : (List.range n).foldl (fun a i => a + x / 2 ^ (32 * i) % 2 ^ 32 * 2 ^ (32 * i)) 0 = x % 2 ^ (32 * n) := by
  induction n with
  | zero => simp [Nat.mod_one]
  | succ n ih =>
    rw [List.range_succ, List.foldl_append, ih, Nat.mul_succ, Nat.pow_add, Nat.mod_mul, List.foldl_cons, List.foldl_nil, Nat.mul_comm (2 ^ (32 * n))]
theorem peerRegs_get (x : BitVec 256) (i : Nat) (h : i ∈ List.range 8) : (peerRegs x).getD (0x40 + 4 * i) 0 = x.extractLsb' (32 * i) 32 := by
  simp only [List.range_succ, List.range_zero, List.nil_append, List.cons_append, List.mem_cons, List.not_mem_nil, or_false] at h
  rcases h with rfl | rfl | rfl | rfl | rfl | rfl | rfl | rfl <;> rfl
theorem foldl_same (f g : Nat → Nat → Nat) (l : List Nat) (a : Nat) (h : ∀ a, ∀ i ∈ l, f a i = g a i) : l.foldl f a = l.foldl g a := by
  induction l generalizing a with
  | nil => rfl
  | cons i l ih => rw [List.foldl_cons, List.foldl_cons, h a i (.head _)]; exact ih _ fun a j m => h a j (.tail _ m)
theorem peerHash_of (s : State) (x : BitVec 256) (e : (s.inst .hst 1).regs = peerRegs x) : s.peerHash 1 = x := by
  have k := words_sum x.toNat 8
  rw [Nat.mod_eq_of_lt x.isLt] at k
  have z : (List.range 8).foldl (fun n i => n + (s.arg .hst 1 (0x40 + 4 * i)).toNat * 2 ^ (32 * i)) 0 = x.toNat := by
    rw [← k]
    refine foldl_same _ _ _ _ fun a i h => ?_
    rw [State.arg, e, peerRegs_get x i h, BitVec.extractLsb'_toNat, Nat.shiftRight_eq_div_pow]
  rw [State.peerHash, z, BitVec.ofNat_toNat, BitVec.setWidth_eq]
theorem blob_ok (s : State) (f : Byte) (n : Nat) (e : (s.inst .hst 1).regs = peerRegs (blobIdentity (blob f))) (l : s.fuse.lifecycle = 0)
    (w : leAt (blob f).head 0 2 = n) : s.blobCheck 1 n (blob f) = 0 := by
  have k : (blob f).head.length = 4432 := by simp only [blob, List.length_append, List.length_replicate]; rfl
  have z : leAt (blob f).head 3 1 = 0 := by simp [leAt, blob, ofLe, -List.reduceReplicate]
  rw [State.blobCheck, peerHash_of s _ e, w, k, z, l]; simp [blob, -List.reduceReplicate]
theorem mig_none (s : State) (p : Nat) (a b c : List Byte) (e : s.slots = fullVault) : s.installMig p a b c = none := by
  unfold State.installMig; rw [fullVault_full s e]; split <;> rfl
theorem mig_some (s : State) (p : Nat) (a b c : List Byte)
    (e : (if s.freeSlots (reservedSlots s.lease s.lse.shape s.lse.node) = 0 then none else s.freeSlot []).isSome = true) :
    ∃ t n, s.installMig p a b c = some (t, n) := by
  obtain ⟨n, x⟩ := Option.isSome_iff_exists.mp e
  exact ⟨_, n, by rw [State.installMig, x]; rfl⟩

def id2 : BitVec 256 := blobIdentity (blob 2)
def id3 : BitVec 256 := blobIdentity (blob 3)
/-- A pending OFFER that the FINISH blob answers, or not. -/
def offered (answers : Bool) : Tab Offer := [(1, { nonce := if answers then blobNonce (blob 3) else blobNonce (blob 3) + 1, head := [], at_ := 0 })]

/-- DIRTY_ENABLE, DIRTY_DISABLE, and the commands from other apertures, while busy and from a VF. -/
theorem meets_Dirty (h : Obligations.MigrationCompletes) :
    (∃ t, exec (.hstDirtyEnable (.part 1)) (land.modInst .hst 1 fun i => { i with regs := [(0x18, 1)] }) = .next t) ∧
    (∃ t, exec (.hstDirtyEnable (.part 1)) land = .next t) ∧
    (∃ t, exec (.hstDirtyDisable (.part 1)) land = .next t) ∧
    (∃ t, exec (.dirtyEnableDone 1) (host { dirtyPend := [(1, 1)] }) = .next t) ∧
    (∃ t, exec (.migOfferExpire 1) (host { offers := offered true }) = .next t) ∧
    (∃ t, exec (.hstDirtyDisable .lamp) land = .next t) ∧
    (∃ t, exec (.hstMigOffer (.part 1) true) (land.cmdBusy .hst 1 0) = .next t) ∧
    (∃ t, exec (.hstMigFinish (.vf 1 1) none) land = .next t) :=
  have q (s : State) (r : s.Takes .hst (.part 1)) := (h s 1).1 r
  ⟨⟨_, (q (land.modInst .hst 1 fun i => { i with regs := [(0x18, 1)] }) ⟨land_ready, rfl, rfl, rfl⟩).1 (by decide +kernel)⟩,
   ⟨_, (q land ⟨land_ready, rfl, rfl, rfl⟩).2.1 (by decide +kernel)⟩,
   ⟨_, (q land ⟨land_ready, rfl, rfl, rfl⟩).2.2.1⟩,
   ⟨_, ((h (host { dirtyPend := [(1, 1)] }) 1).2.2 rfl (by decide) (by decide)).1 1 rfl⟩,
   ⟨_, ((h (host { offers := offered true }) 1).2.2 rfl (by decide) (by decide)).2⟩,
   ⟨_, ((h land 1).2.1 .lamp true none _ (by simp) ⟨land_ready, rfl, rfl, rfl⟩).1 (.inr (.inl rfl)) rfl⟩,
   ⟨_, ((h (land.cmdBusy .hst 1 0) 1).2.1 (.part 1) true none _ (by simp) ⟨land_ready, rfl, rfl, rfl⟩).2.1 nofun rfl⟩,
   ⟨_, ((h land 1).2.1 (.vf 1 1) true none _ (by simp) ⟨land_ready, rfl, rfl, rfl⟩).2.2 1 1 rfl⟩⟩

/-- MIG_OFFER and MIG_ACCEPT refused by each check, unreachable, unread, and carried out. -/
theorem meets_Offers (h : Obligations.MigrationCompletes) :
    (∃ t, exec (.hstMigOffer (.part 1) true) (mig { offers := offered true }) = .next t) ∧
    (∃ t, exec (.hstMigOffer (.part 1) false) (mig {}) = .next t) ∧
    (∃ t, exec (.hstMigOffer (.part 1) true) (mig {}) = .next t) ∧
    (∃ t, exec (.hstMigAccept (.part 1) none) ({ mig {} with vlt := { land.vlt with entropy := 3 } }) = .next t) ∧
    (∃ t, exec (.hstMigAccept (.part 1) none) land = .next t) ∧
    (∃ t, exec (.hstMigAccept (.part 1) none) (mig {}) = .next t) ∧
    (∃ t, exec (.hstMigAccept (.part 1) (some (blob 3))) (mig {}) = .next t) ∧
    (∃ t, exec (.hstMigAccept (.part 1) (some (blob 2))) (fullMig {} id2) = .next t) ∧
    (∃ t, exec (.hstMigAccept (.part 1) (some (blob 2))) (mig {} id2) = .next t) :=
  have q (s : State) (r : s.Takes .hst (.part 1)) := (h s 1).1 r
  have a (s : State) (r : s.Takes .hst (.part 1)) (c : s.acceptCheck 1 = 0) (e : s.hostReach 1 = true) := (q s r).2.2.2.2.2.2.2.2.1 c e
  ⟨⟨_, (q (mig { offers := offered true }) ⟨land_ready, rfl, rfl, rfl⟩).2.2.2.1 true (by decide +kernel)⟩,
   ⟨_, (q (mig {}) ⟨land_ready, rfl, rfl, rfl⟩).2.2.2.2.1 false rfl (.inl rfl)⟩,
   ⟨_, (q (mig {}) ⟨land_ready, rfl, rfl, rfl⟩).2.2.2.2.2.1 rfl rfl⟩,
   ⟨_, (q ({ mig {} with vlt := { land.vlt with entropy := 3 } }) ⟨land_ready, rfl, rfl, rfl⟩).2.2.2.2.2.2.1 none (by decide +kernel)⟩,
   ⟨_, (q land ⟨land_ready, rfl, rfl, rfl⟩).2.2.2.2.2.2.2.1 none rfl rfl⟩,
   ⟨_, (a (mig {}) ⟨land_ready, rfl, rfl, rfl⟩ rfl rfl).1⟩,
   ⟨_, (a (mig {}) ⟨land_ready, rfl, rfl, rfl⟩ rfl rfl).2.1 (blob 3) (by decide +kernel)⟩,
   ⟨_, ((a (fullMig {} id2) ⟨land_ready, rfl, rfl, rfl⟩ rfl rfl).2.2 (blob 2) (blob_ok _ 2 2 rfl rfl rfl)).1 (mig_none _ _ _ _ _ rfl)⟩,
   (mig_some _ _ _ _ _ (by decide +kernel)).elim fun t e => e.elim fun n e => ⟨_, ((a (mig {} id2) ⟨land_ready, rfl, rfl, rfl⟩ rfl rfl).2.2 (blob 2) (blob_ok _ 2 2 rfl rfl rfl)).2 t n e⟩⟩

/-- MIG_FINISH without an OFFER, refused by each check, unreachable, unread, and carried out. -/
theorem meets_Finishes (h : Obligations.MigrationCompletes) :
    (∃ t, exec (.hstMigFinish (.part 1) none) (mig {}) = .next t) ∧
    (∃ t, exec (.hstMigFinish (.part 1) none) ({ (land.modInst .hst 1 fun i => { i with regs := [(0x10, 4)] }) with hst := { land.hst with offers := offered true } }) = .next t) ∧
    (∃ t, exec (.hstMigFinish (.part 1) none) ({ land with hst := { land.hst with offers := offered true } }) = .next t) ∧
    (∃ t, exec (.hstMigFinish (.part 1) none) (mig { offers := offered true }) = .next t) ∧
    (∃ t, exec (.hstMigFinish (.part 1) (some (blob 3 false))) (mig { offers := offered true }) = .next t) ∧
    (∃ t, exec (.hstMigFinish (.part 1) (some (blob 3))) (mig { offers := offered false } id3) = .next t) ∧
    (∃ t, exec (.hstMigFinish (.part 1) (some (blob 3))) (fullMig { offers := offered true } id3) = .next t) ∧
    (∃ t, exec (.hstMigFinish (.part 1) (some (blob 3))) (mig { offers := offered true } id3) = .next t) :=
  have q (s : State) (r : s.Takes .hst (.part 1)) := (h s 1).1 r
  have f (s : State) (r : s.Takes .hst (.part 1)) (o) (e : s.hst.offers.find 1 = some o) := (q s r).2.2.2.2.2.2.2.2.2.2 o e
  have g (s : State) (r : s.Takes .hst (.part 1)) (o) (e : s.hst.offers.find 1 = some o) (a : s.blobAddrOk 1 = true) (t : s.hostReach 1 = true) := (f s r o e).2.2 a t
  ⟨⟨_, (q (mig {}) ⟨land_ready, rfl, rfl, rfl⟩).2.2.2.2.2.2.2.2.2.1 none rfl⟩,
   ⟨_, (f ({ (land.modInst .hst 1 fun i => { i with regs := [(0x10, 4)] }) with hst := { land.hst with offers := offered true } }) ⟨land_ready, rfl, rfl, rfl⟩ _ rfl).1 none rfl⟩,
   ⟨_, (f ({ land with hst := { land.hst with offers := offered true } }) ⟨land_ready, rfl, rfl, rfl⟩ _ rfl).2.1 none rfl rfl⟩,
   ⟨_, (g (mig { offers := offered true }) ⟨land_ready, rfl, rfl, rfl⟩ _ rfl rfl rfl).1⟩,
   ⟨_, (g (mig { offers := offered true }) ⟨land_ready, rfl, rfl, rfl⟩ _ rfl rfl rfl).2.1 (blob 3 false) (by decide +kernel)⟩,
   ⟨_, (g (mig { offers := offered false } id3) ⟨land_ready, rfl, rfl, rfl⟩ _ rfl rfl rfl).2.2.1 (blob 3) (blob_ok _ 3 3 rfl rfl rfl) (by decide)⟩,
   ⟨_, ((g (fullMig { offers := offered true } id3) ⟨land_ready, rfl, rfl, rfl⟩ _ rfl rfl rfl).2.2.2 (blob 3) (blob_ok _ 3 3 rfl rfl rfl) rfl).1 (mig_none _ _ _ _ _ rfl)⟩,
   (mig_some _ _ _ _ _ (by decide +kernel)).elim fun t e => e.elim fun n e => ⟨_, ((g (mig { offers := offered true } id3) ⟨land_ready, rfl, rfl, rfl⟩ _ rfl rfl rfl).2.2.2 (blob 3) (blob_ok _ 3 3 rfl rfl rfl) rfl).2 t n e⟩⟩

/-! ### Keys, entropy and the life cycle (14) -/

/-- A slot that holds a key in a state. -/
def slot (n : Nat) (st : SlotState) : State := { land with slots := [(n, { state := st })] }

/-- An operation in flight under slot 16. -/
def underKey : State := { slot 16 .retiring with shafts := [(0, { wb := [(5, wb5)] })] }
/-- An UNSEAL that waits for slot 16. -/
def unsealWaits : State := { slot 16 .dead with seams := [(0, { seam0 .sealed with kind := .sealed, busy := true, nextPad := 16 })] }

/-- The engines of the vault in a state. -/
def vault (v : VltSt) : State := { land with vlt := v }

/-- RETIRE, ZEROISE and ORIGIN with each outcome; from other apertures and while busy; the ends of slots. -/
theorem meets_VaultCommands (h : Obligations.VaultCompletes) :
    (∃ t, exec (.vltRetire .lamp 3) land = .next t) ∧
    (∃ t, exec (.vltZeroise .lamp 0) land = .next t) ∧
    (∃ t, exec (.vltRetire .lamp 4) (slot 4 .active) = .next t) ∧
    (∃ t, exec (.vltRetire .lamp 4) (slot 4 .retiring) = .next t) ∧
    (∃ t, exec (.vltZeroise .lamp 4095) (slot 4095 .retiring) = .next t) ∧
    (∃ t, exec (.vltZeroise .lamp 4) land = .next t) ∧
    (∃ t, exec (.vltRetire .operator 16) land = .next t) ∧
    (∃ t, exec (.vltZeroise .operator 16) land = .next t) ∧
    (∃ t, exec (.vltOrigin .operator 16 true) land = .next t) ∧
    (∃ t, exec (.vltOrigin .operator 3 true) (slot 3 .active) = .next t) ∧
    (∃ t, exec (.vltOrigin .operator 4 true) (slot 4 .active) = .next t) ∧
    (∃ t, exec (.vltOrigin .operator 4 true) ({ host {} with slots := [(4, { state := .retiring })] }) = .next t) ∧
    (∃ t, exec (.vltRetire .debug 16) land = .next t) ∧
    (∃ t, exec (.vltOrigin .lamp 16 true) (land.cmdBusy .vlt 7 16) = .next t) ∧
    (∃ t, exec (.vltZeroise (.part 1) 16) land = .next t) ∧
    (∃ t, exec (.slotDead 16) (slot 16 .retiring) = .next t) ∧
    (∃ t, exec (.slotDead 16) underKey = .next t) ∧
    (∃ t, exec (.slotEmpty 16) (slot 16 .dead) = .next t) ∧
    (∃ t, exec (.slotEmpty 16) unsealWaits = .next t) :=
  have l (s : State) (n : Nat) (m : n < 4096) (r : s.Takes .vlt .lamp) := (h.1.1 s .lamp n m).1 r rfl
  have o (s : State) (n : Nat) (m : n < 4096) (r : s.Takes .vlt .operator) (ok : Bool) := (h.1.1 s .operator n m).2.2.1 r (.inl rfl) ok
  have d (s : State) (n : Nat) (m : n < 4096) (a : s.alive = true) := h.1.2 s n a m
  ⟨⟨_, ((l land 3 (by decide) ⟨land_ready, rfl, rfl, rfl⟩).1 (by decide)).1⟩,
   ⟨_, ((l land 0 (by decide) ⟨land_ready, rfl, rfl, rfl⟩).1 (by decide)).2⟩,
   ⟨_, (l (slot 4 .active) 4 (by decide) ⟨land_ready, rfl, rfl, rfl⟩).2.1 (by decide) rfl⟩,
   ⟨_, (l (slot 4 .retiring) 4 (by decide) ⟨land_ready, rfl, rfl, rfl⟩).2.2.1 (by decide) (by decide)⟩,
   ⟨_, (l (slot 4095 .retiring) 4095 (by decide) ⟨land_ready, rfl, rfl, rfl⟩).2.2.2.1 (by decide) (.inr rfl)⟩,
   ⟨_, (l land 4 (by decide) ⟨land_ready, rfl, rfl, rfl⟩).2.2.2.2 (by decide) nofun⟩,
   ⟨_, ((h.1.1 land .operator 16 (by decide)).2.1 ⟨land_ready, rfl, rfl, rfl⟩ rfl).1⟩,
   ⟨_, ((h.1.1 land .operator 16 (by decide)).2.1 ⟨land_ready, rfl, rfl, rfl⟩ rfl).2⟩,
   ⟨_, (o land 16 (by decide) ⟨land_ready, rfl, rfl, rfl⟩ true).1 (.inl rfl)⟩,
   ⟨_, (o (slot 3 .active) 3 (by decide) ⟨land_ready, rfl, rfl, rfl⟩ true).2.1 nofun (by decide)⟩,
   ⟨_, (o (slot 4 .active) 4 (by decide) ⟨land_ready, rfl, rfl, rfl⟩ true).2.2.1 nofun (by decide) (.inr rfl)⟩,
   ⟨_, (o ({ host {} with slots := [(4, { state := .retiring })] }) 4 (by decide) ⟨land_ready, rfl, rfl, rfl⟩ true).2.2.2 nofun (by decide) rfl rfl⟩,
   ⟨_, ((h.1.1 land .debug 16 (by decide)).2.2.2 true _ (by simp) ⟨land_ready, rfl, rfl, rfl⟩).1 rfl rfl⟩,
   ⟨_, ((h.1.1 (land.cmdBusy .vlt 7 16) .lamp 16 (by decide)).2.2.2 true _ (by simp) ⟨land_ready, rfl, rfl, rfl⟩).2.1 (.inr (.inl rfl)) rfl⟩,
   ⟨_, ((h.1.1 land (.part 1) 16 (by decide)).2.2.2 true _ (by simp) ⟨land_ready, rfl, rfl, rfl⟩).2.2 (.inl ⟨1, rfl⟩)⟩,
   ⟨_, (d (slot 16 .retiring) 16 (by decide) rfl).1 rfl rfl⟩,
   ⟨_, (d underKey 16 (by decide) rfl).2.1 rfl rfl⟩,
   ⟨_, ((d (slot 16 .dead) 16 (by decide) rfl).2.2 rfl).1 rfl⟩,
   ⟨_, ((d unsealWaits 16 (by decide) rfl).2.2 rfl).2 0 _ rfl⟩⟩

/-- A job at priority 1 with permutations left, and a unit that works. -/
def job (left bad : Nat) (rest : List ChkJob := []) : State := vault { entropy := 1, running := some 1, jobs := [(1, { left, total := 2, bad } :: rest)] }
def working (u : PkUnit) : State := vault { entropy := 1, pke := [(pkNum u, { busy := true })] }

/-- The DRBG in each state, the entropy source, jobs of the check engine and the public-key units. -/
theorem meets_VaultEngines (h : Obligations.VaultCompletes) :
    (∃ t, exec (.drbgGenerate 512) (vault { entropy := 1 }) = .next t) ∧
    (∃ t, exec (.drbgGenerate 1) (vault { entropy := 2 }) = .next t) ∧
    (∃ t, exec (.drbgGenerate 1) (vault { entropy := 3 }) = .next t) ∧
    (∃ t, exec .drbgReseed (vault { entropy := 1 }) = .next t) ∧
    (∃ t, exec .entropyHealthFail (vault { entropy := 1 }) = .next t) ∧
    (∃ t, exec .entropyStartupPass (vault { entropy := 2, waiting := 3 }) = .next t) ∧
    (∃ t, exec (.checkJobSubmit 3 1) (vault { chkFailed := true }) = .next t) ∧
    (∃ t, exec (.checkJobSubmit 0 9) (vault {}) = .next t) ∧
    (∃ t, exec (.checkPermutation true) (job 1 0) = .next t) ∧
    (∃ t, exec (.checkPermutation true) (job 2 0 [{ left := 9, total := 9 }]) = .next t) ∧
    (∃ t, exec (.checkPermutation false) (job 2 1) = .next t) ∧
    (∃ t, exec (.checkPermutation false) (job 1 0) = .next t) ∧
    (∃ t, exec (.pkeRequest .kem 3) (vault {}) = .next t) ∧
    (∃ t, exec (.pkeComplete .ecdh) (working .ecdh) = .next t) ∧
    (∃ t, exec (.signWindowEnd true false) (working .dsa) = .next t) ∧
    (∃ t, exec (.signWindowEnd false false) (working .dsa) = .next t) ∧
    (∃ t, exec (.signWindowEnd false true) (working .dsa) = .next t) :=
  have v (x : VltSt) := h.2 (vault x) rfl
  have p (left bad : Nat) (rest : List ChkJob) := (h.2 (job left bad rest) rfl).2.2.2.2.2.1 1 _ _ rfl rfl
  have w (u : PkUnit) := h.2 (working u) rfl
  ⟨⟨_, ((v _).1 512 (by decide) (by decide)).1 rfl⟩,
   ⟨_, ((v { entropy := 2 }).1 1 (by decide) (by decide)).2.1 (by decide) (by decide)⟩,
   ⟨_, ((v _).1 1 (by decide) (by decide)).2.2 rfl⟩,
   ⟨_, (v _).2.1 rfl⟩,
   ⟨_, (v { entropy := 1 }).2.2.1 (by decide)⟩,
   ⟨_, (v { entropy := 2, waiting := 3 }).2.2.2.1 (.inr rfl)⟩,
   ⟨_, ((v _).2.2.2.2.1 3 1 (by decide) (by decide)).1 rfl⟩,
   ⟨_, ((v _).2.2.2.2.1 0 9 (by decide) (by decide)).2 rfl⟩,
   ⟨_, (p 1 0 []).1 (by decide)⟩,
   ⟨_, (p 2 0 [{ left := 9, total := 9 }]).2.1 (by decide)⟩,
   ⟨_, (p 2 1 []).2.2.1 (.inl (by decide))⟩,
   ⟨_, (p 1 0 []).2.2.2 (by decide +kernel)⟩,
   ⟨_, (v _).2.2.2.2.2.2.1 .kem 3 (by decide)⟩,
   ⟨_, (w .ecdh).2.2.2.2.2.2.2.1 .ecdh rfl⟩,
   ⟨_, ((w .dsa).2.2.2.2.2.2.2.2 rfl).1 false⟩,
   ⟨_, ((w .dsa).2.2.2.2.2.2.2.2 rfl).2.1⟩,
   ⟨_, ((w .dsa).2.2.2.2.2.2.2.2 rfl).2.2⟩⟩

/-- A request from life-cycle state 2 to state 3, its keys zero, and the fuses of a unit in state 2 whose authority those keys are. -/
def toThree : Transition := { bytes := ([4, 0, 2, 3] ++ List.replicate 60 0 ++ [1]) ++ List.replicate 16319 0, sigsOk := [true] }
def authority : BitVec 384 := signerHash (reqBytes toThree 128 2689)
def inTwo : Fuses := { lifecycle := 2, records := { used := true, valid := true, state := 2, auth := authority } :: List.replicate 7 {} }
def fuses (f : Fuses) : State := { host {} with fuse := f }

theorem toThree_zero (off n : Nat) (h : 65 ≤ off) (x : Byte) (m : x ∈ reqBytes toThree off n) : x = 0 := by
  obtain ⟨k, rfl⟩ := Nat.exists_eq_add_of_le h
  have e := List.mem_of_mem_take m
  rw [← List.drop_drop, show toThree.bytes.drop 65 = List.replicate 16319 0 from List.drop_left' rfl] at e
  exact List.eq_of_mem_replicate (List.mem_of_mem_drop e)
theorem toThree_format : reqFormat toThree = true := by
  have l : toThree.bytes.length = 16384 := by rw [toThree, List.length_append, List.length_replicate]; rfl
  have c : reqCount toThree = 1 := by decide +kernel
  have v : leAt toThree.bytes 0 2 = 4 := by decide +kernel
  simp only [reqFormat, l, v, c, List.all_eq_true, Bool.and_eq_true, beq_iff_eq, Bool.or_eq_true, List.mem_range]
  exact ⟨⟨⟨⟨⟨trivial, trivial⟩, .inl trivial⟩, toThree_zero _ _ (by decide)⟩, toThree_zero _ _ (by decide)⟩,
    fun i _ => ⟨toThree_zero _ _ (by omega), toThree_zero _ _ (by omega)⟩⟩
theorem toThree_ok (s : State) (e : s.fuse = inTwo) : s.transitionCheck toThree = 0 := by
  have c : reqCount toThree = 1 := by decide +kernel
  have a : reqFrom toThree = 2 := by decide +kernel
  have b : reqTo toThree = 3 := by decide +kernel
  have d : leAt toThree.bytes 8 8 = 0 := by decide +kernel
  have n : reqCounter toThree = 0 := by decide +kernel
  have g : inTwo.signers 2 3 = some [authority] := rfl
  have r : reqSigners toThree = [authority] := by rw [reqSigners, c]; rfl
  have z : inTwo.freeRecord = some 1 := rfl
  simp only [State.transitionCheck, e, toThree_format, a, b, d, n, c, g, r, z]
  simp [inTwo, toThree, -List.reduceReplicate]
theorem toThree_late (s : State) (e : s.fuse = { inTwo with lifecycle := 3 }) : s.transitionCheck toThree ≠ 0 := by
  have a : reqFrom toThree = 2 := by decide +kernel
  simp [State.transitionCheck, e, toThree_format, a, -List.reduceReplicate]

/-- State-encoding and memory errors, tampering, a programmed record; transitions and SCRAP with each outcome. -/
theorem meets_LifeCycle (h : Obligations.LifeCycleCompletes) :
    (∃ t, exec .stateEncodingError land = .next t) ∧
    (∃ t, exec (.lampSramUncorr false) land = .next t) ∧
    (∃ t, exec (.lampSramUncorr true) land = .next t) ∧
    (∃ t, exec .transitionProgrammed (fuses { inTwo with prog := some ({ state := 3 }, 0) }) = .next t) ∧
    (∃ t, exec .tamperEvent ({ land with pins := { land.pins with tamper := true } }) = .next t) ∧
    (∃ t, exec .tamperEvent State.reset = .next t) ∧
    (∃ t, exec (.lcsTransition .operator none) ({ land with pins := { land.pins with strap := 2 } }) = .next t) ∧
    (∃ t, exec (.lcsScrap .lamp) ({ land with pins := { land.pins with strap := 2 } }) = .next t) ∧
    (∃ t, exec (.lcsTransition .lamp none) (land.cmdBusy .lcs 7 0) = .next t) ∧
    (∃ t, exec (.lcsScrap .operator) (land.cmdBusy .lcs 0 0) = .next t) ∧
    (∃ t, exec (.lcsTransition .operator none) (land.modInst .lcs 0 fun i => { i with regs := [(0x10, 4)] }) = .next t) ∧
    (∃ t, exec (.lcsTransition .operator none) land = .next t) ∧
    (∃ t, exec (.lcsTransition .operator none) (fuses inTwo) = .next t) ∧
    (∃ t, exec (.lcsTransition .operator (some toThree)) (fuses { inTwo with lifecycle := 3 }) = .next t) ∧
    (∃ t, exec (.lcsTransition .operator (some toThree)) (fuses inTwo) = .next t) ∧
    (∃ t, exec (.lcsScrap .operator) land = .next t) ∧
    (∃ t, exec (.lcsScrap .operator) (fuses { counter := 9 }) = .next t) ∧
    (∃ t, exec (.lcsTransition (.part 1) none) land = .next t) ∧
    (∃ t, exec (.lcsScrap (.part 1)) land = .next t) :=
  have c (s : State) (r : s.Takes .lcs .operator) (e : s.pins.strap.getLsbD 1 = false) (q : Option Transition) := ((h s).2.2.2.1 .operator q (.inl rfl)).2.2 r e
  have k (s : State) := (h s).1
  ⟨⟨_, (k _ rfl).1⟩,
   ⟨_, (k _ rfl).2.1⟩,
   ⟨_, (k _ rfl).2.2.1⟩,
   ⟨_, (k _ rfl).2.2.2 _ 0 rfl⟩,
   ⟨_, (h ({ land with pins := { land.pins with tamper := true } })).2.1 rfl⟩,
   ⟨_, (h State.reset).2.2.1 rfl⟩,
   ⟨_, (((h ({ land with pins := { land.pins with strap := 2 } })).2.2.2.1 .operator none (.inl rfl)).1 ⟨land_ready, rfl, rfl, rfl⟩ rfl).1⟩,
   ⟨_, (((h ({ land with pins := { land.pins with strap := 2 } })).2.2.2.1 .lamp none (.inr rfl)).1 ⟨land_ready, rfl, rfl, rfl⟩ rfl).2⟩,
   ⟨_, (((h (land.cmdBusy .lcs 7 0)).2.2.2.1 .lamp none (.inr rfl)).2.1 ⟨land_ready, rfl, rfl, rfl⟩ rfl).1⟩,
   ⟨_, (((h (land.cmdBusy .lcs 0 0)).2.2.2.1 .operator none (.inl rfl)).2.1 ⟨land_ready, rfl, rfl, rfl⟩ rfl).2⟩,
   ⟨_, (c (land.modInst .lcs 0 fun i => { i with regs := [(0x10, 4)] }) ⟨land_ready, rfl, rfl, rfl⟩ rfl none).1 (by decide +kernel)⟩,
   ⟨_, (c land ⟨land_ready, rfl, rfl, rfl⟩ rfl none).2.1 rfl rfl⟩,
   ⟨_, ((c (fuses inTwo) ⟨land_ready, rfl, rfl, rfl⟩ rfl none).2.2.1 rfl rfl).1 rfl⟩,
   ⟨_, ((c (fuses { inTwo with lifecycle := 3 }) ⟨land_ready, rfl, rfl, rfl⟩ rfl (some toThree)).2.2.1 rfl rfl).2.1 toThree rfl (toThree_late _ rfl)⟩,
   ⟨_, ((c (fuses inTwo) ⟨land_ready, rfl, rfl, rfl⟩ rfl (some toThree)).2.2.1 rfl rfl).2.2 toThree rfl (toThree_ok _ rfl)⟩,
   ⟨_, (c land ⟨land_ready, rfl, rfl, rfl⟩ rfl none).2.2.2.1 (by decide +kernel)⟩,
   ⟨_, (c (fuses { counter := 9 }) ⟨land_ready, rfl, rfl, rfl⟩ rfl none).2.2.2.2 (by decide +kernel)⟩,
   ⟨_, ((h land).2.2.2.2 (.part 1) none ⟨land_ready, rfl, rfl, rfl⟩ (.inl ⟨1, rfl⟩)).1⟩,
   ⟨_, ((h land).2.2.2.2 (.part 1) none ⟨land_ready, rfl, rfl, rfl⟩ (.inl ⟨1, rfl⟩)).2⟩⟩

/-! ### Starts, orders and moves (15) -/

/-- What a start finds when everything passes, without a Lease in the NOR. -/
def inputs : StartInputs := { fuseOk := true, unitId := 0, identity := 0, bist := [], failedQuads := [], katOk := true, entropyOk := true, strap := 0
                              scrapped := false, nor := none, sigOk := true }

/-- The block while it starts, in a state and step. -/
def starting (state step : Nat) : State := { ready with glb := { ready.glb with state, step } }

/-- An image with no partition: the eight sections, a topology of one node, the policies and an empty firmware. -/
def entry (t off len : Nat) : List Byte := leBytes 2 t ++ leBytes 2 0 ++ leBytes 4 off ++ leBytes 4 len ++ leBytes 4 0
def image : List Byte :=
  leBytes 4 0x45534C58 ++ leBytes 2 1 ++ leBytes 2 8 ++ leBytes 4 448 ++ leBytes 4 0 ++ List.replicate 48 0 ++
  entry 1 192 0 ++ entry 2 192 0 ++ entry 3 192 64 ++ entry 4 192 0 ++ entry 5 256 104 ++ entry 6 192 0 ++ entry 7 192 0 ++ entry 8 384 8 ++
  [0, 0, 0, 8] ++ leBytes 2 1 ++ leBytes 2 1 ++ leBytes 2 300 ++ leBytes 2 0 ++ [0, 0xFF, 0xFF, 0xFF] ++
  List.replicate 12 0 ++ [1] ++ List.replicate 35 0 ++ List.replicate 192 0

/-- HELD, entered by a cold or by a warm start, the image's configuration digest in force or not. -/
def heldCold : State := starting 2 8
def heldWarm (same : Bool) : State :=
  { heldCold with
    lse := { heldCold.lse with heldWarm := true }
    fab := { heldCold.fab with digest := if same then configDigest image (readLease image) else 0 } }
theorem image_admitted : admitImage image (((heldCold.enterStep 8).digestOf image).admitEnv true (leaseSigner image)) = none := by decide +kernel
theorem warmNor_same (s : State) (b : List Byte) (sig : Bool) (e : configDigest b (readLease b) = s.fab.digest)
    (a : admitImage b (s.admitEnv sig (leaseSigner b)) = none) : (s.warmNor (some b) sig).2 = none := by
  unfold State.warmNor
  dsimp only
  rw [a]
  exact congrArg Prod.snd (if_pos e)
theorem warm_admitted : (((heldWarm true).enterStep 8).warmNor (some image) true).2 = none :=
  warmNor_same _ _ _ rfl (by decide +kernel)

/-- Power-on, each way a start can stop, step 11 and step 13. -/
theorem meets_ColdStart (h : Obligations.ColdStartCompletes) :
    (∃ t, exec .porAssert ready = .next t) ∧
    (∃ t, exec (.porRelease inputs) ready = .next t) ∧
    (∃ t, exec (.porRelease inputs) ({ State.reset with pins := { State.reset.pins with tamper := true } }) = .next t) ∧
    (∃ t, exec (.porRelease { inputs with fuseOk := false }) State.reset = .next t) ∧
    (∃ t, exec (.porRelease { inputs with failedQuads := [0] }) State.reset = .next t) ∧
    (∃ t, exec (.porRelease { inputs with katOk := false }) State.reset = .next t) ∧
    (∃ t, exec (.porRelease { inputs with entropyOk := false }) State.reset = .next t) ∧
    (∃ t, exec (.porRelease inputs) State.reset = .next t) ∧
    (∃ t, exec (.porRelease { inputs with scrapped := true }) State.reset = .next t) ∧
    (∃ t, exec .memTrained ({ starting 0 11 with lse := { ready.lse with halted := true } }) = .next t) ∧
    (∃ t, exec .memTrained (starting 0 11) = .next t) ∧
    (∃ t, exec .memTrained (starting 0 9) = .next t) ∧
    (∃ t, exec .hubTrainingTimeout (starting 0 11) = .next t) ∧
    (∃ t, exec .hubTrainingTimeout (starting 0 9) = .next t) ∧
    (∃ t, exec .step13Timeout ({ starting 1 13 with lse := { ready.lse with lease := some { lease1 with topo := { listed := 2, nodes := [{ node := 0 }, { node := 1 }] } } } }) = .next t) ∧
    (∃ t, exec .step13Timeout (starting 1 12) = .next t) :=
  have p (i : StartInputs) := (h State.reset).2.1 i
  have q (i : StartInputs) := (p i).2.2 rfl rfl
  ⟨⟨_, (h ready).1⟩,
   ⟨_, ((h ready).2.1 inputs).1 rfl⟩,
   ⟨_, ((h ({ State.reset with pins := { State.reset.pins with tamper := true } })).2.1 inputs).2.1 rfl rfl⟩,
   ⟨_, (q { inputs with fuseOk := false }).1 rfl⟩,
   ⟨_, (q { inputs with failedQuads := [0] }).2.1 rfl rfl⟩,
   ⟨_, ((q { inputs with katOk := false }).2.2 rfl rfl).1 rfl⟩,
   ⟨_, ((q { inputs with entropyOk := false }).2.2 rfl rfl).2.1 rfl rfl⟩,
   ⟨_, ((q inputs).2.2 rfl rfl).2.2.1 rfl rfl (by decide +kernel)⟩,
   ⟨_, ((q { inputs with scrapped := true }).2.2 rfl rfl).2.2.2 rfl rfl (by decide +kernel)⟩,
   ⟨_, (h ({ starting 0 11 with lse := { ready.lse with halted := true } })).2.2.1.1 rfl⟩,
   ⟨_, (h (starting 0 11)).2.2.1.2.1 rfl (by decide +kernel)⟩,
   ⟨_, (h (starting 0 9)).2.2.1.2.2 rfl (by decide +kernel)⟩,
   ⟨_, ((h (starting 0 11)).2.2.2.1 rfl).1 (by decide +kernel)⟩,
   ⟨_, ((h (starting 0 9)).2.2.2.1 rfl).2.1 (by decide +kernel)⟩,
   ⟨_, ((h ({ starting 1 13 with lse := { ready.lse with lease := some { lease1 with topo := { listed := 2, nodes := [{ node := 0 }, { node := 1 }] } } } })).2.2.2.1 rfl).2.2.1 (by decide +kernel)⟩,
   ⟨_, ((h (starting 1 12)).2.2.2.1 rfl).2.2.2 (by decide +kernel)⟩⟩

/-- RELOAD outside HELD, after a cold and after a warm start, from other apertures and while busy. -/
theorem meets_Reloads (h : Obligations.ColdStartCompletes) :
    (∃ t, exec (.lseReload .operator none true 0) ready = .next t) ∧
    (∃ t, exec (.lseReload .operator none true 0) heldCold = .next t) ∧
    (∃ t, exec (.lseReload .operator (some image) true 0) heldCold = .next t) ∧
    (∃ t, exec (.lseReload .operator (some []) true 0) heldCold = .next t) ∧
    (∃ t, exec (.lseReload .operator none true 0) (heldWarm false) = .next t) ∧
    (∃ t, exec (.lseReload .operator (some image) true 0) (heldWarm true) = .next t) ∧
    (∃ t, exec (.lseReload .debug none true 0) ready = .next t) ∧
    (∃ t, exec (.lseReload .operator none true 0) (ready.cmdBusy .lse 0 0) = .next t) ∧
    (∃ t, exec (.lseReload (.part 1) none true 0) land = .next t) :=
  have o (s : State) (nor) (a : s.alive = true) (b : (s.inst .lse 0).busy = false) := ((h s).2.2.2.2 .operator nor true 0).1 a (.inl rfl) b
  ⟨⟨_, (o ready none rfl rfl).1 (by decide)⟩,
   ⟨_, ((o heldCold none rfl rfl).2.1 rfl rfl).1 rfl⟩,
   ⟨_, ((o heldCold (some image) rfl rfl).2.1 rfl rfl).2 image rfl |>.1 image_admitted⟩,
   ⟨_, ((o heldCold (some []) rfl rfl).2.1 rfl rfl).2 [] rfl |>.2 _ (Option.eq_some_of_isSome (by decide +kernel))⟩,
   ⟨_, ((o (heldWarm false) none rfl rfl).2.2 rfl rfl).1 _ rfl⟩,
   ⟨_, ((o (heldWarm true) (some image) rfl rfl).2.2 rfl rfl).2 warm_admitted⟩,
   ⟨_, ((h ready).2.2.2.2 .debug none true 0).2.1 ⟨ready_ready, rfl, rfl, rfl⟩ rfl rfl⟩,
   ⟨_, ((h (ready.cmdBusy .lse 0 0)).2.2.2.2 .operator none true 0).2.2.1 ⟨ready_ready, rfl, rfl, rfl⟩ nofun nofun rfl⟩,
   ⟨_, ((h land).2.2.2.2 (.part 1) none true 0).2.2.2 ⟨land_ready, rfl, rfl, rfl⟩ (.inl ⟨1, rfl⟩)⟩⟩

/-- RUN with dg_chip_rst_n asserted. -/
def quiet (p : Pins) : State := { ready with pins := { p with chipRst := true } }
def warmInputs : WarmInputs := { failedQuads := [], katOk := true, entropyOk := true, leaseCopy := .clean, nor := none, sigOk := true, step11Ok := true }
def move0 : MoveReq := { kind := 0, idx := 3, owner := 1, xfer := false }

/-- The reset pins with and without protected work and a block clock, power of quadrants, the clock monitor. -/
theorem meets_WarmStartCompletes (h : Obligations.WarmStartCompletes) :
    (∃ t, exec .chipResetAssert ready = .next t) ∧
    (∃ t, exec .rstReadyAssert (quiet ready.pins) = .next t) ∧
    (∃ t, exec .rstReadyAssert ready = .next t) ∧
    (∃ t, exec (.chipResetRelease warmInputs) (quiet { ready.pins with rstReady := true }) = .next t) ∧
    (∃ t, exec (.chipResetRelease warmInputs) ({ quiet { ready.pins with rstReady := true } with clk := { ready.clk with lost := true } }) = .next t) ∧
    (∃ t, exec (.chipResetRelease warmInputs) ready = .next t) ∧
    (∃ t, exec (.clockMonitorFault true) ready = .next t) ∧
    (∃ t, exec .clockRestored ready = .next t) ∧
    (∃ t, exec (.qpwrOkRise 0) ready = .next t) ∧
    (∃ t, exec (.qpwrOkFall 0) ready = .next t) ∧
    (∃ t, exec (.qpwrOkRise 3) ready = .next t) ∧
    (∃ t, exec (.qpwrOkRise 1) ({ ready with lse := { ready.lse with move := some move0 } }) = .next t) ∧
    (∃ t, exec (.qpwrOkRise 2) ({ ready with lse := { ready.lse with move := some move0 } }) = .next t) ∧
    (∃ t, exec (.qpwrOkFall 1) ({ ready with pins := { ready.pins with qpwrOff := 2 } }) = .next t) ∧
    (∃ t, exec (.qpwrOkFall 1) ready = .next t) :=
  have a (s : State) (e : s.alive = true) := (h s).1 e
  have q (s : State) (k) (l : 1 ≤ k) (m : k ≤ 3) := (h s).2.2 k l m
  ⟨⟨_, (a ready rfl).1⟩,
   ⟨_, (a (quiet ready.pins) rfl).2.1 rfl rfl⟩,
   ⟨_, (a ready rfl).2.2.1 (.inl rfl)⟩,
   ⟨_, ((a (quiet { ready.pins with rstReady := true }) rfl).2.2.2.1 warmInputs).1 (.inr ⟨rfl, rfl⟩) rfl⟩,
   ⟨_, ((a ({ quiet { ready.pins with rstReady := true } with clk := { ready.clk with lost := true } }) rfl).2.2.2.1 warmInputs).2.1 (.inr ⟨rfl, rfl⟩) rfl⟩,
   ⟨_, ((a ready rfl).2.2.2.1 warmInputs).2.2 (by decide +kernel)⟩,
   ⟨_, (a ready rfl).2.2.2.2.1 true⟩,
   ⟨_, (a ready rfl).2.2.2.2.2⟩,
   ⟨_, (h ready).2.1.1⟩,
   ⟨_, (h ready).2.1.2⟩,
   ⟨_, (q ready 3 (by decide) (by decide)).1 rfl⟩,
   ⟨_, ((q ({ ready with lse := { ready.lse with move := some move0 } }) 1 (by decide) (by decide)).2.1 move0 rfl).1 ⟨rfl, rfl⟩⟩,
   ⟨_, ((q ({ ready with lse := { ready.lse with move := some move0 } }) 2 (by decide) (by decide)).2.1 move0 rfl).2 (by decide +kernel)⟩,
   ⟨_, (q ({ ready with pins := { ready.pins with qpwrOff := 2 } }) 1 (by decide) (by decide)).2.2.1 (.inl rfl)⟩,
   ⟨_, (q ready 1 (by decide) (by decide)).2.2.2 rfl rfl⟩⟩

/-- One order, with the block time valid, and a rotation under way. -/
def ordered (o : Order) : State := { land with lse := { land.lse with orders := [o] } }
def rotates (o : Order) : State := { ordered o with fab := { land.fab with nextGen := some (1, 0) } }

/-- A Lease of two partitions, the second of which may be given channel 0. -/
def shape2 (p : Nat) (stackSet : BitVec 16) (sites : BitVec 8) (chans : BitVec 32) (areas : List (List Nat)) (reserve : List Nat) : Shape :=
  { part := p, stackSet, sites, channels := chans, reserve, areas, movCycles := [4, 4, 4, 4] }
def lease2 : Lease := {
  signedLen := 256
  shapes := [shape2 1 3 1 1 [[4, 0, 0, 0, 0, 0, 0], [4, 0, 0, 0, 0, 0, 0]] [4, 4], shape2 2 0xC 2 2 [[], [], [4, 0, 0, 0, 0, 0, 0], [4, 0, 0, 0, 0, 0, 0]] [0, 0, 4, 4]]
  topo := { listed := 1, minMembers := 1, foreman := [0], nodes := [{ parts := 1 }] }
  policies := { moveChannel := [2], moveStack := [0, 0] } }

/-- That Lease in force, and MOVE of channel 0 to partition 2 or 3 asked for by the Lamp. -/
def asked2 (l : Lease) (dest : Nat) : State :=
  { (land.modInst .lse 7 fun i => { i with regs := [(0x18, BitVec.ofNat 32 (0x300 + dest * 4096))] }) with lse := { land.lse with lease := some l } }

/-- Orders that are not due, late, still running and carried out; MOVE from each aperture and with each outcome. -/
theorem meets_OrdersAndMovesComplete (h : Obligations.OrdersAndMovesComplete) :
    (∃ t, exec (.shiftOrderDue 255) land = .next t) ∧
    (∃ t, exec (.shiftOrderDue 0) (rotates { action := 3, state := 2, rep := true }) = .next t) ∧
    (∃ t, exec (.shiftOrderDue 0) (rotates { action := 3, state := 2 }) = .next t) ∧
    (∃ t, exec (.shiftOrderDue 0) (ordered { action := 3, state := 1 }) = .next t) ∧
    (∃ t, exec (.rotateFlowPrepare 0) (ordered { action := 2, state := 2 }) = .next t) ∧
    (∃ t, exec (.lseMove .operator) land = .next t) ∧
    (∃ t, exec (.lseMove .lamp) (land.cmdBusy .lse 7 0) = .next t) ∧
    (∃ t, exec (.lseMove (.part 1)) land = .next t) ∧
    (∃ t, exec (.lseMove .lamp) (starting 2 9) = .next t) ∧
    (∃ t, exec (.lseMove .lamp) (asked2 lease2 3) = .next t) ∧
    (∃ t, exec (.lseMove .lamp) (asked2 { lease2 with policies := {} } 2) = .next t) ∧
    (∃ t, exec (.lseMove .lamp) (asked2 { lease2 with topo := {} } 2) = .next t) ∧
    (∃ t, exec (.lseMove .lamp) (asked2 lease2 2) = .next t) :=
  have o (s : State) (k) (e : s.alive = true) (l : k < 256) := (h s).1 k e l
  have m (ap : Aperture) := (h land).2 ap
  have r (l : Lease) (d : Nat) := ((h (asked2 l d)).2 .lamp).2.2.2.2 ⟨land_ready, rfl, rfl, rfl⟩ rfl
  ⟨⟨_, (o land 255 rfl (by decide)).1 (by decide +kernel)⟩,
   ⟨_, (o (rotates { action := 3, state := 2, rep := true }) 0 rfl (by decide)).2.1 (by decide +kernel) (by decide +kernel) rfl⟩,
   ⟨_, (o (rotates { action := 3, state := 2 }) 0 rfl (by decide)).2.2.1 (by decide +kernel) (by decide +kernel) rfl⟩,
   ⟨_, (o (ordered { action := 3, state := 1 }) 0 rfl (by decide)).2.2.2.1 (by decide +kernel) (by decide +kernel)⟩,
   ⟨_, (o (ordered { action := 2, state := 2 }) 0 rfl (by decide)).2.2.2.2 rfl (.inr rfl) rfl⟩,
   ⟨_, (m .operator).1 ⟨land_ready, rfl, rfl, rfl⟩ rfl (.inl rfl)⟩,
   ⟨_, ((h (land.cmdBusy .lse 7 0)).2 .lamp).2.1 ⟨land_ready, rfl, rfl, rfl⟩ nofun nofun rfl⟩,
   ⟨_, (m (.part 1)).2.2.1 ⟨land_ready, rfl, rfl, rfl⟩ (.inl ⟨1, rfl⟩)⟩,
   ⟨_, ((h (starting 2 9)).2 .lamp).2.2.2.1 rfl rfl rfl rfl⟩,
   ⟨_, (r lease2 3).1 (by decide +kernel)⟩,
   ⟨_, (r { lease2 with policies := {} } 2).2.1 (by decide +kernel) (by decide +kernel)⟩,
   ⟨_, (r { lease2 with topo := {} } 2).2.2.1 _ (by decide +kernel) (Option.eq_some_of_isSome (by decide +kernel))⟩,
   ⟨_, (r lease2 2).2.2.2.1 (by decide +kernel) (by decide +kernel) rfl⟩⟩

/-! ### Faults and canaries (16) -/

/-- The canary of waits is set to a period or not, with requests outstanding. -/
def canary (r : List Req := []) (p : Nat := 5) : State := { land with flt := { land.flt with canWait := p }, req := { land.req with out := r } }
def frontReq9 : Req := { tag := 1, node := 0, eng := .front 9, op := { kind := 3, opcode := 3, part := 1, ctx := some 0 } }
def movWait : Req := { tag := 1, node := 0, eng := .mover 0, op := { kind := 3, opcode := 3, part := 1, ctx := some 0 }, extTag := 3 }
def chanWaits (p : Nat := 5) : State :=
  { canary [movWait] p with mov := { chans := [(0, { state := .run, part := 1, act := some { phase := .waiting } })] } }

/-- A task with its state, and an engine step on shaft 0. -/
def taskIn (k : Task) (p : Nat := 5) : State := { canary [] p with wnd := { tasks := [(0, { k with part := 1 })] } }
def stepping (e : EngStep) : State := { land with flt := { land.flt with eng := [e] } }
/-- A partition step on partition 1, and a chip step. -/
def partStepping (e : PartStep) : State := { land with flt := { land.flt with parts := [e] } }
def chipStepping : State := { land with flt := { land.flt with chip := true } }

/-- Waits of each kind with the canary on and off, busy units, a replay, the watchdog and its kicks. -/
theorem meets_CanariesComplete (h : Obligations.CanariesComplete) :
    (∃ t, exec (.waitCanaryExpire (.front 9)) (canary [frontReq9]) = .next t) ∧
    (∃ t, exec (.waitCanaryExpire (.front 9)) (canary [frontReq9] 0) = .next t) ∧
    (∃ t, exec (.waitCanaryExpire (.channel 0)) chanWaits = .next t) ∧
    (∃ t, exec (.waitCanaryExpire (.channel 0)) (chanWaits 0) = .next t) ∧
    (∃ t, exec (.waitCanaryExpire (.task 0)) (taskIn { state := .blocked, block := 2 }) = .next t) ∧
    (∃ t, exec (.waitCanaryExpire (.task 0)) (taskIn { state := .blocked, block := 1 } 0) = .next t) ∧
    (∃ t, exec (.busyCanaryExpire (.task 0)) (taskIn { state := .ready }) = .next t) ∧
    (∃ t, exec (.busyCanaryExpire (.shaft 0)) land = .next t) ∧
    (∃ t, exec (.replayCanaryExpire (.shaft 0)) (stepping { unit := .shaft 0, part := 1, suspects := [0] }) = .next t) ∧
    (∃ t, exec (.replayCanaryExpire (.shaft 0)) (stepping { unit := .shaft 0, part := 1, phase := 1 }) = .next t) ∧
    (∃ t, exec .lampWatchdogExpire ({ land with flt := { land.flt with watchdog := true } }) = .next t) ∧
    (∃ t, exec .lampWatchdogExpire land = .next t) ∧
    (∃ t, exec (.fltKick .lamp) land = .next t) ∧
    (∃ t, exec (.fltKick .operator) land = .next t) ∧
    (∃ t, exec (.fltKick (.part 1)) land = .next t) :=
  have f (s : State) (a : s.alive = true) := (h s a).1 9 frontReq9 0
  have c (s : State) (a : s.alive = true) := (h s a).2.1 0 _ movWait (by decide)
  have t (s : State) (a : s.alive = true) := (h s a).2.2.1 0 (by decide)
  ⟨⟨_, (f (canary [frontReq9]) rfl rfl rfl).1 rfl⟩,
   ⟨_, (f (canary [frontReq9] 0) rfl rfl rfl).2 nofun⟩,
   ⟨_, (c chanWaits rfl rfl rfl rfl).1 rfl⟩,
   ⟨_, (c (chanWaits 0) rfl rfl rfl rfl).2 nofun⟩,
   ⟨_, (t (taskIn { state := .blocked, block := 2 }) rfl rfl (.inr rfl)).1 rfl⟩,
   ⟨_, (t (taskIn { state := .blocked, block := 1 } 0) rfl rfl (.inl rfl)).2 nofun⟩,
   ⟨_, ((h (taskIn { state := .ready }) rfl).2.2.2.1 (.task 0) (by decide)).1 (by decide +kernel)⟩,
   ⟨_, ((h land rfl).2.2.2.1 (.shaft 0) (by decide)).2 (by decide +kernel)⟩,
   (((h (stepping { unit := .shaft 0, part := 1, suspects := [0] }) rfl).2.2.2.2.1 (.shaft 0) _ (by decide) rfl).1 (by decide)).elim fun _ x => ⟨_, x.2⟩,
   ⟨_, ((h (stepping { unit := .shaft 0, part := 1, phase := 1 }) rfl).2.2.2.2.1 (.shaft 0) _ (by decide) rfl).2 (by decide)⟩,
   ⟨_, (h ({ land with flt := { land.flt with watchdog := true } }) rfl).2.2.2.2.2.1 rfl⟩,
   ⟨_, (h land rfl).2.2.2.2.2.2.1 rfl⟩,
   ⟨_, (h land rfl).2.2.2.2.2.2.2.1⟩,
   ⟨_, (h land rfl).2.2.2.2.2.2.2.2.1 .operator (.inl rfl)⟩,
   ⟨_, (h land rfl).2.2.2.2.2.2.2.2.2 (.part 1) ⟨land_ready, rfl, rfl, rfl⟩ (.inl ⟨1, rfl⟩)⟩⟩

/-- Engine, partition and chip steps that end and that overrun. -/
theorem meets_Steps (h : Obligations.LadderCompletes) :
    (∃ t, exec (.engineStepDone (.shaft 0)) (stepping { unit := .shaft 0, part := 1 }) = .next t) ∧
    (∃ t, exec (.engineStepDone (.face 7)) (stepping { unit := .face 7, phase := 1, byCmd := some 7 }) = .next t) ∧
    (∃ t, exec (.engineStepOverrun (.shaft 11)) (stepping { unit := .shaft 11 }) = .next t) ∧
    (∃ t, exec (.engineStepOverrun (.shaft 0)) (stepping { unit := .shaft 0, part := 1 }) = .next t) ∧
    (∃ t, exec (.partitionStepDone 1) (partStepping { part := 1, begun := true, byCmd := some 0 }) = .next t) ∧
    (∃ t, exec (.partitionStepDone 1) (partStepping { part := 1 }) = .next t) ∧
    (∃ t, exec (.partitionStepOverrun 1) (partStepping { part := 1 }) = .next t) ∧
    (∃ t, exec (.partitionStepDone 1) land = .next t) ∧
    (∃ t, exec (.partitionStepOverrun 1) land = .next t) ∧
    (∃ t, exec .chipStepOverrun chipStepping = .next t) ∧
    (∃ t, exec .chipStepOverrun land = .next t) :=
  have e (u : UnitRef) (x : EngStep) (k : unitExists u = true) := (h (stepping x)).1 u x rfl k
  have p (s : State) (a : s.alive = true) := (h s).2.1 1 a (by decide) (by decide)
  ⟨⟨_, (e (.shaft 0) { unit := .shaft 0, part := 1 } (by decide) rfl).1 rfl⟩,
   ⟨_, (e (.face 7) { unit := .face 7, phase := 1, byCmd := some 7 } (by decide) rfl).2.1 (by decide)⟩,
   ⟨_, (e (.shaft 11) { unit := .shaft 11 } (by decide) rfl).2.2.1 rfl⟩,
   ⟨_, (e (.shaft 0) { unit := .shaft 0, part := 1 } (by decide) rfl).2.2.2 (by decide)⟩,
   ⟨_, ((p (partStepping { part := 1, begun := true, byCmd := some 0 }) rfl).1 _ rfl).1 (by decide +kernel)⟩,
   ⟨_, ((p (partStepping { part := 1 }) rfl).1 _ rfl).2 (by decide +kernel)⟩,
   ⟨_, (p (partStepping { part := 1 }) rfl).2.1 rfl⟩,
   ⟨_, ((p land rfl).2.2 rfl).1⟩,
   ⟨_, ((p land rfl).2.2 rfl).2⟩,
   ⟨_, ((h chipStepping).2.2.1 rfl).1 rfl⟩,
   ⟨_, ((h land).2.2.1 rfl).2 rfl⟩⟩

/-- FLT_CMD from each aperture and with each outcome. -/
theorem meets_LadderCommands (h : Obligations.LadderCompletes) :
    (∃ t, exec (.fltEngine .operator (.channel 32)) land = .next t) ∧
    (∃ t, exec (.fltEngine (.part 2) (.channel 0)) land = .next t) ∧
    (∃ t, exec (.fltEngine .operator (.shaft 0)) (stepping { unit := .shaft 0, part := 1 }) = .next t) ∧
    (∃ t, exec (.fltEngine .operator (.channel 31)) land = .next t) ∧
    (∃ t, exec (.fltPartition (.part 2) 1) land = .next t) ∧
    (∃ t, exec (.fltPartition .operator 2) land = .next t) ∧
    (∃ t, exec (.fltPartition .operator 1) (partStepping { part := 1 }) = .next t) ∧
    (∃ t, exec (.fltPartition .lamp 1) land = .next t) ∧
    (∃ t, exec (.fltChip .operator) land = .next t) ∧
    (∃ t, exec (.fltTray .operator) land = .next t) ∧
    (∃ t, exec (.fltChip .lamp) chipStepping = .next t) ∧
    (∃ t, exec (.fltChip .lamp) land = .next t) ∧
    (∃ t, exec (.fltTray .lamp) land = .next t) ∧
    (∃ t, exec (.fltChip .debug) land = .next t) ∧
    (∃ t, exec (.fltTray .lamp) (land.cmdBusy .flt 7 0) = .next t) ∧
    (∃ t, exec (.fltPartition (.vf 1 1) 1) land = .next t) :=
  have o (s : State) (r : s.Takes .flt .operator) := (h s).2.2.2.1 .operator r (.inl rfl)
  have l (s : State) (r : s.Takes .flt .lamp) := (h s).2.2.2.1 .lamp r (.inr (.inl rfl))
  have p (s : State) (r : s.Takes .flt (.part 2)) := (h s).2.2.2.1 (.part 2) r (.inr (.inr ⟨2, rfl⟩))
  ⟨⟨_, ((o land ⟨land_ready, rfl, rfl, rfl⟩).1 (.channel 32)).1 rfl⟩,
   ⟨_, ((p land ⟨land_ready, rfl, rfl, rfl⟩).1 (.channel 0)).2.1 rfl (by decide)⟩,
   ⟨_, ((o (stepping { unit := .shaft 0, part := 1 }) ⟨land_ready, rfl, rfl, rfl⟩).1 (.shaft 0)).2.2.1 rfl (.inl rfl) (.inl rfl)⟩,
   ⟨_, ((o land ⟨land_ready, rfl, rfl, rfl⟩).1 (.channel 31)).2.2.2 rfl (.inl rfl) (by decide +kernel)⟩,
   ⟨_, ((p land ⟨land_ready, rfl, rfl, rfl⟩).2.1 1).1 (by decide)⟩,
   ⟨_, ((o land ⟨land_ready, rfl, rfl, rfl⟩).2.1 2).2.1 (.inl rfl) rfl⟩,
   ⟨_, ((o (partStepping { part := 1 }) ⟨land_ready, rfl, rfl, rfl⟩).2.1 1).2.2.1 (.inl rfl) rfl rfl⟩,
   ⟨_, ((l land ⟨land_ready, rfl, rfl, rfl⟩).2.1 1).2.2.2 (.inr (.inl rfl)) rfl rfl⟩,
   ⟨_, ((o land ⟨land_ready, rfl, rfl, rfl⟩).2.2.1 nofun).1⟩,
   ⟨_, ((o land ⟨land_ready, rfl, rfl, rfl⟩).2.2.1 nofun).2⟩,
   ⟨_, (l chipStepping ⟨land_ready, rfl, rfl, rfl⟩).2.2.2.1 rfl rfl⟩,
   ⟨_, (l land ⟨land_ready, rfl, rfl, rfl⟩).2.2.2.2.1 rfl rfl⟩,
   ⟨_, (l land ⟨land_ready, rfl, rfl, rfl⟩).2.2.2.2.2 rfl⟩,
   ⟨_, ((h land).2.2.2.2 .debug (.shaft 0) 0 _ (by simp) ⟨land_ready, rfl, rfl, rfl⟩).1 rfl rfl⟩,
   ⟨_, ((h (land.cmdBusy .flt 7 0)).2.2.2.2 .lamp (.shaft 0) 0 _ (by simp) ⟨land_ready, rfl, rfl, rfl⟩).2.1 nofun rfl⟩,
   ⟨_, ((h land).2.2.2.2 (.vf 1 1) (.shaft 0) 1 _ (by simp) ⟨land_ready, rfl, rfl, rfl⟩).2.2 1 1 rfl⟩⟩

/-! ### Observation (17) -/

/-- A line of zeros. -/
def zeroL : HubLine := ⟨0, 0⟩

/-- The observation unit in a state, and an instance's address arguments. -/
def observing (o : ObsSt) (a : Nat := 0) (lo : Word := 0) (hi : Word := 0) : State :=
  { (land.modInst .obs a fun i => { i with regs := [(0x10, lo), (0x14, hi)] }) with obs := o }
def freezeMsg (o : ObsSt) : State :=
  { observing o with fab := { ports := [(0, { state := .up, ctrl := [{ opcode := 7, src := 5, clear := false, payload := [] }] })] } }
def timed (s : State) (v : Bool) : State := { s with clk := { s.clk with valid := v } }

/-- Freezes now and at a time, soon and not, while frozen, from a partition, while busy, from a VF; arming; messages; the armed time; the drained snapshot. -/
theorem meets_FreezeCompletes (h : Obligations.FreezeCompletes) :
    (∃ t, exec (.obsFreeze .operator) (observing {}) = .next t) ∧
    (∃ t, exec (.obsFreeze .operator) (observing { frozen := true }) = .next t) ∧
    (∃ t, exec (.obsFreezeAt .operator true) (observing {} 0 4999) = .next t) ∧
    (∃ t, exec (.obsFreezeAt .operator true) (observing {} 0 5000) = .next t) ∧
    (∃ t, exec (.obsRelease .operator) (observing {}) = .next t) ∧
    (∃ t, exec (.obsFreeze (.part 1)) land = .next t) ∧
    (∃ t, exec (.obsRelease .lamp) (land.cmdBusy .obs 7 0) = .next t) ∧
    (∃ t, exec (.obsFreezeAt (.vf 1 1) true) land = .next t) ∧
    (land.armFreeze 1 0 3 5 = land.capture 1 3 5 false) ∧
    (∃ u, (timed land false).armFreeze 1 0 3 5 = u) ∧
    (∃ t, exec (.freezePacketReceive 0) (freezeMsg { accept := false }) = .next t) ∧
    (∃ t, exec (.freezePacketReceive 0) (freezeMsg { accept := true }) = .next t) ∧
    (∃ t, exec .freezeTimeReached (observing { armed := some (1, 9, 0, 0) }) = .next t) ∧
    (∃ t, exec .freezeTimeReached (timed (observing { armed := some (1, 9, 0, 0) }) false) = .next t) ∧
    (∃ t, exec .freezeTimeReached land = .next t) ∧
    (∃ t, exec .snapshotDrained (observing { frozen := true }) = .next t) ∧
    (∃ t, exec .snapshotDrained land = .next t) :=
  have o (x : ObsSt) (lo : Word) (b : Bool) := ((h (observing x 0 lo)).1 .operator b ⟨land_ready, rfl, rfl, rfl⟩).1 (.inl rfl)
  have m (x : ObsSt) := (h (freezeMsg x)).2.2.2.1 0 { opcode := 7, src := 5, clear := false, payload := [] } _ rfl (by decide) rfl
  have e (s : State) (a : s.alive = true) := (h s).2.2.2.2 a
  ⟨⟨_, (o {} 0 true).1 rfl⟩,
   ⟨_, (o { frozen := true } 0 true).2.1 rfl⟩,
   ⟨_, (o {} 4999 true).2.2.1 (by decide)⟩,
   ⟨_, (o {} 5000 true).2.2.2.1 (by decide)⟩,
   ⟨_, (o {} 0 true).2.2.2.2⟩,
   ⟨_, ((h land).1 (.part 1) true ⟨land_ready, rfl, rfl, rfl⟩).2 ⟨1, rfl⟩ _ (by simp)⟩,
   ⟨_, ((h (land.cmdBusy .obs 7 0)).2.1 .lamp true _ (by simp) ⟨land_ready, rfl, rfl, rfl⟩).1 nofun rfl⟩,
   ⟨_, ((h land).2.1 (.vf 1 1) true _ (by simp) ⟨land_ready, rfl, rfl, rfl⟩).2 1 1 rfl⟩,
   ((h land).2.2.1 1 0 3 5).1 (by decide),
   ⟨_, ((h (timed land false)).2.2.1 1 0 3 5).2 (by decide +kernel)⟩,
   ⟨_, (m { accept := false }).1 (.inl rfl)⟩,
   ⟨_, (m { accept := true }).2 rfl rfl⟩,
   ⟨_, ((e (observing { armed := some (1, 9, 0, 0) }) rfl).1 1 9 0 0 rfl).1 rfl⟩,
   ⟨_, ((e (timed (observing { armed := some (1, 9, 0, 0) }) false) rfl).1 1 9 0 0 rfl).2 rfl⟩,
   ⟨_, (e land rfl).2.1 rfl⟩,
   ⟨_, (e (observing { frozen := true }) rfl).2.2.1 rfl rfl⟩,
   ⟨_, (e land rfl).2.2.2 (.inl rfl)⟩⟩

/-- Partition 1's seam 0 sealed, and the debug port's peek of line 0 under way in full debug, of a line that verifies or does not. -/
def seamS : Seam := { seam0 .active with kind := .sealed }
def debugging : State := { withSeam seamS with fuse := { land.fuse with lifecycle := 2 }, obs := { land.obs with peeks := [(8, 0)] } }

/-- The tag of line 0 of ciphertext 0, and that line with its side-band. -/
def tag5 : BitVec 56 := debugging.tagOf seamS 0 16 17 0 (debugging.versionOf 0 0) 0
theorem tag5_value : tag5 = 0xDD4AB1284D4AE1 := by decide +kernel
def peekLine : HubLine := ⟨0, sideOf false 0 0xDD4AB1284D4AE1 (metaByte false .sealed 0)⟩
theorem peekLine_decodes : decodeLine false peekLine = some ⟨0, 0xDD4AB1284D4AE1, metaByte false .sealed 0, false⟩ := by decide +kernel

theorem old_sealed (s : State) (k n line : Nat) (key : Nat × Nat × BitVec 4) (ver : BitVec 44) (l : HubLine) (c : Line) (mac : BitVec 56) (m : Byte)
    (hd : decodeLine (s.shaft k).narrow l = some ⟨c, mac, m, false⟩) (hm : metaOk (s.shaft k).narrow (s.seam n).kind key.2.2 m = true)
    (ht : s.tagOf (s.seam n) n key.1 key.2.1 line ver c = mac) (hb : s.pageBad n ((s.seam n).pageOf line) = false) :
    s.oldLine k n line key ver l = .ok (c ^^^ s.padOf (s.seam n) n key.1 line ver, false) := by
  simp [State.oldLine, hd, hm, ht, hb]

theorem peek_old (s : State) (n : Nat) (e : Seam) (line : Nat) (l : HubLine) (key : Nat × Nat × BitVec 4) (x : Line)
    (hk : s.driftKey n (e.pageOf line) = some key) (ho : s.oldLine e.stack n line key (s.versionOf n line) l = .ok (x, false)) :
    s.peekPlain n e line l = some x := by simp [State.peekPlain, hk, ho]

theorem peekLine_plain : debugging.peekPlain 0 seamS 0 peekLine = some ((0 : Line) ^^^ debugging.padOf (debugging.seam 0) 0 16 0 (debugging.versionOf 0 0)) :=
  peek_old _ _ _ _ _ (16, 17, 0) _ rfl (old_sealed _ _ _ _ _ _ _ _ _ _ peekLine_decodes rfl tag5_value rfl)
theorem badLine_decodes : decodeLine false ⟨0x10001, 0⟩ = none := by decide +kernel
theorem badLine_plain : debugging.peekPlain 0 seamS 0 ⟨0x10001, 0⟩ = none := by
  have o : debugging.oldLine seamS.stack 0 0 (16, 17, 0) (debugging.versionOf 0 0) ⟨0x10001, 0⟩ = .error 0x2102 := by
    simp only [State.oldLine, show decodeLine (debugging.shaft seamS.stack).narrow ⟨0x10001, 0⟩ = none from badLine_decodes]
  simp only [State.peekPlain, show debugging.driftKey 0 (seamS.pageOf 0) = some (16, 17, 0) from rfl, o]

/-- Peeks of each kind of address by each aperture, what comes back of a raw, a plain and an enciphered line, and time-outs. -/
theorem meets_PeekCompletes (h : Obligations.PeekCompletes) :
    (∃ t, exec (.obsPeek (.part 2)) (observing {} 2) = .next t) ∧
    (∃ t, exec (.obsPeek .operator) (observing {} 0 63) = .next t) ∧
    (∃ t, exec (.obsPeek .operator) (observing {}) = .next t) ∧
    (∃ t, exec (.obsPeek .debug) ({ observing {} 8 0x03000000 0xC0 with fuse := { land.fuse with lifecycle := 2 } }) = .next t) ∧
    (∃ t, exec (.obsPeek .operator) (observing {} 0 0 0xC0) = .next t) ∧
    (∃ t, exec (.obsPeek .operator) (land.cmdBusy .obs 0 0) = .next t) ∧
    (∃ t, exec (.obsPeek (.vf 1 1)) land = .next t) ∧
    (∃ t, exec (.peekReturn .operator zeroL) (observing { peeks := [(0, 0xC000000000)] }) = .next t) ∧
    (∃ t, exec (.peekReturn .operator zeroL) (observing { peeks := [(0, 0)] }) = .next t) ∧
    (∃ t, exec (.peekReturn .debug peekLine) debugging = .next t) ∧
    (∃ t, exec (.peekReturn .debug ⟨0x10001, 0⟩) debugging = .next t) ∧
    (∃ t, exec (.peekTimeout .operator) (observing { peeks := [(0, 0)] }) = .next t) ∧
    (∃ t, exec (.peekTimeout .operator) land = .next t) ∧
    (∃ t, exec (.peekReturn .operator zeroL) land = .next t) :=
  have o (s : State) (r : s.Takes .obs .operator) := (h s).1 .operator r (.inl rfl)
  have d (s : State) (r : s.Takes .obs .debug) := (h s).1 .debug r (.inr (.inr (.inl rfl)))
  have b (l : HubLine) := (h debugging).2.2.1 .debug 0 l rfl rfl rfl
  ⟨⟨_, ((h (observing {} 2)).1 (.part 2) ⟨land_ready, rfl, rfl, rfl⟩ (.inr (.inr (.inr ⟨2, rfl⟩)))).1 fun x => nomatch (x 2 rfl).2⟩,
   ⟨_, (o (observing {} 0 63) ⟨land_ready, rfl, rfl, rfl⟩).2.1 nofun (by decide)⟩,
   ⟨_, (o (observing {}) ⟨land_ready, rfl, rfl, rfl⟩).2.2.1 nofun (by decide) (by decide)⟩,
   ⟨_, (d ({ observing {} 8 0x03000000 0xC0 with fuse := { land.fuse with lifecycle := 2 } }) ⟨land_ready, rfl, rfl, rfl⟩).2.2.2.1 nofun (by decide +kernel) (by decide +kernel) (by decide +kernel)⟩,
   ⟨_, (o (observing {} 0 0 0xC0) ⟨land_ready, rfl, rfl, rfl⟩).2.2.2.2 nofun (by decide +kernel) (by decide +kernel) (by decide +kernel)⟩,
   ⟨_, ((h (land.cmdBusy .obs 0 0)).2.1 .operator ⟨land_ready, rfl, rfl, rfl⟩).1 nofun rfl⟩,
   ⟨_, ((h land).2.1 (.vf 1 1) ⟨land_ready, rfl, rfl, rfl⟩).2 1 1 rfl⟩,
   ⟨_, ((h (observing { peeks := [(0, 0xC000000000)] })).2.2.1 .operator 0xC000000000 zeroL rfl rfl rfl).1 (by decide)⟩,
   ⟨_, ((h (observing { peeks := [(0, 0)] })).2.2.1 .operator 0 zeroL rfl rfl rfl).2.1 (by decide) (fun _ _ => nofun)⟩,
   ⟨_, (b peekLine).2.2.1 0 seamS _ (by decide) rfl ⟨rfl, rfl, rfl, nofun⟩ peekLine_plain⟩,
   ((b ⟨0x10001, 0⟩).2.2.2 0 seamS (by decide) rfl ⟨rfl, rfl, rfl, nofun⟩ badLine_plain).elim fun _ x => ⟨_, x⟩,
   ⟨_, ((h (observing { peeks := [(0, 0)] })).2.2.2 .operator rfl rfl).1 0 rfl⟩,
   ⟨_, (((h land).2.2.2 .operator rfl rfl).2 rfl).1⟩,
   ⟨_, (((h land).2.2.2 .operator rfl rfl).2 rfl).2 zeroL⟩⟩

/-! ### Invariants (18) -/

/-- The fuses with the unit in life-cycle state 2, and a request for state 3 signed by the authority of state 2. -/
def fused (f : Fuses := { lifecycle := 2 }) : State := { land with fuse := f }
/-- A slice 0 whose correction table is given, and a read of inner page address 64 that waits. -/
def scrubRead : PageReq := { key := 1, addr := 64, part := 1, ctx := none, src := .home 0 0, len := 64 }
def scrubbed (l : List ScrubEntry) : State := { land with ins := { land.ins with slices := [(0, { table := l })], reqs := [scrubRead] } }
/-- A full table: 256 words other than word 0, the oldest of the smallest count in the second place. -/
def fullScrub : List ScrubEntry := { word := 1, count := 2 } :: { word := 2, count := 1 } :: (List.range' 3 254).map fun w => { word := w, count := 1 }

/-- A table with an entry of the word, one with room and none of it, and a full one. -/
theorem meets_ScrubTableKept (h : Obligations.ScrubTableKept) :
    (∃ u : State, exec (.scrubWordRead 0 7 .corrected) (scrubbed [{ word := 7, count := 1 }]) = .next u.settle ∧ (u.slice 0).table = [{ word := 7, count := 2 }]) ∧
    (∃ u : State, exec (.scrubWordRead 0 7 .corrected) (scrubbed []) = .next u.settle ∧ (u.slice 0).table = [{ word := 7, count := 1 }]) ∧
    (∃ u : State, exec (.scrubWordRead 0 0 .corrected) (scrubbed fullScrub) = .next u.settle ∧
      (u.slice 0).table = ({ word := 1, count := 2 } :: (List.range' 3 254).map fun w => { word := w, count := 1 }) ++ [{ word := 0, count := 1 }]) ∧
    (∃ t, exec (.innerPageAccess 0 1 .corrected) (scrubbed []) = .next t) ∧ ∃ t, exec (.scrubPassEnd 0) (scrubbed [{ word := 7, count := 3 }]) = .next t :=
  have r (l : List ScrubEntry) (w : Nat) (hw : w < 2 ^ 28) := h (scrubbed l) 0 w rfl (by decide) hw
  ⟨(r [{ word := 7, count := 1 }] 7 (by decide)).1.elim fun u x => ⟨u, x.1, x.2.2.1 ⟨_, .head _, rfl⟩⟩,
   (r [] 7 (by decide)).1.elim fun u x => ⟨u, x.1, x.2.2.2.1 (fun _ m => nomatch (show _ ∈ ([] : List ScrubEntry) from m)) (by decide)⟩,
   (r fullScrub 0 (by decide)).1.elim fun u x => ⟨u, x.1, x.2.2.2.2 [{ word := 1, count := 2 }] { word := 2, count := 1 }
     ((List.range' 3 254).map fun w => { word := w, count := 1 })
     (show ∀ e ∈ fullScrub, e.word ≠ 0 by decide +kernel) (show fullScrub.length = 256 by decide +kernel) rfl (by decide)
     (by intro x m; obtain ⟨w, _, rfl⟩ := List.mem_map.mp m; exact Nat.le_refl 1)⟩,
   ((r [] 7 (by decide)).2.1 1 scrubRead rfl rfl rfl rfl (by decide)).elim fun _ ⟨_, x⟩ => ⟨_, x.2.2⟩,
   (r [{ word := 7, count := 3 }] 7 (by decide)).2.2.elim fun _ x => ⟨_, x.1⟩⟩

/-- A command that is neither edge of power-on reset. -/
theorem meets_LifeCycleLatched (h : Obligations.LifeCycleLatched) : ∃ t, exec .drbgReseed (fused { lifecycle := 2 }) = .next t ∧ t.fuse.lifecycle = 2 :=
  ⟨_, rfl, h .drbgReseed (fused { lifecycle := 2 }) _ nofun nofun rfl⟩

end Sys2Proof.Tests
end

section
/-!
PROOF. The mailbox selections (03, R54 to R56): what a selection and a capture make of an instance, and MailboxReselects from it.
-/

namespace Sys2Proof.Machine

theorem State.modMbx_eq_put {s : State} {a : Nat} {m : Mbx} (hm : s.mbxAt a = m) (f : Mbx → Mbx) :
    s.modMbx a f = { s with mbx := s.mbx.put a (f m) } := by
  rw [← hm]; rfl

/-! ### Through the gate -/

/-- No gate in front of a register looks at the mailboxes. -/
theorem State.Reaches.modMbx {s : State} {ap : Aperture} {pl : Place} {o : Nat} (h : s.Reaches ap pl o) (a : Nat) (f : Mbx → Mbx) :
    (s.modMbx a f).Reaches ap pl o := h

/-- A mailbox command that reaches the mailbox is the function behind its gate. -/
theorem State.Reaches.mbxGate {s : State} {ap : Aperture} (h : s.Reaches ap .mbx 0) (hm : hasMbx ap = true) (f : State → State) :
    (s.given (apOk ap && hasMbx ap) fun s => s.atReg ap .mbx 0 f) = f s := by
  obtain ⟨hr, ho, ht, hd⟩ := h
  simp [State.given, ho, hm, hr.atReg _ _ _ _ ht, hd]

theorem State.Reaches.exec_mbxSel {s : State} {ap : Aperture} (h : s.Reaches ap .mbx 0) (hm : hasMbx ap = true) (w : Bool)
    (cls : BitVec 7) (idx : BitVec 24) :
    exec (if w = true then .mbxSelWrite ap cls idx else .mbxSelRead ap cls idx) s = .next (s.mbxSelect ap (selWord w cls idx)) := by
  cases w
  · exact congrArg Host.Outcome.next (h.mbxGate hm (mbxSelRead ap cls idx))
  · exact congrArg Host.Outcome.next (h.mbxGate hm (mbxSelWrite ap cls idx))

theorem State.Reaches.exec_mbxCaptureDone {s : State} {ap : Aperture} (h : s.Reaches ap .mbx 0) (hm : hasMbx ap = true) (ecc : Ecc) :
    exec (.mbxCaptureDone ap ecc) s = .next (mbxCaptureDone ap ecc s) :=
  congrArg Host.Outcome.next (h.mbxGate hm (mbxCaptureDone ap ecc))

/-! ### Selection (R54, R56) -/

@[simp] theorem mbxClass_selWord (w : Bool) (cls : BitVec 7) (idx : BitVec 24) : mbxClass (selWord w cls idx) = cls.toNat := by
  have hcls : (selWord w cls idx).extractLsb' 24 7 = cls := by
    rw [selWord, BitVec.extractLsb'_append_eq_of_le (by decide), BitVec.extractLsb'_append_eq_of_add_le (by decide)]
    exact BitVec.extractLsb'_eq_self
  rw [mbxClass, hcls]

theorem State.mbxSelect_of_idle {s : State} {ap : Aperture} (hb : (s.mbxAt (apIdx ap)).busy = false) (sel : Word) :
    s.mbxSelect ap sel = { s with mbx := s.mbx.put (apIdx ap) { sel, words := classWords (mbxClass sel), busy := true } } := by
  rw [State.mbxSelect, State.modMbx_eq_put rfl]
  simp [hb]

/-- An instance that has ignored a selection: ERR = 1 and ERR_CODE = 0x5. -/
def Mbx.selIgnored (m : Mbx) : Mbx := { m with fail := true, err := 5 }

theorem State.mbxSelect_of_busy {s : State} {ap : Aperture} (hb : (s.mbxAt (apIdx ap)).busy = true) (sel : Word) :
    s.mbxSelect ap sel = s.modMbx (apIdx ap) Mbx.selIgnored := by
  rw [State.mbxSelect, State.modMbx_eq_put rfl, State.modMbx_eq_put rfl]
  simp [hb, Mbx.selIgnored]

/-! ### Capture (R54, R55, R147) -/

theorem State.captureRead_of_ne_tally {s : State} {ap : Aperture} (hc : mbxClass (s.mbxAt (apIdx ap)).sel ≠ 1) (ecc : Ecc) :
    s.captureRead ap ecc = s := by
  simp [State.captureRead, hc]

/-- The read of a tally's record leaves the selection that asked for it. -/
@[simp] theorem State.captureRead_mbxAt (s : State) (ap : Aperture) (ecc : Ecc) (a : Nat) : (s.captureRead ap ecc).mbxAt a = s.mbxAt a := by
  rw [State.mbxAt, (State.captureRead_kept s ap ecc).2, State.mbxAt]

/-- A busy instance whose checks pass shows the object that its selection names; ERR and ERR_CODE stay as they were. -/
theorem mbxCaptureDone_of_passed {s : State} {ap : Aperture} {ecc : Ecc} {m : Mbx} (hm : s.mbxAt (apIdx ap) = m) (hb : m.busy = true)
    (he : (s.captureRead ap ecc).mbxCheck ap m.sel = 0) :
    mbxCaptureDone ap ecc s = { s.captureRead ap ecc with
      mbx := (s.captureRead ap ecc).mbx.put (apIdx ap) { m with
        busy := false, valid := true, opened := m.sel.getLsbD 31
        data := (s.captureRead ap ecc).object (mbxClass m.sel) (mbxIndex m.sel) } } := by
  rw [mbxCaptureDone, State.modMbx_eq_put ((State.captureRead_mbxAt s ap ecc _).trans hm)]
  simp [hb, he]

/-! ### The obligation -/

/-- Settles O8: an idle instance is rewritten whole by the selection; a busy one keeps the object it selected, so that its capture is the one
that the selection in progress asked for. -/
theorem mailboxReselects : Obligations.MailboxReselects := by
  unfold Obligations.MailboxReselects
  intro s ap w cls idx hr hm a m c
  have hsel : exec c s = .next (s.mbxSelect ap (selWord w cls idx)) := hr.exec_mbxSel hm w cls idx
  refine ⟨fun hidle => ⟨0, ?idle⟩, fun hbusy => ?busy⟩
  case idle => rw [hsel, State.mbxSelect_of_idle hidle, mbxClass_selWord]
  case busy =>
    intro t
    have hbox : t.mbxAt a = m.selIgnored := State.modMbx_mbxAt s a Mbx.selIgnored
    have ht : t.Reaches ap .mbx 0 := hr.modMbx a Mbx.selIgnored
    refine ⟨by rw [hsel, State.mbxSelect_of_busy hbusy]; rfl, fun ecc => ⟨fun hc => ?same, fun he => ?done⟩⟩
    case same => exact State.captureRead_of_ne_tally (by rwa [hbox]) ecc
    case done => exact (ht.exec_mbxCaptureDone hm ecc).trans (congrArg _ (mbxCaptureDone_of_passed hbox hbusy he))

end Sys2Proof.Machine
end

section
/-!
PROOF. The scrub correction table (06, R149): what a corrected word and the end of a pass make of a slice's table, and ScrubTableKept from it.
-/

namespace Sys2Proof.Machine

/-! ### A word noted in the table -/

theorem scrubNote_of_listed {t : List ScrubEntry} {w : Nat} (h : ∃ e ∈ t, e.word = w) :
    scrubNote t w = t.map fun e => if e.word = w then { e with count := e.count + 1 } else e :=
  if_pos (by simpa using h)

theorem scrubNote_of_room {t : List ScrubEntry} {w : Nat} (h : ∀ e ∈ t, e.word ≠ w) (hl : t.length < 256) :
    scrubNote t w = t ++ [{ word := w }] := by
  have habsent : t.any (·.word == w) = false := by simpa using h
  simp [scrubNote, habsent, hl]

/-- The fold that `scrubNote` takes over the counts, begun at their sum, gives the smallest of them. -/
theorem foldl_min_sum_of_least {l : List Nat} {m : Nat} (hm : m ∈ l) (hle : ∀ x ∈ l, m ≤ x) : l.foldl min l.sum = m := by
  have hleast : l.min? = some m := List.min?_eq_some_iff.mpr ⟨hm, hle⟩
  have hsum : m ≤ l.sum := Nat.le_trans (Nat.le_mul_of_pos_right m (List.length_pos_of_mem hm))
    (List.mul_length_le_sum_of_min?_eq_some_nat hleast)
  rw [List.foldl_min, hleast, Option.getD_some, Nat.min_eq_right hsum]

/-- In a full table the entry that gives way is the first of those with the smallest count. -/
theorem scrubNote_of_full {t pre post : List ScrubEntry} {e : ScrubEntry} {w : Nat} (h : ∀ e ∈ t, e.word ≠ w) (hl : t.length = 256)
    (ht : t = pre ++ e :: post) (hpre : ∀ x ∈ pre, e.count < x.count) (hpost : ∀ x ∈ post, e.count ≤ x.count) :
    scrubNote t w = pre ++ post ++ [{ word := w }] := by
  have hleast : (t.map (·.count)).foldl min (t.map (·.count)).sum = e.count := by
    apply foldl_min_sum_of_least
    · simp [ht]
    · simp only [ht, List.map_append, List.map_cons, List.mem_append, List.mem_cons, List.mem_map]
      rintro _ (⟨x, hx, rfl⟩ | rfl | ⟨x, hx, rfl⟩)
      · exact Nat.le_of_lt (hpre x hx)
      · exact Nat.le_refl _
      · exact hpost x hx
  have hfirst : t.find? (·.count == e.count) = some e :=
    List.find?_eq_some_iff_append.mpr ⟨beq_self_eq_true _, pre, post, ht, fun x hx => by simpa using Nat.ne_of_gt (hpre x hx)⟩
  have hrest : t.erase e = pre ++ post := by
    rw [ht, List.erase_append_right _ fun hx => Nat.lt_irrefl _ (hpre e hx), List.erase_cons_head]
  have habsent : t.any (·.word == w) = false := by simpa using h
  simp [scrubNote, habsent, hl, hleast, hfirst, hrest]

theorem length_scrubNote_le {t : List ScrubEntry} {w : Nat} (hl : t.length ≤ 256) : (scrubNote t w).length ≤ 256 := by
  unfold scrubNote
  split
  · rwa [List.length_map]
  · split
    · rw [List.length_append, List.length_singleton]; omega
    · dsimp only
      split
      next e he =>
        have hmem : e ∈ t := List.mem_of_find?_eq_some he
        have hpos : 0 < t.length := List.length_pos_of_mem hmem
        rw [List.length_append, List.length_erase_of_mem hmem, List.length_singleton]
        omega
      next => exact hl

/-! ### What leaves a slice, and what counts in it -/

@[simp] theorem State.used_slice (s : State) (q : Nat) : s.used.slice q = s.slice q := rfl

@[simp] theorem State.bump_slice (s : State) (g u n q : Nat) : (s.bump g u n).slice q = s.slice q := rfl

@[simp] theorem State.irqStat_slice (s : State) (v : Word) (q : Nat) :
    ({ s with ins := { s.ins with irqStat := v } } : State).slice q = s.slice q := rfl

@[simp] theorem State.insCapture_slice (s : State) (k word area : Nat) (uncorr : Bool) (q : Nat) :
    (s.insCapture k word area uncorr).slice q = s.slice q := by
  unfold State.insCapture
  split <;> rfl

@[simp] theorem State.keepWords_slice (s : State) (src : Src) (w n q : Nat) : (s.keepWords src w n).slice q = s.slice q := by
  unfold State.keepWords
  split <;> rfl

@[simp] theorem State.insCorr_table (s : State) (q word area : Nat) :
    ((s.insCorr q word area).slice q).table = scrubNote (s.slice q).table word := by
  simp [State.insCorr]

@[simp] theorem scrubWordRead_corrected_table (q word : Nat) (s : State) :
    ((scrubWordRead q word .corrected s).slice q).table = scrubNote (s.slice q).table word := by
  simp [scrubWordRead]

/-- Several words read with a report of a correction: one of them is the corrected one. -/
theorem State.insWords_corrected (s : State) (q : Nat) {words : List Nat} (area : Nat) (hw : words ≠ []) :
    ∃ w ∈ words, s.insWords q words area .corrected = (s.used.insCorr q w area, false) := by
  have hi : Config.freeNat s.fresh % max 1 words.length < words.length := by
    have hpos : 0 < words.length := List.length_pos_iff.mpr hw
    rw [Nat.max_eq_right hpos]
    exact Nat.mod_lt _ hpos
  refine ⟨words[Config.freeNat s.fresh % max 1 words.length], List.getElem_mem hi, ?_⟩
  simp [State.insWords, State.insWord, List.getElem?_eq_getElem hi]

/-! ### A demand read -/

/-- The state without the inner-page requests of a key: what INNER_PAGE_ACCESS works on. -/
def State.takePageReq (s : State) (key : Nat) : State :=
  { s with ins := { s.ins with reqs := s.ins.reqs.filter (·.key != key) } }

@[simp] theorem State.takePageReq_slice (s : State) (key q : Nat) : (s.takePageReq key).slice q = s.slice q := rfl

/-- The words of the slice that a request's n bytes from an address on lie in. -/
def innerWords (addr n : Nat) : List Nat := (List.range ((addr % 8 + n + 7) / 8)).map (innerWord addr + ·)

theorem innerWords_ne_nil (addr : Nat) {n : Nat} (hn : 0 < n) : innerWords addr n ≠ [] := by
  have hwords : (addr % 8 + n + 7) / 8 ≠ 0 := by omega
  simp [innerWords, hwords]

/-- A read that is the first of the requests waits for no other, and with no word in the tracker it decodes every word it covers. -/
theorem innerPageAccess_of_first_read {s v : State} {q key n : Nat} {ecc : Ecc} {r : PageReq}
    (hr : s.ins.reqs.find? (fun r => r.key == key && quadOf r.addr == q) = some r) (hfirst : s.ins.reqs.head? = some r)
    (hread : r.write = false) (hkept : s.home.words = []) (hlen : max r.len r.bytes.length = n) (hn : 0 < n)
    (hv : (s.takePageReq key).insWords q (innerWords r.addr n) 6 ecc = (v, false)) :
    let u := v.keepWords r.src (r.addr % 2 ^ 44 / 8) ((r.addr % 8 + n + 7) / 8)
    innerPageAccess q key ecc s = u.lineDone r.src (u.innerBytes r.addr n) false 0 := by
  have hmatch : (r.key == key && quadOf r.addr == q) = true := List.find?_some (p := fun r : PageReq => r.key == key && quadOf r.addr == q) hr
  have hkey : (r.key == key) = true := (Bool.and_eq_true_iff.mp hmatch).1
  have hbefore : s.ins.reqs.takeWhile (·.key != key) = [] := by
    obtain ⟨rest, hreqs⟩ := List.head?_eq_some_iff.mp hfirst
    rw [hreqs, List.takeWhile_cons_of_neg (by simp [bne, hkey])]
  have hreads : (List.range ((r.addr % 8 + n + 7) / 8)).filter
      (fun i => !(r.src.isHome && s.home.words.contains (r.addr % 2 ^ 44 / 8 + i))) = List.range ((r.addr % 8 + n + 7) / 8) :=
    List.filter_eq_self.mpr fun i _ => by rw [hkept, List.contains_nil, Bool.and_false, Bool.not_false]
  have hsome : (List.range ((r.addr % 8 + n + 7) / 8)).isEmpty = false :=
    List.isEmpty_eq_false_iff.mpr fun h => innerWords_ne_nil r.addr hn (congrArg (List.map _) h)
  rw [State.takePageReq, innerWords] at hv
  simp only [innerPageAccess, hr, hbefore, hlen, hread, hreads, hsome, hv, List.any_nil, Bool.not_false, Bool.true_or, Bool.false_eq_true,
    if_true, if_false]

/-! ### The end of a pass -/

theorem mem_insNat {k x : Nat} {l : List Nat} : x ∈ insNat k l ↔ x = k ∨ x ∈ l := by
  induction l with
  | nil => rw [insNat, List.mem_singleton, List.mem_nil_iff, or_false]
  | cons j l ih =>
    rw [insNat]
    split
    case isTrue hkj => simp [hkj]
    case isFalse =>
      split
      · exact List.mem_cons
      · rw [List.mem_cons, ih, List.mem_cons, or_left_comm]

theorem mem_foldl_insNat {x : Nat} {ws l : List Nat} : x ∈ ws.foldl (fun l w => insNat w l) l ↔ x ∈ l ∨ x ∈ ws := by
  induction ws generalizing l with
  | nil => simp
  | cons w ws ih => rw [List.foldl_cons, ih, mem_insNat, List.mem_cons, or_comm (a := x = w), or_assoc]

/-- The words of a table counted at least three times. -/
def scrubDue (t : List ScrubEntry) : List Nat := (t.filter fun e => decide (3 ≤ e.count)).map (·.word)

theorem mem_scrubDue {t : List ScrubEntry} {x : Nat} : x ∈ scrubDue t ↔ ∃ e ∈ t, e.word = x ∧ 3 ≤ e.count := by
  simp [scrubDue, and_left_comm, and_comm]

theorem scrubPassEnd_slice (q : Nat) (s : State) : (scrubPassEnd q s).slice q = { s.slice q with
    table := [], passes := satInc (s.slice q).passes, pos := 0
    queued := (scrubDue (s.slice q).table).foldl (fun l w => insNat w l) (s.slice q).queued } := by
  unfold scrubPassEnd
  dsimp only
  split
  · exact s.modSlice_slice q _
  · rw [State.irqStat_slice]
    exact s.modSlice_slice q _

/-! ### The gate of the slice events -/

theorem State.live_of_alive {s : State} (ha : s.alive = true) {ok : Bool} (hok : ok = true) (f : State → State) : s.live ok f = f s := by
  simp [State.live, ha, hok]

section

variable {s : State} {q : Nat} (ha : s.alive = true) (hq : q < 4)
include ha hq

theorem exec_innerPageAccess_of_alive (key : Nat) (ecc : Ecc) :
    exec (.innerPageAccess q key ecc) s = .next (innerPageAccess q key ecc s).settle :=
  congrArg (fun t : State => Host.Outcome.next t.settle) (State.live_of_alive ha (decide_eq_true hq) (innerPageAccess q key ecc))

theorem exec_scrubWordRead_of_alive {w : Nat} (hw : w < 2 ^ 28) (ecc : Ecc) :
    exec (.scrubWordRead q w ecc) s = .next (scrubWordRead q w ecc s).settle :=
  congrArg (fun t : State => Host.Outcome.next t.settle)
    (State.live_of_alive ha (Bool.and_eq_true_iff.mpr ⟨decide_eq_true hq, decide_eq_true hw⟩) (scrubWordRead q w ecc))

theorem exec_scrubPassEnd_of_alive : exec (.scrubPassEnd q) s = .next (scrubPassEnd q s).settle :=
  congrArg (fun t : State => Host.Outcome.next t.settle) (State.live_of_alive ha (decide_eq_true hq) (scrubPassEnd q))

end

/-! ### The obligation -/

/-- Settles O23: the scrubber and a demand read change the table by `scrubNote` of the corrected word alone, which has one equation for
each case of R149; the end of a pass queues the words of `scrubDue`. -/
theorem scrubTableKept : Obligations.ScrubTableKept := by
  unfold Obligations.ScrubTableKept
  intro s q w ha hq hw tab noted
  have hnoted (x : Nat) : noted (scrubNote tab x) x :=
    ⟨length_scrubNote_le, scrubNote_of_listed, scrubNote_of_room, fun _ _ _ => scrubNote_of_full⟩
  refine ⟨?scrubbed, ?demand, ?passEnd⟩
  case scrubbed =>
    refine ⟨scrubWordRead q w .corrected s, exec_scrubWordRead_of_alive ha hq hw .corrected, ?_⟩
    rw [scrubWordRead_corrected_table]
    exact hnoted w
  case demand =>
    intro key r hr hfirst hread hkept hn
    obtain ⟨_, hx, hcorr⟩ := (s.takePageReq key).insWords_corrected q 6 (innerWords_ne_nil r.addr hn)
    obtain ⟨i, hi, rfl⟩ := List.mem_map.mp hx
    have hdone := innerPageAccess_of_first_read hr hfirst hread hkept rfl hn hcorr
    refine ⟨_, i, List.mem_range.mp hi, ?_, (exec_innerPageAccess_of_alive ha hq key .corrected).trans (by rw [hdone])⟩
    rw [State.keepWords_slice, State.insCorr_table, State.used_slice, State.takePageReq_slice]
    exact hnoted _
  case passEnd =>
    refine ⟨scrubPassEnd q s, exec_scrubPassEnd_of_alive ha hq, by rw [scrubPassEnd_slice], fun x => ?_⟩
    rw [scrubPassEnd_slice, mem_foldl_insNat, mem_scrubDue]

end Sys2Proof.Machine
end

section
/-!
PROOF. The FORMAT codes (10, R258): the test `fmtMatch`, an equality or one of four ordered pairs, is the rule for all numbers, not for the
4-bit codes alone, and FormatsMatch says so.
-/

namespace Sys2Proof.Machine

/-- Settles O37: each comparison of the test is read as an equation, and each Boolean connective as the logical one. -/
theorem formatsMatch : Obligations.FormatsMatch := by
  unfold Obligations.FormatsMatch
  intro f g
  unfold fmtMatch
  simp only [Bool.or_eq_true, Bool.and_eq_true, beq_iff_eq, or_assoc]

end Sys2Proof.Machine
end

section
/-!
PROOF. References on a seam (04, 12; R85, R338): RETIRE and the death of a seam read nothing of the reference tables, FREE reads their count, and
ReferencesHoldOnlyFree from it.
-/

namespace Sys2Proof.Machine

/-! ### The reference tables replaced -/

/-- The state with other references held on its objects. -/
def State.withRefs (s : State) (refs : List (RefHolder × RefObj)) : State := { s with tal := { s.tal with refs } }

@[simp] theorem State.withRefs_seam (s : State) (refs : List (RefHolder × RefObj)) (n : Nat) : (s.withRefs refs).seam n = s.seam n := rfl

@[simp] theorem State.withRefs_alive (s : State) (refs : List (RefHolder × RefObj)) : (s.withRefs refs).alive = s.alive := rfl

@[simp] theorem State.withRefs_seamQuiet (s : State) (refs : List (RefHolder × RefObj)) (n : Nat) :
    (s.withRefs refs).seamQuiet n = s.seamQuiet n := rfl

/-- No gate in front of a seam command looks at the references. -/
theorem State.TakesSeam.withRefs {s : State} {ap : Aperture} {n : Nat} (h : s.TakesSeam ap n) (refs : List (RefHolder × RefObj)) :
    (s.withRefs refs).TakesSeam ap n := h

/-! ### Through the gate -/

/-- The instance of a seam command that is taken is the Lamp's or a partition's, never a mover channel's. -/
theorem State.TakesSeam.apIdx_lt {s : State} {ap : Aperture} {n : Nat} (h : s.TakesSeam ap n) : apIdx ap < 64 := by
  obtain ⟨⟨_, hok, _, _⟩, _, rfl | ⟨p, rfl, _, _⟩⟩ := h
  · decide
  · have hp : 1 ≤ p ∧ p ≤ 6 := by simpa [apOk, isPart] using hok
    change p < 64
    omega

theorem State.TakesSeam.seamEnd {s : State} {ap : Aperture} {n : Nat} (h : s.TakesSeam ap n) (t : State) (code : Nat) :
    t.seamEnd (apIdx ap) n code = t.cmdEnd .seam (apIdx ap) n code :=
  if_neg (Nat.not_le.mpr h.apIdx_lt)

theorem exec_seamDead_of_alive {s : State} {n : Nat} (ha : s.alive = true) (hn : n < 256) :
    exec (.seamDead n) s = .next (seamDead n s).settle :=
  congrArg (fun t : State => Host.Outcome.next t.settle) (State.live_of_alive ha (decide_eq_true hn) (seamDead n))

/-! ### RETIRE, death and FREE -/

/-- A seam in one of the states from which RETIRE leads to retiring (Table 4.3). -/
def Seam.Retirable (e : Seam) : Prop := e.state = .loading ∨ e.state = .active ∨ e.state = .sealed ∨ e.state = .drifting

theorem State.retireSeam_state {s : State} {n : Nat} (h : (s.seam n).Retirable) : ((s.retireSeam n).seam n).state = .retiring := by
  have hlive : (!(s.seam n).present || (s.seam n).state == .retiring || (s.seam n).state == .dead) = false := by
    rcases h with h | h | h | h <;> simp [Seam.present, h]
  simp [State.retireSeam, hlive]

theorem State.TakesSeam.exec_seamRetire {s : State} {ap : Aperture} {n : Nat} (h : s.TakesSeam ap n) (hstate : (s.seam n).Retirable)
    (hidle : (s.seam n).busy = false) :
    exec (.seamRetire ap n) s = .next ((s.retireSeam n).cmdEnd .seam (apIdx ap) n 0).settle := by
  refine congrArg (fun t : State => Host.Outcome.next t.settle) ((h.eq _).trans ?_)
  rcases hstate with hstate | hstate | hstate | hstate <;> simp [hstate, hidle, h.seamEnd]

theorem seamDead_state {s : State} {n : Nat} (hstate : (s.seam n).state = .retiring) (hquiet : s.seamQuiet n = true) :
    ((seamDead n s).seam n).state = .dead := by
  simp [seamDead, hstate, hquiet]

theorem State.TakesSeam.exec_seamFree_of_refs {s : State} {ap : Aperture} {n : Nat} (h : s.TakesSeam ap n) (hrefs : s.refsOn (.seam n) ≠ 0) :
    exec (.seamFree ap n) s = .next (s.cmdEnd .seam (apIdx ap) n 3).settle := by
  refine congrArg (fun t : State => Host.Outcome.next t.settle) ((h.eq _).trans ?_)
  rw [if_pos (.inr (.inr hrefs)), h.seamEnd]

/-! ### The obligation -/

/-- Settles O14: the state under any references meets the conditions of RETIRE and of the seam's death as soon as the state itself does, and
FREE's refusal needs the count alone. -/
theorem referencesHoldOnlyFree : Obligations.ReferencesHoldOnlyFree := by
  unfold Obligations.ReferencesHoldOnlyFree
  intro s ap n a e
  refine ⟨fun refs htakes hstate hidle => ?retire, fun refs halive hn hstate hquiet => ?dead, fun htakes hrefs => ?free⟩
  case retire =>
    have hretirable : ((s.withRefs refs).seam n).Retirable := hstate
    exact ⟨(htakes.withRefs refs).exec_seamRetire hretirable hidle, State.retireSeam_state hretirable⟩
  case dead =>
    exact ⟨seamDead n (s.withRefs refs), exec_seamDead_of_alive (s.withRefs_alive refs ▸ halive) hn,
      seamDead_state (by rwa [State.withRefs_seam]) (by rwa [State.withRefs_seamQuiet])⟩
  case free => exact htakes.exec_seamFree_of_refs hrefs

end Sys2Proof.Machine
end

section
/-!
PROOF. The queue (the form of a block; logs 5, 6): every command answers with a next state and leaves the queue alone, and StepRunsFront, EmptyQueueTicks
and QueueServedInOrder from it.
-/

namespace Sys2Proof.Machine

theorem step_of_pending_nil {s : State} (h : s.pending = []) : step s = .next s.tick := by rw [step, h]

theorem step_of_pending_cons {s : State} {c : Instr} {rest : List Instr} (h : s.pending = c :: rest) :
    step s = exec c { s with pending := rest } := by rw [step, h]

/-- Every command, by the `_kept` lemma of its meaning. -/
theorem exec_next_pending (c : Instr) (s : State) : ∃ t, exec c s = .next t ∧ t.pending = s.pending := by
  cases c <;> refine ⟨_, rfl, ?_⟩
  all_goals simp

/-! ### A cycle in which nothing is commanded -/

/-- The cycle's pad stalls count in the shafts and in the counters of OBS_ alone. -/
theorem State.stalls_frame (s : State) :
    s.stalls.clk = s.clk ∧ s.stalls.glb = s.glb ∧ s.stalls.seams = s.seams ∧ s.stalls.mbx = s.mbx ∧ s.stalls.pending = s.pending := by
  unfold State.stalls
  generalize s.shafts.filter (fun x => x.2.stalls) = l
  induction l generalizing s with
  | nil => exact ⟨rfl, rfl, rfl, rfl, rfl⟩
  | cons x l ih => exact ih _

theorem State.tick_of_clocked {s : State} (hpor : s.pins.por = false) (hclk : s.clk.lost = false) :
    s.tick = { s with clk := s.clk.tick }.stalls := by simp [State.tick, hpor, hclk]

/-! ### The obligations -/

/-- Settles O1, by the equation of a step whose queue has a front. -/
theorem stepRunsFront : Obligations.StepRunsFront := by
  unfold Obligations.StepRunsFront
  exact fun _ _ _ h => step_of_pending_cons h

/-- Settles O2: the step is the tick, whose only other effects are the pad stalls; a calm state is the first case of `State.settle`. -/
theorem emptyQueueTicks : Obligations.EmptyQueueTicks := by
  unfold Obligations.EmptyQueueTicks
  refine ⟨fun s hq hpor hclk => ⟨s.tick, step_of_pending_nil hq, ?_⟩, fun s hcalm => ?_⟩
  · obtain ⟨hc, hg, hs, hm, hp⟩ := State.stalls_frame { s with clk := s.clk.tick }
    rw [State.tick_of_clocked hpor hclk]
    exact ⟨congrArg Clock.cyc hc, hp.trans hq, hg, hs, hm⟩
  · simp [State.settle, hcalm]

/-- Settles O3: a command runs on the state whose queue is the rest, and keeps it; a cycle without one keeps the empty queue. -/
theorem queueServedInOrder : Obligations.QueueServedInOrder := by
  unfold Obligations.QueueServedInOrder
  refine ⟨exec_next_pending, fun s t h => ?_⟩
  cases hq : s.pending with
  | nil =>
    rw [step_of_pending_nil hq] at h
    cases h
    exact (State.tick_kept s).1.trans hq
  | cons c rest =>
    rw [step_of_pending_cons hq] at h
    obtain ⟨u, hu, hp⟩ := exec_next_pending c { s with pending := rest }
    cases hu.symm.trans h
    exact hp

end Sys2Proof.Machine
end

section
/-!
PROOF. What every command keeps (03, 06, 14): the mailboxes outside the commands that reach or reset one, the life-cycle state outside power-on reset,
the canonical form of the inner pages; and MailboxFrame, LifeCycleLatched, InnerPagesKeptCanonical from it.
-/

namespace Sys2Proof.Machine

/-! ### Mailboxes and the life-cycle state -/

/-- Settles O10, by the `_kept` lemma of each command's meaning. -/
theorem mailboxFrame : Obligations.MailboxFrame := by
  unfold Obligations.MailboxFrame
  intro c s t hwrite hread hselw hdone hdata hflr hpor h
  suffices hk : ∃ u, exec c s = .next u ∧ u.mbx = s.mbx by
    obtain ⟨u, hu, hm⟩ := hk
    cases hu.symm.trans h
    exact hm
  cases c <;> refine ⟨_, rfl, ?_⟩
  case registerWrite a v => exact absurd rfl (hwrite a v)
  case mbxSelRead ap cls idx => exact absurd rfl (hread ap cls idx)
  case mbxSelWrite ap cls idx => exact absurd rfl (hselw ap cls idx)
  case mbxCaptureDone ap ecc => exact absurd rfl (hdone ap ecc)
  case mbxDataWrite ap k v => exact absurd rfl (hdata ap k v)
  case flr f => exact absurd rfl (hflr f)
  case porAssert => exact absurd rfl hpor
  all_goals simp

/-- Settles O58, by the `_store` or `_life` lemma of each command's meaning. -/
theorem lifeCycleLatched : Obligations.LifeCycleLatched := by
  unfold Obligations.LifeCycleLatched
  intro c s t hassert hrelease h
  suffices hk : ∃ u, exec c s = .next u ∧ u.fuse.lifecycle = s.fuse.lifecycle by
    obtain ⟨u, hu, hl⟩ := hk
    cases hu.symm.trans h
    exact hl
  cases c <;> refine ⟨_, rfl, ?_⟩
  case porAssert => exact absurd rfl hassert
  case porRelease i => exact absurd rfl (hrelease i)
  all_goals simp

/-! ### Inner pages -/

/-- What a register command does behind its gate keeps the canonical form, so the command does. -/
theorem State.regCommand_wf {s : State} {ok : Bool} {ap : Aperture} {pl : Place} {o : Nat} {f : State → State}
    (hf : ∀ z, pagesWf z.ins.pages = true → pagesWf (f z).ins.pages = true) (h : pagesWf s.ins.pages = true) :
    pagesWf (s.given ok fun s => s.atReg ap pl o f).settle.ins.pages = true :=
  State.settle_wf _ (State.given_wf _ _ _ (fun _ hz => State.atReg_wf _ _ _ _ _ hf hz) h)

theorem State.liveCommand_wf {s : State} {ok : Bool} {f : State → State}
    (hf : ∀ z, pagesWf z.ins.pages = true → pagesWf (f z).ins.pages = true) (h : pagesWf s.ins.pages = true) :
    pagesWf (s.live ok f).settle.ins.pages = true :=
  State.settle_wf _ (State.live_wf _ _ _ hf h)

theorem State.shaftCommand_wf {s : State} {k : Nat} {f : State → State}
    (hf : ∀ z, pagesWf z.ins.pages = true → pagesWf (f z).ins.pages = true) (h : pagesWf s.ins.pages = true) :
    pagesWf (s.shaftIn k f).settle.ins.pages = true :=
  State.settle_wf _ (State.shaftIn_wf _ _ _ hf h)

theorem exec_pagesWf (c : Instr) {s : State} (h : pagesWf s.ins.pages = true) : ∃ t, exec c s = .next t ∧ pagesWf t.ins.pages = true := by
  cases c <;> refine ⟨_, rfl, ?_⟩
  case registerWrite a v => exact State.settle_wf _ (State.given_wf _ _ _ (registerWrite_wf a v) h)
  case qpwrOkRise q => exact State.settle_wf _ (State.given_wf _ _ _ (qpwrOkRise_wf q) h)
  case porAssert => rfl
  case mbxDataWrite | seamCreate | seamSeal | seamUnseal | seamRekey | seamRetire | seamFree | seamUnfreeze | tsRestart | tsRekey | yfRevive
      | faceArm | faceDisarm | faceClear | talSignalAdd | talSignalMax | talPair | talUnpair | talQuery
      | wndLoad | wndStart | wndResume | wndStop | wndUnload | movBind | movStart | movAbort | movDestroy | movRef | movUnref | movDoorbell
      | ctxOpen | ctxRetire | hstRemove | hstDirtyEnable | hstDirtyDisable | hstMigOffer | hstMigAccept | hstMigFinish
      | vltOrigin | vltRetire | vltZeroise | lcsTransition | lcsScrap | lseReload | lseMove | fltEngine | fltPartition | fltChip | fltTray =>
    exact State.regCommand_wf (fun z hz => by simp [hz]) h
  case writeTokenArrive | counterFetchDone | refreshDone | innerPageAccess | shareZeroDone | homeRequest | entryFreed | ticketLapse
      | lockWaitTimeout | cartPrepare | cartSolo | cartDecide | cartCommit | cartAbort | cartQuery | cartAnswer | cartQueryRepeat
      | cartLeadTimeout | removeComplete | chipResetRelease =>
    exact State.liveCommand_wf (fun z hz => by simp [hz]) h
  case shaftRead | padReady | hubReadReturn | correctionVerdict | shaftWrite | partialOldLineReturn =>
    exact State.shaftCommand_wf (fun z hz => by simp [hz]) h
  all_goals simp [h]

/-- Settles O21: a command keeps the form by `exec_pagesWf`, and a cycle without one leaves the pages alone. -/
theorem innerPagesKeptCanonical : Obligations.InnerPagesKeptCanonical := by
  unfold Obligations.InnerPagesKeptCanonical
  intro s t hs h
  cases hq : s.pending with
  | nil =>
    rw [step_of_pending_nil hq] at h
    cases h
    exact (congrArg pagesWf (State.tick_store s).1).trans hs
  | cons c rest =>
    rw [step_of_pending_cons hq] at h
    obtain ⟨u, hu, hp⟩ := exec_pagesWf c (s := { s with pending := rest }) hs
    cases hu.symm.trans h
    exact hp

end Sys2Proof.Machine
end

section
/-!
PROOF. The phases of a mailbox (03, R54 to R56): what a selection, a capture and a data word make of an instance in one phase is one again; no other
command makes an instance anything but its reset value; and MailboxPhaseKept from it.
-/

namespace Sys2Proof

theorem Tab.mem_of_find {α : Type} {t : Tab α} {k : Nat} {v : α} (h : t.find k = some v) : (k, v) ∈ t := by
  induction t with
  | nil => simp [Tab.find] at h
  | cons p t ih =>
    obtain ⟨j, a⟩ := p
    simp only [Tab.find] at h
    split at h
    · next e => cases h; subst e; exact List.mem_cons_self ..
    · split at h
      · cases h
      · exact List.mem_cons_of_mem _ (ih h)

namespace Machine

/-! ### One instance -/

/-- The three conditions of a phase, apart. -/
theorem Mbx.ok_iff (m : Mbx) : m.ok = true ↔
    (m.busy = true → m.valid = false ∧ m.opened = false ∧ m.done = false) ∧ (m.opened = true → m.valid = true ∧ m.sel.getLsbD 31 = true) ∧
      m.words = classWords (mbxClass m.sel) := by
  rw [Mbx.ok]
  cases m.busy <;> cases m.valid <;> cases m.opened <;> cases m.done <;> simp

theorem State.MbxOk.mbxAt {s : State} (h : s.MbxOk) (a : Nat) : (s.mbxAt a).ok = true := by
  rw [State.mbxAt, Tab.getD]
  cases hf : s.mbx.find a with
  | none => rfl
  | some m => exact h (a, m) (Tab.mem_of_find hf)

theorem State.MbxOk.of_mbx_eq {s t : State} (h : s.MbxOk) (heq : t.mbx = s.mbx) : t.MbxOk := by
  unfold State.MbxOk
  rw [heq]
  exact h

theorem State.MbxOk.modMbx {s : State} {a : Nat} {f : Mbx → Mbx} (h : s.MbxOk) (hf : (f (s.mbxAt a)).ok = true) : (s.modMbx a f).MbxOk := by
  intro x hx
  rcases Tab.mem_put s.mbx a _ x hx with rfl | hold
  · exact hf
  · exact h x hold

/-! ### The mailbox commands -/

theorem State.MbxOk.mbxSelect {s : State} (h : s.MbxOk) (ap : Aperture) (sel : Word) : (s.mbxSelect ap sel).MbxOk := by
  refine h.modMbx ?_
  have hm := h.mbxAt (apIdx ap)
  rw [Mbx.ok_iff] at hm
  split
  · rwa [Mbx.ok_iff]
  · simp [Mbx.ok_iff]

theorem State.MbxOk.mbxCaptureDone {s : State} (h : s.MbxOk) (ap : Aperture) (ecc : Ecc) : (mbxCaptureDone ap ecc s).MbxOk := by
  have ht : (s.captureRead ap ecc).MbxOk := h.of_mbx_eq (State.captureRead_kept s ap ecc).2
  refine ht.modMbx ?_
  have hm := ht.mbxAt (apIdx ap)
  extract_lets e
  split
  · exact hm
  · obtain ⟨hbusy, hopen, hwords⟩ := (Mbx.ok_iff _).mp hm
    split
    · exact (Mbx.ok_iff _).mpr ⟨nofun, hopen, hwords⟩
    · exact (Mbx.ok_iff _).mpr ⟨nofun, fun hsel => ⟨rfl, hsel⟩, hwords⟩

/-- A write is open on an instance that is not busy, so its end, taken or refused, shows a result. -/
theorem State.MbxOk.closeWrite {s : State} (h : s.MbxOk) {a : Nat} {m : Mbx} (hm : s.mbxAt a = m) (hopen : m.opened = true) :
    (s.modMbx a fun m => { m with opened := false, done := true }).MbxOk ∧
      (s.modMbx a fun m => { m with opened := false, fail := true, err := 6 }).MbxOk := by
  subst hm
  obtain ⟨hbusy, -, hwords⟩ := (Mbx.ok_iff _).mp (h.mbxAt a)
  have hidle : (s.mbxAt a).busy ≠ true := fun hb => by simp [(hbusy hb).2.1] at hopen
  exact ⟨h.modMbx ((Mbx.ok_iff _).mpr ⟨fun hb => absurd hb hidle, nofun, hwords⟩),
    h.modMbx ((Mbx.ok_iff _).mpr ⟨fun hb => absurd hb hidle, nofun, hwords⟩)⟩

theorem State.MbxOk.mbxDataWrite {s : State} (h : s.MbxOk) (ap : Aperture) (k : Nat) (v : Word) : (mbxDataWrite ap k v s).MbxOk := by
  unfold Machine.mbxDataWrite
  extract_lets a m data t
  split
  · exact h
  · next hopen =>
    have hopen : m.opened = true := by simpa using (not_or.mp hopen).1
    have ht : t.MbxOk := h.modMbx (h.mbxAt a)
    have hta : (t.mbxAt a).opened = true := by rw [State.modMbx_mbxAt]; exact hopen
    split
    · exact ht
    · split
      · next u hu =>
        have hmbx : u.mbx = t.mbx := (State.writeObject_kept _ _ _ _ _ hu).2
        have hua : (u.mbxAt a).opened = true := by rw [State.mbxAt, hmbx]; exact hta
        exact ((ht.of_mbx_eq hmbx).closeWrite rfl hua).1
      · exact (ht.closeWrite rfl hta).2

/-! ### Register writes -/

/-- A command register outside the mailbox leaves the mailboxes alone. -/
theorem State.writeCommand_mbx {s t : State} {ap : Aperture} {pl : Place} {o : Nat} {v : Word} (hpl : pl ≠ .mbx)
    (h : s.writeCommand ap pl o v = some t) : t.mbx = s.mbx := by
  unfold State.writeCommand at h
  split at h <;> simp only [Option.map_eq_some_iff, Option.some.injEq, reduceCtorEq] at h
  case h_16 => exact absurd rfl hpl
  case h_17 => exact absurd rfl hpl
  case h_19 =>
    obtain ⟨c, -, rfl⟩ := h
    exact (movDoorbell_kept _ _ _ _).2
  all_goals
    subst h
    repeat' split
    all_goals simp

theorem State.MbxOk.writeCommand {s t : State} (h : s.MbxOk) {ap : Aperture} {pl : Place} {o : Nat} {v : Word}
    (ht : s.writeCommand ap pl o v = some t) : t.MbxOk := by
  by_cases hpl : pl = .mbx
  · subst hpl
    cases o with
    | zero =>
      cases ht
      exact h.mbxSelect ap v
    | succ o =>
      cases ht
      cases hk : slotAt (o + 1) 0x20 4 8 with
      | none => exact h
      | some k => exact h.mbxDataWrite ap k v
  · exact h.of_mbx_eq (State.writeCommand_mbx hpl ht)

theorem State.MbxOk.atReg {s : State} (h : s.MbxOk) {ap : Aperture} {pl : Place} {o : Nat} {f : State → State}
    (hf : ∀ z : State, z.MbxOk → (f z).MbxOk) : (s.atReg ap pl o f).MbxOk := by
  unfold State.atReg
  split
  · exact h.of_mbx_eq (State.logRefused_kept s ap).2
  · split
    · exact h
    · split
      · exact h
      · exact hf s h

theorem State.MbxOk.given {s : State} (h : s.MbxOk) {ok : Bool} {f : State → State} (hf : ∀ z : State, z.MbxOk → (f z).MbxOk) :
    (s.given ok f).MbxOk := by
  unfold State.given
  split
  · exact hf s h
  · exact h

theorem State.MbxOk.live {s : State} (h : s.MbxOk) {ok : Bool} {f : State → State} (hf : ∀ z : State, z.MbxOk → (f z).MbxOk) :
    (s.live ok f).MbxOk := by
  unfold State.live
  split
  · exact hf s h
  · exact h

theorem State.MbxOk.settle {s : State} (h : s.MbxOk) : s.settle.MbxOk := h.of_mbx_eq (State.settle_kept s).2

theorem State.MbxOk.writeAt {s : State} (h : s.MbxOk) (ap : Aperture) (off : Nat) (v : Word) : (s.writeAt ap off v).MbxOk := by
  unfold State.writeAt
  extract_lets pl o
  split
  · exact h.of_mbx_eq (aliasWrite_kept ap off v s).2
  · split
    · exact h.of_mbx_eq (dwComplementWrite_kept ap off v s).2
    · split
      · exact h.of_mbx_eq (dwFirstWrite_kept ap off v s).2
      · refine h.atReg fun z hz => ?_
        cases hc : z.writeCommand ap pl o v with
        | none => exact hz.of_mbx_eq (State.writeField_kept z ap pl o v).2
        | some t => exact hz.writeCommand hc

theorem State.MbxOk.registerWrite {s : State} (h : s.MbxOk) (a : Access) (v : Word) : (registerWrite a v s).MbxOk := by
  unfold Machine.registerWrite
  split
  · exact h
  · split
    · exact h.of_mbx_eq (State.logRefused_kept s a.ap).2
    · split
      · exact h.of_mbx_eq (State.accessError_kept _ _ _ _).2
      · exact h.writeAt a.ap a.off v

/-! ### Resets -/

/-- An FLR of PF0 resets the operator's instance; one of another function leaves the mailboxes alone. -/
theorem State.MbxOk.flr {s : State} (h : s.MbxOk) (fn : FlrFn) : (flr fn s).MbxOk := by
  cases fn with
  | pf0 =>
    intro x hx
    have hmbx : (State.insecure { s with hst := { s.hst with flr := s.hst.flr ++ [.pf0] } } 16 true).mbx = s.mbx := (State.insecure_kept _ _ _).2
    exact h x (hmbx ▸ Tab.mem_erase _ _ x hx)
  | pf p => exact h.of_mbx_eq (State.flrPart_kept _ _).2
  | vf p v => exact h.of_mbx_eq (State.flrVf_kept _ _ _).2

/-! ### The obligation -/

/-- The commands that reach or reset a mailbox keep its phase; every other leaves the mailboxes alone. -/
theorem exec_mbxOk (c : Instr) {s t : State} (hs : s.MbxOk) (h : exec c s = .next t) : t.MbxOk := by
  by_cases hwrite : ∃ a v, c = .registerWrite a v
  · obtain ⟨a, v, rfl⟩ := hwrite
    cases h
    exact (hs.given fun z hz => hz.registerWrite a v).settle
  by_cases hread : ∃ ap cls idx, c = .mbxSelRead ap cls idx
  · obtain ⟨ap, cls, idx, rfl⟩ := hread
    cases h
    exact hs.given fun z hz => hz.atReg fun y hy => hy.mbxSelect ap _
  by_cases hselw : ∃ ap cls idx, c = .mbxSelWrite ap cls idx
  · obtain ⟨ap, cls, idx, rfl⟩ := hselw
    cases h
    exact hs.given fun z hz => hz.atReg fun y hy => hy.mbxSelect ap _
  by_cases hdone : ∃ ap ecc, c = .mbxCaptureDone ap ecc
  · obtain ⟨ap, ecc, rfl⟩ := hdone
    cases h
    exact hs.given fun z hz => hz.atReg fun y hy => hy.mbxCaptureDone ap ecc
  by_cases hdata : ∃ ap k v, c = .mbxDataWrite ap k v
  · obtain ⟨ap, k, v, rfl⟩ := hdata
    cases h
    exact (hs.given fun z hz => hz.atReg fun y hy => hy.mbxDataWrite ap k v).settle
  by_cases hflr : ∃ fn, c = .flr fn
  · obtain ⟨fn, rfl⟩ := hflr
    cases h
    exact (hs.live fun z hz => hz.flr fn).settle
  by_cases hpor : c = .porAssert
  · subst hpor
    cases h
    exact nofun
  exact hs.of_mbx_eq (mailboxFrame c s t (fun a v e => hwrite ⟨a, v, e⟩) (fun ap w i e => hread ⟨ap, w, i, e⟩)
    (fun ap w i e => hselw ⟨ap, w, i, e⟩) (fun ap e he => hdone ⟨ap, e, he⟩) (fun ap k v e => hdata ⟨ap, k, v, e⟩) (fun f e => hflr ⟨f, e⟩) hpor h)

/-- Settles O9: a command keeps every phase by `exec_mbxOk`, and a cycle without one leaves the mailboxes alone. -/
theorem mailboxPhaseKept : Obligations.MailboxPhaseKept := by
  unfold Obligations.MailboxPhaseKept
  intro s t hs h
  cases hq : s.pending with
  | nil =>
    rw [step_of_pending_nil hq] at h
    cases h
    exact hs.of_mbx_eq (State.tick_kept s).2
  | cons c rest =>
    rw [step_of_pending_cons hq] at h
    exact exec_mbxOk c (s := { s with pending := rest }) hs h

end Machine
end Sys2Proof
end

section
/-!
PROOF. Bytes of inner pages (06, R143, R145): reading a table after an erasure and after a byte is put, then after a run of bytes, and
InnerWriteReadsBack from it.
-/

namespace Sys2Proof

/-! ### Tables -/

theorem Tab.find_eq_none_of_lt {α : Type} {t : Tab α} {k : Nat} (h : ∀ x ∈ t, k < x.1) : t.find k = none := by
  cases t with
  | nil => rfl
  | cons p t =>
    have hp : k < p.1 := h p (List.mem_cons_self ..)
    simp [Tab.find, hp, Nat.ne_of_gt hp]

theorem Tab.find_erase_same {α : Type} {t : Tab α} (k : Nat) (hw : t.wf = true) : (t.erase k).find k = none := by
  induction t with
  | nil => rfl
  | cons p t ih =>
    obtain ⟨j, a⟩ := p
    obtain ⟨hlt, hwt⟩ := (Tab.wf_cons_iff j a t).mp hw
    by_cases e : j = k
    · subst e
      rw [Tab.erase, if_pos rfl]
      exact Tab.find_eq_none_of_lt hlt
    · simp [Tab.erase, Tab.find, e, ih hwt]

theorem Tab.find_erase_other {α : Type} {t : Tab α} {k x : Nat} (hx : x ≠ k) (hw : t.wf = true) : (t.erase k).find x = t.find x := by
  induction t with
  | nil => rfl
  | cons p t ih =>
    obtain ⟨j, a⟩ := p
    obtain ⟨hlt, hwt⟩ := (Tab.wf_cons_iff j a t).mp hw
    by_cases e : j = k
    · subst e
      rw [Tab.erase, if_pos rfl, Tab.find, if_neg (Ne.symm hx)]
      split
      · next hxj => exact Tab.find_eq_none_of_lt fun y hy => Nat.lt_trans hxj (hlt y hy)
      · rfl
    · simp [Tab.erase, Tab.find, e, ih hwt]

namespace Machine

/-! ### One byte -/

theorem pagesWf_wf {t : Tab Byte} (h : pagesWf t = true) : t.wf = true := (Bool.and_eq_true_iff.mp h).1

theorem putInner_getD_same {t : Tab Byte} (h : pagesWf t = true) (a : Nat) (b : Byte) : (putInner t a b).getD a 0 = b := by
  unfold putInner
  split
  · next hb => rw [Tab.getD, Tab.find_erase_same a (pagesWf_wf h), hb]; rfl
  · exact Tab.getD_put_same t a b 0

theorem putInner_getD_other {t : Tab Byte} (h : pagesWf t = true) {a x : Nat} (hx : x ≠ a) (b : Byte) :
    (putInner t a b).getD x 0 = t.getD x 0 := by
  unfold putInner
  split
  · rw [Tab.getD, Tab.find_erase_other hx (pagesWf_wf h), Tab.getD]
  · exact Tab.getD_put_other t a x b 0 hx (pagesWf_wf h)

/-- One place of a run of bytes at a: `none` leaves its byte as it is. -/
def putByte (a : Nat) (t : Tab Byte) (x : Option Byte × Nat) : Tab Byte :=
  match x.1 with
  | some b => putInner t (a + x.2) b
  | none => t

theorem putByte_wf (a : Nat) (t : Tab Byte) (x : Option Byte × Nat) (h : pagesWf t = true) : pagesWf (putByte a t x) = true := by
  obtain ⟨_ | b, i⟩ := x
  · exact h
  · exact putInner_wf t (a + i) b h

theorem putByte_getD_other (a : Nat) {t : Tab Byte} (h : pagesWf t = true) (y : Option Byte) {i x : Nat} (hx : y = none ∨ x ≠ a + i) :
    (putByte a t (y, i)).getD x 0 = t.getD x 0 := by
  cases y with
  | none => rfl
  | some b => exact putInner_getD_other h (hx.resolve_left nofun) b

/-! ### A run of bytes -/

/-- The run written from place n on, by induction on the bytes. -/
theorem foldl_putByte_getD_other (a : Nat) (l : List (Option Byte)) (n : Nat) {t : Tab Byte} (h : pagesWf t = true) {x : Nat}
    (hx : ∀ i, x = a + (n + i) → l[i]? = none ∨ l[i]? = some none) :
    ((l.zipIdx n).foldl (putByte a) t).getD x 0 = t.getD x 0 := by
  induction l generalizing n t with
  | nil => rfl
  | cons y l ih =>
    have hy : y = none ∨ x ≠ a + n := by
      refine Classical.byContradiction fun hc => ?_
      obtain ⟨hsome, hat⟩ := not_or.mp hc
      simpa [hsome] using hx 0 (Classical.not_not.mp hat)
    rw [List.zipIdx_cons, List.foldl_cons, ih (n + 1) (putByte_wf a t (y, n) h), putByte_getD_other a h y hy]
    exact fun i hi => hx (i + 1) (by omega)

theorem foldl_putByte_getD_same (a : Nat) (l : List (Option Byte)) (n : Nat) {t : Tab Byte} (h : pagesWf t = true) {i : Nat} {b : Byte}
    (hb : l[i]? = some (some b)) : ((l.zipIdx n).foldl (putByte a) t).getD (a + (n + i)) 0 = b := by
  induction l generalizing n t i with
  | nil => cases hb
  | cons y l ih =>
    have hw : pagesWf (putByte a t (y, n)) = true := putByte_wf a t (y, n) h
    rw [List.zipIdx_cons, List.foldl_cons]
    cases i with
    | zero =>
      cases hb
      rw [foldl_putByte_getD_other a l (n + 1) hw fun i hi => by omega]
      exact putInner_getD_same h (a + n) b
    | succ i =>
      rw [show a + (n + (i + 1)) = a + (n + 1 + i) by omega]
      exact ih (n + 1) hw hb

theorem State.writeInner_pages (s : State) (p addr : Nat) (l : List (Option Byte)) :
    (s.writeInner p addr l).ins.pages = l.zipIdx.foldl (putByte (addr % 2 ^ 44)) s.ins.pages := by
  have hrun : (l.zip (List.range l.length)) = l.zipIdx := by rw [List.zipIdx_eq_zip_range', List.range_eq_range']
  unfold State.writeInner
  rw [hrun]
  split
  · exact (State.markDirty_store _ _ _ _).1
  · rfl

/-- Settles O20: the pages after the write are the run of bytes put one after the other. -/
theorem innerWriteReadsBack : Obligations.InnerWriteReadsBack := by
  unfold Obligations.InnerWriteReadsBack
  intro s p addr l hs
  refine ⟨State.writeInner_wf s p addr l hs, fun i b hb => ?_, fun x hx => ?_⟩
  · have hrun := foldl_putByte_getD_same (addr % 2 ^ 44) l 0 hs hb
    rwa [Nat.zero_add, ← State.writeInner_pages s p] at hrun
  · rw [State.writeInner_pages]
    exact foldl_putByte_getD_other (addr % 2 ^ 44) l 0 hs fun i hi => hx i (by omega)

end Machine
end Sys2Proof
end

section
/-!
PROOF. A tally only rises (11, R287 to R290): a signal stores at most one record and no answer to a waiter touches one, and SignalNeverLowers from it.
-/

namespace Sys2Proof.Machine

/-! ### What leaves the tallies alone -/

@[simp] theorem State.irqVis_tal (s : State) (b : Blk) (p bit : Nat) : (s.irqVis b p bit).tal = s.tal := by
  unfold State.irqVis
  induction seeing p generalizing s with
  | nil => rfl
  | cons a l ih => exact ih _

@[simp] theorem State.raise_tal (s : State) (code scope part : Nat) (ctx : Option (BitVec 16)) (o : Obj) :
    (s.raise code scope part ctx o).tal = s.tal := by simp [State.raise]

@[simp] theorem State.answerTo_tal (s : State) (a : Answer) (dst fmt : Nat) (ctx : Option (BitVec 16)) :
    (s.answerTo a dst fmt ctx).tal = s.tal := by
  unfold State.answerTo
  split
  · rfl
  · split
    · exact State.raise_tal ..
    · rfl

@[simp] theorem State.answerWait_tal (s : State) (g : Registration) (code : Nat) (v : Dword) : (s.answerWait g code v).tal = s.tal :=
  State.answerTo_tal ..

@[simp] theorem State.releaseWaits_tally (s : State) (n : Nat) (p : Registration → Bool) (code : Nat) (v : Dword) (k : Nat) :
    (s.releaseWaits n p code v).tally k = s.tally k := by
  have hfold (l : List Registration) (t : State) : (l.foldl (fun s g => s.answerWait g code v) t).tal = t.tal := by
    induction l generalizing t with
    | nil => rfl
    | cons g l ih => exact (ih _).trans (State.answerWait_tal t g code v)
  rw [State.tally, State.tally, State.releaseWaits, hfold]

@[simp] theorem State.irqVis_tally (s : State) (b : Blk) (p bit k : Nat) : (s.irqVis b p bit).tally k = s.tally k := by
  rw [State.tally, State.irqVis_tal, State.tally]

/-! ### The record stored -/

theorem State.putTally_tally {s : State} {n : Nat} {r : TallyRec} (h : r ≠ {}) : (s.putTally n r).tally n = r := by
  rw [State.tally, State.putTally, if_neg h]
  exact Tab.getD_put_same ..

/-- A stored value is never read as less: a record that is not kept is the one an absent record reads as. -/
theorem State.le_putTally_value (s : State) (n : Nat) (r : TallyRec) : r.value.toNat ≤ ((s.putTally n r).tally n).value.toNat := by
  by_cases h : r = {}
  · simp [h]
  · exact Nat.le_of_eq (by rw [State.putTally_tally h])

/-- Settles O40: a refused signal stores nothing, a spent record holds the highest value, a stale signal leaves the value, and a value that is
taken is at least the old one: the higher of the two for SIGNAL_MAX, a sum within 64 bits for SIGNAL_ADD. -/
theorem signalNeverLowers : Obligations.SignalNeverLowers := by
  unfold Obligations.SignalNeverLowers
  intro s part n max x
  have hrise (r : TallyRec) (h : (s.tally n).value.toNat ≤ r.value.toNat) :
      (s.tally n).value.toNat ≤ ((s.putTally n r).tally n).value.toNat := Nat.le_trans h (s.le_putTally_value n r)
  unfold State.signal
  extract_lets r u us nv
  split
  · exact Nat.le_refl _
  split
  · exact Nat.le_refl _
  split
  · simpa using hrise { r with value := BitVec.allOnes 64, spent := true } (by simpa using Nat.le_sub_one_of_lt r.value.isLt)
  next hadd =>
  split
  · exact hrise { r with stale := satInc r.stale } (Nat.le_refl _)
  next hmax =>
  have hnv : r.value.toNat ≤ nv.toNat := by
    cases max with
    | true => simpa [nv] using hmax
    | false =>
      have hsum : x.toNat ≤ 2 ^ 64 - 1 - r.value.toNat := by simpa using hadd
      have hlt := r.value.isLt
      simp only [nv, Bool.false_eq_true, if_false, BitVec.toNat_add]
      omega
  split
  · simpa using hrise { r with value := nv } hnv
  · simp
end Sys2Proof.Machine
end

section
/-!
PROOF. The first decision of a cart (09, R246, R247): CartDecisionStands.
-/

namespace Sys2Proof.Machine

/-- Settles O35: `leadDecide` looks for the cart's decision first. -/
theorem cartDecisionStands : Obligations.CartDecisionStands := by
  unfold Obligations.CartDecisionStands
  intro s q code o homes d hd
  rw [State.leadDecide, if_pos (by rw [hd]; rfl)]

end Sys2Proof.Machine
end

section
/-!
PROOF. Register accesses (03, R40 to R48): what is left of a well-formed access in a ready block, and RegisterAccessCompletes from it.
-/

namespace Sys2Proof.Machine

/-! ### Through the gates -/

theorem State.Ready.silent {s : State} (h : s.Ready) (ap : Aperture) : s.silent ap = false := by
  simp [State.silent, h.por, h.life]

theorem accessKind_word {ap : Aperture} {off : Nat} (h : off % 4 = 0) : accessKind ⟨ap, off, 4, 15#4⟩ = none := by
  simp [accessKind, h]

theorem State.Ready.gateWrite {s : State} (h : s.Ready) {ap : Aperture} {off : Nat} (ht : s.tlpRefused ap = false)
    (hd : s.denies ap (placeOf ap off) (off % 65536) true = false) (f : State → State) : s.gateWrite ap off f = f s := by
  rw [State.gateWrite, h.atReg _ _ _ _ ht, if_neg (by simp [hd])]

/-- A well-formed access of a ready block, through an aperture that exists and whose TLPs are taken. -/
structure State.Accesses (s : State) (ap : Aperture) (off : Nat) : Prop where
  ready : s.Ready
  exists_ : apOk ap = true
  taken : s.tlpRefused ap = false
  aligned : off % 4 = 0

namespace State.Accesses

variable {s : State} {ap : Aperture} {off : Nat}

theorem exec_registerWrite (h : s.Accesses ap off) (v : Word) :
    exec (.registerWrite ⟨ap, off, 4, 0xF⟩ v) s = .next (s.writeAt ap off v).settle := by
  refine congrArg (fun t : State => Host.Outcome.next t.settle) ?_
  simp [State.given, h.exists_, registerWrite, h.ready.silent, h.taken, accessKind_word h.aligned]

theorem exec_registerRead (h : s.Accesses ap off) : exec (.registerRead ⟨ap, off, 4, 0xF⟩) s = .next (s.readAt ap off) := by
  refine congrArg Host.Outcome.next ?_
  simp [State.given, h.exists_, registerRead, h.ready.silent, h.taken, accessKind_word h.aligned]

theorem exec_rcRead (h : s.Accesses ap off) : exec (.rcRead ap off) s = .next (s.readAt ap off) := by
  refine congrArg Host.Outcome.next ?_
  simp [State.given, h.exists_, rcRead, h.ready.silent, h.taken, h.aligned]

/-- Both kinds of read answer with what the register at the offset gives. -/
theorem exec_reads (h : s.Accesses ap off) {t : State} (ht : s.readAt ap off = t) :
    exec (.registerRead ⟨ap, off, 4, 0xF⟩) s = .next t ∧ exec (.rcRead ap off) s = .next t := by
  subst ht
  exact ⟨h.exec_registerRead, h.exec_rcRead⟩

theorem readAt_of_allowed (h : s.Accesses ap off) (hd : s.denies ap (placeOf ap off) (off % 65536) false = false)
    (hs : s.snapDenied (apIdx ap) (viewOf ap) (placeOf ap off) (off % 65536) = false) :
    s.readAt ap off =
      if placeOf ap off = .aliasWin then s.emit (.regRead ap off (s.readAlias (off - 0x200_0000)))
      else if placeOf ap off = .doorbell ∨ 0x8000 ≤ off % 65536 then s.emit (.regRead ap off 0)
      else (s.readClear (viewOf ap) (placeOf ap off) (off % 65536)).answerRead ap off (s.readPlace ap (placeOf ap off) (off % 65536))
        (s.dataRead (apIdx ap) (placeOf ap off) (off % 65536)) := by
  simp [State.readAt, h.ready.responds, hd, hs]

end State.Accesses

/-! ### Single places -/

/-- The debug port has no aliased-bit window (R58). -/
theorem placeOf_debug_ne_aliasWin (off : Nat) : placeOf .debug off ≠ .aliasWin := by
  rw [placeOf]
  split
  · nofun
  · assumption

theorem denies_aliasWin_read {s : State} {ap : Aperture} {off : Nat} (h : placeOf ap off = .aliasWin) (o : Nat) :
    s.denies ap .aliasWin o false = false := by
  have hap : ap ≠ .debug := by
    rintro rfl
    exact placeOf_debug_ne_aliasWin off h
  simp [State.denies, hap]

/-- GLB_ registers of the operator layout are denied to the shut debug port only. -/
theorem denies_operator_glb (s : State) (o : Nat) (w : Bool) : s.denies .operator .glb o w = false := by
  simp [State.denies, Place.notDebug, Place.readOnly, Place.argMask]

/-- Settles O4: each kind of access is one branch of `writeAt` or `readAt`. -/
theorem registerAccessCompletes : Obligations.RegisterAccessCompletes := by
  unfold Obligations.RegisterAccessCompletes
  intro s ap off hr hap ht hoff pl o
  have hacc : s.Accesses ap off := ⟨hr, hap, ht, hoff⟩
  have hop {off : Nat} (ho : off % 4 = 0) : s.Accesses .operator off := ⟨hr, rfl, s.tlpRefused_operator, ho⟩
  refine ⟨fun v hal hlow hdw hden => ?field, fun v hal => ?window, fun v hal hlow hdw => ?first, fun v hal hdb hhigh => ?complement,
    fun hal hdb hlow hden hsnap => hacc.exec_reads ?read, fun hal => hacc.exec_reads ?readAlias,
    fun hal hzero hden hsnap => hacc.exec_reads ?readZero, fun v => ?scratch, ?readScratch, ?errCount⟩
  case field =>
    rw [hacc.exec_registerWrite, State.writeAt, if_neg hal, if_neg (by rintro ⟨hhigh, hdb⟩; exact hlow.elim (by omega) hdb),
      if_neg (by simp [pl, o, hdw]), hr.gateWrite ht hden]
  case window => rw [hacc.exec_registerWrite, State.writeAt, if_pos hal]
  case first => rw [hacc.exec_registerWrite, State.writeAt, if_neg hal, if_neg (by omega), if_pos hdw]
  case complement => rw [hacc.exec_registerWrite, State.writeAt, if_neg hal, if_pos ⟨hhigh, hdb⟩]
  case read => rw [hacc.readAt_of_allowed hden hsnap, if_neg hal, if_neg (not_or.mpr ⟨hdb, by omega⟩)]
  case readAlias =>
    have hpl : placeOf ap off = .aliasWin := hal
    rw [hacc.readAt_of_allowed (by rw [hpl]; exact denies_aliasWin_read hpl _) (by rw [hpl]; rfl), if_pos hal]
  case readZero => rw [hacc.readAt_of_allowed hden hsnap, if_neg hal, if_pos hzero]
  case scratch =>
    rw [(hop rfl).exec_registerWrite]
    exact congrArg (fun t : State => Host.Outcome.next t.settle) (hr.gateWrite (off := 0x110) s.tlpRefused_operator (denies_operator_glb s _ _)
      fun s => (s.writeCommand .operator .glb 0x110 v).getD (s.writeField .operator .glb 0x110 v))
  case readScratch =>
    rw [(hop rfl).exec_registerRead, (hop (off := 0x110) rfl).readAt_of_allowed (denies_operator_glb s _ _) rfl]
    rfl
  case errCount =>
    rw [(hop rfl).exec_rcRead, (hop (off := 0x38) rfl).readAt_of_allowed (denies_operator_glb s _ _) rfl]
    rfl

end Sys2Proof.Machine
end

section
/-!
PROOF. Dual writes (03, R50, R51): the first write, its complement and the window's end behind their gates, and DualWriteCompletes from it.
-/

namespace Sys2Proof.Machine

/-- A write that reaches its register is the function behind the gate. -/
theorem State.Reaches.gateWrite {s : State} {ap : Aperture} {off : Nat} (h : s.Reaches ap (placeOf ap off) (off % 65536)) (f : State → State) :
    s.gateWrite ap off f = f s :=
  h.1.gateWrite h.2.2.1 h.2.2.2 f

theorem State.Reaches.given {s : State} {ap : Aperture} {pl : Place} {o : Nat} (h : s.Reaches ap pl o) (f : State → State) :
    s.given (apOk ap) f = f s := by rw [State.given, if_pos h.2.1]

theorem State.Reaches.exec_dwFirstWrite {s : State} {ap : Aperture} {off : Nat} (h : s.Reaches ap (placeOf ap off) (off % 65536))
    (hdw : isDw ap (placeOf ap off) (off % 65536) = true) (v : Word) : exec (.dwFirstWrite ap off v) s = .next (s.dwFirst ap off v) := by
  refine congrArg Host.Outcome.next ((h.given _).trans ?_)
  rw [dwFirstWrite, if_pos hdw, h.gateWrite]

theorem State.Reaches.exec_dwComplementWrite {s : State} {ap : Aperture} {off : Nat} (h : s.Reaches ap (placeOf ap off) (off % 65536))
    (hhigh : 0x8000 ≤ off % 65536) (hdw : isDw ap (placeOf ap off) (off % 65536 - 0x8000) = true) (v : Word) :
    exec (.dwComplementWrite ap off v) s = .next (s.dwComplement ap off v).settle := by
  refine congrArg (fun t : State => Host.Outcome.next t.settle) ((h.given _).trans ?_)
  rw [dwComplementWrite, if_pos ⟨hhigh, hdw⟩, h.gateWrite]

theorem State.Reaches.exec_dwWindowExpire {s : State} {ap : Aperture} {pl : Place} {o : Nat} (h : s.Reaches ap pl o)
    (hp : (s.dwPending (apIdx ap)).isSome = true) : exec (.dwWindowExpire ap) s = .next (s.dropDw (apIdx ap)).dwFailed := by
  refine congrArg Host.Outcome.next ((h.given _).trans ?_)
  rw [dwWindowExpire, if_pos hp]

/-- Settles O6: a write of a DW register is its function behind the gate, and the pending value picks the branch. -/
theorem dualWriteCompletes : Obligations.DualWriteCompletes := by
  unfold Obligations.DualWriteCompletes
  intro s ap off h a p
  refine ⟨fun hdw hp v => ?first, fun hdw hp v => ?again, fun hhigh hdw => ⟨fun v hp => ?agrees, fun w hp => ?fails⟩, fun hp => ?expires,
    fun v hc => ?mode, fun v => rfl, fun v => ?canary, fun v => rfl⟩
  case first =>
    have hnone : (s.dwPending a).isSome = false := by rw [State.dwPending, show s.glb.dwPend.find a = none from hp]; rfl
    rw [h.exec_dwFirstWrite hdw, State.dwFirst]
    simp [a, hnone]
  case again =>
    have hsome : (s.dwPending a).isSome = true := hp
    rw [h.exec_dwFirstWrite hdw, State.dwFirst]
    simp [a, hsome, State.dwFailed]
  case agrees =>
    have hp : s.dwPending (apIdx ap) = some (off - 0x8000, v) := hp
    rw [h.exec_dwComplementWrite hhigh hdw, State.dwComplement, BitVec.not_not, if_pos hp]
    rfl
  case fails =>
    have hp : s.dwPending (apIdx ap) ≠ some (off - 0x8000, ~~~w) := hp
    rw [h.exec_dwComplementWrite hhigh hdw, State.dwComplement, if_neg hp]
    rfl
  case expires => exact h.exec_dwWindowExpire hp
  case mode => simp [State.dwApply, State.setMode, hc]
  case canary =>
    intro e r l he he' hr hr' hl
    exact if_pos ⟨he, he', hr, hr', hl⟩

end Sys2Proof.Machine
end

section
/-!
PROOF. The mailbox (03, R54 to R57): a data word of an object, the commands behind their gate, and MailboxCompletes from them.
-/

namespace Sys2Proof.Machine

/-! ### A data word -/

/-- The object of an open write with word k replaced. -/
def putWord (d : BitVec 256) (k : Nat) (v : Word) : BitVec 256 :=
  (d &&& ~~~((0xFFFFFFFF : BitVec 256) <<< (32 * k))) ||| (v.setWidth 256 <<< (32 * k))

/-- Bit i of word j of the object with word k replaced. -/
theorem putWord_getLsbD (d : BitVec 256) {k j i : Nat} (v : Word) (hk : k < 8) (hj : j < 8) (hi : i < 32) :
    (putWord d k v).getLsbD (32 * j + i) = if j = k then v.getLsbD i else d.getLsbD (32 * j + i) := by
  have hones (n : Nat) : (0xFFFFFFFF : BitVec 256).getLsbD n = decide (n < 32) := by
    rw [show (0xFFFFFFFF : BitVec 256) = (BitVec.allOnes 32).setWidth 256 by decide, BitVec.getLsbD_setWidth, BitVec.getLsbD_allOnes]
    by_cases hn : n < 32
    · simp [hn, show n < 256 by omega]
    · simp [hn]
  simp only [putWord, BitVec.getLsbD_or, BitVec.getLsbD_and, BitVec.getLsbD_not, BitVec.getLsbD_shiftLeft, BitVec.getLsbD_setWidth, hones]
  by_cases hjk : j = k
  · subst hjk
    simp [show 32 * j + i < 256 by omega, show ¬32 * j + i < 32 * j by omega, hi, show i < 256 by omega]
  · by_cases hlt : j < k
    · simp [hjk, show 32 * j + i < 32 * k by omega, show 32 * j + i < 256 by omega]
    · have hge : 32 ≤ 32 * j + i - 32 * k := by omega
      simp [hjk, show ¬32 * j + i < 32 * k by omega, show 32 * j + i < 256 by omega, hge]

theorem putWord_word_same (d : BitVec 256) {k : Nat} (v : Word) (hk : k < 8) : (putWord d k v).extractLsb' (32 * k) 32 = v := by
  refine BitVec.eq_of_getLsbD_eq fun i hi => ?_
  rw [BitVec.getLsbD_extractLsb', putWord_getLsbD d v hk hk hi]
  simp [hi]

theorem putWord_word_other (d : BitVec 256) {k j : Nat} (v : Word) (hk : k < 8) (hj : j < 8) (hjk : j ≠ k) :
    (putWord d k v).extractLsb' (32 * j) 32 = d.extractLsb' (32 * j) 32 := by
  refine BitVec.eq_of_getLsbD_eq fun i hi => ?_
  rw [BitVec.getLsbD_extractLsb', BitVec.getLsbD_extractLsb', putWord_getLsbD d v hk hj hi, if_neg hjk]

/-! ### Behind the gate -/

theorem State.Reaches.exec_mbxDataWrite {s : State} {ap : Aperture} (h : s.Reaches ap .mbx 0) (hm : hasMbx ap = true) {k : Nat} (hk : k < 8)
    (v : Word) : exec (.mbxDataWrite ap k v) s = .next (mbxDataWrite ap k v s).settle := by
  refine congrArg (fun t : State => Host.Outcome.next t.settle) (Eq.trans ?_ (h.mbxGate hm (mbxDataWrite ap k v)))
  simp [isWord, hk]

theorem mbxDataWrite_of_closed {s : State} {ap : Aperture} (h : (s.mbxAt (apIdx ap)).opened = false) (k : Nat) (v : Word) :
    mbxDataWrite ap k v s = s := by simp [mbxDataWrite, h]

theorem mbxDataWrite_of_open {s : State} {ap : Aperture} {m : Mbx} (hm : s.mbxAt (apIdx ap) = m) (ho : m.opened = true) {k : Nat} (hk : k < 8)
    (v : Word) :
    mbxDataWrite ap k v s =
      let t : State := { s with mbx := s.mbx.put (apIdx ap) { m with data := putWord m.data k v } }
      if k + 1 ≠ m.words then t
      else match t.writeObject ap (mbxClass m.sel) (mbxIndex m.sel) (putWord m.data k v) with
        | some u => u.modMbx (apIdx ap) fun m => { m with opened := false, done := true }
        | none => t.modMbx (apIdx ap) fun m => { m with opened := false, fail := true, err := 6 } := by
  subst hm
  unfold mbxDataWrite
  extract_lets a m data t
  rw [if_neg (by simp [m, a, ho, hk])]
  rfl

theorem State.captureRead_of_refused {s : State} {ap : Aperture} (h : s.mbxCheck ap (s.mbxAt (apIdx ap)).sel ≠ 0) (ecc : Ecc) :
    s.captureRead ap ecc = s := by simp [State.captureRead, h]

theorem mbxCaptureDone_of_refused {s : State} {ap : Aperture} {ecc : Ecc} {m : Mbx} (hm : s.mbxAt (apIdx ap) = m) (hb : m.busy = true)
    (he : s.mbxCheck ap m.sel ≠ 0) :
    mbxCaptureDone ap ecc s =
      { s with mbx := s.mbx.put (apIdx ap) { m with busy := false, fail := true, err := s.mbxCheck ap m.sel } } := by
  rw [mbxCaptureDone, State.captureRead_of_refused (hm ▸ he), State.modMbx_eq_put hm]
  simp [hb, he]

/-- Settles O7: the state of the instance picks the branch of each mailbox command. -/
theorem mailboxCompletes : Obligations.MailboxCompletes := by
  unfold Obligations.MailboxCompletes
  constructor
  · intro s ap h hmbx a m sel
    refine ⟨fun cls idx hidle => ?selRead, fun cls idx hidle => ?selWrite, fun ecc hbusy hcheck => ?capture, fun k v hopen hk => ?data⟩
    case selRead =>
      have hsel := h.exec_mbxSel hmbx false cls idx
      rwa [State.mbxSelect_of_idle hidle, mbxClass_selWord] at hsel
    case selWrite =>
      have hsel := h.exec_mbxSel hmbx true cls idx
      rwa [State.mbxSelect_of_idle hidle, mbxClass_selWord] at hsel
    case capture =>
      refine ⟨fun hc => State.captureRead_of_ne_tally hc ecc, ?_⟩
      rw [h.exec_mbxCaptureDone hmbx, mbxCaptureDone_of_passed rfl hbusy hcheck, (State.captureRead_kept s ap ecc).2]
    case data =>
      refine ⟨putWord m.data k v, putWord_word_same m.data v hk, fun j hj hjk => putWord_word_other m.data v hk hj hjk, fun hlow => ?_,
        fun u hlast hu => ?_, fun hlast hu => ?_⟩
      · rw [h.exec_mbxDataWrite hmbx hk, mbxDataWrite_of_open rfl hopen hk, if_pos hlow]
      · rw [h.exec_mbxDataWrite hmbx hk, mbxDataWrite_of_open rfl hopen hk, if_neg (Classical.not_not.mpr hlast), hu]
      · rw [h.exec_mbxDataWrite hmbx hk, mbxDataWrite_of_open rfl hopen hk, if_neg (Classical.not_not.mpr hlast), hu]
  · intro s ap h hmbx a m
    refine ⟨fun cls idx hbusy => ?selReadRefused, fun cls idx hbusy => ?selWriteRefused, fun k v hclosed => ?dataRefused, fun ecc hbusy hcheck => ?captureRefused⟩
    case selReadRefused =>
      have hsel := h.exec_mbxSel hmbx false cls idx
      rwa [State.mbxSelect_of_busy hbusy] at hsel
    case selWriteRefused =>
      have hsel := h.exec_mbxSel hmbx true cls idx
      rwa [State.mbxSelect_of_busy hbusy] at hsel
    case captureRefused => rw [h.exec_mbxCaptureDone hmbx, mbxCaptureDone_of_refused rfl hbusy hcheck]
    case dataRefused =>
      refine congrArg (fun t : State => Host.Outcome.next t.settle) ?_
      unfold State.given
      split
      · refine Eq.trans (h.1.atReg ap .mbx 0 _ h.2.2.1) ?_
        rw [if_neg (by simp [h.2.2.2]), mbxDataWrite_of_closed hclosed]
      · rfl

end Sys2Proof.Machine
end

section
/-!
PROOF. The aliased-bit window (03, R58 to R60): the window's words behind the gate, one bit of a word, and AliasWriteActsOnOneBit from them.
-/

namespace Sys2Proof.Machine

/-! ### One bit of a word -/

theorem getLsbD_one_shiftLeft {b j : Nat} (hb : b < 32) : ((1 : Word) <<< b).getLsbD j = decide (j = b) := by
  by_cases hj : j = b
  · subst hj
    simp [hb]
  · by_cases hlt : j < b
    · simp [hj, hlt]
    · simp [hj, hlt, show ¬j - b = 0 by omega]

theorem setBit_getLsbD (w : Word) {b : Nat} {j : Nat} (hj : j < 32) : (setBit w b).getLsbD j = (w.getLsbD j || decide (j = b)) := by
  have hone : ((1 <<< b : Nat) : Word).getLsbD j = decide (j = b) := by
    rw [BitVec.natCast_eq_ofNat, BitVec.getLsbD_ofNat, Nat.one_shiftLeft, Nat.testBit_two_pow]
    simp [hj, eq_comm]
  rw [setBit, BitVec.getLsbD_or, hone]

theorem putBit_getLsbD (w : Word) {b : Nat} (hb : b < 32) (x : Bool) {j : Nat} (hj : j < 32) :
    (putBit w b x).getLsbD j = if j = b then x else w.getLsbD j := by
  cases x
  · simp only [putBit, Bool.false_eq_true, if_false, BitVec.getLsbD_and, BitVec.getLsbD_not, getLsbD_one_shiftLeft hb, hj]
    by_cases hjb : j = b <;> simp [hjb]
  · simp only [putBit, if_true, setBit_getLsbD w hj]
    by_cases hjb : j = b <;> simp [hjb]

/-- Beyond a word's width every bit is clear. -/
theorem putBit_getLsbD_other (w : Word) {b j : Nat} (hb : b < 32) (x : Bool) (hjb : j ≠ b) : (putBit w b x).getLsbD j = w.getLsbD j := by
  by_cases hj : j < 32
  · rw [putBit_getLsbD w hb x hj, if_neg hjb]
  · rw [BitVec.getLsbD_of_ge _ _ (by omega), BitVec.getLsbD_of_ge _ _ (by omega)]

theorem putBit_getLsbD_same (w : Word) {b : Nat} (hb : b < 32) (x : Bool) : (putBit w b x).getLsbD b = x := by
  rw [putBit_getLsbD w hb x hb, if_pos rfl]

/-! ### The window -/

/-- Where the window of an aperture holds bit b of the register at A. -/
def aliasOff (A b : Nat) : Nat := 0x200_0000 + A * 128 + b * 4

theorem placeOf_aliasOff {ap : Aperture} (hap : ap = .operator ∨ ap = .lamp) {A b : Nat} (hA : A < 0x8000) (hb : b < 32) :
    placeOf ap (aliasOff A b) = .aliasWin := by
  have hlow : 0x200 ≤ aliasOff A b / 65536 := by unfold aliasOff; omega
  have hhigh : aliasOff A b / 65536 < 0x240 := by unfold aliasOff; omega
  have hop (n : Nat) (h : 0x200 ≤ n) (h' : n < 0x240) : opPlace n = .aliasWin := by
    unfold opPlace
    repeat rw [if_neg (by omega)]
    rw [if_pos (by omega)]
  rcases hap with rfl | rfl <;> exact hop _ hlow hhigh

theorem denies_aliasWin_write {s : State} {ap : Aperture} (hap : ap = .operator ∨ ap = .lamp) (o : Nat) :
    s.denies ap .aliasWin o true = false := by
  rcases hap with rfl | rfl <;> simp [State.denies, Place.notDebug, Place.readOnly, Place.argMask]

/-- A write of a word of the window is the write of its bit. -/
theorem State.Ready.exec_aliasWrite {s : State} (h : s.Ready) {ap : Aperture} (hap : ap = .operator ∨ ap = .lamp) {A b : Nat} (hA : A < 0x8000)
    (hb : b < 32) (v : Word) : exec (.aliasWrite ap (aliasOff A b) v) s = .next (s.aliasBit A b (v.getLsbD 0)) := by
  have hok : apOk ap = true := by rcases hap with rfl | rfl <;> rfl
  have ht : s.tlpRefused ap = false := by rcases hap with rfl | rfl <;> simp
  have hpl : placeOf ap (aliasOff A b) = .aliasWin := placeOf_aliasOff hap hA hb
  have hmul : aliasOff A b % 4 = 0 := by unfold aliasOff; omega
  refine congrArg Host.Outcome.next ?_
  rw [State.given, if_pos hok, aliasWrite, if_pos ⟨hpl, hmul⟩, h.gateWrite ht (by rw [hpl]; exact denies_aliasWin_write hap _), State.aliasAt]
  have hreg : (aliasOff A b - 0x2000000) / 128 = A := by unfold aliasOff; omega
  have hbit : (aliasOff A b - 0x2000000) % 128 / 4 = b := by unfold aliasOff; omega
  rw [hreg, hbit, if_pos hA]

/-! ### Single registers (Table 3.6) -/

theorem State.aliasBit_scratch (s : State) (b : Nat) (x : Bool) :
    s.aliasBit 0x110 b x = { s with glb := { s.glb with scratch := putBit s.glb.scratch b x } } := by
  simp [State.aliasBit, State.writeGlb]

theorem State.aliasBit_irqEn {s : State} {b : Nat} (hb : b < 9) (hc : s.glb.compat = false) (x : Bool) :
    s.aliasBit 0x104 b x = { s with glb := { s.glb with irqEn := putBit s.glb.irqEn b x &&& 0x1FF } } := by
  simp [State.aliasBit, State.writeGlb, State.writeEnable, State.setEnable, hb, hc]

theorem State.aliasBit_of_plain {s : State} {A b : Nat} {x : Bool} (hmode : A ≠ 0x10) (herr : A ≠ 0x34) (hirq : A ≠ 0x104) (hscr : A ≠ 0x110) :
    s.aliasBit A b x = s := by simp [State.aliasBit, hmode, herr, hirq, hscr]

/-- The nine bits of GLB_IRQ_ENABLE. -/
theorem getLsbD_irqMask {j : Nat} (hj : j < 9) : (0x1FF : Word).getLsbD j = true := by
  revert j
  decide

/-- Settles O11: the window's word is `aliasBit`, which has one case per register. -/
theorem aliasWriteActsOnOneBit : Obligations.AliasWriteActsOnOneBit := by
  unfold Obligations.AliasWriteActsOnOneBit
  intro s ap v h hap at_
  have hexec {A b : Nat} (hA : A < 0x8000) (hb : b < 32) : exec (.aliasWrite ap (at_ A b) v) s = .next (s.aliasBit A b (v.getLsbD 0)) :=
    h.exec_aliasWrite hap hA hb v
  refine ⟨fun A b hA hb => hexec hA hb, fun b hb => ?scratch, fun b hb hc => ?irqEn, fun hv => ?errInfo, ?mode,
    fun A b hmode herr hirq hscr => State.aliasBit_of_plain hmode herr hirq hscr⟩
  case scratch =>
    exact ⟨putBit s.glb.scratch b (v.getLsbD 0), putBit_getLsbD_same _ hb _, fun j hj => putBit_getLsbD_other _ hb _ hj,
      (hexec (by omega) hb).trans (by rw [State.aliasBit_scratch])⟩
  case irqEn =>
    have hb' : b < 32 := by omega
    refine ⟨putBit s.glb.irqEn b (v.getLsbD 0) &&& 0x1FF, ?_, fun j hj hj9 => ?_, (hexec (by omega) hb').trans (by rw [State.aliasBit_irqEn hb hc])⟩
    · rw [BitVec.getLsbD_and, getLsbD_irqMask hb, putBit_getLsbD_same _ hb', Bool.and_true]
    · rw [BitVec.getLsbD_and, getLsbD_irqMask hj9, putBit_getLsbD_other _ hb' _ hj, Bool.and_true]
  case errInfo =>
    refine (hexec (by omega) (by omega)).trans ?_
    simp [State.aliasBit, State.writeGlb, hv]
  case mode => exact (hexec (by omega) (by omega)).trans (by simp [State.aliasBit, State.dwFailed])

end Sys2Proof.Machine
end

section
/-!
PROOF. Seam commands (04, R80 to R85, R95, R99): each command behind its gate, and SeamCommandsComplete from them.
-/

namespace Sys2Proof.Machine

/-! ### Through the gate -/

/-- A register that a write reaches is the function behind its gate. -/
theorem State.Reaches.reg {s : State} {ap : Aperture} {pl : Place} {o : Nat} (h : s.Reaches ap pl o) {ok : Bool} (hok : ok = true)
    (f : State → State) : (s.given (apOk ap && ok) fun s => s.atReg ap pl o f) = f s := by
  obtain ⟨hr, hap, ht, hd⟩ := h
  rw [State.given, if_pos (by simp [hap, hok]), hr.atReg _ _ _ _ ht, if_neg (by simp [hd])]

/-- SEAM_CMD is denied to nobody. -/
theorem denies_seamCmd (s : State) {ap : Aperture} (hap : ap = .lamp ∨ ∃ p, ap = .part p) : s.denies ap .seam 0 true = false := by
  rcases hap with rfl | ⟨p, rfl⟩ <;> simp [State.denies, Place.notDebug, Place.readOnly, Place.argMask]

theorem State.Takes.reaches_seam {s : State} {ap : Aperture} (h : s.Takes .seam ap) (hap : ap = .lamp ∨ ∃ p, ap = .part p) :
    s.Reaches ap .seam 0 :=
  ⟨h.1, h.2.1, h.2.2.2, denies_seamCmd s hap⟩

theorem State.Takes.seamEnd {s : State} {ap : Aperture} (h : s.Takes .seam ap) (hap : ap = .lamp ∨ ∃ p, ap = .part p) (t : State) (n code : Nat) :
    t.seamEnd (apIdx ap) n code = t.cmdEnd .seam (apIdx ap) n code := by
  have hidx : apIdx ap < 64 := by
    rcases hap with rfl | ⟨p, rfl⟩
    · decide
    · have hp : 1 ≤ p ∧ p ≤ 6 := by simpa [apOk, isPart] using h.2.1
      change p < 64
      omega
  exact if_neg (Nat.not_le.mpr hidx)

theorem isSeam_of_lt {n : Nat} (hn : n < 256) : isSeam n = true := decide_eq_true hn

/-! ### CREATE -/

/-- CREATE behind the gate: the checks of R81, then the creation or the refusal. -/
theorem State.Takes.exec_seamCreate {s : State} {ap : Aperture} (h : s.Takes .seam ap) (hap : ap = .lamp ∨ ∃ p, ap = .part p) {n : Nat}
    (hn : n < 256) {r : Seam} {fill : Bool} (hreq : createReq s (apIdx ap) = (r, fill)) :
    exec (.seamCreate ap n) s = .next (if s.createCheck n r = 0 then s.createBegin (apIdx ap) n r fill
      else (if s.createCheck n r = 8 then s.noKey r.owner else s).seamEnd (apIdx ap) n (s.createCheck n r)).settle := by
  refine congrArg (fun t : State => Host.Outcome.next t.settle)
    (((h.reaches_seam hap).reg (isSeam_of_lt hn) (seamCreate ap n)).trans ?_)
  have hidle := h.2.2.1
  rcases hap with rfl | ⟨p, rfl⟩ <;> simp only [apIdx] at hidle hreq ⊢ <;> simp [seamCreate, State.command, hidle, hreq]

/-! ### The other commands -/

theorem State.TakesSeam.exec_seamSeal {s : State} {ap : Aperture} {n : Nat} (h : s.TakesSeam ap n) :
    exec (.seamSeal ap n) s = .next (if (s.seam n).state ≠ .loading ∨ (s.seam n).busy = true then s.seamEnd (apIdx ap) n 3
      else (s.sealBy (apIdx ap) n none).cmdBusy .seam (apIdx ap) n).settle := by
  refine congrArg (fun t : State => Host.Outcome.next t.settle) ((h.eq _).trans ?_)
  dsimp only
  split
  · next hno => rw [State.sealBy, if_pos hno]
  · rfl

theorem State.TakesSeam.exec_seamUnseal {s : State} {ap : Aperture} {n : Nat} (h : s.TakesSeam ap n) :
    exec (.seamUnseal ap n) s = .next (if (s.seam n).state ≠ .sealed ∨ (s.seam n).busy = true then s.seamEnd (apIdx ap) n 3
      else if (s.seam n).sealEp = BitVec.allOnes 36 then s.seamEnd (apIdx ap) n 0xC
      else if s.drbgOk = false then (s.noKey (s.seam n).owner).seamEnd (apIdx ap) n 8
      else ((s.modSeam n fun e => { e with busy := true, cmdAp := apIdx ap, job := .unseal ((s.arg .seam (apIdx ap) 0x14).getLsbD 18) }).cmdBusy
        .seam (apIdx ap) n).unsealGo n).settle := by
  refine congrArg (fun t : State => Host.Outcome.next t.settle) ((h.eq _).trans ?_)
  simp only [Bool.not_eq_eq_eq_not, Bool.not_true]

theorem State.TakesSeam.exec_seamRekey {s : State} {ap : Aperture} {n : Nat} (h : s.TakesSeam ap n) :
    exec (.seamRekey ap n) s = .next (if (s.seam n).state = .empty ∨ (s.seam n).state = .retiring ∨ (s.seam n).state = .dead ∨ (s.seam n).busy = true then
        s.seamEnd (apIdx ap) n 3
      else (s.wantDrift n 3 0 false).seamEnd (apIdx ap) n 0).settle := by
  refine congrArg (fun t : State => Host.Outcome.next t.settle) ((h.eq _).trans ?_)
  cases hs : (s.seam n).state <;> simp [hs]

theorem State.TakesSeam.exec_seamRetire_if {s : State} {ap : Aperture} {n : Nat} (h : s.TakesSeam ap n) :
    exec (.seamRetire ap n) s = .next (if (s.seam n).state = .empty ∨ (s.seam n).state = .retiring ∨ (s.seam n).state = .dead ∨ (s.seam n).busy = true then
        s.seamEnd (apIdx ap) n 3
      else (s.retireSeam n).seamEnd (apIdx ap) n 0).settle := by
  refine congrArg (fun t : State => Host.Outcome.next t.settle) ((h.eq _).trans ?_)
  cases hs : (s.seam n).state <;> simp [hs]

theorem State.TakesSeam.exec_seamFree {s : State} {ap : Aperture} {n : Nat} (h : s.TakesSeam ap n) :
    exec (.seamFree ap n) s = .next (if (s.seam n).state ≠ .dead ∨ (s.seam n).busy = true ∨ s.refsOn (.seam n) ≠ 0 then s.seamEnd (apIdx ap) n 3
      else { s with seams := s.seams.erase n }.seamEnd (apIdx ap) n 0).settle :=
  congrArg (fun t : State => Host.Outcome.next t.settle) (h.eq _)

theorem State.TakesSeam.exec_seamUnfreeze {s : State} {ap : Aperture} {n : Nat} (h : s.TakesSeam ap n) :
    exec (.seamUnfreeze ap n) s = .next (if (s.seam n).state = .empty ∨ (s.seam n).state = .drifting ∨ (s.seam n).busy = true then
        s.seamEnd (apIdx ap) n 3
      else (s.modSeam n fun e => { e with frozen := false }).seamEnd (apIdx ap) n 0).settle := by
  refine congrArg (fun t : State => Host.Outcome.next t.settle) ((h.eq _).trans ?_)
  cases hs : (s.seam n).state <;> simp [hs]

/-! ### UNSEAL once it is taken -/

/-- Without empty next slots UNSEAL waits; with them, and without a fill, the seam is loading under its new keys at once (R84). -/
theorem State.unsealGo_begun {s : State} {n : Nat} (fill : Bool) (a : Nat) (hs : (s.seam n).state = .sealed) :
    let e := s.seam n
    let t := (s.modSeam n fun e => { e with busy := true, cmdAp := a, job := .unseal fill }).cmdBusy .seam a n
    (s.nextEmpty e = false → t.unsealGo n = t) ∧
    (s.nextEmpty e = true → fill = false → t.unsealGo n =
      ((((t.nextKeys n).swapSlots n).modSeam n fun e => { e with sealEp := e.sealEp + 1 }).dropVals (e.start * 32768) (e.pages * 64)).seamReady n
        .loading) := by
  intro e t
  have hseam : t.seam n = { e with busy := true, cmdAp := a, job := .unseal fill } :=
    State.modSeam_seam s n fun e => { e with busy := true, cmdAp := a, job := .unseal fill }
  have hempty : t.nextEmpty (t.seam n) = s.nextEmpty e := by rw [hseam]; rfl
  refine ⟨fun hno => ?_, fun hyes hfill => ?_⟩
  · rw [State.unsealGo, hempty, hno, hseam]
    simp
  · subst hfill
    rw [State.unsealGo, hempty, hyes, hseam]
    simp [e, hs, Seam.pages]

/-! ### What is not a seam command -/

/-- A command of the block is one function behind the gate of SEAM_CMD: ignored while the instance is busy, and nothing where SEAM_CMD is
reserved. -/
theorem seamCmd_gated {s : State} {ap : Aperture} {n : Nat} (h : s.Reaches ap .seam 0) (hn : n < 256) {f : State → State} {c : Instr}
    (hc : exec c s = .next (s.given (apOk ap && isSeam n) fun s => s.atReg ap .seam 0 f).settle)
    (hbusy : (ap = .lamp ∨ ∃ p, ap = .part p) → (s.inst .seam (apIdx ap)).busy = true → f s = s.cmdIgnored .seam (apIdx ap))
    (hres : (ap = .operator ∨ ap = .debug ∨ ∃ p v, ap = .vf p v) → f s = s) :
    ((ap = .lamp ∨ ∃ p, ap = .part p) → (s.inst .seam (apIdx ap)).busy = true →
        exec c s = .next (s.modInst .seam (apIdx ap) fun i => { i with code := 1 }).settle) ∧
      ((ap = .operator ∨ ap = .debug ∨ ∃ p v, ap = .vf p v) → exec c s = .next s.settle) := by
  rw [hc, h.reg (isSeam_of_lt hn)]
  exact ⟨fun hap hb => by rw [hbusy hap hb, State.cmdIgnored], fun hap => by rw [hres hap]⟩

theorem State.seamCmd_busy {s : State} {ap : Aperture} (hap : ap = .lamp ∨ ∃ p, ap = .part p) (hb : (s.inst .seam (apIdx ap)).busy = true)
    (n : Nat) (f : Nat → State → State) : s.seamCmd ap n f = s.cmdIgnored .seam (apIdx ap) := by
  rcases hap with rfl | ⟨p, rfl⟩ <;> simp only [apIdx] at hb ⊢ <;> simp [State.seamCmd, State.command, hb]

theorem State.seamCmd_reserved {s : State} {ap : Aperture} (hap : ap = .operator ∨ ap = .debug ∨ ∃ p v, ap = .vf p v) (n : Nat)
    (f : Nat → State → State) : s.seamCmd ap n f = s := by
  rcases hap with rfl | rfl | ⟨p, v, rfl⟩ <;> rfl

theorem seamCreate_busy {s : State} {ap : Aperture} (hap : ap = .lamp ∨ ∃ p, ap = .part p) (hb : (s.inst .seam (apIdx ap)).busy = true)
    (n : Nat) : seamCreate ap n s = s.cmdIgnored .seam (apIdx ap) := by
  rcases hap with rfl | ⟨p, rfl⟩ <;> simp only [apIdx] at hb ⊢ <;> simp [seamCreate, State.command, hb]

theorem seamCreate_reserved {s : State} {ap : Aperture} (hap : ap = .operator ∨ ap = .debug ∨ ∃ p v, ap = .vf p v) (n : Nat) :
    seamCreate ap n s = s := by
  rcases hap with rfl | rfl | ⟨p, v, rfl⟩ <;> rfl

/-- A partition's command on a seam that is not its own. -/
theorem State.Takes.exec_notOwn {s : State} {p n : Nat} (h : s.Takes .seam (.part p)) (hn : n < 256)
    (hown : (s.seam n).owner ≠ p ∨ (s.seam n).present = false) {c : Instr} {f : Nat → State → State}
    (hc : exec c s = .next (s.given (apOk (.part p) && isSeam n) fun s => s.atReg (.part p) .seam 0 fun s => s.seamCmd (.part p) n f).settle) :
    exec c s = .next (s.cmdEnd .seam p n 2).settle := by
  have hidle : (s.inst .seam p).busy = false := h.2.2.1
  rw [hc, (h.reaches_seam (.inr ⟨p, rfl⟩)).reg (isSeam_of_lt hn)]
  have hno : ¬((s.seam n).owner = p ∧ (s.seam n).present = true) := by
    rintro ⟨ho, hp⟩
    rcases hown with hown | hown
    · exact hown ho
    · simp [hp] at hown
  simp [State.seamCmd, State.command, hidle, hno]

/-! ### The obligation -/

/-- Settles O13: the state of the seam picks the branch of each command behind its gate. -/
theorem seamCommandsComplete : Obligations.SeamCommandsComplete := by
  unfold Obligations.SeamCommandsComplete
  constructor
  · intro s ap n a e
    refine ⟨fun r fill h hn hap hreq hcheck => ?create, fun h hs hb => ?sealing, fun h hs hb hep hd => ?unsealing, fun h hs hb => ?rekey,
      fun h hs hb hr => ?free, fun h hs hd hb => ?unfreeze⟩
    case create => rw [h.exec_seamCreate hap hn hreq, if_pos hcheck]
    case sealing =>
      have hgo : ¬((s.seam n).state ≠ .loading ∨ (s.seam n).busy = true) := by simp [e] at hs hb; simp [hs, hb]
      rw [h.exec_seamSeal, if_neg hgo, State.sealBy, if_neg hgo]
    case unsealing =>
      refine ⟨?_, State.unsealGo_begun _ a hs⟩
      rw [h.exec_seamUnseal, if_neg (by simp [e] at hs hb; simp [hs, hb]), if_neg hep, if_neg (by simp [hd])]
    case rekey =>
      have hgo : ¬((s.seam n).state = .empty ∨ (s.seam n).state = .retiring ∨ (s.seam n).state = .dead ∨ (s.seam n).busy = true) := by
        have hb : (s.seam n).busy = false := hb
        rcases hs with hs | hs | hs | hs <;> simp [show (s.seam n).state = _ from hs, hb]
      exact ⟨by rw [h.exec_seamRekey, if_neg hgo], by rw [h.exec_seamRetire_if, if_neg hgo]⟩
    case free => rw [h.exec_seamFree, if_neg (by simp [e] at hs hb; simp [hs, hb, hr])]
    case unfreeze => rw [h.exec_seamUnfreeze, if_neg (by simp [e] at hs hd hb; simp [hs, hd, hb])]
  · intro s ap n a e
    refine ⟨fun r fill h hn hap hreq => ⟨fun h0 h8 => ?create, fun h8 => ?createKey⟩, fun h hs => ?sealNo, fun h hs => ?unsealNo,
      fun h hs hb => ⟨fun hep => ?unsealLast, fun hep hd => ?unsealKey⟩, fun h hs => ?rekeyNo, fun h hs => ?freeNo, fun h hs => ?unfreezeNo,
      ?notOwn, ?gated⟩
    case create => rw [h.exec_seamCreate hap hn hreq, if_neg h0, if_neg h8]
    case createKey => rw [h.exec_seamCreate hap hn hreq, if_neg (by simp [h8]), if_pos h8, h8]
    case sealNo => rw [h.exec_seamSeal, if_pos hs]
    case unsealNo => rw [h.exec_seamUnseal, if_pos hs]
    case unsealLast => rw [h.exec_seamUnseal, if_neg (by simp [e] at hs hb; simp [hs, hb]), if_pos hep]
    case unsealKey => rw [h.exec_seamUnseal, if_neg (by simp [e] at hs hb; simp [hs, hb]), if_neg hep, if_pos hd]
    case rekeyNo => exact ⟨by rw [h.exec_seamRekey, if_pos hs], by rw [h.exec_seamRetire_if, if_pos hs]⟩
    case freeNo => rw [h.exec_seamFree, if_pos hs]
    case unfreezeNo => rw [h.exec_seamUnfreeze, if_pos hs]
    case notOwn =>
      rintro p rfl h hn hown
      exact ⟨h.exec_notOwn hn hown rfl, h.exec_notOwn hn hown rfl, h.exec_notOwn hn hown rfl, h.exec_notOwn hn hown rfl,
        h.exec_notOwn hn hown rfl, h.exec_notOwn hn hown rfl⟩
    case gated =>
      intro c hc h hn
      have hseam {f : Nat → State → State}
          (hf : exec c s = .next (s.given (apOk ap && isSeam n) fun s => s.atReg ap .seam 0 fun s => s.seamCmd ap n f).settle) :=
        seamCmd_gated h hn hf (fun hap hb => State.seamCmd_busy hap hb n f) fun hap => State.seamCmd_reserved hap n f
      simp only [List.mem_cons, List.not_mem_nil, or_false] at hc
      rcases hc with rfl | rfl | rfl | rfl | rfl | rfl | rfl
      · exact seamCmd_gated h hn rfl (fun hap hb => seamCreate_busy hap hb n) fun hap => seamCreate_reserved hap n
      all_goals exact hseam rfl

end Sys2Proof.Machine
end

section
/-!
PROOF. What happens to seams by themselves (04, R82 to R98): the sweep that runs at a shaft through everything that a page does, and
SeamEventsComplete.
-/

namespace Sys2Proof

/-- A write leaves every other key as it was, in a table of any order: a search stops where it stopped before. -/
theorem Tab.find_put_of_ne {α : Type} (t : Tab α) {k x : Nat} (v : α) (h : x ≠ k) : (t.put k v).find x = t.find x := by
  induction t with
  | nil =>
    simp only [Tab.put, Tab.find, if_neg (Ne.symm h)]
    split <;> rfl
  | cons p t ih =>
    obtain ⟨j, a⟩ := p
    simp only [Tab.put]
    split
    · next e => subst e; simp [Tab.find, Ne.symm h]
    · split
      · next hlt =>
        rw [Tab.find, if_neg (Ne.symm h)]
        split
        · next hx => rw [Tab.find, if_neg (by omega), if_pos (by omega)]
        · rfl
      · simp [Tab.find, ih]

theorem Tab.getD_modD_of_ne {α : Type} (t : Tab α) {k x : Nat} (d : α) (f : α → α) (h : x ≠ k) : (t.modD k d f).getD x d = t.getD x d := by
  rw [Tab.getD, Tab.modD, Tab.find_put_of_ne t _ h, Tab.getD]

/-- What each step of a fold leaves, the fold leaves. -/
theorem foldl_keeps {α β γ : Type} (g : β → γ) {f : β → α → β} (h : ∀ s x, g (f s x) = g s) (l : List α) (s : β) : g (l.foldl f s) = g s := by
  induction l generalizing s with
  | nil => rfl
  | cons x l ih => exact (ih _).trans (h s x)

namespace Machine

/-- A command behind the gate of the running block is its function. -/
theorem next_live {s : State} (ha : s.alive = true) {ok : Bool} (hok : ok = true) (f : State → State) :
    (Host.Outcome.next (s.live ok f).settle : Host.Outcome State Fault Refusal) = .next (f s).settle :=
  congrArg (fun t : State => Host.Outcome.next t.settle) (State.live_of_alive ha hok f)

/-! ### What leaves the shafts alone -/

@[simp] theorem foldl_shafts {α : Type} {f : State → α → State} (h : ∀ s x, (f s x).shafts = s.shafts) (l : List α) (s : State) :
    (l.foldl f s).shafts = s.shafts := foldl_keeps State.shafts h l s
@[simp] theorem ite_shafts (c : Prop) [Decidable c] (a b : State) : (if c then a else b).shafts = if c then a.shafts else b.shafts :=
  apply_ite State.shafts c a b

@[simp] theorem State.bump_shafts (s : State) (group unit n : Nat) : (s.bump group unit n).shafts = s.shafts := rfl
@[simp] theorem State.putCb_shafts (s : State) (key : Nat) (b : Line) : (s.putCb key b).shafts = s.shafts := rfl
@[simp] theorem State.dropVals_shafts (s : State) (line n : Nat) : (s.dropVals line n).shafts = s.shafts := rfl
@[simp] theorem State.irq_shafts (s : State) (b : Blk) (a bit : Nat) : (s.irq b a bit).shafts = s.shafts := rfl
@[simp] theorem State.irqVis_shafts (s : State) (b : Blk) (p bit : Nat) : (s.irqVis b p bit).shafts = s.shafts :=
  foldl_keeps State.shafts (fun t a => State.irq_shafts t b a bit) _ s
@[simp] theorem State.irq_seams (s : State) (b : Blk) (a bit : Nat) : (s.irq b a bit).seams = s.seams := rfl
@[simp] theorem State.irqVis_seams (s : State) (b : Blk) (p bit : Nat) : (s.irqVis b p bit).seams = s.seams :=
  foldl_keeps State.seams (fun t a => State.irq_seams t b a bit) _ s
@[simp] theorem State.raise_shafts (s : State) (code scope part : Nat) (ctx : Option (BitVec 16)) (o : Obj) :
    (s.raise code scope part ctx o).shafts = s.shafts := by simp [State.raise]
@[simp] theorem State.toPart_shafts (s : State) (code part : Nat) (o : Obj) : (s.toPart code part o).shafts = s.shafts := by simp [State.toPart]
@[simp] theorem State.logged_shafts (s : State) (code part : Nat) (o : Obj) : (s.logged code part o).shafts = s.shafts := by simp [State.logged]
@[simp] theorem State.pushLoss_shafts (s : State) (p : Nat) (tag code : BitVec 16) :
    (s.pushLoss p tag code).shafts = s.shafts := by simp [State.pushLoss]
@[simp] theorem State.unregister_shafts (s : State) (tag : Nat) : (s.unregister tag).shafts = s.shafts := rfl
@[simp] theorem State.withdrawWait_shafts (s : State) (tag : Nat) :
    (s.withdrawWait tag).shafts = s.shafts := by
  unfold State.withdrawWait
  dsimp only
  split <;> simp
@[simp] theorem State.haltTask_shafts (s : State) (t code : Nat) : (s.haltTask t code).shafts = s.shafts := by
  have hreq (o : Option Nat) : ((o.map s.withdrawWait).getD s).shafts = s.shafts := by cases o <;> simp
  unfold State.haltTask
  dsimp only
  split <;> simp [hreq]
@[simp] theorem State.ctxEnds_shafts (s : State) (p : Nat) (tag : BitVec 16) (code : Nat) :
    (s.ctxEnds p tag code).shafts = s.shafts := by simp [State.ctxEnds]
@[simp] theorem State.loseCtx_shafts (s : State) (p : Nat) (tag : BitVec 16) (code : Nat) (o : Obj) :
    (s.loseCtx p tag code o).shafts = s.shafts := by simp [State.loseCtx]
@[simp] theorem State.loseAll_shafts (s : State) (p code : Nat) : (s.loseAll p code).shafts = s.shafts := by simp [State.loseAll]
@[simp] theorem State.powerCycle_shafts (s : State) : (s.powerCycle).shafts = s.shafts := rfl
@[simp] theorem State.warmDue_shafts (s : State) : (s.warmDue).shafts = s.shafts := rfl
@[simp] theorem State.chipStep_shafts (s : State) (code : Nat) : (s.chipStep code).shafts = s.shafts := by simp [State.chipStep]
@[simp] theorem State.partStep_shafts (s : State) (p : Nat) (c : Option Nat) : (s.partStep p c).shafts = s.shafts := by simp [State.partStep]
@[simp] theorem State.partFault_shafts (s : State) (code p : Nat) (o : Obj) : (s.partFault code p o).shafts = s.shafts := by simp [State.partFault]
@[simp] theorem State.insCapture_shafts (s : State) (q word area : Nat) (b : Bool) :
    (s.insCapture q word area b).shafts = s.shafts := by simp [State.insCapture]
@[simp] theorem State.insCorr_shafts (s : State) (q word area : Nat) : (s.insCorr q word area).shafts = s.shafts := by simp [State.insCorr]
@[simp] theorem State.insUncorr_shafts (s : State) (q word area : Nat) : (s.insUncorr q word area).shafts = s.shafts := by simp [State.insUncorr]
@[simp] theorem State.insWords_shafts (s : State) (q : Nat) (words : List Nat) (area : Nat) (e : Ecc) :
    (s.insWords q words area e).1.shafts = s.shafts := by
  unfold State.insWords State.insWord
  cases e <;> simp
@[simp] theorem State.cacheKey_shafts (s : State) (c n : Nat) : (s.cacheKey c n).shafts = s.shafts := by
  unfold State.cacheKey
  dsimp only
  split <;> simp
@[simp] theorem State.passCluster_shafts (s : State) (c part cycles : Nat) (ctx : Option (BitVec 16)) (slots : List Nat) :
    (s.passCluster c part cycles ctx slots).shafts = s.shafts := by
  unfold State.passCluster
  dsimp only
  split <;> simp
@[simp] theorem State.retireSlot_shafts (s : State) (n : Nat) : (s.retireSlot n).shafts = s.shafts := by simp [State.retireSlot]

/-! ### The pages that a shaft's sweep has done -/

/-- How many pages the sweep that runs at a shaft has done. -/
def State.sweepDone (s : State) (k : Nat) : Option Nat := (s.shaft k).run.map (·.done)

theorem State.shaft_of_shafts {s t : State} (h : t.shafts = s.shafts) (k : Nat) : t.shaft k = s.shaft k := by
  rw [State.shaft, h, State.shaft]

theorem State.sweepDone_of_shafts {s t : State} (h : t.shafts = s.shafts) (k : Nat) : t.sweepDone k = s.sweepDone k := by
  rw [State.sweepDone, State.shaft_of_shafts h, State.sweepDone]

@[simp] theorem State.emit_sweepDone (s : State) (o : Output) (k : Nat) : (s.emit o).sweepDone k = s.sweepDone k := rfl

theorem State.modShaft_shaft_of_ne (s : State) {k j : Nat} (f : Shaft → Shaft) (h : j ≠ k) : (s.modShaft k f).shaft j = s.shaft j :=
  Tab.getD_modD_of_ne s.shafts {} f h

/-- A shaft rewritten without its sweep's pages. -/
theorem State.modShaft_sweepDone (s : State) (k : Nat) {f : Shaft → Shaft} (j : Nat)
    (h : ∀ sh, (f sh).run.map (·.done) = sh.run.map (·.done) := by intro _; rfl) :
    (s.modShaft k f).sweepDone j = s.sweepDone j := by
  by_cases hj : j = k
  · subst hj
    rw [State.sweepDone, State.modShaft_shaft, h, State.sweepDone]
  · rw [State.sweepDone, State.modShaft_shaft_of_ne s f hj, State.sweepDone]

@[simp] theorem State.wantDrift_sweepDone (s : State) (n cls start : Nat) (front : Bool) (k : Nat) :
    (s.wantDrift n cls start front).sweepDone k = s.sweepDone k := by
  unfold State.wantDrift
  extract_lets e sh isIt w up
  split
  · rfl
  · rfl
  · rfl
  · rfl
  · split
    · rfl
    · split
      · exact State.modShaft_sweepDone _ _ k
      · split
        · exact State.modShaft_sweepDone _ _ k (by intro sh; cases h : sh.run <;> simp)
        · split <;> exact State.modShaft_sweepDone _ _ k

@[simp] theorem State.freezeSeam_sweepDone (s : State) (n code : Nat) (o : Obj) (k : Nat) : (s.freezeSeam n code o).sweepDone k = s.sweepDone k := by
  rw [State.freezeSeam, State.wantDrift_sweepDone]
  exact State.sweepDone_of_shafts (by simp) k

@[simp] theorem State.countIntegrity_sweepDone (s : State) (n : Nat) (o : Obj) (k : Nat) : (s.countIntegrity n o).sweepDone k = s.sweepDone k := by
  unfold State.countIntegrity
  extract_lets e fails win t
  split
  · exact (State.freezeSeam_sweepDone ..).trans rfl
  · rfl

@[simp] theorem State.shfCapture_sweepDone (s : State) (k code line j : Nat) : (s.shfCapture k code line).sweepDone j = s.sweepDone j :=
  State.modShaft_sweepDone _ _ j (by intro sh; split <;> rfl)

@[simp] theorem State.shfCorr_sweepDone (s : State) (k line j : Nat) : (s.shfCorr k line).sweepDone j = s.sweepDone j := by
  rw [State.shfCorr, State.shfCapture_sweepDone, State.sweepDone_of_shafts (State.bump_shafts ..)]
  exact State.modShaft_sweepDone s k j

@[simp] theorem State.leftInPlace_sweepDone (s : State) (k n line code j : Nat) : (s.leftInPlace k n line code).sweepDone j = s.sweepDone j := by
  rw [State.leftInPlace, State.countIntegrity_sweepDone, State.sweepDone_of_shafts (State.toPart_shafts ..), State.shfCapture_sweepDone,
    State.sweepDone_of_shafts (State.bump_shafts ..)]
  exact State.modShaft_sweepDone s k j

@[simp] theorem State.shaftTurn_sweepDone (s : State) (k part transfers cycles : Nat) (ctx : Option (BitVec 16)) (slots : List Nat) (j : Nat) :
    (s.shaftTurn k part transfers cycles ctx slots).sweepDone j = s.sweepDone j := by
  unfold State.shaftTurn
  extract_lets t on turn
  split
  · rfl
  · rw [State.sweepDone_of_shafts (State.passCluster_shafts ..)]
    exact State.modShaft_sweepDone s k j

@[simp] theorem State.reencipher_sweepDone (s : State) (k n line code : Nat) (kOld : Nat × Nat × BitVec 4) (vOld : BitVec 44)
    (kNew : Nat × Nat × BitVec 4) (vNew : BitVec 44) (l : HubLine) (j : Nat) :
    (s.reencipher k n line code kOld vOld kNew vNew l).sweepDone j = s.sweepDone j := by
  unfold State.reencipher
  extract_lets e t
  have ht : t.sweepDone j = s.sweepDone j := State.shaftTurn_sweepDone ..
  split
  · rw [State.sweepDone_of_shafts (State.bump_shafts ..)]
    exact (State.modShaft_sweepDone t k j).trans ht
  · next d _ =>
    extract_lets u ok c m mac
    have hu : u.sweepDone j = s.sweepDone j := by
      unfold u
      split
      · exact (State.shfCorr_sweepDone ..).trans ht
      · exact ht
    split
    · exact (State.leftInPlace_sweepDone ..).trans hu
    · split
      · rw [State.putLine]
        rw [State.emit_sweepDone]
        exact (State.modShaft_sweepDone u k j).trans hu
      · exact hu

@[simp] theorem State.loseCounter_sweepDone (s : State) (k n page w j : Nat) : (s.loseCounter k n page w).sweepDone j = s.sweepDone j := by
  unfold State.loseCounter
  extract_lets e t again u
  have ht : t.sweepDone j = s.sweepDone j := State.sweepDone_of_shafts (by simp [t, State.insUncorr]) j
  split
  · split
    · exact ht
    · rw [State.wantDrift_sweepDone]
      exact (State.modShaft_sweepDone t k j).trans ht
  · split
    · rw [State.wantDrift_sweepDone]
      exact (show u.sweepDone j = t.sweepDone j from State.modShaft_sweepDone t k j).trans ht
    · exact (State.freezeSeam_sweepDone ..).trans ht

/-! ### A page of a fill -/

/-- What a fill's line leaves: every seam and the sweep that runs at shaft k; and it sends one line to the hub. -/
def State.FillsOnly (k i : Nat) (s t : State) : Prop :=
  t.seams = s.seams ∧ (t.shaft k).run = (s.shaft k).run ∧ t.out.length = s.out.length + i

theorem State.FillsOnly.trans {k i j : Nat} {s t u : State} (h : State.FillsOnly k i s t) (h' : State.FillsOnly k j t u) :
    State.FillsOnly k (i + j) s u := by
  obtain ⟨hs, hr, ho⟩ := h
  obtain ⟨hs', hr', ho'⟩ := h'
  exact ⟨hs'.trans hs, hr'.trans hr, by omega⟩

theorem State.fillsOnly_foldl {α : Type} {k : Nat} {f : State → α → State} (h : ∀ s x, State.FillsOnly k 1 s (f s x)) (l : List α) (s : State) :
    State.FillsOnly k l.length s (l.foldl f s) := by
  induction l generalizing s with
  | nil => exact ⟨rfl, rfl, rfl⟩
  | cons x l ih =>
    have := (h s x).trans (ih (f s x))
    rwa [Nat.add_comm] at this

theorem State.cacheKey_fills (k : Nat) (s : State) (c n : Nat) : State.FillsOnly k 0 s (s.cacheKey c n) := by
  unfold State.cacheKey
  extract_lets cl part new mine keys
  split
  · exact ⟨rfl, rfl, rfl⟩
  · split <;> exact ⟨rfl, rfl, rfl⟩

theorem State.passCluster_fills (k : Nat) (s : State) (c part cycles : Nat) (ctx : Option (BitVec 16)) (slots : List Nat) :
    State.FillsOnly k 0 s (s.passCluster c part cycles ctx slots) := by
  have hkeys (l : List Nat) (s : State) : State.FillsOnly k 0 s (l.foldl (fun s n => s.cacheKey c n) s) := by
    induction l generalizing s with
    | nil => exact ⟨rfl, rfl, rfl⟩
    | cons n l ih => exact (State.cacheKey_fills k s c n).trans (ih _)
  unfold State.passCluster
  extract_lets t
  have ht : State.FillsOnly k 0 s t := hkeys slots (s.bump 0x03 c cycles)
  cases ctx with
  | none => exact ht
  | some x => exact ht.trans (j := 0) ⟨rfl, rfl, rfl⟩

theorem State.shaftTurn_fills (k : Nat) (s : State) (part transfers cycles : Nat) (ctx : Option (BitVec 16)) (slots : List Nat) :
    State.FillsOnly k 0 s (s.shaftTurn k part transfers cycles ctx slots) := by
  unfold State.shaftTurn
  extract_lets t on turn
  split
  · exact ⟨rfl, rfl, rfl⟩
  · refine State.FillsOnly.trans (i := 0) (j := 0) ⟨?seams, ?run, ?out⟩ (State.passCluster_fills k _ _ _ _ _ _)
    case run => rw [State.modShaft_shaft]; rfl
    all_goals rfl

theorem State.shaftTurn_emit_fills (k : Nat) (s : State) (part transfers cycles : Nat) (ctx : Option (BitVec 16)) (slots : List Nat) (o : Output) :
    State.FillsOnly k 1 s ((s.shaftTurn k part transfers cycles ctx slots).emit o) :=
  (State.shaftTurn_fills k s part transfers cycles ctx slots).trans (j := 1) ⟨rfl, rfl, by simp [State.emit]⟩

/-- SWEEP_PAGE of a fill (R82). -/
theorem sweepPage_fill {s : State} {k : Nat} {w : Sweep} (lines : List HubLine) (ecc : Ecc) (hw : (s.shaft k).run = some w)
    (hd : w.done < (s.seam w.seam).pages) (hp : (s.shaft k).pageHeld w.seam ((w.start + w.done) % (s.seam w.seam).pages) = false) (hf : w.fill = true) :
    ((sweepPage k lines ecc s).shaft k).run = some { w with done := w.done + 1 } ∧ (sweepPage k lines ecc s).seams = s.seams ∧
      (sweepPage k lines ecc s).out.length = s.out.length + 64 := by
  unfold sweepPage
  split
  case h_1 h => exact absurd (h.symm.trans hw) (by simp)
  next w' hw' =>
    obtain rfl : w = w' := Option.some.inj (hw.symm.trans hw')
    extract_lets n e page ck step key zero
    rw [if_neg (by simp [e, n, page, hp]; omega), if_pos hf]
    have hzero : State.FillsOnly k 64 s ((List.range 64).foldl zero (s.dropVals (e.lineAt page 0) 64)) :=
      State.FillsOnly.trans (i := 0) (j := 64) (t := s.dropVals (e.lineAt page 0) 64) ⟨rfl, rfl, rfl⟩
        (State.fillsOnly_foldl (fun t j => State.shaftTurn_emit_fills k t _ _ _ _ _ _) (List.range 64) _)
    obtain ⟨hs, hr, ho⟩ := hzero
    refine ⟨?_, hs, ho⟩
    rw [State.modShaft_shaft, hr, hw]
    rfl

theorem sweepPage_drift {s : State} {k : Nat} {w : Sweep} (lines : List HubLine) (ecc : Ecc) (hw : (s.shaft k).run = some w)
    (hd : w.done < (s.seam w.seam).pages) (hp : (s.shaft k).pageHeld w.seam ((w.start + w.done) % (s.seam w.seam).pages) = false) (hf : w.fill = false) :
    ∃ t : State, t.sweepDone k = some (w.done + 1) ∧
      sweepPage k lines ecc s = if (s.seam w.seam).pages ≤ w.done + 1 then t.driftDone k w.seam else t := by
  unfold sweepPage
  split
  case h_1 h => exact absurd (h.symm.trans hw) (by simp)
  next w' hw' =>
    obtain rfl : w = w' := Option.some.inj (hw.symm.trans hw')
    extract_lets n e page ck step key zero kOld kNew ver lost s1 lost1 s2 one t1 t2 swept t3
    rw [if_neg (by simp [e, n, page, hp]; omega), if_neg (by simp [hf])]
    refine ⟨t3, ?_, rfl⟩
    have h1 : s1.sweepDone k = s.sweepDone k := by
      unfold s1
      split
      · exact (State.loseCounter_sweepDone ..).trans rfl
      · split
        · exact State.sweepDone_of_shafts (State.insWords_shafts ..) k
        · rfl
    have h2 : s2.sweepDone k = s1.sweepDone k := by
      unfold s2
      split
      · exact State.sweepDone_of_shafts (State.partFault_shafts ..) k
      · rfl
    have h3 : t1.sweepDone k = s2.sweepDone k := by
      unfold t1
      split
      · rfl
      · refine foldl_keeps (fun t => State.sweepDone t k) (fun t j => ?_) _ s2
        unfold one
        dsimp only
        split
        · rfl
        · exact State.reencipher_sweepDone ..
    have h4 : t2.sweepDone k = t1.sweepDone k := by
      unfold t2
      split
      · exact State.sweepDone_of_shafts (State.putCb_shafts ..) k
      · rfl
    have hdone : t2.sweepDone k = some w.done := by
      rw [h4, h3, h2, h1, State.sweepDone, hw]
      rfl
    rw [State.sweepDone, Option.map_eq_some_iff] at hdone
    obtain ⟨x, hx, hxd⟩ := hdone
    have hmid : (t2.modShaft k fun sh => { sh with lost := sh.lost.map swept }).shaft k = _ := State.modShaft_shaft ..
    rw [State.sweepDone]
    unfold t3 step
    rw [State.modShaft_shaft, hmid]
    simp [hx, hxd]

/-- The end of a drift (R93). -/
theorem driftDone_ends (s : State) (k n : Nat) : ((s.driftDone k n).shaft k).run = none ∧
    ((s.driftDone k n).seam n).state = (if ((s.driftDone k n).seam n).kind = .sealed then .sealed else .active) ∧
    ((s.driftDone k n).seam n).fails = 0 ∧ ((s.driftDone k n).seam n).winEnd = none := by
  have hrun : (s.driftDone k n).shafts = (s.modShaft k fun sh => { sh with run := none, lostAll := sh.lostAll.filter (· != n) }).shafts := by
    simp [State.driftDone, State.swapSlots]
  constructor
  · rw [State.shaft_of_shafts hrun, State.modShaft_shaft]
  · have hseam (t : State) (m p : Nat) : (t.irqVis .seam p 1).seam m = t.seam m := by
      rw [State.seam, State.irqVis_seams, State.seam]
    rw [State.driftDone]
    simp only [hseam, State.modSeam_seam]
    trivial

/-! ### SeamEventsComplete -/

/-- Settles O15: each event is its function behind the gate, whose guards the conditions decide; what a sweep does to a page leaves the count of its
pages. -/
theorem seamEventsComplete : Obligations.SeamEventsComplete := by
  intro s n ha hn
  dsimp only
  have hn' : decide (n < 256) = true := decide_eq_true hn
  refine ⟨?create, ?fillDone, ?point, ?dead, ?start, ?page, ?periodic, ?overrun, ?window, ?token⟩
  case create =>
    intro hj
    refine (next_live ha hn' (seamCreateDone n)).trans ?_
    rw [seamCreateDone, if_pos hj]
  case fillDone =>
    intro w hw hseam hf hd
    constructor <;> intro hj <;> refine (next_live ha hn' (seamFillDone n)).trans ?_ <;> simp only [seamFillDone, hw, hseam, hf, hd, hj, and_self, if_true]
  case point =>
    intro g hg hj hl hw hr
    refine ⟨fun hh => ?_, fun c hh => ?_⟩ <;> refine (next_live ha hn' (sealPoint n)).trans ?_ <;>
      simp only [sealPoint, hg, hj, hl, hw, hr, hh, and_self, if_true]
  case dead =>
    intro hs hq
    refine (next_live ha hn' (seamDead n)).trans ?_
    rw [seamDead, if_pos ⟨hs, hq⟩]
  case start =>
    intro k w hk hw hr
    refine (next_live ha (decide_eq_true hk) (driftStart k)).trans ?_
    unfold driftStart
    rw [hw]
    cases hrun : (s.shaft k).run with
    | none => rfl
    | some r => exact congrArg (fun t : State => Host.Outcome.next t.settle) (if_pos (hr r hrun))
  case page =>
    intro k w lines ecc hk hw hwn hd hp
    subst hwn
    have hex : exec (.sweepPage k lines ecc) s = .next (sweepPage k lines ecc s).settle := next_live ha (decide_eq_true hk) _
    refine ⟨fun hf => ⟨_, hex, sweepPage_fill lines ecc hw hd hp hf⟩, fun hf hlt => ?_, fun hf heq => ?_⟩ <;>
      obtain ⟨t, ht, hsw⟩ := sweepPage_drift lines ecc hw hd hp hf
    · rw [if_neg (Nat.not_le.2 hlt)] at hsw
      exact ⟨t, hsw ▸ hex, ht⟩
    · rw [if_pos (Nat.le_of_eq heq.symm)] at hsw
      exact ⟨_, hsw ▸ hex, driftDone_ends t k w.seam⟩
  case periodic =>
    intro hi
    refine (next_live ha hn' (periodicDriftDue n)).trans ?_
    rw [periodicDriftDue, if_neg hi]
  case overrun =>
    intro hs hi hk
    refine (next_live ha hn' (rekeyOverrun n)).trans ?_
    rw [rekeyOverrun, if_neg (not_or.2 ⟨hi, hk⟩)]
    obtain hs | hs | hs | hs := hs <;> rw [hs]
  case window =>
    intro w hw
    refine (next_live ha hn' (budgetWindowClose n)).trans ?_
    rw [budgetWindowClose, hw]
  case token =>
    intro hk hs
    refine ⟨fun h => ?_, fun h => ?_⟩ <;> refine (next_live ha hn' (writeTokenArrive n)).trans ?_ <;> simp [writeTokenArrive, hk, hs, h]

end Machine
end Sys2Proof
end

section
/-!
PROOF. EgressLeavesAfterVerdicts and LaneSampleCompletes: what leaves the shaft path, and what is sampled on it (05).
-/

namespace Sys2Proof.Machine

theorem isPart_of_range {p : Nat} (h1 : 1 ≤ p) (h6 : p ≤ 6) : isPart p = true := by simp [isPart, h1, h6]

/-- Nothing that an earlier delivery without a verdict precedes may leave. -/
theorem Horizon.not_mayLeave {h : Horizon} {e : Egress} (hm : ∃ m ∈ h.opn, m < e.stamp) : h.mayLeave e = false := by
  obtain ⟨m, hm, hlt⟩ := hm
  simp only [Horizon.mayLeave, List.all_eq_false]
  exact ⟨m, hm, by simp; exact hlt⟩

/-- Settles O17: EGRESS_RELEASE by the point and the cargo of the first egress there. -/
theorem egressLeavesAfterVerdicts : Obligations.EgressLeavesAfterVerdicts := by
  constructor
  · intro s p pt e ha h1 h6 hpt he
    dsimp only
    have hex := next_live ha (ok := isPart p && isPoint pt) (by simp [isPart_of_range h1 h6, hpt]) (egressRelease p pt)
    refine ⟨fun q k hq hk => ⟨fun hl hm hv => hex.trans ?_, fun hl => hex.trans ?_⟩,
      fun hv hp => ⟨fun fn tag st l hc hw => hex.trans ?_, fun fn tag st l hc hw => hex.trans ?_, fun fn addr l c hc hw => hex.trans ?_,
        fun c addr l hc hw => hex.trans ?_, fun fn hc hw hpw => hex.trans ?_, fun c n l hc hw => hex.trans ?_⟩⟩
    case refine_8 =>
      simp only [egressRelease, he, hp, hc, hv]
      cases hact : (s.mov.chans.getD c {}).act with
      | none => rfl
      | some a =>
        have := hw a hact
        cases hb : (a.d.words.getD 0 0).getLsbD 51 <;> simp_all
    all_goals simp [egressRelease, *]
  · intro s p pt e ha h1 h6 hpt he hm hl
    refine (next_live ha (ok := isPart p && isPoint pt) (by simp [isPart_of_range h1 h6, hpt]) (egressRelease p pt)).trans ?_
    have hv : (s.horizon p).mayLeave e = false := Horizon.not_mayLeave hm
    unfold egressRelease
    simp only [he]
    split
    · next k hstray =>
      split at hstray
      · next q k' hq hk => simp [hl q k' hq hk] at hstray
      · simp at hstray
    · simp [hv]

/-- Settles O18. -/
theorem laneSampleCompletes : Obligations.LaneSampleCompletes := by
  intro s c r ha hc
  dsimp only
  have hex := next_live ha hc (laneSample c r)
  refine ⟨fun h => hex.trans ?_, fun ho hs => ⟨fun h => hex.trans ?_, fun h hl h3 => hex.trans ?_, fun h hl h3 => hex.trans ?_,
    fun h hl h3 => hex.trans ?_, fun h h3 h4 => hex.trans ?_⟩⟩
  · simp only [laneSample, h, if_true]
  · simp only [laneSample, ho, hs, h, if_true, Bool.false_eq_true, or_self, if_false]
  · simp only [laneSample, ho, hs, eq_false h, hl, eq_true h3, if_true, Bool.false_eq_true, or_self, and_self, if_false]
  · simp only [laneSample, ho, hs, eq_false h, hl, eq_true h3, if_true, Bool.false_eq_true, or_self, false_and, if_false]
  · have h4 : r.spare ≠ r.third := fun e => h (h3.trans e.symm)
    simp only [laneSample, ho, hs, eq_false h, hl, eq_true h3, eq_false h4, if_true, Bool.false_eq_true, or_self, false_and, if_false]
  · simp only [laneSample, ho, hs, eq_false h, eq_false h3, eq_false h4, Bool.false_eq_true, or_self, and_false, if_false]

end Sys2Proof.Machine
end

section
/-!
PROOF. The Inner Store (06) and the state right after reset: InnerPageAccessCompletes, ScrubbingCompletes, ResetValues.
-/

namespace Sys2Proof.Machine

theorem State.insWords_clean (s : State) (q : Nat) (words : List Nat) (area : Nat) : s.insWords q words area .clean = (s, false) := if_pos rfl

/-- A word that was read is lost exactly when its decoder said so. -/
theorem State.insWords_bad (s : State) (q : Nat) (words : List Nat) (area : Nat) (e : Ecc) : (s.insWords q words area e).2 = (e == .uncorr) := by
  cases e <;> rfl

/-- The words that a page request decodes: those it reads, or changes in part, but those whose value the home's tracker keeps (R152, R237). -/
def State.decoded (s : State) (r : PageReq) : List Nat :=
  (if r.write = false ∨ r.rmw.isSome = true then List.range ((r.addr % 8 + max r.len r.bytes.length + 7) / 8) else partWords r.addr r.bytes).filter
    fun i => !(r.src.isHome && s.home.words.contains (r.addr % 2 ^ 44 / 8 + i))

/-- The state in which the words of a page request were decoded, and whether one of them is lost. -/
def State.decode (s t : State) (q : Nat) (r : PageReq) (ecc : Ecc) : State × Bool :=
  if s.decoded r = [] then (t, false) else t.insWords q ((s.decoded r).map (innerWord r.addr + ·)) 6 ecc

theorem State.decode_fine {s : State} {r : PageReq} {ecc : Ecc} (h : s.decoded r = [] ∨ ecc ≠ .uncorr) (t : State) (q : Nat) :
    s.decode t q r ecc = (if s.decoded r = [] then t else (t.insWords q ((s.decoded r).map (innerWord r.addr + ·)) 6 ecc).1, false) := by
  unfold State.decode
  split
  · rfl
  · next hne =>
    have hecc := h.resolve_left hne
    exact Prod.ext rfl ((State.insWords_bad ..).trans (beq_false_of_ne hecc))

theorem State.decode_lost {s : State} {r : PageReq} {ecc : Ecc} (h : ¬ (s.decoded r = [] ∨ ecc ≠ .uncorr)) (t : State) (q : Nat) :
    s.decode t q r ecc = ((t.insWords q ((s.decoded r).map (innerWord r.addr + ·)) 6 ecc).1, true) := by
  obtain ⟨hne, hecc⟩ := not_or.1 h
  rw [State.decode, if_neg hne]
  exact Prod.ext rfl ((State.insWords_bad ..).trans (by simpa using hecc))

/-- What INNER_PAGE_ACCESS makes of the words that it decoded. -/
def State.pageServed (r : PageReq) (s : State) (d : State × Bool) : State :=
  let n := max r.len r.bytes.length
  let t := if d.2 then d.1 else d.1.keepWords r.src (r.addr % 2 ^ 44 / 8) ((r.addr % 8 + n + 7) / 8)
  let old := t.innerBytes r.addr n
  if d.2 then
    if r.write || s.judgedFirst r.src then t.lineDone r.src [] false 0x2205
    else (t.keepOpt r.part r.ctx 0x2205 (lineObj (r.addr % 2 ^ 44 / 64) 0xFF)).lineDone r.src (errorValue n) true 0
  else if !r.write then t.lineDone r.src old false 0
  else match r.rmw with
    | some m => (t.writeInner r.part r.addr ((rmwApply m 0 [] old).map some)).lineDone r.src
        (match m with
          | .atomic b _ _ => old.take (atomicSize b)
          | _ => []) false 0
    | none => (t.writeInner r.part r.addr r.bytes).lineDone r.src [] false 0

theorem innerPageAccess_eq {s : State} {q key : Nat} {ecc : Ecc} {r : PageReq}
    (hr : s.ins.reqs.find? (fun r => r.key == key && quadOf r.addr == q) = some r)
    (hov : ∀ x ∈ s.ins.reqs.takeWhile (·.key != key),
      r.addr + max r.len r.bytes.length ≤ x.addr ∨ x.addr + max x.len x.bytes.length ≤ r.addr) :
    innerPageAccess q key ecc s =
      State.pageServed r s (s.decode { s with ins := { s.ins with reqs := s.ins.reqs.filter (·.key != key) } } q r ecc) := by
  have hany : ((s.ins.reqs.takeWhile (·.key != key)).any fun x =>
      decide (x.addr < r.addr + max r.len r.bytes.length) && decide (r.addr < x.addr + max x.len x.bytes.length)) = false := by
    simp only [List.any_eq_false, Bool.and_eq_true, decide_eq_true_eq, not_and]
    intro x hx
    have := hov x hx
    omega
  have hdec : (if !r.write || r.rmw.isSome then List.range ((r.addr % 8 + max r.len r.bytes.length + 7) / 8) else partWords r.addr r.bytes).filter
      (fun i => !(r.src.isHome && s.home.words.contains (r.addr % 2 ^ 44 / 8 + i))) = s.decoded r := by
    simp [State.decoded]
  have hfold (t : State) : (if s.decoded r = [] then (t, false) else t.insWords q ((s.decoded r).map (innerWord r.addr + ·)) 6 ecc) =
      s.decode t q r ecc := rfl
  unfold innerPageAccess
  simp only [hr, hany, Bool.false_eq_true, if_false, hdec, List.isEmpty_iff, hfold]
  generalize s.decode _ q r ecc = d
  obtain ⟨t, bad⟩ := d
  unfold State.pageServed
  cases bad with
  | true =>
    simp only [if_true]
    cases hw : r.write with
    | true => rfl
    | false =>
      simp only [Bool.false_or, Bool.false_eq_true, if_false]
      cases r.src <;> rfl
  | false =>
    cases hw : r.write with
    | false => rfl
    | true =>
      cases r.rmw <;> rfl

/-- Settles O19: what was decoded decides, then the request's kind. -/
theorem innerPageAccessCompletes : Obligations.InnerPageAccessCompletes := by
  intro s q key ecc r ha hq hr n hov t line all reads u v fine lost
  have hex : exec (.innerPageAccess q key ecc) s = .next (State.pageServed r s (s.decode t q r ecc)).settle :=
    (exec_innerPageAccess_of_alive ha hq key ecc).trans (by rw [innerPageAccess_eq hr hov])
  have hfine (h : fine) : s.decode t q r ecc = (if reads = [] then t else u.1, false) := State.decode_fine h t q
  have hlost (h : ¬ fine) : s.decode t q r ecc = (u.1, true) := State.decode_lost h t q
  refine ⟨fun h hw => ?_, fun h hw hm => ?_, fun b off x h hw hm => ?_, fun m h hw hm hne => ?_, fun h hw => ?_, fun h hw hj => ?_, fun h => ?_⟩
  · rw [hex, hfine h, State.pageServed]
    simp only [hw, Bool.false_eq_true, if_false, Bool.not_false, if_true]
    rfl
  · rw [hex, hfine h, State.pageServed]
    simp only [hw, hm, Bool.false_eq_true, if_false, Bool.not_true]
    rfl
  · rw [hex, hfine h, State.pageServed]
    simp only [hw, hm, Bool.false_eq_true, if_false, Bool.not_true]
    rfl
  · rw [hex, hfine h, State.pageServed]
    simp only [hw, hm, Bool.false_eq_true, if_false, Bool.not_true]
    cases m with
    | atomic b off x => exact absurd rfl (hne b off x)
    | _ => rfl
  · rw [hex, hlost h, State.pageServed]
    simp only [if_true]
    rw [if_pos (by simpa using hw)]
  · rw [hex, hlost h, State.pageServed]
    simp only [if_true, hw, hj, Bool.or_self, Bool.false_eq_true, if_false]
    rfl
  · subst h
    exact congrArg Prod.fst (State.insWords_clean ..)

/-- Settles O22. -/
theorem scrubbingCompletes : Obligations.ScrubbingCompletes := by
  intro s q ha hq
  refine ⟨fun w hw => ?word, ⟨_, exec_scrubPassEnd_of_alive ha hq, ?_⟩, fun k hk hz => ?zero⟩
  case word =>
    have hex (e : Ecc) := exec_scrubWordRead_of_alive ha hq (of_decide_eq_true hw) e
    exact ⟨hex .clean, hex .corrected, hex .uncorr⟩
  case zero =>
    refine (next_live ha (decide_eq_true hk) (shareZeroDone k)).trans ?_
    rw [shareZeroDone, if_pos hz]
  have hslice : (scrubPassEnd q s).slice q = { s.slice q with
      table := [], passes := satInc (s.slice q).passes, pos := 0
      queued := (((s.slice q).table.filter fun e => decide (3 ≤ e.count)).map (·.word)).foldl (fun l w => insNat w l) (s.slice q).queued } := by
    unfold scrubPassEnd
    extract_lets rows t
    have ht : t.slice q = _ := State.modSlice_slice ..
    split
    · exact ht
    · exact ht
  rw [hslice]
  refine ⟨rfl, rfl, fun e he h3 => mem_foldl_insNat.2 (.inr ?_)⟩
  exact List.mem_map_of_mem (List.mem_filter.2 ⟨he, decide_eq_true h3⟩)

/-- Settles O59. -/
theorem resetValues : Obligations.ResetValues := by
  refine ⟨rfl, rfl, rfl, rfl, rfl, rfl, rfl, rfl, rfl, rfl, rfl, rfl, rfl, rfl, rfl, rfl, rfl, rfl, rfl, rfl, rfl, rfl, rfl, rfl, ?_, ?_, ?_⟩
  · exact fun x hx => absurd hx List.not_mem_nil
  · rfl
  · decide

end Sys2Proof.Machine
end

section
/-!
PROOF. Reads, writes, counter blocks, pads, verdicts and refreshes at a shaft (05): ShaftAccessesComplete.
-/

namespace Sys2Proof.Machine

theorem next_shaftIn {s : State} {k : Nat} (h : s.ShaftOn k) (f : State → State) :
    (Host.Outcome.next (s.shaftIn k f).settle : Host.Outcome State Fault Refusal) = .next (f s).settle := by
  obtain ⟨ha, hk, he⟩ := h
  exact next_live ha (by simp [isShaft, hk, he]) f

/-- Settles O16. -/
theorem shaftAccessesComplete : Obligations.ShaftAccessesComplete := by
  refine ⟨fun s k hs => ⟨?read, ?block, ?pads, ?line, ?verdict, ?offer⟩, fun s k hs => ⟨?write, ?ask, ?go, ?refresh, ?oldLine, ?ack⟩⟩
  case read =>
    intro a t ht
    have hex := next_shaftIn hs (shaftRead k)
    refine ⟨fun c h => hex.trans ?_, fun h => hex.trans ?_, fun n e h hn => ⟨fun v hv => hex.trans ?_, fun hv hl hj => hex.trans ?_,
      fun hv hl hj => hex.trans ?_, fun w hv hl hw => hex.trans ?_, fun key hv hl hw hkey => ⟨fun hc => hex.trans ?_, fun hc hcc => hex.trans ?_⟩⟩⟩
    · simp only [shaftRead, ht, h]
    · simp only [shaftRead, ht, h]
    · simp only [shaftRead, ht, h, hn, hv]
    · simp only [shaftRead, ht, h, hn, hv, hl, hj, if_true, Bool.false_eq_true, if_false, and_self]
    · simp only [shaftRead, ht, h, hn, hv, hl, hj, if_true, and_self]
    · simp only [shaftRead, ht, h, hn, hv, if_neg hl, hw]
    · have hhit : (e.kind != .versioned || (s.shaft k).cc.contains (cbKey e (e.pageOf a.line))) = true := by simpa using hc
      simp only [shaftRead, ht, h, hn, hv, if_neg hl, hw, hkey, Option.getD_some, hhit, if_true]
    · have hhit : (e.kind != .versioned || (s.shaft k).cc.contains (cbKey e (e.pageOf a.line))) = false := by simp [hc]; simpa using hcc
      simp only [shaftRead, ht, h, hn, hv, if_neg hl, hw, hkey, Option.getD_some, hhit, Bool.false_eq_true, if_false]
  case block =>
    intro blk ecc
    dsimp only
    intro hf
    have hex := next_live hs.1 (decide_eq_true hs.2.1) (counterFetchDone k blk ecc)
    refine ⟨fun h => hex.trans ?_, fun n e h => ⟨fun hecc => hex.trans ?_, fun hecc => hex.trans ?_⟩⟩
    · simp only [counterFetchDone, State.modShaft_seams, hf, Bool.not_true, Bool.false_eq_true, if_false, h]
    · simp only [counterFetchDone, State.modShaft_seams, hf, Bool.not_true, Bool.false_eq_true, if_false, h, hecc, if_true]
    · simp only [counterFetchDone, State.modShaft_seams, hf, Bool.not_true, Bool.false_eq_true, if_false, h, hecc]
  case pads =>
    intro tag t ht
    have hex := next_shaftIn hs (padReady k tag)
    refine ⟨fun h => hex.trans ?_, fun x h => hex.trans ?_⟩ <;> simp only [padReady, ht, h]
  case line =>
    intro tag l t ht
    have hex := next_shaftIn hs (hubReadReturn k tag l)
    refine ⟨fun d h => hex.trans ?_, fun h hj => hex.trans ?_, fun h hj => hex.trans ?_⟩
    · simp only [hubReadReturn, ht, h]
    · simp only [hubReadReturn, ht, h, hj, Bool.false_eq_true, if_false]
    · simp only [hubReadReturn, ht, h, hj, if_true]
  case verdict =>
    intro tag rest x r hq hx hr
    have hex := next_shaftIn hs (correctionVerdict k)
    refine ⟨fun h => hex.trans ?_, fun g w y z h hy hz => hex.trans ?_⟩
    · simp only [correctionVerdict, hq, hx, hr, h]
    · have hy' : List.find? (fun x => x.tag == g) ((((s.modShaft k fun sh => { sh with corrQ := rest }).judge k x (heldLine r)).modShaft k
          fun sh => { sh with corrWait := w }).shaft k).track = some y := by
        rw [State.modShaft_shaft]
        exact hy
      simp only [correctionVerdict, hq, hx, hr, h, hy', hz]
  case offer =>
    intro t d
    dsimp only
    refine ⟨fun h => ?_, fun hp hl hq hc => ?_, fun hp hl hq => ?_, fun hk hd => ?_⟩
    · have h' : (!t.pads) = true ∨ s.lineStays t = true := by simpa using h
      simp only [State.offerLine, if_pos h']
    · obtain ⟨hf, hk, hj⟩ := hq
      dsimp only [State.offerLine]
      rw [if_neg (by simp [hp, hl]), if_pos ⟨hf, hk, by simp [hj], hc⟩]
    · dsimp only [State.offerLine]
      rw [if_neg (by simp [hp, hl]), if_neg]
      rintro ⟨hf, hk, hj, hc⟩
      exact hq.elim (fun h => h ⟨hf, hk, by simpa using hj⟩) (fun h => by omega)
    · simp only [State.deliverLine, hk, hd, Bool.false_eq_true, if_false, if_true]
  case write =>
    intro a t ht
    have hex := next_shaftIn hs (shaftWrite k)
    refine ⟨fun c h => hex.trans ?_, fun n e h hn => hex.trans ?_⟩
    · simp only [shaftWrite, State.writeOne, ht, Option.map_some, h]
    · simp only [shaftWrite, State.writeOne, ht, Option.map_some, h, hn]
  case ask =>
    intro h
    refine (next_shaftIn hs (shaftWrite k)).trans ?_
    simp only [shaftWrite, h]
  case go =>
    intro n a
    dsimp only
    refine ⟨fun hl => ?_, fun hl hm hj => ?_, fun hl hm hj => ?_, fun hl hm hf => ?_, fun v hl hm hf hv => ?_, fun w hl hm hf hv hw => ?_,
      fun hl hm hf hv hw => ?_⟩
    all_goals
      dsimp only [State.writeGo]
    · rw [if_pos (by simpa using hl)]
    all_goals
      rw [if_neg (by simpa using hl)]
    · rw [if_pos hm, if_pos hj]
    · rw [if_pos hm, if_neg hj]
    all_goals rw [if_neg hm]
    · rw [if_pos hf]
    · simp only [hf, hv, Bool.false_eq_true, if_false]
    · simp only [hf, hv, hw, Bool.false_eq_true, if_false]
    · simp only [hf, hv, hw, Bool.false_eq_true, if_false]
  case refresh =>
    intro r rest key lines hr hkey
    have hex := next_live hs.1 (decide_eq_true hs.2.1) (refreshDone k lines)
    refine ⟨fun h => hex.trans ?_, fun x fixed h ho => hex.trans ?_, fun c h ho => hex.trans ?_⟩
    · simp only [refreshDone, hr, hkey, h, if_true, Bool.false_eq_true, if_false]
    · simp only [refreshDone, hr, hkey, h, ho, Bool.false_eq_true, if_false]
    · simp only [refreshDone, hr, hkey, h, ho, Bool.false_eq_true, if_false]
  case oldLine =>
    intro tag l t a ht ha
    have hex := next_shaftIn hs (partialOldLineReturn k tag l)
    refine ⟨fun x fixed h => hex.trans ?_, fun c h => hex.trans ?_⟩
    · simp only [partialOldLineReturn, ht, ha, h]
    · simp only [partialOldLineReturn, ht, ha, h]
  case ack =>
    intro line w hw
    refine (next_live hs.1 (decide_eq_true hs.2.1) (hubWriteAck k line)).trans ?_
    simp only [hubWriteAck, hw]

end Sys2Proof.Machine
end

section
/-!
PROOF. A chiplet link's bring-up, loss, resynchronisation and reset (07): SiteLinkCompletes.
-/

namespace Sys2Proof.Machine

/-- A command behind the gate of the running block's ports is its function. -/
theorem next_portIn {s : State} (h : s.PortsOn) {ok : Bool} (hok : ok = true) (f : State → State) :
    (Host.Outcome.next (s.portIn ok f).settle : Host.Outcome State Fault Refusal) = .next (f s).settle := by
  obtain ⟨ha, hq, hl⟩ := h
  exact next_live ha (by simp [hq, hl, hok]) f

/-- A write that reaches its register is its command. -/
theorem next_reg {s : State} {ap : Aperture} {pl : Place} {o : Nat} (h : s.Reaches ap pl o) {ok : Bool} (hok : ok = true) (f : State → State) :
    (Host.Outcome.next (s.given (apOk ap && ok) fun s => s.atReg ap pl o f).settle : Host.Outcome State Fault Refusal) = .next (f s).settle :=
  congrArg (fun t : State => Host.Outcome.next t.settle) (h.reg hok f)

theorem State.takeBoot_eq {s u : State} {t code : Nat} {b : List Byte} (h : s.takeBoot t code b = some u) :
    u = s.modSio t fun io => { io with chunks := none } := by
  unfold State.takeBoot at h
  split at h
  · split at h
    · exact (Option.some.inj h).symm
    · exact absurd h (by simp)
  · exact absurd h (by simp)

theorem State.takeBoot_site {s u : State} {t code : Nat} {b : List Byte} (h : s.takeBoot t code b = some u) (j : Nat) : u.site j = s.site j := by
  rw [State.takeBoot_eq h]
  rfl

/-- Settles O24. -/
theorem siteLinkCompletes : Obligations.SiteLinkCompletes := by
  refine ⟨fun s t ht => ?_, fun s t hs ht => ?_⟩
  all_goals
    dsimp only
    have hsite : isSite t = true := decide_eq_true ht
    have ht8 : ¬ 8 ≤ t := Nat.not_le.2 ht
  · refine ⟨fun hs hx hl => ?up, fun h u hs hu hx => ?hello, fun r u hs hx h3 hu => ?response, fun f u ha hx h6 hu => ?confirm, fun ha hx => ?late,
      fun ap hop hr => ?restart⟩
    case up =>
      refine (next_portIn hs hsite (siteLinkUp t true)).trans ?_
      simp only [siteLinkUp, ht8, hl, hx, Bool.not_true, Bool.false_eq_true, or_self, if_false]
      rfl
    case hello =>
      have hex := next_portIn hs hsite (ctrlHello t h)
      have hboot : (u.site t).state = .boot := by rw [State.takeBoot_site hu, hx]
      have hstep : (u.site t).step = (s.site t).step := by rw [State.takeBoot_site hu]
      have hlease (f : Site → Site) : (u.modSite t f).lease = s.lease := by rw [State.takeBoot_eq hu]; rfl
      have hello : (u.site t).step = 1 → exec (.ctrlHello t h) s = .next (u.siteHello t h).settle := fun h1 => hex.trans (by
        simp only [ctrlHello, hu, hboot, h1, if_true])
      refine ⟨fun h1 hc => ?_, fun h1 hc hc' hk => ?_, fun h1 hc hc' hv hk => ?_, fun h1 => hex.trans ?_⟩
      · rw [hello (hstep.trans h1)]
        simp only [State.siteHello, if_pos hc]
      · have hk' : h.version ≠ 1 ∨ (!s.lease.descriptors.any fun d => d.hello t h.maker h.part h.rev) = true := by simpa using hk
        rw [hello (hstep.trans h1)]
        dsimp only [State.siteHello]
        rw [if_neg (by omega), hlease, if_pos hk']
        rfl
      · have hk' : ¬ (h.version ≠ 1 ∨ (!s.lease.descriptors.any fun d => d.hello t h.maker h.part h.rev) = true) := by simp [hk, hv]
        rw [hello (hstep.trans h1)]
        dsimp only [State.siteHello]
        rw [if_neg (by omega), hlease, if_neg hk']
      · simp only [ctrlHello, hu, hboot, hstep, if_neg h1]
    case response =>
      have hex := next_portIn hs hsite (ctrlResponse t r)
      have h0 : ¬ ((s.site t).state ≠ .boot ∨ (s.site t).step ≠ 3) := by simp [hx, h3]
      refine ⟨fun hf => hex.trans ?_, fun i d nz nt nr u' w y hf hd hz ht hr => hex.trans ?_, fun hf hz => hex.trans ?_⟩
      · dsimp only [ctrlResponse]
        rw [if_neg h0]
        simp only [hu]
        split
        · rfl
        · next i d hd =>
          rw [if_pos]
          · rfl
          · refine Classical.byContradiction fun hn => hf ?_
            exact (by simpa [hd, not_or, and_assoc] using hn)
      · obtain ⟨-, hc, hsg, hn⟩ := hf
        simp only [ctrlResponse, if_neg h0, hu, hd, hc, hsg, hn, bne_self_eq_false, Bool.not_true, Bool.or_self, Bool.false_eq_true, if_false, hz, ht, hr]
      · obtain ⟨hd, hc, hsg, hn⟩ := hf
        obtain ⟨⟨i, d⟩, hd⟩ := Option.isSome_iff_exists.1 hd
        simp only [ctrlResponse, if_neg h0, hu, hd, hc, hsg, hn, bne_self_eq_false, Bool.not_true, Bool.or_self, Bool.false_eq_true, if_false, hz]
    case confirm =>
      have hex := next_live ha hsite (ctrlKeyConfirm t)
      refine ⟨fun h => hex.trans ?_, fun h => hex.trans ?_⟩
      · simp only [ctrlKeyConfirm, hx, h6, hu, h, ne_eq, not_true_eq_false, or_self, if_false, if_true]
      · simp only [ctrlKeyConfirm, hx, h6, hu, h, ne_eq, not_true_eq_false, or_self, if_false]
        rfl
    case late =>
      refine (next_live ha hsite (bringupTimeout t)).trans ?_
      rw [bringupTimeout, if_pos hx]
    case restart =>
      have hex := next_reg hr hsite (tsRestart ap t)
      refine ⟨fun h => hex.trans ?_, fun h1 h2 => hex.trans ?_⟩
      · rw [tsRestart, if_neg (by simp [hop, ht8]), if_pos h]
      · rw [tsRestart, if_neg (by simp [hop, ht8]), if_neg (not_or.2 ⟨h1, h2⟩)]
  · refine ⟨fun hl => ⟨fun hx => ?_, fun hx => ?_⟩, fun hl => ⟨fun hx => ⟨?_, ?_⟩, fun hx hx' => ?_, ?_⟩, fun h u hu => ⟨fun hx => ?_, fun h1 h2 h3 => ?_⟩⟩
    · refine (next_portIn hs hsite (siteLinkDown t)).trans ?_
      simp [siteLinkDown, ht8, hl, hx]
    · refine (next_portIn hs hsite (siteLinkDown t)).trans ?_
      simp [siteLinkDown, ht8, hl, hx]
    · refine (next_portIn hs hsite (siteLinkUp t true)).trans ?_
      simp [siteLinkUp, ht8, hl, hx]
    · refine (next_live hs.1 hsite (resyncTimeout t)).trans ?_
      simp [resyncTimeout, hl, hx]
    · refine (next_portIn hs hsite (siteLinkUp t true)).trans ?_
      rw [siteLinkUp, if_neg (by simp [ht8, hl]), if_neg (by simp)]
      cases hst : (s.site t).state <;> simp_all
    · refine (next_portIn hs hsite (siteLinkUp t false)).trans ?_
      simp [siteLinkUp, ht8, hl]
    · refine (next_portIn hs hsite (ctrlHello t h)).trans ?_
      rw [← State.takeBoot_site hu] at hx
      simp only [ctrlHello, hu]
      obtain hx | hx := hx <;> simp only [hx]
    · refine (next_portIn hs hsite (ctrlHello t h)).trans ?_
      rw [← State.takeBoot_site hu] at h1 h2 h3
      simp only [ctrlHello, hu]

end Sys2Proof.Machine
end

section
/-!
PROOF. Frames of a chiplet link, their acceptance, and the requests in them (07): SiteFramesComplete.
-/

namespace Sys2Proof.Machine

/-- What FRAME_RECEIVE makes of a frame by its head, its payload and its MAC (R160, R162, R167, R173 to R176). -/
theorem frameReceive_append (t : Nat) {head wire mac : List Byte} (hh : head.length = 8) (hw : wire.length = 64) (hm : mac.length = 8) (ht : t < 8)
    (s : State) : frameReceive t (head ++ wire ++ mac) s =
      (let x := s.site t
       let hd : Dword := BitVec.ofNat 64 (ofLe head)
       let sum : Dword := BitVec.ofNat 64 (ofLe mac.reverse)
       let kind := (hd.extractLsb' 60 4).toNat
       let code := (hd.extractLsb' 32 8).toNat
       let full := fullSeq x.rxSeq (hd.extractLsb' 40 16)
       let seq : Dword := BitVec.ofNat 64 full.toNat
       let slot := x.rxKeyOf (hd.extractLsb' 58 2).toNat
       let plain (n : Nat) : List Byte := xorBytes wire (linkPad (s.keyBytes n) (linkBlock seq true false 0 0))
       if kind = 0 then s
       else if x.state = .disabled ∨ x.state = .quarantined then s.modSio t fun io => { io with stale := satInc io.stale }
       else if !x.linkUp then s
       else if kind = 5 ∧ sum = 0 ∧ (code = 1 ∨ code = 3) then s.takeChunk t code (hd.extractLsb' 40 16).toNat (hd.getLsbD 16) wire
       else if x.rxK = none then s
       else if full < (x.rxSeq.toNat : Int) then s.modSio t fun io => { io with stale := satInc io.stale }
       else if seq = x.rxSeq then
         match slot with
         | some n => if s.rxMac n seq head wire == sum then s.acceptFrame t hd (plain n) else s.frameFailed t
         | none => s.frameFailed t
       else
         match slot with
         | some n =>
           if x.state = .resync ∧ kind = 5 ∧ code = 0x13 ∧ s.rxMac n seq head wire == sum then
             s.modSio t fun io => { io with rx := io.rx ++ [{ kind, tag := (hd.extractLsb' 24 16).toNat, seq, payload := plain n }] }
           else if (s.sIo t).await_ then s else s.frameFailed t
         | none => if (s.sIo t).await_ then s else s.frameFailed t) := by
  have h1 : (head ++ wire ++ mac).take 8 = head := by simp [List.append_assoc, hh]
  have h2 : ((head ++ wire ++ mac).drop 8).take 64 = wire := by simp [List.append_assoc, ← hh, ← hw]
  have h3 : (head ++ wire ++ mac).drop 72 = mac := by
    rw [List.drop_append, List.drop_of_length_le] <;> simp [hh, hw]
  have h4 : (head ++ wire ++ mac).length = 80 := by simp [hh, hw, hm]
  dsimp only [frameReceive]
  rw [h1, h2, h3, h4]
  simp only [ne_eq, not_true_eq_false, Nat.not_le.2 ht, false_or] <;> rfl

/-- Settles O25. -/
theorem siteFramesComplete : Obligations.SiteFramesComplete := by
  refine ⟨⟨fun s t head wire mac hs ht hh hw hm => ?_, fun s t hd plain ht => ?_⟩, fun s t ha ht => ⟨?_, ?_, ?_, ?_⟩⟩
  all_goals have hsite : isSite t = true := decide_eq_true ht
  · dsimp only
    intro hk
    have hex : exec (.frameReceive t (head ++ wire ++ mac)) s = _ :=
      (next_portIn hs hsite _).trans (congrArg (fun u : State => Host.Outcome.next u.settle) (frameReceive_append t hh hw hm ht s))
    dsimp only at hex
    rw [if_neg hk] at hex
    refine ⟨fun hx => ?_, fun hx hx' hl => ?_⟩
    · rw [hex, if_pos hx]
    rw [if_neg (not_or.2 ⟨hx, hx'⟩), if_neg (by simp [hl])] at hex
    refine ⟨fun hc => ?_, fun hc hr => ⟨fun hq => ?_, fun hq => ?_, fun hq hq' => ?_⟩⟩
    · rw [hex, if_pos hc]
    all_goals rw [if_neg hc, if_neg hr] at hex
    · rw [hex, if_pos hq]
    all_goals rw [if_neg (by omega)] at hex
    · have hseq : BitVec.ofNat 64 (fullSeq (s.site t).rxSeq (BitVec.extractLsb' 40 16 (BitVec.ofNat 64 (ofLe head) : Dword))).toNat = (s.site t).rxSeq := by
        simp [hq]
      rw [if_pos hseq] at hex
      refine ⟨fun n hn hm => ?_, fun hn => ⟨fun haw => ?_, fun haw => ?_⟩⟩
      · simp only [hn] at hex
        rw [hex, if_pos (by simpa [State.rxMac] using hm.symm)]
      all_goals
        have hfail : exec (.frameReceive t (head ++ wire ++ mac)) s = .next (s.frameFailed t).settle := by
          rw [hex]
          split
          · next n hkey => rw [if_neg (by simpa [State.rxMac] using (hn n hkey).symm)]
          · rfl
        rw [hfail, State.frameFailed]
      · simp only [haw, if_true]
      · simp only [haw, Bool.false_eq_true, if_false]
    · rw [if_neg hq'] at hex
      refine ⟨fun n hn he => ?_, fun hn => ?_⟩
      · simp only [hn] at hex
        obtain ⟨hx, hk, hc, hm⟩ := he
        rw [hex, if_pos ⟨hx, hk, hc, by simpa [State.rxMac] using hm.symm⟩]
      · have hfail : exec (.frameReceive t (head ++ wire ++ mac)) s = .next (if (s.sIo t).await_ then s else s.frameFailed t).settle := by
          rw [hex]
          split
          · next n hkey =>
            rw [if_neg]
            rintro ⟨hx, hk, hc, hm⟩
            exact hn n hkey ⟨hx, hk, hc, by simpa [State.rxMac] using (beq_iff_eq.1 hm).symm⟩
          · rfl
        rw [hfail]
        refine ⟨fun haw => ?_, fun haw => ?_⟩
        · rw [if_pos haw]
        · rw [if_neg (by simp [haw]), State.frameFailed]
          simp only [haw, Bool.false_eq_true, if_false]
  · intro x kind now a b c u f
    exact ⟨fun h h0 => (if_pos h).trans (if_pos h0), fun h h0 hf => (if_pos h).trans ((if_neg h0).trans (if_pos hf)),
      fun h h0 hf => (if_pos h).trans ((if_neg h0).trans (if_neg (ne_true_of_eq_false hf))),
      fun h h0 => (if_neg (by omega)).trans ((if_pos h).trans (if_pos h0)),
      fun h h0 hf => (if_neg (by omega)).trans ((if_pos h).trans ((if_neg h0).trans (if_pos hf))),
      fun h h0 hf => (if_neg (by omega)).trans ((if_pos h).trans ((if_neg h0).trans (if_neg (ne_true_of_eq_false hf)))),
      fun h => (if_neg (by omega)).trans ((if_neg (by omega)).trans (if_pos h)),
      fun h1 h2 h5 => (if_neg h1).trans ((if_neg h2).trans (if_neg h5))⟩
  · intro hx f u hu
    refine (next_live ha hsite (reqFrame t)).trans ?_
    simp only [reqFrame, hx, hu, ne_eq, not_true_eq_false, if_false]
  · intro hx f u hu
    dsimp only
    have hex := next_live ha hsite (dataFrame t)
    refine ⟨fun o ho hn hp => hex.trans ?_, fun ho => hex.trans ?_⟩
    · simp only [dataFrame, hx, hu, ho, ne_eq, not_true_eq_false, if_false, hp, or_false, Nat.not_le.2 hn]
    · simp only [dataFrame, hx, hu, ne_eq, not_true_eq_false, if_false]
      split
      · rfl
      · next o h => rw [if_pos (ho o h)]
  · intro tag o htag ho
    refine (next_live ha hsite (siteSlotIssue t tag)).trans ?_
    simp only [siteSlotIssue, ho]
  · intro tag o htag hk hx ho hready hroom p op ctx known fence end_ out u
    have hex := next_live ha hsite (siteSlotIssue t tag)
    have h0 : ¬ ((s.site t).state ≠ .run ∨ (!o.ready (s.sIo t).ops) = true ∨ (!s.rspRoom t (rspParts op.answerBytes)) = true) := by
      simp [hx, hready, hroom, op]
    have hex : exec (.siteSlotIssue t tag) s = .next (
        if !s.ctxOk p ctx then (s.stale p).endSlot t o 2
        else if !op.known then (s.opFault p op.ctx 0x3403 (siteObj t)).endSlot t o 1
        else if fence then { u with req := { u.req with fences := u.req.fences ++ [(.site t, p, ctx, tag)] } }
        else if end_ then s.endCart t o ctx
        else if op.cart then s.joinCart t o ctx
        else if out then (s.opFault p op.ctx 0x4009 (siteObj t)).endSlot t o 1
        else match u.issueReq (.site t) op tag o.seq (op.kind == 3 && op.opcode != 3) with
          | none => s
          | some v => if op.posted ∧ nodeOf op.addr = s.lse.node then v.cmpl t tag (v.opStatus p op.ctx true 0 false) else v).settle := by
      refine hex.trans ?_
      simp only [siteSlotIssue, hk, ho]
      rw [if_neg h0] <;> rfl
    refine ⟨fun hc => ?_, fun hc => ⟨fun hn => ?_, fun hn hf => ?_, fun hn hf he => ?_, fun hn hf he ht => ?_, fun hn hf he ht => ⟨fun h => ?_,
      fun h hi => ?_, fun v h hi => ⟨fun hh => ?_, fun hh => ?_⟩⟩⟩⟩
    · rw [hex, if_pos (by simp [hc])]
    all_goals rw [if_neg (by simp [hc])] at hex
    · rw [hex, if_pos (by simpa [known] using hn)]
    all_goals rw [if_neg (by simpa [known] using hn)] at hex
    · rw [hex, if_pos hf]
    all_goals rw [if_neg hf] at hex
    · rw [hex, if_pos he]
    all_goals rw [if_neg he] at hex
    · rw [hex, if_pos ht]
    all_goals rw [if_neg (ne_true_of_eq_false ht)] at hex
    · rw [hex, if_pos h]
    all_goals rw [if_neg h] at hex
    · rw [hex, hi]
    all_goals rw [hi] at hex
    · exact hex.trans (congrArg (fun t : State => Host.Outcome.next t.settle) (if_neg hh))
    · exact hex.trans (congrArg (fun t : State => Host.Outcome.next t.settle) (if_pos hh))

end Sys2Proof.Machine
end

section
/-!
PROOF. CTRL messages of a chiplet link (07): SiteControlCompletes.
-/

namespace Sys2Proof.Machine

/-- Settles O26: each message is its function behind the gate, taken from the oldest accepted frame. -/
theorem siteControlCompletes : Obligations.SiteControlCompletes := by
  intro s t ht
  have hsite : isSite t = true := decide_eq_true ht
  refine ⟨fun ha => ⟨fun f u h => ?credit, fun f u h => ?replay, fun f u h => ?lost, fun f u h => ?failed, fun f u h => ?resync, fun f u h => ?rekey,
    fun f u h => ?flush⟩, fun ap hop hr => ?command⟩
  case credit =>
    refine (next_live ha hsite (ctrlCredit t)).trans ?_
    simp only [ctrlCredit, h]
    rfl
  case replay =>
    have hex := next_live ha hsite (ctrlReplay t)
    simp only [ctrlReplay, h] at hex
    exact ⟨fun hr => hex.trans (by rw [if_pos hr]), fun hr => hex.trans (by rw [if_neg (by simp [hr])])⟩
  case lost =>
    refine (next_live ha hsite (ctrlReplayLost t)).trans ?_
    simp only [ctrlReplayLost, h]
  case failed =>
    refine (next_live ha hsite (ctrlReplayFailed t)).trans ?_
    simp only [ctrlReplayFailed, h]
  case resync =>
    have hex := next_live ha hsite (ctrlResync t)
    simp only [ctrlResync, h] at hex
    refine ⟨fun hn hr => hex.trans ?_, fun hn hr => hex.trans ?_, fun hn => hex.trans ?_⟩
    · rw [if_neg (by simp [hn]), if_pos hr]
    · rw [if_neg (by simp [hn]), if_neg (by simp [hr])]
    · rw [if_pos (by simpa [Decidable.imp_iff_not_or] using hn)]
  case rekey =>
    have hex := next_live ha hsite (ctrlRekey t)
    simp only [ctrlRekey, h] at hex
    refine ⟨fun he => hex.trans ?_, fun he => hex.trans ?_, fun h1 h2 => hex.trans ?_⟩
    · rw [if_pos he]
    · rw [if_neg (by rw [he]; bv_omega), if_pos he]
    · rw [if_neg h1, if_neg h2]
  case flush =>
    refine (next_live ha hsite (ctrlFlushDone t)).trans ?_
    simp only [ctrlFlushDone, h]
  case command =>
    have hex := next_reg hr hsite (tsRekey ap t)
    rw [tsRekey, if_neg (by simp [hop, ht])] at hex
    exact ⟨fun h => hex.trans (by rw [if_pos h]), fun h => hex.trans (by rw [if_neg h])⟩

end Sys2Proof.Machine
end

section
/-!
PROOF. Links, codewords, slots and packets of a fabric port (08): PortTrafficCompletes.
-/

namespace Sys2Proof.Machine

/-- Settles O27. -/
theorem portTrafficCompletes : Obligations.PortTrafficCompletes := by
  refine ⟨fun s p hp => ⟨?up, fun h1 h2 => ⟨?down, ?lostWord, ?codeword, ?hello⟩, ?slot, ?hostSlot⟩, fun s p ha hp => ⟨?transit, ?deliver, ?verdict⟩⟩
  all_goals have hport : isPort p = true := decide_eq_true hp
  case up =>
    intro hs hq ho
    refine (next_portIn hs hport (fabricPortUp p)).trans ?_
    rw [fabricPortUp, if_neg (by simp [hq, ho, hp])]
  case down =>
    intro hs
    refine (next_portIn hs hport (fabricPortDown p)).trans ?_
    rw [fabricPortDown, if_neg (by simp [h1, h2, hp])]
  case lostWord =>
    intro hdr us hs
    refine (next_portIn hs hport (codewordReceive p hdr us true)).trans ?_
    dsimp only [codewordReceive]
    rw [if_neg (by simp [h1, h2, hp]), if_pos rfl]
  case codeword =>
    intro hdr us hs
    refine (next_portIn hs hport (codewordReceive p hdr us false)).trans ?_
    dsimp only [codewordReceive]
    rw [if_neg (by simp [h1, h2, hp]), if_neg (by simp)]
    -- neither the limit nor the framing that a codeword gives changes the port's slots
    by_cases hvl : (hdr.extractLsb' 12 2).toNat < 3 <;> by_cases hfirst : (hdr.extractLsb' 14 6).toNat < 40 <;> cases hlost : (s.port p).lost <;>
      simp only [hvl, hfirst, hlost, if_true, if_false, Bool.not_true, Bool.not_false, Bool.false_eq_true] <;> rfl
  case hello =>
    intro ha hn
    refine (next_live ha hport (helloTimer p)).trans ?_
    rw [helloTimer, if_neg (by simp [h1, h2, hp, hn])]
  case slot =>
    intro ha hs hl
    have hex := next_live ha (ok := isSlotUnit p) (by simp [isSlotUnit]; omega) (slotBoundary p)
    dsimp only [slotBoundary] at hex ⊢
    rw [if_neg (by omega), if_neg (by simp [hs, hl]; omega)] at hex
    refine ⟨fun x hon hx => ?_, fun hu hn hm => ?_, fun h => ?_⟩
    · rw [if_neg (by simpa [not_or] using hon), hx] at hex
      exact hex
    · rw [if_neg (by simp [hu]), hn] at hex
      dsimp only at hex
      rw [if_neg (by simp [hu, hm])] at hex
      exact hex
    · by_cases hon : (s.port p).state = .unused ∨ (s.port p).state = .down
      · rw [if_pos hon] at hex
        exact hex
      · obtain ⟨hn, hm⟩ := h.resolve_left (by simpa [not_or] using hon)
        rw [if_neg hon, hn] at hex
        dsimp only at hex
        rw [if_pos (by simpa using hm)] at hex
        exact hex
  case hostSlot =>
    intro ha
    exact next_live ha rfl (slotBoundary 24)
  case transit =>
    intro x t hx
    have hex := next_live ha hport (packetTransit p)
    simp only [packetTransit, hx] at hex
    refine ⟨fun h => hex.trans ?_, fun h hst => hex.trans ?_, fun o h hst ho => hex.trans ?_⟩
    · rw [if_pos (by simp [h])]
    · rw [if_neg (by simp [h]), if_pos hst]
    · rw [if_neg (by simp [h]), if_neg hst, ho]
  case deliver =>
    intro x hx
    have hex := next_live ha hport (packetDeliver p)
    simp only [packetDeliver, hx] at hex
    dsimp only
    refine ⟨fun h => hex.trans ?_, fun h hp => hex.trans ?_, fun h hp => hex.trans ?_⟩
    · rw [if_pos (by simpa [Decidable.imp_iff_not_or] using h)]
    · rw [if_neg (by simpa using h)]
      simp only [if_pos hp]
    · rw [if_neg (by simpa using h)]
      simp only [hp, ne_eq, not_true_eq_false, if_false]
  case verdict =>
    intro x t hx
    have hex := next_live ha hport (packetVerdict p)
    simp only [packetVerdict, hx] at hex
    dsimp only
    refine ⟨fun h hf => hex.trans ?_, fun h hf => hex.trans ?_, fun h hk => hex.trans ?_, fun k h hk => ⟨fun hw => hex.trans ?_, fun f hw => hex.trans ?_⟩⟩
    · rw [if_pos h, if_pos hf]
    · rw [if_pos h, if_neg hf]
    · rw [if_neg h, hk]
    · rw [if_neg h, hk]
      simp only [hw]
    · rw [if_neg h, hk]
      simp only [hw]

end Sys2Proof.Machine
end

section
/-!
PROOF. Messages between neighbouring nodes (08): NeighbourMessagesComplete.
-/

namespace Sys2Proof.Machine

/-- Settles O28: each message is its function behind the gate, taken from the port's oldest. -/
theorem neighbourMessagesComplete : Obligations.NeighbourMessagesComplete := by
  intro s p ha hp
  have hport : isPort p = true := decide_eq_true hp
  refine ⟨?hello, fun hd => ⟨?announceTimer, ?syncTimer, fun hu => ?silent⟩, ?announce, fun m t hm => ?dispute, fun m t hm => ?fail, fun m t hm => ?good,
    ?sync⟩
  case hello =>
    intro m t hm off g a b c d joins rank
    have hex : exec (.helloReceive p) s = .next (
        if off then t
        else if t.helloAgrees p m = false then ((((t.portState p .miswired).clearTx p).irq .yf 0 3).logged 0x3006 0 (.unit .port p 0)).checkRoutes
        else if (m.le 15 1 % 2 == 1) = true ∧ d.fab.cand.isNone = true ∧ (d.fab.dstate = 1 ∨ d.fab.dstate = 2 ∨ d.fab.dstate = 5) then
          match rank with
          | some r => if m.le 14 1 = d.lse.node then d else d.joinVia r g
          | none => d
        else d).settle := by
      refine (next_live ha hport (helloReceive p)).trans ?_
      simp only [helloReceive, hm, Bool.not_eq_true']
      rfl
    refine ⟨fun h => ?_, fun h hg => ?_, fun h hg => ⟨fun r hj hr => ?_, fun hj => ?_⟩⟩
    · rw [hex, if_pos h]
    all_goals rw [if_neg h] at hex
    · rw [hex, if_pos hg]
    all_goals rw [if_neg (by simp [hg])] at hex
    · obtain ⟨h1, h2, h3, h4⟩ := hj
      rw [hex, if_pos ⟨by simpa using h1, by simpa using h2, h3⟩, hr]
      exact congrArg (fun t : State => Host.Outcome.next t.settle) (if_neg h4)
    · rw [hex]
      split
      · next hc =>
        obtain ⟨h1, h2, h3⟩ := hc
        obtain hr | ⟨r, hr⟩ := Option.eq_none_or_eq_some rank
        · rw [hr]
        · have h4 : m.le 14 1 = d.lse.node := by
            refine Classical.byContradiction fun h4 => ?_
            exact (hj.resolve_right (by simp [hr])) ⟨by simpa using h1, by simpa using h2, h3, h4⟩
          rw [hr]
          exact congrArg (fun t : State => Host.Outcome.next t.settle) (if_pos h4)
      · rfl
  case announceTimer =>
    refine (next_live ha rfl announceTimer).trans ?_
    rw [announceTimer, if_neg (by simp [hd])]
  case syncTimer =>
    refine (next_live ha rfl timeSyncTimer).trans ?_
    rw [timeSyncTimer, if_neg (by simp [hd])]
  case silent =>
    refine (next_live ha hport (announceSilent p)).trans ?_
    rw [announceSilent, if_pos ⟨hp, hd, hu⟩]
  case announce =>
    intro m t hm u ok early
    have hex : exec (.announceReceive p) s = .next (
        if !ok then (if (u.port p).state = .up then u.disputePort p 1 else u)
        else if (u.port p).state = .disputed then
          match (u.pIo p).integAt with
          | some x => if u.clk.cyc < x + 1600000 then u else u.portUp p
          | none => u.portUp p
        else u).settle := by
      refine (next_live ha hport (announceReceive p)).trans ?_
      simp only [announceReceive, hm]
      rfl
    refine ⟨fun h hu => ?_, fun h hu he => ?_, fun h => ?_⟩
    · rw [hex, if_pos (by simp [h]), if_pos hu]
    · rw [hex, if_neg (by simp [h]), if_pos hu]
      split
      · next x hx => rw [if_neg fun hlt => he ⟨x, hx, hlt⟩]
      · rfl
    · rw [hex]
      obtain ⟨h, hu⟩ | ⟨h, hu⟩ := h
      · rw [if_pos (by simp [h]), if_neg hu]
      · rw [if_neg (by simp [h])]
        split
        · next hd =>
          obtain ⟨x, hx, hlt⟩ := hu.resolve_left (Classical.not_not.2 hd)
          simp only [hx, if_pos hlt]
        · rfl
  case dispute =>
    refine (next_live ha hport (disputeReceive p)).trans ?_
    simp only [disputeReceive, hm]
  case fail =>
    refine (next_live ha hport (routeFailReceive p)).trans ?_
    simp only [routeFailReceive, hm]
  case good =>
    refine (next_live ha hport (routeOkReceive p)).trans ?_
    simp only [routeOkReceive, hm]
  case sync =>
    intro m t hm y seq heard u sentAt pair
    have hex : exec (.timeSyncReceive p) s = .next (
        match sentAt with
        | some a => if pair then u.clockOffset ((((m.le 16 8 : Int) - a) - ((y.rxTime.toNat : Int) - (m.le 24 8 : Int))) / 2) else u
        | none => u).settle := by
      refine (next_live ha hport (timeSyncReceive p)).trans ?_
      simp only [timeSyncReceive, hm]
      rfl
    refine ⟨fun a h hq => ?_, fun h => ?_⟩
    · rw [hex, h]
      exact congrArg (fun t : State => Host.Outcome.next t.settle) (if_pos hq)
    · rw [hex]
      obtain hs | ⟨a, hs⟩ := Option.eq_none_or_eq_some sentAt
      · rw [hs]
      · rw [hs]
        exact congrArg (fun t : State => Host.Outcome.next t.settle) (if_neg (h.resolve_left (by simp [hs])))

end Sys2Proof.Machine
end

section
/-!
PROOF. The messages that form a domain (08): FormationCompletes.
-/

namespace Sys2Proof.Machine

/-- Settles O29. -/
theorem formationCompletes : Obligations.FormationCompletes := by
  refine ⟨fun s p ha hp => ⟨?timer, ?start, ?evidence⟩, fun s p ha hp => ⟨?keys, ?confirm, ?windowEnd, ?formed, ?reject, ?timeout⟩⟩
  all_goals have hport : isPort p = true := decide_eq_true hp
  case timer =>
    intro k hk hl hd hc
    refine (next_live ha rfl formStartTimer).trans ?_
    simp only [formStartTimer, hk]
    obtain hc | ⟨c, hc, hk0, hm, hf⟩ := hc
    · rw [if_neg (by simp [hd, hc]; omega)]
    · rw [if_neg (by simp [hd, hc, hk0, hm, hf]; omega)]
  case start =>
    intro v m t hm
    have hex := next_live ha hport (formStartReceive p v)
    simp only [formStartReceive, hm] at hex
    dsimp only
    refine ⟨fun h => hex.trans ?_, fun h hn => hex.trans ?_, fun h hb hal => hex.trans ?_⟩
    · rw [if_pos (by simpa [Decidable.imp_iff_not_or, or_assoc] using h)]
    all_goals rw [if_neg (by simpa [and_assoc] using h)]
    · rw [if_pos]
      clear hex
      cases hc : t.fab.cand <;> by_cases hd : t.fab.dstate = 3 <;> simp [hc, hd] at hn ⊢ <;> grind
    · rw [if_neg]
      clear hex
      cases hc : t.fab.cand <;> by_cases hd : t.fab.dstate = 3 <;> simp [hc, hd] at hb hal ⊢ <;> grind
  case evidence =>
    intro v m t hm
    have hex := next_live ha hport (evidenceReceive p v)
    simp only [evidenceReceive, hm] at hex
    dsimp only
    refine ⟨fun c hc hmine hg => ?_, fun hnone => ?_⟩
    · have hfilter : (t.fab.cand.filter fun c => c.mine && c.gen == BitVec.ofNat 32 (m.le 0 4)) = some c := by simp [hc, hmine, hg]
      simp only [hfilter, Option.isNone_some, Bool.false_eq_true, false_and, if_false, Option.map_some, Option.getD_some, Option.isSome_some, if_true] at hex
      refine ⟨fun h => hex.trans ?_, fun h => hex.trans ?_⟩
      · rw [if_pos (by rw [h]; rfl)]
      · rw [if_neg (by rw [h]; simp)]
    · have hfilter : (t.fab.cand.filter fun c => c.mine && c.gen == BitVec.ofNat 32 (m.le 0 4)) = none := by
        rw [Option.filter_eq_none_iff]
        intro c hc
        simpa using hnone c hc
      simp only [hfilter, Option.isNone_none, true_and, Option.map_none, Option.getD_none, Option.isSome_none, Bool.false_eq_true, if_false] at hex
      refine ⟨fun h => hex.trans ?_, fun h hgood => hex.trans ?_, fun h hgood => hex.trans ?_⟩
      · rw [if_pos (by simpa [Decidable.imp_iff_not_or, or_assoc] using h)]
      all_goals rw [if_neg (by simpa [Option.isSome_iff_ne_none, and_assoc] using h)]
      · rw [if_pos (by rw [hgood]; rfl)]
      · rw [if_neg (by rw [hgood]; simp)]
  case keys =>
    intro v m t hm
    have hex := next_live ha hport (keysReceive p v)
    simp only [keysReceive, hm] at hex
    dsimp only
    refine ⟨fun h => hex.trans ?_, fun c hc => ⟨fun h => hex.trans ?_, fun h ht => hex.trans ?_, fun h ht => hex.trans ?_⟩⟩
    · simp only [h]
    all_goals simp only [hc]
    · rw [if_pos (by simpa [Decidable.imp_iff_not_or, or_assoc] using h)]
    · rw [if_neg (by simpa [and_assoc] using h), if_pos ht]
    · rw [if_neg (by simpa [and_assoc] using h), if_neg (Classical.not_not.2 ht)]
  case confirm =>
    intro m t hm
    have hex := next_live ha hport (confirmReceive p)
    simp only [confirmReceive, hm] at hex
    dsimp only
    refine ⟨fun n th incarn hj => ?_, fun c n th x hj hc hmine hn => ?_, fun hj hnone => hex.trans ?_⟩
    · simp only [hj] at hex
      exact ⟨fun h => hex.trans (by rw [if_neg (by simpa using h)]), fun h => hex.trans (by rw [if_pos (by simpa [Decidable.imp_iff_not_or] using h)])⟩
    · simp only [hj, hc, if_pos hmine, hn] at hex
      exact ⟨fun h => hex.trans (by rw [if_neg (by simpa using h)]; rfl), fun h => hex.trans (by rw [if_pos (by simpa [Decidable.imp_iff_not_or] using h)])⟩
    · simp only [hj]
      cases hc : t.fab.cand with
      | none => rfl
      | some c =>
        by_cases hmine : c.mine = true
        · simp only [if_pos hmine, hnone c hc hmine]
        · simp only [if_neg hmine]
  case windowEnd =>
    intro c hc hm
    refine (next_live ha rfl formWindowEnd).trans ?_
    simp only [formWindowEnd, hc, hm, Bool.not_true, Bool.false_eq_true, if_false]
  case formed =>
    intro v m t hm
    have hex := next_live ha hport (formedReceive p v)
    simp only [formedReceive, hm] at hex
    dsimp only
    refine ⟨fun c hc h => hex.trans ?_, fun h => hex.trans ?_⟩
    · simp only [hc]
      rw [if_neg (by simpa [and_assoc] using h)]
    · split
      · rfl
      · next c hc => rw [if_pos (by simpa [Decidable.imp_iff_not_or, or_assoc] using h c hc)]
  case reject =>
    intro v m t hm
    have hex := next_live ha hport (rejectReceive p v)
    simp only [rejectReceive, hm] at hex
    exact ⟨fun h => hex.trans (by rw [if_pos h]), fun h => hex.trans (by rw [if_neg h])⟩
  case timeout =>
    intro c hc hj
    refine (next_live ha rfl candidateTimeout).trans ?_
    simp only [candidateTimeout, hc, hj, Bool.false_eq_true, if_false]
    rfl

end Sys2Proof.Machine
end

section
/-!
PROOF. A domain's life (08): DomainLifeCompletes.
-/

namespace Sys2Proof.Machine

/-- Settles O30. -/
theorem domainLifeCompletes : Obligations.DomainLifeCompletes := by
  intro s
  refine ⟨fun ha => ⟨?joined, ?timeout, ?retry, ?leave, ?switch, ?expire, ?request⟩, fun ap n hop hn hr => ?revive⟩
  case joined =>
    intro p m t hp hm
    have hex := next_live ha (decide_eq_true hp) (joinedReceive p)
    simp only [joinedReceive, hm] at hex
    dsimp only
    refine ⟨fun c hc h => hex.trans ?_, fun h => ?_⟩
    · simp only [hc]
      rw [if_pos (by simpa using h)]
    · have hrest : exec (.joinedReceive p) s = .next (if t.fab.dstate = 3 ∧ m.le 0 4 = t.fab.gen.toNat ∧ m.le 4 1 ≠ t.lse.node then
          t.acceptJoined (m.le 4 1) (BitVec.ofNat 32 (m.le 5 4)) else t).settle := by
        refine hex.trans ?_
        cases hc : t.fab.cand with
        | none => rfl
        | some c =>
          simp only
          rw [if_neg (by simpa using h c hc)]
      exact ⟨fun ht => hrest.trans (by rw [if_pos ht]), fun ht => hrest.trans (by rw [if_neg ht])⟩
  case timeout =>
    intro c hc hj hk hself
    have hex := next_live ha rfl joinTimeout
    simp only [joinTimeout, hc, hj, hk, hself, Bool.not_true, Bool.false_eq_true, or_self, if_false] at hex
    exact ⟨fun r hr => hex.trans (by simp only [hr]), fun hr => hex.trans (by simp only [hr])⟩
  case retry =>
    intro r hd hc hr
    refine (next_live ha rfl joinRetry).trans ?_
    simp only [joinRetry, hd, hc, hr, Option.isNone_none, and_self, if_true]
  case leave =>
    intro hd hl hoff
    refine (next_live ha rfl leaveDomain).trans ?_
    dsimp only [leaveDomain]
    rw [if_neg]
    simp only [hd, not_true_eq_false, ne_eq, false_or, not_or, Nat.not_le, Bool.not_eq_true', Bool.not_eq_false, List.all_eq_true, List.mem_range]
    exact ⟨hl, fun p hp => by simpa [or_assoc] using hoff p hp⟩
  case switch =>
    intro g w h
    refine (next_live ha rfl generationSwitch).trans ?_
    simp only [generationSwitch, h]
  case expire =>
    intro part hpart
    have hex := next_live ha (decide_eq_true hpart) (flowKeyExpire part)
    refine ⟨fun h => hex.trans ?_, fun h => hex.trans ?_⟩
    · obtain ⟨hp, hn, hc⟩ := h
      refine congrArg (fun t : State => Host.Outcome.next t.settle) (if_pos ⟨hp, ?_, ?_⟩)
      · exact Option.isNone_iff_eq_none.2 hn
      · exact Option.isNone_iff_eq_none.2 hc
    · refine congrArg (fun t : State => Host.Outcome.next t.settle) (if_neg ?_)
      rintro ⟨hp, hn, hc⟩
      exact h ⟨hp, Option.isNone_iff_eq_none.1 hn, Option.isNone_iff_eq_none.1 hc⟩
  case request =>
    intro tag r hr ht hs hk
    refine (next_live ha (decide_eq_true ht) (requestTimeout tag)).trans ?_
    simp only [requestTimeout, hr, hs, hk, Bool.not_true, Bool.false_eq_true, or_self, if_false]
  case revive =>
    refine (next_reg hr (decide_eq_true hn) (yfRevive ap n)).trans ?_
    rw [yfRevive, if_pos hop]

end Sys2Proof.Machine
end

section
/-!
PROOF. Requests, entries and tickets of a home (09): HomeCompletes.
-/

namespace Sys2Proof.Machine

/-- Settles O31. -/
theorem homeCompletes : Obligations.HomeCompletes := by
  refine ⟨fun s t q src part tag o ha hq hsrc htag ht => ?_, fun s q ha hq => ⟨?freed, ?lapse, ?locked⟩⟩
  case freed =>
    intro id e he hans heq
    refine (next_live ha (decide_eq_true hq) (entryFreed q id)).trans ?_
    simp only [entryFreed, he, hans, heq, and_self, if_true]
  case lapse =>
    intro part no k h1 h6 hk
    refine (next_live ha (ok := isQuad q && isPart part) (by simp [isQuad, hq, isPart_of_range h1 h6]) (ticketLapse q part no)).trans ?_
    simp only [ticketLapse, hk]
  case locked =>
    intro id e he heq hs hw hl
    refine (next_live ha (decide_eq_true hq) (lockWaitTimeout q id)).trans ?_
    simp only [lockWaitTimeout, he, heq, hs, hw, hl, Bool.false_eq_true, not_false_eq_true, and_self, if_true]
  have hex := next_live ha (ok := isQuad q && isNode src && isTag tag) (by simp [isQuad, isNode, isTag, hq, hsrc, htag]) (homeRequest q src part tag)
  simp only [homeRequest, ht] at hex
  dsimp only
  refine ⟨fun hc => hex.trans ?_, fun hc hb => hex.trans ?_, fun x hc hb hx => ⟨fun hr => hex.trans ?_, fun hr hh => hex.trans ?_,
    fun hr hh => hex.trans ?_⟩, fun hc hb hn => ⟨fun hl => hex.trans ?_, fun hl => ⟨fun hf => hex.trans ?_, fun hf hah => hex.trans ?_,
    fun hf hah => hex.trans ?_⟩⟩⟩
  · rw [if_neg hc]
  all_goals
    rw [if_pos hc]
    dsimp only [State.homeAdmit]
  · rw [if_pos hb]
  all_goals rw [if_neg hb]
  · simp only [hx, hr, if_true]
  · simp only [hx, hr, Bool.false_eq_true, if_false]
    rw [if_pos hh]
  · simp only [hx, hr, Bool.false_eq_true, if_false]
    rw [if_neg hh]
  · simp only [hn, hl, if_true]
  all_goals simp only [hn, hl, Bool.false_eq_true, if_false]
  · rw [if_pos hf]
  · rw [if_neg hf, if_neg (Nat.not_le.2 hah)]
  · rw [if_neg hf, if_pos hah]

end Sys2Proof.Machine
end

section
/-!
PROOF. Answers, NACKs, retries and fences at the requester (09): RequesterCompletes.
-/

namespace Sys2Proof.Machine

/-- Settles O32. -/
theorem requesterCompletes : Obligations.RequesterCompletes := by
  intro s t tag a ha htag
  have htag : isTag tag = true := decide_eq_true htag
  refine ⟨fun h => ?answer, fun h => ?nack, fun r hr h0 h4 => ?retry, fun e ctx part ext he hf hc => ?fence⟩
  case answer =>
    have hex := next_live ha htag (answerReceive tag)
    simp only [answerReceive, h] at hex
    refine ⟨fun r hr hm => ⟨fun hroom => hex.trans ?_, fun hroom => hex.trans ?_⟩, fun hno => hex.trans ?_⟩
    · simp only [hr, hm, hroom, Bool.not_true, Bool.not_false, Bool.false_eq_true, if_false, if_true]
    · simp only [hr, hm, hroom, Bool.not_true, Bool.false_eq_true, if_false]
    · split
      · rfl
      · next r hr => rw [if_pos (by simp [hno r hr])]
  case nack =>
    have hex := next_live ha htag (nackReceive tag)
    simp only [nackReceive, h] at hex
    refine ⟨fun r hr hm => ⟨fun hn => hex.trans ?_, fun hn => hex.trans ?_⟩, fun hno => hex.trans ?_⟩
    · simp only [hr, hm, Bool.not_true, Bool.false_eq_true, if_false]
      rw [if_neg (by omega)]
    · simp only [hr, hm, Bool.not_true, Bool.false_eq_true, if_false]
      rw [if_pos hn]
    · split
      · rfl
      · next r hr => rw [if_pos (by simp [hno r hr])]
  case retry =>
    refine (next_live ha htag (nackRetry tag)).trans ?_
    simp only [nackRetry, hr]
    rw [if_neg (by simpa [h0] using h4)]
  case fence =>
    have hex := next_live ha he (fenceComplete e ctx)
    simp only [fenceComplete, hf, hc, Bool.true_and] at hex
    dsimp only
    refine ⟨fun k hk h => hex.trans ?_, fun k hk hg hq => hex.trans ?_, fun c hk => hex.trans ?_, fun h1 h2 h3 => hex.trans ?_⟩
    · subst hk
      simp only [h, if_true]
    · subst hk
      have hg' : (s.face.gathers.all fun g => g.task != k) = true := by simpa using hg
      simp only [hg', hq, List.isEmpty_nil, Bool.and_self, if_true]
    · subst hk
      simp only [if_true]
    · cases e with
      | site k => exact absurd rfl (h1 k)
      | task k => exact absurd rfl (h2 k)
      | mover c => exact absurd rfl (h3 c)
      | _ => simp only [if_true]

end Sys2Proof.Machine
end

section
/-!
PROOF. A cart at its issuer (09): CartIssuerCompletes.
-/

namespace Sys2Proof.Machine

/-- A cart packet's answer that its request matches goes to the packet's own function. -/
theorem State.cartReply_matched {s t : State} {tag op : Nat} {a : Answer} {r : Req}
    (h : s.takeAnswer tag (fun a => a.kind == 4 && a.opcode == op) = some (a, t)) (hr : t.reqOf tag = some r) (hk : r.op.kind = 4)
    (hm : a.matches_ r = true) (f : State → Req → Answer → State) : s.cartReply tag op f = f t r a := by
  simp only [State.cartReply, h, hr, if_pos (And.intro hk hm)]

theorem State.cartReply_stray {s t : State} {tag op : Nat} {a : Answer}
    (h : s.takeAnswer tag (fun a => a.kind == 4 && a.opcode == op) = some (a, t))
    (hno : ∀ r, t.reqOf tag = some r → ¬ (r.op.kind = 4 ∧ a.matches_ r = true)) (f : State → Req → Answer → State) :
    s.cartReply tag op f = t.strayAnswer a := by
  simp only [State.cartReply, h]
  split
  · rfl
  · next r hr => rw [if_neg (hno r hr)]

/-- Settles O33. -/
theorem cartIssuerCompletes : Obligations.CartIssuerCompletes := by
  intro s ha
  refine ⟨fun t ctx c ht hc hp => ?end_, fun t ctx c ht hc hp => ?late, fun tag a t op htag hop h => ?answer, fun cart c hc hp => ?decided⟩
  case end_ =>
    have hex := next_live ha (decide_eq_true ht) (cartEnd t ctx)
    simp only [cartEnd, hc, hp] at hex
    exact ⟨fun h => hex.trans (by rw [if_neg (by simp; omega)]), fun h => hex.trans (by rw [if_pos (.inr h)])⟩
  case late =>
    refine (next_live ha (decide_eq_true ht) (cartEndTimeout t ctx)).trans ?_
    simp only [cartEndTimeout, hc, hp, if_true]
  case answer =>
    have htag : isTag tag = true := decide_eq_true htag
    have hvote := next_live ha htag (cartVote tag)
    have hsolo := next_live ha htag (cartSoloVote tag)
    have hdone := next_live ha htag (cartDecided tag)
    intro taken
    refine ⟨fun r hr hk hm => ?_, fun hno => ?_⟩
    · intro u
      refine ⟨⟨fun e => ?_, fun e => ?_⟩, fun c e hc => ?_, fun e hc => ?_⟩ <;> subst e
      · exact hvote.trans (congrArg (fun t : State => Host.Outcome.next t.settle) (State.cartReply_matched h hr hk hm State.takeVote))
      · exact hsolo.trans (congrArg (fun t : State => Host.Outcome.next t.settle) (State.cartReply_matched h hr hk hm State.takeVote))
      · refine hdone.trans ?_
        rw [cartDecided, State.cartReply_matched h hr hk hm]
        dsimp only
        rw [hc]
      · refine hdone.trans ?_
        rw [cartDecided, State.cartReply_matched h hr hk hm]
        dsimp only
        rw [hc]
    · refine ⟨⟨fun e => ?_, fun e => ?_⟩, fun e => ?_⟩ <;> subst e
      · exact hvote.trans (congrArg (fun t : State => Host.Outcome.next t.settle) (State.cartReply_stray h hno State.takeVote))
      · exact hsolo.trans (congrArg (fun t : State => Host.Outcome.next t.settle) (State.cartReply_stray h hno State.takeVote))
      · exact hdone.trans (congrArg (fun t : State => Host.Outcome.next t.settle) (State.cartReply_stray h hno _))
  case decided =>
    refine (next_live ha rfl (cartDecidedWaitExpire cart)).trans ?_
    simp only [cartDecidedWaitExpire, hc, hp, ne_eq, not_true_eq_false, if_false]

end Sys2Proof.Machine
end

section
/-!
PROOF. A cart at its homes and at its lead (09): CartMembersComplete.
-/

namespace Sys2Proof.Machine

/-- The decision that a lead answers: the logged one, else the one given. -/
theorem loggedCode_eq (d : Option Decision) (code : Nat) :
    (match d with
      | some d => d.code
      | none => code) = (d.map (·.code)).getD code := by
  cases d <;> rfl

/-- COMMIT or ABORT at a home that it arrived at (R247, R249). -/
theorem State.cartOutcome_arrived {s t : State} {q src part tag opcode : Nat} {o : Op} (code : Nat)
    (h : s.takeArrival q src part tag (fun o => o.kind == 4 && o.opcode == opcode) = some (o, t)) :
    s.cartOutcome q src part tag opcode code = (t.outcome q (cwIssuer o.cartw) (cwId o.cartw) code).answerOp src tag { o with
      cartw := cwSet o.cartw (if t.stagedOf q (cwIssuer o.cartw) (cwId o.cartw) = [] then 7 else code) 0 } 4 0x84 0 false [] := by
  simp only [State.cartOutcome, h]
  cases t.stagedOf q (cwIssuer o.cartw) (cwId o.cartw) <;> rfl

/-- Settles O34. -/
theorem cartMembersComplete : Obligations.CartMembersComplete := by
  refine ⟨fun s q src part tag ha hq hsrc htag => ⟨fun o t h => ?prepare, fun o t h => ?solo, fun o t h => ?commit, fun o t h => ?abort, fun i n m hm => ?member,
    fun i n => ?soloLate, fun a t h => ?answer⟩, fun s q src part tag ha hq hsrc htag => ⟨fun o t h => ?decide, fun o t h => ?query, fun i n m l h => ?leadLate,
    fun a t h => ?done_, fun i n => ?expire⟩⟩
  all_goals
    have hquad : isQuad q = true := decide_eq_true hq
    have hat : (isQuad q && isNode src && isTag tag) = true := by simp [isQuad, isNode, isTag, hq, hsrc, htag]
  case prepare =>
    refine (next_live ha hat (cartPrepare q src part tag)).trans ?_
    simp only [cartPrepare, h]
  case solo =>
    refine (next_live ha hat (cartSolo q src part tag)).trans ?_
    simp only [cartSolo, h]
  case commit =>
    refine (next_live ha hat (cartCommit q src part tag)).trans ?_
    rw [cartCommit, State.cartOutcome_arrived 5 h]
  case abort =>
    refine (next_live ha hat (cartAbort q src part tag)).trans ?_
    rw [cartAbort, State.cartOutcome_arrived 6 h]
  case member =>
    refine ⟨fun h => (next_live ha hquad (cartMemberTimeout q i n)).trans ?_, fun h => (next_live ha hquad (cartQueryRepeat q i n)).trans ?_⟩
    · simp only [cartMemberTimeout, hm, h, Bool.false_eq_true, if_false]
    · simp only [cartQueryRepeat, hm, h, Bool.not_true, Bool.false_eq_true, if_false]
  case soloLate => exact next_live ha hquad (soloTimeout q i n)
  case answer =>
    have hex := next_live ha (decide_eq_true htag) (cartAnswer tag)
    refine ⟨fun r hr hk hm => hex.trans ?_, fun hno => hex.trans ?_⟩
    · rw [cartAnswer, State.cartReply_matched h hr hk hm]
    · rw [cartAnswer, State.cartReply_stray h hno]
  case decide =>
    refine (next_live ha hat (cartDecide q src part tag)).trans ?_
    simp only [cartDecide, h]
    cases t.decision (cwIssuer o.cartw) (cwId o.cartw) <;> rfl
  case query =>
    refine (next_live ha hat (cartQuery q src part tag)).trans ?_
    simp only [cartQuery, h]
    cases t.decision (cwIssuer o.cartw) (cwId o.cartw) <;> rfl
  case leadLate =>
    refine (next_live ha hquad (cartLeadTimeout q i n)).trans ?_
    simp only [cartLeadTimeout, h]
  case done_ =>
    intro issuer cart mine known u
    have hex : exec (.cartDone tag) s = .next (
        match u.decision issuer cart with
        | none => if known = none then u.strayAnswer a else u
        | some d =>
          let gone := cwCode a.cartw = 7 ∧ d.code = 5
          let v := if gone then u.toPart 0xB804 d.part (.unit .node a.src 0) else u
          let w := if gone ∧ d.lost = false ∧ issuer ≠ s.lse.node then { v with cart := { v.cart with indet := satInc v.cart.indet } } else v
          let d' := { d with waits := d.waits.filter (· != (a.src, quadOf a.addr)), lost := d.lost || decide gone }
          { w with cart := { w.cart with log :=
              if d'.code = 5 ∧ d'.waits = [] then w.cart.log.erase d else (w.cart.log.map fun x => if x = d then d' else x) } }).settle := by
      refine (next_live ha (decide_eq_true htag) (cartDone tag)).trans ?_
      obtain hk | ⟨r, hk⟩ := Option.eq_none_or_eq_some known
      · have hu : u = t := by
          unfold u
          rw [hk]
          rfl
        have hk' : Option.filter mine (t.reqOf tag) = none := hk
        unfold mine issuer cart at hk'
        simp only [cartDone, h, hk', hu, hk, Option.isNone_none, Bool.not_eq_true', Bool.and_eq_true, decide_eq_true_eq, List.isEmpty_iff, if_true]
        rfl
      · have hu : u = (t.dropReq r).flowAnswered r := by
          unfold u
          rw [hk]
          rfl
        have hk' : Option.filter mine (t.reqOf tag) = some r := hk
        unfold mine issuer cart at hk'
        simp only [cartDone, h, hk', hu, hk, Option.isNone_some, Bool.not_eq_true', Bool.and_eq_true, decide_eq_true_eq, List.isEmpty_iff,
          Bool.false_eq_true, if_false, reduceCtorEq]
        rfl
    exact ⟨fun hd => hex.trans (by rw [hd]), fun d hd => hex.trans (by rw [hd])⟩
  case expire => exact next_live ha hquad (cartAbortEntryExpire q i n)

end Sys2Proof.Machine
end

section
/-!
PROOF. Command registers (03, R68, R80): what stands at offset 0 of a block is denied to no aperture but the debug port's, and a command of an idle
instance is its function.
-/

namespace Sys2Proof.Machine

theorem denies_zero (s : State) {ap : Aperture} (hap : ap ≠ .debug) (pl : Place) : s.denies ap pl 0 true = false := by
  cases pl <;> cases ap <;> simp_all [State.denies, Place.readOnly, Place.argMask, Place.notDebug, slotAt]

theorem State.Takes.reaches {s : State} {b : Blk} {ap : Aperture} (h : s.Takes b ap) (hap : ap ≠ .debug) (pl : Place) : s.Reaches ap pl 0 :=
  ⟨h.1, h.2.1, h.2.2.2, denies_zero s hap pl⟩

theorem State.Takes.idle {s : State} {b : Blk} {ap : Aperture} (h : s.Takes b ap) : (s.inst b (apIdx ap)).busy = false := h.2.2.1

/-- The write of a command register that its aperture may command is its function. -/
theorem next_cmd {s : State} {b : Blk} {ap : Aperture} (h : s.Takes b ap) (hap : ap ≠ .debug) (pl : Place) {ok : Bool} (hok : ok = true)
    (f : State → State) :
    (Host.Outcome.next (s.given (apOk ap && ok) fun s => s.atReg ap pl 0 f).settle : Host.Outcome State Fault Refusal) = .next (f s).settle :=
  next_reg (h.reaches hap pl) hok f

theorem State.command_idle {s : State} {b : Blk} {a : Nat} (h : (s.inst b a).busy = false) (f : State → State) : s.command b a f = f s := by
  rw [State.command, if_neg (by simp [h])]

theorem State.command_busy {s : State} {b : Blk} {a : Nat} (h : (s.inst b a).busy = true) (f : State → State) :
    s.command b a f = s.modInst b a fun i => { i with code := 1 } := by
  rw [State.command, if_pos h]
  rfl

/-- A partition's aperture is a partition's. -/
theorem State.Takes.part {s : State} {b : Blk} {p : Nat} (h : s.Takes b (.part p)) : 1 ≤ p ∧ p ≤ 6 := by
  simpa [apOk, isPart] using h.2.1

end Sys2Proof.Machine
end

section
/-!
PROOF. Commands and work of the faces (10): FacesComplete.
-/

namespace Sys2Proof.Machine

/-- The aperture of a face's owner, or the Lamp's on a face that has one, may command its targets. -/
theorem State.faceCmd_taken {s : State} {ap : Aperture} {p n : Nat} (h : s.Takes .face ap) (hn : n < 512) (ho : s.faceOwner (n / 64) = p)
    (hap : ap = .part p ∨ ap = .lamp ∧ p ≠ 0) (f : Nat → Nat → State → State) : s.faceCmd ap n f = f (apIdx ap) p s := by
  have hidle := h.idle
  obtain rfl | ⟨rfl, hp⟩ := hap <;> dsimp only [apIdx] at hidle
  · simp only [State.faceCmd, State.command_idle hidle, if_neg (Nat.not_le.2 hn), if_pos ho]
    rfl
  · simp only [State.faceCmd, State.command_idle hidle, if_neg (Nat.not_le.2 hn), ho, if_pos hp]
    rfl

/-- From another partition, and from the Lamp on a face in none, a face command ends with code 2. -/
theorem State.faceCmd_foreign {s : State} {ap : Aperture} {p n : Nat} (h : s.Takes .face ap) (hn : n < 512) (ho : s.faceOwner (n / 64) = p)
    (hap : ap = .lamp ∧ p = 0 ∨ ∃ q, ap = .part q ∧ q ≠ p) (f : Nat → Nat → State → State) :
    s.faceCmd ap n f = s.cmdEnd .face (apIdx ap) n 2 := by
  have hidle := h.idle
  obtain ⟨rfl, hp⟩ | ⟨q, rfl, hq⟩ := hap <;> dsimp only [apIdx] at hidle
  · simp only [State.faceCmd, State.command_idle hidle, if_neg (Nat.not_le.2 hn), ho, hp, ne_eq, not_true_eq_false, if_false]
    rfl
  · simp only [State.faceCmd, State.command_idle hidle, if_neg (Nat.not_le.2 hn), ho, if_neg hq.symm]
    rfl

theorem State.faceCmd_busy {s : State} {ap : Aperture} (hap : ap = .lamp ∨ ∃ q, ap = .part q) (h : (s.inst .face (apIdx ap)).busy = true) (n : Nat)
    (f : Nat → Nat → State → State) : s.faceCmd ap n f = s.modInst .face (apIdx ap) fun i => { i with code := 1 } := by
  obtain rfl | ⟨q, rfl⟩ := hap <;> dsimp only [apIdx, State.faceCmd] at h ⊢ <;> rw [State.command_busy h]

theorem State.faceCmd_reserved {s : State} {ap : Aperture} (hap : ap = .operator ∨ ap = .debug ∨ ∃ p v, ap = .vf p v) (n : Nat)
    (f : Nat → Nat → State → State) : s.faceCmd ap n f = s := by
  obtain rfl | rfl | ⟨p, v, rfl⟩ := hap <;> rfl

/-- The three commands of a face, behind the gate. -/
theorem faceCommands_gated {c : Instr} {ap : Aperture} {n : Nat} {tally : BitVec 16} (hc : c ∈ [.faceArm ap n tally, .faceDisarm ap n, .faceClear ap n]) :
    ∃ f : Nat → Nat → State → State, ∀ s, exec c s = .next (s.given (apOk ap && isTarget n) fun s => s.atReg ap .face 0 fun s => s.faceCmd ap n f).settle := by
  simp only [List.mem_cons, List.not_mem_nil, or_false] at hc
  obtain rfl | rfl | rfl := hc <;> exact ⟨_, fun _ => rfl⟩

/-! ### ARM -/

section
variable {s : State} {p n : Nat} {x : Arm} (hn : n < 512) (ho : s.faceOwner (n / 64) = p) (hp : p ≠ 0)
include hn ho hp

omit ho hp in
theorem State.armTarget_foreignTally (h : s.ownsTally p x.tally = false) : s.armTarget p n x = (s, 2) := by
  simp only [State.armTarget, if_neg (Nat.not_le.2 hn), h, Bool.not_false, or_true, if_true]

/-- The checks of ARM on an empty target, in order (R264). -/
theorem State.armTarget_empty (h : s.ownsTally p x.tally = true) (hs : (s.target n).state = .empty) :
    s.armTarget p n x = if (x.op = 3 ∧ x.fmt ≠ 0) ∨ elems x.fmt = 0 then (s, 4)
      else if !s.windowOk (n / 64) p x then (s, 5)
      else if !s.bufferOk (n / 64) p x then (s, 6)
      else if x.expected = 0 then (s, 7)
      else (s.modTarget n fun t => { t with
        state := .opened, op := x.op, fmt := x.fmt, win := x.win, units := x.units, share := x.share, bufOff := x.bufOff
        expected := x.expected, arrived := 0, tally := x.tally, flags := 0, acc := [], wait := [], clearing := none }, 0) := by
  simp only [State.armTarget, if_neg (Nat.not_le.2 hn), h, ho, hp, Bool.not_true, Bool.false_eq_true, ne_eq, not_true_eq_false, or_self, if_false, hs]

theorem State.armTarget_opened (h : s.ownsTally p x.tally = true) (hs : (s.target n).state = .opened) :
    s.armTarget p n x = if x.expected = 0 ∨ x.expected < (s.target n).arrived then (s, 7)
      else
        let u := s.modTarget n fun t => { t with expected := x.expected, tally := x.tally }
        (if x.expected = (s.target n).arrived then u.closeTarget n else u, 0) := by
  simp only [State.armTarget, if_neg (Nat.not_le.2 hn), h, ho, hp, Bool.not_true, Bool.false_eq_true, ne_eq, not_true_eq_false, or_self, if_false, hs]

theorem State.armTarget_other (h : s.ownsTally p x.tally = true) (h1 : (s.target n).state ≠ .empty) (h2 : (s.target n).state ≠ .opened) :
    s.armTarget p n x = (s, 3) := by
  simp only [State.armTarget, if_neg (Nat.not_le.2 hn), h, ho, hp, Bool.not_true, Bool.false_eq_true, ne_eq, not_true_eq_false, or_self, if_false]

end

/-- Settles O36. -/
theorem facesComplete : Obligations.FacesComplete := by
  refine ⟨fun s ap p n tally hn ho => ?commands, fun s n ha hn => ?work⟩
  all_goals have hok : isTarget n = true := decide_eq_true hn
  case commands =>
    intro a t
    refine ⟨fun ht hap => ?_, fun b ha hb => ?cleared, fun c hc => ⟨fun ht hap => ?foreign, fun hr hap hb => ?busy, fun hr hap => ?reserved⟩⟩
    case cleared =>
      refine (next_live ha hok (faceClearDone n)).trans ?_
      have hb : (s.target n).clearing = some b := hb
      simp only [faceClearDone, hb]
      rfl
    case foreign =>
      obtain ⟨f, hf⟩ := faceCommands_gated hc
      have hnd : ap ≠ .debug := by obtain ⟨rfl, -⟩ | ⟨q, rfl, -⟩ := hap <;> simp
      rw [hf, next_cmd ht hnd .face hok, State.faceCmd_foreign ht hn ho hap]
    case busy =>
      obtain ⟨f, hf⟩ := faceCommands_gated hc
      rw [hf, next_reg hr hok, State.faceCmd_busy hap hb]
    case reserved =>
      obtain ⟨f, hf⟩ := faceCommands_gated hc
      rw [hf, next_reg hr hok, State.faceCmd_reserved hap]
    have hnd : ap ≠ .debug := by obtain rfl | ⟨rfl, -⟩ := hap <;> simp
    have hp : p ≠ 0 := by
      obtain rfl | ⟨rfl, hp⟩ := hap
      · exact Nat.pos_iff_ne_zero.1 ht.part.1
      · exact hp
    have htaken := State.faceCmd_taken ht hn ho hap
    intro x fmtOk wins bufs ends more
    have harm {u : State} {code : Nat} (h : s.armTarget p n x = (u, code)) :
        exec (.faceArm ap n tally) s = .next (u.cmdEnd .face a n code).settle := by
      refine (next_cmd ht hnd .face hok (faceArm ap n tally)).trans (congrArg (fun u : State => Host.Outcome.next u.settle) ((htaken _).trans ?_))
      dsimp only
      rw [h]
    refine ⟨fun h => harm (State.armTarget_foreignTally hn h), fun h hs => ?_, fun h hs => ?_,
      fun h h1 h2 => harm (State.armTarget_other hn ho hp h h1 h2), ?_, fun h1 h2 => ?_, fun h => ?_⟩
    · have hchecks := State.armTarget_empty hn ho hp h hs
      have hfmt : ¬ fmtOk ↔ (x.op = 3 ∧ x.fmt ≠ 0) ∨ elems x.fmt = 0 := by
        simp only [fmtOk, Classical.not_and_iff_not_or_not, not_or, ne_eq, Classical.not_not]
      refine ⟨fun hf => harm (hchecks.trans (if_pos (hfmt.1 hf))), fun hf => ?_, fun hf => ?_, fun hf => ?_, fun hf => ?_⟩
      all_goals replace hchecks := hchecks.trans (if_neg fun h => hfmt.2 h hf)
      · exact fun hw => harm (hchecks.trans (if_pos (by simpa [wins] using hw)))
      all_goals
        intro hw
        replace hchecks := hchecks.trans (if_neg (by simpa [wins] using hw))
      · exact fun hb => harm (hchecks.trans (if_pos (by simpa [bufs] using hb)))
      all_goals
        intro hb
        replace hchecks := hchecks.trans (if_neg (by simpa [bufs] using hb))
      · exact fun he => harm (hchecks.trans (if_pos he))
      · exact fun he => harm (hchecks.trans (if_neg he))
    · have hopen := State.armTarget_opened hn ho hp h hs
      exact ⟨fun he => harm (hopen.trans (if_pos he)), fun he hle => harm (hopen.trans (if_neg (not_or.2 ⟨he, Nat.not_lt.2 hle⟩)))⟩
    · exact (next_cmd ht hnd .face hok (faceDisarm ap n)).trans (congrArg (fun u : State => Host.Outcome.next u.settle) (htaken _))
    all_goals
      have hex : exec (.faceClear ap n) s = _ :=
        (next_cmd ht hnd .face hok (faceClear ap n)).trans (congrArg (fun u : State => Host.Outcome.next u.settle) (htaken _))
    · rw [if_neg (by simpa [t] using And.intro h1 h2)] at hex
      exact hex
    · rw [if_pos (by simpa [t, Option.isSome_iff_ne_none] using h)] at hex
      exact hex
  case work =>
    intro t f es next taken read lost
    have happly (ecc : Ecc) := next_live ha hok (contributionApply n ecc)
    refine ⟨fun ecc hnx => (happly ecc).trans ?none_, fun e ecc hnx => ?some_, fun e hs he => ?hold, fun line ecc hl hf => ?fill, fun task g htask hg hr => ?gather⟩
    case none_ =>
      have hnx : List.find? _ es = none := hnx
      unfold contributionApply
      extract_lets
      rw [hnx]
    case some_ =>
      intro first arrived bad data turned r m flags u v
      have hnx : List.find? _ es = some e := hnx
      let d : State × Bool := if e.op.opcode == 1 || (t.op != 3 && t.state != .failed) then read e ecc else (taken e, false)
      have hex : exec (.contributionApply n ecc) s = .next (
          if e.op.opcode = 1 then (if d.2 then lost d.1 e else d.1).endEntry e.id data d.2 0
          else if turned then d.1.endEntry e.id [] false 0xB003
          else if d.2 then ((lost d.1 e).failTarget n).endEntry e.id [] false 0xB003
          else
            let u := (d.1.modTarget n fun x => { x with acc := m.acc, store := m.store, flags, arrived }).bump 0x06 f (e.op.size / 64)
            let v := { u with face := { u.face with
              applied := u.face.applied.modD f 0 fun w => BitVec.ofNat 32 (min (2 ^ 32 - 1) (w.toNat + e.op.size / 64)) } }
            (if arrived = t.expected then v.closeTarget n else v).endEntry e.id [] false 0).settle := by
        refine (happly ecc).trans ?_
        unfold contributionApply
        extract_lets
        rw [hnx]
      have hd (h : e.op.opcode ≠ 1) : d = r := by
        unfold d r
        simp [h]
      refine ⟨fun h => ?_, fun h ht => ?_, fun h ht hb => ?_, fun h ht hb => ?_⟩
      · have hd1 : d = read e ecc := if_pos (by simp [h])
        rw [hex, if_pos h, hd1]
      all_goals rw [hex, if_neg h, hd h]
      · rw [if_pos ht]
      · rw [if_neg ht, if_pos hb]
      · rw [if_neg ht, if_neg (by simp [hb])]
    case hold =>
      refine (next_live ha hok (contributionHoldTimeout n)).trans ?_
      have hs : (s.target n).state = .closed := hs
      have he : List.find? (·.op.opcode != 1) ((s.target n).wait.filterMap s.entry) = some e := he
      simp only [contributionHoldTimeout, hs, he, ne_eq, not_true_eq_false, if_false]
      rfl
    case fill =>
      intro w u mine waits a b c out
      subst hl
      have hex : exec (.faceCacheFill f line ecc) s = .next (out (if w.2 && t.state != .empty then c else u)).settle := by
        refine (next_live ha (ok := isFace f) (decide_eq_true (by omega)) (faceCacheFill f line ecc)).trans ?_
        unfold faceCacheFill
        rw [if_neg (by simpa using hf)]
      refine ⟨fun h => ?_, fun hw ht => ?_⟩
      · rw [hex, if_neg (by simpa [Decidable.imp_iff_not_or] using h)]
      · rw [hex, if_pos (by simp [hw, ht])]
    case gather =>
      intro x done
      have hex : exec (.gatherComplete task) s = .next (
          if x.1.todo.isEmpty && !(x.1.issued.any fun i => x.2.req.out.any fun r => r.ordNo == i && (r.node == x.2.lse.node || !r.posted)) then
            { x.2 with face := { x.2.face with gathers := x.2.face.gathers.filter (·.task != task) } }
          else x.2.putGather x.1).settle := by
        refine (next_live ha (decide_eq_true htask) (gatherComplete task)).trans ?_
        simp only [gatherComplete, hg, hr, Bool.not_true, Bool.false_eq_true, if_false]
        rfl
      have hdone : (x.1.todo.isEmpty && !(x.1.issued.any fun i => x.2.req.out.any fun r => r.ordNo == i && (r.node == x.2.lse.node || !r.posted))) = true
          ↔ done := by
        simp [done]
      exact ⟨fun h => hex.trans (by rw [if_pos (hdone.2 h)]), fun h => hex.trans (by rw [if_neg (fun hc => h (hdone.1 hc))])⟩

end Sys2Proof.Machine
end

section
/-!
PROOF. Tally packets, requests and commands (11): TalliesComplete.
-/

namespace Sys2Proof.Machine

/-! ### Signals and waits at the tally's home -/

/-- What a signal does to a tally (11, R285 to R291). -/
theorem signal_cases (s : State) (part n : Nat) (max : Bool) (x : Dword) :
    let r := s.tally n
    let spent := s.putTally n { r with value := BitVec.allOnes 64, spent := true }
    let new := if max then x else r.value + x
    let past := max = false ∧ 2 ^ 64 ≤ x.toNat + r.value.toNat
    let low := max = true ∧ x.toNat < r.value.toNat
    (s.ownsTally part n = false → s.signal part n max x = (s, 0x7001)) ∧
    (s.ownsTally part n = true → (r.spent || r.orphan) = true → s.signal part n max x = (s, 0x7003)) ∧
    (s.ownsTally part n = true → (r.spent || r.orphan) = false →
      (past → s.signal part n max x = ((spent.releaseWaits n (fun _ => true) 0x7004 0).irqVis .tal part 3, 0x7002)) ∧
      (low → (s.signal part n max x).2 = 0 ∧ (s.signal part n max x).1.tally n = { r with stale := satInc r.stale }) ∧
      (¬ past → ¬ low → s.pairOk r new.toNat = true → s.signal part n max x =
        ((s.putTally n { r with value := new }).releaseWaits n (fun g => decide (g.th.toNat ≤ new.toNat)) 0 new, 0)) ∧
      (¬ past → ¬ low → s.pairOk r new.toNat = false →
        s.signal part n max x = (s.irqVis .tal part 2, if r.role = 1 then 0x7005 else 0x7006))) := by
  dsimp only
  have hpast : (!max && decide (x.toNat > 2 ^ 64 - 1 - (s.tally n).value.toNat)) = true ↔ max = false ∧ 2 ^ 64 ≤ x.toNat + (s.tally n).value.toNat := by
    simp only [Bool.and_eq_true, Bool.not_eq_true', decide_eq_true_eq]
    exact and_congr_right fun _ => by omega
  have hlow : (max && decide (x.toNat < (s.tally n).value.toNat)) = true ↔ max = true ∧ x.toNat < (s.tally n).value.toNat := by simp
  refine ⟨fun h => ?_, fun h hs => ?_, fun h hs => ⟨fun hp => ?_, fun hl => ?_, fun hp hl hk => ?_, fun hp hl hk => ?_⟩⟩
  · simp only [State.signal, h, Bool.not_false, if_true]
  · simp only [State.signal, h, hs, Bool.not_true, Bool.false_eq_true, if_false, if_true]
  all_goals simp only [State.signal, h, hs, Bool.not_true, Bool.false_eq_true, if_false]
  · rw [if_pos (hpast.2 hp)]
  · have hno : ¬ (!max && decide (x.toNat > 2 ^ 64 - 1 - (s.tally n).value.toNat)) = true := by simp [hl.1]
    rw [if_neg hno, if_pos (hlow.2 hl)]
    have hne : { s.tally n with stale := satInc (s.tally n).stale } ≠ ({} : TallyRec) := fun h => by
      have hv : (s.tally n).value = 0 := congrArg TallyRec.value h
      have hlt := hl.2
      rw [hv] at hlt
      exact absurd hlt (by simp)
    exact ⟨rfl, State.putTally_tally hne⟩
  · rw [if_neg (mt hpast.1 hp), if_neg (mt hlow.1 hl), if_pos hk]
  · rw [if_neg (mt hpast.1 hp), if_neg (mt hlow.1 hl), if_neg (by simp [hk])]

/-- WAIT at its home: refused, done, registered already, refused for want of a registration, held back, or registered (11, R293 to R296). -/
theorem tallyWait_arrived {s t : State} {q src part tag : Nat} {o : Op} (ecc : Ecc)
    (h : s.takeArrival q src part tag (fun o => o.kind == 3 && o.opcode == 3) = some (o, t)) :
    tallyWait q src part tag ecc s =
      (let n := o.addr % 65536
       let u := t.readTally q n ecc
       let r := u.tally n
       let th : Dword := BitVec.ofNat 64 (ofLe o.payload)
       let mine (g : Registration) : Bool := g.src == src && g.part == part && g.tag == tag
       let put := (u.register { tally := n, th, src, part, tag, ctx := o.ctx }).answerOp src tag o 3 0x81 0 false []
       let own := ((u.req.out.find? (·.tag == tag)).map fun r => ownWaitSlot r.eng).getD false
       if !u.ownsTally part n then u.answerErr src tag o 0x7001
       else if r.spent || r.orphan then u.answerErr src tag o 0x7003
       else if th.toNat ≤ r.value.toNat then
         { u with tal := { u.tal with regs := u.tal.regs.filter fun g => !mine g } }.answerOp src tag o 3 0x83 1 false (leBytes 8 r.value.toNat)
       else if u.tal.regs.any mine then u.answerOp src tag o 3 0x81 0 false []
       else if src = s.lse.node then (if !own && decide (480 ≤ u.sharedWaits) then s else put)
       else if u.tal.quota.getD (q * 8 + part) 0 ≤ u.remoteRegs part then u.answerNack q src tag o 2 0 0
       else put) := by
  simp only [tallyWait, h]

/-! ### TAL_CMD -/

theorem ownsTally_of_owner {s : State} {n : Nat} (h : s.tallyOwner n ≠ 0) : ∃ p, s.tallyOwner n = p ∧ s.ownsTally p n = true := by
  unfold State.tallyOwner at h ⊢
  cases hf : allParts.find? fun p => s.ownsTally p n with
  | none => simp [hf] at h
  | some p => exact ⟨p, rfl, by simpa using List.find?_some hf⟩

theorem State.tallyCmd_mine {s : State} {ap : Aperture} {n : Nat} (h : s.Takes .tal ap)
    (hap : (∃ p, ap = .part p ∧ s.ownsTally p n = true) ∨ ap = .lamp ∧ s.tallyOwner n ≠ 0) (b : Bool) (f : Nat → State → State) :
    s.tallyCmd ap n b f = f (apIdx ap) s := by
  have hidle := h.idle
  obtain ⟨p, rfl, ho⟩ | ⟨rfl, ho⟩ := hap <;> dsimp only [apIdx] at hidle ⊢
  · simp only [State.tallyCmd, State.command_idle hidle, if_pos ho]
  · simp only [State.tallyCmd, State.command_idle hidle, if_pos ho]

theorem State.tallyCmd_operator {s : State} {n : Nat} (h : s.Takes .tal .operator) (ho : s.tallyOwner n ≠ 0) (f : Nat → State → State) :
    s.tallyCmd .operator n true f = f 0 s := by
  have hidle := h.idle
  dsimp only [apIdx] at hidle
  simp only [State.tallyCmd, State.command_idle hidle, if_pos (And.intro trivial ho)]

/-- Whoever may not command a tally gets code 2. -/
theorem State.tallyCmd_foreign {s : State} {ap : Aperture} {n : Nat} {b : Bool} (hidle : (s.inst .tal (apIdx ap)).busy = false)
    (hap : ap = .debug ∨ (∃ p, ap = .part p ∧ s.ownsTally p n = false) ∨ (ap = .lamp ∨ ap = .operator) ∧ ¬ s.tallyOwner n ≠ 0 ∨ ap = .operator ∧ b = false)
    (f : Nat → State → State) : s.tallyCmd ap n b f = s.cmdEnd .tal (apIdx ap) n 2 := by
  obtain rfl | ⟨p, rfl, ho⟩ | ⟨rfl | rfl, ho⟩ | ⟨rfl, rfl⟩ := hap <;> dsimp only [apIdx] at hidle ⊢
  · simp only [State.tallyCmd, State.command_idle hidle]
  · simp only [State.tallyCmd, State.command_idle hidle, ho, Bool.false_eq_true, if_false]
  · simp only [State.tallyCmd, State.command_idle hidle, if_neg ho]
  · simp only [State.tallyCmd, State.command_idle hidle, if_neg (fun h : b = true ∧ s.tallyOwner n ≠ 0 => ho h.2)]
  · simp only [State.tallyCmd, State.command_idle hidle, Bool.false_eq_true, false_and, if_false]

theorem State.tallyCmd_busy {s : State} {ap : Aperture} (hap : ∀ p w, ap ≠ .vf p w) (h : (s.inst .tal (apIdx ap)).busy = true) (n : Nat) (b : Bool)
    (f : Nat → State → State) : s.tallyCmd ap n b f = s.modInst .tal (apIdx ap) fun i => { i with code := 1 } := by
  cases ap with
  | vf p w => exact absurd rfl (hap p w)
  | _ => dsimp only [apIdx, State.tallyCmd] at h ⊢; rw [State.command_busy h]

/-- A command of a tally is one that its owner may give, `b` saying whether the operator may. -/
def IsTallyCmd (g : State → State) (ap : Aperture) (n : Nat) (b : Bool) : Prop :=
  ∃ f : Nat → State → State, ∀ s : State, g s = s.tallyCmd ap n b f

/-- The commands of a tally behind the gate; PAIR and UNPAIR are not the operator's. -/
theorem tallyCommands_gated {i : Instr} {ap : Aperture} {n : Nat} (hi : i ∈ [.talSignalAdd ap n, .talSignalMax ap n, .talQuery ap n, .talPair ap n, .talUnpair ap n]) :
    ∃ (b : Bool) (g : State → State), ((i = .talPair ap n ∨ i = .talUnpair ap n) → b = false) ∧ IsTallyCmd g ap n b ∧
      ∀ s, exec i s = .next (s.given (apOk ap && isTally n) fun s => s.atReg ap .tal 0 g).settle := by
  simp only [List.mem_cons, List.not_mem_nil, or_false] at hi
  obtain rfl | rfl | rfl | rfl | rfl := hi
  · exact ⟨true, talSignalAdd ap n, fun h => by simp at h, ⟨_, fun s => State.talSignal.eq_1 s ap n false⟩, fun _ => rfl⟩
  · exact ⟨true, talSignalMax ap n, fun h => by simp at h, ⟨_, fun s => State.talSignal.eq_1 s ap n true⟩, fun _ => rfl⟩
  · exact ⟨true, talQuery ap n, fun h => by simp at h, ⟨_, fun _ => rfl⟩, fun _ => rfl⟩
  · exact ⟨false, talPair ap n, fun _ => rfl, ⟨_, fun _ => rfl⟩, fun _ => rfl⟩
  · exact ⟨false, talUnpair ap n, fun _ => rfl, ⟨_, fun _ => rfl⟩, fun _ => rfl⟩

/-- Settles O38: each packet, operation and command is the branch of its function that its conditions select. -/
theorem talliesComplete : Obligations.TalliesComplete := by
  refine ⟨⟨⟨fun s t q src part tag o ecc ha hq hsrc htag => ⟨fun h => ⟨fun hy => ?signalled, fun hy => ?signalRefused⟩, fun h => ?wait⟩,
    fun s part n max x => signal_cases s part n max x⟩, fun s t tag ha htag => ⟨fun r hr hh he => ?release, fun a h => ⟨fun r hr hm => ?waitDone, fun hm => ?waitStray⟩,
    fun a h => ⟨fun r hr hm => ?ack, fun hm => ?ackStray⟩, fun r hr hk hnode => ?again⟩⟩, fun s ap n hn => ?commands⟩
  case signalled =>
    refine (next_live ha (ok := isQuad q && isNode src && isTag tag) (by simp [isQuad, isNode, isTag, hq, hsrc, htag]) (tallySignal q src part tag ecc)).trans ?_
    simp only [tallySignal, h]
    rw [if_pos hy]
  case signalRefused =>
    refine (next_live ha (ok := isQuad q && isNode src && isTag tag) (by simp [isQuad, isNode, isTag, hq, hsrc, htag]) (tallySignal q src part tag ecc)).trans ?_
    simp only [tallySignal, h]
    rw [if_neg hy]
  case wait =>
    have hex : exec (.tallyWait q src part tag ecc) s = _ := (next_live ha (ok := isQuad q && isNode src && isTag tag) (by simp [isQuad, isNode, isTag, hq, hsrc, htag]) (tallyWait q src part tag ecc)).trans
      (congrArg (fun u : State => Host.Outcome.next u.settle) (tallyWait_arrived ecc h))
    dsimp only at hex ⊢
    rw [hex]
    refine ⟨fun ho => ?_, fun ho hs => ?_, fun ho hs => ⟨fun hd => ?_, fun hd hm => ?_, fun hd hm hsrc => ⟨fun hown hroom => ?_, fun hroom => ?_⟩, fun hd hm hsrc => ⟨fun hroom => ?_, fun hroom => ?_⟩⟩⟩
    · rw [if_pos (by simp [ho])]
    · rw [if_neg (by simp [ho]), if_pos hs]
    all_goals rw [if_neg (by simp [ho]), if_neg (ne_true_of_eq_false hs)]
    · rw [if_pos hd]
    all_goals rw [if_neg hd]
    · rw [if_pos hm]
    all_goals rw [if_neg (ne_true_of_eq_false hm)]
    · rw [if_pos hsrc, if_pos (by simp [hown, hroom])]
    · rw [if_pos hsrc, if_neg (by simpa [Decidable.imp_iff_not_or] using hroom)]
      rfl
    · rw [if_neg hsrc, if_pos hroom]
    · rw [if_neg hsrc, if_neg (by omega)]
      rfl
  case release =>
    intro u v w
    have hex : exec (.signalRelease tag) s = .next (match r.eng with
        | .task k => if (s.task k).state = TaskState.blocked ∧ (s.task k).block = 6 then w.stepDone k (s.task k).nextPtr else w
        | _ => w).settle := by
      refine (next_live ha (ok := isTag tag) (decide_eq_true htag) (signalRelease tag)).trans ?_
      simp only [signalRelease, hr, eq_true hh, eq_true he, and_self, if_true]
      unfold w
      cases r.irq <;> rfl
    refine ⟨fun k hk => hex.trans (by rw [hk]), fun hk => hex.trans ?_⟩
    cases he : r.eng
    case task k => exact absurd he (hk k)
    all_goals rfl
  case waitDone =>
    refine (next_live ha (ok := isTag tag) (decide_eq_true htag) (waitDoneReceive tag)).trans ?_
    simp only [waitDoneReceive, h, hr]
    rw [if_pos (by simp [hm])]
  case waitStray =>
    refine (next_live ha (ok := isTag tag) (decide_eq_true htag) (waitDoneReceive tag)).trans ?_
    simp only [waitDoneReceive, h]
    obtain hr | ⟨r, hr⟩ := Option.eq_none_or_eq_some (t.reqOf tag) <;> simp only [hr]
    rw [if_neg (by simpa [and_assoc] using hm r hr)]
  case ack =>
    refine (next_live ha (ok := isTag tag) (decide_eq_true htag) (tallyAckReceive tag)).trans ?_
    simp only [tallyAckReceive, h, hr]
    rw [if_neg (by simp [hm])]
  case ackStray =>
    refine (next_live ha (ok := isTag tag) (decide_eq_true htag) (tallyAckReceive tag)).trans ?_
    simp only [tallyAckReceive, h]
    obtain hr | ⟨r, hr⟩ := Option.eq_none_or_eq_some (t.reqOf tag) <;> simp only [hr]
    rw [if_pos (by simpa [Decidable.imp_iff_not_or] using hm r hr)]
  case again =>
    refine (next_live ha (ok := isTag tag) (decide_eq_true htag) (waitRepeat tag)).trans ?_
    simp only [waitRepeat, hr]
    rw [if_pos ⟨hk, hnode⟩]
  case commands =>
    have hok : isTally n = true := decide_eq_true hn
    dsimp only
    refine ⟨fun ht hap => ⟨?add, ?max, ?query⟩, fun ht hap => ⟨fun hp => ?pair, fun hp => ?pairRefused, fun hu => ?unpair, fun hu => ?unpairRefused⟩,
      fun i hi => ⟨fun hr hb hap => ?foreign, fun hr hap hb => ?busy, fun p w hap hr => ?reserved⟩⟩
    case foreign =>
      obtain ⟨b, g, hb', ⟨f, hf⟩, hex⟩ := tallyCommands_gated hi
      rw [hex, next_reg hr hok, hf]
      refine congrArg (fun u : State => Host.Outcome.next u.settle) (State.tallyCmd_foreign hb ?_ f)
      exact hap.imp_right (Or.imp_right (Or.imp_right (And.imp_right hb')))
    case busy =>
      obtain ⟨b, g, -, ⟨f, hf⟩, hex⟩ := tallyCommands_gated hi
      rw [hex, next_reg hr hok, hf, State.tallyCmd_busy hap hb]
    case reserved =>
      obtain ⟨b, g, -, ⟨f, hf⟩, hex⟩ := tallyCommands_gated hi
      rw [hex, next_reg hr hok, hf, hap]
      rfl
    case' add | max | query =>
      have hnd : ap ≠ .debug := by obtain (⟨p, rfl, -⟩ | ⟨rfl, -⟩) | ⟨rfl, -⟩ := hap <;> simp
      have htaken (f : Nat → State → State) : s.tallyCmd ap n true f = f (apIdx ap) s := by
        obtain h | ⟨rfl, ho⟩ := hap
        · exact State.tallyCmd_mine ht h true f
        · exact State.tallyCmd_operator ht ho f
      refine (next_cmd ht hnd .tal hok _).trans (congrArg (fun u : State => Host.Outcome.next u.settle) ?_)
    case add => exact (State.talSignal.eq_1 s ap n false).trans (htaken _)
    case max => exact (State.talSignal.eq_1 s ap n true).trans (htaken _)
    case query => exact htaken _
    all_goals
      have hnd : ap ≠ .debug := by obtain ⟨p, rfl, -⟩ | ⟨rfl, -⟩ := hap <;> simp
      refine (next_cmd ht hnd .tal hok _).trans (congrArg (fun u : State => Host.Outcome.next u.settle) ((State.tallyCmd_mine ht hap false _).trans ?_))
    case pair => exact if_neg (by simpa [not_or, Decidable.imp_iff_not_or] using hp)
    case pairRefused => exact if_pos (by simpa [Decidable.imp_iff_not_or] using hp)
    case unpair => exact if_neg hu
    case unpairRefused => exact if_pos hu

end Sys2Proof.Machine
end

section
/-!
PROOF. Winder commands and steps (11): WinderCompletes.
-/

namespace Sys2Proof.Machine

/-! ### WND_CMD -/

/-- The aperture of a task's owner, or the Lamp's on a task that has one, may command it. -/
theorem State.wndCmd_taken {s : State} {ap : Aperture} {p t : Nat} (h : s.Takes .wnd ap) (ht : t < 256) (ho : s.taskOwner t = p)
    (hap : ap = .part p ∨ ap = .lamp ∧ p ≠ 0) (f : Nat → Nat → State → State) : s.wndCmd ap t f = f (apIdx ap) p s := by
  have hidle := h.idle
  obtain rfl | ⟨rfl, hp⟩ := hap <;> dsimp only [apIdx] at hidle
  · simp only [State.wndCmd, State.command_idle hidle, if_pos ht, if_pos ho, apIdx]
  · simp only [State.wndCmd, State.command_idle hidle, if_pos ht, ho, if_pos hp, apIdx]

/-- From another partition, and from the Lamp on a task of none, a task's command ends with code 2. -/
theorem State.wndCmd_foreign {s : State} {ap : Aperture} {p t : Nat} (h : s.Takes .wnd ap) (ht : t < 256) (ho : s.taskOwner t = p)
    (hap : ap = .lamp ∧ p = 0 ∨ ∃ q, ap = .part q ∧ q ≠ p) (f : Nat → Nat → State → State) :
    s.wndCmd ap t f = s.cmdEnd .wnd (apIdx ap) t 2 := by
  have hidle := h.idle
  obtain ⟨rfl, hp⟩ | ⟨q, rfl, hq⟩ := hap <;> dsimp only [apIdx] at hidle
  · simp only [State.wndCmd, State.command_idle hidle, if_pos ht, ho, if_neg (Classical.not_not.2 hp), apIdx]
  · simp only [State.wndCmd, State.command_idle hidle, if_pos ht, ho, if_neg hq.symm, apIdx]

theorem State.wndCmd_busy {s : State} {ap : Aperture} (hap : ap = .lamp ∨ ∃ q, ap = .part q) (h : (s.inst .wnd (apIdx ap)).busy = true) (t : Nat)
    (f : Nat → Nat → State → State) : s.wndCmd ap t f = s.modInst .wnd (apIdx ap) fun i => { i with code := 1 } := by
  obtain rfl | ⟨q, rfl⟩ := hap <;> dsimp only [apIdx, State.wndCmd] at h ⊢ <;> rw [State.command_busy h]

theorem State.wndCmd_reserved {s : State} {ap : Aperture} (hap : ap = .operator ∨ ap = .debug ∨ ∃ p v, ap = .vf p v) (t : Nat)
    (f : Nat → Nat → State → State) : s.wndCmd ap t f = s := by
  obtain rfl | rfl | ⟨p, v, rfl⟩ := hap <;> rfl

/-- The commands of a task, behind the gate. -/
theorem wndCommands_gated {c : Instr} {ap : Aperture} {t : Nat} {prog : List Block}
    (hc : c ∈ [.wndLoad ap t prog, .wndStart ap t, .wndResume ap t, .wndStop ap t, .wndUnload ap t]) :
    ∃ f : Nat → Nat → State → State, ∀ s, exec c s = .next (s.given (apOk ap && isTask t) fun s => s.atReg ap .wnd 0 fun s => s.wndCmd ap t f).settle := by
  simp only [List.mem_cons, List.not_mem_nil, or_false] at hc
  obtain rfl | rfl | rfl | rfl | rfl := hc <;> exact ⟨_, fun _ => rfl⟩

theorem TaskState.idle_iff {k : TaskState} : k.idle = false ↔ k = .ready ∨ k = .blocked := by cases k <;> simp [TaskState.idle]

/-- Settles O39. -/
theorem winderCompletes : Obligations.WinderCompletes := by
  refine ⟨⟨⟨fun s ap p t prog ht ho => ?commands, fun s a l x hl hb => ?load⟩, fun s t ha ht => ⟨?issue, ?run, ?operand⟩⟩, fun s t o => ⟨?tally, ?arm, ?move, ?loop, rfl⟩⟩
  case commands =>
    have hok : isTask t = true := decide_eq_true ht
    dsimp only
    refine ⟨fun htk hap => ?_, fun c hc => ⟨fun htk hap => ?foreign, fun hr hap hb => ?busy, fun hr hap => ?reserved⟩⟩
    case foreign =>
      obtain ⟨f, hf⟩ := wndCommands_gated hc
      have hnd : ap ≠ .debug := by obtain ⟨rfl, -⟩ | ⟨q, rfl, -⟩ := hap <;> simp
      rw [hf, next_cmd htk hnd .wnd hok, State.wndCmd_foreign htk ht ho hap]
    case busy =>
      obtain ⟨f, hf⟩ := wndCommands_gated hc
      rw [hf, next_reg hr hok, State.wndCmd_busy hap hb]
    case reserved =>
      obtain ⟨f, hf⟩ := wndCommands_gated hc
      rw [hf, next_reg hr hok, State.wndCmd_reserved hap]
    have hnd : ap ≠ .debug := by obtain rfl | ⟨rfl, -⟩ := hap <;> simp
    have hex {c : Instr} {f : Nat → Nat → State → State} {u : State}
        (hc : exec c s = .next (s.given (apOk ap && isTask t) fun s => s.atReg ap .wnd 0 fun s => s.wndCmd ap t f).settle)
        (hu : f (apIdx ap) p s = u) : exec c s = .next u.settle := by
      rw [hc, next_cmd htk hnd .wnd hok, State.wndCmd_taken htk ht ho hap, hu]
    have hload {u : State} : _ = u → exec (.wndLoad ap t prog) s = .next u.settle := hex rfl
    have hstart {u : State} : _ = u → exec (.wndStart ap t) s = .next u.settle := hex rfl
    have hresume {u : State} : _ = u → exec (.wndResume ap t) s = .next u.settle := hex rfl
    have hstop {u : State} : _ = u → exec (.wndStop ap t) s = .next u.settle := hex rfl
    have hunload {u : State} : _ = u → exec (.wndUnload ap t) s = .next u.settle := hex rfl
    refine ⟨fun hi => hload (if_pos (by simp [hi])), fun hi h => hload ?_, fun hi h hc => hload ?_, fun hi h hc => hload ?_, fun h hc => hstart ?_,
      fun h hc => hresume ?_, fun hc => ⟨fun h => hstart ?_, fun h => hresume ?_⟩, fun h => hstart ?_, fun h => hresume ?_, fun h => hstop ?_,
      fun h => ⟨fun hb => hstop ?_, fun hb => hstop ?_, fun hb => hstop ?_, fun h1 h2 h3 h7 => hstop ?_⟩, fun hr hb => hstop ?_, fun hi => hunload (if_pos hi),
      fun hi => hunload (if_neg (ne_true_of_eq_false hi))⟩
    · exact (if_neg (by simp [hi])).trans (if_pos (by simpa [Decidable.imp_iff_not_or] using h))
    · exact (if_neg (by simp [hi])).trans ((if_neg (by simpa using h)).trans (if_pos (by simp [hc])))
    · exact (if_neg (by simp [hi])).trans ((if_neg (by simpa using h)).trans (if_neg (by simp [hc])))
    · obtain h | h | h := h <;> rw [h] <;> exact if_neg (by simp [hc])
    · obtain h | h := h <;> rw [h] <;> exact if_neg (by simp [hc])
    · obtain h | h | h := h <;> rw [h] <;> exact if_pos (by simp [hc])
    · obtain h | h := h <;> rw [h] <;> exact if_pos (by simp [hc])
    · cases hs : (s.task t).state <;> simp_all
    · cases hs : (s.task t).state <;> simp_all
    · dsimp only; rw [h]
    · dsimp only; rw [h]; exact if_pos hb
    · dsimp only; rw [h]; exact (if_neg (by omega)).trans (if_pos hb)
    · dsimp only; rw [h]; exact (if_neg (by omega)).trans ((if_neg (by omega)).trans (if_pos hb))
    · dsimp only; rw [h]; exact (if_neg (by omega)).trans ((if_neg (by omega)).trans (if_neg (by omega)))
    · dsimp only; cases hs : (s.task t).state <;> simp_all
  case load =>
    dsimp only
    intro hx
    have hstep := State.loadStep.eq_1 s a
    simp only [hl, hx, hb, Bool.not_true, Bool.false_eq_true, if_false] at hstep
    rw [hstep]
    refine ⟨fun h => if_pos h, fun h hc => ?_, fun h hc hi => ?_, fun h hc hi => ⟨fun hk => ?_, fun hk hr => ?_, fun w hk hr => ?_⟩⟩
    all_goals rw [if_neg (ne_true_of_eq_false h)]
    · exact if_pos (by simpa [Decidable.imp_iff_not_or] using hc)
    all_goals rw [if_neg (by simpa using hc)]
    · exact if_pos (by simp [hi])
    all_goals rw [if_neg (by simp [hi])]
    · simp only [State.loadProg, hk, Bool.not_false, if_true]
    · simp only [State.loadProg, hk, hr, Bool.not_true, Bool.false_eq_true, if_false]
    · simp only [State.loadProg, hk, hr, Bool.not_true, Bool.false_eq_true, if_false]
  case issue =>
    have hok : isTask t = true := decide_eq_true ht
    dsimp only
    intro hr hn
    have hex (ecc : Ecc) := next_live ha hok (winderStepIssue t ecc)
    simp only [winderStepIssue, eq_true hr, eq_true hn, ne_eq, not_true_eq_false, or_self, if_false] at hex
    refine ⟨fun ecc h => (hex ecc).trans ?_, fun ecc h hw => (hex ecc).trans ?_, fun ecc h hw h3 => (hex ecc).trans ?_, fun ecc h hw h3 =>
      ⟨fun hs => (hex ecc).trans ?_, fun hs ho => (hex ecc).trans ?_, fun hs ho hf => (hex ecc).trans ?_, fun tag hs ho hf => (hex ecc).trans ?_⟩⟩
    · rw [if_pos h]
      rfl
    all_goals rw [if_neg (Nat.not_le.2 h)]
    · rw [if_pos hw]
    all_goals rw [if_neg (ne_true_of_eq_false hw)]
    · rw [if_neg (ne_true_of_eq_false h3)]
    all_goals rw [if_pos h3]
    all_goals dsimp only [State.readOperand]
    · rw [if_pos (by simpa [Decidable.imp_iff_not_or, or_assoc] using hs)]
    all_goals rw [if_neg (by simpa [and_assoc] using hs)]
    · rw [if_pos ho]
    all_goals rw [if_neg (Classical.not_not.2 ho)]
    · rw [hf]
    · rw [hf]
  case run =>
    intro o
    dsimp only
    have hext : ((((s.task t).prog[(s.task t).step + 1]?).map fun x => (x.extractLsb' 124 4).toNat == 15 && zeroBits (x.setWidth 120) 0 35 && (x.extractLsb' 120 4) == 0).getD false) = true ↔
        ∃ x, (s.task t).prog[(s.task t).step + 1]? = some x ∧ (x.extractLsb' 124 4).toNat = 15 ∧ zeroBits (x.setWidth 120) 0 35 = true ∧ x.extractLsb' 120 4 = 0 := by
      cases (s.task t).prog[(s.task t).step + 1]? <;> simp [and_assoc]
    generalize (s.task t).prog.getD (s.task t).step 0 = w
    refine ⟨fun h => if_pos (by simpa using h), fun h => ⟨fun hc => ?_, fun hc => ?_, fun hc hx => ?_, fun hc hx he => ?_, fun hc hx he => ?_,
      fun hc => ?_, fun hc => ?_, fun hc hx => ?_, fun hc hx => ?_, fun hc => ?_, fun hc => ?_⟩⟩
    all_goals
      refine (if_neg (by rw [h]; decide)).trans ?_
      rw [hc]
    · rfl
    · rfl
    · exact (if_neg fun hb => ne_true_of_eq_false hx hb.1).trans (congrArg (fun e => s.taskArm t _ e o) (if_neg (ne_true_of_eq_false hx)))
    · exact (if_neg (by rw [hext.2 he]; simp)).trans (congrArg (fun e => s.taskArm t _ e o) (if_pos hx))
    · exact if_pos ⟨hx, by simpa only [Bool.not_eq_true'] using (Bool.eq_false_iff.2 (mt hext.1 he))⟩
    · rfl
    · rfl
    · exact if_pos hx
    · exact if_neg (ne_true_of_eq_false hx)
    · rfl
    · rfl
  case operand =>
    intro d hd
    have hex := next_live ha (ok := isTask t) (decide_eq_true ht) (indOperandReturn t)
    simp only [indOperandReturn, hd] at hex
    refine ⟨fun h => hex.trans ?_, fun h hb => hex.trans ?_, fun h h1 h2 => hex.trans ?_⟩
    · rw [if_pos h]
    all_goals rw [if_neg (Classical.not_not.2 h)]
    · rw [if_pos (by simpa using hb)]
    · rw [if_neg (by simp [h1, h2])]
  case tally =>
    intro opcode node tally v
    dsimp only
    refine ⟨fun hf => ?_, fun tag hf => ⟨fun h => ?_, fun h hi => ?_, fun u h hi => ?_⟩⟩
    · simp only [State.taskTally, hf]
    all_goals simp only [State.taskTally, hf]
    · have hw : (opcode == 3) = true := beq_iff_eq.2 h
      simp only [hw, if_true, Bool.not_true, Bool.false_eq_true, if_false, true_or]
      cases State.issueReq _ _ _ _ _ _ <;> rfl
    all_goals have hw : (opcode == 3) = false := beq_false_of_ne h
    all_goals simp only [hw, Bool.false_eq_true, if_false, Bool.not_false, if_true, false_or, hi]
  case arm =>
    intro clr ext
    dsimp only
    refine ⟨fun h => if_pos (by simpa [Option.isSome_iff_ne_none] using h), fun h h0 => ?_, fun h h0 => ?_⟩
    all_goals refine (if_neg (by simpa [Option.isSome_iff_ne_none] using h)).trans ?_
    · exact if_pos h0
    · exact if_neg h0
  case move =>
    intro complete
    dsimp only
    exact ⟨fun h => if_pos h, fun h => if_neg (Classical.not_not.2 h)⟩
  case loop =>
    intro iter
    dsimp only
    exact ⟨fun h => if_pos h, fun h ha => (if_neg (Nat.not_le.2 h)).trans (if_pos ha), fun h ha => (if_neg (Nat.not_le.2 h)).trans (if_neg ha)⟩

end Sys2Proof.Machine
end

section
/-!
PROOF. The mover's channel commands and references (12): ChannelCommandsComplete, ReferencesComplete.
-/

namespace Sys2Proof.Machine

/-! ### MOV_CMD -/

/-- The aperture of a channel's owner, or the Lamp's on a channel that has one, may command it. -/
theorem State.movCmd_taken {s : State} {ap : Aperture} {p c : Nat} (h : s.Takes .mov ap) (hc : c < 32) (ho : s.chanOwner c = p)
    (hap : ap = .part p ∨ ap = .lamp ∧ p ≠ 0) (f : Nat → Nat → State → State) : s.movCmd ap c f = f (apIdx ap) p s := by
  have hidle := h.idle
  obtain rfl | ⟨rfl, hp⟩ := hap
  · have hp : p ≠ 0 := Nat.pos_iff_ne_zero.1 h.part.1
    dsimp only [apIdx] at hidle
    simp only [State.movCmd, State.command_idle hidle, if_pos hc, if_pos (And.intro ho hp), apIdx]
  · dsimp only [apIdx] at hidle
    simp only [State.movCmd, State.command_idle hidle, if_pos hc, ho, if_pos hp, apIdx]

/-- From another partition, and from the Lamp on a channel of none, a channel's command ends with code 2. -/
theorem State.movCmd_foreign {s : State} {ap : Aperture} {p c : Nat} (h : s.Takes .mov ap) (hc : c < 32) (ho : s.chanOwner c = p)
    (hap : ap = .lamp ∧ p = 0 ∨ ∃ q, ap = .part q ∧ q ≠ p) (f : Nat → Nat → State → State) :
    s.movCmd ap c f = s.cmdEnd .mov (apIdx ap) c 2 := by
  have hidle := h.idle
  obtain ⟨rfl, hp⟩ | ⟨q, rfl, hq⟩ := hap <;> dsimp only [apIdx] at hidle
  · simp only [State.movCmd, State.command_idle hidle, if_pos hc, ho, if_neg (Classical.not_not.2 hp), apIdx]
  · simp only [State.movCmd, State.command_idle hidle, if_pos hc, ho, if_neg (fun h : p = q ∧ q ≠ 0 => hq h.1.symm), apIdx]

theorem State.movCmd_busy {s : State} {ap : Aperture} (hap : ap = .lamp ∨ ∃ q, ap = .part q) (h : (s.inst .mov (apIdx ap)).busy = true) (c : Nat)
    (f : Nat → Nat → State → State) : s.movCmd ap c f = s.modInst .mov (apIdx ap) fun i => { i with code := 1 } := by
  obtain rfl | ⟨q, rfl⟩ := hap <;> dsimp only [apIdx, State.movCmd] at h ⊢ <;> rw [State.command_busy h]

theorem State.movCmd_reserved {s : State} {ap : Aperture} (hap : ap = .operator ∨ ap = .debug ∨ ∃ p v, ap = .vf p v) (c : Nat)
    (f : Nat → Nat → State → State) : s.movCmd ap c f = s := by
  obtain rfl | rfl | ⟨p, v, rfl⟩ := hap <;> rfl

/-- The commands of a channel, behind the gate. -/
theorem movCommands_gated {i : Instr} {ap : Aperture} {c : Nat} (hi : i ∈ [.movBind ap c, .movStart ap c, .movAbort ap c]) :
    ∃ f : Nat → Nat → State → State, ∀ s, exec i s = .next (s.given (apOk ap && isChan c) fun s => s.atReg ap .mov 0 fun s => s.movCmd ap c f).settle := by
  simp only [List.mem_cons, List.not_mem_nil, or_false] at hi
  obtain rfl | rfl | rfl := hi <;> exact ⟨_, fun _ => rfl⟩

/-- A descriptor that is consumed is no longer in the ring. -/
theorem Chan.inRing_of_wasDone {k : Chan} {i : Nat} (h : k.wasDone i = true) : k.inRing i = false := by
  simp only [Chan.wasDone, Bool.and_eq_true, Bool.not_eq_true'] at h
  exact h.1.1

/-- Who may ring a channel's doorbell: its owner, or the function that it is bound to, in D0 (12, R316). -/
def State.mayRing (s : State) (ap : Aperture) (c : Nat) : Bool :=
  match ap with
  | .part p => s.chanOwner c == p && p != 0
  | .vf p v => s.chanOwner c == p && (s.chan c).fn == v && v != 0 && (s.chan c).state != .unbound && s.hst.power.getD (p * 32 + v) 0 == 0
  | _ => false

theorem State.mayRing_iff {s : State} {ap : Aperture} {c : Nat} (hap : apOk ap = true) :
    s.mayRing ap c = true ↔ ap = .part (s.chanOwner c) ∨
      ∃ v, ap = .vf (s.chanOwner c) v ∧ (s.chan c).fn = v ∧ (s.chan c).state ≠ .unbound ∧ s.hst.power.getD (s.chanOwner c * 32 + v) 0 = 0 := by
  cases ap with
  | part p =>
    have hp : p ≠ 0 := by simp only [apOk, isPart, decide_eq_true_eq] at hap; omega
    simp only [State.mayRing, Bool.and_eq_true, beq_iff_eq, bne_iff_ne, Aperture.part.injEq, reduceCtorEq, false_and, exists_false, or_false]
    exact ⟨fun h => h.1.symm, fun h => ⟨h.symm, hp⟩⟩
  | vf p v =>
    have hv : v ≠ 0 := by simp only [apOk, isVf, Bool.and_eq_true, decide_eq_true_eq] at hap; omega
    simp only [State.mayRing, Bool.and_eq_true, beq_iff_eq, bne_iff_ne, Aperture.vf.injEq, reduceCtorEq, false_or]
    constructor
    · rintro ⟨⟨⟨⟨rfl, hf⟩, -⟩, hs⟩, hd⟩
      exact ⟨v, ⟨rfl, rfl⟩, hf, hs, hd⟩
    · rintro ⟨_, ⟨rfl, rfl⟩, hf, hs, hd⟩
      exact ⟨⟨⟨⟨rfl, hf⟩, hv⟩, hs⟩, hd⟩
  | _ => simp [State.mayRing]

theorem movDoorbell_eq {s : State} {c : Nat} (hc : c < 32) (ap : Aperture) (tail : BitVec 12) :
    movDoorbell ap c tail s =
      if s.mayRing ap c = false then s
      else if (s.chan c).state = .run ∨ (s.chan c).state = .stopped then s.modChan c fun k => { k with tail := tail.toNat % k.slots }
      else s.modChan c fun k => { k with ignored := satInc k.ignored } := by
  simp only [movDoorbell, if_pos hc, State.mayRing, Bool.not_eq_true']
  cases ap <;> rfl

theorem ring_misshapen {x size vfs fn : Nat} : (x ≠ 0 ∨ size < 4 ∨ 12 < size ∨ vfs < fn) ↔ ¬ (x = 0 ∧ 4 ≤ size ∧ size ≤ 12 ∧ fn ≤ vfs) := by omega

/-- Settles O41. -/
theorem channelCommandsComplete : Obligations.ChannelCommandsComplete := by
  intro s ap p c hc ho
  have hok : isChan c = true := decide_eq_true hc
  dsimp only
  refine ⟨fun htk hap => ?_, fun i hi => ⟨fun htk hap => ?foreign, fun hr hap hb => ?busy, fun hr hap => ?reserved⟩, fun tail hr => ?doorbell⟩
  case foreign =>
    obtain ⟨f, hf⟩ := movCommands_gated hi
    have hnd : ap ≠ .debug := by obtain ⟨rfl, -⟩ | ⟨q, rfl, -⟩ := hap <;> simp
    rw [hf, next_cmd htk hnd .mov hok, State.movCmd_foreign htk hc ho hap]
  case busy =>
    obtain ⟨f, hf⟩ := movCommands_gated hi
    rw [hf, next_reg hr hok, State.movCmd_busy hap hb]
  case reserved =>
    obtain ⟨f, hf⟩ := movCommands_gated hi
    rw [hf, next_reg hr hok, State.movCmd_reserved hap]
  case doorbell =>
    have hex := (next_reg hr hok (movDoorbell ap c tail)).trans (congrArg (fun u : State => Host.Outcome.next u.settle) (movDoorbell_eq hc ap tail))
    have hmay := State.mayRing_iff (s := s) (c := c) hr.2.1
    rw [ho] at hmay
    refine ⟨fun hm hs => hex.trans ?_, fun hm hs => hex.trans ?_, fun hm => hex.trans ?_⟩
    · rw [if_neg (by simp [hmay.2 hm]), if_pos hs]
    · rw [if_neg (by simp [hmay.2 hm]), if_neg hs]
    · rw [if_pos (Bool.eq_false_iff.2 (mt hmay.1 hm))]
  have hnd : ap ≠ .debug := by obtain rfl | ⟨rfl, -⟩ := hap <;> simp
  have hex {i : Instr} {f : Nat → Nat → State → State} {u : State}
      (hi : exec i s = .next (s.given (apOk ap && isChan c) fun s => s.atReg ap .mov 0 fun s => s.movCmd ap c f).settle)
      (hu : f (apIdx ap) p s = u) : exec i s = .next u.settle := by
    rw [hi, next_cmd htk hnd .mov hok, State.movCmd_taken htk hc ho hap, hu]
  have hbind {u : State} : _ = u → exec (.movBind ap c) s = .next u.settle := hex rfl
  have hstart {u : State} : _ = u → exec (.movStart ap c) s = .next u.settle := hex rfl
  have habort {u : State} : _ = u → exec (.movAbort ap c) s = .next u.settle := hex rfl
  refine ⟨fun h => hbind (if_pos h), fun h hs => hbind ?_, fun h hs hk => hbind ?_, fun h hs hk => ⟨fun hr => hbind ?_, fun t hr => hbind ?_⟩,
    fun h => hstart ?_, fun h => hstart ?_, fun ha h => habort ?_, fun ha h hn => habort ?_, fun ha h hn => habort ?_, fun ha hd hr => habort ?_,
    fun ha hd hr => habort ?_, fun ha hd hi => habort ?_, fun ha hi h => habort ?_, fun ha hi h => habort ?_⟩
  · exact (if_neg (Classical.not_not.2 h)).trans (if_pos (ring_misshapen.2 hs))
  · exact (if_neg (Classical.not_not.2 h)).trans ((if_neg (fun hn => ring_misshapen.1 hn hs)).trans (if_pos (by simpa only [Bool.not_eq_true'] using hk)))
  · refine (if_neg (Classical.not_not.2 h)).trans ((if_neg (fun hn => ring_misshapen.1 hn hs)).trans ((if_neg (by simpa only [Bool.not_eq_true', Bool.not_eq_false] using hk)).trans ?_))
    rw [hr]
  · refine (if_neg (Classical.not_not.2 h)).trans ((if_neg (fun hn => ring_misshapen.1 hn hs)).trans ((if_neg (by simpa only [Bool.not_eq_true', Bool.not_eq_false] using hk)).trans ?_))
    rw [hr]
  · obtain h | h := h <;> rw [h]
  · cases hs : (s.chan c).state <;> simp_all
  · exact (if_pos ha).trans (if_pos h)
  · exact (if_pos ha).trans ((if_neg (Classical.not_not.2 h)).trans (if_pos (by simp [hn])))
  · exact (if_pos ha).trans ((if_neg (Classical.not_not.2 h)).trans (if_neg (by simpa using hn)))
  · exact (if_neg ha).trans ((if_pos hd).trans (if_pos hr))
  · exact (if_neg ha).trans ((if_pos hd).trans (if_neg (ne_true_of_eq_false hr)))
  · exact (if_neg ha).trans ((if_neg (ne_true_of_eq_false hd)).trans (if_pos (by simpa only [Bool.not_eq_true'] using hi)))
  all_goals
    have hd : ¬ (s.chan c).wasDone _ = true := fun hd => ne_true_of_eq_false (Chan.inRing_of_wasDone hd) hi
    refine (if_neg ha).trans ((if_neg hd).trans ((if_neg (by simpa only [Bool.not_eq_true', Bool.not_eq_false] using hi)).trans ?_))
  · exact if_pos h
  · exact if_neg (Classical.not_not.2 h)

/-! ### References -/

/-- The aperture of the object's owner, or the Lamp's on an object that has one, may command its references. -/
theorem State.refCmd_taken {s : State} {ap : Aperture} {p : Nat} {o : RefObj} (h : s.Takes .mov ap) (hp : p ≠ 0) (hr : refObj s (apIdx ap) = some o)
    (ho : s.refOwner o = p) (hap : ap = .part p ∨ ap = .lamp) (f : Nat → Nat → RefObj → BitVec 16 → State → State) :
    s.refCmd ap f = f (apIdx ap) p o ((s.arg .mov (apIdx ap) 0x18).extractLsb' 0 16) s := by
  have hidle := h.idle
  obtain rfl | rfl := hap <;> dsimp only [apIdx] at hidle hr ⊢
  · simp only [State.refCmd, State.command_idle hidle, hr, ho]
    exact if_pos ⟨hp, beq_self_eq_true p⟩
  · simp only [State.refCmd, State.command_idle hidle, hr, ho]
    exact if_pos (by simp [hp])

theorem State.refCmd_noObject {s : State} {ap : Aperture} (h : s.Takes .mov ap) (hap : ap = .lamp ∨ ∃ q, ap = .part q) (hr : refObj s (apIdx ap) = none)
    (f : Nat → Nat → RefObj → BitVec 16 → State → State) : s.refCmd ap f = s.cmdEnd .mov (apIdx ap) 0 4 := by
  have hidle := h.idle
  obtain rfl | ⟨q, rfl⟩ := hap <;> dsimp only [apIdx] at hidle hr ⊢ <;> simp only [State.refCmd, State.command_idle hidle, hr]

theorem State.refCmd_foreign {s : State} {ap : Aperture} {o : RefObj} (h : s.Takes .mov ap) (hr : refObj s (apIdx ap) = some o)
    (hap : ap = .lamp ∧ s.refOwner o = 0 ∨ ∃ q, ap = .part q ∧ s.refOwner o ≠ q) (f : Nat → Nat → RefObj → BitVec 16 → State → State) :
    s.refCmd ap f = s.cmdEnd .mov (apIdx ap) 0 2 := by
  have hidle := h.idle
  obtain ⟨rfl, ho⟩ | ⟨q, rfl, ho⟩ := hap <;> dsimp only [apIdx] at hidle hr ⊢
  · simp only [State.refCmd, State.command_idle hidle, hr]
    exact if_neg fun h => h.1 ho
  · simp only [State.refCmd, State.command_idle hidle, hr]
    exact if_neg fun h => ho (beq_iff_eq.1 h.2)

theorem State.refCmd_busy {s : State} {ap : Aperture} (hap : ap = .lamp ∨ ∃ q, ap = .part q) (h : (s.inst .mov (apIdx ap)).busy = true)
    (f : Nat → Nat → RefObj → BitVec 16 → State → State) : s.refCmd ap f = s.modInst .mov (apIdx ap) fun i => { i with code := 1 } := by
  obtain rfl | ⟨q, rfl⟩ := hap <;> dsimp only [apIdx, State.refCmd] at h ⊢ <;> rw [State.command_busy h]

theorem State.refCmd_reserved {s : State} {ap : Aperture} (hap : ap = .operator ∨ ap = .debug ∨ ∃ p v, ap = .vf p v)
    (f : Nat → Nat → RefObj → BitVec 16 → State → State) : s.refCmd ap f = s := by
  obtain rfl | rfl | ⟨p, v, rfl⟩ := hap <;> rfl

theorem State.Reaches.atReg {s : State} {ap : Aperture} {pl : Place} {o : Nat} (h : s.Reaches ap pl o) (f : State → State) : s.atReg ap pl o f = f s := by
  obtain ⟨hr, -, ht, hd⟩ := h
  rw [hr.atReg _ _ _ _ ht, if_neg (by simp [hd])]

/-- What a reference command does where it reaches its register, once what `refCmd` makes of its function is known. -/
theorem refCommands_reach {s u : State} {ap : Aperture} {c : Nat} {i : Instr} (hc : c < 32) (hi : i ∈ [.movRef ap, .movUnref ap, .movDestroy ap c])
    (hr : s.Reaches ap .mov 0) (hu : ∀ f, s.refCmd ap f = u) : exec i s = .next u.settle := by
  simp only [List.mem_cons, List.not_mem_nil, or_false] at hi
  obtain rfl | rfl | rfl := hi
  · exact congrArg (fun u : State => Host.Outcome.next u.settle) ((hr.given _).trans ((hr.atReg _).trans (hu _)))
  · exact congrArg (fun u : State => Host.Outcome.next u.settle) ((hr.given _).trans ((hr.atReg _).trans (hu _)))
  · exact (next_reg hr (ok := isChan c) (decide_eq_true hc) _).trans (congrArg (fun u : State => Host.Outcome.next u.settle) (hu _))

theorem destroyQueue_eq {s : State} {a p c : Nat} {ctx : BitVec 16} :
    s.destroyQueue a p c ctx =
      if (s.chan c).state = .stopped ∨ (s.chan c).state = .run ∨ (s.chan c).state = .halted then
        if !(s.tal.refs.contains (.owner p ctx, .queue c) || s.tal.refs.contains (.ctx p ctx, .queue c)) then s.cmdEnd .mov a c 2
        else (s.forceDestroy c (some a)).cmdBusy .mov a c
      else s.cmdEnd .mov a c 3 := by
  dsimp only [State.destroyQueue]
  cases (s.chan c).state <;> rfl

/-- Settles O42. -/
theorem referencesComplete : Obligations.ReferencesComplete := by
  refine ⟨fun s ap => ⟨fun p c o htk hc hp hr ho hap => ?taken, fun c i hc hi => ⟨fun htk hap hr => ?none_, fun o htk hr hap => ?foreign, fun hr hap hb => ?busy,
    fun hr hap => ?reserved⟩⟩, fun s c ha hc hs hd => ?destroyed⟩
  case none_ =>
    have hnd : ap ≠ .debug := by obtain rfl | ⟨q, rfl⟩ := hap <;> simp
    exact refCommands_reach hc hi (htk.reaches hnd .mov) (State.refCmd_noObject htk hap hr)
  case foreign =>
    have hnd : ap ≠ .debug := by obtain ⟨rfl, -⟩ | ⟨q, rfl, -⟩ := hap <;> simp
    exact refCommands_reach hc hi (htk.reaches hnd .mov) (State.refCmd_foreign htk hr hap)
  case busy => exact refCommands_reach hc hi hr (State.refCmd_busy hap hb)
  case reserved => exact refCommands_reach hc hi hr (State.refCmd_reserved hap)
  case taken =>
    have hnd : ap ≠ .debug := by obtain rfl | rfl := hap <;> simp
    have hreach := htk.reaches hnd .mov
    have htaken := State.refCmd_taken htk hp hr ho hap
    have href {u : State} (h : _ = u) : exec (.movRef ap) s = .next u.settle :=
      congrArg (fun u : State => Host.Outcome.next u.settle) ((hreach.given _).trans ((hreach.atReg _).trans ((htaken _).trans h)))
    have hunref {u : State} (h : _ = u) : exec (.movUnref ap) s = .next u.settle :=
      congrArg (fun u : State => Host.Outcome.next u.settle) ((hreach.given _).trans ((hreach.atReg _).trans ((htaken _).trans h)))
    have hdestroy {u : State} (h : _ = u) : exec (.movDestroy ap c) s = .next u.settle :=
      (next_reg hreach (ok := isChan c) (decide_eq_true hc) _).trans (congrArg (fun u : State => Host.Outcome.next u.settle) ((htaken _).trans h))
    dsimp only
    refine ⟨fun hk => href ?_, fun hk hl => href ?_, fun hk hl => ⟨fun hr => href ?_, fun t hr => href ?_⟩, fun h => hunref (if_pos h),
      fun h => hunref (if_neg (ne_true_of_eq_false h)), fun ho => ?queue, fun ho => ?other, fun n ho => ?tally⟩
    · exact if_pos (by simpa only [Bool.not_eq_true'] using hk)
    · exact (if_neg (by simpa only [Bool.not_eq_true', Bool.not_eq_false] using hk)).trans (if_pos (by simpa only [Bool.not_eq_true'] using hl))
    · refine (if_neg (by simpa only [Bool.not_eq_true', Bool.not_eq_false] using hk)).trans ((if_neg (by simpa only [Bool.not_eq_true', Bool.not_eq_false] using hl)).trans ?_)
      rw [hr]
    · refine (if_neg (by simpa only [Bool.not_eq_true', Bool.not_eq_false] using hk)).trans ((if_neg (by simpa only [Bool.not_eq_true', Bool.not_eq_false] using hl)).trans ?_)
      rw [hr]
    case queue =>
      subst ho
      have hd {u : State} (h : s.destroyQueue (apIdx ap) p c ((s.arg .mov (apIdx ap) 0x18).extractLsb' 0 16) = u) : exec (.movDestroy ap c) s = .next u.settle :=
        hdestroy ((if_pos rfl).trans h)
      refine ⟨fun ht => hd ?_, fun ht hh => hd ?_, fun ht hh => hd ?_⟩ <;> rw [destroyQueue_eq]
      · exact if_neg ht
      · exact (if_pos ht).trans (if_pos (by simpa using hh))
      · exact (if_pos ht).trans (if_neg (by simpa only [Bool.not_eq_true', Bool.not_eq_false, Bool.or_eq_true] using hh))
    case other =>
      obtain ⟨q, rfl, hq⟩ | ⟨n, rfl⟩ := ho
      · exact hdestroy (if_neg hq)
      · exact hdestroy rfl
    case tally =>
      subst ho
      refine ⟨fun h => hdestroy ?_, fun h h0 => hdestroy ?_, fun h h0 => hdestroy ?_⟩
      · exact if_pos (by simpa only [Bool.not_eq_true'] using h)
      · exact (if_neg (by simpa only [Bool.not_eq_true', Bool.not_eq_false] using h)).trans (if_pos h0)
      · exact (if_neg (by simpa only [Bool.not_eq_true', Bool.not_eq_false] using h)).trans (if_neg h0)
  case destroyed =>
    have hex := next_live ha (ok := isChan c) (decide_eq_true hc) (destroyComplete c)
    simp only [destroyComplete, hs, hd, ne_eq, not_true_eq_false, Bool.not_true, Bool.false_eq_true, or_self, if_false] at hex
    dsimp only
    refine ⟨fun h => hex.trans ?_, fun h => hex.trans ?_⟩
    all_goals cases (s.chan c).cmdAp <;> simp only [beq_iff_eq, h, if_true, if_false]

end Sys2Proof.Machine
end

section
/-!
PROOF. Descriptors of a mover channel (12): DescriptorsComplete.
-/

namespace Sys2Proof.Machine

/-- What a fetch does in a channel that runs, is awake and holds fewer than 16. -/
theorem descriptorFetched_running {s : State} {c : Nat} (words : List Dword) (hr : (s.chan c).state = .run) (hh : (s.chan c).holds < 16) (hw : s.chanAwake c = true) :
    descriptorFetched c words s =
      (let k := s.chan c
       match k.moves.find? (·.left != 0) with
       | some m =>
         let ctx := (s.task m.task).ctx
         if 16 < k.holds + m.left then s
         else if s.memOwner m.addr 64 ≠ k.part then s.moveDesc c m (noWords ctx) 0x6004
         else match s.descLine c with
           | some d => { s with req := { s.req with done := s.req.done.erase d } }.moveDesc c m (d.desc ctx).1 (d.desc ctx).2
           | none => s.readDesc c (s.lse.node * 2 ^ 44 + m.addr) ctx
       | none =>
         if k.moves ≠ [] ∨ k.fetchAt = k.tail then s
         else if k.space then s.deviceRing c
         else if words.length ≠ 8 ∨ !s.hostOpen k.part then s
         else (s.ringDesc c words 0).toHost k.part 1 none [] fun x _ => .descRead c x (k.base + BitVec.ofNat 64 (64 * k.fetchAt))) := by
  unfold descriptorFetched
  exact if_neg (by simp [hr, hh, hw])

/-- What a finished descriptor of a running channel does. -/
theorem descriptorFinish_finished {s : State} {c : Nat} {a : MovAct} (ha : (s.chan c).act = some a) (hp : a.phase = .finished) (hr : (s.chan c).state = .run) :
    descriptorFinish c s =
      (let k := s.chan c
       let t := s.putRecord c a.d a.done 0 a.status
       let signal := a.d.flag 57 && a.status != 2
       match (if signal then t.issueReq (.mover c) (a.d.signalOp k.part) 5 0 true else some t) with
       | none => s
       | some u =>
         let tag := (t.freeTag).getD 0
         let waits := signal && u.req.out.any fun r => r.tag == tag && r.held
         let t := if a.d.flag 54 && waits then u.modReq tag fun r => { r with irq := some k.hostFn } else u
         let t := if a.d.flag 54 && !waits then t.hold k.part .host (some a.d.ctx) (.msix k.hostFn) else t
         (t.modChan c fun k => { k with act := none, done := satInc k.done }).descOver c a.d) := by
  simp only [descriptorFinish, ha]
  exact if_neg (by simp [hp, hr])

/-- A channel whose ABORT has ended: with a named index its ring is left behind that index (12, R335). -/
def Chan.dropped (k : Chan) : Chan :=
  match k.abortTo with
  | some i => { k with head := (i + 1) % k.slots, consumed := k.consumed + ((i + 1 + k.slots - k.head) % k.slots) }
  | none => k

/-- Settles O43. -/
theorem descriptorsComplete : Obligations.DescriptorsComplete := by
  refine ⟨fun s c ha hc => ⟨fun words hr hh hw => ?fetched, fun d rest hq hr hn ht hw => ?active, fun v hv => ⟨?ringNone, fun page => ?ringPage⟩,
    fun a dst x hx hact hf => ⟨?pageNone, fun page => ⟨fun h => ?pageGood, fun h => ?pageBad⟩⟩, fun d hd => ⟨fun h => ?noAct, fun a h hp => ?notParam, fun a h hp hg => ?param, fun a h hp hg => ?paramBad⟩,
    fun a lines off n st rest hact hl => ⟨?failed, fun h => ?lines⟩, fun a hact hp hr => ?finish, fun hu => ?undeliverable⟩, fun s c ha hc hd hx => ?drained⟩
  all_goals have hok : isChan c = true := decide_eq_true hc
  case fetched =>
    have hex : exec (.descriptorFetched c words) s = _ := (next_live ha hok (descriptorFetched c words)).trans
      (congrArg (fun u : State => Host.Outcome.next u.settle) (descriptorFetched_running words hr hh hw))
    dsimp only at hex ⊢
    refine ⟨fun m hm hroom => ?moves, fun hring hs => ?device, fun hring hs hl ho => ?host⟩
    case moves =>
      rw [hm] at hex
      dsimp only at hex
      rw [if_neg (Nat.not_lt.2 hroom)] at hex
      refine ⟨fun ho => hex.trans ?_, fun d ho hd => hex.trans ?_, fun ho hd => hex.trans ?_⟩
      · rw [if_pos ho]
      · rw [if_neg (Classical.not_not.2 ho), hd]
      · rw [if_neg (Classical.not_not.2 ho), hd]
    all_goals
      have hnone : (s.chan c).moves.find? (·.left != 0) = none := by simp [hring.1]
      rw [hnone] at hex
      dsimp only at hex
      rw [if_neg (by simpa [hring.1] using hring.2)] at hex
    case device =>
      rw [if_pos hs] at hex
      refine ⟨fun d hd => hex.trans ?_, fun hd => ⟨fun hg => hex.trans ?_, fun page g hg hp => hex.trans ?_, fun page g hg hp => hex.trans ?_⟩⟩
      · simp only [State.deviceRing, hd]
      · simp only [State.deviceRing, hd, hg]
      · simp only [State.deviceRing, hd, hg, eq_true hp, if_true]
      · simp only [State.deviceRing, hd, hg, eq_false hp, if_false]
    case host =>
      rw [if_neg (ne_true_of_eq_false hs), if_neg (by simp [hl, ho])] at hex
      exact hex
  case active =>
    have hex := next_live ha hok (descriptorActive c)
    simp only [descriptorActive, hq] at hex
    rw [if_neg (by simp [hr, hn, ht, hw])] at hex
    dsimp only
    refine ⟨fun hk => hex.trans ?_, fun hk => ⟨fun h h' => hex.trans ?_, fun h h' => hex.trans ?_, fun h h' => hex.trans ?_, fun h h' => hex.trans ?_⟩⟩
    · rw [if_pos (by simp [hk])]
    all_goals rw [if_neg (by simp [hk])]
    · rw [if_pos (by simpa [h, not_or] using h')]
    · rw [if_neg (by simpa [h, Decidable.imp_iff_not_or] using h'), if_pos h]
    · rw [if_neg (by simp [h]), if_neg (Classical.not_not.2 h), if_pos h']
    · rw [if_neg (by simp [h]), if_neg (Classical.not_not.2 h), if_neg (ne_true_of_eq_false h')]
  case ringNone =>
    refine (next_live ha hok (translationAnswer c false none)).trans ?_
    simp only [translationAnswer, Bool.false_eq_true, if_false, hv]
    rfl
  case ringPage =>
    have hex := next_live ha hok (translationAnswer c false (some page))
    simp only [translationAnswer, Bool.false_eq_true, if_false, hv, State.ringAnswer] at hex
    dsimp only
    refine ⟨fun h => hex.trans ?_, fun h => hex.trans ?_⟩
    · rw [if_pos (by split at h <;> simp_all)]
    · rw [if_neg (by split at h <;> simp_all)]
  case' pageNone | pageGood | pageBad =>
    have hq : (if dst then none else s.ringAsks c) = none := by
      obtain rfl | hx := hx
      · rfl
      · rw [hx, ite_self]
    refine (next_live ha hok (translationAnswer c dst _)).trans ?_
    simp only [translationAnswer, hq, hact, hf]
  case pageGood => rw [if_neg (Classical.not_not.2 h)]
  case pageBad => rw [if_pos h]
  case noAct =>
    refine (next_live ha hok (paramBlockReturn c)).trans ?_
    simp only [paramBlockReturn, hd]
    have h : (State.chan { s with req := { s.req with done := s.req.done.erase d } } c).act = none := h
    rw [h]
  case' notParam | param | paramBad =>
    refine (next_live ha hok (paramBlockReturn c)).trans ?_
    simp only [paramBlockReturn, hd]
    have h : (State.chan { s with req := { s.req with done := s.req.done.erase d } } c).act = some a := h
    rw [h]
    dsimp only
  case notParam => rw [if_pos hp]
  case param => rw [if_neg (Classical.not_not.2 hp), if_neg (by simpa [and_assoc, Nat.div_eq_zero_iff_lt] using hg)]
  case paramBad => rw [if_neg (Classical.not_not.2 hp), if_pos (by simpa [Decidable.imp_iff_not_or, Nat.div_eq_zero_iff_lt] using hg)]
  case failed =>
    refine (next_live ha hok (hostReadCompletion c lines false)).trans ?_
    simp only [hostReadCompletion, hact, hl]
    exact congrArg (fun u : State => Host.Outcome.next u.settle) (if_pos rfl)
  case lines =>
    refine (next_live ha hok (hostReadCompletion c lines true)).trans ?_
    simp only [hostReadCompletion, hact, hl, Bool.not_true, Bool.false_eq_true, if_false, h, ne_eq, not_true_eq_false]
  case finish =>
    have hex : exec (.descriptorFinish c) s = _ := (next_live ha hok (descriptorFinish c)).trans
      (congrArg (fun u : State => Host.Outcome.next u.settle) (descriptorFinish_finished hact hp hr))
    dsimp only at hex ⊢
    have hsignal : (a.d.flag 57 && a.status != 2) = true ↔ a.d.flag 57 = true ∧ a.status ≠ 2 := by simp
    refine ⟨fun h => hex.trans ?_, fun h hi => hex.trans ?_, fun u h hi => ⟨fun hh => hex.trans ?_, fun hh => hex.trans ?_⟩⟩
    · rw [Bool.eq_false_iff.2 (mt hsignal.1 h)]
      cases a.d.flag 54 <;> rfl
    all_goals rw [hsignal.2 h, if_pos rfl, hi]
    · dsimp only
      rw [hh]
      cases a.d.flag 54 <;> rfl
    · dsimp only
      rw [Bool.eq_false_iff.2 hh]
      cases a.d.flag 54 <;> rfl
  case undeliverable =>
    have hex := next_live ha hok (recordUndeliverable c)
    simp only [recordUndeliverable, if_neg hu] at hex
    exact ⟨fun h => hex.trans (by rw [if_pos h]), fun h => hex.trans (by rw [if_neg h])⟩
  case drained =>
    intro k fetched ends rest t0 t1 t2 stops u
    refine (next_live ha hok (movAbortDrained c)).trans (congrArg (fun u : State => Host.Outcome.next u.settle) ?_)
    have hu : u = t2.modChan c fun k => { k.dropped with state := .stopped, fetchAt := k.dropped.head, cmdAp := none, abortTo := none } := by
      refine congrArg (t2.modChan c) (funext fun k => ?_)
      unfold Chan.dropped stops
      cases k.abortTo <;> rfl
    unfold movAbortDrained
    rw [if_neg (by simp [hd, hx])]
    rw [hu]
    rfl

end Sys2Proof.Machine
end

section
/-!
PROOF. Host TLPs, BAR2 accesses and front-end waits (13): HostTrafficCompletes.
-/

namespace Sys2Proof.Machine

/-- What comes from the host to a ready block is its function. -/
theorem next_host {s : State} (h : s.Ready) {ok : Bool} (hok : ok = true) (f : State → State) :
    (Host.Outcome.next (s.hostIn ok f).settle : Host.Outcome State Fault Refusal) = .next (f s).settle := by
  rw [h.hostIn, if_pos hok]

/-- A TLP under a stream that is not its partition's: another partition's, or one that no function has (13, R346). -/
def State.wrongStream (s : State) (x : Tlp) : Bool :=
  match x.stream with
  | some k => if k < 16 then (s.stream k).owner != x.toPart else x.toPart != 0
  | none => false

theorem State.wrongStream_iff {s : State} {x : Tlp} :
    s.wrongStream x = true ↔ ∃ k, x.stream = some k ∧ (if k < 16 then (s.stream k).owner ≠ x.toPart else x.toPart ≠ 0) := by
  unfold State.wrongStream
  cases x.stream with
  | none => simp
  | some k =>
    simp only [Option.some.injEq, exists_eq_left']
    split <;> simp

/-- What a TLP that passes its IDE check gets. -/
theorem hostTlpReceive_checked {s : State} {x : Tlp} (h : x.ideOk = true) :
    hostTlpReceive x s =
      (let p := x.toPart
       let foreign := x.fn ≠ 0 ∧ p ≠ 0 ∧ x.fn ≠ p
       if p ≠ 0 ∧ (s.tdi p = 3 ∨ s.wrongStream x = true ∨ (s.confidential p = true ∧ (foreign ∨ s.underSecure p x.stream = false))) then
         (s.logged 0x5001 p (.unit .function p 0)).urTo (x.fn * 32 + x.vf) x.tag x.posted
       else if p ≠ 0 ∧ (s.hostShut p = true ∨ foreign) then s.urTo (x.fn * 32 + x.vf) x.tag x.posted
       else s) := by
  have hwrong : (match x.stream with | some k => if k < 16 then (s.stream k).owner != x.toPart else x.toPart != 0 | none => false) = s.wrongStream x := by
    unfold State.wrongStream
    cases x.stream <;> rfl
  have hforeign : (x.fn != 0 && x.toPart != 0 && x.fn != x.toPart) = true ↔ x.fn ≠ 0 ∧ x.toPart ≠ 0 ∧ x.fn ≠ x.toPart := by simp [and_assoc]
  unfold hostTlpReceive
  dsimp only
  rw [if_neg (by simp [h])]
  simp only [hforeign, Bool.not_eq_true']
  cases hx : x.stream <;> rw [hx] at hwrong <;> simp only [← hwrong]

section
variable {s : State} {x : Bar2}

/-- A BAR2 access of a partition that is not refused, not shut out and not stale. -/
theorem bar2Access_open (hw : ¬ s.hst.bwaits.any (fun y => y.tag == x.tag && y.part == x.part && y.vf == x.vf) = true)
    (hr : ¬ (s.tdi x.part = 3 ∨ (s.confidential x.part = true ∧ (s.tdi x.part ≠ 2 ∨ s.underSecure x.part x.stream = false))))
    (hs : ¬ (s.hostShut x.part = true ∨ s.hst.power.getD (x.part * 32) 0 ≠ 0))
    (hk : ¬ (s.ctxOk x.part (s.hst.func.getD (x.part * 32 + x.vf) 0) = false ∨ (s.ctxOf x.part (s.hst.func.getD (x.part * 32 + x.vf) 0)).fn ≠ x.vf)) :
    bar2Access x s =
      (let p := x.part
       let fn := p * 32 + x.vf
       let ctx := s.hst.func.getD fn 0
       let t := s.loseCtx p ctx 0x5003 (.unit .function p x.vf)
       let bad := if x.write then t else t.cpl fn x.tag 1 [] (some ctx)
       match x.xlate with
       | none => bad
       | some g =>
         let g := g.toNat / 64 * 64
         let node := g / 2 ^ 44
         let ok := if node = s.lse.node then s.memOwner (g % 2 ^ 44) 64 == p else (s.node node).member && (s.nodeRec node).parts.getLsbD p
         if !ok then bad
         else
           let op : Op :=
             if !x.write then { kind := 0, opcode := 1, len := 4, addr := g, part := p, ctx := some ctx }
             else if x.mask == BitVec.allOnes 64 then { kind := 0, opcode := 2, len := 4, addr := g, part := p, ctx := some ctx, payload := x.bytes }
             else { kind := 0, opcode := 3, len := 7, addr := g, part := p, ctx := some ctx, payload := leBytes 8 x.mask.toNat ++ x.bytes }
           if x.write ∧ x.bytes.length ≠ 64 then s
           else (s.issueReq (.bar2 p) op (bar2Ext x) 0 false).getD { s with hst := { s.hst with bwaits := s.hst.bwaits ++ [x] } }) := by
  unfold bar2Access
  exact (if_neg hw).trans ((if_neg (by simpa only [Bool.not_eq_true'] using hr)).trans ((if_neg hs).trans (if_neg (by simpa only [Bool.not_eq_true'] using hk))))

end

/-- Settles O44. -/
theorem hostTrafficCompletes : Obligations.HostTrafficCompletes := by
  refine fun s hrdy => ⟨fun x => ⟨fun hx => ?ide, fun hx => ?tlp⟩, fun x h1 h6 => ?bar2, fun w h1 h6 hq => ?wait, fun q => ?withdraw⟩
  case ide =>
    exact (next_host hrdy rfl (hostTlpReceive x)).trans (congrArg (fun u : State => Host.Outcome.next u.settle) (if_pos (by simp [hx])))
  case tlp =>
    have hex : exec (.hostTlpReceive x) s = _ := (next_host hrdy rfl (hostTlpReceive x)).trans
      (congrArg (fun u : State => Host.Outcome.next u.settle) (hostTlpReceive_checked hx))
    simp only [State.wrongStream_iff] at hex
    exact ⟨fun h => hex.trans (by rw [if_pos h]), fun h h' => hex.trans (by rw [if_neg h, if_pos h']), fun h h' => hex.trans (by rw [if_neg h, if_neg h'])⟩
  case bar2 =>
    have hex {t : State} (h : bar2Access x s = t) : exec (.bar2Access x) s = .next t.settle :=
      (next_host hrdy (isPart_of_range h1 h6) (bar2Access x)).trans (congrArg (fun u : State => Host.Outcome.next u.settle) h)
    dsimp only
    refine ⟨fun hw => hex (if_pos hw), fun hw hr => hex ?_, fun hw hr hs => hex ?_, fun hw hr hs hk => hex ?_, fun hw hr hs hk hx => hex ?_,
      fun g hw hr hs hk hx => ?xlate⟩
    · exact (if_neg hw).trans (if_pos (by simpa only [Bool.not_eq_true'] using hr))
    · exact (if_neg hw).trans ((if_neg (by simpa only [Bool.not_eq_true'] using hr)).trans (if_pos hs))
    · exact (if_neg hw).trans ((if_neg (by simpa only [Bool.not_eq_true'] using hr)).trans ((if_neg hs).trans (if_pos (by simpa only [Bool.not_eq_true'] using hk))))
    · rw [bar2Access_open hw hr hs hk, hx]
    case xlate =>
      have hopen := bar2Access_open hw hr hs hk
      rw [hx] at hopen
      dsimp only at hopen
      have hmine : (if g.toNat / 64 * 64 / 2 ^ 44 = s.lse.node then s.memOwner (g.toNat / 64 * 64 % 2 ^ 44) 64 == x.part
          else (s.node (g.toNat / 64 * 64 / 2 ^ 44)).member && (s.nodeRec (g.toNat / 64 * 64 / 2 ^ 44)).parts.getLsbD x.part) = true ↔
          if g.toNat / 64 * 64 / 2 ^ 44 = s.lse.node then s.memOwner (g.toNat / 64 * 64 % 2 ^ 44) 64 = x.part
          else (s.node (g.toNat / 64 * 64 / 2 ^ 44)).member = true ∧ (s.nodeRec (g.toNat / 64 * 64 / 2 ^ 44)).parts.getLsbD x.part = true := by
        split <;> simp
      rw [← hmine]
      generalize (if g.toNat / 64 * 64 / 2 ^ 44 = s.lse.node then _ else _ : Bool) = mine at hopen ⊢
      refine ⟨fun hm => hex (hopen.trans ?_), fun hm hwr => hex (hopen.trans ?_), fun hm hwr hl hf => hex (hopen.trans ?_), fun hm hwr hl hf => hex (hopen.trans ?_)⟩
      · rw [if_pos (by simp [hm])]
      all_goals rw [if_neg (by simp [hm])]
      · rw [if_neg (by simp [hwr]), if_pos (by simp [hwr])]
      · rw [if_neg (by simp [hl]), if_neg (by simp [hwr]), if_pos (by simp [hf])]
      · rw [if_neg (by simp [hl]), if_neg (by simp [hwr]), if_neg (by simpa using hf)]
  case wait =>
    refine ⟨fun h => ?_, fun h hs => ?_, fun h hs => ?_⟩
    all_goals
      refine (next_host hrdy (isPart_of_range h1 h6) (frontEndWait w)).trans ?_
      simp only [frontEndWait]
    · rw [if_pos (Or.inr h)]
    all_goals rw [if_neg (fun hn => hn.elim (by omega) h)]
    · rw [if_pos (by simpa only [Bool.not_eq_true'] using hs)]
    · rw [if_neg (by simpa only [Bool.not_eq_true'] using hs)]
  case withdraw =>
    refine (next_host hrdy rfl (frontEndWithdraw q)).trans ?_
    unfold frontEndWithdraw
    cases s.frontReq q <;> rfl

end Sys2Proof.Machine
end

section
/-!
PROOF. Secure sessions (13): IDE_KM, SPDM and TDISP requests, SecureSessionsComplete.
-/

namespace Sys2Proof.Machine

/-- An IDE_KM request inside an open session, on a stream of its function, is its function; any other is answered with ERROR (13, R345). -/
theorem State.ideKm_eq (s : State) (fn session k : Nat) (f : State → State) :
    s.ideKm fn session k f =
      if s.sessOpen fn session = true ∧ (if fn = 0 then k = 16 else k < 16 ∧ (s.stream k).valid = true ∧ (s.stream k).owner = fn) then f s
      else s.emit (.doe fn 0x7F []) := by
  unfold State.ideKm
  by_cases h : fn = 0 <;> simp [h, and_assoc]

/-- A TDISP request inside an open session of a partition's DOE instance is its function; any other is dropped (13, R350). -/
theorem State.tdisp_eq {s : State} {p : Nat} (h1 : 1 ≤ p) (h6 : p ≤ 6) (session : Nat) (f : State → State) :
    s.tdisp p session f = if s.sessOpen p session = true then f s else s := by
  simp [State.tdisp, h1, h6]

theorem State.sessOpen_eq (s : State) (doe id : Nat) : s.sessOpen doe id = ((s.session doe id).map (·.open_)).getD false := by
  unfold State.sessOpen
  cases s.session doe id <;> rfl

/-- The DRBG and the keys decide KEY_EXCHANGE of a session that may be opened. -/
theorem spdmMessage_keyExchange {s : State} {fn : Nat} (hf : ¬ 6 < fn) (hm : ¬ 2 ≤ (s.hst.sess.filter (·.doe == fn)).length) :
    spdmMessage fn (.keyExchange true) s =
      if !s.drbgOk then (s.logged 0x8005 fn .none).emit (.doe fn 0x7F [])
      else
        let t := s.sessionKeys fn
        if t.2.length < 4 then s.emit (.doe fn 0x7F [])
        else
          let x : Session := { doe := fn, id := s.hst.nextSess, slots := t.2 }
          { t.1 with hst := { t.1.hst with sess := t.1.hst.sess ++ [x], nextSess := t.1.hst.nextSess + 1 } }.emit (.doe fn 0x64 (leBytes 4 x.id)) := by
  unfold spdmMessage
  dsimp only
  rw [if_neg hf, if_neg (by simpa using hm)]

/-- Settles O45. -/
theorem secureSessionsComplete : Obligations.SecureSessionsComplete := by
  refine fun s fn session k hfn => ⟨fun kset sub dir key hrdy => ⟨fun ht => ?foreign, fun ht => ?taken⟩, fun ha hq => ?spdm, fun hrdy h1 => ?tdisp⟩
  case' foreign | taken =>
    have hdoe : isDoe fn = true := decide_eq_true (by omega)
    have hg (f : State → State) : s.hostIn (isDoe fn) (fun s => s.ideKm fn session k f) = s.ideKm fn session k f := by
      rw [hrdy.hostIn, if_pos hdoe]
    dsimp only
  case foreign =>
    have hno (f : State → State) : s.hostIn (isDoe fn) (fun s => s.ideKm fn session k f) = s.emit (.doe fn 0x7F []) := by
      rw [hg, s.ideKm_eq, if_neg ht]
    have hset (f : State → State) := congrArg (fun u : State => (Host.Outcome.next u.settle : Host.Outcome State Fault Refusal)) (hno f)
    exact ⟨congrArg Host.Outcome.next (hno _), hset _, hset _, hset _⟩
  case taken =>
    have hyes {f : State → State} {u : State} (h : f s = u) : s.hostIn (isDoe fn) (fun s => s.ideKm fn session k f) = u := by
      rw [hg, s.ideKm_eq, if_pos ht, h]
    have hset {f : State → State} {u : State} (h : f s = u) := congrArg (fun u : State => (Host.Outcome.next u.settle : Host.Outcome State Fault Refusal)) (hyes h)
    refine ⟨congrArg Host.Outcome.next (hyes rfl), fun h => hset (if_pos ?_), fun h hn => hset ((if_neg ?_).trans ?_), fun n h hn => hset ((if_neg ?_).trans ?_),
      fun h => hset (if_pos ?_), fun h => hset (if_neg ?_), hset rfl⟩
    · simpa [Decidable.imp_iff_not_or] using h
    · simpa using h
    · rw [hn]
    · simpa using h
    · rw [hn]
    · simpa only [Bool.not_eq_true'] using h
    · simpa only [Bool.not_eq_true', Bool.not_eq_false] using h
  case spdm =>
    have hf : ¬ 6 < fn := by omega
    have hex (r : SpdmReq) {u : State} (h : spdmMessage fn r s = u) : exec (.spdmMessage fn r) s = .next u.settle := by
      refine congrArg (fun u : State => Host.Outcome.next u.settle) (Eq.trans ?_ h)
      simp [State.open_, State.live, ha, hq, isDoe, hfn]
    dsimp only
    refine ⟨hex _ (if_neg hf), hex _ (if_neg hf), hex _ (if_neg hf), hex _ (if_neg hf), fun slot => hex _ (if_neg hf), fun n => hex _ (if_neg hf),
      fun i n => hex _ (if_neg hf), hex _ ((if_neg hf).trans (if_pos (Or.inl rfl))), fun hm => hex _ ((if_neg hf).trans (if_pos (Or.inr hm))),
      fun hm hd => hex _ ?_, fun hm hd hl => hex _ ?_, fun hm hd hl => hex _ ?_, fun id ok hs => ?noSession, fun id y hs => ?inSession, fun code => hex _ (if_neg hf)⟩
    · rw [spdmMessage_keyExchange hf hm, if_pos (by simp [hd])]
    · rw [spdmMessage_keyExchange hf hm, if_neg (by simp [hd])]
      exact if_pos hl
    · rw [spdmMessage_keyExchange hf hm, if_neg (by simp [hd])]
      exact if_neg (Nat.not_lt.2 hl)
    case noSession =>
      refine ⟨hex _ ?_, hex _ ?_, hex _ ?_, hex _ ?_⟩ <;> refine (if_neg hf).trans ?_ <;> simp [hs, State.sessOpen_eq]
    case inSession =>
      refine ⟨hex _ ?_, hex _ ?_, hex _ ?_, hex _ ?_, hex _ ?_⟩ <;> refine (if_neg hf).trans ?_ <;> simp [hs, State.sessOpen_eq]
  case tdisp =>
    have hp : isPart fn = true := isPart_of_range h1 hfn
    have hg (f : State → State) : s.hostIn (isPart fn) f = f s := by rw [hrdy.hostIn, if_pos hp]
    dsimp only
    refine ⟨fun ho => ?opened, fun ho => ⟨fun c hc => ?_, fun c hc => ?_⟩, fun h => ?_, fun h => ?_⟩
    case opened =>
      have hyes {f : State → State} {u : State} (h : f s = u) : s.hostIn (isPart fn) (fun s => s.tdisp fn session f) = u := by
        rw [hg, State.tdisp_eq h1 hfn, if_pos ho, h]
      have hset {f : State → State} {u : State} (h : f s = u) := congrArg (fun u : State => (Host.Outcome.next u.settle : Host.Outcome State Fault Refusal)) (hyes h)
      exact ⟨congrArg Host.Outcome.next (hyes rfl), congrArg Host.Outcome.next (hyes rfl), congrArg Host.Outcome.next (hyes rfl), hset rfl,
        fun h => hset (if_pos h), fun h => hset (if_neg h), fun h => hset (if_pos h), fun h => hset (if_neg h),
        fun h => congrArg Host.Outcome.next (hyes (if_pos h)), fun h => congrArg Host.Outcome.next (hyes (if_neg h))⟩
    · have hno (f : State → State) : s.hostIn (isPart fn) (fun s => s.tdisp fn session f) = s := by
        rw [hg, State.tdisp_eq h1 hfn, if_neg (by simp [ho])]
      simp only [List.mem_cons, List.not_mem_nil, or_false] at hc
      obtain rfl | rfl | rfl | rfl := hc <;> exact congrArg Host.Outcome.next (hno _)
    · have hno (f : State → State) : s.hostIn (isPart fn) (fun s => s.tdisp fn session f) = s := by
        rw [hg, State.tdisp_eq h1 hfn, if_neg (by simp [ho])]
      simp only [List.mem_cons, List.not_mem_nil, or_false] at hc
      obtain rfl | rfl | rfl := hc <;> exact congrArg (fun u : State => Host.Outcome.next u.settle) (hno _)
    · exact (next_host hrdy hp _).trans (congrArg (fun u : State => Host.Outcome.next u.settle) (if_pos h))
    · exact (next_host hrdy hp _).trans (congrArg (fun u : State => Host.Outcome.next u.settle) (if_neg h))

end Sys2Proof.Machine
end

section
/-!
PROOF. Contexts (13): ContextsComplete.
-/

namespace Sys2Proof.Machine

/-- What reaches its register is the function behind the gate. -/
theorem next_given {s : State} {ap : Aperture} {pl : Place} {o : Nat} (h : s.Reaches ap pl o) (f : State → State) :
    (Host.Outcome.next (s.given (apOk ap) fun s => s.atReg ap pl o f).settle : Host.Outcome State Fault Refusal) = .next (f s).settle :=
  congrArg (fun t : State => Host.Outcome.next t.settle) ((h.given _).trans (h.atReg f))

section
variable {s : State} {p : Nat} (h : (s.inst .ctx p).busy = false)
include h

theorem ctxOpen_taken (fn : Nat) :
    ctxOpen (.part p) fn s =
      if (s.shapeOf p).vfs < fn then s.cmdEnd .ctx p 0 2
      else match firstFrom (fun i => (s.ctxAt p i).state == .free) 4096 0 with
        | none => s.cmdEnd .ctx p 0 4
        | some i => (s.putCtx p i { state := .active, gen := (s.ctxAt p i).gen, fn, first := 0 }).cmdEnd .ctx p (ctxTag (s.ctxAt p i).gen i).toNat 0 := by
  unfold ctxOpen
  exact State.command_idle h _

theorem ctxRetire_taken (tag : BitVec 16) :
    ctxRetire (.part p) tag s =
      if s.ctxIs .active p tag ∨ s.ctxIs .lost p tag then
        let w := (s.putCtx p (tag.toNat % 4096) { s.ctxOf p tag with state := .retiring }).retireWork p tag
        { w.1 with ctx := { w.1.ctx with retired := w.1.ctx.retired ++ [(p, tag.toNat % 4096, w.2)] } }.cmdBusy .ctx p tag.toNat
      else s.cmdEnd .ctx p tag.toNat 3 := by
  simp only [ctxRetire, State.command_idle h]

end

/-- CTX_CMD is a partition's own: a busy instance gives code 1, any other aperture nothing. -/
theorem ctxCommands_reach {s u : State} {ap : Aperture} {fn : Nat} {tag : BitVec 16} {c : Instr} (hc : c ∈ [.ctxOpen ap fn, .ctxRetire ap tag])
    (hr : s.Reaches ap .ctx 0) (hopen : ctxOpen ap fn s = u) (hretire : ctxRetire ap tag s = u) : exec c s = .next u.settle := by
  simp only [List.mem_cons, List.not_mem_nil, or_false] at hc
  obtain rfl | rfl := hc
  · exact (next_given hr _).trans (congrArg (fun u : State => Host.Outcome.next u.settle) hopen)
  · exact (next_given hr _).trans (congrArg (fun u : State => Host.Outcome.next u.settle) hretire)

/-- No channel that still drains works for a context: none is bound to it, and none has a descriptor of it active. -/
theorem notDraining_iff {s : State} {p : Nat} {tag : BitVec 16} :
    ((List.range 32).any fun c => (s.chan c).state == .draining && (s.chan c).part == p
      && ((s.chan c).ctx == tag || (match (s.chan c).act with
        | some a => a.d.ctx == tag
        | none => false))) = false ↔
    ∀ c < 32, (s.chan c).state = .draining → (s.chan c).part = p → (s.chan c).ctx ≠ tag ∧ ∀ a, (s.chan c).act = some a → a.d.ctx ≠ tag := by
  simp only [List.any_eq_false, List.mem_range]
  refine forall₂_congr fun c hc => ?_
  cases (s.chan c).act <;> simp

/-- Settles O46. -/
theorem contextsComplete : Obligations.ContextsComplete := by
  intro s p
  dsimp only
  refine ⟨fun ht => ?taken, fun ap fn tag c hc hr => ⟨fun hap hb => ?busy, fun hap => ?reserved⟩, fun i r ha h1 h6 hi hf hs hn => ?retired, fun ap hr => ?loss⟩
  case taken =>
    have hidle : (s.inst .ctx p).busy = false := ht.idle
    have hreach := ht.reaches (by simp) .ctx
    have hopen {fn : Nat} {u : State} (h : _ = u) : exec (.ctxOpen (.part p) fn) s = .next u.settle :=
      (next_given hreach _).trans (congrArg (fun u : State => Host.Outcome.next u.settle) ((ctxOpen_taken hidle fn).trans h))
    have hretire {tag : BitVec 16} {u : State} (h : _ = u) : exec (.ctxRetire (.part p) tag) s = .next u.settle :=
      (next_given hreach _).trans (congrArg (fun u : State => Host.Outcome.next u.settle) ((ctxRetire_taken hidle tag).trans h))
    refine ⟨fun fn h => hopen (if_pos h), fun fn h hf => hopen ?_, fun fn i h hf => hopen ?_, fun tag => ⟨fun h => hretire ?_, fun h => hretire ?_⟩⟩
    · rw [if_neg (Nat.not_lt.2 h), hf]
    · rw [if_neg (Nat.not_lt.2 h), hf]
    · rw [if_pos h]
    · rw [if_neg h]
  case busy =>
    subst hap
    refine ctxCommands_reach hc hr ?_ ?_
    · unfold ctxOpen
      exact State.command_busy hb _
    · unfold ctxRetire
      exact State.command_busy hb _
  case reserved =>
    refine ctxCommands_reach hc hr ?_ ?_ <;> cases ap with
    | part q => exact absurd rfl (hap q)
    | _ => rfl
  case retired =>
    have hok : (isPart p && isCtxIndex i) = true := by simp [isPart_of_range h1 h6, isCtxIndex, hi]
    refine (next_live ha hok (ctxRetireComplete p i)).trans ?_
    simp only [ctxRetireComplete, hf, hs]
    exact congrArg (fun u : State => Host.Outcome.next u.settle)
      (if_neg fun h => h.elim (fun h => h rfl) fun h => Bool.false_ne_true ((notDraining_iff.2 hn).symm.trans h))
  case loss =>
    have hex : exec (.ctxLossLoRead ap) s = .next (ctxLossLoRead ap s) := congrArg Host.Outcome.next ((hr.given _).trans (hr.atReg _))
    refine ⟨fun c f rest hap hl => hex.trans ?_, fun hap hl => hex.trans ?_, fun hap => hex.trans ?_⟩
    · subst hap
      simp only [ctxLossLoRead, hl]
    · subst hap
      simp only [ctxLossLoRead, hl]
    · cases ap with
      | part q => exact absurd rfl (hap q)
      | _ => rfl

end Sys2Proof.Machine
end

section
/-!
PROOF. Function resets, link loss, power states and tenant removal (13): HostResetsComplete.
-/

namespace Sys2Proof.Machine

/-- HST_CMD REMOVE, from the operator or the Lamp (13, R364). -/
theorem hstRemove_taken {s : State} {ap : Aperture} (h : s.Takes .hst ap) (hap : ap = .operator ∨ ap = .lamp) (p : Nat) :
    hstRemove ap p s =
      if !s.defined p then s.cmdEnd .hst (apIdx ap) 0 4
      else if s.hst.removing.any (·.1 == p) then s.cmdEnd .hst (apIdx ap) 0 3
      else { s.removeBegin p with hst := { (s.removeBegin p).hst with
        removing := (s.removeBegin p).hst.removing ++ [(p, apIdx ap, (s.removeBegin p).clk.shift)] } }.cmdBusy .hst (apIdx ap) 0 := by
  have hidle := h.idle
  obtain rfl | rfl := hap <;> dsimp only [apIdx] at hidle ⊢ <;> simp only [hstRemove, State.command_idle hidle]

theorem hstRemove_foreign {s : State} {ap : Aperture} (h : (s.inst .hst (apIdx ap)).busy = false) (hap : ap = .debug ∨ ∃ q, ap = .part q) (p : Nat) :
    hstRemove ap p s = s.cmdEnd .hst (apIdx ap) 0 2 := by
  obtain rfl | ⟨q, rfl⟩ := hap <;> dsimp only [apIdx] at h ⊢ <;> simp only [hstRemove, State.command_idle h]

theorem hstRemove_busy {s : State} {ap : Aperture} (hap : ∀ q v, ap ≠ .vf q v) (h : (s.inst .hst (apIdx ap)).busy = true) (p : Nat) :
    hstRemove ap p s = s.modInst .hst (apIdx ap) fun i => { i with code := 1 } := by
  cases ap with
  | vf q v => exact absurd rfl (hap q v)
  | _ => dsimp only [apIdx, hstRemove] at h ⊢; rw [State.command_busy h]

/-- Settles O47. -/
theorem hostResetsComplete : Obligations.HostResetsComplete := by
  intro s p h1 h6
  have hp : isPart p = true := isPart_of_range h1 h6
  dsimp only
  refine ⟨fun ha => ?events, fun ap => ⟨fun ht hap => ?taken, fun hr hb hap => ?foreign, fun hr hap hb => ?busy, fun q v hr hap => ?reserved⟩⟩
  case foreign => rw [← hstRemove_foreign hb hap p]; exact next_reg hr hp _
  case busy => rw [← hstRemove_busy hap hb p]; exact next_reg hr hp _
  case reserved =>
    subst hap
    exact next_reg hr hp _
  case taken =>
    have hnd : ap ≠ .debug := by obtain rfl | rfl := hap <;> simp
    have hex : exec (.hstRemove ap p) s = _ := (next_cmd ht hnd .hst hp (hstRemove ap p)).trans
      (congrArg (fun u : State => Host.Outcome.next u.settle) (hstRemove_taken ht hap p))
    refine ⟨fun h => hex.trans ?_, fun h hx => hex.trans ?_, fun h hx => hex.trans ?_⟩
    · rw [if_pos (by simp [h])]
    · rw [if_neg (by simp [h]), if_pos hx]
    · rw [if_neg (by simp [h]), if_neg hx]
  case events =>
    have hlive {ok : Bool} (hok : ok = true) {f : State → State} {u : State} (h : f s = u) :
        (Host.Outcome.next (s.live ok f).settle : Host.Outcome State Fault Refusal) = .next u.settle := by rw [next_live ha hok f, h]
    refine ⟨hlive rfl rfl, hlive hp rfl, fun v hv hv' => hlive (by simp [isFlr, hp, isVf, hv, hv']) rfl, fun fn hok hf => ?_, hlive rfl rfl, hlive rfl rfl, fun fn hfn => ?_,
      fun fn hfn => ?_, fun h => hlive hp (if_pos ⟨h1, h6, h⟩), fun h => hlive hp (if_neg fun hc => hc.2.2 h), hlive hp rfl, fun v d hv hv16 hvf hd => ?_, fun a x hx => ?_⟩
    · exact congrArg Host.Outcome.next ((State.live_of_alive ha hok _).trans (if_pos hf))
    · exact hlive (decide_eq_true (by omega)) (by simp only [pfD3hot, hfn, true_and])
    · exact hlive (decide_eq_true (by omega)) (by simp only [pfD0, hfn, true_and])
    · exact hlive (by simp [hp, isVf, hv, hv16]) (if_pos ⟨h1, h6, hv, hvf, hd⟩)
    · exact hlive hp (by simp only [removeComplete, hx])

end Sys2Proof.Machine
end

section
/-!
PROOF. Dirty logging and migration keys (13): MigrationCompletes.
-/

namespace Sys2Proof.Machine

/-! ### HST_CMD -/

theorem State.hstCmd_foreign {s : State} {ap : Aperture} (hap : ap = .operator ∨ ap = .lamp ∨ ap = .debug) (h : (s.inst .hst (apIdx ap)).busy = false)
    (f : Nat → State → State) : s.hstCmd ap f = s.cmdEnd .hst (apIdx ap) 0 2 := by
  obtain rfl | rfl | rfl := hap <;> dsimp only [apIdx] at h ⊢ <;> simp only [State.hstCmd, State.command_idle h]

theorem State.hstCmd_busy {s : State} {ap : Aperture} (hap : ∀ q v, ap ≠ .vf q v) (h : (s.inst .hst (apIdx ap)).busy = true)
    (f : Nat → State → State) : s.hstCmd ap f = s.modInst .hst (apIdx ap) fun i => { i with code := 1 } := by
  cases ap with
  | vf q v => exact absurd rfl (hap q v)
  | _ => dsimp only [apIdx, State.hstCmd] at h ⊢; rw [State.command_busy h]

/-- What a command of dirty logging or migration does where it reaches its register, once what `hstCmd` makes of its function is known. -/
theorem migCommands_reach {s u : State} {ap : Aperture} {ok : Bool} {b : Option MigBlob} {c : Instr}
    (hc : c ∈ [.hstDirtyEnable ap, .hstDirtyDisable ap, .hstMigOffer ap ok, .hstMigAccept ap b, .hstMigFinish ap b])
    (hr : s.Reaches ap .hst 0) (hu : ∀ f, s.hstCmd ap f = u) : exec c s = .next u.settle := by
  simp only [List.mem_cons, List.not_mem_nil, or_false] at hc
  obtain rfl | rfl | rfl | rfl | rfl := hc <;> exact (next_given hr _).trans (congrArg (fun u : State => Host.Outcome.next u.settle) (hu _))

/-- A blob that fails its checks ends MIG_FINISH with their code, whatever nonce it answers. -/
theorem finishCode_bad {code : Nat} {x y : BitVec 256} (h : code ≠ 0) : (if code = 0 ∧ x ≠ y then 5 else code) = code :=
  if_neg fun hc => h hc.1

theorem finishCode_good {code : Nat} {x y : BitVec 256} (h : code = 0) (hx : x = y) : (if code = 0 ∧ x ≠ y then 5 else code) = 0 := by
  simp [h, hx]

theorem finishCode_stranger {code : Nat} {x y : BitVec 256} (h : code = 0) (hx : x ≠ y) : (if code = 0 ∧ x ≠ y then 5 else code) = 5 :=
  if_pos ⟨h, hx⟩

/-- Settles O48. -/
theorem migrationCompletes : Obligations.MigrationCompletes := by
  intro s p
  dsimp only
  refine ⟨fun ht => ?taken, fun ap ok b c hc hr => ⟨fun hap hb => ?foreign, fun hap hb => ?busy, fun q v hap => ?reserved⟩, fun ha h1 h6 => ⟨fun m hm => ?enabled, ?expired⟩⟩
  case foreign => exact migCommands_reach hc hr (State.hstCmd_foreign hap hb)
  case busy => exact migCommands_reach hc hr (State.hstCmd_busy hap hb)
  case reserved =>
    subst hap
    exact migCommands_reach hc hr fun _ => rfl
  case enabled =>
    refine (next_live ha (isPart_of_range h1 h6) (dirtyEnableDone p)).trans ?_
    simp only [dirtyEnableDone, hm]
  case expired => exact next_live ha (isPart_of_range h1 h6) (migOfferExpire p)
  case taken =>
    have hgive {f : Nat → State → State} {u : State} (h : f p s = u) := congrArg (fun u : State => (Host.Outcome.next u.settle : Host.Outcome State Fault Refusal))
      ((takes_hstCmd ht f).trans h)
    have henable {u : State} (h : _ = u) : exec (.hstDirtyEnable (.part p)) s = .next u.settle := hgive h
    have hoffer {ok : Bool} {u : State} (h : _ = u) : exec (.hstMigOffer (.part p) ok) s = .next u.settle := hgive h
    have haccept {b : Option MigBlob} {u : State} (h : _ = u) : exec (.hstMigAccept (.part p) b) s = .next u.settle := hgive h
    have hfinish {b : Option MigBlob} {u : State} (h : _ = u) : exec (.hstMigFinish (.part p) b) s = .next u.settle := hgive h
    refine ⟨fun h => henable (if_pos h), fun h => henable (if_neg (Classical.not_not.2 h)), hgive rfl, fun ok h => hoffer (if_pos h), fun ok h hb => hoffer ?_, fun h hh => hoffer ?_,
      fun b h => haccept (if_pos h), fun b h hh => haccept ?_, fun h hh => ⟨haccept ?_, fun b hb => haccept ?_, fun b hb => ⟨fun hk => haccept ?_, fun t n hk => haccept ?_⟩⟩,
      fun b ho => hfinish ?_, fun o ho => ⟨fun b hb => hfinish ?_, fun b hb hh => hfinish ?_, fun hb hh => ⟨hfinish ?_, fun b hc => hfinish ?_, fun b hc hn => hfinish ?_,
        fun b hc hn => ⟨fun hk => hfinish ?_, fun t n hk => hfinish ?_⟩⟩⟩⟩
    · exact (if_neg (Classical.not_not.2 h)).trans (if_pos (by simpa using hb))
    · exact (if_neg (Classical.not_not.2 h)).trans (if_neg (by simp [hh]))
    · exact (if_neg (Classical.not_not.2 h)).trans (if_pos (by simp [hh]))
    · exact (if_neg (Classical.not_not.2 h)).trans (if_neg (by simp [hh]))
    · refine (if_neg (Classical.not_not.2 h)).trans ((if_neg (by simp [hh])).trans ?_)
      exact if_pos hb
    · refine (if_neg (Classical.not_not.2 h)).trans ((if_neg (by simp [hh])).trans ((if_neg (Classical.not_not.2 hb)).trans ?_))
      dsimp only
      rw [hk]
      rfl
    · refine (if_neg (Classical.not_not.2 h)).trans ((if_neg (by simp [hh])).trans ((if_neg (Classical.not_not.2 hb)).trans ?_))
      dsimp only
      rw [hk]
    all_goals simp only [ho]
    · exact if_pos (by simp [hb])
    · exact (if_neg (by simp [hb])).trans (if_pos (by simp [hh]))
    all_goals refine (if_neg (by simp [hb])).trans ((if_neg (by simp [hh])).trans ?_)
    · rfl
    · rw [finishCode_bad hc, if_pos hc]
      rfl
    · rw [finishCode_stranger hc hn, if_pos (by decide)]
      rfl
    all_goals
      rw [finishCode_good hc hn, if_neg (Classical.not_not.2 rfl), hk]
    · rfl

end Sys2Proof.Machine
end

section
/-!
PROOF. Vault commands, slot states, entropy, check and public-key engines (14): VaultCompletes.
-/

namespace Sys2Proof.Machine

/-! ### VLT_CMD -/

/-- The Lamp may give every vault command, the operator those that are not the Lamp's alone. -/
theorem State.vltCmd_taken {s : State} {ap : Aperture} (h : s.Takes .vlt ap) {lo : Bool} (hap : ap = .operator ∧ lo = false ∨ ap = .lamp) (n : Nat)
    (f : Nat → State → State) : s.vltCmd ap n lo f = f (apIdx ap) s := by
  have hidle := h.idle
  obtain ⟨rfl, rfl⟩ | rfl := hap <;> dsimp only [apIdx] at hidle ⊢
  · simp only [State.vltCmd, State.command_idle hidle, Bool.false_eq_true, if_false]
  · simp only [State.vltCmd, State.command_idle hidle]

theorem State.vltCmd_lampOnly {s : State} (h : (s.inst .vlt 0).busy = false) (n : Nat) (f : Nat → State → State) :
    s.vltCmd .operator n true f = s.cmdEnd .vlt 0 n 2 := by
  simp only [State.vltCmd, State.command_idle h, if_true]

theorem State.vltCmd_foreign {s : State} (h : (s.inst .vlt 8).busy = false) (n : Nat) (lo : Bool) (f : Nat → State → State) :
    s.vltCmd .debug n lo f = s.cmdEnd .vlt 8 n 2 := by
  simp only [State.vltCmd, State.command_idle h]

theorem State.vltCmd_busy {s : State} {ap : Aperture} (hap : ap = .operator ∨ ap = .lamp ∨ ap = .debug) (h : (s.inst .vlt (apIdx ap)).busy = true)
    (n : Nat) (lo : Bool) (f : Nat → State → State) : s.vltCmd ap n lo f = s.modInst .vlt (apIdx ap) fun i => { i with code := 1 } := by
  obtain rfl | rfl | rfl := hap <;> dsimp only [apIdx, State.vltCmd] at h ⊢ <;> rw [State.command_busy h]

theorem State.vltCmd_reserved {s : State} {ap : Aperture} (hap : (∃ p, ap = .part p) ∨ ∃ p v, ap = .vf p v) (n : Nat) (lo : Bool) (f : Nat → State → State) :
    s.vltCmd ap n lo f = s := by
  obtain ⟨p, rfl⟩ | ⟨p, v, rfl⟩ := hap <;> rfl

/-- What a vault command does where it reaches its register, once what `vltCmd` makes of its function is known. -/
theorem vltCommands_reach {s u : State} {ap : Aperture} {n : Nat} {ok : Bool} {c : Instr} (hn : n < 4096)
    (hc : c ∈ [.vltRetire ap n, .vltZeroise ap n, .vltOrigin ap n ok]) (hr : s.Reaches ap .vlt 0) (hu : ∀ lo f, s.vltCmd ap n lo f = u) :
    exec c s = .next u.settle := by
  have hok : isSlot n = true := decide_eq_true hn
  simp only [List.mem_cons, List.not_mem_nil, or_false] at hc
  obtain rfl | rfl | rfl := hc <;> exact (next_reg hr hok _).trans (congrArg (fun u : State => Host.Outcome.next u.settle) (hu _ _))

theorem originCheck_empty {s : State} {n : Nat} (h : (s.slot n).state = .empty ∨ (s.slot n).state = .dead) : s.originCheck n = 3 := if_pos h

theorem originCheck_package {s : State} {n : Nat} (h : ¬ ((s.slot n).state = .empty ∨ (s.slot n).state = .dead)) (hn : n < 4) : s.originCheck n = 4 :=
  (if_neg h).trans (if_pos hn)

theorem originCheck_key {s : State} {n : Nat} (h : ¬ ((s.slot n).state = .empty ∨ (s.slot n).state = .dead)) (hn : 4 ≤ n) : s.originCheck n = 0 :=
  (if_neg h).trans (if_neg (by omega))

/-! ### Slots -/

theorem State.killSlot_held {s : State} {n : Nat} (h : (s.slot n).state = .active ∨ (s.slot n).state = .retiring) :
    s.killSlot n = { s.setSlot n { s.slot n with state := .dead, key := 0 } with
      clus := s.clus.map fun ((c, k) : Nat × Cluster) => (c, k.forget n) } := if_pos h

@[simp] theorem State.reach_slot (s : State) (t : Dword) (n : Nat) : (s.reach t).slot n = s.slot n := by
  unfold State.reach
  split <;> rfl

/-- Settles O49. -/
theorem vaultCompletes : Obligations.VaultCompletes := by
  refine ⟨⟨fun s ap n hn => ?commands, fun s n ha hn => ⟨fun hs hb => ?dead, fun hs hb => ?inUse, fun hs => ?empty⟩⟩, fun s ha => ?engines⟩
  case commands =>
    have hok : isSlot n = true := decide_eq_true hn
    dsimp only
    refine ⟨fun ht hap => ?lamp, fun ht hap => ?operator, fun ht hap ok => ?origin, fun ok c hc hr => ⟨fun hap hb => ?foreign, fun hap hb => ?busy, fun hap => ?reserved⟩⟩
    case foreign =>
      subst hap
      exact vltCommands_reach hn hc hr (State.vltCmd_foreign hb n)
    case busy => exact vltCommands_reach hn hc hr (State.vltCmd_busy hap hb n)
    case reserved => exact vltCommands_reach hn hc hr (State.vltCmd_reserved hap n)
    case operator =>
      subst hap
      have hgive {u : State} (h : u = s.cmdEnd .vlt 0 n 2) := congrArg (fun u : State => (Host.Outcome.next u.settle : Host.Outcome State Fault Refusal)) h
      exact ⟨(next_cmd ht (by simp) .vlt hok _).trans (hgive (State.vltCmd_lampOnly ht.idle n _)),
        (next_cmd ht (by simp) .vlt hok _).trans (hgive (State.vltCmd_lampOnly ht.idle n _))⟩
    case lamp =>
      subst hap
      have hretire {u : State} (h : _ = u) : exec (.vltRetire .lamp n) s = .next u.settle := (next_cmd ht (by simp) .vlt hok _).trans
        (congrArg (fun u : State => Host.Outcome.next u.settle) ((State.vltCmd_taken ht (Or.inr rfl) n _).trans h))
      have hzeroise {u : State} (h : _ = u) : exec (.vltZeroise .lamp n) s = .next u.settle := (next_cmd ht (by simp) .vlt hok _).trans
        (congrArg (fun u : State => Host.Outcome.next u.settle) ((State.vltCmd_taken ht (Or.inr rfl) n _).trans h))
      refine ⟨fun h => ⟨hretire (if_pos h), hzeroise (if_pos h)⟩, fun h hs => hretire ?_, fun h hs => hretire ?_, fun h hs => hzeroise ?_, fun h hs => hzeroise ?_⟩
      all_goals refine (if_neg (Nat.not_lt.2 h)).trans ?_
      · refine (if_neg (Classical.not_not.2 hs)).trans ?_
        rw [State.retireSlot, if_pos hs]
      · exact if_pos hs
      · rw [← State.killSlot_held hs]
        obtain hs | hs := hs <;> rw [hs]
      · cases hk : (s.slot n).state <;> simp_all
    case origin =>
      have hnd : ap ≠ .debug := by obtain rfl | rfl := hap <;> simp
      have horigin {u : State} (h : _ = u) : exec (.vltOrigin ap n ok) s = .next u.settle := (next_cmd ht hnd .vlt hok _).trans
        (congrArg (fun u : State => Host.Outcome.next u.settle) ((State.vltCmd_taken ht (hap.imp (And.intro · rfl) id) n _).trans h))
      refine ⟨fun hs => horigin ?_, fun hs h4 => horigin ?_, fun hs h4 ho => horigin ?_, fun hs h4 ho hu => horigin ?_⟩
      · rw [originCheck_empty hs]
        exact if_pos (by decide)
      · rw [originCheck_package hs h4]
        exact if_pos (by decide)
      · exact (if_neg (Classical.not_not.2 (originCheck_key hs h4))).trans (if_pos (by simpa using ho))
      · exact (if_neg (Classical.not_not.2 (originCheck_key hs h4))).trans (if_neg (by simp [ho, hu]))
  case dead =>
    refine (next_live ha (ok := isSlot n) (decide_eq_true hn) (slotDead n)).trans (congrArg (fun u : State => Host.Outcome.next u.settle) ?_)
    have ht : ((if (s.slot n).usage = 0xD then s.reach ((s.slot n).since + 16000) else s).slot n) = s.slot n := by split <;> simp
    refine (if_pos ⟨hs, hb⟩).trans ?_
    rw [State.killSlot_held (Or.inr (by rw [ht]; exact hs)), ht]
  case inUse =>
    exact (next_live ha (ok := isSlot n) (decide_eq_true hn) (slotDead n)).trans
      (congrArg (fun u : State => Host.Outcome.next u.settle) (if_neg fun h => ne_true_of_eq_false h.2 hb))
  case empty =>
    have hex := next_live ha (ok := isSlot n) (decide_eq_true hn) (slotEmpty n)
    simp only [slotEmpty, if_neg (Classical.not_not.2 hs)] at hex
    dsimp only
    refine ⟨fun hw => hex.trans ?_, fun m e hw => hex.trans ?_⟩
    · rw [hw]
    · rw [hw]
  case engines =>
    have hlive {ok : Bool} (hok : ok = true) {f : State → State} {u : State} (h : f s = u) :
        (Host.Outcome.next (s.live ok f).settle : Host.Outcome State Fault Refusal) = .next u.settle := by rw [next_live ha hok f, h]
    dsimp only
    refine ⟨fun n h1 h512 => ⟨fun h => hlive (decide_eq_true ⟨h1, h512⟩) ?_, fun h h3 => hlive (decide_eq_true ⟨h1, h512⟩) ?_, fun h => hlive (decide_eq_true ⟨h1, h512⟩) (if_pos h)⟩,
      fun h => hlive rfl (if_pos h), fun h => hlive rfl (if_neg h), fun h => hlive rfl (if_pos h), fun prio perms hp h0 => ⟨fun h => hlive (decide_eq_true hp) (if_pos (Or.inl h)),
        fun h => hlive (decide_eq_true hp) (if_neg ?_)⟩, fun p j rest hr hj => ⟨fun h => hlive rfl ?_, fun h => hlive rfl ?_, fun h => hlive rfl ?_, fun h => hlive rfl ?_⟩,
      fun u prio hp => hlive (decide_eq_true hp) ?_, fun u hu => hlive rfl (if_pos hu), fun hu => ⟨fun f => hlive rfl ?_, hlive rfl ?_, hlive rfl ?_⟩⟩
    · rw [drbgGenerate, if_neg (by simp [h]), if_neg (Nat.not_lt.2 h512), if_pos h]
      rfl
    · rw [drbgGenerate, if_neg h3, if_neg (Nat.not_lt.2 h512), if_neg h]
      rfl
    · rintro (hf | h4 | h)
      · exact ne_true_of_eq_false h hf
      · omega
      · omega
    · simp only [checkPermutation, hr, hj, if_true, if_pos h]
      rfl
    · simp only [checkPermutation, hr, hj, if_true, if_neg (Nat.not_le.2 h)]
      rfl
    · simp only [checkPermutation, hr, hj, Bool.false_eq_true, if_false]
      exact if_pos h
    · simp only [checkPermutation, hr, hj, Bool.false_eq_true, if_false]
      exact if_neg h
    · rw [pkeRequest, if_neg (Nat.not_le.2 hp)]
      by_cases hb : (s.pkUnit u).busy = true
      · rw [if_pos hb, if_pos hb]
      · rw [if_neg hb, if_neg hb]
    all_goals rw [signWindowEnd, if_neg (by simp [hu])]
    · exact (if_pos rfl).trans (if_pos hu)
    · rfl
    · rfl

end Sys2Proof.Machine
end

section
/-!
PROOF. Tamper, checked state, transitions and SCRAP (14): LifeCycleCompletes.
-/

namespace Sys2Proof.Machine

/-- LCS_CMD stands at offset 4 and is denied neither to the operator nor to the Lamp. -/
theorem State.Takes.reaches_lcs {s : State} {ap : Aperture} (h : s.Takes .lcs ap) (hap : ap = .operator ∨ ap = .lamp) : s.Reaches ap .lcs 4 := by
  refine ⟨h.1, h.2.1, h.2.2.2, ?_⟩
  obtain rfl | rfl := hap <;> simp [State.denies, Place.readOnly, Place.argMask, Place.notDebug]

/-- A life-cycle command is taken where the strap is not set, and ends with code 2 where it is. -/
theorem State.lcsCmd_taken {s : State} {ap : Aperture} (h : s.Takes .lcs ap) (hap : ap = .operator ∨ ap = .lamp) (f : Nat → State → State) :
    s.lcsCmd ap f = if s.pins.strap.getLsbD 1 then s.cmdEnd .lcs (apIdx ap) 0 2 else f (apIdx ap) s := by
  have hidle := h.idle
  obtain rfl | rfl := hap <;> dsimp only [apIdx] at hidle ⊢ <;> simp only [State.lcsCmd, State.command_idle hidle]

theorem State.lcsCmd_busy {s : State} {ap : Aperture} (hap : ap = .operator ∨ ap = .lamp) (h : (s.inst .lcs (apIdx ap)).busy = true) (f : Nat → State → State) :
    s.lcsCmd ap f = s.modInst .lcs (apIdx ap) fun i => { i with code := 1 } := by
  obtain rfl | rfl := hap <;> dsimp only [apIdx, State.lcsCmd] at h ⊢ <;> rw [State.command_busy h]

theorem State.lcsCmd_reserved {s : State} {ap : Aperture} (hap : (∃ p, ap = .part p) ∨ ∃ p v, ap = .vf p v) (f : Nat → State → State) : s.lcsCmd ap f = s := by
  obtain ⟨p, rfl⟩ | ⟨p, v, rfl⟩ := hap <;> rfl

/-- What both life-cycle commands do where they reach their register, once what `lcsCmd` makes of them is known. -/
theorem lcsCommands_reach {s u : State} {ap : Aperture} (req : Option Transition) (hr : s.Reaches ap .lcs 4) (hu : ∀ f, s.lcsCmd ap f = u) :
    exec (.lcsTransition ap req) s = .next u.settle ∧ exec (.lcsScrap ap) s = .next u.settle :=
  ⟨(next_given hr _).trans (congrArg (fun u : State => Host.Outcome.next u.settle) (hu _)),
    (next_given hr _).trans (congrArg (fun u : State => Host.Outcome.next u.settle) (hu _))⟩

/-- Settles O50. -/
theorem lifeCycleCompletes : Obligations.LifeCycleCompletes := by
  intro s
  dsimp only
  refine ⟨fun ha => ⟨next_live ha rfl _, next_live ha rfl _, next_live ha rfl _, fun r a hp => ?programmed⟩, fun ht => ?again, fun ht => ?tamper,
    fun ap req hap => ⟨fun htk hs => ?strapped, fun hr hb => ?busy, fun htk hs => ?taken⟩, fun ap req hr hap => lcsCommands_reach req hr (State.lcsCmd_reserved hap)⟩
  case programmed =>
    refine (next_live ha rfl transitionProgrammed).trans ?_
    simp only [transitionProgrammed, hp]
  case again => exact congrArg (fun u : State => Host.Outcome.next u.settle) (if_pos ht)
  case tamper => exact congrArg (fun u : State => Host.Outcome.next u.settle) (if_neg (ne_true_of_eq_false ht))
  case strapped => exact lcsCommands_reach req (htk.reaches_lcs hap) fun f => (State.lcsCmd_taken htk hap f).trans (if_pos hs)
  case busy => exact lcsCommands_reach req hr (State.lcsCmd_busy hap hb)
  case taken =>
    have hreach := htk.reaches_lcs hap
    have htaken (f : Nat → State → State) := (State.lcsCmd_taken htk hap f).trans (if_neg (ne_true_of_eq_false hs))
    have htransition {req : Option Transition} {u : State} (h : _ = u) : exec (.lcsTransition ap req) s = .next u.settle :=
      (next_given hreach _).trans (congrArg (fun u : State => Host.Outcome.next u.settle) ((htaken _).trans h))
    have hscrap {u : State} (h : _ = u) : exec (.lcsScrap ap) s = .next u.settle :=
      (next_given hreach _).trans (congrArg (fun u : State => Host.Outcome.next u.settle) ((htaken _).trans h))
    refine ⟨fun h => htransition (if_pos h), fun h hu => htransition ?_, fun h hu => ⟨fun hq => htransition ?_, fun x hq hc => htransition ?_, fun x hq hc => htransition ?_⟩,
      fun h => hscrap (if_neg ?_), fun h => hscrap (if_pos ?_)⟩
    · exact (if_neg (Classical.not_not.2 h)).trans (if_pos (by simp [hu]))
    · subst hq
      exact (if_neg (Classical.not_not.2 h)).trans (if_neg (by simp [hu]))
    · subst hq
      exact (if_neg (Classical.not_not.2 h)).trans ((if_neg (by simp [hu])).trans (if_pos hc))
    · subst hq
      exact (if_neg (Classical.not_not.2 h)).trans ((if_neg (by simp [hu])).trans (if_neg (Classical.not_not.2 hc)))
    · exact fun hn => hn.elim (absurd h.1) (absurd h.2)
    · exact Classical.not_and_iff_not_or_not.1 h

end Sys2Proof.Machine
end

section
/-!
PROOF. Power-on reset and the cold start (15): ColdStartCompletes.
-/

namespace Sys2Proof.Machine

/-! ### LSE_CMD -/

/-- LSE_CMD answers the operator and the Lamp in every state of a live block. -/
theorem State.atReg_lse {s : State} (ha : s.alive = true) {ap : Aperture} (hap : ap = .operator ∨ ap = .lamp) (f : State → State) :
    s.atReg ap .lse 0x10 f = f s := by
  obtain ⟨⟨hp, hl⟩, ht⟩ : (s.pins.por = false ∧ s.fuse.lifecycle ≠ 5) ∧ s.pins.tamper = false := by simpa [State.alive] using ha
  obtain rfl | rfl := hap <;>
    simp [State.atReg, State.tlpRefused, aperturePart, State.responds, hp, hl, ht, Place.early, State.denies, Place.readOnly, Place.notDebug, Place.argMask]

theorem next_lse {s : State} (ha : s.alive = true) {ap : Aperture} (hap : ap = .operator ∨ ap = .lamp) (f : State → State) :
    (Host.Outcome.next (s.given (apOk ap) fun s => s.atReg ap .lse 0x10 f).settle : Host.Outcome State Fault Refusal) = .next (f s).settle := by
  have hok : apOk ap = true := by obtain rfl | rfl := hap <;> rfl
  rw [State.given, if_pos hok, State.atReg_lse ha hap]

theorem State.lseCmd_taken {s : State} {ap : Aperture} (hap : ap = .operator ∨ ap = .lamp) (h : (s.inst .lse (apIdx ap)).busy = false) (f : Nat → State → State) :
    s.lseCmd ap f = f (apIdx ap) s := by
  obtain rfl | rfl := hap <;> dsimp only [apIdx] at h ⊢ <;> simp only [State.lseCmd, State.command_idle h]

theorem State.lseCmd_debug {s : State} (h : (s.inst .lse 8).busy = false) (f : Nat → State → State) : s.lseCmd .debug f = s.cmdEnd .lse 8 0 2 := by
  simp only [State.lseCmd, State.command_idle h]

theorem State.lseCmd_busy {s : State} {ap : Aperture} (hp : ∀ p, ap ≠ .part p) (hv : ∀ p v, ap ≠ .vf p v) (h : (s.inst .lse (apIdx ap)).busy = true)
    (f : Nat → State → State) : s.lseCmd ap f = s.modInst .lse (apIdx ap) fun i => { i with code := 1 } := by
  cases ap with
  | part p => exact absurd rfl (hp p)
  | vf p v => exact absurd rfl (hv p v)
  | _ => dsimp only [apIdx, State.lseCmd] at h ⊢; rw [State.command_busy h]

theorem State.lseCmd_reserved {s : State} {ap : Aperture} (hap : (∃ p, ap = .part p) ∨ ∃ p v, ap = .vf p v) (f : Nat → State → State) : s.lseCmd ap f = s := by
  obtain ⟨p, rfl⟩ | ⟨p, v, rfl⟩ := hap <;> rfl

/-! ### Steps 11 to 13 -/

/-- How a start that is not halted goes on where the hub's memory is trained (15, R421, R423). -/
theorem State.startAdvance_trained {s : State} (hh : s.lse.halted = false) (hm : s.pins.memTrained = true) :
    s.startAdvance =
      let t := if s.glb.state = 0 ∧ s.glb.step = 11 then ((s.enterStep 12).initSlices s.goodSlices).enterStep13 else s
      if (t.glb.state = 0 ∨ t.glb.state = 1) ∧ t.glb.step = 13 ∧ t.sitesSettled = true ∧ (t.inDomain = false ∨ t.fab.dstate = 3) then t.enterRun else t := by
  simp only [State.startAdvance, hh, hm, Bool.false_eq_true, if_false, and_true, Bool.not_eq_true']

/-! ### RELOAD -/

/-- RELOAD in a HELD that a cold start entered, with an image to read (15, R410). -/
theorem readStart_some (s : State) (b : List Byte) (sig : Bool) : s.readStart (some b) sig = ((s.enterStep 8).digestOf b).admitStart b sig := rfl

theorem State.admitStart_admitted {s : State} {b : List Byte} {sig : Bool} (h : admitImage b (s.admitEnv sig (leaseSigner b)) = none) :
    s.admitStart b sig =
      (let t := (((s.lampStart.enterStep 9).applyLease (readLease b)).enterStep 10).identityKeys
       (({ t with glb := { t.glb with state := 0 } } : State).enterStep 11).startAdvance, true) := by
  unfold State.admitStart
  rw [h]

theorem State.admitStart_refused {s : State} {b : List Byte} {sig : Bool} {r : Refused} (h : admitImage b (s.admitEnv sig (leaseSigner b)) = some r) :
    s.admitStart b sig = (s.enterHeld (if r.1 ≤ 0x9007 then 8 else 9) r, false) := by
  unfold State.admitStart
  rw [h]
  simp only [step8Code, decide_eq_true_eq]

/-- RELOAD in a HELD that a warm start entered, refused again. -/
theorem State.reloadWarm_refused {s t : State} {nor : Option (List Byte)} {sig : Bool} {r : Refused} (h : (s.enterStep 8).warmNor nor sig = (t, some r)) :
    s.reloadWarm nor sig = (t.enterHeld 8 r, false) := by
  unfold State.reloadWarm
  rw [h]

theorem State.reloadWarm_admitted {s t : State} {nor : Option (List Byte)} {sig : Bool} (h : (s.enterStep 8).warmNor nor sig = (t, none)) :
    s.reloadWarm nor sig =
      (let u : State := { t.assign t.lease t.lse.shape with glb := { (t.assign t.lease t.lse.shape).glb with state := 1 } }
       let v := u.warmFinish u.pins.memTrained
       (v, v.glb.state != 2)) := by
  unfold State.reloadWarm
  rw [h]

/-- RELOAD ends with code 5 where the start is held again. -/
theorem heldCode (n : Nat) : (if (n != 2) = true then 0 else 5) = if n = 2 then 5 else 0 := by
  by_cases h : n = 2 <;> simp [h]

/-- Settles O51. -/
theorem coldStartCompletes : Obligations.ColdStartCompletes := by
  intro s
  refine ⟨rfl, fun i => ?release, ?trained, fun ha => ⟨fun h => ?_, fun h => ?_, fun h => ?_, fun h => ?_⟩, fun ap nor sig who => ⟨fun ha hap hb => ?reload, fun hr hap hb => ?foreign, fun hr hp hv hb => ?busy,
    fun hr hap => ?reserved⟩⟩
  case release =>
    dsimp only
    have hex {u : State} (h : porRelease i s = u) : exec (.porRelease i) s = .next u.settle := congrArg (fun u : State => Host.Outcome.next u.settle) h
    refine ⟨fun hp => hex (if_pos (by simp [hp])), fun hp ht => hex ((if_neg (by simp [hp])).trans (if_pos ht)), fun hp ht => ⟨fun hf => hex ?_, fun hf hq => hex ?_,
      fun hf hq => ⟨fun hk => hex ?_, fun hk he => hex ?_, fun hk he hl => hex ?_, fun hk he hl => hex ?_⟩⟩⟩
    all_goals refine (if_neg (by simp [hp])).trans ((if_neg (ne_true_of_eq_false ht)).trans ?_)
    · exact if_pos (by simp [hf])
    all_goals refine (if_neg (by simp [hf])).trans ?_
    · exact if_pos hq
    all_goals refine (if_neg (ne_true_of_eq_false hq)).trans ?_
    · exact if_pos (by simp [hk])
    all_goals refine (if_neg (by simp [hk])).trans ?_
    · exact if_pos (by simp [he])
    all_goals refine (if_neg (by simp [he])).trans ?_
    · exact if_neg hl
    · exact if_pos hl
  case foreign =>
    subst hap
    exact (next_given hr _).trans (congrArg (fun u : State => Host.Outcome.next u.settle) (State.lseCmd_debug hb _))
  case busy => exact (next_given hr _).trans (congrArg (fun u : State => Host.Outcome.next u.settle) (State.lseCmd_busy hp hv hb _))
  case reserved => exact (next_given hr _).trans (congrArg (fun u : State => Host.Outcome.next u.settle) (State.lseCmd_reserved hap _))
  case reload =>
    dsimp only
    have hex {u : State} (h : _ = u) : exec (.lseReload ap nor sig who) s = .next u.settle :=
      (next_lse ha hap _).trans (congrArg (fun u : State => Host.Outcome.next u.settle) ((State.lseCmd_taken hap hb _).trans h))
    refine ⟨fun h => hex (if_pos h), fun h hw => ⟨fun hn => hex ?_, fun b hn => ⟨fun hv => hex ?_, fun r hv => hex ?_⟩⟩, fun h hw => ⟨fun r hy => hex ?_, fun hy => hex ?_⟩⟩
    all_goals refine (if_neg (Classical.not_not.2 h)).trans ?_
    · subst hn
      rw [hw]
      rfl
    · subst hn
      rw [hw, if_neg Bool.false_ne_true, readStart_some, State.admitStart_admitted hv]
      rfl
    · subst hn
      rw [hw, if_neg Bool.false_ne_true, readStart_some, State.admitStart_refused hv]
      rfl
    · rw [hw, if_pos rfl, State.reloadWarm_refused (Prod.ext rfl hy)]
      rfl
    · rw [hw, if_pos rfl, State.reloadWarm_admitted (Prod.ext rfl hy)]
      exact congrArg (State.cmdEnd _ .lse _ 0) (heldCode _)
  case trained =>
    intro a t ready
    have hex {u : State} (h : a.startAdvance = u) : exec .memTrained s = .next u.settle := congrArg (fun u : State => Host.Outcome.next u.settle) h
    refine ⟨fun h => hex (if_pos h), fun h hr => hex ?_, fun h hr => hex ?_⟩
    · rw [State.startAdvance_trained (s := a) h rfl]
      exact if_pos hr
    · rw [State.startAdvance_trained (s := a) h rfl]
      exact if_neg hr
  · refine (next_live ha rfl _).trans (congrArg (fun u : State => Host.Outcome.next u.settle) (if_pos ?_))
    simpa using h
  · refine (next_live ha rfl _).trans (congrArg (fun u : State => Host.Outcome.next u.settle) (if_neg ?_))
    simpa using h
  · exact (next_live ha rfl _).trans (congrArg (fun u : State => Host.Outcome.next u.settle) (if_pos h))
  · exact (next_live ha rfl _).trans (congrArg (fun u : State => Host.Outcome.next u.settle) (if_neg h))

end Sys2Proof.Machine
end

section
/-!
PROOF. The warm start, and the package's power and clock events (15, 18): WarmStartCompletes.
-/

namespace Sys2Proof.Machine

/-- The pin of a quadrant that has one rises (18, R459). -/
theorem qpwrOkRise_quad {s : State} {q : Nat} (h1 : 1 ≤ q) (h3 : q ≤ 3) :
    qpwrOkRise q s =
      (let t : State := { s with pins := { s.pins with qpwrOk := s.pins.qpwrOk ||| ((1 : BitVec 4) <<< q) } }
       match s.lse.move with
       | some m => if s.alive ∧ unitQuad m.kind m.idx = q then (t.repower q).moveEnd m else t
       | none => t) := by
  unfold qpwrOkRise
  exact if_neg (by omega)

/-- Settles O52. -/
theorem warmStartCompletes : Obligations.WarmStartCompletes := by
  refine fun s => ⟨fun ha => ⟨?assert, fun hq hd => ?ready, fun h => ?notReady, fun i => ⟨fun h hl => ?starts, fun h hl => ?lost, fun h => ?idle⟩, fun long => ?monitor, next_live ha rfl clockRestored⟩,
    ⟨rfl, rfl⟩, fun q h1 h3 => ⟨fun hm => ?rise, fun m hm => ⟨fun hg => ?moved, fun hg => ?other⟩, fun h => ?gated, fun hg ha => ?fall⟩⟩
  case assert =>
    refine congrArg Host.Outcome.next ?_
    simp only [chipResetAssert, ha, true_and]
  case monitor =>
    refine (next_live ha rfl (clockMonitorFault long)).trans ?_
    simp only [clockMonitorFault, List.foldl_cons, List.foldl_nil]
  case ready => exact congrArg Host.Outcome.next ((State.live_of_alive ha rfl _).trans (if_pos ⟨hq, hd⟩))
  case notReady =>
    refine congrArg Host.Outcome.next ((State.live_of_alive ha rfl _).trans (if_neg fun hc => ?_))
    obtain h | h := h
    · exact ne_true_of_eq_false h hc.1
    · exact ne_true_of_eq_false h hc.2
  case starts => exact (next_live ha rfl _).trans (congrArg (fun u : State => Host.Outcome.next u.settle) ((if_pos h).trans (if_neg (ne_true_of_eq_false hl))))
  case lost => exact (next_live ha rfl _).trans (congrArg (fun u : State => Host.Outcome.next u.settle) ((if_pos h).trans (if_pos hl)))
  case idle => exact (next_live ha rfl _).trans (congrArg (fun u : State => Host.Outcome.next u.settle) (if_neg h))
  all_goals
    have hquad : isQuad q = true := decide_eq_true (by omega)
    have hex {f : State → State} {u : State} (h : f s = u) :
        (Host.Outcome.next (s.given (isQuad q) f).settle : Host.Outcome State Fault Refusal) = .next u.settle := by rw [State.given, if_pos hquad, h]
  case rise => exact hex ((qpwrOkRise_quad h1 h3).trans (by rw [hm]))
  case moved => exact hex ((qpwrOkRise_quad h1 h3).trans (by rw [hm]; exact if_pos hg))
  case other => exact hex ((qpwrOkRise_quad h1 h3).trans (by rw [hm]; exact if_neg hg))
  case gated => exact hex ((if_neg (by omega)).trans (if_pos (by simpa [State.gatedQuad] using h)))
  case fall => exact hex ((if_neg (by omega)).trans (if_neg (by simp [State.gatedQuad, hg, ha])))

end Sys2Proof.Machine
end

section
/-!
PROOF. Shift orders and MOVE (15): OrdersAndMovesComplete.
-/

namespace Sys2Proof.Machine

/-- What an order that is due and first does (15, R412, R417). -/
theorem shiftOrderDue_due {s : State} {k : Nat} (hd : s.orderDue (s.order k) = true ∧ s.orderNext k = true) :
    shiftOrderDue k s =
      (let o := s.order k
       let t := if o.basis then s else s.reach o.time
       let now := if o.basis then t.stepValue o.part else t.clk.shift.toNat
       if o.state = 2 ∧ t.orderBusy o then
         if o.rep then ((t.logged 0x9031 o.part (.unit .order k 0)).lateOrder).setOrder k (o.advance now) else t
       else
         let u := t.orderAct k o
         let v := u.setOrder k { o.advance now with state := if u.orderBusy o then 2 else if o.rep then 1 else 3 }
         if 1 ≤ o.part ∧ o.part ≤ 6 ∧ v.hst.power.getD (o.part * 32) 0 ≠ 0 then v.pme o.part 1 else v) := by
  unfold shiftOrderDue
  exact if_neg (by simp [hd.1, hd.2])

/-- What MOVE from the Lamp does in RUN (15, R418). -/
theorem lseMove_lamp {s : State} (h : s.Takes .lse .lamp) :
    lseMove .lamp s =
      (let w := s.arg .lse 7 0x18
       let m : MoveReq := {
         kind := (w.extractLsb' 8 2).toNat, idx := (w.extractLsb' 0 5).toNat, owner := (w.extractLsb' 12 3).toNat
         xfer := (s.arg .lse 7 0x1C).getLsbD 0 }
       if kindUnits m.kind ≤ m.idx ∨ !s.defined m.owner ∨ s.ownerOf m.kind m.idx = m.owner then s.cmdEnd .lse 7 0 4
       else if !(s.moveMask m.kind m.idx).testBit (m.owner - 1) then s.cmdEnd .lse 7 0 3
       else match admitLease (s.movedLease m) (s.admitEnv true (s.fuse.authOf 3)) with
         | some r => (s.showRefusal r).cmdEnd .lse 7 0 5
         | none =>
           let q := unitQuad m.kind m.idx
           if s.gatedQuad q then
             let t := { s with pins := { s.pins with qpwrOff := s.pins.qpwrOff &&& ~~~((1 : BitVec 4) <<< q) } }
             if t.pins.qpwrOk.getLsbD q then (t.repower q).moveEnd m
             else { t with lse := { t.lse with move := some m } }.cmdBusy .lse 7 0
           else s.moveEnd m) := by
  unfold lseMove
  exact (State.lseCmd_taken (Or.inr rfl) h.idle _).trans (if_neg (by simp [apIdx, h.1.2.1]))

theorem move_unnamed {units idx owner now : Nat} {defined : Bool} :
    (units ≤ idx ∨ (!defined) = true ∨ now = owner) ↔ ¬ (idx < units ∧ defined = true ∧ now ≠ owner) := by
  simp only [Bool.not_eq_true', Classical.not_and_iff_not_or_not, Nat.not_lt, Bool.not_eq_true, Classical.not_not]

/-- Settles O53. -/
theorem ordersAndMovesComplete : Obligations.OrdersAndMovesComplete := by
  refine fun s => ⟨fun k ha hk => ?orders, fun ap => ⟨fun hr hb hap => ?foreign, fun hr hp hv hb => ?busy, fun hr hap => ?reserved, fun ha hrun hap hb => ?early, fun ht hap => ?taken⟩⟩
  case orders =>
    have hok : isOrder k = true := decide_eq_true hk
    have hlive {u : State} (h : shiftOrderDue k s = u) : exec (.shiftOrderDue k) s = .next u.settle :=
      (next_live ha hok _).trans (congrArg (fun u : State => Host.Outcome.next u.settle) h)
    dsimp only
    refine ⟨fun h => hlive (if_pos ?_), fun h hr hp => hlive ((shiftOrderDue_due h).trans ?_), fun h hr hp => hlive ((shiftOrderDue_due h).trans ?_),
      fun h hr => hlive ((shiftOrderDue_due h).trans ?_), fun h2 hs hv => ?_⟩
    · simpa [Decidable.imp_iff_not_or] using h
    · exact (if_pos hr).trans (if_pos hp)
    · exact (if_pos hr).trans (if_neg (ne_true_of_eq_false hp))
    · exact if_neg hr
    · exact (next_live ha hok _).trans (congrArg (fun u : State => Host.Outcome.next u.settle) (if_pos ⟨h2, hs, hv⟩))
  case foreign =>
    obtain rfl | rfl := hap
    · exact (next_given hr _).trans (congrArg (fun u : State => Host.Outcome.next u.settle) ((State.lseCmd_taken (Or.inl rfl) hb _).trans (if_pos (Or.inl (by decide)))))
    · exact (next_given hr _).trans (congrArg (fun u : State => Host.Outcome.next u.settle) (State.lseCmd_debug hb _))
  case busy => exact (next_given hr _).trans (congrArg (fun u : State => Host.Outcome.next u.settle) (State.lseCmd_busy hp hv hb _))
  case reserved => exact (next_given hr _).trans (congrArg (fun u : State => Host.Outcome.next u.settle) (State.lseCmd_reserved hap _))
  case early =>
    subst hap
    exact (next_lse ha (Or.inr rfl) _).trans (congrArg (fun u : State => Host.Outcome.next u.settle)
      ((State.lseCmd_taken (Or.inr rfl) hb _).trans (if_pos (Or.inr (by simp [hrun])))))
  case taken =>
    subst hap
    have hex : exec (.lseMove .lamp) s = _ := (next_lse ht.1.1 (Or.inr rfl) (lseMove .lamp)).trans (congrArg (fun u : State => Host.Outcome.next u.settle) (lseMove_lamp ht))
    simp only [move_unnamed] at hex
    dsimp only [apIdx]
    refine ⟨fun h => hex.trans ?_, fun h hm => hex.trans ?_, fun r hm hv => hex.trans ?_, fun hm hv hq => hex.trans ?_, fun hm hv hq hp => hex.trans ?_,
      fun hm hv hq hp => hex.trans ?_⟩
    · rw [if_pos h]
    · rw [if_neg (Classical.not_not.2 h), if_pos (by simpa only [Bool.not_eq_true'] using hm)]
    all_goals rw [if_neg (Classical.not_not.2 hm.1), if_neg (by simpa only [Bool.not_eq_true', Bool.not_eq_false] using hm.2), hv]
    · exact congrArg (fun u : State => Host.Outcome.next u.settle) (if_neg (ne_true_of_eq_false hq))
    · exact congrArg (fun u : State => Host.Outcome.next u.settle) ((if_pos hq).trans (if_pos hp))
    · exact congrArg (fun u : State => Host.Outcome.next u.settle) ((if_pos hq).trans (if_neg (ne_true_of_eq_false hp)))

end Sys2Proof.Machine
end

section
/-!
PROOF. Canaries and the watchdog (16): CanariesComplete.
-/

namespace Sys2Proof.Machine

/-- A register that answers in every state of a live block is the function behind its gate, unless it is denied. -/
theorem State.atReg_early {s : State} (ha : s.alive = true) {ap : Aperture} (hap : ap = .operator ∨ ap = .lamp ∨ ap = .debug) {pl : Place} (hpl : pl.early = true)
    (o : Nat) (f : State → State) : s.atReg ap pl o f = if s.denies ap pl o true then s.deny else f s := by
  obtain ⟨⟨hp, hl⟩, ht⟩ : (s.pins.por = false ∧ s.fuse.lifecycle ≠ 5) ∧ s.pins.tamper = false := by simpa [State.alive] using ha
  obtain rfl | rfl | rfl := hap <;> simp [State.atReg, State.tlpRefused, aperturePart, State.responds, hp, hl, ht, hpl]

/-- The suspect that is replayed is one of them, which one being free (log 54). -/
theorem suspect_mem (l : List (BitVec 16)) (n : Nat) (h : l ≠ []) : l.getD (n % l.length) 0 ∈ l := by
  have hlt : n % l.length < l.length := Nat.mod_lt _ (List.length_pos_iff.2 h)
  rw [List.getD_eq_getElem?_getD, List.getElem?_eq_getElem hlt, Option.getD_some]
  exact List.getElem_mem hlt

/-- Settles O54. -/
theorem canariesComplete : Obligations.CanariesComplete := by
  intro s ha
  have hlive {ok : Bool} (hok : ok = true) {f : State → State} {u : State} (h : f s = u) :
      (Host.Outcome.next (s.live ok f).settle : Host.Outcome State Fault Refusal) = .next u.settle := by rw [next_live ha hok f, h]
  dsimp only
  refine ⟨fun q r c hq hc => ?front, fun c a r hc hact hr hp => ?channel, fun n hn hb hk => ?task, fun u hu => ⟨fun h => ?stuck, fun h => ?moving⟩,
    fun u e hu he => ⟨fun h => ?replay, fun h => ?none_⟩, fun h => hlive rfl (if_pos h), fun h => hlive rfl (if_neg (ne_true_of_eq_false h)), ?kick, fun ap hap => ?denied, fun ap hr hap => ?reserved⟩
  case front =>
    refine ⟨fun h => hlive rfl ?_, fun h => hlive rfl ?_⟩ <;> simp only [waitCanaryExpire, hq, hc]
    · exact if_pos h
    · exact if_neg h
  case channel =>
    have hok : isHead (.channel c) = true := decide_eq_true hc
    refine ⟨fun h => hlive hok ?_, fun h => hlive hok ?_⟩ <;> simp only [waitCanaryExpire, hact, hr]
    · exact if_pos ⟨hp, h⟩
    · exact if_neg fun hc => h hc.2
  case task =>
    have hok : isHead (.task n) = true := decide_eq_true hn
    exact ⟨fun h => hlive hok (if_pos ⟨hb, hk, h⟩), fun h => hlive hok (if_neg fun hc => h hc.2.2)⟩
  case stuck => exact hlive (isUnit_of_unitExists hu) (if_pos (by simp [h]))
  case moving => exact hlive (isUnit_of_unitExists hu) (if_neg (by simpa using h))
  case replay =>
    refine ⟨_, suspect_mem e.suspects (Config.freeNat s.fresh) h.2, hlive (isUnit_of_unitExists hu) ?_⟩
    simp only [replayCanaryExpire, he]
    exact if_neg (by simp [h])
  case none_ =>
    refine hlive (isUnit_of_unitExists hu) ?_
    simp only [replayCanaryExpire, he]
    exact if_pos (by simpa [Decidable.imp_iff_not_or] using h)
  case kick =>
    refine congrArg Host.Outcome.next ?_
    rw [State.given, if_pos (show apOk .lamp = true from rfl), State.atReg_early ha (Or.inr (Or.inl rfl)) rfl, if_neg (by simp [State.denies, Place.readOnly, Place.argMask, Place.notDebug])]
    rfl
  case denied =>
    have hok : apOk ap = true := by obtain rfl | rfl := hap <;> rfl
    have hden : s.denies ap .flt 0x24 true = true := by obtain rfl | rfl := hap <;> simp [State.denies, viewOf]
    refine congrArg Host.Outcome.next ?_
    rw [State.given, if_pos hok, State.atReg_early ha (hap.imp_right Or.inr) rfl, if_pos hden]
    rfl
  case reserved =>
    refine congrArg Host.Outcome.next ((hr.given _).trans ((hr.atReg _).trans ?_))
    obtain ⟨p, rfl⟩ | ⟨p, v, rfl⟩ := hap <;> rfl

end Sys2Proof.Machine
end

section
/-!
PROOF. The escalation ladder (16): LadderCompletes.
-/

namespace Sys2Proof.Machine

/-! ### FLT_CMD -/

theorem State.fltCmd_taken {s : State} {ap : Aperture} (hap : ap = .operator ∨ ap = .lamp ∨ ∃ p, ap = .part p) (h : (s.inst .flt (apIdx ap)).busy = false)
    (f : Nat → State → State) : s.fltCmd ap f = f (apIdx ap) s := by
  obtain rfl | rfl | ⟨p, rfl⟩ := hap <;> dsimp only [apIdx] at h ⊢ <;> simp only [State.fltCmd, State.command_idle h]

theorem State.fltCmd_debug {s : State} (h : (s.inst .flt 8).busy = false) (f : Nat → State → State) : s.fltCmd .debug f = s.cmdEnd .flt 8 0 2 := by
  simp only [State.fltCmd, State.command_idle h]

theorem State.fltCmd_busy {s : State} {ap : Aperture} (hap : ∀ q v, ap ≠ .vf q v) (h : (s.inst .flt (apIdx ap)).busy = true) (f : Nat → State → State) :
    s.fltCmd ap f = s.modInst .flt (apIdx ap) fun i => { i with code := 1 } := by
  cases ap with
  | vf q v => exact absurd rfl (hap q v)
  | _ => dsimp only [apIdx, State.fltCmd] at h ⊢; rw [State.command_busy h]

/-- What a command of the ladder does where it reaches its register, once what `fltCmd` makes of its function is known. -/
theorem fltCommands_reach {s t : State} {ap : Aperture} {u : UnitRef} {p : Nat} {c : Instr}
    (hc : c ∈ [.fltEngine ap u, .fltPartition ap p, .fltChip ap, .fltTray ap]) (hr : s.Reaches ap .flt 0) (ht : ∀ f, s.fltCmd ap f = t) :
    exec c s = .next t.settle := by
  simp only [List.mem_cons, List.not_mem_nil, or_false] at hc
  obtain rfl | rfl | rfl | rfl := hc <;> exact (next_given hr _).trans (congrArg (fun u : State => Host.Outcome.next u.settle) (ht _))

theorem apIdx_lamp_iff {ap : Aperture} (hok : apOk ap = true) (hap : ap = .operator ∨ ap = .lamp ∨ ∃ p, ap = .part p) : apIdx ap = 7 ↔ ap = .lamp := by
  obtain rfl | rfl | ⟨p, rfl⟩ := hap
  · simp [apIdx]
  · simp [apIdx]
  · have hp : 1 ≤ p ∧ p ≤ 6 := by simpa [apOk, isPart] using hok
    simp only [apIdx, reduceCtorEq, iff_false]
    omega

/-- Who may not start a step: neither the operator nor the Lamp nor the partition itself. -/
theorem mine_iff {a p : Nat} : ¬ (a = 0 ∨ a = 7 ∨ a = p) ↔ a ≠ 0 ∧ a ≠ 7 ∧ a ≠ p := by
  simp only [not_or, ne_eq]

/-! ### Steps -/

theorem find_partStep {s : State} {p : Nat} (h : s.inPartStep p = false) : s.flt.parts.find? (·.part == p) = none := by
  simpa [State.inPartStep] using h

/-- Settles O55. -/
theorem ladderCompletes : Obligations.LadderCompletes := by
  intro s
  have hlive (ha : s.alive = true) {ok : Bool} (hok : ok = true) {f : State → State} {u : State} (h : f s = u) :
      (Host.Outcome.next (s.live ok f).settle : Host.Outcome State Fault Refusal) = .next u.settle := by rw [next_live ha hok f, h]
  dsimp only
  refine ⟨fun u e ha hu he => ?engine, fun p ha h1 h6 => ?partition, fun ha => ⟨fun h => hlive ha rfl (if_pos h), fun h => hlive ha rfl (if_neg (ne_true_of_eq_false h))⟩,
    fun ap htk hap => ?taken, fun ap u p c hc hr => ⟨fun hap hb => ?foreign, fun hap hb => fltCommands_reach hc hr (State.fltCmd_busy hap hb), fun q v hap => ?reserved⟩⟩
  case foreign =>
    subst hap
    exact fltCommands_reach hc hr (State.fltCmd_debug hb)
  case reserved =>
    subst hap
    exact fltCommands_reach hc hr fun _ => rfl
  case engine =>
    have hok := isUnit_of_unitExists hu
    refine ⟨fun h => hlive ha hok ?_, fun h => hlive ha hok ?_, fun h => hlive ha hok ?_, fun h => hlive ha hok ?_⟩
    · simp only [engineStepDone, he]
      rw [if_pos h]
      rfl
    · simp only [engineStepDone, he]
      rw [if_neg h]
      rfl
    · simp only [engineStepOverrun, he]
      exact if_pos h
    · simp only [engineStepOverrun, he]
      exact if_neg h
  case partition =>
    have hok : isPart p = true := isPart_of_range h1 h6
    refine ⟨fun e he => ⟨fun h => hlive ha hok ?_, fun h => hlive ha hok ?_⟩, fun h => hlive ha hok (if_pos h), fun h => ⟨hlive ha hok ?_, hlive ha hok (if_neg (ne_true_of_eq_false h))⟩⟩
    · simp only [partitionStepDone, he]
      exact if_neg (by simp [h])
    · simp only [partitionStepDone, he]
      exact if_pos (by simpa [Decidable.imp_iff_not_or] using h)
    · simp only [partitionStepDone, find_partStep h]
  case taken =>
    have hnd : ap ≠ .debug := by obtain rfl | rfl | ⟨p, rfl⟩ := hap <;> simp
    have hreach := htk.reaches hnd .flt
    have hlamp := apIdx_lamp_iff htk.2.1 hap
    have hgive {g : State → State} {f : Nat → State → State} {u : State} (hg : g s = s.fltCmd ap f) (h : f (apIdx ap) s = u) :=
      (next_given hreach g).trans (congrArg (fun u : State => Host.Outcome.next u.settle) (hg.trans ((State.fltCmd_taken hap htk.idle f).trans h)))
    have hengine {u : UnitRef} {t : State} (h : _ = t) : exec (.fltEngine ap u) s = .next t.settle := hgive rfl h
    have hpart {p : Nat} {t : State} (h : _ = t) : exec (.fltPartition ap p) s = .next t.settle := hgive rfl h
    have hchip {t : State} (h : _ = t) : exec (.fltChip ap) s = .next t.settle := hgive rfl h
    have htray {t : State} (h : _ = t) : exec (.fltTray ap) s = .next t.settle := hgive rfl h
    refine ⟨fun u => ⟨fun hu => hengine ?_, fun hu hm => hengine ?_, fun hu hm hr => hengine ?_, fun hu hm hr => hengine ?_⟩,
      fun p => ⟨fun hm => hpart ?_, fun hm hd => hpart ?_, fun hm hd hr => hpart ?_, fun hm hd hr => hpart ?_⟩,
      fun h => ⟨hchip (if_pos (mt hlamp.1 h)), htray (if_pos (mt hlamp.1 h))⟩, fun h hf => hchip ?_, fun h hf => hchip ?_, fun h => htray ?_⟩
    · exact if_pos (by simp [hu])
    · exact (if_neg (by simp [hu])).trans (if_pos (mine_iff.1 hm))
    · exact (if_neg (by simp [hu])).trans ((if_neg fun h => mine_iff.2 h hm).trans (if_pos hr))
    · exact (if_neg (by simp [hu])).trans ((if_neg fun h => mine_iff.2 h hm).trans (if_neg hr))
    · exact if_pos (mine_iff.1 hm)
    · exact (if_neg fun h => mine_iff.2 h hm).trans (if_pos (by simp [hd]))
    · exact (if_neg fun h => mine_iff.2 h hm).trans ((if_neg (by simp [hd])).trans (if_pos hr))
    · exact (if_neg fun h => mine_iff.2 h hm).trans ((if_neg (by simp [hd])).trans (if_neg (ne_true_of_eq_false hr)))
    all_goals
      subst h
      refine (if_neg (Classical.not_not.2 rfl)).trans ?_
    · exact if_pos hf
    · exact if_neg (ne_true_of_eq_false hf)
    · rfl

end Sys2Proof.Machine
end

section
/-!
PROOF. Observation (17): with the strap that shuts the debug port, a write of OBS_CMD from there is denied (R41, State.denies), while FreezeCompletes and
PeekCompletes have every command that the debug port's instance takes act. Both fail there.
-/

namespace Sys2Proof.Machine

/-- A block in RUN, right after reset but for its state, with the strap that shuts the debug port. -/
def debugShutState : State :=
  { State.reset with
    pins := { State.reset.pins with por := false, strap := 1 }
    glb := { State.reset.glb with state := 3 } }

theorem debugShutState_takes : debugShutState.Takes .obs .debug := ⟨⟨rfl, rfl, rfl⟩, rfl, rfl, rfl⟩

/-- Where the debug port is shut, its write of a register is denied and does nothing else. -/
theorem State.atReg_debugShut {s : State} (h : s.Ready) (hd : s.debugShut = true) (ht : s.tlpRefused .debug = false) (pl : Place) (o : Nat) (f : State → State) :
    s.atReg .debug pl o f = s.deny := by
  rw [h.atReg _ _ _ _ ht, if_pos (by simp [State.denies, hd])]

/-- What a command of the shut debug port leaves: one more denied access. -/
theorem debugShutState_denied (f : State → State) :
    (debugShutState.given (apOk .debug) fun s => s.atReg .debug .obs 0 f) = debugShutState.deny :=
  State.atReg_debugShut debugShutState_takes.1 rfl rfl .obs 0 f

/-- A state that counts no denied access is not what the shut debug port's command leaves. -/
theorem not_denied {t : State} (ht : t.glb.denied = 0) : (Host.Outcome.next debugShutState.deny : Host.Outcome State Fault Refusal) ≠ .next t := by
  intro h
  have hd : debugShutState.deny.glb.denied = t.glb.denied := congrArg (fun t : State => t.glb.denied) (Host.Outcome.next.inj h)
  rw [ht] at hd
  exact absurd hd (by decide)

/-- Refutes O56: RELEASE from the debug port is denied where the strap shuts the port, though its instance takes it. -/
theorem not_freezeCompletes : ¬ Obligations.FreezeCompletes := by
  intro h
  obtain ⟨hcommands, -⟩ := h debugShutState
  obtain ⟨hacts, -⟩ := hcommands .debug false debugShutState_takes
  obtain ⟨-, -, -, -, hrelease⟩ := hacts (Or.inr (Or.inr rfl))
  exact not_denied rfl ((congrArg Host.Outcome.next (debugShutState_denied (obsRelease .debug))).symm.trans hrelease)

/-- Refutes O57: a peek of line 0 from the debug port is denied where the strap shuts the port, and nothing is asked for. -/
theorem not_peekCompletes : ¬ Obligations.PeekCompletes := by
  intro h
  obtain ⟨hcommands, -⟩ := h debugShutState
  obtain ⟨-, -, hasks, -⟩ := hcommands .debug debugShutState_takes (Or.inr (Or.inr (Or.inl rfl)))
  have hread := hasks (by simp) rfl rfl
  exact not_denied rfl ((congrArg Host.Outcome.next (debugShutState_denied (obsPeek .debug))).symm.trans hread)

end Sys2Proof.Machine
end
